-- ==== Sys2Proof/Word.lean ====
section
/-! DEFINITION. The word types of the hub and its plainest arithmetic. -/

namespace Sys2Proof

/-- A byte of memory. -/
abbrev Byte := BitVec 8
/-- The 64-bit unit of the scalar path (R74), of synchronization objects (R380) and of most registers. -/
abbrev Word := BitVec 64

/-- A sparse table in one canonical form: keys strictly rising. -/
abbrev AMap (α : Type) := List (Nat × α)

end Sys2Proof
end

