-- ==== Sys2Proof/Syntax.lean ====
section
/-! DEFINITION. The commands of the block, one per row of the command table, with their operands. The
operands of a command are what its sender supplies; an outcome that the hub's surroundings decide (an
error found in a stack, a verdict on a signature, a temperature) is an operand too (notes/assumptions/7.md). -/

namespace Sys2Proof

/-- The 12-bit label of a request (R13): partition, context, class. -/
structure Label where
  ptn : Nat
  ctx : Nat
  cls : Nat
  deriving DecidableEq, Repr

/-- A place where requests enter and are translated (R247): a site station, a tile, the host station,
a scale-out port's station, a collective engine, or the hub itself. -/
inductive Entry where
  | site (k : Nat)
  | tile (t : Nat)
  | host
  | sox (e : Nat)
  | engine (c : Nat)
  | hub
  deriving DecidableEq, Repr

/-- Who asks for an operation on a synchronization object (R384): its entry point, its label and the
tag by which the answer finds it (TAG at a site, strand at a tile, slot in the host's window). -/
structure SyncSrc where
  entry : Entry
  lab : Label
  tag : Nat
  deriving DecidableEq, Repr

/-- The roles of the dictionary (R3). -/
inductive Role where
  | vendor | integrator | operator | security | tenant
  deriving DecidableEq, Repr

/-- The kinds of declared work (R54), each with what it names. -/
inductive DeclKind where
  /-- Tile work of the descriptor at ring index `idx` of queue `q`. -/
  | tileWork (q idx : Nat)
  | switch (ctx : Nat)
  | step (group : Nat) (cross : Bool)
  | snapshot (cross : Bool)
  | migration (gran : Nat)
  | thermal
  deriving DecidableEq, Repr

/-- A declaration (R52): its kind, its partition (none: the hub) and context, the target beat (none: "next"),
the late policy (DEFER or REFUSE) and, for tile work, the overrun action (ABORT or CONTINUE). -/
structure Declaration where
  kind : DeclKind
  ptn : Option Nat
  ctx : Nat
  target : Option (BitVec 48)
  defer : Bool
  abort : Bool
  deriving DecidableEq, Repr

/-- A request that waits at a resource and is eligible there (R66, R199, R219): its number, its partition (none: the
hub's own work), its class, and the home agent it is for. Lists of these are in arrival order. -/
structure Cand where
  res : Nat
  id : Nat
  ptn : Option Nat
  cls : Nat
  home : Nat
  /-- An answer or a retry that waits for a slot (R176, R203). -/
  ans : Bool := false
  deriving DecidableEq, Repr

/-- An error that an access meets in a tile memory (R97): a single-bit error, which is corrected, or an uncorrectable one, in the
configuration store, in strand state or in the scratchpad. -/
inductive TileErr where
  | clean | cfgCe | cfgUe | stateCe | stateUe | sramCe | sramUe
  deriving DecidableEq, Repr

/-- The four networks (R164). -/
inductive Net where
  | req | snp | rsp | dat
  deriving DecidableEq, Repr

/-- A flit (R164–R166): its network, its 48-bit route tag, its payload, its parity bits and, on DAT, the 8 check
bytes. The partition is what the injector knows of it (R183). -/
structure Flit where
  net : Net
  tag : BitVec 48
  payload : BitVec 1024
  parity : Nat
  check : List Byte
  ptn : Option Nat
  deriving DecidableEq, Repr

/-- A request at a home agent (R166, R320): the requester's tracker number, where it entered, its label and key
generation, its HPA and PPA granule, its stored extent in bytes, and the fields of its BODY. -/
structure HomeReq where
  id : Nat
  entry : Entry
  lab : Label
  kgen : Nat
  hpa : Nat
  pgran : Nat
  len : Nat
  agent : Nat
  fmt : Nat
  opx : Nat
  obj : Nat
  data : List Byte
  /-- Bit i: sector i of the data is poisoned. -/
  poison : Nat
  deriving DecidableEq, Repr

/-- What the check of a read from a stack finds in sector `i` of what was read (R231). -/
inductive ReadErr where
  /-- One symbol in error, corrected (ECC mode). -/
  | corrected (i : Nat)
  /-- More than the code corrects, a failing byte 7, or an error that on-die ECC reports. -/
  | uncorrectable (i : Nat)
  /-- MAC mismatch with byte 7 clean. -/
  | macFail (i : Nat)
  deriving DecidableEq, Repr

/-- Channels of a network (R165). -/
inductive Chan where
  | sch | sys | shr
  deriving DecidableEq, Repr


/-- How a step of a chiplet's attestation ends (R290, R291): the answer verifies, with the algorithm pair, the digest of the
certificate chain and that of the measurement record as far as the step gives them; SPDM or a version or algorithm in
common is missing; or a chain, a signature or a nonce fails. -/
inductive SpdmResult where
  | ok (alg chain meas : Nat)
  | unsupported
  | bad
  deriving DecidableEq, Repr

/-- The CXL messages that a station translates (R321). A snoop response names the snoop's identifier, the new state and
whether data comes with it. -/
inductive CxlMsg where
  | rdShared | rdOwn | rdCurr | rdOwnNoData
  | cleanEvict | cleanEvictNoData | dirtyEvict
  | wrCur | itoMWr | wowrInv
  | snoopRsp (st : Nat) (hasData : Bool)
  | memRd | memWr | memWrPtl
  | ioRead | ioWrite
  deriving DecidableEq, Repr


/-- An SFT frame as it arrives at a port (R357, R358). `format` says that the FCS holds and the frame is of the configured
encapsulation, `tagOk` that its authentication tag (of a HELLO: its signatures) verifies, `ce` that it carries a CE mark that
calls for a CNP. -/
structure Frame where
  port : Nat
  format : Bool
  ver : Nat
  type : Nat
  eom : Bool
  kgen : Nat
  srcPkg : Nat
  dstPkg : Nat
  srcPtn : Nat
  dstPtn : Nat
  ctx : Nat
  cls : Nat
  conn : Nat
  psn : Nat
  ext : Nat
  payload : List Byte
  tagOk : Bool
  ce : Bool
  deriving DecidableEq, Repr


/-- Requests of SPDM that a responder supports (R445); a request with a nonce is signed over. Any other is `other`. -/
inductive SpdmReq where
  | getVersion | getCapabilities | negotiateAlgorithms | getDigests
  | getCertificate (slot : Nat)
  | challenge (nonce : Nat)
  /-- 0 asks for the number of blocks, 0xFF for all of them. -/
  | getMeasurements (index nonce : Nat)
  | other (code : Nat)
  deriving DecidableEq, Repr

/-- A transition record or token (R459): its 10,848 bytes, and what the check of its signer blocks finds: the digests of their
public keys, and whether both signatures of each verify. -/
structure LcRecord where
  bytes : List Byte
  root1 : Nat
  root2 : Nat
  sig1 : Bool
  sig2 : Bool
  deriving DecidableEq, Repr

/-- How the writing of fuses and flash goes (R462): the read-back of the transition slot, the enrolment of the PUF, and the
number of fuse bits that are burned and pass their check. -/
structure Burn where
  flashOk : Bool
  pufOk : Bool
  bits : Nat
  deriving DecidableEq, Repr

/-- The topology slot as step 4 reads it (R529): its 5,808 bytes, the digest of the two public keys in it, and whether both
signatures verify. -/
structure TopoRecord where
  bytes : List Byte
  root : Nat
  sigOk : Bool
  deriving DecidableEq, Repr

/-- What a start finds at a site: its modules populated and disabled, their run maps, the rate trained (none: no group), the groups
that do not train, the chiplet's CAP message, and how its attestation ends, with the algorithm pair and digests. -/
structure SiteFound where
  populated : Nat
  disabled : Nat
  maps : List Nat
  rate : Option Nat
  down : Nat
  cap : Nat
  attest : Nat
  alg : Nat
  chain : Nat
  meas : Nat
  deriving DecidableEq, Repr

/-- What the training of a stack gives, as HBM_TRAIN_RESULT codes it, and its first temperature in °C (R241). -/
structure StackFound where
  result : Nat
  lanes : Nat
  pch : Nat
  temp : Int
  deriving DecidableEq, Repr

/-- What BIST gives for a block (R578, R579): its signatures, of the first failing instance or of instance 0. -/
structure BlockFound where
  block : Nat
  lbist : Nat
  mbist : Nat
  deriving DecidableEq, Repr

/-- What a start finds (R522–R534). -/
structure Findings where
  /-- The OTP passes its margin check. -/
  otpOk : Bool
  /-- The self-tests pass; the SE and the controller firmware verify; their digests and versions. -/
  selftest : Bool
  seOk : Bool
  ctlOk : Bool
  seFw : Nat
  ctlFw : Nat
  seVersion : Nat
  ctlVersion : Nat
  blocks : List BlockFound
  /-- Tile cores that fail, and rows whose spare core fails. -/
  tiles : List Nat
  spares : List Nat
  sites : List SiteFound
  stackFinds : List StackFound
  /-- What each port trains to, as SOX_PORT_STATE codes it: 0 nothing, 2 800 Gb/s, 3 400 Gb/s. -/
  ports : List Nat
  /-- The role-key block verifies under its HMAC. -/
  roleOk : Bool
  /-- The record store is readable and consistent. -/
  storeOk : Bool
  topo : Option TopoRecord
  deriving DecidableEq, Repr

/-- The inputs of the module slot (R489). -/
inductive SlotPin where
  | prsnt | attn | pg1 | pg2
  deriving DecidableEq, Repr

/-- Where a dictionary frame enters (R502): the mailbox of PF0 or of a VF, the management port, MCTP, or the management channel of a
scale-out port with the sending package. -/
inductive DictEp where
  | pf0
  | vf (p : Nat)
  | mgmt
  | mctp
  | sox (port pkg : Nat)
  deriving DecidableEq, Repr

/-- An item of a request (R500): index, sub-index and value. `aux` is what the hub's surroundings decide in the course of a write that
starts an operation, as the entry's own command takes it: a verdict on a signature, a rate that trains. -/
structure DictItem where
  index : Nat
  sub : Nat
  value : List Byte
  aux : List Nat
  deriving DecidableEq, Repr

/-- A request frame (R499): its transport, SESSION (0 anonymous), SEQ, whether its tag verifies, the tag, whether VER, COUNT and LEN
are as R501 wants them, and its items. -/
structure DictReq where
  ep : DictEp
  session : Nat
  seq : Nat
  tagOk : Bool
  tag : Nat
  formOk : Bool
  items : List DictItem
  deriving DecidableEq, Repr

/-- A SESSION_OPEN body (R504): role, partition, and the digest of the role's two public keys. -/
structure OpenReq where
  ep : DictEp
  role : Nat
  ptn : Nat
  root : Nat
  deriving DecidableEq, Repr

/-- A register of configuration space (R473, R475, R489, R538). -/
inductive CfgReg where
  /-- Vendor ID and Device ID; the device serial number. -/
  | ids
  | serial
  /-- VF Enable of SR-IOV. -/
  | vfEnable
  /-- The function mask of MSI-X. -/
  | fnMask
  /-- The register of the module slot. -/
  | slot
  /-- Command register, bus number, and BAR words. -/
  | command
  | bus
  | bar (i : Nat)
  /-- Any other register of PCI Express, by its offset. -/
  | other (off : Nat)
  deriving DecidableEq, Repr

/-- A write to an entry or register without a row of its own (R17): a dictionary entry as one item of a role's session, or a write of
`n` bytes at an offset of PF0 BAR0 or of a VF's BAR0. -/
inductive RegWrite where
  | entry (role : Role) (ptn index sub : Nat) (value : List Byte)
  | pf0 (off n v : Nat)
  | vf (p off n v : Nat)
  deriving DecidableEq, Repr

/-- A chiplet's answer to a snoop that brings a line's data, by the line's PPA (R335). -/
structure SnoopedLine where
  ppa : Nat
  data : List Byte
  deriving DecidableEq, Repr
/-- The commands of the block: one constructor per row of the command table. -/
inductive Instr where
  /-- `BEAT_EDGE` (R57). At the end of the last round of a beat the beat number increments, completions are latched and shadow tables and BEAT-class items apply. -/
  | beatEdge (offset : Option Int) (draw : Nat)
  /-- `CUTOFF` (R57). One round before an edge admission for the coming beat closes and the last temperature readings of the beat are taken. -/
  | cutoff (temps : List (Option Int)) (sensors : List (Option Int))
  /-- `BEAT_HOLDOVER_EXPIRY` (R46). BEAT_HOLDOVER elapses in HOLDOVER and the alignment state becomes LOST. -/
  | beatHoldoverExpiry
  /-- `PTP_SYNC_LAPSE` (R46). Four consecutive expected PTP sync intervals pass without a Sync on any enabled port. -/
  | ptpSyncLapse
  /-- `PPS_PULSE_MISSED` (R46). An expected 1 PPS input pulse does not arrive. -/
  | ppsPulseMissed
  /-- `PPS_IN_EDGE` (R50). A rising edge of PPS_IN marks a whole second of PTP time for alignment. -/
  | ppsInEdge
  /-- `PPS_OUT_PULSE` (R50). At each whole second of the hub's disciplined time the 1 PPS output pulses while LOCKED or HOLDOVER. -/
  | ppsOutPulse
  /-- `DECLARE` (R52). A declaration of work for a target beat is received and held, refused FULL, or marked late. -/
  | declare (d : Declaration)
  /-- `ITEM_COMPLETION` (R55). The completion of an admitted item reaches Woodpecker. -/
  | itemCompletion (id : Nat)
  /-- `SLOT_BEGIN` (R203). At the first cycle of a table slot the owner is served or the idle slot is lent under the lending order. -/
  | slotBegin (res : Nat) (slot : Nat) (cands : List Cand)
  /-- `SYS_WINDOW` (R193). The SYS window of a round serves class SYS requests at home agents, links and injectors. -/
  | sysWindow (cands : List Cand)
  /-- `REFRESH_ROUND` (R224). In each round the home agent issues per-bank refresh to the banks scheduled by the round count and refresh rate. -/
  | refreshRound (h : Nat)
  /-- `NOP` (R81). A NOP stage does nothing. -/
  | nop (t : Nat) (n : Nat) (e : TileErr)
  /-- `SCALAR_ADD` (R82). Adds two 64-bit values. -/
  | scalarAdd (t : Nat) (n : Nat) (e : TileErr)
  /-- `SCALAR_SUB` (R82). Subtracts two 64-bit values. -/
  | scalarSub (t : Nat) (n : Nat) (e : TileErr)
  /-- `SCALAR_AND` (R82). Bitwise AND. -/
  | scalarAnd (t : Nat) (n : Nat) (e : TileErr)
  /-- `SCALAR_OR` (R82). Bitwise OR. -/
  | scalarOr (t : Nat) (n : Nat) (e : TileErr)
  /-- `SCALAR_XOR` (R82). Bitwise XOR. -/
  | scalarXor (t : Nat) (n : Nat) (e : TileErr)
  /-- `SCALAR_SHL` (R82). Shifts left. -/
  | scalarShl (t : Nat) (n : Nat) (e : TileErr)
  /-- `SCALAR_SHR` (R82). Shifts right logically. -/
  | scalarShr (t : Nat) (n : Nat) (e : TileErr)
  /-- `SCALAR_MUL` (R82). Low 64 bits of a product. -/
  | scalarMul (t : Nat) (n : Nat) (e : TileErr)
  /-- `SCALAR_MIN` (R82). Signed minimum. -/
  | scalarMin (t : Nat) (n : Nat) (e : TileErr)
  /-- `SCALAR_MAX` (R82). Signed maximum. -/
  | scalarMax (t : Nat) (n : Nat) (e : TileErr)
  /-- `SCALAR_CMP` (R82). Compares and sets ZF and NF. -/
  | scalarCmp (t : Nat) (n : Nat) (e : TileErr)
  /-- `SCALAR_MOV` (R82). Copies a value. -/
  | scalarMov (t : Nat) (n : Nat) (e : TileErr)
  /-- `SCALAR_MOVI` (R82). Loads AUX as an immediate. -/
  | scalarMovi (t : Nat) (n : Nat) (e : TileErr)
  /-- `SCALAR_LD` (R82). Loads 8 B from the program area into a register. -/
  | scalarLd (t : Nat) (n : Nat) (e : TileErr)
  /-- `SCALAR_ST` (R82). Stores a register as 8 B in the program area. -/
  | scalarSt (t : Nat) (n : Nat) (e : TileErr)
  /-- `VEC_ADD` (R83). Lane-wise addition. -/
  | vecAdd (t : Nat) (n : Nat) (e : TileErr)
  /-- `VEC_SUB` (R83). Lane-wise subtraction. -/
  | vecSub (t : Nat) (n : Nat) (e : TileErr)
  /-- `VEC_MUL` (R83). Lane-wise multiplication. -/
  | vecMul (t : Nat) (n : Nat) (e : TileErr)
  /-- `VEC_FMA` (R83). Lane-wise fused multiply-add or lane dot. -/
  | vecFma (t : Nat) (n : Nat) (e : TileErr)
  /-- `VEC_MAX` (R83). Lane-wise maximum. -/
  | vecMax (t : Nat) (n : Nat) (e : TileErr)
  /-- `VEC_MIN` (R83). Lane-wise minimum. -/
  | vecMin (t : Nat) (n : Nat) (e : TileErr)
  /-- `VEC_ABS` (R83). Lane-wise absolute value. -/
  | vecAbs (t : Nat) (n : Nat) (e : TileErr)
  /-- `VEC_NEG` (R83). Lane-wise negation. -/
  | vecNeg (t : Nat) (n : Nat) (e : TileErr)
  /-- `VEC_CVT` (R124). Converts between formats, selecting a part when factors differ. -/
  | vecCvt (t : Nat) (n : Nat) (e : TileErr)
  /-- `VEC_SELECT` (R83). Selects per lane between sources under a mask register. -/
  | vecSelect (t : Nat) (n : Nat) (e : TileErr)
  /-- `VEC_CMPLT` (R83). Writes a mask of lanes where SRC0 is less than SRC1. -/
  | vecCmplt (t : Nat) (n : Nat) (e : TileErr)
  /-- `VEC_RSQRT` (R83). Lane-wise reciprocal square root. -/
  | vecRsqrt (t : Nat) (n : Nat) (e : TileErr)
  /-- `VEC_RCP` (R83). Lane-wise reciprocal. -/
  | vecRcp (t : Nat) (n : Nat) (e : TileErr)
  /-- `VEC_EXP2` (R83). Lane-wise power of two. -/
  | vecExp2 (t : Nat) (n : Nat) (e : TileErr)
  /-- `RED_SUM` (R84). Sums the elements over a fixed pairwise tree. -/
  | redSum (t : Nat) (n : Nat) (e : TileErr)
  /-- `RED_MAX` (R84). Largest element. -/
  | redMax (t : Nat) (n : Nat) (e : TileErr)
  /-- `RED_MIN` (R84). Smallest element. -/
  | redMin (t : Nat) (n : Nat) (e : TileErr)
  /-- `RED_ARGMAX` (R84). Index of the largest element. -/
  | redArgmax (t : Nat) (n : Nat) (e : TileErr)
  /-- `RED_SORT64` (R84). Sorts 64 keys descending carrying values. -/
  | redSort64 (t : Nat) (n : Nat) (e : TileErr)
  /-- `RED_TOPK_MERGE` (R84). Merges two sorted 64-key lists keeping the 64 largest. -/
  | redTopkMerge (t : Nat) (n : Nat) (e : TileErr)
  /-- `RED_PREFIX` (R84). Inclusive prefix sum. -/
  | redPrefix (t : Nat) (n : Nat) (e : TileErr)
  /-- `RED_SEGSUM` (R84). Prefix sum restarted at masked lanes. -/
  | redSegsum (t : Nat) (n : Nat) (e : TileErr)
  /-- `GATHER_READ` (R85). Issues a memory read of 32–256 B into the program area and raises PENDING. -/
  | gatherRead (t : Nat) (n : Nat) (e : TileErr)
  /-- `SCATTER_WRITE` (R85). Issues a memory write from the program area. -/
  | scatterWrite (t : Nat) (n : Nat) (e : TileErr)
  /-- `SCATTER_STASH` (R85). Issues a write with a stash hint to a site. -/
  | scatterStash (t : Nat) (n : Nat) (e : TileErr)
  /-- `SCATTER_REDUCE_ADD` (R85). Issues a reduce-at-home ADD write. -/
  | scatterReduceAdd (t : Nat) (n : Nat) (e : TileErr)
  /-- `SCATTER_REDUCE_MAX` (R85). Issues a reduce-at-home MAX write. -/
  | scatterReduceMax (t : Nat) (n : Nat) (e : TileErr)
  /-- `SYNC_STAGE` (R87). Sends a sync-object operation from a strand and parks it in WAIT_SYNC. -/
  | syncStage (t : Nat) (n : Nat) (e : TileErr)
  /-- `WAIT_PENDING` (R88). Parks the strand until its PENDING count falls to the limit. -/
  | waitPending (t : Nat) (n : Nat) (e : TileErr)
  /-- `WAIT_EDGE` (R88). Parks the strand until the next beat edge. -/
  | waitEdge (t : Nat) (n : Nat) (e : TileErr)
  /-- `SEND` (R89). Writes up to 256 B to another tile of the same partition or halts with ISOLATION. -/
  | sendStage (t : Nat) (n : Nat) (e : TileErr)
  /-- `YIELD` (R93). Places the strand last in the next rotation. -/
  | yieldStage (t : Nat) (n : Nat) (e : TileErr)
  /-- `END` (R92). Ends the strand and writes its item's completion. -/
  | endStage (t : Nat) (n : Nat) (e : TileErr)
  /-- `GATHER_RESPONSE` (R86). Data or an acknowledgement of a tile request arrives, lowers PENDING and frees the tracker. -/
  | gatherResponse (t : Nat) (id : Nat) (data : List Byte) (poison : Bool) (rowHit : Bool)
  /-- `SYNC_REPLY` (R92). A sync-bank reply arrives and the strand becomes READY. -/
  | syncReply (t : Nat) (n : Nat) (result : Nat) (reason : Nat)
  /-- `TIL_ABORT_ALL` (R105). Writing ABORT_ALL aborts every live strand of the running context. -/
  | tilAbortAll (p : Nat)
  /-- `PATROL_SCRUB_VISIT` (R74). The patrol scrubber reads and checks a bank word in an idle cycle. -/
  | patrolScrubVisit (t : Nat) (bank : Nat) (row : Nat) (err : Nat)
  /-- `ISLAND_VOLTAGE_READY` (R600). A tile island's rising voltage reaches its target, allowing a clock increase at the next edge. -/
  | islandVoltageReady (island : Nat)
  /-- `WQ_CFG_WRITE` (R142). A write of TIL_WQ_CFG is checked and an enable resets HEAD, TAIL and CPL_HEAD. -/
  | wqCfgWrite (role : Role) (p : Nat) (q : Nat) (v : Nat)
  /-- `WQ_TAIL_WRITE` (R144). Software advances TAIL of a work queue, or sets ERR if the ring would overflow. -/
  | wqTailWrite (p : Nat) (q : Nat) (tail : Nat)
  /-- `WQ_CPL_HEAD_WRITE` (R143). Software records completion records it has consumed. -/
  | wqCplHeadWrite (p : Nat) (q : Nat) (head : Nat)
  /-- `WQ_ABORT` (R145). Aborts a queue: unread descriptors cancelled and in-progress items aborted. -/
  | wqAbort (p : Nat) (q : Nat)
  /-- `DESCRIPTOR_FETCH` (R144). The hub reads the descriptor at HEAD when the queue may take it. -/
  | descriptorFetch (p : Nat) (q : Nat)
  /-- `FUNC_NOP` (R148). Completes once every earlier descriptor of the queue has completed. -/
  | funcNop (p : Nat) (q : Nat)
  /-- `FUNC_LOAD` (R154). Loads a configuration image into every tile of the dispatch set or none. -/
  | funcLoad (p : Nat) (q : Nat)
  /-- `FUNC_RUN` (R148). Runs the loaded configuration over ITEMS work items. -/
  | funcRun (p : Nat) (q : Nat)
  /-- `FUNC_EMB_BAG` (R149). Gathers and pools table rows per bag. -/
  | funcEmbBag (p : Nat) (q : Nat) (item : Nat)
  /-- `FUNC_UPDATE` (R149). Applies an optimiser step to table rows at home. -/
  | funcUpdate (p : Nat) (q : Nat) (item : Nat)
  /-- `FUNC_REDUCE` (R149). Reduces source rows into destination rows at home. -/
  | funcReduce (p : Nat) (q : Nat) (item : Nat)
  /-- `FUNC_TOPK` (R149). Finds the top K keys of each segment. -/
  | funcTopk (p : Nat) (q : Nat) (item : Nat)
  /-- `FUNC_SEG_REDUCE` (R149). Sums, maximises or minimises each segment's rows. -/
  | funcSegReduce (p : Nat) (q : Nat) (item : Nat)
  /-- `FUNC_SORT` (R149). Stably sorts each segment. -/
  | funcSort (p : Nat) (q : Nat) (item : Nat)
  /-- `FUNC_PACK` (R149). Converts dense rows into the destination's storage format. -/
  | funcPack (p : Nat) (q : Nat) (item : Nat)
  /-- `FUNC_CHECKPOINT` (R162). Runs the checkpoint service once from a plan. -/
  | funcCheckpoint (p : Nat) (q : Nat)
  /-- `ITEM_DISPATCH` (R153). An item is dispatched as a strand to the tile with the most free strand places. -/
  | itemDispatch (p : Nat) (q : Nat)
  /-- `DESCRIPTOR_COMPLETE` (R151). Once every item's writes are visible the descriptor's completion record is written. -/
  | descriptorComplete (p : Nat) (q : Nat)
  /-- `SVC_LOOKUP` (R161). A table-service LOOKUP request returns rows. -/
  | svcLookup (p : Nat) (conn : Nat) (table : Nat) (reqId : Nat) (rows : List Nat)
  /-- `SVC_LOOKUP_BAG` (R161). A table-service LOOKUP_BAG request returns one pooled row. -/
  | svcLookupBag (p : Nat) (conn : Nat) (table : Nat) (reqId : Nat) (rows : List Nat)
  /-- `SVC_UPDATE` (R161). A table-service UPDATE request applies gradients. -/
  | svcUpdate (p : Nat) (conn : Nat) (table : Nat) (reqId : Nat) (rows : List Nat) (grads : List Nat)
  /-- `SVC_TIMEOUT` (R161). A table-service request waiting beyond TIL_SVC_TIMEOUT is answered BUSY. -/
  | svcTimeout (p : Nat) (reqId : Nat)
  /-- `CKPT_PERIOD_RUN` (R162). Every TIL_CKPT_PERIOD beats the checkpoint service starts a run. -/
  | ckptPeriodRun (p : Nat)
  /-- `CKPT_CHUNK_ACK` (R162). The storage package acknowledges or refuses a checkpoint chunk. -/
  | ckptChunkAck (p : Nat) (idx : Nat) (accepted : Bool)
  /-- `CKPT_CHUNK_TIMEOUT` (R162). An unacknowledged chunk times out and the checkpoint run fails. -/
  | ckptChunkTimeout (p : Nat) (idx : Nat)
  /-- `ROUTER_FLIT_ARRIVAL` (R169). A flit arrives at a router and is routed X then Y or discarded. -/
  | routerFlitArrival (x : Nat) (y : Nat) (f : Flit)
  /-- `FLIT_EJECT` (R184). An endpoint takes a flit off the network and checks it. -/
  | flitEject (x : Nat) (y : Nat) (port : Nat) (f : Flit)
  /-- `INGRESS_REQ` (R176). A REQ flit arriving at an endpoint port enters its partition's ingress queue or is retried. -/
  | ingressReq (port : Nat) (ch : Chan) (r : HomeReq)
  /-- `RETRY_RX` (R176). A requester receives a retry and reissues in a later owned slot. -/
  | retryRx (id : Nat)
  /-- `NOC_RSP_TIMEOUT` (R186). A requester tracker lacking answers after NOC_RSP_TIMEOUT completes with poison. -/
  | nocRspTimeout (id : Nat)
  /-- `QOS_LEVEL_SAMPLE` (R201). Every 64 FCLK a home agent samples occupancy and publishes a level word. -/
  | qosLevelSample (h : Nat)
  /-- `QOS_LEVEL_WORD` (R202). An injector receives a level word and holds or releases BULK and BG traffic. -/
  | qosLevelWord (inj : Nat) (h : Nat)
  /-- `REQUEST_AGED` (R199). A request waiting QOS_AGE rounds is promoted ahead of all classes but LAT0. -/
  | requestAged (p : Nat) (id : Nat)
  /-- `QOS_COMMIT` (R195). Writing 1 starts the feasibility check of every staged table. -/
  | qosCommit (role : Role) (v : Nat)
  /-- `QOS_COMMIT_CHECK_DONE` (R195). The feasibility check ends PASSED and loads the shadow copies, or FAILED. -/
  | qosCommitCheckDone
  /-- `HOME_RD_SHARED` (R333). The home agent orders a coherent read for a shared copy, snooping and granting as its table states. -/
  | homeRdShared (h : Nat) (r : HomeReq) (ue : Nat)
  /-- `HOME_RD_UNIQUE` (R333). The home agent orders a coherent read for ownership. -/
  | homeRdUnique (h : Nat) (r : HomeReq) (ue : Nat)
  /-- `HOME_CLAIM` (R333). The home agent grants ownership without data or serves as RD_UNIQUE. -/
  | homeClaim (h : Nat) (r : HomeReq) (ue : Nat)
  /-- `HOME_EVICT` (R333). The home agent removes a clean holder. -/
  | homeEvict (h : Nat) (r : HomeReq) (ue : Nat)
  /-- `HOME_WB` (R333). The home agent writes back a dirty line or acknowledges a stale WB. -/
  | homeWb (h : Nat) (r : HomeReq) (ue : Nat)
  /-- `HOME_WRITE` (R335). The home agent orders a non-snooped or stash write, invalidating holders, and acknowledges it. -/
  | homeWrite (h : Nat) (stash : Bool) (r : HomeReq) (es : List ReadErr) (ue : Nat)
  /-- `HOME_WR_RED` (R135). The home agent applies a reduce-at-home write. -/
  | homeWrRed (h : Nat) (r : HomeReq) (es : List ReadErr) (ue : Nat)
  /-- `HOME_RD_NA` (R335). The home agent serves a non-allocating read, snooped or ordinary. -/
  | homeRdNa (h : Nat) (r : HomeReq) (ue : Nat)
  /-- `GACK` (R338). A site station's grant acknowledgement ends a transaction at the home. -/
  | gack (h : Nat) (line : Nat)
  /-- `HOME_SNOOP_ANSWER` (R341). A snoop answer arrives at the home and updates the filter and transaction. -/
  | homeSnoopAnswer (h : Nat) (agent : Nat) (txid : Nat) (ptn : Nat) (hasData : Bool) (st : Nat) (data : List Byte) (poison : Bool) (ue : Nat)
  /-- `COH_SNP_TIMEOUT` (R347). A snoop unanswered within COH_SNP_TIMEOUT marks a dead agent. -/
  | cohSnpTimeout (h : Nat) (txid : Nat) (ue : Nat)
  /-- `TAKEDOWN_WALK_END` (R348). The takedown walk ends and the domain reads DOWN. -/
  | takedownWalkEnd (p : Nat)
  /-- `STACK_READ_DATA` (R221). Read data returns from the stack, is checked and decrypted, and leaves on DAT. -/
  | stackReadData (h : Nat) (id : Nat) (es : List ReadErr)
  /-- `SOFT_REPAIR` (R233). A suspect row is copied out, soft-repaired and written back under the granule lock. -/
  | softRepair (h : Nat) (pch : Nat) (bank : Nat) (row : Nat) (lost : List Nat)
  /-- `GRANULE_RETIRE` (R236). A failing granule is migrated to a free or spare granule and marked offline. -/
  | granuleRetire (hg : Nat)
  /-- `STACK_RECAL_DONE` (R229). Recalibration after resume ends and the stack serves at throttle level 3. -/
  | stackRecalDone (h : Nat)
  /-- `HBM_CATTRIP` (R230). The stack's catastrophic-temperature output stops all commands until cold reset. -/
  | hbmCattrip (h : Nat)
  /-- `MEMORY_PATROL` (R239). The memory patrol reads and checks a sector in HUB slots. -/
  | memoryPatrol (h : Nat) (hpa : Nat) (err : Option ReadErr)
  /-- `HBM_RECAL` (R241). Every 32 ms the home agent recalibrates impedance and read timing. -/
  | hbmRecal (h : Nat)
  /-- `SLICE_LOOKUP` (R248). A directory slice answers a translation lookup, services a miss, or refuses. -/
  | sliceLookup (e : Entry) (p : Nat) (g : Nat) (entryUE : Bool)
  /-- `XLATE_ANSWER` (R248). The lookup answer reaches the entry point and the waiting request proceeds. -/
  | xlateAnswer (e : Entry) (p : Nat) (g : Nat)
  /-- `JAY_MISS_TIMEOUT` (R250). JAY_MISS_DEADLINE passes and the waiting requests complete with poison. -/
  | jayMissTimeout (p : Nat) (g : Nat)
  /-- `GRANULE_INVALIDATE` (R251). A receiver drops a translation or replicas, drains old requests and acknowledges. -/
  | granuleInvalidate (e : Entry) (p : Nat) (g : Nat)
  /-- `INVALIDATION_ACK` (R251). An invalidation acknowledgement arrives at the slice. -/
  | invalidationAck (e : Entry) (p : Nat) (g : Nat)
  /-- `HEAT_INCREMENT` (R252). A slice adds a heat increment to a site counter. -/
  | heatIncrement (h : Nat)
  /-- `JAY_PLACEMENT_PASS` (R255). Before the cutoff Jay selects migrations within budgets and declares them. -/
  | jayPlacementPass
  /-- `JAY_CMD_MAP` (R257). Maps a PPA granule to a pool granule. -/
  | jayCmdMap (p : Nat) (g : Nat) (stack : Nat) (sfmt : Nat)
  /-- `JAY_CMD_UNMAP` (R257). Unmaps a granule and returns it to the pool. -/
  | jayCmdUnmap (p : Nat) (g : Nat)
  /-- `JAY_CMD_SET_FMT` (R257). Sets the storage format of a granule. -/
  | jayCmdSetFmt (p : Nat) (g : Nat) (sfmt : Nat)
  /-- `JAY_CMD_PIN` (R257). Sets or clears PIN. -/
  | jayCmdPin (p : Nat) (g : Nat) (value : Bool)
  /-- `JAY_CMD_HINT` (R257). Sets or clears the hint stack. -/
  | jayCmdHint (p : Nat) (g : Nat) (stack : Nat)
  /-- `JAY_CMD_ROWREP` (R257). Sets or clears row replication. -/
  | jayCmdRowrep (p : Nat) (g : Nat) (value : Bool)
  /-- `JAY_CMD_MOVE` (R257). Queues a host-assisted migration order. -/
  | jayCmdMove (p : Nat) (g : Nat) (stack : Nat)
  /-- `JAY_CMD_ACK` (R258). Answers the current candidate posting. -/
  | jayCmdAck (p : Nat) (g : Nat)
  /-- `JAY_HOST_MISS` (R258). No ACK arrives within JAY_HOST_DEADLINE of a posting. -/
  | jayHostMiss (p : Nat)
  /-- `MIGRATION_PASS_DONE` (R259). A copy pass ends and the next pass or the lock begins. -/
  | migrationPassDone (src : Nat) (es : List ReadErr)
  /-- `MIGRATION_REMAP` (R259). The copy is done and the granule is remapped with forwarding at the source. -/
  | migrationRemap (src : Nat) (es : List ReadErr)
  /-- `MIGRATION_DONE` (R259). Every invalidation is acknowledged and the source granule becomes FREE. -/
  | migrationDone (src : Nat)
  /-- `MIGRATION_ABANDON` (R260). The lock exceeds JAY_LOCK_MAX and the migration is abandoned. -/
  | migrationAbandon (src : Nat)
  /-- `ROW_FILL_ACK` (R266). A replica tile acknowledges a fill. -/
  | rowFillAck (t : Nat) (p : Nat) (block : Nat)
  /-- `REPLICA_GATHER` (R267). A replica tile serves a gather from its row cache or forwards it home. -/
  | replicaGather (t : Nat) (r : HomeReq) (e : TileErr)
  /-- `UCI_REPAIR_ACCEPT` (R280). Accepts proposed module repairs and ends the repair pause. -/
  | uciRepairAccept (role : Role) (k : Nat) (mask : Nat) (rate : Option Nat) (down : Nat)
  /-- `UCI_REPAIR_DEADLINE_EXPIRY` (R280). The repair pause ends by deadline and unaccepted modules are disabled. -/
  | uciRepairDeadlineExpiry (k : Nat) (rate : Option Nat) (down : Nat)
  /-- `UCI_CRC_RETRY` (R282). A link group retries a flit after a CRC error. -/
  | uciCrcRetry (k : Nat) (lg : Nat)
  /-- `UCI_RETRAIN` (R283). A group whose retry fails retrains and carries no flit meanwhile. -/
  | uciRetrain (k : Nat) (lg : Nat)
  /-- `UCI_RETRAIN_DONE` (R283). A retrain ends; failures narrow the group or take it DOWN. -/
  | uciRetrainDone (k : Nat) (lg : Nat) (ok : Bool) (worst : Nat)
  /-- `FWD_CLOCK_LOSS` (R283). A module loses its forwarded clock for over 100 ns and is disabled. -/
  | fwdClockLoss (k : Nat) (m : Nat)
  /-- `SBX_CAP` (R288). The chiplet's CAP message arrives and the hub negotiates protocol and level. -/
  | sbxCap (k : Nat) (txn : Nat) (cap : Nat)
  /-- `SBX_SPDM_RESPONSE` (R290). A chiplet SPDM response advances attestation. -/
  | sbxSpdmResponse (k : Nat) (res : SpdmResult)
  /-- `SBX_RST_QUIESCED` (R296). The chiplet reports it is quiesced. -/
  | sbxRstQuiesced (k : Nat)
  /-- `SBX_RST_REQUEST` (R296). The chiplet requests an orderly reset. -/
  | sbxRstRequest (k : Nat) (txn : Nat)
  /-- `SBX_RST_READY` (R296). The chiplet is ready; the hub releases, trains and attests it. -/
  | sbxRstReady (k : Nat) (rate : Option Nat) (down : Nat)
  /-- `SBX_ERR` (R287). A chiplet error payload is recorded as UCI_CHIPLET_ERR. -/
  | sbxErr (k : Nat) (txn : Nat) (payload : Nat)
  /-- `SBX_TIMEOUT` (R286). An SBX request is unanswered within 10 ms and resent or ended TIMEOUT. -/
  | sbxTimeout (k : Nat) (txn : Nat)
  /-- `UCI_RESET_CMD_RESET` (R296). Starts an orderly reset of the chiplet. -/
  | uciResetCmdReset (role : Role) (k : Nat)
  /-- `UCI_RESET_CMD_ATTEST` (R291). Runs attestation again on a site bound to no sealed partition. -/
  | uciResetCmdAttest (role : Role) (k : Nat)
  /-- `UCI_QUIESCE_TIMEOUT` (R296). QUIESCED has not arrived in time and the chiplet is handled as lost. -/
  | uciQuiesceTimeout (k : Nat)
  /-- `SIDEBAND_POLL` (R297). Every 1 ms the hub polls the sideband of a lost chiplet for RST READY. -/
  | sidebandPoll (k : Nat)
  /-- `UCI_BIND_WRITE` (R292). A write of a site's binding is checked and applied or refused. -/
  | uciBindWrite (role : Role) (k : Nat) (mask : Nat)
  /-- `HTL_RD_SHARED` (R307). Station checks and injects a coherent shared read from a chiplet. -/
  | htlRdShared (k : Nat) (lg : Nat) (hdr : Nat) (data : List Byte)
  /-- `HTL_RD_UNIQUE` (R307). Station checks and injects a coherent read for ownership. -/
  | htlRdUnique (k : Nat) (lg : Nat) (hdr : Nat) (data : List Byte)
  /-- `HTL_CLAIM` (R307). Station checks and injects a claim of ownership. -/
  | htlClaim (k : Nat) (lg : Nat) (hdr : Nat) (data : List Byte)
  /-- `HTL_EVICT` (R307). Station checks and injects a clean eviction. -/
  | htlEvict (k : Nat) (lg : Nat) (hdr : Nat) (data : List Byte)
  /-- `HTL_RD_NA` (R307). Station checks, translates and injects a non-allocating read. -/
  | htlRdNa (k : Nat) (lg : Nat) (hdr : Nat) (data : List Byte)
  /-- `HTL_INTR` (R307). Raises a vector of the label's partition. -/
  | htlIntr (k : Nat) (lg : Nat) (hdr : Nat) (data : List Byte)
  /-- `HTL_ABORT` (R307). Aborts a work queue of the partition. -/
  | htlAbort (k : Nat) (lg : Nat) (hdr : Nat) (data : List Byte)
  /-- `HTL_WB` (R307). Station carries a writeback of a dirty line. -/
  | htlWb (k : Nat) (lg : Nat) (hdr : Nat) (data : List Byte)
  /-- `HTL_WR_NS` (R307). Station carries a non-snooped write. -/
  | htlWrNs (k : Nat) (lg : Nat) (hdr : Nat) (data : List Byte)
  /-- `HTL_WR_STASH` (R317). Station carries a write with a stash hint. -/
  | htlWrStash (k : Nat) (lg : Nat) (hdr : Nat) (data : List Byte)
  /-- `HTL_WR_RED` (R307). Station carries a reduce-at-home write. -/
  | htlWrRed (k : Nat) (lg : Nat) (hdr : Nat) (data : List Byte)
  /-- `HTL_GATHER_DESC` (R316). Writes a descriptor into a site-submit work queue. -/
  | htlGatherDesc (k : Nat) (lg : Nat) (hdr : Nat) (data : List Byte)
  /-- `HTL_SYNC` (R318). Serves or forwards a sync-object operation. -/
  | htlSync (k : Nat) (lg : Nat) (hdr : Nat) (data : List Byte)
  /-- `HTL_SNP_ACK` (R340). A chiplet's snoop answer without data is carried to the home. -/
  | htlSnpAck (k : Nat) (lg : Nat) (hdr : Nat) (data : List Byte)
  /-- `HTL_SNP_DATA` (R340). A chiplet's snoop answer with data is carried to the home. -/
  | htlSnpData (k : Nat) (lg : Nat) (hdr : Nat) (data : List Byte)
  /-- `HTL_CREDIT_RETURN` (R303). The control slot returns credits. -/
  | htlCreditReturn (k : Nat) (slot : Nat)
  /-- `CXL_MESSAGE` (R321). A CXL message at a CXL site is translated into HTL. -/
  | cxlMessage (k : Nat) (m : CxlMsg) (tag : Nat) (ppa : Nat) (len : Nat) (data : List Byte) (poison : Bool)
  /-- `SOX_PORT_CHANGE` (R351). A scale-out port trains, falls back or goes down. -/
  | soxPortChange (e : Nat) (st : Nat)
  /-- `SOX_OTHER_FRAME` (R350). An unsupported frame is dropped and counted. -/
  | soxOtherFrame (e : Nat)
  /-- `PTP_SYNC_RX` (R355). A PTP Sync disciplines the hub's time. -/
  | ptpSyncRx (e : Nat) (domain : Nat) (twoStep : Bool) (missed : Nat)
  /-- `PTP_ANNOUNCE_RX` (R355). An announce message feeds the best master clock comparison. -/
  | ptpAnnounceRx (e : Nat) (rank : Nat)
  /-- `SFT_DATA` (R364). A DATA packet is checked, reordered and delivered in PSN order. -/
  | sftData (f : Frame)
  /-- `SFT_ACK` (R364). An ACK frees acknowledged packets and may trigger fast retransmission. -/
  | sftAck (f : Frame) (rttHigh : Bool)
  /-- `SFT_CNP` (R367). A congestion notification lowers the rate of a plane. -/
  | sftCnp (f : Frame) (due : Bool)
  /-- `SFT_CTRL_OPEN` (R361). An OPEN is accepted with OPEN_ACK or refused. -/
  | sftCtrlOpen (f : Frame)
  /-- `SFT_CTRL_OPEN_ACK` (R361). An OPEN_ACK opens the connection. -/
  | sftCtrlOpenAck (f : Frame)
  /-- `SFT_CTRL_REFUSE` (R362). A REFUSE closes an opening connection. -/
  | sftCtrlRefuse (f : Frame)
  /-- `SFT_CTRL_CLOSE` (R361). A CLOSE is answered and the connection closed. -/
  | sftCtrlClose (f : Frame)
  /-- `SFT_CTRL_CLOSE_ACK` (R361). A CLOSE_ACK closes a closing connection. -/
  | sftCtrlCloseAck (f : Frame)
  /-- `SFT_CTRL_RESET` (R361). A RESET fails the connection. -/
  | sftCtrlReset (f : Frame)
  /-- `SFT_CTRL_HELLO` (R372). A pairing HELLO is compared and pairing accepted or refused. -/
  | sftCtrlHello (f : Frame) (rev : Nat) (fmt : Nat) (role : Nat) (period : Nat) (epoch : Nat) (ownerOk : Bool)
  /-- `SFT_CTRL_HELLO_ACK` (R374). A standby's HELLO_ACK commits a journal beat. -/
  | sftCtrlHelloAck (f : Frame)
  /-- `SFT_MGMT` (R369). A management-channel dictionary frame is served or answered BUSY. -/
  | sftMgmt (f : Frame) (kind : Nat) (r : DictReq)
  /-- `SFT_JOURNAL` (R373). A standby receives journal entries. -/
  | sftJournal (f : Frame)
  /-- `SFT_MIRROR` (R374). A standby receives a mirror write. -/
  | sftMirror (f : Frame)
  /-- `SFT_HEARTBEAT` (R375). A member receives the other's heartbeat. -/
  | sftHeartbeat (f : Frame)
  /-- `SFT_FAULT` (R370). A fault notice completes messages with PEER_FAULT and closes the connection. -/
  | sftFault (f : Frame)
  /-- `CONN_OPEN_REQUEST` (R361). A block first sends to a remote partition and the hub sends OPEN. -/
  | connOpenRequest (p : Nat) (pkg : Nat) (rptn : Nat)
  /-- `CONN_OPEN_RETRY` (R361). Every 100 µs an unanswered OPEN is repeated, up to 8 times. -/
  | connOpenRetry (c : Nat)
  /-- `CONN_IDLE_EXPIRY` (R361). SOX_CONN_IDLE passes idle and the connection starts closing. -/
  | connIdleExpiry (c : Nat)
  /-- `CONN_PSN_LIMIT` (R361). The PSN reaches its limit and the connection starts closing. -/
  | connPsnLimit (c : Nat)
  /-- `CONN_CLOSE_TIMEOUT` (R361). 1 ms passes without CLOSE_ACK and the connection closes. -/
  | connCloseTimeout (c : Nat)
  /-- `SFT_ACK_TIMER` (R364). 1 µs after an unacknowledged arrival the receiver sends an ACK. -/
  | sftAckTimer (c : Nat)
  /-- `SFT_RTO_EXPIRY` (R364). A PSN unacknowledged past RTO is retransmitted; eight make the connection FAILED. -/
  | sftRtoExpiry (c : Nat) (psn : Nat)
  /-- `CC_PERIOD_EXPIRY` (R367). A congestion period without signals raises the rate. -/
  | ccPeriodExpiry (c : Nat) (plane : Nat)
  /-- `SOX_EGRESS_TABLE_WRITE` (R368). A port egress table write is checked and applied at the next edge. -/
  | soxEgressTableWrite (role : Role) (e : Nat) (v : Nat)
  /-- `PAIR_HEARTBEAT_MISS` (R375). The third consecutive missed heartbeat causes takeover, SOLO or FENCED. -/
  | pairHeartbeatMiss
  /-- `PAIR_REKEY` (R377). Before a pair-link PSN limit the members repeat the HELLO exchange. -/
  | pairRekey
  /-- `SYNC_READ` (R381). Reads an object. -/
  | syncRead (src : SyncSrc) (obj : Nat)
  /-- `SYNC_INIT` (R381). Sets kind and value and expires waiters. -/
  | syncInit (src : SyncSrc) (obj : Nat) (a : Word) (b : Word)
  /-- `SYNC_ADD` (R381). Adds to a counter. -/
  | syncAdd (src : SyncSrc) (obj : Nat) (a : Word)
  /-- `SYNC_CAS` (R381). Compare and swap. -/
  | syncCas (src : SyncSrc) (obj : Nat) (a : Word) (b : Word)
  /-- `SYNC_SWAP` (R381). Swaps the value. -/
  | syncSwap (src : SyncSrc) (obj : Nat) (a : Word)
  /-- `SYNC_WAIT_GE` (R381). Waits until a counter reaches a value. -/
  | syncWaitGe (src : SyncSrc) (obj : Nat) (a : Word)
  /-- `SYNC_ACQUIRE` (R381). Takes semaphore units, waiting if needed. -/
  | syncAcquire (src : SyncSrc) (obj : Nat) (a : Word)
  /-- `SYNC_RELEASE` (R381). Returns semaphore units and serves waiters. -/
  | syncRelease (src : SyncSrc) (obj : Nat) (a : Word)
  /-- `SYNC_ARRIVE` (R381). Counts a barrier arrival. -/
  | syncArrive (src : SyncSrc) (obj : Nat)
  /-- `SYNC_ARRIVE_WAIT` (R381). Counts an arrival and waits for the phase. -/
  | syncArriveWait (src : SyncSrc) (obj : Nat)
  /-- `SYNC_BAR_WAIT` (R381). Waits for the barrier generation to change. -/
  | syncBarWait (src : SyncSrc) (obj : Nat) (a : Word)
  /-- `SYNC_SET` (R381). Sets event flags. -/
  | syncSet (src : SyncSrc) (obj : Nat) (a : Word)
  /-- `SYNC_CLEAR` (R381). Clears event flags. -/
  | syncClear (src : SyncSrc) (obj : Nat) (a : Word)
  /-- `SYNC_WAIT_ANY` (R381). Waits for any of the flags. -/
  | syncWaitAny (src : SyncSrc) (obj : Nat) (a : Word) (b : Word)
  /-- `SYNC_WAIT_ALL` (R381). Waits for all of the flags. -/
  | syncWaitAll (src : SyncSrc) (obj : Nat) (a : Word) (b : Word)
  /-- `SYNC_WAIT_EXPIRY` (R383). A waiter past COL_WAIT_LIMIT is answered EXPIRED. -/
  | syncWaitExpiry (bank : Nat) (id : Nat)
  /-- `COL_SYNC_MAP_WRITE` (R379). Sets a partition's sync-object runs and initialises added objects. -/
  | colSyncMapWrite (role : Role) (p : Nat) (v : Nat)
  /-- `COL_GROUP_FORM` (R386). Writing VALID 1 starts group formation. -/
  | colGroupForm (p : Nat) (g : Nat) (v : Nat)
  /-- `COL_GROUP_DISSOLVE` (R385). Writing VALID 0 dissolves a group. -/
  | colGroupDissolve (p : Nat) (g : Nat) (v : Nat)
  /-- `COL_FORM_TIMEOUT` (R386). Formation not done in COL_FORM_TIMEOUT is refused TIMEOUT. -/
  | colFormTimeout (p : Nat) (g : Nat)
  /-- `COL_DB_TAIL_WRITE` (R388). Software advances the collective ring's TAIL. -/
  | colDbTailWrite (p : Nat) (tail : Nat) (cplHead : Nat)
  /-- `COL_DB_ABORT` (R399). ABORT of the collective ring cancels collectives. -/
  | colDbAbort (p : Nat)
  /-- `COLL_ALLREDUCE` (R390). An all-reduce descriptor is read and its steps declared. -/
  | collAllreduce (p : Nat)
  /-- `COLL_REDUCE_SCATTER` (R390). A reduce-scatter descriptor is read. -/
  | collReduceScatter (p : Nat)
  /-- `COLL_ALLGATHER` (R390). An all-gather descriptor is read. -/
  | collAllgather (p : Nat)
  /-- `COLL_BROADCAST` (R390). A broadcast descriptor is read. -/
  | collBroadcast (p : Nat)
  /-- `COLL_BARRIER` (R390). A barrier descriptor is read. -/
  | collBarrier (p : Nat)
  /-- `COLL_SNAPSHOT` (R396). A snapshot descriptor is read for a cut at START_BEAT. -/
  | collSnapshot (p : Nat)
  /-- `COLL_GLOBAL_RESET` (R397). Member 0 sends RESET down the tree and resets its partition. -/
  | collGlobalReset (p : Nat)
  /-- `COLL_STEP_COMPLETE` (R392). A member's step writes are visible and its messages sent. -/
  | collStepComplete (p : Nat) (g : Nat)
  /-- `SNAPSHOT_DRAIN_END` (R396). The paused partition has drained and object values and data are copied. -/
  | snapshotDrainEnd (p : Nat)
  /-- `COLL_MSG_FORM` (R386). A FORM report arrives from a child. -/
  | collMsgForm (c : Nat) (payload : List Byte)
  /-- `COLL_MSG_FORMED` (R386). FORMED makes the group READY and passes down. -/
  | collMsgFormed (c : Nat) (payload : List Byte)
  /-- `COLL_MSG_REFUSE` (R386). REFUSE makes the group REFUSED. -/
  | collMsgRefuse (c : Nat) (payload : List Byte)
  /-- `COLL_MSG_UP` (R394). Step data from a child arrives. -/
  | collMsgUp (c : Nat) (payload : List Byte)
  /-- `COLL_MSG_DOWN` (R394). Step data from the parent arrives. -/
  | collMsgDown (c : Nat) (payload : List Byte)
  /-- `COLL_MSG_STRETCH_REQ` (R400). A stretch request travels to member 0, which may grant it. -/
  | collMsgStretchReq (c : Nat) (payload : List Byte)
  /-- `COLL_MSG_STRETCH_GRANT` (R400). A grant naming an edge arrives and is passed down. -/
  | collMsgStretchGrant (c : Nat) (payload : List Byte)
  /-- `COLL_MSG_ABORT` (R398). ABORT completes the collective with its status and spreads. -/
  | collMsgAbort (c : Nat) (payload : List Byte)
  /-- `COLL_MSG_RESET` (R397). RESET is passed on and the partition reset if allowed. -/
  | collMsgReset (c : Nat) (payload : List Byte)
  /-- `STRETCH_CHECK_POINT` (R400). At the beat's check point an incomplete step served by a hot stack requests a stretch. -/
  | stretchCheckPoint (p : Nat) (g : Nat)
  /-- `PTN_CMD_FORM` (R408). FORM checks resources and forms the partition. -/
  | ptnCmdForm (role : Role) (p : Nat) (low : Nat)
  /-- `PTN_CMD_SEAL` (R409). SEAL records a request and, on the second, checks and starts sealing. -/
  | ptnCmdSeal (role : Role) (p : Nat) (low : Nat)
  /-- `SEAL_WRITE_DONE` (R409). The last granule is written and the partition becomes SEALED at the next edge. -/
  | sealWriteDone (p : Nat)
  /-- `PTN_CMD_CONTEXT_RESET` (R420). Resets one context. -/
  | ptnCmdContextReset (role : Role) (p : Nat) (low : Nat)
  /-- `PTN_CMD_WARM_RESET` (R421). Starts a partition warm reset. -/
  | ptnCmdWarmReset (role : Role) (p : Nat) (low : Nat)
  /-- `PTN_CMD_FULL_RESET` (R420). Starts a partition full reset. -/
  | ptnCmdFullReset (role : Role) (p : Nat) (low : Nat)
  /-- `PTN_CMD_DISSOLVE` (R420). Starts a dissolution. -/
  | ptnCmdDissolve (role : Role) (p : Nat) (low : Nat)
  /-- `RESET_DRAIN_END` (R421). Every tracker of a resetting partition has its answers and the drain ends. -/
  | resetDrainEnd (p : Nat)
  /-- `BADGER_SCRUB_DONE` (R424). The last granule is scrubbed and the partition becomes SEALED or FREE at the next edge. -/
  | badgerScrubDone (p : Nat) (fails : List Nat)
  /-- `TILE_SAVE_DONE` (R413). A tile's save is written and its restore begins. -/
  | tileSaveDone (p : Nat) (t : Nat)
  /-- `TILE_RESTORE_DONE` (R413). A tile has restored; when all have, the incoming context runs. -/
  | tileRestoreDone (p : Nat) (t : Nat)
  /-- `PTN_CTX_NEXT_WRITE` (R412). The host names the next context and switch beat. -/
  | ptnCtxNextWrite (role : Role) (p : Nat) (v : Nat)
  /-- `PTN_SCHED_MISS` (R412). No host decision within PTN_CTX_DEADLINE; the context continues a quantum. -/
  | ptnSchedMiss (p : Nat)
  /-- `INTERRUPT_RAISE` (R417). A vector is raised and discarded, held, posted or delivered. -/
  | interruptRaise (p : Nat) (v : Nat)
  /-- `HEP_INTR_RAISE` (R477). A host write raises a partition vector. -/
  | hepIntrRaise (p : Nat) (v : Nat)
  /-- `SEC_KEY_DELIVER` (R437). A tenant key blob is unwrapped, checked against policy and loaded. -/
  | secKeyDeliver (role : Role) (p : Nat) (blob : List Byte) (key : Option Nat)
  /-- `SEC_IMPORT` (R440). Starts decrypting staged chunks into partition memory. -/
  | secImport (role : Role) (p : Nat) (v : Nat)
  /-- `IMPORT_DONE` (R440). The import ends and its result is written. -/
  | importDone (p : Nat) (n : Nat)
  /-- `SEC_ROTATE` (R443). Starts a memory-key rotation. -/
  | secRotate (role : Role) (p : Nat) (v : Nat)
  /-- `FABRIC_KEY_RETIRE` (R441). After the grace period with nothing unacknowledged the old fabric generation is destroyed. -/
  | fabricKeyRetire (p : Nat)
  /-- `SPDM_REQUEST` (R445). An SPDM responder answers a request with certificates or signed evidence. -/
  | spdmRequest (ep : Nat) (req : SpdmReq)
  /-- `SEC_DEBUG_GRANT` (R449). A debug grant is checked and takes effect at the next edge. -/
  | secDebugGrant (role : Role) (p : Nat) (body : List Byte) (sigOk : Bool)
  /-- `DEBUG_GRANT_EXPIRY` (R449). The grant's BEATS run out and it ends. -/
  | debugGrantExpiry (p : Nat)
  /-- `SEC_DEBUG_STATE_WRITE` (R449). The tenant writes 0 to end the grant. -/
  | secDebugStateWrite (role : Role) (p : Nat) (v : Nat)
  /-- `SEC_DEBUG_CMD` (R449). The operator reads or writes within the grant's scope. -/
  | secDebugCmd (role : Role) (p : Nat) (v : Nat)
  /-- `SEC_ZEROISE` (R453). Zeroises every key, the DRBG and the root key. -/
  | secZeroise (role : Role) (v : Nat)
  /-- `SE_SENSOR_TRIP` (R453). The SE's voltage, glitch or temperature sensors leave range and zeroise. -/
  | seSensorTrip
  /-- `SEC_SELFTEST` (R451). Runs the known-answer tests on demand. -/
  | secSelftest (role : Role) (v : Nat) (pass : Bool)
  /-- `SEC_KAT_PERIOD_EXPIRY` (R451). Every SEC_KAT_PERIOD an engine known-answer test runs. -/
  | secKatPeriodExpiry (pass : Bool)
  /-- `LCS_TRANSITION` (R462). A transition record is checked and the transition procedure runs. -/
  | lcsTransition (role : Role) (r : LcRecord) (burn : Burn)
  /-- `LCS_ERASE_DONE` (R466). The erasure for leaving FIELD ends and the transition continues. -/
  | lcsEraseDone (verified : Bool) (burn : Burn)
  /-- `LCS_TOKEN` (R467). An unlock token opens test scopes until reset. -/
  | lcsToken (role : Role) (r : LcRecord)
  /-- `LCS_SVN_COMMIT` (R469). Burns the security version. -/
  | lcsSvnCommit (role : Role) (v : Nat)
  /-- `LCS_BSCAN_EN_WRITE` (R468). Enables or disables boundary scan in FIELD. -/
  | lcsBscanEnWrite (role : Role) (v : Nat)
  /-- `TAP_BYPASS` (R592). Selects BYPASS. -/
  | tapBypass
  /-- `TAP_IDCODE` (R591). Selects IDCODE. -/
  | tapIdcode
  /-- `TAP_SAMPLE_PRELOAD` (R468). Selects SAMPLE/PRELOAD. -/
  | tapSamplePreload
  /-- `TAP_EXTEST` (R468). Selects EXTEST, zeroising in FIELD. -/
  | tapExtest
  /-- `TAP_IEEE1500` (R593). Connects a stack wrapper port and takes the stack out of service. -/
  | tapIeee1500 (reg : Nat)
  /-- `TAP_LC_TOKEN` (R459). Shifts in a transition record or token. -/
  | tapLcToken (r : LcRecord) (burn : Burn)
  /-- `TAP_LC_STATUS` (R468). Returns the state and pending target. -/
  | tapLcStatus
  /-- `TAP_INTSCAN` (R467). Internal scan under an unlock, zeroising first. -/
  | tapIntscan
  /-- `TAP_MBIST_ACC` (R593). Direct access to MBIST controllers. -/
  | tapMbistAcc
  /-- `TAP_RESET` (R591). TRST_N resets the TAP. -/
  | tapReset
  /-- `PCIE_LINK_UP` (R490). The host link comes up and the host is present from the next edge. -/
  | pcieLinkUp (rate : Nat) (width : Nat)
  /-- `HOST_CONFIG_REQUEST` (R474). A configuration request is served, or answered CRS before READY. -/
  | hostConfigRequest (fn : Nat) (reg : CfgReg) (w : Option Nat)
  /-- `HOST_BAR2_WRITE` (R483). A BAR2 write is translated and issued in order. -/
  | hostBar2Write (p : Nat) (off : Nat) (data : List Byte) (ep : Bool)
  /-- `HOST_BAR2_READ` (R483). A BAR2 read waits for earlier writes and returns data. -/
  | hostBar2Read (p : Nat) (off : Nat) (n : Nat)
  /-- `HOST_BAR0_READ` (R481). A BAR0 register read is answered or refused. -/
  | hostBar0Read (fn : Nat) (off : Nat) (n : Nat)
  /-- `HOST_SYNC_SLOT_WRITE` (R478). A write of a sync-window slot's operation word performs the operation without waiting. -/
  | hostSyncSlotWrite (p : Nat) (slot : Nat) (v : Nat)
  /-- `HOST_MAILBOX_GO` (R514). GO submits a dictionary unit from a mailbox. -/
  | hostMailboxGo (fn : Nat) (v : Nat)
  /-- `VF_FLR` (R486). A function level reset clears the VF's host state. -/
  | vfFlr (p : Nat)
  /-- `PF_FLR` (R486). A PF0 reset clears VF Enable and ends an export. -/
  | pfFlr
  /-- `HOST_PERST` (R486). HOST_PERST_N resets every function and takes the link down. -/
  | hostPerst
  /-- `CKPT_EXPORT_GO` (R488). Starts the operator checkpoint export. -/
  | ckptExportGo
  /-- `CKPT_EXPORT_DONE` (R488). The export ends with a status and raises PF0 vector 3. -/
  | ckptExportDone (snooped : List SnoopedLine)
  /-- `DEBOUNCE_EXPIRY` (R489). A slot input is stable for HEP_DEBOUNCE. -/
  | debounceExpiry (pin : SlotPin) (level : Bool)
  /-- `HOST_PRSNT_ASSERT` (R490). Presence starts insertion by enabling the first power stage. -/
  | hostPrsntAssert
  /-- `HOST_PG1_ASSERT` (R490). First power-good; the second stage enables 10 ms later. -/
  | hostPg1Assert
  /-- `HOST_PG2_ASSERT` (R490). Second power-good; the slot is POWERED. -/
  | hostPg2Assert
  /-- `HOST_PG_TIMEOUT` (R490). A power-good misses its time and the slot faults. -/
  | hostPgTimeout
  /-- `HOST_ATTN_PRESS` (R491). The attention button requests or cancels a removal. -/
  | hostAttnPress
  /-- `HOST_REMOVE_ACK` (R491). Host software has quiesced for removal. -/
  | hostRemoveAck
  /-- `HOST_REMOVE_CANCEL` (R491). CANCEL returns a pending removal to POWERED. -/
  | hostRemoveCancel
  /-- `HOST_REMOVE_WAIT_END` (R491). Five seconds after the press the removal proceeds if acknowledged. -/
  | hostRemoveWaitEnd
  /-- `HEP_REMOVE_DEADLINE_EXPIRY` (R491). No REMOVE_ACK by the deadline abandons the removal. -/
  | hepRemoveDeadlineExpiry
  /-- `SURPRISE_LOSS` (R492). The link drops or presence deasserts without REMOVE_ACK. -/
  | surpriseLoss
  /-- `HOST_PRSNT_DEASSERT` (R492). Presence deasserts and slot power is removed. -/
  | hostPrsntDeassert
  /-- `DICT_UNIT_RX` (R498). A transport unit arrives and joins a frame in reassembly. -/
  | dictUnitRx (ep : DictEp) (unit : List Byte)
  /-- `DICT_REASSEMBLY_TIMEOUT` (R498). A frame incomplete after 100 ms is discarded. -/
  | dictReassemblyTimeout (ep : DictEp) (msg : Nat)
  /-- `DICT_READ` (R501). Returns each item's value in effect. -/
  | dictRead (r : DictReq)
  /-- `DICT_WRITE` (R501). Writes each item independently. -/
  | dictWrite (r : DictReq)
  /-- `DICT_ATOMIC` (R512). Writes 2–32 items all or none. -/
  | dictAtomic (r : DictReq)
  /-- `DICT_READ_PENDING` (R510). Returns pending values. -/
  | dictReadPending (r : DictReq)
  /-- `DICT_READ_DEFAULT` (R511). Returns defaults. -/
  | dictReadDefault (r : DictReq)
  /-- `DICT_RESET_DEFAULT` (R511). Writes defaults. -/
  | dictResetDefault (r : DictReq)
  /-- `DICT_DESCRIBE` (R501). Returns type and access string of items. -/
  | dictDescribe (r : DictReq)
  /-- `DICT_SESSION_OPEN` (R504). Opens a session and signs the transcript. -/
  | dictSessionOpen (r : OpenReq)
  /-- `DICT_SESSION_PROVE` (R504). Proves the role key and derives session keys. -/
  | dictSessionProve (ep : DictEp) (n : Nat) (sigOk : Bool)
  /-- `DICT_SESSION_CLOSE` (R506). Ends the session. -/
  | dictSessionClose (r : DictReq)
  /-- `DICT_SPDM` (R501). Carries an SPDM message to an endpoint. -/
  | dictSpdm (ep : DictEp) (seq : Nat) (dest : Nat) (req : SpdmReq)
  /-- `SESSION_PROVE_TIMEOUT` (R504). A session not proven within 1 s is discarded. -/
  | sessionProveTimeout (n : Nat)
  /-- `SESSION_IDLE_EXPIRY` (R506). A session idle for PDX_SESSION_IDLE ends. -/
  | sessionIdleExpiry (n : Nat)
  /-- `ROLE_ROOT_WRITE` (R503). An integrator or operator root is written to the role-key block. -/
  | roleRootWrite (role : Role) (operator : Bool) (v : Nat)
  /-- `REGISTER_WRITE` (R17). A write to an entry or register without its own row, handled by its apply class. -/
  | registerWrite (w : RegWrite)
  /-- `POWER_ON` (R521). VIN_MAIN enters range and the cold start sequence runs. -/
  | powerOn
  /-- `BRINGUP_TIMEOUT` (R523). A bring-up step exceeds its limit and halts or fails its unit. -/
  | bringupTimeout (step : Nat) (mask : Nat)
  /-- `BRINGUP_READY` (R527). The start ends and the hub becomes READY. -/
  | bringupReady (f : Findings)
  /-- `PDX_HUB_RESET_WARM` (R535). Commands a hub warm reset, fast or full path. -/
  | pdxHubResetWarm (role : Role)
  /-- `PDX_HUB_RESET_COLD` (R537). Commands a hub cold reset. -/
  | pdxHubResetCold (role : Role)
  /-- `HUB_RESET_PIN` (R625). HUB_RESET_N asserted for over 1 µs starts a reset. -/
  | hubResetPin
  /-- `HUB_RESET_EFFECT` (R537). 1 ms after the command the reset takes effect. -/
  | hubResetEffect
  /-- `PDX_PARTIAL_RESET` (R540). Resets the tile islands of named plots. -/
  | pdxPartialReset (role : Role) (v : Nat)
  /-- `PARTIAL_RESET_RELEASE` (R540). Reset tiles are released unconfigured. -/
  | partialResetRelease
  /-- `FAULT_EVENT` (R551). Owl raises an event, latches and escalates it, and commands the reaction. -/
  | faultEvent (code : Nat) (ptn : Option Nat) (detail : Nat) (sev : Nat)
  /-- `OWL_COUNT_WINDOW_EXPIRY` (R548). A count window ends before threshold and the count resets. -/
  | owlCountWindowExpiry (code : Nat)
  /-- `OWL_ACK` (R552). Acknowledges a partition latch. -/
  | owlAck (role : Role) (p : Nat) (v : Word)
  /-- `OWL_HUB_ACK` (R552). Acknowledges the hub latch. -/
  | owlHubAck (role : Role) (v : Word)
  /-- `OWL_TRIAGE_DECIDE` (R558). The host chooses a recovery action. -/
  | owlTriageDecide (role : Role) (v : Nat)
  /-- `OWL_TRIAGE_HOLD_EXPIRY` (R558). In hardware triage the source's ACTION is applied after the hold. -/
  | owlTriageHoldExpiry (latch : Nat)
  /-- `OWL_TRIAGE_MISS` (R558). No host decision within OWL_TRIAGE_DEADLINE. -/
  | owlTriageMiss (latch : Nat)
  /-- `SQL_FLUSH` (R571). Writing SQL_FLUSH starts a flush. -/
  | sqlFlush (role : Role) (v : Nat)
  /-- `SQL_FLUSH_DONE` (R571). The buffer is empty and the flush ends. -/
  | sqlFlushDone (failed : Option Nat)
  /-- `SQL_FLUSH_DEADLINE_EXPIRY` (R572). No SQL_FLUSH within the deadline in host mode. -/
  | sqlFlushDeadlineExpiry
  /-- `SQL_TOKEN_REFILL` (R566). A rate bucket gains a token each PERIOD. -/
  | sqlTokenRefill (code : Nat)
  /-- `SQL_STORE_ERASE_CIRC` (R575). Empties the circulating area keeping KEEP records. -/
  | sqlStoreEraseCirc (role : Role)
  /-- `SQL_STORE_ERASE_FIRST` (R575). Empties the first area. -/
  | sqlStoreEraseFirst (role : Role)
  /-- `SQL_STORE_FORMAT` (R575). Formats the store for this unit. -/
  | sqlStoreFormat (role : Role)
  /-- `SQL_STORE_CMD_DONE` (R575). A store command finishes. -/
  | sqlStoreCmdDone
  /-- `BST_TILE_RUN` (R582). Starts tile BIST on named plots. -/
  | bstTileRun (role : Role) (v : Nat)
  /-- `BST_TILE_RUN_DONE` (R582). Tile BIST ends and failed cores are marked. -/
  | bstTileRunDone (fails : List Nat)
  /-- `BST_IC_GO` (R586). Starts an interconnect test run. -/
  | bstIcGo (role : Role) (v : Nat)
  /-- `BST_IC_DONE` (R586). An interconnect run ends with its results. -/
  | bstIcDone (result : Nat) (errors : Nat) (rate : Option Nat) (down : Nat) (found : StackFound)
  /-- `BST_UCI_BURN` (R590). Burns a module repair map into OTP. -/
  | bstUciBurn (role : Role) (v : Nat) (bits : Nat)
  /-- `PWR_FAIL_ASSERT` (R601). PWR_FAIL_N starts the safe states and a flush. -/
  | pwrFailAssert
  /-- `PWR_BROWNOUT` (R602). VIN_MAIN below 1.70 V for 2 µs acts as a power failure. -/
  | pwrBrownout
  /-- `PWR_THERMTRIP` (R604). A 108 °C comparator stops every tile clock. -/
  | pwrThermtrip
  /-- `PWR_THERM_DECIDE` (R608). The host supplies throttle, drain and stretch decisions per stack. -/
  | pwrThermDecide (role : Role) (v : Nat)
  /-- `SBX_PWR_REPORT` (R610). A chiplet reports its draw and request. -/
  | sbxPwrReport (k : Nat) (txn : Nat) (payload : Nat)
  /-- `SBX_PWR_REVOKE_ACK` (R612). A chiplet acknowledges a revoke. -/
  | sbxPwrRevokeAck (k : Nat) (txn : Nat) (payload : Nat)
  /-- `PWR_REVOKE_TIMEOUT` (R612). No REVOKE_ACK within PWR_REVOKE_TIME. -/
  | pwrRevokeTimeout (k : Nat)
  /-- `PIN_SOXCLK_LOSS` (R621). REFCLK_SOX leaves range or stops and the hub faults. -/
  | pinSoxclkLoss
  /-- `PIN_HOSTCLK_LOSS` (R622). REFCLK_HOST is lost and handled as a surprise loss. -/
  | pinHostclkLoss
  /-- `SBX_OTHER_MESSAGE` (R285). An SBX message whose VER is not 1 or whose CLASS is reserved is answered with STATUS VERSION or UNSUPPORTED. -/
  | sbxOtherMessage (k : Nat) (ver : Nat) (cls : Nat) (txn : Nat) (resp : Bool) (status : Nat)
  /-- `PTP_DELAY_RESP_RX` (R354). A PTP Delay_Resp arrives and completes the path-delay measurement of the delay request-response profile. -/
  | ptpDelayRespRx (e : Nat) (domain : Nat) (delay : Nat)
  /-- `PTP_FOLLOW_UP_RX` (R354). A PTP Follow_Up arrives carrying the origin timestamp of a two-step Sync. -/
  | ptpFollowUpRx (e : Nat) (domain : Nat)
  /-- `NEIGHBOUR_SOLICITATION_RX` (R350). A Neighbour Solicitation for a port's own IPv6 address is answered by Neighbour Discovery. -/
  | neighbourSolicitationRx (e : Nat) (target : Nat)
  /-- `HOST_LINK_DOWN` (R491). During an orderly removal after REMOVE_ACK the host takes the link down and the slot powers off. -/
  | hostLinkDown
  /-- `HOST_PERST_DEASSERT` (R474). HOST_PERST_N deasserts and the endpoint starts training the link. -/
  | hostPerstDeassert
  /-- `PME_TURN_OFF` (R472). A PME_Turn_Off message from the host moves the endpoint toward L2. -/
  | pmeTurnOff
  /-- `I3C_DYNAMIC_ADDRESS` (R624). The I3C controller assigns the hub a dynamic address by SETDASA or ENTDAA. -/
  | i3cDynamicAddress (a : Nat)
  /-- `HUB_RESET_RELEASE` (R625). HUB_RESET_N returns high after at least 1 ms and the next start begins. -/
  | hubResetRelease
  /-- `POWER_REMOVED` (R598). VIN_MAIN leaves its range, every island loses power, and all volatile state is lost. -/
  | powerRemoved
  deriving DecidableEq, Repr

end Sys2Proof
end

