-- ==== Sys2Proof/Decode.lean ====
section
/-! DEFINITION. The command that a word spells. The rows of the command table give no bits: a command is an event at the block's
pins, links and registers, and no word spells one. -/

namespace Sys2Proof

/-- No row of the command table gives bits, so no word spells a command. -/
def decodeTableWord (_nbits _w : Nat) : Option Instr := none

end Sys2Proof
end

