-- ==== Sys2Proof/Machine/AMap.lean ====
section
/-! DEFINITION. Sparse tables keyed by a number, in one canonical form: keys strictly rising. Every
set-like and map-like piece of the state is one of these. -/

namespace Sys2Proof

/-- The entry of a table at a key. -/
def AMap.find {α : Type} : AMap α → Nat → Option α
  | [], _ => none
  | (k', v) :: r, k => if k' = k then some v else AMap.find r k

/-- Entry at `k` set to `v`, at its place in rising order. -/
def AMap.set {α : Type} : AMap α → Nat → α → AMap α
  | [], k, v => [(k, v)]
  | (k', v') :: r, k, v =>
    if k < k' then (k, v) :: (k', v') :: r
    else if k' = k then (k, v) :: r
    else (k', v') :: AMap.set r k v

/-- Entry at `k` removed. -/
def AMap.erase {α : Type} (m : AMap α) (k : Nat) : AMap α :=
  m.filter (fun e => e.1 != k)

/-- The entry at `k`, or `d` where the table lists none. -/
def AMap.get {α : Type} (m : AMap α) (k : Nat) (d : α) : α := (m.find k).getD d

/-- Set with a default: a value equal to what an unlisted key reads as removes the entry. -/
def AMap.put {α : Type} [DecidableEq α] (m : AMap α) (k : Nat) (v d : α) : AMap α :=
  if v = d then m.erase k else m.set k v

/-- The canonical form: keys strictly rising. -/
def AMap.sorted {α : Type} : AMap α → Bool
  | [] => true
  | [_] => true
  | (a, _) :: (b, w) :: r => decide (a < b) && AMap.sorted ((b, w) :: r)

/-- Keys of a table. -/
def AMap.keys {α : Type} (m : AMap α) : List Nat := m.map (·.1)

/-- Every entry whose key and value satisfy `p`, in rising order. -/
def AMap.where {α : Type} (m : AMap α) (p : Nat → α → Bool) : AMap α := m.filter (fun e => p e.1 e.2)

/-- Every value changed by `f`. -/
def AMap.mapVal {α β : Type} (m : AMap α) (f : Nat → α → β) : AMap β := m.map (fun e => (e.1, f e.1 e.2))

/-- The smallest number from `k` on that is no key, within `fuel` tries. -/
def AMap.free {α : Type} (m : AMap α) : Nat → Nat → Nat
  | 0, k => k
  | n + 1, k => if (m.find k).isSome then AMap.free m n (k + 1) else k

end Sys2Proof
end

