-- ==== Sys2Proof/Config.lean ====
section
/-! DEFINITION. What is fixed for one hub, and the free values: values the spec leaves open. A free value is
an opaque constant with no body, applied to the counter `fresh` of the state or to the operands it
depends on, so that a statement about it holds for every value (notes/assumptions/1.md). -/

namespace Sys2Proof.Config

/-- Partitions (R12). -/
def partitions : Nat := 32
/-- Logical tiles (R4). -/
def tiles : Nat := 2304
/-- Strands of a tile (R4). -/
def strands : Nat := 512
/-- Plots (R12). -/
def plots : Nat := 64
/-- Stacks, home agents, sites and sync banks (R12). -/
def hubStacks : Nat := 8
/-- Scale-out ports (R12). -/
def ports : Nat := 16
/-- HPA bytes of one stack (R10). -/
def stackBytes : Nat := 0x1000000000
/-- Granule bytes (R10). -/
def granule : Nat := 0x100000
/-- Entries of the placement directory (R243). -/
def dirEntries : Nat := 524288
/-- FCLK cycles of a round (R40). -/
def roundFclk : Nat := 1040

/-- A fresh free word: one for each value of the counter `fresh`. -/
opaque freeWord : Nat → BitVec 64
/-- A counter at the end of its width, by its place in the register file: the spec states no value. -/
opaque counterEnd : Nat → Nat
/-- Activates that an access issues, by its stack and the bytes that the stack has moved: the timing of R219 decides them. -/
opaque activates : Nat → Nat → Nat
/-- Slots that the soft repair of a row denies to a partition (R233): when it runs within its rounds decides them. -/
opaque repairSlots : Nat → Nat → Nat
/-- The beat counter after its last value: the spec states no value. -/
opaque beatEnd : BitVec 48

/-- The detail field of an event, made of what its chapter says that it carries: the spec gives no bit layout. -/
opaque detail : List Nat → Nat
/-- The tile that the detail of a tile's event names. -/
opaque detailTile : Nat → Nat

/-- SHA-512 of what a measurement block holds (R446), listed in the order of the rule. The spec gives no
byte encoding of a block's content. -/
opaque digest : List Nat → Nat
/-- What the SE ROM and the stock configuration images measure (R446, indices 1 and 4). -/
opaque seRom : Nat
opaque stockImages : Nat

/-- Which FP32 pattern RCP gives for an operand's pattern, within the bound of R127. -/
opaque rcp : Nat → Nat
/-- Which FP32 pattern RSQRT gives for an operand's pattern, within the bound of R127. -/
opaque rsqrt : Nat → Nat
/-- The FP32 pattern that EXP2 gives for an operand's pattern, where R126 states none. -/
opaque exp2 : Nat → Nat
/-- The FP32 pattern of the mean of a row's sum and its count (R136). -/
opaque mean : Nat → Nat → Nat
/-- An optimiser's result as an FP32 pattern, of the mode, of which value, and of its inputs: within the bounds of R136. -/
opaque optimiser : Nat → Nat → List Nat → Nat
/-- SAT of the narrowing writes of a stock configuration, by format: the spec does not state it. -/
opaque stockSat : Nat → Bool
/-- Byte of a stock function's configuration image (R148): the spec gives no image. -/
opaque stockByte : Nat → Nat → BitVec 8
/-- Byte of the key stream of a chunk (R439): key, salt, chunk index and place. -/
opaque keyStream : Nat → Nat → Nat → Nat → BitVec 8
/-- The GCM tag of a chunk, of key, salt, index and header. -/
opaque chunkTag : List Nat → Nat

end Sys2Proof.Config
end

