-- ==== Sys2Proof/Machine/Regs.lean ====
section
/-! DEFINITION. The registers of the parameter dictionary (R495), one definition for each entry of the
spec's entry tables: where the entry lies, how wide its value is, and its default. A register whose
table gives no default starts at 0 (DESIGN CHOICE, notes/assumptions/3.md) unless `State.reset` says otherwise. -/

namespace Sys2Proof.Machine

/-- A register, or a family of registers at a stride: the index of its first member, the distance
between members, the width of its value in bits and its default. -/
structure Reg where
  idx : Nat
  stride : Nat
  bits : Nat
  dflt : Nat
  /-- What the default grows by with the sub-index: the rule default of COL_SYNC_MAP (R379). -/
  step : Nat := 0
  deriving DecidableEq, Repr

/-- The place of member `u`, sub-index `sub`, in the register file. -/
def Reg.key (r : Reg) (u sub : Nat) : Nat := (r.idx + r.stride * u) * 256 + sub

/-- The default at a sub-index. -/
def Reg.dfltAt (r : Reg) (sub : Nat) : Nat := r.dflt + r.step * sub

/-- `BEAT_PERIOD`, 0x3000:00 (R67). -/
def Reg.beatPeriod : Reg := ⟨0x3000, 0x0, 64, 50000, 0⟩
/-- `BEAT_NUMBER`, 0x3001:00 (R67). -/
def Reg.beatNumber : Reg := ⟨0x3001, 0x0, 64, 0, 0⟩
/-- `BEAT_EPOCH`, 0x3002:00 (R67). -/
def Reg.beatEpoch : Reg := ⟨0x3002, 0x0, 64, 0, 0⟩
/-- `BEAT_SYNC_SRC`, 0x3003:00 (R67). -/
def Reg.beatSyncSrc : Reg := ⟨0x3003, 0x0, 8, 0, 0⟩
/-- `BEAT_ALIGN_STATE`, 0x3004:00 (R67). -/
def Reg.beatAlignState : Reg := ⟨0x3004, 0x0, 8, 0, 0⟩
/-- `BEAT_OFFSET`, 0x3005:00 (R67). -/
def Reg.beatOffset : Reg := ⟨0x3005, 0x0, 32, 0, 0⟩
/-- `BEAT_HOLDOVER`, 0x3006:00 (R67). -/
def Reg.beatHoldover : Reg := ⟨0x3006, 0x0, 64, 500000000, 0⟩
/-- `BEAT_LOCK_EDGES`, 0x3007:00 (R67). -/
def Reg.beatLockEdges : Reg := ⟨0x3007, 0x0, 8, 16, 0⟩
/-- `BEAT_TRIM_MAX`, 0x3008:00 (R67). -/
def Reg.beatTrimMax : Reg := ⟨0x3008, 0x0, 8, 2, 0⟩
/-- `BEAT_TOD_SECONDS`, 0x3009:00 (R67). -/
def Reg.beatTodSeconds : Reg := ⟨0x3009, 0x0, 64, 0, 0⟩
/-- `BEAT_PPS_OUT`, 0x300A:00 (R67). -/
def Reg.beatPpsOut : Reg := ⟨0x300A, 0x0, 8, 1, 0⟩
/-- `BEAT_ROUNDS`, 0x300B:00 (R67). -/
def Reg.beatRounds : Reg := ⟨0x300B, 0x0, 32, 0, 0⟩
/-- `BEAT_TIMING_MODE`, 0x3010:pp (R67). -/
def Reg.beatTimingMode : Reg := ⟨0x3010, 0x0, 8, 0, 0⟩
/-- `BEAT_OVERRUNS`, 0x3011:pp (R67). -/
def Reg.beatOverruns : Reg := ⟨0x3011, 0x0, 32, 0, 0⟩
/-- `BEAT_LOST_SLOTS`, 0x3012:pp (R67). -/
def Reg.beatLostSlots : Reg := ⟨0x3012, 0x0, 64, 0, 0⟩
/-- `BEAT_HUB_OVERRUNS`, 0x3013:00 (R67). -/
def Reg.beatHubOverruns : Reg := ⟨0x3013, 0x0, 32, 0, 0⟩
/-- `BEAT_STRETCH_ACTIVE`, 0x3014:00 (R67). -/
def Reg.beatStretchActive : Reg := ⟨0x3014, 0x0, 32, 0, 0⟩
/-- `BEAT_STRETCH_GRANTS`, 0x3015:00 (R67). -/
def Reg.beatStretchGrants : Reg := ⟨0x3015, 0x0, 64, 0, 0⟩
/-- `BEAT_ALIGN_LOSSES`, 0x3016:00 (R67). -/
def Reg.beatAlignLosses : Reg := ⟨0x3016, 0x0, 32, 0, 0⟩
/-- `BEAT_SKIPPED`, 0x3017:00 (R67). -/
def Reg.beatSkipped : Reg := ⟨0x3017, 0x0, 64, 0, 0⟩
/-- `TIL_SPARE_MAP`, 0x3A00:00 (R106). -/
def Reg.tilSpareMap : Reg := ⟨0x3A00, 0x0, 384, 0, 0⟩
/-- `TIL_FAILED`, 0x3A01:00 (R106). -/
def Reg.tilFailed : Reg := ⟨0x3A01, 0x0, 2304, 0, 0⟩
/-- `TIL_CCLK_MHZ`, 0x3A02:pp (R106). -/
def Reg.tilCclkMhz : Reg := ⟨0x3A02, 0x0, 16, 1300, 0⟩
/-- `TIL_CCLK_CAP_MHZ`, 0x3A03:pp (R106). -/
def Reg.tilCclkCapMhz : Reg := ⟨0x3A03, 0x0, 16, 1300, 0⟩
/-- `TIL_CCLK_EFFECTIVE`, 0x3A04:pp (R106). -/
def Reg.tilCclkEffective : Reg := ⟨0x3A04, 0x0, 16, 0, 0⟩
/-- `TIL_ROWCACHE_KIB`, 0x3A05:pp (R106). -/
def Reg.tilRowcacheKib : Reg := ⟨0x3A05, 0x0, 8, 0, 0⟩
/-- `TIL_COLBUF_KIB`, 0x3A06:pp (R106). -/
def Reg.tilColbufKib : Reg := ⟨0x3A06, 0x0, 8, 0, 0⟩
/-- `TIL_ACCEPT_DEGRADED`, 0x3A07:pp (R106). -/
def Reg.tilAcceptDegraded : Reg := ⟨0x3A07, 0x0, 8, 0, 0⟩
/-- `TIL_PATROL_EN`, 0x3A08:00 (R106). -/
def Reg.tilPatrolEn : Reg := ⟨0x3A08, 0x0, 8, 1, 0⟩
/-- `TIL_CE_COUNT`, 0x3A09:pp (R106). -/
def Reg.tilCeCount : Reg := ⟨0x3A09, 0x0, 32, 0, 0⟩
/-- `TIL_UE_COUNT`, 0x3A0A:pp (R106). -/
def Reg.tilUeCount : Reg := ⟨0x3A0A, 0x0, 32, 0, 0⟩
/-- `TIL_HALTS`, 0x3A0B:pp (R106). -/
def Reg.tilHalts : Reg := ⟨0x3A0B, 0x0, 64, 0, 0⟩
/-- `ARI_MX_SCALE_MODE`, 0x3A20:pp (R139). -/
def Reg.ariMxScaleMode : Reg := ⟨0x3A20, 0x0, 8, 0, 0⟩
/-- `ARI_CONV_REFUSED`, 0x3A21:pp (R139). -/
def Reg.ariConvRefused : Reg := ⟨0x3A21, 0x0, 32, 0, 0⟩
/-- `ARI_SR_KEY`, 0x3A40–0x3A5F:cc (R139). -/
def Reg.ariSrKey : Reg := ⟨0x3A40, 0x1, 64, 0, 0⟩
/-- `ARI_SR_EPOCH`, 0x3A60–0x3A7F:cc (R139). -/
def Reg.ariSrEpoch : Reg := ⟨0x3A60, 0x1, 64, 0, 0⟩
/-- `TIL_WQ_CFG`, 0x3A80–0x3A9F:qq (R163). -/
def Reg.tilWqCfg : Reg := ⟨0x3A80, 0x1, 256, 0, 0⟩
/-- `TIL_SAVE_BASE`, 0x3AA0:pp (R163). -/
def Reg.tilSaveBase : Reg := ⟨0x3AA0, 0x0, 64, 0, 0⟩
/-- `TIL_SVC_CFG`, 0x3AA1:pp (R163). -/
def Reg.tilSvcCfg : Reg := ⟨0x3AA1, 0x0, 16, 0, 0⟩
/-- `TIL_SVC_PLOTS`, 0x3AA2:pp (R163). -/
def Reg.tilSvcPlots : Reg := ⟨0x3AA2, 0x0, 64, 0, 0⟩
/-- `TIL_SVC_TIMEOUT`, 0x3AA3:pp (R163). -/
def Reg.tilSvcTimeout : Reg := ⟨0x3AA3, 0x0, 32, 200, 0⟩
/-- `TIL_CKPT_PLAN`, 0x3AA4:pp (R163). -/
def Reg.tilCkptPlan : Reg := ⟨0x3AA4, 0x0, 64, 0, 0⟩
/-- `TIL_CKPT_PERIOD`, 0x3AA5:pp (R163). -/
def Reg.tilCkptPeriod : Reg := ⟨0x3AA5, 0x0, 32, 0, 0⟩
/-- `TIL_WQ_DESCRIPTORS`, 0x3AA6:pp (R163). -/
def Reg.tilWqDescriptors : Reg := ⟨0x3AA6, 0x0, 64, 0, 0⟩
/-- `TIL_SVC_REQUESTS`, 0x3AA7:pp (R163). -/
def Reg.tilSvcRequests : Reg := ⟨0x3AA7, 0x0, 64, 0, 0⟩
/-- `TIL_SVC_BUSY`, 0x3AA8:pp (R163). -/
def Reg.tilSvcBusy : Reg := ⟨0x3AA8, 0x0, 32, 0, 0⟩
/-- `TIL_CKPT_DONE`, 0x3AA9:pp (R163). -/
def Reg.tilCkptDone : Reg := ⟨0x3AA9, 0x0, 32, 0, 0⟩
/-- `TIL_CKPT_FAILED`, 0x3AAA:pp (R163). -/
def Reg.tilCkptFailed : Reg := ⟨0x3AAA, 0x0, 32, 0, 0⟩
/-- `TIL_TABLE_REG`, 0x3AC0–0x3ADF:tt (R163). -/
def Reg.tilTableReg : Reg := ⟨0x3AC0, 0x1, 256, 0, 0⟩
/-- `NOC_RSP_TIMEOUT`, 0x31C0:00 (R187). -/
def Reg.nocRspTimeout : Reg := ⟨0x31C0, 0x0, 64, 200000, 0⟩
/-- `NOC_DAT_CE`, 0x31C1:00 (R187). -/
def Reg.nocDatCe : Reg := ⟨0x31C1, 0x0, 64, 0, 0⟩
/-- `NOC_DAT_UE`, 0x31C2:00 (R187). -/
def Reg.nocDatUe : Reg := ⟨0x31C2, 0x0, 32, 0, 0⟩
/-- `NOC_PARITY_ERR`, 0x31C3:00 (R187). -/
def Reg.nocParityErr : Reg := ⟨0x31C3, 0x0, 32, 0, 0⟩
/-- `NOC_TIMEOUTS`, 0x31C4:pp (R187). -/
def Reg.nocTimeouts : Reg := ⟨0x31C4, 0x0, 32, 0, 0⟩
/-- `NOC_BRIDGE_DISCARDS`, 0x31C5:00 (R187). -/
def Reg.nocBridgeDiscards : Reg := ⟨0x31C5, 0x0, 64, 0, 0⟩
/-- `NOC_CUT_FLITS`, 0x31C6:dd (R187). -/
def Reg.nocCutFlits : Reg := ⟨0x31C6, 0x0, 64, 0, 0⟩
/-- `NOC_PTN_CUT_FLITS`, 0x31C7:pp (R187). -/
def Reg.nocPtnCutFlits : Reg := ⟨0x31C7, 0x0, 64, 0, 0⟩
/-- `QOS_STAGE_SEL`, 0x3100:00 (R205). -/
def Reg.qosStageSel : Reg := ⟨0x3100, 0x0, 16, 0, 0⟩
/-- `QOS_STAGE_TABLE`, 0x3101:00 (R205). -/
def Reg.qosStageTable : Reg := ⟨0x3101, 0x0, 4096, 0, 0⟩
/-- `QOS_ACTIVE_TABLE`, 0x3102:00 (R205). -/
def Reg.qosActiveTable : Reg := ⟨0x3102, 0x0, 4096, 0, 0⟩
/-- `QOS_COMMIT`, 0x3103:00 (R205). -/
def Reg.qosCommit : Reg := ⟨0x3103, 0x0, 8, 0, 0⟩
/-- `QOS_COMMIT_STATUS`, 0x3104:00 (R205). -/
def Reg.qosCommitStatus : Reg := ⟨0x3104, 0x0, 8, 0, 0⟩
/-- `QOS_COMMIT_FAULT`, 0x3105:00 (R205). -/
def Reg.qosCommitFault : Reg := ⟨0x3105, 0x0, 64, 0, 0⟩
/-- `QOS_COMMIT_BEAT`, 0x3106:00 (R205). -/
def Reg.qosCommitBeat : Reg := ⟨0x3106, 0x0, 64, 0, 0⟩
/-- `QOS_THR_BULK`, 0x3110:00 (R205). -/
def Reg.qosThrBulk : Reg := ⟨0x3110, 0x0, 16, 4096, 0⟩
/-- `QOS_THR_BG`, 0x3111:00 (R205). -/
def Reg.qosThrBg : Reg := ⟨0x3111, 0x0, 16, 6144, 0⟩
/-- `QOS_HYST`, 0x3112:00 (R205). -/
def Reg.qosHyst : Reg := ⟨0x3112, 0x0, 16, 512, 0⟩
/-- `QOS_AGE`, 0x3113:00 (R205). -/
def Reg.qosAge : Reg := ⟨0x3113, 0x0, 8, 16, 0⟩
/-- `QOS_PTN_SHARE`, 0x3120:pp (R205). -/
def Reg.qosPtnShare : Reg := ⟨0x3120, 0x0, 128, 0, 0⟩
/-- `QOS_PTN_HELD`, 0x3121:pp (R205). -/
def Reg.qosPtnHeld : Reg := ⟨0x3121, 0x0, 64, 0, 0⟩
/-- `QOS_PTN_BORROWED`, 0x3122:pp (R205). -/
def Reg.qosPtnBorrowed : Reg := ⟨0x3122, 0x0, 64, 0, 0⟩
/-- `QOS_PTN_RETRIES`, 0x3123:pp (R205). -/
def Reg.qosPtnRetries : Reg := ⟨0x3123, 0x0, 64, 0, 0⟩
/-- `QOS_SYS_DEMOTED`, 0x3124:pp (R205). -/
def Reg.qosSysDemoted : Reg := ⟨0x3124, 0x0, 32, 0, 0⟩
/-- `QOS_PTN_AGED`, 0x3125:pp (R205). -/
def Reg.qosPtnAged : Reg := ⟨0x3125, 0x0, 64, 0, 0⟩
/-- `QOS_HA_LEVEL`, 0x3130:hh (R205). -/
def Reg.qosHaLevel : Reg := ⟨0x3130, 0x0, 16, 0, 0⟩
/-- `QOS_HA_LEVEL_MAX`, 0x3131:hh (R205). -/
def Reg.qosHaLevelMax : Reg := ⟨0x3131, 0x0, 16, 0, 0⟩
/-- `HBM_RATE`, 0x3400:00 (R242). -/
def Reg.hbmRate : Reg := ⟨0x3400, 0x0, 8, 4, 0⟩
/-- `HBM_STACKS_PRESENT`, 0x3401:00 (R242). -/
def Reg.hbmStacksPresent : Reg := ⟨0x3401, 0x0, 8, 0, 0⟩
/-- `HBM_STACK_STATE`, 0x3402:ss (R242). -/
def Reg.hbmStackState : Reg := ⟨0x3402, 0x0, 8, 0, 0⟩
/-- `HBM_TRAIN_RESULT`, 0x3403:ss (R242). -/
def Reg.hbmTrainResult : Reg := ⟨0x3403, 0x0, 32, 0, 0⟩
/-- `HBM_TEMP`, 0x3404:ss (R242). -/
def Reg.hbmTemp : Reg := ⟨0x3404, 0x0, 32, 0, 0⟩
/-- `HBM_THROTTLE_LEVEL`, 0x3405:ss (R242). -/
def Reg.hbmThrottleLevel : Reg := ⟨0x3405, 0x0, 8, 0, 0⟩
/-- `HBM_REFRESH_RATE`, 0x3406:ss (R242). -/
def Reg.hbmRefreshRate : Reg := ⟨0x3406, 0x0, 8, 0, 0⟩
/-- `HBM_TEMP_HIGH`, 0x3410:00 (R242). -/
def Reg.hbmTempHigh : Reg := ⟨0x3410, 0x0, 8, 85, 0⟩
/-- `HBM_TEMP_THROTTLE`, 0x3411:00 (R242). -/
def Reg.hbmTempThrottle : Reg := ⟨0x3411, 0x0, 8, 95, 0⟩
/-- `HBM_TEMP_CRIT`, 0x3412:00 (R242). -/
def Reg.hbmTempCrit : Reg := ⟨0x3412, 0x0, 8, 100, 0⟩
/-- `HBM_TEMP_HYST`, 0x3413:00 (R242). -/
def Reg.hbmTempHyst : Reg := ⟨0x3413, 0x0, 8, 3, 0⟩
/-- `HBM_RESUME_BEATS`, 0x3414:00 (R242). -/
def Reg.hbmResumeBeats : Reg := ⟨0x3414, 0x0, 32, 20, 0⟩
/-- `HBM_HUB_RESERVE`, 0x3420:00 (R242). -/
def Reg.hbmHubReserve : Reg := ⟨0x3420, 0x0, 16, 64, 0⟩
/-- `HBM_SPARE_GRANULES`, 0x3421:00 (R242). -/
def Reg.hbmSpareGranules : Reg := ⟨0x3421, 0x0, 16, 16, 0⟩
/-- `HBM_SPARE_FREE`, 0x3422:ss (R242). -/
def Reg.hbmSpareFree : Reg := ⟨0x3422, 0x0, 16, 0, 0⟩
/-- `HBM_OFFLINE`, 0x3423:ss (R242). -/
def Reg.hbmOffline : Reg := ⟨0x3423, 0x0, 32, 0, 0⟩
/-- `HBM_PPR_LEFT`, 0x3424:ss (R242). -/
def Reg.hbmPprLeft : Reg := ⟨0x3424, 0x0, 32, 0, 0⟩
/-- `HBM_PPR_SOFT`, 0x3425:ss (R242). -/
def Reg.hbmPprSoft : Reg := ⟨0x3425, 0x0, 32, 0, 0⟩
/-- `HBM_PPR_HARD`, 0x3426:ss (R242). -/
def Reg.hbmPprHard : Reg := ⟨0x3426, 0x0, 32, 0, 0⟩
/-- `HBM_PPR_PENDING`, 0x3427:ss (R242). -/
def Reg.hbmPprPending : Reg := ⟨0x3427, 0x0, 32, 0, 0⟩
/-- `HBM_ROW_CE_LIMIT`, 0x3428:00 (R242). -/
def Reg.hbmRowCeLimit : Reg := ⟨0x3428, 0x0, 8, 4, 0⟩
/-- `HBM_ROW_CE_WINDOW`, 0x3429:00 (R242). -/
def Reg.hbmRowCeWindow : Reg := ⟨0x3429, 0x0, 64, 3600000000000, 0⟩
/-- `HBM_PATROL_HOURS`, 0x342A:00 (R242). -/
def Reg.hbmPatrolHours : Reg := ⟨0x342A, 0x0, 16, 24, 0⟩
/-- `HBM_LINE_CODE`, 0x3430:pp (R242). -/
def Reg.hbmLineCode : Reg := ⟨0x3430, 0x0, 8, 0, 0⟩
/-- `HBM_CE_COUNT`, 0x3431:pp (R242). -/
def Reg.hbmCeCount : Reg := ⟨0x3431, 0x0, 64, 0, 0⟩
/-- `HBM_UE_COUNT`, 0x3432:pp (R242). -/
def Reg.hbmUeCount : Reg := ⟨0x3432, 0x0, 32, 0, 0⟩
/-- `HBM_READ_BYTES`, 0x3440:ss (R242). -/
def Reg.hbmReadBytes : Reg := ⟨0x3440, 0x0, 64, 0, 0⟩
/-- `HBM_WRITE_BYTES`, 0x3441:ss (R242). -/
def Reg.hbmWriteBytes : Reg := ⟨0x3441, 0x0, 64, 0, 0⟩
/-- `HBM_ACTIVATES`, 0x3442:ss (R242). -/
def Reg.hbmActivates : Reg := ⟨0x3442, 0x0, 64, 0, 0⟩
/-- `JAY_BEAT_BUDGET`, 0x3800:00 (R269). -/
def Reg.jayBeatBudget : Reg := ⟨0x3800, 0x0, 8, 16, 0⟩
/-- `JAY_STACK_BUDGET`, 0x3801:00 (R269). -/
def Reg.jayStackBudget : Reg := ⟨0x3801, 0x0, 8, 4, 0⟩
/-- `JAY_MODE`, 0x3802:pp (R269). -/
def Reg.jayMode : Reg := ⟨0x3802, 0x0, 8, 0, 0⟩
/-- `JAY_MISS_MODE`, 0x3803:pp (R269). -/
def Reg.jayMissMode : Reg := ⟨0x3803, 0x0, 8, 0, 0⟩
/-- `JAY_MISS_DEADLINE`, 0x3804:00 (R269). -/
def Reg.jayMissDeadline : Reg := ⟨0x3804, 0x0, 64, 50000, 0⟩
/-- `JAY_HOST_DEADLINE`, 0x3805:00 (R269). -/
def Reg.jayHostDeadline : Reg := ⟨0x3805, 0x0, 32, 4, 0⟩
/-- `JAY_HEAT_SAMPLE_LOG2`, 0x3806:00 (R269). -/
def Reg.jayHeatSampleLog2 : Reg := ⟨0x3806, 0x0, 8, 4, 0⟩
/-- `JAY_DECAY`, 0x3807:00 (R269). -/
def Reg.jayDecay : Reg := ⟨0x3807, 0x0, 8, 3, 0⟩
/-- `JAY_MOVE_MIN`, 0x3808:00 (R269). -/
def Reg.jayMoveMin : Reg := ⟨0x3808, 0x0, 8, 6, 0⟩
/-- `JAY_MOVE_MARGIN`, 0x3809:00 (R269). -/
def Reg.jayMoveMargin : Reg := ⟨0x3809, 0x0, 8, 4, 0⟩
/-- `JAY_MOVE_HOLD`, 0x380A:00 (R269). -/
def Reg.jayMoveHold : Reg := ⟨0x380A, 0x0, 32, 200, 0⟩
/-- `JAY_COPY_PASSES`, 0x380B:00 (R269). -/
def Reg.jayCopyPasses : Reg := ⟨0x380B, 0x0, 8, 2, 0⟩
/-- `JAY_LOCK_MAX`, 0x380C:00 (R269). -/
def Reg.jayLockMax : Reg := ⟨0x380C, 0x0, 64, 10000, 0⟩
/-- `JAY_ROW_HOT`, 0x380D:00 (R269). -/
def Reg.jayRowHot : Reg := ⟨0x380D, 0x0, 16, 64, 0⟩
/-- `JAY_ROW_FILLS`, 0x380E:00 (R269). -/
def Reg.jayRowFills : Reg := ⟨0x380E, 0x0, 16, 256, 0⟩
/-- `JAY_OWNER_SEL`, 0x380F:00 (R269). -/
def Reg.jayOwnerSel : Reg := ⟨0x380F, 0x0, 16, 0, 0⟩
/-- `JAY_OWNER_MAP`, 0x3810:00 (R269). -/
def Reg.jayOwnerMap : Reg := ⟨0x3810, 0x0, 2048, 0, 0⟩
/-- `JAY_HEAT_DROPPED`, 0x3811:00 (R269). -/
def Reg.jayHeatDropped : Reg := ⟨0x3811, 0x0, 64, 0, 0⟩
/-- `JAY_PTN_RANGE`, 0x3820:pp (R269). -/
def Reg.jayPtnRange : Reg := ⟨0x3820, 0x0, 64, 0, 0⟩
/-- `JAY_CMD`, 0x3821:pp (R269). -/
def Reg.jayCmd : Reg := ⟨0x3821, 0x0, 256, 0, 0⟩
/-- `JAY_CMD_RESULT`, 0x3822:pp (R269). -/
def Reg.jayCmdResult : Reg := ⟨0x3822, 0x0, 32, 0, 0⟩
/-- `JAY_MISS_PENDING`, 0x3823:pp (R269). -/
def Reg.jayMissPending : Reg := ⟨0x3823, 0x0, 2048, 0, 0⟩
/-- `JAY_MISS_VECTOR`, 0x3824:pp (R269). -/
def Reg.jayMissVector : Reg := ⟨0x3824, 0x0, 16, 0, 0⟩
/-- `JAY_CANDIDATES`, 0x3825:pp (R269). -/
def Reg.jayCandidates : Reg := ⟨0x3825, 0x0, 2048, 0, 0⟩
/-- `JAY_ENTRY_SEL`, 0x3826:pp (R269). -/
def Reg.jayEntrySel : Reg := ⟨0x3826, 0x0, 32, 0, 0⟩
/-- `JAY_ENTRY`, 0x3827:pp (R269). -/
def Reg.jayEntry : Reg := ⟨0x3827, 0x0, 128, 0, 0⟩
/-- `JAY_POOL`, 0x3828:pp (R269). -/
def Reg.jayPool : Reg := ⟨0x3828, 0x0, 32, 0, 0⟩
/-- `JAY_MAPPED`, 0x3829:pp (R269). -/
def Reg.jayMapped : Reg := ⟨0x3829, 0x0, 32, 0, 0⟩
/-- `JAY_MIGRATIONS`, 0x382A:pp (R269). -/
def Reg.jayMigrations : Reg := ⟨0x382A, 0x0, 64, 0, 0⟩
/-- `JAY_MIG_CANCELLED`, 0x382B:pp (R269). -/
def Reg.jayMigCancelled : Reg := ⟨0x382B, 0x0, 32, 0, 0⟩
/-- `JAY_MIG_ABANDONED`, 0x382C:pp (R269). -/
def Reg.jayMigAbandoned : Reg := ⟨0x382C, 0x0, 32, 0, 0⟩
/-- `JAY_XLATE_REFUSED`, 0x382D:pp (R269). -/
def Reg.jayXlateRefused : Reg := ⟨0x382D, 0x0, 32, 0, 0⟩
/-- `JAY_ROW_HITS`, 0x382E:pp (R269). -/
def Reg.jayRowHits : Reg := ⟨0x382E, 0x0, 64, 0, 0⟩
/-- `UCI_RATE`, 0x4k00:00 (R300). -/
def Reg.uciRate : Reg := ⟨0x4000, 0x100, 8, 2, 0⟩
/-- `UCI_PROTO_ALLOW`, 0x4k01:00 (R300). -/
def Reg.uciProtoAllow : Reg := ⟨0x4001, 0x100, 2, 3, 0⟩
/-- `UCI_REPAIR_MODE`, 0x4k02:00 (R300). -/
def Reg.uciRepairMode : Reg := ⟨0x4002, 0x100, 8, 0, 0⟩
/-- `UCI_REPAIR_DEADLINE`, 0x4k03:00 (R300). -/
def Reg.uciRepairDeadline : Reg := ⟨0x4003, 0x100, 64, 500000000, 0⟩
/-- `UCI_REPAIR_PENDING`, 0x4k04:00 (R300). -/
def Reg.uciRepairPending : Reg := ⟨0x4004, 0x100, 1024, 0, 0⟩
/-- `UCI_REPAIR_ACCEPT`, 0x4k05:00 (R300). -/
def Reg.uciRepairAccept : Reg := ⟨0x4005, 0x100, 16, 0, 0⟩
/-- `UCI_REPAIR_MAP`, 0x4k06:mm (R300). -/
def Reg.uciRepairMap : Reg := ⟨0x4006, 0x100, 64, 0, 0⟩
/-- `UCI_REPAIR_OTP`, 0x4k07:mm (R300). -/
def Reg.uciRepairOtp : Reg := ⟨0x4007, 0x100, 64, 0, 0⟩
/-- `UCI_LINK_STATE`, 0x4k08:00 (R300). -/
def Reg.uciLinkState : Reg := ⟨0x4008, 0x100, 8, 0, 0⟩
/-- `UCI_MODULES`, 0x4k09:00 (R300). -/
def Reg.uciModules : Reg := ⟨0x4009, 0x100, 16, 0, 0⟩
/-- `UCI_RATE_EFFECTIVE`, 0x4k0A:00 (R300). -/
def Reg.uciRateEffective : Reg := ⟨0x400A, 0x100, 8, 0, 0⟩
/-- `UCI_PROTOCOL`, 0x4k0B:00 (R300). -/
def Reg.uciProtocol : Reg := ⟨0x400B, 0x100, 8, 0, 0⟩
/-- `UCI_CAP`, 0x4k10:00 (R300). -/
def Reg.uciCap : Reg := ⟨0x4010, 0x100, 128, 0, 0⟩
/-- `UCI_HTL_LEVEL`, 0x4k11:00 (R300). -/
def Reg.uciHtlLevel : Reg := ⟨0x4011, 0x100, 8, 0, 0⟩
/-- `UCI_ATTEST_STATE`, 0x4k12:00 (R300). -/
def Reg.uciAttestState : Reg := ⟨0x4012, 0x100, 8, 0, 0⟩
/-- `UCI_BIND`, 0x4k13:00 (R300). -/
def Reg.uciBind : Reg := ⟨0x4013, 0x100, 32, 0, 0⟩
/-- `UCI_ACCEPT_UNATTESTED`, 0x4k14:pp (R300). -/
def Reg.uciAcceptUnattested : Reg := ⟨0x4014, 0x100, 8, 0, 0⟩
/-- `UCI_COH_ROLE`, 0x4k15:pp (R300). -/
def Reg.uciCohRole : Reg := ⟨0x4015, 0x100, 8, 0, 0⟩
/-- `UCI_RESET_CMD`, 0x4k16:00 (R300). -/
def Reg.uciResetCmd : Reg := ⟨0x4016, 0x100, 8, 0, 0⟩
/-- `UCI_QUIESCE_TIME`, 0x4k17:00 (R300). -/
def Reg.uciQuiesceTime : Reg := ⟨0x4017, 0x100, 64, 100000, 0⟩
/-- `UCI_RETRIES`, 0x4k20:00 (R300). -/
def Reg.uciRetries : Reg := ⟨0x4020, 0x100, 64, 0, 0⟩
/-- `UCI_RETRAINS`, 0x4k21:00 (R300). -/
def Reg.uciRetrains : Reg := ⟨0x4021, 0x100, 32, 0, 0⟩
/-- `UCI_MODULES_LOST`, 0x4k22:00 (R300). -/
def Reg.uciModulesLost : Reg := ⟨0x4022, 0x100, 32, 0, 0⟩
/-- `UCI_LOSSES`, 0x4k23:00 (R300). -/
def Reg.uciLosses : Reg := ⟨0x4023, 0x100, 32, 0, 0⟩
/-- `UCI_RESETS`, 0x4k24:00 (R300). -/
def Reg.uciResets : Reg := ⟨0x4024, 0x100, 32, 0, 0⟩
/-- `HTL_REFUSED`, 0x4k30:ss (R323). -/
def Reg.htlRefused : Reg := ⟨0x4030, 0x100, 64, 0, 0⟩
/-- `HTL_PTN_LEVEL`, 0x4k31:pp (R323). -/
def Reg.htlPtnLevel : Reg := ⟨0x4031, 0x100, 8, 0, 0⟩
/-- `HTL_HDR_PARITY`, 0x4k32:00 (R323). -/
def Reg.htlHdrParity : Reg := ⟨0x4032, 0x100, 32, 0, 0⟩
/-- `HTL_STASH_DROPPED`, 0x4k33:00 (R323). -/
def Reg.htlStashDropped : Reg := ⟨0x4033, 0x100, 64, 0, 0⟩
/-- `COH_PTN_LEVEL`, 0x3C00:pp (R349). -/
def Reg.cohPtnLevel : Reg := ⟨0x3C00, 0x0, 8, 2, 0⟩
/-- `COH_SF_WAYS`, 0x3C01:pp (R349). -/
def Reg.cohSfWays : Reg := ⟨0x3C01, 0x0, 8, 2, 0⟩
/-- `COH_SNP_TIMEOUT`, 0x3C02:00 (R349). -/
def Reg.cohSnpTimeout : Reg := ⟨0x3C02, 0x0, 64, 50000, 0⟩
/-- `COH_DOMAIN_STATE`, 0x3C03:pp (R349). -/
def Reg.cohDomainState : Reg := ⟨0x3C03, 0x0, 8, 0, 0⟩
/-- `COH_SF_ENTRIES`, 0x3C04:pp (R349). -/
def Reg.cohSfEntries : Reg := ⟨0x3C04, 0x0, 32, 0, 0⟩
/-- `COH_SNOOPS`, 0x3C05:pp (R349). -/
def Reg.cohSnoops : Reg := ⟨0x3C05, 0x0, 64, 0, 0⟩
/-- `COH_CAP_RECALLS`, 0x3C06:pp (R349). -/
def Reg.cohCapRecalls : Reg := ⟨0x3C06, 0x0, 64, 0, 0⟩
/-- `COH_STALE_WB`, 0x3C07:pp (R349). -/
def Reg.cohStaleWb : Reg := ⟨0x3C07, 0x0, 64, 0, 0⟩
/-- `COH_TAKEDOWNS`, 0x3C08:pp (R349). -/
def Reg.cohTakedowns : Reg := ⟨0x3C08, 0x0, 32, 0, 0⟩
/-- `COH_LAST_ERROR`, 0x3C09:pp (R349). -/
def Reg.cohLastError : Reg := ⟨0x3C09, 0x0, 64, 0, 0⟩
/-- `COH_SF_USED`, 0x3C0A:hh (R349). -/
def Reg.cohSfUsed : Reg := ⟨0x3C0A, 0x0, 32, 0, 0⟩
/-- `SOX_PKG_ID`, 0x4800:00 (R378). -/
def Reg.soxPkgId : Reg := ⟨0x4800, 0x0, 32, 0, 0⟩
/-- `SOX_ENCAP`, 0x4801:00 (R378). -/
def Reg.soxEncap : Reg := ⟨0x4801, 0x0, 8, 0, 0⟩
/-- `SOX_ETHERTYPE`, 0x4802:00 (R378). -/
def Reg.soxEthertype : Reg := ⟨0x4802, 0x0, 16, 34997, 0⟩
/-- `SOX_UDP_PORT`, 0x4803:00 (R378). -/
def Reg.soxUdpPort : Reg := ⟨0x4803, 0x0, 16, 50613, 0⟩
/-- `SOX_IPV6_PREFIX`, 0x4804:ee (R378). -/
def Reg.soxIpv6Prefix : Reg := ⟨0x4804, 0x0, 64, 0, 0⟩
/-- `SOX_PORT_RATE`, 0x4805:ee (R378). -/
def Reg.soxPortRate : Reg := ⟨0x4805, 0x0, 8, 0, 0⟩
/-- `SOX_PORT_STATE`, 0x4806:ee (R378). -/
def Reg.soxPortState : Reg := ⟨0x4806, 0x0, 8, 0, 0⟩
/-- `SOX_VLAN`, 0x4807:ee (R378). -/
def Reg.soxVlan : Reg := ⟨0x4807, 0x0, 16, 0, 0⟩
/-- `SOX_PTP_EN`, 0x4808:00 (R378). -/
def Reg.soxPtpEn : Reg := ⟨0x4808, 0x0, 16, 65535, 0⟩
/-- `SOX_PTP_DOMAIN`, 0x4809:00 (R378). -/
def Reg.soxPtpDomain : Reg := ⟨0x4809, 0x0, 8, 0, 0⟩
/-- `SOX_PTP_LOG_SYNC`, 0x480A:00 (R378). -/
def Reg.soxPtpLogSync : Reg := ⟨0x480A, 0x0, 32, 4294967292, 0⟩
/-- `SOX_PTP_ASYM`, 0x480B:ee (R378). -/
def Reg.soxPtpAsym : Reg := ⟨0x480B, 0x0, 32, 0, 0⟩
/-- `SOX_PTP_PORT`, 0x480C:00 (R378). -/
def Reg.soxPtpPort : Reg := ⟨0x480C, 0x0, 8, 0, 0⟩
/-- `SOX_ECN`, 0x4810:00 (R378). -/
def Reg.soxEcn : Reg := ⟨0x4810, 0x0, 8, 1, 0⟩
/-- `SOX_CC_START`, 0x4811:00 (R378). -/
def Reg.soxCcStart : Reg := ⟨0x4811, 0x0, 32, 50000, 0⟩
/-- `SOX_CC_AI`, 0x4812:00 (R378). -/
def Reg.soxCcAi : Reg := ⟨0x4812, 0x0, 32, 1000, 0⟩
/-- `SOX_CC_PERIOD`, 0x4813:00 (R378). -/
def Reg.soxCcPeriod : Reg := ⟨0x4813, 0x0, 64, 5000, 0⟩
/-- `SOX_CC_RTT_TARGET`, 0x4814:00 (R378). -/
def Reg.soxCcRttTarget : Reg := ⟨0x4814, 0x0, 64, 20000, 0⟩
/-- `SOX_RTO_MIN`, 0x4815:00 (R378). -/
def Reg.soxRtoMin : Reg := ⟨0x4815, 0x0, 64, 50000, 0⟩
/-- `SOX_WINDOW`, 0x4816:00 (R378). -/
def Reg.soxWindow : Reg := ⟨0x4816, 0x0, 16, 1024, 0⟩
/-- `SOX_CONN_IDLE`, 0x4817:00 (R378). -/
def Reg.soxConnIdle : Reg := ⟨0x4817, 0x0, 64, 100000000, 0⟩
/-- `SOX_PTN_CONN_MAX`, 0x4818:pp (R378). -/
def Reg.soxPtnConnMax : Reg := ⟨0x4818, 0x0, 16, 1024, 0⟩
/-- `SOX_EGRESS_TABLE`, 0x4820:ee (R378). -/
def Reg.soxEgressTable : Reg := ⟨0x4820, 0x0, 4096, 0, 0⟩
/-- `SOX_MGMT_EN`, 0x4828:00 (R378). -/
def Reg.soxMgmtEn : Reg := ⟨0x4828, 0x0, 8, 0, 0⟩
/-- `SOX_MGMT_RATE`, 0x4829:00 (R378). -/
def Reg.soxMgmtRate : Reg := ⟨0x4829, 0x0, 16, 64, 0⟩
/-- `SOX_PAIR_MODE`, 0x4830:00 (R378). -/
def Reg.soxPairMode : Reg := ⟨0x4830, 0x0, 8, 0, 0⟩
/-- `SOX_PAIR_ROLE`, 0x4831:00 (R378). -/
def Reg.soxPairRole : Reg := ⟨0x4831, 0x0, 8, 0, 0⟩
/-- `SOX_PAIR_FMT`, 0x4832:00 (R378). -/
def Reg.soxPairFmt : Reg := ⟨0x4832, 0x0, 8, 1, 0⟩
/-- `SOX_PAIR_QUORUM`, 0x4833:00 (R378). -/
def Reg.soxPairQuorum : Reg := ⟨0x4833, 0x0, 8, 9, 0⟩
/-- `SOX_JOURNAL_MAX`, 0x4834:00 (R378). -/
def Reg.soxJournalMax : Reg := ⟨0x4834, 0x0, 32, 1048576, 0⟩
/-- `SOX_COMMITTED_BEAT`, 0x4835:00 (R378). -/
def Reg.soxCommittedBeat : Reg := ⟨0x4835, 0x0, 64, 0, 0⟩
/-- `SOX_PAIR_REFUSED`, 0x4836:00 (R378). -/
def Reg.soxPairRefused : Reg := ⟨0x4836, 0x0, 8, 0, 0⟩
/-- `SOX_MIRROR`, 0x4837:pp (R378). -/
def Reg.soxMirror : Reg := ⟨0x4837, 0x0, 8, 0, 0⟩
/-- `SOX_MIRROR_QUEUE_MIB`, 0x4838:00 (R378). -/
def Reg.soxMirrorQueueMib : Reg := ⟨0x4838, 0x0, 16, 64, 0⟩
/-- `SOX_DROPPED`, 0x4840:ee (R378). -/
def Reg.soxDropped : Reg := ⟨0x4840, 0x0, 384, 0, 0⟩
/-- `SOX_RETX`, 0x4841:pp (R378). -/
def Reg.soxRetx : Reg := ⟨0x4841, 0x0, 64, 0, 0⟩
/-- `SOX_CNP_RX`, 0x4842:pp (R378). -/
def Reg.soxCnpRx : Reg := ⟨0x4842, 0x0, 64, 0, 0⟩
/-- `SOX_CONN_FAILED`, 0x4843:pp (R378). -/
def Reg.soxConnFailed : Reg := ⟨0x4843, 0x0, 32, 0, 0⟩
/-- `SOX_TAKEOVERS`, 0x4844:00 (R378). -/
def Reg.soxTakeovers : Reg := ⟨0x4844, 0x0, 32, 0, 0⟩
/-- `COL_SYNC_MAP`, 0x4900:pp (R404). -/
def Reg.colSyncMap : Reg := ⟨0x4900, 0x0, 256, 6901746348397501832067890557062810977804457548122955938387684860363008, 452312848688578680066401275547668380241392929873786040378175315008750092288⟩
/-- `COL_WAIT_LIMIT`, 0x4901:00 (R404). -/
def Reg.colWaitLimit : Reg := ⟨0x4901, 0x0, 64, 20000, 0⟩
/-- `COL_SCHED_MODE`, 0x4902:pp (R404). -/
def Reg.colSchedMode : Reg := ⟨0x4902, 0x0, 8, 0, 0⟩
/-- `COL_LEVEL_NS`, 0x4903:00 (R404). -/
def Reg.colLevelNs : Reg := ⟨0x4903, 0x0, 64, 1300, 0⟩
/-- `COL_GRANT_MARGIN`, 0x4904:00 (R404). -/
def Reg.colGrantMargin : Reg := ⟨0x4904, 0x0, 64, 2000, 0⟩
/-- `COL_FORM_TIMEOUT`, 0x4905:00 (R404). -/
def Reg.colFormTimeout : Reg := ⟨0x4905, 0x0, 64, 100000000, 0⟩
/-- `COL_RING_CFG`, 0x4906:pp (R404). -/
def Reg.colRingCfg : Reg := ⟨0x4906, 0x0, 256, 0, 0⟩
/-- `COL_GROUP`, 0x4910–0x492F:gg (R404). -/
def Reg.colGroup : Reg := ⟨0x4910, 0x1, 256, 0, 0⟩
/-- `COL_GROUP_STATE`, 0x4930–0x494F:gg (R404). -/
def Reg.colGroupState : Reg := ⟨0x4930, 0x1, 16, 0, 0⟩
/-- `COL_COMPLETED`, 0x4950:pp (R404). -/
def Reg.colCompleted : Reg := ⟨0x4950, 0x0, 64, 0, 0⟩
/-- `COL_ABORTED`, 0x4951:pp (R404). -/
def Reg.colAborted : Reg := ⟨0x4951, 0x0, 32, 0, 0⟩
/-- `COL_STRETCHED`, 0x4952:pp (R404). -/
def Reg.colStretched : Reg := ⟨0x4952, 0x0, 32, 0, 0⟩
/-- `COL_WAIT_FULL`, 0x4953:pp (R404). -/
def Reg.colWaitFull : Reg := ⟨0x4953, 0x0, 64, 0, 0⟩
/-- `COL_SYNC_ERRORS`, 0x4954:pp (R404). -/
def Reg.colSyncErrors : Reg := ⟨0x4954, 0x0, 32, 0, 0⟩
/-- `COL_REDIRECT`, 0x4958:00 (R404). -/
def Reg.colRedirect : Reg := ⟨0x4958, 0x0, 8, 0, 0⟩
/-- `PTN_STATE`, P+0x00:00 (R426). -/
def Reg.ptnState : Reg := ⟨0x2000, 0x40, 8, 0, 0⟩
/-- `PTN_CMD`, P+0x01:00 (R426). -/
def Reg.ptnCmd : Reg := ⟨0x2001, 0x40, 16, 0, 0⟩
/-- `PTN_PLOTS`, P+0x02:00 (R426). -/
def Reg.ptnPlots : Reg := ⟨0x2002, 0x40, 64, 0, 0⟩
/-- `PTN_GRANULES`, P+0x03:00 (R426). -/
def Reg.ptnGranules : Reg := ⟨0x2003, 0x40, 256, 0, 0⟩
/-- `PTN_CMD_FAULT`, P+0x04:00 (R426). -/
def Reg.ptnCmdFault : Reg := ⟨0x2004, 0x40, 16, 0, 0⟩
/-- `PTN_SEAL_REQ`, P+0x05:00 (R426). -/
def Reg.ptnSealReq : Reg := ⟨0x2005, 0x40, 2, 0, 0⟩
/-- `PTN_SEAL_BEAT`, P+0x06:00 (R426). -/
def Reg.ptnSealBeat : Reg := ⟨0x2006, 0x40, 64, 0, 0⟩
/-- `PTN_CTX_COUNT`, P+0x07:00 (R426). -/
def Reg.ptnCtxCount : Reg := ⟨0x2007, 0x40, 8, 1, 0⟩
/-- `PTN_CTX_SCHED_MODE`, P+0x08:00 (R426). -/
def Reg.ptnCtxSchedMode : Reg := ⟨0x2008, 0x40, 8, 0, 0⟩
/-- `PTN_CTX_ENABLE`, P+0x09:00 (R426). -/
def Reg.ptnCtxEnable : Reg := ⟨0x2009, 0x40, 16, 1, 0⟩
/-- `PTN_CTX_QUANTUM`, P+0x0A:00 (R426). -/
def Reg.ptnCtxQuantum : Reg := ⟨0x200A, 0x40, 32, 20, 0⟩
/-- `PTN_CTX_NEXT`, P+0x0B:00 (R426). -/
def Reg.ptnCtxNext : Reg := ⟨0x200B, 0x40, 64, 0, 0⟩
/-- `PTN_CTX_DEADLINE`, P+0x0C:00 (R426). -/
def Reg.ptnCtxDeadline : Reg := ⟨0x200C, 0x40, 32, 4, 0⟩
/-- `PTN_SCHED_VECTOR`, P+0x0D:00 (R426). -/
def Reg.ptnSchedVector : Reg := ⟨0x200D, 0x40, 16, 0, 0⟩
/-- `PTN_CTX_RUNNING`, P+0x0E:00 (R426). -/
def Reg.ptnCtxRunning : Reg := ⟨0x200E, 0x40, 8, 255, 0⟩
/-- `PTN_SWITCH_BOUND`, P+0x0F:00 (R426). -/
def Reg.ptnSwitchBound : Reg := ⟨0x200F, 0x40, 64, 0, 0⟩
/-- `PTN_SWITCHES`, P+0x10:00 (R426). -/
def Reg.ptnSwitches : Reg := ⟨0x2010, 0x40, 64, 0, 0⟩
/-- `PTN_POST_BASE`, P+0x11:00 (R426). -/
def Reg.ptnPostBase : Reg := ⟨0x2011, 0x40, 64, 0, 0⟩
/-- `PTN_INTR_MAP`, P+0x12:ss (R426). -/
def Reg.ptnIntrMap : Reg := ⟨0x2012, 0x40, 1024, 0, 0⟩
/-- `PTN_INTR_PEND`, P+0x13:00 (R426). -/
def Reg.ptnIntrPend : Reg := ⟨0x2013, 0x40, 512, 0, 0⟩
/-- `PTN_FAULT_VECTOR`, P+0x14:00 (R426). -/
def Reg.ptnFaultVector : Reg := ⟨0x2014, 0x40, 16, 0, 0⟩
/-- `PTN_INTR_DROPPED`, P+0x15:00 (R426). -/
def Reg.ptnIntrDropped : Reg := ⟨0x2015, 0x40, 32, 0, 0⟩
/-- `PTN_WINDOW`, P+0x16:ww (R426). -/
def Reg.ptnWindow : Reg := ⟨0x2016, 0x40, 128, 0, 0⟩
/-- `PTN_EXPORT`, P+0x17:ww (R426). -/
def Reg.ptnExport : Reg := ⟨0x2017, 0x40, 128, 0, 0⟩
/-- `PTN_WINDOW_STATE`, P+0x18:00 (R426). -/
def Reg.ptnWindowState : Reg := ⟨0x2018, 0x40, 16, 0, 0⟩
/-- `PTN_RESETS`, P+0x19:00 (R426). -/
def Reg.ptnResets : Reg := ⟨0x2019, 0x40, 256, 0, 0⟩
/-- `PTN_SCRUB_LEFT`, P+0x1A:00 (R426). -/
def Reg.ptnScrubLeft : Reg := ⟨0x201A, 0x40, 32, 0, 0⟩
/-- `SEC_STATE`, 0x5000:00 (R454). -/
def Reg.secState : Reg := ⟨0x5000, 0x0, 8, 0, 0⟩
/-- `SEC_APPROVED`, 0x5001:00 (R454). -/
def Reg.secApproved : Reg := ⟨0x5001, 0x0, 8, 0, 0⟩
/-- `SEC_FW_VERSION`, 0x5002:00 (R454). -/
def Reg.secFwVersion : Reg := ⟨0x5002, 0x0, 64, 0, 0⟩
/-- `SEC_DEVID_DIGEST`, 0x5003:00 (R454). -/
def Reg.secDevidDigest : Reg := ⟨0x5003, 0x0, 512, 0, 0⟩
/-- `SEC_ZEROISE`, 0x5004:00 (R454). -/
def Reg.secZeroise : Reg := ⟨0x5004, 0x0, 8, 0, 0⟩
/-- `SEC_SELFTEST`, 0x5005:00 (R454). -/
def Reg.secSelftest : Reg := ⟨0x5005, 0x0, 8, 0, 0⟩
/-- `SEC_KAT_PERIOD`, 0x5006:00 (R454). -/
def Reg.secKatPeriod : Reg := ⟨0x5006, 0x0, 64, 1000000000, 0⟩
/-- `SEC_MCTP_EID`, 0x5007:00 (R454). -/
def Reg.secMctpEid : Reg := ⟨0x5007, 0x0, 8, 32, 0⟩
/-- `SEC_PAK_DIGEST`, 0x5010:pp (R454). -/
def Reg.secPakDigest : Reg := ⟨0x5010, 0x0, 512, 0, 0⟩
/-- `SEC_KEY_DELIVER`, 0x5011:pp (R454). -/
def Reg.secKeyDeliver : Reg := ⟨0x5011, 0x0, 19072, 0, 0⟩
/-- `SEC_KEY_STATUS`, 0x5012:pp (R454). -/
def Reg.secKeyStatus : Reg := ⟨0x5012, 0x0, 64, 0, 0⟩
/-- `SEC_IMPORT`, 0x5013:pp (R454). -/
def Reg.secImport : Reg := ⟨0x5013, 0x0, 256, 0, 0⟩
/-- `SEC_IMPORT_RESULT`, 0x5014:pp (R454). -/
def Reg.secImportResult : Reg := ⟨0x5014, 0x0, 64, 0, 0⟩
/-- `SEC_ROTATE`, 0x5015:pp (R454). -/
def Reg.secRotate : Reg := ⟨0x5015, 0x0, 8, 0, 0⟩
/-- `SEC_ROTATE_STATE`, 0x5016:pp (R454). -/
def Reg.secRotateState : Reg := ⟨0x5016, 0x0, 8, 0, 0⟩
/-- `SEC_MEM_KGEN`, 0x5017:pp (R454). -/
def Reg.secMemKgen : Reg := ⟨0x5017, 0x0, 8, 0, 0⟩
/-- `SEC_FK_GRACE`, 0x5018:pp (R454). -/
def Reg.secFkGrace : Reg := ⟨0x5018, 0x0, 32, 20, 0⟩
/-- `SEC_CHIPLET_POLICY`, 0x5019:pp (R454). -/
def Reg.secChipletPolicy : Reg := ⟨0x5019, 0x0, 4096, 0, 0⟩
/-- `SEC_TENANT_KEY`, 0x501A:pp (R454). -/
def Reg.secTenantKey : Reg := ⟨0x501A, 0x0, 15872, 0, 0⟩
/-- `SEC_DEBUG_NONCE`, 0x501B:pp (R454). -/
def Reg.secDebugNonce : Reg := ⟨0x501B, 0x0, 128, 0, 0⟩
/-- `SEC_DEBUG_GRANT`, 0x501C:pp (R454). -/
def Reg.secDebugGrant : Reg := ⟨0x501C, 0x0, 28672, 0, 0⟩
/-- `SEC_DEBUG_STATE`, 0x501D:pp (R454). -/
def Reg.secDebugState : Reg := ⟨0x501D, 0x0, 32, 0, 0⟩
/-- `SEC_DEBUG_CMD`, 0x501E:pp (R454). -/
def Reg.secDebugCmd : Reg := ⟨0x501E, 0x0, 256, 0, 0⟩
/-- `SEC_DEBUG_DATA`, 0x501F:pp (R454). -/
def Reg.secDebugData : Reg := ⟨0x501F, 0x0, 2048, 0, 0⟩
/-- `SEC_MAC_FAILS`, 0x5020:pp (R454). -/
def Reg.secMacFails : Reg := ⟨0x5020, 0x0, 32, 0, 0⟩
/-- `SEC_REVOCATIONS`, 0x5021:pp (R454). -/
def Reg.secRevocations : Reg := ⟨0x5021, 0x0, 32, 0, 0⟩
/-- `LCS_STATE`, 0x1100:00 (R471). -/
def Reg.lcsState : Reg := ⟨0x1100, 0x0, 8, 0, 0⟩
/-- `LCS_MARKS`, 0x1101:00 (R471). -/
def Reg.lcsMarks : Reg := ⟨0x1101, 0x0, 80, 0, 0⟩
/-- `LCS_PENDING`, 0x1102:00 (R471). -/
def Reg.lcsPending : Reg := ⟨0x1102, 0x0, 8, 255, 0⟩
/-- `LCS_UNIT_ID`, 0x1103:00 (R471). -/
def Reg.lcsUnitId : Reg := ⟨0x1103, 0x0, 64, 0, 0⟩
/-- `LCS_NONCE`, 0x1104:00 (R471). -/
def Reg.lcsNonce : Reg := ⟨0x1104, 0x0, 128, 0, 0⟩
/-- `LCS_TRANSITION`, 0x1105:00 (R471). -/
def Reg.lcsTransition : Reg := ⟨0x1105, 0x0, 86784, 0, 0⟩
/-- `LCS_TRANSITION_STATUS`, 0x1106:00 (R471). -/
def Reg.lcsTransitionStatus : Reg := ⟨0x1106, 0x0, 32, 0, 0⟩
/-- `LCS_TOKEN`, 0x1107:00 (R471). -/
def Reg.lcsToken : Reg := ⟨0x1107, 0x0, 86784, 0, 0⟩
/-- `LCS_DEBUG_SCOPE`, 0x1108:00 (R471). -/
def Reg.lcsDebugScope : Reg := ⟨0x1108, 0x0, 32, 0, 0⟩
/-- `LCS_SVN`, 0x1109:00 (R471). -/
def Reg.lcsSvn : Reg := ⟨0x1109, 0x0, 8, 0, 0⟩
/-- `LCS_SVN_COMMIT`, 0x110A:00 (R471). -/
def Reg.lcsSvnCommit : Reg := ⟨0x110A, 0x0, 8, 0, 0⟩
/-- `LCS_BSCAN_EN`, 0x110B:00 (R471). -/
def Reg.lcsBscanEn : Reg := ⟨0x110B, 0x0, 8, 0, 0⟩
/-- `LCS_OWNER_DIGEST`, 0x110C:00 (R471). -/
def Reg.lcsOwnerDigest : Reg := ⟨0x110C, 0x0, 512, 0, 0⟩
/-- `LCS_PUF_SLOT`, 0x110D:00 (R471). -/
def Reg.lcsPufSlot : Reg := ⟨0x110D, 0x0, 8, 0, 0⟩
/-- `HEP_LINK_STATE`, 0x4C00:00 (R494). -/
def Reg.hepLinkState : Reg := ⟨0x4C00, 0x0, 8, 0, 0⟩
/-- `HEP_LINK_RATE`, 0x4C01:00 (R494). -/
def Reg.hepLinkRate : Reg := ⟨0x4C01, 0x0, 16, 0, 0⟩
/-- `HEP_HOST_STATE`, 0x4C02:00 (R494). -/
def Reg.hepHostState : Reg := ⟨0x4C02, 0x0, 8, 0, 0⟩
/-- `HEP_SLOT`, 0x4C03:00 (R494). -/
def Reg.hepSlot : Reg := ⟨0x4C03, 0x0, 32, 0, 0⟩
/-- `HEP_DEBOUNCE`, 0x4C04:00 (R494). -/
def Reg.hepDebounce : Reg := ⟨0x4C04, 0x0, 64, 20000000, 0⟩
/-- `HEP_REMOVE_DEADLINE`, 0x4C05:00 (R494). -/
def Reg.hepRemoveDeadline : Reg := ⟨0x4C05, 0x0, 64, 30000000000, 0⟩
/-- `HEP_CPL_BOUND`, 0x4C06:00 (R494). -/
def Reg.hepCplBound : Reg := ⟨0x4C06, 0x0, 64, 0, 0⟩
/-- `HEP_HOST_CKPT`, 0x4C10:pp (R494). -/
def Reg.hepHostCkpt : Reg := ⟨0x4C10, 0x0, 8, 0, 0⟩
/-- `HEP_WTT_MISSES`, 0x4C11:pp (R494). -/
def Reg.hepWttMisses : Reg := ⟨0x4C11, 0x0, 32, 0, 0⟩
/-- `HEP_REFUSED`, 0x4C12:pp (R494). -/
def Reg.hepRefused : Reg := ⟨0x4C12, 0x0, 64, 0, 0⟩
/-- `HEP_SURPRISE_LOSSES`, 0x4C20:00 (R494). -/
def Reg.hepSurpriseLosses : Reg := ⟨0x4C20, 0x0, 32, 0, 0⟩
/-- `HEP_INTR_DISCARDED`, 0x4C21:00 (R494). -/
def Reg.hepIntrDiscarded : Reg := ⟨0x4C21, 0x0, 64, 0, 0⟩
/-- `HEP_ORDERLY_REMOVALS`, 0x4C22:00 (R494). -/
def Reg.hepOrderlyRemovals : Reg := ⟨0x4C22, 0x0, 32, 0, 0⟩
/-- `PDX_VENDOR_ID`, 0x1000:00 (R517). -/
def Reg.pdxVendorId : Reg := ⟨0x1000, 0x0, 16, 7994, 0⟩
/-- `PDX_DEVICE_IDS`, 0x1001:00 (R517). -/
def Reg.pdxDeviceIds : Reg := ⟨0x1001, 0x0, 32, 1397248841, 0⟩
/-- `PDX_PART`, 0x1002:00 (R517). -/
def Reg.pdxPart : Reg := ⟨0x1002, 0x0, 128, 82543630516059349479344211, 0⟩
/-- `PDX_STEPPING`, 0x1003:00 (R517). -/
def Reg.pdxStepping : Reg := ⟨0x1003, 0x0, 8, 176, 0⟩
/-- `PDX_GRADE_MHZ`, 0x1004:00 (R517). -/
def Reg.pdxGradeMhz : Reg := ⟨0x1004, 0x0, 16, 1300, 0⟩
/-- `PDX_HTL_LEVELS`, 0x1005:00 (R517). -/
def Reg.pdxHtlLevels : Reg := ⟨0x1005, 0x0, 8, 49, 0⟩
/-- `PDX_CTRL_FW_VERSION`, 0x1006:00 (R517). -/
def Reg.pdxCtrlFwVersion : Reg := ⟨0x1006, 0x0, 64, 0, 0⟩
/-- `PDX_DICT_VERSION`, 0x1007:00 (R517). -/
def Reg.pdxDictVersion : Reg := ⟨0x1007, 0x0, 16, 1, 0⟩
/-- `PDX_READY`, 0x1200:00 (R518). -/
def Reg.pdxReady : Reg := ⟨0x1200, 0x0, 8, 0, 0⟩
/-- `PDX_BRINGUP_STEP`, 0x1201:00 (R518). -/
def Reg.pdxBringupStep : Reg := ⟨0x1201, 0x0, 8, 0, 0⟩
/-- `PDX_BRINGUP_RESULT`, 0x1202:00 (R518). -/
def Reg.pdxBringupResult : Reg := ⟨0x1202, 0x0, 8, 0, 0⟩
/-- `PDX_BRINGUP_ELAPSED`, 0x1203:00 (R518). -/
def Reg.pdxBringupElapsed : Reg := ⟨0x1203, 0x0, 64, 0, 0⟩
/-- `PDX_BRINGUP_HALT`, 0x1204:00 (R518). -/
def Reg.pdxBringupHalt : Reg := ⟨0x1204, 0x0, 16, 0, 0⟩
/-- `PDX_INTEGRATOR_ROOT`, 0x1080:00 (R519). -/
def Reg.pdxIntegratorRoot : Reg := ⟨0x1080, 0x0, 512, 0, 0⟩
/-- `PDX_OPERATOR_ROOT`, 0x1081:00 (R519). -/
def Reg.pdxOperatorRoot : Reg := ⟨0x1081, 0x0, 512, 0, 0⟩
/-- `PDX_MGMT_ADDR6`, 0x1082:00 (R519). -/
def Reg.pdxMgmtAddr6 : Reg := ⟨0x1082, 0x0, 128, 0, 0⟩
/-- `PDX_MGMT_ADDR4`, 0x1083:00 (R519). -/
def Reg.pdxMgmtAddr4 : Reg := ⟨0x1083, 0x0, 32, 0, 0⟩
/-- `PDX_MGMT_PORT`, 0x1084:00 (R519). -/
def Reg.pdxMgmtPort : Reg := ⟨0x1084, 0x0, 16, 50640, 0⟩
/-- `PDX_SESSION_IDLE`, 0x1085:00 (R519). -/
def Reg.pdxSessionIdle : Reg := ⟨0x1085, 0x0, 64, 600000000000, 0⟩
/-- `PDX_SESSIONS`, 0x1086:00 (R519). -/
def Reg.pdxSessions : Reg := ⟨0x1086, 0x0, 512, 0, 0⟩
/-- `PDX_AUTH_FAILS`, 0x1087:00 (R519). -/
def Reg.pdxAuthFails : Reg := ⟨0x1087, 0x0, 32, 0, 0⟩
/-- `PDX_TENANT_ROOT`, P+0x30:00 (R519). -/
def Reg.pdxTenantRoot : Reg := ⟨0x2030, 0x40, 512, 0, 0⟩
/-- `PDX_HUB_RESET`, 0x1210:00 (R544). -/
def Reg.pdxHubReset : Reg := ⟨0x1210, 0x0, 8, 0, 0⟩
/-- `PDX_PARTIAL_RESET`, 0x1211:00 (R544). -/
def Reg.pdxPartialReset : Reg := ⟨0x1211, 0x0, 64, 0, 0⟩
/-- `PDX_WARM_FAST`, 0x1212:00 (R544). -/
def Reg.pdxWarmFast : Reg := ⟨0x1212, 0x0, 8, 1, 0⟩
/-- `PDX_LAST_START`, 0x1213:00 (R544). -/
def Reg.pdxLastStart : Reg := ⟨0x1213, 0x0, 8, 0, 0⟩
/-- `PDX_RESET_CAUSE`, 0x1214:00 (R544). -/
def Reg.pdxResetCause : Reg := ⟨0x1214, 0x0, 16, 0, 0⟩
/-- `PDX_TOPO_RECORD`, 0x1218:00 (R544). -/
def Reg.pdxTopoRecord : Reg := ⟨0x1218, 0x0, 46464, 0, 0⟩
/-- `PDX_TOPO_STATE`, 0x1219:00 (R544). -/
def Reg.pdxTopoState : Reg := ⟨0x1219, 0x0, 8, 0, 0⟩
/-- `PDX_TOPO_FOUND`, 0x121A:00 (R544). -/
def Reg.pdxTopoFound : Reg := ⟨0x121A, 0x0, 3584, 0, 0⟩
/-- `PDX_TOPO_MISMATCH`, 0x121B:00 (R544). -/
def Reg.pdxTopoMismatch : Reg := ⟨0x121B, 0x0, 40, 0, 0⟩
/-- `PDX_STARTS`, 0x121C:00 (R544). -/
def Reg.pdxStarts : Reg := ⟨0x121C, 0x0, 32, 0, 0⟩
/-- `OWL_SRC_SEL`, 0x6000:00 (R562). -/
def Reg.owlSrcSel : Reg := ⟨0x6000, 0x0, 16, 0, 0⟩
/-- `OWL_SRC_CFG`, 0x6001:00 (R562). -/
def Reg.owlSrcCfg : Reg := ⟨0x6001, 0x0, 64, 0, 0⟩
/-- `OWL_TRIAGE_MODE`, 0x6002:00 (R562). -/
def Reg.owlTriageMode : Reg := ⟨0x6002, 0x0, 8, 0, 0⟩
/-- `OWL_TRIAGE_DEADLINE`, 0x6003:00 (R562). -/
def Reg.owlTriageDeadline : Reg := ⟨0x6003, 0x0, 64, 1000000000, 0⟩
/-- `OWL_TRIAGE_HOLD`, 0x6004:00 (R562). -/
def Reg.owlTriageHold : Reg := ⟨0x6004, 0x0, 64, 1000000, 0⟩
/-- `OWL_TRIAGE_DECIDE`, 0x6005:00 (R562). -/
def Reg.owlTriageDecide : Reg := ⟨0x6005, 0x0, 128, 0, 0⟩
/-- `OWL_LATCH`, 0x6010:pp (R562). -/
def Reg.owlLatch : Reg := ⟨0x6010, 0x0, 128, 0, 0⟩
/-- `OWL_HUB_LATCH`, 0x6011:00 (R562). -/
def Reg.owlHubLatch : Reg := ⟨0x6011, 0x0, 128, 0, 0⟩
/-- `OWL_ACK`, 0x6012:pp (R562). -/
def Reg.owlAck : Reg := ⟨0x6012, 0x0, 64, 0, 0⟩
/-- `OWL_HUB_ACK`, 0x6013:00 (R562). -/
def Reg.owlHubAck : Reg := ⟨0x6013, 0x0, 64, 0, 0⟩
/-- `OWL_COUNTS`, 0x6014:00 (R562). -/
def Reg.owlCounts : Reg := ⟨0x6014, 0x0, 256, 0, 0⟩
/-- `OWL_PTN_COUNTS`, 0x6015:pp (R562). -/
def Reg.owlPtnCounts : Reg := ⟨0x6015, 0x0, 256, 0, 0⟩
/-- `OWL_ESCALATIONS`, 0x6016:00 (R562). -/
def Reg.owlEscalations : Reg := ⟨0x6016, 0x0, 32, 0, 0⟩
/-- `OWL_SIGNALS`, 0x6017:00 (R562). -/
def Reg.owlSignals : Reg := ⟨0x6017, 0x0, 2, 0, 0⟩
/-- `SQL_FLUSH_MODE`, 0x6800:00 (R577). -/
def Reg.sqlFlushMode : Reg := ⟨0x6800, 0x0, 8, 0, 0⟩
/-- `SQL_FLUSH`, 0x6801:00 (R577). -/
def Reg.sqlFlush : Reg := ⟨0x6801, 0x0, 8, 0, 0⟩
/-- `SQL_FILL_MARK`, 0x6802:00 (R577). -/
def Reg.sqlFillMark : Reg := ⟨0x6802, 0x0, 16, 768, 0⟩
/-- `SQL_FLUSH_DEADLINE`, 0x6803:00 (R577). -/
def Reg.sqlFlushDeadline : Reg := ⟨0x6803, 0x0, 64, 10000000, 0⟩
/-- `SQL_STATE`, 0x6804:00 (R577). -/
def Reg.sqlState : Reg := ⟨0x6804, 0x0, 8, 0, 0⟩
/-- `SQL_BUFFERED`, 0x6805:00 (R577). -/
def Reg.sqlBuffered : Reg := ⟨0x6805, 0x0, 16, 0, 0⟩
/-- `SQL_SEQ`, 0x6806:00 (R577). -/
def Reg.sqlSeq : Reg := ⟨0x6806, 0x0, 64, 0, 0⟩
/-- `SQL_STORE_CMD`, 0x6807:00 (R577). -/
def Reg.sqlStoreCmd : Reg := ⟨0x6807, 0x0, 8, 0, 0⟩
/-- `SQL_CODE_SEL`, 0x6810:00 (R577). -/
def Reg.sqlCodeSel : Reg := ⟨0x6810, 0x0, 16, 0, 0⟩
/-- `SQL_CODE_CFG`, 0x6811:00 (R577). -/
def Reg.sqlCodeCfg : Reg := ⟨0x6811, 0x0, 32, 1049576, 0⟩
/-- `SQL_CODE_SUPPRESSED`, 0x6812:00 (R577). -/
def Reg.sqlCodeSuppressed : Reg := ⟨0x6812, 0x0, 32, 0, 0⟩
/-- `SQL_READ_SEL`, 0x6820:00 (R577). -/
def Reg.sqlReadSel : Reg := ⟨0x6820, 0x0, 64, 0, 0⟩
/-- `SQL_READ`, 0x6821:00 (R577). -/
def Reg.sqlRead : Reg := ⟨0x6821, 0x0, 8192, 0, 0⟩
/-- `SQL_PTN_SEL`, 0x6822:pp (R577). -/
def Reg.sqlPtnSel : Reg := ⟨0x6822, 0x0, 64, 0, 0⟩
/-- `SQL_PTN_READ`, 0x6823:pp (R577). -/
def Reg.sqlPtnRead : Reg := ⟨0x6823, 0x0, 8192, 0, 0⟩
/-- `SQL_DROPPED`, 0x6830:00 (R577). -/
def Reg.sqlDropped : Reg := ⟨0x6830, 0x0, 32, 0, 0⟩
/-- `SQL_FLUSHES`, 0x6831:00 (R577). -/
def Reg.sqlFlushes : Reg := ⟨0x6831, 0x0, 32, 0, 0⟩
/-- `BST_TILE_RUN`, 0x7000:00 (R595). -/
def Reg.bstTileRun : Reg := ⟨0x7000, 0x0, 64, 0, 0⟩
/-- `BST_TILE_STATE`, 0x7001:00 (R595). -/
def Reg.bstTileState : Reg := ⟨0x7001, 0x0, 8, 0, 0⟩
/-- `BST_NEXT_START`, 0x7002:00 (R595). -/
def Reg.bstNextStart : Reg := ⟨0x7002, 0x0, 16, 1023, 0⟩
/-- `BST_RESULT`, 0x7003:bb (R595). -/
def Reg.bstResult : Reg := ⟨0x7003, 0x0, 8, 0, 0⟩
/-- `BST_LBIST_SIG`, 0x7004:bb (R595). -/
def Reg.bstLbistSig : Reg := ⟨0x7004, 0x0, 64, 0, 0⟩
/-- `BST_MBIST_SIG`, 0x7005:bb (R595). -/
def Reg.bstMbistSig : Reg := ⟨0x7005, 0x0, 64, 0, 0⟩
/-- `BST_TILE_FAILS`, 0x7006:00 (R595). -/
def Reg.bstTileFails : Reg := ⟨0x7006, 0x0, 16, 0, 0⟩
/-- `BST_IC_SEL`, 0x7010:00 (R595). -/
def Reg.bstIcSel : Reg := ⟨0x7010, 0x0, 16, 0, 0⟩
/-- `BST_IC_CTRL`, 0x7011:00 (R595). -/
def Reg.bstIcCtrl : Reg := ⟨0x7011, 0x0, 32, 0, 0⟩
/-- `BST_IC_GO`, 0x7012:00 (R595). -/
def Reg.bstIcGo : Reg := ⟨0x7012, 0x0, 8, 0, 0⟩
/-- `BST_IC_STATE`, 0x7013:00 (R595). -/
def Reg.bstIcState : Reg := ⟨0x7013, 0x0, 8, 0, 0⟩
/-- `BST_IC_RESULT`, 0x7014:00 (R595). -/
def Reg.bstIcResult : Reg := ⟨0x7014, 0x0, 256, 0, 0⟩
/-- `BST_IC_ERRORS`, 0x7015:00 (R595). -/
def Reg.bstIcErrors : Reg := ⟨0x7015, 0x0, 64, 0, 0⟩
/-- `BST_UCI_BURN`, 0x7018:00 (R595). -/
def Reg.bstUciBurn : Reg := ⟨0x7018, 0x0, 128, 0, 0⟩
/-- `PWR_PKG_BUDGET`, 0x7800:00 (R615). -/
def Reg.pwrPkgBudget : Reg := ⟨0x7800, 0x0, 16, 4000, 0⟩
/-- `PWR_HUB_RESERVE`, 0x7801:00 (R615). -/
def Reg.pwrHubReserve : Reg := ⟨0x7801, 0x0, 16, 820, 0⟩
/-- `PWR_SITE_MIN`, 0x7802:kk (R615). -/
def Reg.pwrSiteMin : Reg := ⟨0x7802, 0x0, 16, 100, 0⟩
/-- `PWR_PREREADY_W`, 0x7803:00 (R615). -/
def Reg.pwrPrereadyW : Reg := ⟨0x7803, 0x0, 16, 50, 0⟩
/-- `PWR_REVOKE_TIME`, 0x7804:00 (R615). -/
def Reg.pwrRevokeTime : Reg := ⟨0x7804, 0x0, 64, 20000, 0⟩
/-- `PWR_PENALTY_BEATS`, 0x7805:00 (R615). -/
def Reg.pwrPenaltyBeats : Reg := ⟨0x7805, 0x0, 32, 100, 0⟩
/-- `PWR_SITE_BUDGET`, 0x7806:kk (R615). -/
def Reg.pwrSiteBudget : Reg := ⟨0x7806, 0x0, 16, 0, 0⟩
/-- `PWR_SITE_DRAW`, 0x7807:kk (R615). -/
def Reg.pwrSiteDraw : Reg := ⟨0x7807, 0x0, 16, 0, 0⟩
/-- `PWR_THERM_MODE`, 0x7810:00 (R615). -/
def Reg.pwrThermMode : Reg := ⟨0x7810, 0x0, 8, 0, 0⟩
/-- `PWR_THERM_REQ`, 0x7811:00 (R615). -/
def Reg.pwrThermReq : Reg := ⟨0x7811, 0x0, 256, 0, 0⟩
/-- `PWR_THERM_DECIDE`, 0x7812:00 (R615). -/
def Reg.pwrThermDecide : Reg := ⟨0x7812, 0x0, 128, 0, 0⟩
/-- `PWR_DRAIN_GRANULES`, 0x7813:00 (R615). -/
def Reg.pwrDrainGranules : Reg := ⟨0x7813, 0x0, 8, 4, 0⟩
/-- `PWR_TJ_HIGH`, 0x7820:00 (R615). -/
def Reg.pwrTjHigh : Reg := ⟨0x7820, 0x0, 8, 95, 0⟩
/-- `PWR_TJ_CRIT`, 0x7821:00 (R615). -/
def Reg.pwrTjCrit : Reg := ⟨0x7821, 0x0, 8, 103, 0⟩
/-- `PWR_TJ_HYST`, 0x7822:00 (R615). -/
def Reg.pwrTjHyst : Reg := ⟨0x7822, 0x0, 8, 3, 0⟩
/-- `PWR_RELEASE_BEATS`, 0x7823:00 (R615). -/
def Reg.pwrReleaseBeats : Reg := ⟨0x7823, 0x0, 32, 20, 0⟩
/-- `PWR_TJ`, 0x7824:00 (R615). -/
def Reg.pwrTj : Reg := ⟨0x7824, 0x0, 32, 0, 0⟩
/-- `PWR_SENSORS`, 0x7825:00 (R615). -/
def Reg.pwrSensors : Reg := ⟨0x7825, 0x0, 1408, 0, 0⟩
/-- `PWR_HUB_DRAW`, 0x7826:00 (R615). -/
def Reg.pwrHubDraw : Reg := ⟨0x7826, 0x0, 32, 0, 0⟩
/-- `PWR_VIN_MV`, 0x7827:00 (R615). -/
def Reg.pwrVinMv : Reg := ⟨0x7827, 0x0, 16, 0, 0⟩
/-- `PWR_FABRIC_DUTY`, 0x7828:00 (R615). -/
def Reg.pwrFabricDuty : Reg := ⟨0x7828, 0x0, 8, 0, 0⟩
/-- `PWR_LIMIT_MHZ`, 0x7829:pp (R615). -/
def Reg.pwrLimitMhz : Reg := ⟨0x7829, 0x0, 16, 1300, 0⟩

end Sys2Proof.Machine
end

