-- ==== Sys2Proof/Machine/State.lean ====
section
/-! DEFINITION. The state of the hub: plain data, everything the spec gives the machine. -/

namespace Sys2Proof.Machine

/-- Severities in ascending order (R14). -/
inductive Severity where
  | corrected | contained | fatalPartition | fatalHub
  deriving DecidableEq, Repr

/-! ## What the hub sends -/

/-- An SFT packet as it leaves a port (R357, R358). -/
structure Sft where
  port : Nat
  type : Nat
  dstPkg : Nat
  srcPtn : Nat
  dstPtn : Nat
  /-- CONN: the receiver's number. -/
  conn : Nat
  psn : Nat
  kgen : Nat
  ctx : Nat
  cls : Nat
  eom : Bool
  /-- EXT (R358). -/
  ext : Nat
  payload : List Byte
  deriving DecidableEq, Repr

/-- The encapsulation of an SFT packet (R353, R357): MAC addresses, the 802.1Q tag (0: none), the Ethertype in L2 mode, or the
IPv6 addresses, the UDP ports and the ECT(0) mark in UDP6 mode; then the 32 B SFT header of R358. -/
structure Wire where
  dstMac : Nat
  srcMac : Nat
  vlan : Nat
  ethertype : Nat
  udp6 : Bool
  srcAddr : Nat
  dstAddr : Nat
  srcPort : Nat
  dstPort : Nat
  ect : Bool
  header : Nat
  deriving DecidableEq, Repr

/-- A message or signal that the hub sends. -/
inductive Out where
  /-- An SFT packet sent at a port, and how it is carried. -/
  | sft (f : Sft) (w : Wire)
  /-- A message of a connection ends with a status (R361, R370): 1 NO_CONN, 2 CONN_FAILED, 3 PEER_FAULT. -/
  | msgStatus (conn msg status : Nat)
  /-- A packet of space 0 delivered to its partition in PSN order (R364): connection, TYPE, label, EXT, EOM, payload. -/
  | delivered (conn type : Nat) (lab : Label) (ext : Nat) (eom : Bool) (payload : List Byte)
  /-- A member announces the pair's address on a plane (R375). -/
  | announce (port pkg : Nat)
  /-- A PTP Delay_Req at a port (R354). -/
  | ptpDelayReq (port : Nat)
  /-- Answer to an operation on a synchronization object: result and REASON (R384). -/
  | syncAnswer (src : SyncSrc) (result : Word) (reason : Nat)
  /-- The answer of an operation that a reset of its partition ends: status ABORTED (R383). -/
  | syncAborted (src : SyncSrc)
  /-- A declaration refused, with its reason: 0 LATE, 1 FULL, 2 UNALIGNED, 3 BUDGET, 4 DUPLICATE (R54). -/
  | declRefused (id reason : Nat)
  /-- A declaration admitted for the coming edge (R57). -/
  | declAdmitted (id : Nat)
  /-- The number of a declaration taken (R52). -/
  | declTaken (id : Nat)
  /-- A pulse of the 1 PPS output (R50). -/
  | ppsPulse
  /-- An HTL beat marker to a chiplet (R57). -/
  | beatMarker (site : Nat) (beat : BitVec 48)
  /-- Requests served in a slot of a resource, in order (R199, R203). -/
  | slotServed (res slot : Nat) (owner : Option Nat) (ids : List Nat)
  /-- SYS requests served in the window of a round (R193). -/
  | sysServed (res : Nat) (ids : List Nat)
  /-- A level word on the broadcast tree (R201). -/
  | levelWord (home word : Nat)
  /-- A flit leaves a router by a port: to a neighbour or to an endpoint (R169). -/
  | flitOut (x y port : Nat) (f : Flit)
  /-- A flit taken by its endpoint, after its checks, and whether it carries poison (R184). -/
  | flitTaken (x y port : Nat) (f : Flit) (poison : Bool)
  /-- An acknowledgement that a tile bridge gives for a held tile (R180). -/
  | bridgeAck (x y : Nat) (f : Flit)
  /-- A retry to a requester (R176). -/
  | retry (port id : Nat)
  /-- A request reissued by its requester (R176). -/
  | reissue (id : Nat)
  /-- A lookup sent to the slice that holds the granule's entry (R248). -/
  | lookup (entry : Entry) (ptn gran : Nat)
  /-- A slice's answer; none is a refusal (R248). -/
  | xlate (entry : Entry) (ptn gran : Nat) (hgran : Option Nat)
  /-- A request injected toward a home agent (R320): the operation as a number of R307, or 0x2A for a snooped read. -/
  | request (op : Nat) (r : HomeReq)
  /-- GACK from a site station (R338). -/
  | gack (h line : Nat)
  /-- A home agent forwards a request to the granule's new place (R261), or a replica tile to the home (R267). -/
  | forward (op : Nat) (r : HomeReq)
  /-- A replica tile answers a gather from its row cache (R267). -/
  | rowHit (tile id : Nat) (data : List Byte)
  /-- A gather sent to a replica tile (R267). -/
  | replica (tile : Nat) (r : HomeReq)
  /-- An answer to a request of a tile (R86), the host station, a scale-out station, an engine or the hub:
  status of R308, data as delivered, poison. -/
  | answer (entry : Entry) (id status : Nat) (data : List Byte) (poison : Bool)
  /-- An HTL message to a chiplet in the answer layout (R306): OP, partition, context, class, OCH, TAG, STATUS,
  STATE, PART, LAST, POISON and data. -/
  | htl (site op : Nat) (lab : Label) (och tag status st part : Nat) (last : Bool) (poison : Nat) (data : List Byte)
  /-- A CXL answer to a chiplet (R321, R322): refused or not, with data and poison. -/
  | cxl (site tag : Nat) (refused : Bool) (data : List Byte) (poison : Bool)
  /-- A snoop to a chiplet (R339): OP, OPX, agent, PPA of the line, TXID. -/
  | snoop (site op opx agent ppa txid ptn : Nat)
  /-- A chiplet's snoop answer carried to its home agent (R340): TXID, partition, state, data and poison. -/
  | snpAnswer (site txid ptn st : Nat) (data : List Byte) (poison : Nat)
  /-- Credits granted or returned to a chiplet (R313, R314): class 0 REQ, 3 DAT. -/
  | credit (site net ptn count : Nat)
  /-- An SBX message to a chiplet (R285): class, response flag, transaction number, status, payload. -/
  | sbx (site cls : Nat) (resp : Bool) (txn status payload : Nat)
  /-- A poll of a chiplet's sideband for RST READY (R296, R297). -/
  | sbxPoll (site : Nat)
  /-- An answer leaves a home agent: STATUS, STATE, data and poisoned sectors (R333, R335). -/
  | homeAnswer (h : Nat) (entry : Entry) (id status st : Nat) (data : List Byte) (poison : Nat)
  /-- A station answers a snoop for a lost chiplet with SNP_ACK and STATE I (R347). -/
  | stationAck (h txid agent : Nat)
  /-- A granule invalidation of R251 to a receiver. -/
  | invalidate (entry : Entry) (ptn gran : Nat) (xlate rows : Bool)
  /-- A receiver's acknowledgement of a granule invalidation. -/
  | invalAck (entry : Entry) (ptn gran : Nat)
  /-- A row-cache fill to a replica tile (R266). -/
  | fill (tile ptn block : Nat)
  /-- Refresh commands to a stack: first bank and number of banks, in every pseudo-channel (R224). -/
  | refresh (stack bank count : Nat)
  /-- Recalibration of a stack's impedance and read timing (R241). -/
  | recalibrate (stack : Nat)
  /-- A soft or hard repair issued to a row (R233, R235). -/
  | repair (stack pch bank row : Nat) (hard : Bool)
  /-- A stack enters (true) or leaves self-refresh (R229). -/
  | selfRefresh (stack : Nat) (on : Bool)
  /-- Status of a dictionary operation (R507), with the value of a PENDING item. -/
  | status (code value : Nat)
  /-- MSI-X message of a function: 0 is PF0, pp + 1 is the VF of partition pp (R417, R485). -/
  | msix (fn entry : Nat)
  /-- Data that the TAP shifts out (R591, R592). -/
  | tdo (value : Nat)
  /-- Device Readiness Status, sent at READY (R474), and ERR_FATAL (R555). -/
  | readiness
  | errFatal
  /-- An error logged in PF0's AER (R481, R555): function, and the code of R481 or 0 for an internal error. -/
  | aer (fn code : Nat)
  /-- A completion to the host: function, kind (0 SC, 1 UR, 2 CA, 3 CRS, 4 SC with EP), data. -/
  | completion (fn kind : Nat) (data : List Byte)
  /-- The acknowledgement of PME_Turn_Off (R472). -/
  | pmeAck
  /-- A chunk record that PF0 writes to host memory (R488). -/
  | hostWrite (addr : Nat) (data : List Byte)
  /-- A port sends Local Fault ordered sets from now on (R555). -/
  | localFault (port : Nat)
  /-- An interconnect pattern runs (R586): BST_IC_SEL and BST_IC_CTRL. -/
  | pattern (sel ctrl : Nat)
  /-- Neighbour Advertisement from a port (R350), and I3C address taken (R624). -/
  | neighbour (port : Nat)
  | i3cAddress (a : Nat)
  /-- A dictionary frame answered (R499, R500): transport, SESSION, SEQ, KIND, FLAGS, frame status, beat, and the item records or body. -/
  | dict (ep : DictEp) (session seq kind flags status beat : Nat) (body : List Byte)
  /-- Answer of an SPDM responder (R445): endpoint, code of the request, its nonce, beat, and what it states: blocks by index
  with a digest or a record, or the keys of a chain. -/
  | spdm (ep code nonce beat : Nat) (blocks : List (List Nat))
  /-- HTL INTR_H to a chiplet (R417). -/
  | intrH (site ptn vector : Nat)
  deriving DecidableEq, Repr

/-! ## Owl (R545–R562) -/

/-- Recovery actions of triage (R549, R557). -/
inductive TriageAction where
  | none | retry | offline | ptnWarm | ptnFull | dissolve | hubWarm | hubCold
  deriving DecidableEq, Repr

/-- A latch that holds an event (R550); an empty latch is not listed. -/
structure Latch where
  code : Nat
  fsev : Severity
  level : Severity
  ovf : Bool
  esc : Bool
  cnt : Bool
  beat : BitVec 48
  detail : Nat
  deriving DecidableEq, Repr

/-- Configuration of a source (R549). -/
structure SrcCfg where
  count : Bool
  sev : Severity
  action : TriageAction
  n : Nat
  w : Nat
  deriving DecidableEq, Repr

/-- A raise that awaits triage (R552, R558). -/
structure Triage where
  code : Nat
  beat : BitVec 48
  latch : Nat
  sev : Severity
  detail : Nat
  deriving DecidableEq, Repr

structure Owl where
  /-- 33 latches: 0–31 the partitions', 32 the hub's (R550). -/
  latches : AMap Latch := []
  /-- Events counted in the open window of an event code (R548). -/
  windows : AMap Nat := []
  /-- Configurations changed from their default, by source (R549). -/
  cfg : AMap SrcCfg := []
  triage : List Triage := []
  /-- ALIVE runs (R556). -/
  alive : Bool := true
  /-- FAULT_N is asserted (R556). -/
  faultN : Bool := false
  /-- A FATAL-HUB was raised and no reset has ended it (R555). -/
  fatalHub : Bool := false
  /-- An event that R535 names was recorded since the last start that ran step 5. -/
  slowPath : Bool := false
  deriving DecidableEq, Repr

/-! ## Squirrel (R563–R577) -/

inductive RecKind where
  | event | summary | start | repairSoft | repairHard | retire | debugAccess | linkRepair | lifecycle
  deriving DecidableEq, Repr

/-- A record (R563). Its CRC is computed when it is read. -/
structure Record where
  code : Nat
  kind : RecKind
  sev : Severity
  ptn : Option Nat
  ptpTime : Bool
  raised : Bool
  keep : Bool
  beat : BitVec 48
  time : BitVec 64
  seq : Nat
  detail : Nat
  ext : Nat
  boot : Nat
  deriving DecidableEq, Repr

/-- Token bucket of a code (R566, R567). -/
structure Bucket where
  burst : Nat
  period : Nat
  tokens : Nat
  suppressed : Nat
  first : BitVec 48
  last : BitVec 48
  deriving DecidableEq, Repr

inductive StoreCmd where
  | eraseCirc | eraseFirst | format
  deriving DecidableEq, Repr

/-- The recorder's buffer, buckets and flush. -/
structure Sql where
  /-- Records in the on-die buffer, in SEQ order (R565). -/
  buffer : List Record := []
  /-- Buckets changed from full, by CODE[15:4] (R566). -/
  buckets : AMap Bucket := []
  flushing : Bool := false
  /-- A store command in progress (R575). -/
  cmd : Option StoreCmd := none
  /-- SQL_DROPPED was reported since the last flush (R565). -/
  dropReported : Bool := false
  /-- The first drop after a flush has happened and is to be reported (R565). -/
  dropPending : Bool := false
  /-- A KEEP record was not carried and is to be reported (R568). -/
  keepPending : Bool := false
  /-- SQL_FILL was raised and not answered (R572). -/
  fillRaised : Bool := false
  /-- Number of starts over the unit's life (R563). -/
  boot : Nat := 1
  /-- SEQ of the next record at each partition's last formation (R574). -/
  formedSeq : AMap Nat := []
  deriving DecidableEq, Repr

/-- The record store (R568): header and areas; a slot not listed is empty. -/
structure Store where
  unitId : Option Nat := some 0
  first : AMap Record := []
  circ : AMap Record := []
  /-- Slot of the circulating area that the next record takes. -/
  head : Nat := 0
  deriving DecidableEq, Repr

/-! ## Synchronization objects (R379–R384) -/

inductive SyncKind where
  | counter | semaphore | barrier | event
  deriving DecidableEq, Repr

/-- An object: its 2-bit kind and its 64-bit value (R380). -/
structure SyncObj where
  kind : SyncKind := .counter
  value : Word := 0
  deriving DecidableEq, Repr

/-- The conditions an operation can wait for (R381). -/
inductive WaitCond where
  | ge (a : Word)
  | acquire (a : Word)
  | genNot (g : BitVec 32)
  | any (a : Word) (clear : Bool)
  | all (a : Word) (clear : Bool)
  deriving DecidableEq, Repr

/-- A waiter entry of a bank (R383). -/
structure Waiter where
  obj : Nat
  src : SyncSrc
  cond : WaitCond
  deriving DecidableEq, Repr

structure Sync where
  /-- Objects that are not COUNTER 0, by number. -/
  objs : AMap SyncObj := []
  /-- Waiters in arrival order. -/
  waiters : List Waiter := []
  deriving DecidableEq, Repr

/-! ## Jay (R243–R270) -/

inductive MState where
  | idle | declared | copy | locked | forward
  deriving DecidableEq, Repr

/-- A directory entry (R244). -/
structure DirEntry where
  valid : Bool := false
  owner : Nat := 0
  hgran : Nat := 0
  tgran : Nat := 0
  sfmt : Nat := 0
  kgen : Nat := 0
  mstate : MState := .idle
  pin : Bool := false
  hintEn : Bool := false
  hintStack : Nat := 0
  rowrep : Bool := false
  /-- The counters of sites S0–S7, each 0–15. -/
  heat : List Nat := [0, 0, 0, 0, 0, 0, 0, 0]
  lastMove : BitVec 16 := 0
  deriving DecidableEq, Repr

inductive HgtState where
  | free | pool | mapped | locked | forward | offline | reserve | spare
  deriving DecidableEq, Repr

/-- An entry of a home granule table (R245). -/
structure Hgt where
  state : HgtState := .free
  owner : Nat := 0
  kgen : Nat := 0
  /-- LCODE: the granule is in MAC line code. -/
  mac : Bool := false
  rowrep : Bool := false
  rlive : Bool := false
  sample : BitVec 16 := 0
  fwd : Nat := 0
  deriving DecidableEq, Repr

/-- Why a granule migrates (R255, R263–R265). -/
inductive MigKind where
  | retire | drain | move | sweep | heat
  deriving DecidableEq, Repr

/-- Phases of a migration (R259). -/
inductive MigPhase where
  | declared | copy | locked | forward
  deriving DecidableEq, Repr

structure Mig where
  ptn : Nat
  /-- PPA granule; none for a granule of the pool, to which no PPA granule maps. -/
  gran : Option Nat
  src : Nat
  dst : Nat
  kind : MigKind
  phase : MigPhase
  /-- The item under which the migration was admitted (R255). -/
  item : Nat
  /-- Copy passes ended. -/
  pass : Nat
  /-- 256 B blocks of the granule that are marked dirty. -/
  dirty : List Nat
  /-- Units of the granule, by byte offset, that were uncorrectable when they were last copied (R262). -/
  bad : List Nat := []
  deriving DecidableEq, Repr

/-- A granule invalidation in progress (R251): who still has to acknowledge, and the messages that
wait for the last acknowledgement. -/
structure Inval where
  ptn : Nat
  gran : Nat
  xlate : Bool
  rows : Bool
  waiting : List Entry
  /-- Code that JAY_CMD_RESULT takes when the change is complete (R257). -/
  code : Option Nat
  /-- Transactions of the home agents that wait for the change (R268). -/
  held : List Nat
  /-- Source granule whose forwarding ends with the change (R259, R265). -/
  source : Option Nat
  deriving DecidableEq, Repr

/-- A granule whose lookups wait for a MAP command (R250). -/
structure Miss where
  gran : Nat
  waiting : List Entry
  deriving DecidableEq, Repr

/-- An entry of a heat buffer (R252). -/
structure HeatInc where
  entry : Nat
  site : Nat
  count : Nat
  deriving DecidableEq, Repr

/-- A candidate (R254, R258). -/
structure Candidate where
  gran : Nat
  target : Nat
  site : Nat
  score : Nat
  deriving DecidableEq, Repr

/-- Candidates posted to a partition (R258). -/
structure Posting where
  cands : List Candidate
  /-- Beats of the postings that wait for an ACK, oldest first. -/
  beats : List (BitVec 48)
  deriving DecidableEq, Repr

/-- A command that takes effect when a migration ends (R257). -/
inductive Queued where
  | unmap (ptn gran : Nat)
  | setFmt (ptn gran sfmt : Nat)
  deriving DecidableEq, Repr

/-- A row-cache fill sent and not acknowledged (R266). -/
structure Fill where
  tile : Nat
  ptn : Nat
  /-- PPA of the 256 B block, in blocks. -/
  block : Nat
  hgran : Nat
  deriving DecidableEq, Repr

/-- An entry of a translation cache (R247). -/
structure XEntry where
  ptn : Nat
  gran : Nat
  hgran : Nat
  sfmt : Nat
  kgen : Nat
  rowrep : Bool
  deriving DecidableEq, Repr

structure Jay where
  dir : AMap DirEntry := []
  /-- Home granule tables by hub granule number; an unlisted granule is as R210 sets it aside. -/
  hgt : AMap Hgt := []
  inval : List Inval := []
  /-- Miss records by partition, at most 64 granules each. -/
  misses : AMap (List Miss) := []
  /-- Heat buffers by home agent, at most 64 entries each. -/
  heatBuf : AMap (List HeatInc) := []
  /-- MOVE orders, oldest first: partition, granule and stack. -/
  moves : List (Nat × Nat × Nat) := []
  /-- Lookups that wait for the end of a lock (R248). -/
  lockWait : List (Entry × Nat × Nat) := []
  migs : List Mig := []
  /-- Drains ordered: granules per beat, by stack (R264). -/
  drains : AMap Nat := []
  posting : AMap Posting := []
  queued : List Queued := []
  /-- Granules to be retired, in order of detection (R236, R237, R255). -/
  retire : List Nat := []
  /-- Reads of 256 B blocks in this beat, by home agent: block number of the HPA and count (R266). -/
  rowHot : AMap (List (Nat × Nat)) := []
  fills : List Fill := []
  /-- Answers of the slices on their way to entry points (R248): none is a refusal. -/
  answers : List (Entry × Nat × Nat × Option XEntry) := []
  /-- Receivers that have dropped a granule's translation and still hold requests to the old place (R251). -/
  draining : List (Entry × Nat × Nat) := []
  /-- Key-generation sweeps that run: partition and old generation (R263). -/
  sweeps : AMap Nat := []
  /-- Granules reserved by a formation and not yet written: by 8 × partition + stack (R408). -/
  reserved : AMap Nat := []
  /-- Retirements reported blocked (R237). -/
  blocked : List Nat := []
  /-- Stacks under redirect of row reads (R267, R400). -/
  redirect : List Nat := []
  /-- Window table of the home agents: importers of a hub granule (R410). -/
  windows : AMap (List Nat) := []
  deriving DecidableEq, Repr

/-! ## Woodpecker (R40–R67) -/

/-- An admitted item (R54, R55). -/
structure Item where
  id : Nat
  decl : Declaration
  done : Bool
  /-- The edges left until its deadline: 1, or 2 while its group is stretched (R61). -/
  edges : Nat
  deriving DecidableEq, Repr

/-- A pending declaration with its number, and whether it is late and deferred (R53). -/
structure Pend where
  id : Nat
  decl : Declaration
  late : Bool
  deriving DecidableEq, Repr

/-- The beat generator. -/
structure Beat where
  number : BitVec 48 := 0
  /-- Rounds of the open beat that have ended. -/
  round : Nat := 0
  /-- Rounds of the open beat after any realignment (R41, R48). -/
  rounds : Nat := 125
  /-- Trim of the open beat in FCLK cycles, positive: longer (R47). -/
  trim : Int := 0
  /-- Beat numbers that the next edge skips (R48). -/
  skip : Nat := 0
  /-- Rounds ended since READY (R224). -/
  total : Nat := 0
  /-- Consecutive edges within tolerance (R46). -/
  inTol : Nat := 0
  /-- A PTP or PPS lapse since the last edge (R46). -/
  lapse : Bool := false
  /-- BEAT_HOLDOVER has elapsed since entry into HOLDOVER (R46). -/
  holdoverDone : Bool := false
  /-- The first realignment after READY has happened (R43). -/
  realigned : Bool := false
  /-- The cutoff of the coming edge has passed (R53). -/
  cutoff : Bool := false
  decls : List Pend := []
  /-- Items admitted for the coming edge. -/
  admitted : List Item := []
  /-- Items of the open beat. -/
  items : List Item := []
  nextId : Nat := 0
  /-- Slots lost in the open beat, by partition (R32). -/
  lost : AMap Nat := []
  /-- The whole second that the last input pulse marked (R50). -/
  ptpSeconds : Nat := 0
  /-- The host was present at the last edge (R38). -/
  hostSeen : Bool := false
  deriving DecidableEq, Repr

/-- What a requester asks of a home agent (R320, R333, R335), or of the station itself. -/
inductive ReqOp where
  | rdShared | rdUnique | claim | evict | wb | write | stash | reduce | rdNa | intr | sync
  deriving DecidableEq, Repr

/-! ## Stacked memory (R206–R242) -/

/-- What a home agent tracks of a failing row (R232). -/
structure RowTrack where
  /-- Beats of its corrected sectors. -/
  errs : List (BitVec 48)
  ue : Bool
  /-- Order of its first error. -/
  first : Nat
  deriving DecidableEq, Repr

/-- A stack's temperature and quiesce. -/
structure StackTemp where
  /-- Consecutive cutoffs without a valid reading (R226). -/
  missed : Nat := 0
  /-- Consecutive readings that let a quiesced stack resume (R227). -/
  cool : Nat := 0
  /-- The reading that acts at the coming edge. -/
  reading : Option Int := none
  /-- A resume has begun and its recalibration runs (R229). -/
  resuming : Bool := false
  /-- The stack's wrapper is connected to the TAP, and its readings are stopped (R593). -/
  off : Bool := false
  deriving DecidableEq, Repr

structure Hbm where
  /-- Tracked rows, by row number: ((64 × stack + pseudo-channel) × 64 + bank) × 16,384 + row. -/
  rows : AMap RowTrack := []
  /-- Order of first errors. -/
  order : Nat := 0
  /-- Suspect rows that wait for a soft repair. -/
  suspect : List Nat := []
  /-- Rows that have been repaired, by soft or hard repair. -/
  repaired : AMap Unit := []
  /-- Repair resources used, by bank: (64 × stack + pseudo-channel) × 64 + bank. -/
  used : AMap Nat := []
  /-- Repair resources of each bank (R206: at least 2). -/
  perBank : Nat := 2
  /-- Rows that wait for a hard repair (R235). -/
  waiting : List Nat := []
  temps : AMap StackTemp := []
  deriving DecidableEq, Repr

/-! ## Cache coherence (R324–R348) -/

/-- State of a line at the home (R329) or at an agent (R324). -/
inductive LineState where
  | i | s | e | m | o
  deriving DecidableEq, Repr

/-- The line field (R329). -/
structure LineF where
  st : LineState := .i
  own : Nat := 0
  /-- Slots whose agents hold the line, ascending. -/
  pres : List Nat := []
  deriving DecidableEq, Repr

/-- A region entry (R329). -/
structure Region where
  ptn : Nat
  pgran : Nat
  way : Nat
  /-- Order of allocation (R331). -/
  stamp : Nat
  recalled : Bool
  /-- Agent of each slot in use. -/
  slots : AMap Nat
  lines : AMap LineF
  deriving DecidableEq, Repr

inductive SnpKind where
  | shared | inv | na | hint
  deriving DecidableEq, Repr

/-- For what a home agent awaits a snoop's answer. -/
inductive SnpFor where
  | txn (n : Nat)
  | recalled (region : Nat)
  | slot (region slot : Nat) (n : Option Nat)
  deriving DecidableEq, Repr

/-- A snoop outstanding. -/
structure Snoop where
  h : Nat
  txid : Nat
  agent : Nat
  ptn : Nat
  /-- HPA of the line divided by 64. -/
  line : Nat
  kind : SnpKind
  /-- State in which the agent was recorded when the snoop left. -/
  recd : LineState
  why : SnpFor
  deriving DecidableEq, Repr

inductive TxnPhase where
  /-- Waits at the ordering point: for a lock, a busy line, a region's recall, a way, a slot or a busy-line entry. -/
  | wait
  /-- Awaits snoop answers, and the memory read issued with them. -/
  | snoop
  /-- Awaits the acknowledgement of replicas (R268). -/
  | rlive
  /-- Awaits its memory read. -/
  | read
  /-- Granted; awaits GACK. -/
  | grant
  deriving DecidableEq, Repr

/-- A request in a tracker entry of a home agent. -/
structure Txn where
  n : Nat
  h : Nat
  op : ReqOp
  req : HomeReq
  /-- Lines left, the current one first: HPA divided by 64. -/
  lines : List Nat
  /-- Lines taken, which stay busy until the transaction ends (R337). -/
  got : List Nat := []
  phase : TxnPhase := .wait
  /-- Data as the home holds it, gathered line by line, and its poisoned sectors. -/
  data : List Byte := []
  poison : Nat := 0
  /-- A memory read is outstanding. -/
  reading : Bool := false
  /-- Sectors that the memory read found in error. -/
  memBad : Nat := 0
  /-- Data that a snooped holder of the current line returned, and its poison. -/
  taken : Option (List Byte × Bool) := none
  /-- Snoops were sent for the current line. -/
  asked : Bool := false
  /-- Region that it had recalled for a way (R331). -/
  victim : Option Nat := none
  /-- Errors that the memory read of a read-modify-write meets (R215). -/
  errs : List ReadErr := []
  deriving DecidableEq, Repr

structure Coh where
  /-- Region entries by HPA divided by 2,048. -/
  regions : AMap Region := []
  /-- Order of allocations. -/
  stamp : Nat := 0
  snoops : List Snoop := []
  /-- TXIDs kept reserved: home agent, TXID, agent, partition (R347). -/
  reserved : List (Nat × Nat × Nat × Nat) := []
  txns : List Txn := []
  nextTxn : Nat := 0
  /-- Site that won the last tie, by home agent (R342). -/
  lastTie : AMap Nat := []
  /-- Ways reserved by a sealed partition (R330). -/
  ways : AMap (List Nat) := []
  /-- Partitions whose takedown walk runs (R348). -/
  walking : AMap Unit := []
  deriving DecidableEq, Repr

/-! ## Chiplet sites (R270–R323) -/

/-- State of a link group. -/
inductive GroupState where
  | none | training | up | down
  deriving DecidableEq, Repr

/-- Progress of an orderly reset (R296). -/
inductive SiteReset where
  | none | quiescing | asserted
  deriving DecidableEq, Repr

/-- An SBX request of the hub that awaits its response (R286). -/
structure SbxReq where
  cls : Nat
  payload : Nat
  attempts : Nat
  deriving DecidableEq, Repr

/-- A snoop in a station's queue: OP, OPX, PPA of the line, TXID, partition (R339, R340). -/
structure SnpMsg where
  op : Nat
  opx : Nat
  ppa : Nat
  txid : Nat
  ptn : Nat
  deriving DecidableEq, Repr

/-- The parts of a converted write received so far (R315). -/
structure Parts where
  ptn : Nat
  tag : Nat
  data : List Byte
  poison : Nat
  deriving DecidableEq, Repr

/-- A message held for a fence at a station (R311): its header and data. -/
structure HtlHeld where
  hdr : Nat
  data : List Byte
  deriving DecidableEq, Repr

structure Site where
  groups : List GroupState := [.none, .none, .none, .none]
  /-- Modules populated, and modules disabled. -/
  populated : Nat := 0
  disabled : Nat := 0
  /-- Consecutive failed retrains of each group (R283). -/
  fails : List Nat := [0, 0, 0, 0]
  /-- A group narrowed after two failed retrains: the next failure takes it down. -/
  narrowed : List Bool := [false, false, false, false]
  /-- The pause of R280 runs, and the modules that wait for acceptance. -/
  pause : Bool := false
  proposed : Nat := 0
  reset : SiteReset := .none
  /-- QUIESCED has arrived (R296). -/
  quiesced : Bool := false
  /-- The chiplet is lost (R297). -/
  lost : Bool := false
  /-- Protocol under which its sealed partitions were sealed (R295). -/
  proto : Nat := 0
  /-- Triage took the site offline until the next hub reset (R557). -/
  offline : Bool := false
  /-- The hub polls the sideband for RST READY. -/
  polling : Bool := false
  sbx : AMap SbxReq := []
  nextSbx : Nat := 0
  /-- Step of the SPDM exchange of R290: 0 none, 1–6 the request that awaits its answer. -/
  spdm : Nat := 0
  /-- SHA-512 of the chiplet's certificate chain and of its measurement record (R446, R447). -/
  chain : Nat := 0
  meas : Nat := 0
  /-- Algorithm pair that the chiplet used (R290): 0 none, 1 ECDSA on P-384, 2 Ed25519. -/
  alg : Nat := 0
  /-- Beats of recent retries, by group (R282). -/
  retries : AMap (List (BitVec 48)) := []
  /-- Snoops that wait for the chiplet's SNPQ credits, by agent, oldest first (R340). -/
  snpq : AMap (List SnpMsg) := []
  /-- SNPQ credits in use, by agent. -/
  snpUsed : AMap Nat := []
  /-- INTR_H credits in use, by partition (R313). -/
  intrUsed : AMap Nat := []
  /-- INTR_H messages that wait for a credit: partition and vector. -/
  intrq : List (Nat × Nat) := []
  /-- Partitions whose initial credits the chiplet holds (R314). -/
  granted : AMap Unit := []
  /-- Link slots of each partition lost to retrains this beat, in units of 1/U of a slot (R283). -/
  lostShares : AMap Nat := []
  parts : List Parts := []
  /-- Descriptors and aborts held for a fence. -/
  fenced : List HtlHeld := []
  deriving DecidableEq, Repr

/-! ## Tiles and programs (R68–R162) -/

inductive StrandState where
  | ready | waitMem | waitSync | waitCredit | halted
  deriving DecidableEq, Repr

/-- A live strand (R90). A free strand is not listed. -/
structure Strand where
  stage : Nat
  st : StrandState
  zf : Bool
  nf : Bool
  rch : Bool
  pending : Nat
  status : Nat
  item : Nat
  regs : List Word
  /-- What a parked strand waits for: PENDING at most this, or the next edge. -/
  limit : Option Nat
  /-- Order in which it began to wait for a tracker. -/
  order : Nat
  /-- Queue and descriptor count of its item. -/
  queue : Nat
  desc : Nat
  /-- SEQ before the stage that waits for a tracker issued (R123). -/
  seq : Nat := 0
  deriving DecidableEq, Repr

/-- A block in a row cache (R266). -/
structure RowBlock where
  ptn : Nat
  block : Nat
  data : List Byte
  deriving DecidableEq, Repr

structure Tiles where
  /-- Live strands, by 512 × tile + strand. -/
  strands : AMap Strand := []
  /-- Configuration stores by tile: nonzero bytes by offset (R75). -/
  cfg : AMap (AMap Byte) := []
  /-- Identifier of the loaded configuration, by tile (R148). -/
  cfgId : AMap Nat := []
  /-- Scratchpads by tile: nonzero bytes by tile-local address (R70). -/
  pad : AMap (AMap Byte) := []
  /-- Row caches by 128 × tile + slot. -/
  rows : AMap RowBlock := []
  /-- Words marked bad by the patrol scrubber: tile, bank, row (R97). -/
  bad : List (Nat × Nat × Nat) := []
  /-- Tiles that refuse dispatch until a configuration is loaded (R97). -/
  refuse : AMap Unit := []
  /-- The strand issued last, by tile, and yielded strands, oldest first (R93). -/
  last : AMap Nat := []
  yielded : AMap (List Nat) := []
  /-- Order of waits for trackers. -/
  order : Nat := 0
  /-- Voltage that an island has reached, as the highest CCLK in MHz that it serves; 600 where not listed (R104, R600). -/
  islands : AMap Nat := []
  /-- SEQ of the stochastic words, by tile (R123). -/
  seq : AMap Nat := []
  /-- CE_SEEN (1) and UE_SEEN (2) of TIL_PTN_STATUS, by partition (R105). -/
  seen : AMap Nat := []
  /-- Rows whose spare core has not passed its BIST (R99). -/
  spareBad : AMap Unit := []
  deriving DecidableEq, Repr

/-- A descriptor in progress (R146, R153). -/
structure Desc where
  /-- Count at which the hub read it. -/
  idx : Nat
  words : List Nat
  /-- Declared item, while it is pending or open (R155). -/
  decl : Option Nat
  /-- The edge that admits its declaration has come, or it has no declaration. -/
  open' : Bool
  started : Bool
  /-- Next item to be dispatched. -/
  next : Nat
  /-- Items finished: completed and failed. -/
  done : Nat
  failed : Nat
  firstFail : Nat
  failCode : Nat
  /-- DSTATUS fixed before its items end, or none. -/
  status : Option Nat
  overrun : Bool
  deriving DecidableEq, Repr

/-- A work queue (R143). -/
structure Wq where
  tail : Nat := 0
  head : Nat := 0
  cplHead : Nat := 0
  err : Bool := false
  descs : List Desc := []
  /-- Records since the last completion interrupt (R141). -/
  uncounted : Nat := 0
  deriving DecidableEq, Repr

/-- A table-service request held (R161). -/
structure SvcReq where
  conn : Nat
  op : Nat
  table : Nat
  reqId : Nat
  rows : List Nat
  grads : List Nat
  beat : BitVec 48
  deriving DecidableEq, Repr

/-- A run of the checkpoint service (R162). -/
structure Ckpt where
  /-- Queue and descriptor count, where a descriptor runs it. -/
  desc : Option (Nat × Nat)
  plan : Nat
  stream : Nat
  pkg : Nat
  dptn : Nat
  seq : Nat
  /-- PPA granule of every chunk, in order. -/
  chunks : List Nat
  /-- Chunks sent, and chunks not yet acknowledged. -/
  sent : Nat
  unacked : List Nat
  /-- SALT of the run (R439). -/
  salt : Nat := 0
  /-- Status under which it ends early: 0 none (R438). -/
  ends : Nat := 0
  deriving DecidableEq, Repr

/-! ## Collectives (R385–R403) -/

/-- Phases of a collective's step at a member (R392, R393, R396). -/
inductive StepPhase where
  /-- No step is admitted. -/
  | none
  /-- A snapshot's partition is paused and drains. -/
  | drain
  /-- Snooped reads are outstanding. -/
  | reading
  /-- Awaits the data of its children. -/
  | reduce
  /-- Awaits the data of its parent. -/
  | await
  /-- Writes are to become visible. -/
  | writing
  deriving DecidableEq, Repr

/-- Data of a step from a neighbour: its index, data and poisoned sectors. -/
structure StepData where
  step : Nat
  index : Nat
  beat : Nat
  data : List Byte
  poison : Nat
  deriving DecidableEq, Repr

/-- A snooped read outstanding: its tracker, and where its bytes go. -/
structure ReadPart where
  id : Nat
  off : Nat
  len : Nat
  deriving DecidableEq, Repr

/-- A collective in progress (R389, R392). -/
structure Coll where
  /-- Count at which the hub read it. -/
  idx : Nat
  words : List Nat
  /-- Planned beats (R403); empty: the hardware schedule. -/
  plan : List Nat := []
  /-- Step next admitted or in progress: the number of steps completed. -/
  step : Nat := 0
  phase : StepPhase := .none
  /-- Declared item of the step in progress, and of the next one. -/
  item : Option Nat := none
  nextItem : Option Nat := none
  /-- Admission beat of the step in progress. -/
  beat : Nat := 0
  /-- X_s: stretched group beats so far. -/
  stretched : Nat := 0
  /-- Bit s: stack s serves the step in progress (R400). -/
  served : Nat := 0
  /-- Data of the member as read and combined, its poisoned sectors, and the reads outstanding. -/
  own : List Byte := []
  ownPoison : Nat := 0
  parts : List ReadPart := []
  up : List StepData := []
  down : Option StepData := none
  poisoned : Bool := false
  /-- DSTATUS; then the member that raised an abort, its package, and a stack. -/
  status : Option Nat := none
  failed : Nat := 0
  firstFail : Nat := 0xFFFFFFFF
  failCode : Nat := 0
  deriving DecidableEq, Repr

/-- A group (R385, R386). -/
structure Group where
  /-- Member list, a word for each member. -/
  list : List Nat := []
  /-- Parents of the tree that the host supplies (R403); empty: the hardware tree. -/
  parents : List Nat := []
  /-- FORM or FORMED has been sent. -/
  reported : Bool := false
  /-- The beat whose opening edge a stretch names (R400). -/
  grant : Option Nat := none
  /-- Consecutive stretched group beats, and unstretched ones since the last (R61). -/
  run : Nat := 0
  calm : Nat := 0
  coll : Option Coll := none
  deriving DecidableEq, Repr

/-- A formation report of a child: GROUP_ID, package, partition and values (R386). -/
structure Report where
  ptn : Nat
  gid : Nat
  pkg : Nat
  rptn : Nat
  vals : List Nat
  deriving DecidableEq, Repr

/-- A collective ring (R388). -/
structure Ring where
  tail : Nat := 0
  head : Nat := 0
  cplHead : Nat := 0
  err : Bool := false
  /-- Records since the last completion interrupt. -/
  uncounted : Nat := 0
  /-- Descriptors that ended without running, whose records are to be written. -/
  ended : List Coll := []
  deriving DecidableEq, Repr

/-- An answer to a snooped read of a collective engine. -/
structure ReadBack where
  data : List Byte
  bad : Bool
  deriving DecidableEq, Repr

/-- A credit withheld from a chiplet while a snapshot pauses its partition (R396). -/
structure HeldCredit where
  site : Nat
  net : Nat
  ptn : Nat
  deriving DecidableEq, Repr

structure Col where
  /-- Groups by 16 × partition + register. -/
  groups : AMap Group := []
  rings : AMap Ring := []
  reports : List Report := []
  got : AMap ReadBack := []
  /-- Partitions that a snapshot pauses. -/
  paused : AMap Unit := []
  credits : List HeldCredit := []
  deriving DecidableEq, Repr

/-! ## Partitions (R405–R425) -/

inductive ResetKind where
  | warm | full | dissolve
  deriving DecidableEq, Repr

/-- A context switch in progress (R413). -/
structure Switch where
  src : Option Nat
  dst : Nat
  /-- The edge has come and tiles are being saved. -/
  begun : Bool
  saving : List Nat
  restoring : List Nat
  item : Option Nat
  /-- A context reset of the outgoing context drops its save (R423). -/
  dropped : Bool := false
  deriving DecidableEq, Repr

/-- Which descriptor a saved strand belongs to, and what it waits for: not part of its 64 B. -/
structure StrandLink where
  ctx : Nat
  tile : Nat
  n : Nat
  queue : Nat
  desc : Nat
  limit : Option Nat
  order : Nat
  seq : Nat := 0
  deriving DecidableEq, Repr

structure Ptn where
  /-- Contexts with a saved record (R157). -/
  saved : List Nat := []
  switch : Option Switch := none
  /-- Beat of the running context's switch-in edge. -/
  since : BitVec 48 := 0
  /-- A host decision is awaited since this beat (R412). -/
  asked : Option (BitVec 48) := none
  /-- A reset in progress, whether it also resets chiplets, and whether its drain has ended. -/
  reset : Option ResetKind := none
  chiplets : Bool := false
  drained : Bool := false
  /-- State that the coming edge gives. -/
  atEdge : Option Nat := none
  /-- A context reset that the coming edge ends. -/
  ctxReset : Option Nat := none
  /-- Descriptors of saved strands, and identifiers of saved configurations by 2,304 × context + tile. -/
  links : List StrandLink := []
  cfgIds : AMap Nat := []
  /-- Granules of the sealing written, not yet the whole (R409). -/
  writing : Bool := false
  /-- Posts pending under MASK that merge (R417) are in PTN_INTR_PEND; vectors posted, by context. -/
  posted : AMap Unit := []
  deriving DecidableEq, Repr

/-! ## Regulation and the fabric network (R164–R205) -/

structure Qos where
  /-- Active slot tables, by 128 × selector + slot; an unlisted entry is as R198 sets it at READY. -/
  active : AMap Nat := []
  /-- Staged entries that differ from the active set. -/
  staged : AMap Nat := []
  /-- The set that becomes active at an edge, and whether its pass lies before the coming cutoff (R195). -/
  shadow : Option (AMap Nat) := none
  ready : Bool := false
  /-- The level word last published by each home agent (R201). -/
  levels : AMap Nat := []
  /-- The level word each injector acts on, by 8 × selector + home agent (R202). -/
  holds : AMap Nat := []
  /-- Home agents that have sampled in the current publication period, and the partitions counted as held in it (R201, R205). -/
  sampled : List Nat := []
  heldNow : List Nat := []
  /-- Requests promoted by age (R199). -/
  aged : AMap Unit := []
  /-- The last borrower of each resource (R203), 32 for the hub. -/
  lastBorrower : AMap Nat := []
  /-- LAT requests in borrowed slots this round, by 64 × resource + partition (R203). -/
  latBorrows : AMap Nat := []
  /-- The partition served last in the SYS window of each home agent (R193). -/
  sysLast : AMap Nat := []
  deriving DecidableEq, Repr

/-- Where a tracked request stands at its entry point. -/
inductive TrkPhase where
  /-- Held by a fence until the earlier requests of its channel are answered (R311). -/
  | fenced
  /-- Waits for its translation (R250). -/
  | xlate
  /-- Held while its granule's old requests drain (R251). -/
  | hold
  /-- Injected; waits for its answer. -/
  | out
  /-- Answered; at a tile the answer has not yet landed (R86). -/
  | answered
  deriving DecidableEq, Repr

/-- A request tracked at its entry point until it is answered. -/
structure Tracker where
  entry : Entry
  /-- The partition by which it is counted; none: the hub's own. -/
  ptn : Option Nat
  lab : Label
  op : ReqOp
  /-- TAG at a site, strand at a tile. -/
  tag : Nat
  och : Nat
  ppa : Nat
  /-- Stored extent in bytes. -/
  len : Nat
  fmt : Nat
  agent : Nat
  opx : Nat
  obj : Nat
  data : List Byte
  poison : Nat
  /-- Where a tile lands the data, and in which format; of a CXL request, `dfmt` is 1 for CXL.io and 2 for CXL.mem. -/
  dst : Nat
  dfmt : Nat
  phase : TrkPhase
  /-- Hub granule and key generation to which it was translated. -/
  hgran : Nat
  kgen : Nat
  /-- Storage format that goes with the translation (R134). -/
  sfmt : Nat
  /-- Arrival order. -/
  order : Nat
  /-- It waits for every earlier request of its channel (R311). -/
  fence : Bool
  retried : Bool
  timedOut : Bool
  /-- Part of a request that a tile split (R86): where the part begins in the extent, the whole extent, the order of its
  first part, and whether its data waits for the other part. -/
  base : Nat
  whole : Nat
  group : Nat
  landed : Bool
  /-- Rounding of a converted write: empty for nearest, else key, EPOCH, SEQ, tile and lane factor (R121, R133). -/
  rnd : List Nat
  sat : Bool
  deriving DecidableEq, Repr

structure Noc where
  /-- Ingress queues, by 32 × port selector + partition, at most 32 requests each (R176). -/
  ingress : AMap (List HomeReq) := []
  /-- Retry stores, by port selector, at most 128 entries each (R176). -/
  retries : AMap (List (Nat × Nat)) := []
  /-- Trackers by number: 8,192 × entry code + TXID of the entry point. -/
  trackers : AMap Tracker := []
  /-- Requests tracked since READY: gives their arrival order. -/
  order : Nat := 0
  /-- Packets whose first flit was discarded: the rest of the packet is too (R185), by source and channel. -/
  dropping : AMap Unit := []
  deriving DecidableEq, Repr

/-! ## The host endpoint (R472–R494) -/

/-- A request in the host station's queue (R482): to BAR2 or to BAR0, its offset, data of a write (none: a read), its length, and EP. -/
structure HostReq where
  bar2 : Bool
  off : Nat
  data : Option (List Byte)
  len : Nat
  ep : Bool
  deriving DecidableEq, Repr

/-- A slot of the sync window (R478). -/
structure SyncSlot where
  opa : Nat := 0
  opb : Nat := 0
  ctl : Nat := 0
  result : Nat := 0
  reason : Nat := 0
  deriving DecidableEq, Repr

/-- The checkpoint export block (R487): its registers; the values that GO found in them and the SALT drawn for the run; a GO that met
a running export. -/
structure Export where
  hostAddr : Nat := 0
  what : Nat := 0
  label : Nat := 0
  status : Nat := 0
  written : Nat := 0
  runAddr : Nat := 0
  run : Nat := 0
  runLabel : Nat := 0
  salt : Nat := 0
  busy : Bool := false
  deriving DecidableEq, Repr

/-- A dictionary mailbox (R514): its two control words and its buffer. -/
structure Mailbox where
  ctl : Nat := 0
  busy : Bool := false
  done : Bool := false
  overrun : Bool := false
  buffer : List Byte := []
  /-- RLEN. -/
  rlen : Nat := 0
  /-- Units of a response not yet fetched, and its message number. -/
  rest : List (List Byte) := []
  msg : Nat := 0
  deriving DecidableEq, Repr

structure Hep where
  /-- Mailboxes by function. -/
  boxes : AMap Mailbox := []
  /-- Window translation tables, by 1,024 × partition + entry (R479). -/
  wtt : AMap Nat := []
  /-- Sync-window slots, by 128 × partition + slot. -/
  slots : AMap SyncSlot := []
  /-- REFUSED and LAST_REFUSE of HEP_VF_STATUS, by partition: bit 8 and bits [7:0]. -/
  refused : AMap Nat := []
  /-- Requests queued, by partition (R482). -/
  queue : AMap (List HostReq) := []
  /-- SR-IOV VF Enable, and the command register and BARs of PF0 are set by the host. -/
  vfEnable : Bool := false
  exp : Export := {}
  /-- HOST_PERST_N is asserted. -/
  perst : Bool := false
  /-- Outputs HOST_PWR_EN1 and HOST_PWR_EN2. -/
  en1 : Bool := false
  en2 : Bool := false
  /-- REMOVE_ACK has been written, and the five seconds after the press have passed (R491). -/
  acked : Bool := false
  waited : Bool := false
  /-- PME_Turn_Off has come: the link goes to L2 (R472). -/
  l2 : Bool := false
  /-- MSI-X tables by 2,048 × function + entry: address, data and vector control, whose bit 96 masks; an entry not listed is masked
  (R485, R486). -/
  msixTab : AMap Nat := []
  /-- Registers of the configuration headers, by 16 × function + register: command, bus number, BARs (R538). -/
  header : AMap Nat := []
  /-- Functions whose function mask is set. -/
  fnMask : AMap Unit := []
  /-- Pending bits, by 2,048 × function + entry. -/
  msixPend : AMap Unit := []
  deriving DecidableEq, Repr

/-! ## The security engine (R427–R454) -/

/-- A policy term of a key blob (R436). -/
structure PolicyTerm where
  index : Nat
  op : Nat
  value : Nat
  deriving DecidableEq, Repr

/-- A key slot that holds a key (R432). For a key of the tenant's: its identifier, generation, switching beat and the
policy bound to it. -/
structure KeySlot where
  material : Nat
  keyId : Nat := 0
  gen : Nat := 0
  switchBeat : Nat := 0
  flags : Nat := 0
  terms : List PolicyTerm := []
  deriving DecidableEq, Repr

/-- An import in progress (R440). -/
structure Import where
  src : Nat
  dst : Nat
  count : Nat
  slot : Nat
  byHeader : Bool
  /-- The key as it was when the import began. -/
  key : KeySlot
  /-- Its key was destroyed while it ran (R438). -/
  revoked : Bool := false
  deriving DecidableEq, Repr

/-- A debug grant: its scope and the beats for which it is valid (R449). -/
structure Grant where
  scope : Nat
  beats : Nat
  deriving DecidableEq, Repr

structure Sec where
  /-- Key slots that hold a key, by slot number (R432). -/
  slots : AMap KeySlot := []
  /-- The root key (R429) and the hub memory key (R434), while they are held. -/
  root : Option Nat := none
  hubKey : Option Nat := none
  /-- Digests of the SE firmware and of the controller firmware that run (R446). -/
  seFw : Nat := 0
  ctlFw : Nat := 0
  /-- Debug grants in force, and those that take effect at the next edge, by partition. -/
  grants : AMap Grant := []
  nextGrants : AMap Grant := []
  /-- Rotations asked for: their step 1 runs at the next edge (R443). -/
  rotate : AMap Unit := []
  imports : AMap Import := []
  deriving DecidableEq, Repr

/-! ## Life cycle, OTP and the boot device (R455–R470, R503, R578, R626) -/

/-- The life-cycle fields of OTP (R457). -/
structure Otp where
  unitId : Nat := 0
  /-- Digests of the vendor's test root, root and RMA root, and of the owner. -/
  vtest : Nat := 1
  vroot : Nat := 2
  vrma : Nat := 3
  owner : Nat := 4
  /-- SEED, SEED_DONE, and the helper slots: 0 blank, 1 without its done word, 2 done. -/
  seed : Nat := 0
  seedDone : Bool := true
  pufA : Nat := 2
  pufB : Nat := 0
  /-- The burned bits of SVN. -/
  svn : Nat := 0
  marks : List Nat := [0xFFFF, 0xFFFF, 0xFFFF, 0, 0]
  /-- TILE_REPAIR: the logical column whose core the row's spare serves; a row not listed has no repair. -/
  tileRepair : AMap Nat := []
  /-- BIST_GOLDEN: the LBIST and the MBIST golden of each block. -/
  golden : List Nat := []
  /-- UCI_REPAIR words that are not blank, by 16 × site + module. -/
  uci : AMap Nat := []
  /-- The OTP fails its margin check. -/
  bad : Bool := false
  deriving DecidableEq, Repr

structure Life where
  otp : Otp := {}
  /-- The transition slot of the boot device. -/
  slot : Option LcRecord := none
  /-- The role-key block of the boot device: the integrator's and the operator's root. -/
  integrator : Nat := 0
  operator : Nat := 0
  /-- A transition whose erasure runs (R466). -/
  erasing : Option LcRecord := none
  /-- A transition is at DONE: its target takes effect at the next reset (R463). -/
  done : Bool := false
  /-- A debug scope has opened and no scan has shifted since (R467). -/
  opened : Bool := false
  deriving DecidableEq, Repr

inductive TapIr where
  | idcode | bypass | sample | extest | ieee1500 | lcToken | lcStatus | intscan | mbistAcc
  deriving DecidableEq, Repr

/-- The TAP (R591–R593): the selected instruction, and the stack whose wrapper is connected. -/
structure Tap where
  ir : TapIr := .idcode
  stack : Option Nat := none
  deriving DecidableEq, Repr

/-! ## Starts, tests and power (R520–R543, R578–R614) -/

/-- A hub reset commanded and not yet in effect (R537). -/
structure HubReset where
  cold : Bool
  /-- By a fault reaction or a triage decision, and the event that caused it. -/
  fault : Bool
  cause : Nat
  deriving DecidableEq, Repr

structure Start where
  /-- VIN_MAIN lies in its range. -/
  powered : Bool := true
  /-- PWR_FAIL_N was asserted and no reset has followed. -/
  pwrFail : Bool := false
  reset : Option HubReset := none
  /-- HUB_RESET_N is asserted. -/
  pinLow : Bool := false
  /-- The start in progress takes the fast path. -/
  fast : Bool := false
  /-- This start has set out the repairs of R280 and paused. -/
  paused : Bool := false
  /-- Units that a step's limit failed: sites, stacks, attestations and ports, as masks (R523). -/
  lateSites : Nat := 0
  lateStacks : Nat := 0
  lateSpdm : Nat := 0
  latePorts : Nat := 0
  /-- Dynamic address on I3C (R624). -/
  i3c : Option Nat := none
  deriving DecidableEq, Repr

/-- Runs of the tests (R582, R586). -/
structure Test where
  /-- Plots under a tile run, and plots under a partial reset (R540). -/
  tiles : Nat := 0
  partial' : Nat := 0
  /-- BST_IC_SEL of an interconnect run in progress. -/
  ic : Option Nat := none
  deriving DecidableEq, Repr

/-- A chiplet's part in the package budget (R610–R613). -/
structure SitePwr where
  /-- The chiplet answered PWR with UNSUPPORTED. -/
  unsupported : Bool := false
  /-- Last REQUEST, and its REPORT has come in the open beat. -/
  request : Option Nat := none
  reported : Bool := false
  /-- The draw reported for the last beat exceeded its budget. -/
  isOver : Bool := false
  /-- Beats of penalty left. -/
  penalty : Nat := 0
  /-- Budget of the beat before, by which a report is judged. -/
  before : Nat := 0
  /-- Allocation that the coming edge offers. -/
  next : Nat := 0
  revoked : Bool := false
  /-- A REVOKE awaits its answer. -/
  waiting : Bool := false
  deriving DecidableEq, Repr

structure Power where
  sites : AMap SitePwr := []
  /-- Cutoffs in a row at which a sensor gave no valid reading. -/
  missed : AMap Nat := []
  /-- Consecutive beats below 95 % of the reserve, and what the draw has limited: MHz below 1,300 and levels of D. -/
  calm : Nat := 0
  drawMhz : AMap Nat := []
  drawDuty : Nat := 0
  /-- What the sensors have limited: MHz of each partition, and D. -/
  tempMhz : AMap Nat := []
  tempDuty : Nat := 0
  /-- PWR_TJ_CRIT holds (R606). -/
  crit : Bool := false
  /-- A 108 °C comparator has tripped (R604). -/
  trip : Bool := false
  /-- Beat for which a decision was asked (R608), and the decision. -/
  asked : Option Nat := none
  decision : Option Nat := none
  /-- Stacks for which stage 3 stretches may be requested in the open beat (R607, R608). -/
  stretch : Nat := 0xFF
  deriving DecidableEq, Repr

/-! ## The dictionary service (R498–R516) -/

/-- A session (R504–R506). -/
structure Session where
  number : Nat
  role : Role
  ptn : Nat
  ep : DictEp
  /-- Digest of the role key's public halves, and the root that admitted it. -/
  key : Nat
  proven : Bool := false
  /-- SEQ of the last request served, its tag and its answer: KIND, FLAGS, status, beat and body. -/
  seq : Nat := 0
  tag : Nat := 0
  lastHead : List Nat := []
  last : List Byte := []
  /-- The response key. -/
  secret : Nat := 0
  fails : Nat := 0
  deriving DecidableEq, Repr

/-- A frame in reassembly (R498). -/
structure Assembly where
  ep : DictEp
  msg : Nat
  /-- SEG of the next segment. -/
  next : Nat
  data : List Byte
  deriving DecidableEq, Repr

structure Dict where
  /-- BEAT-class values for the coming edge, and those written after the cutoff, by register key. -/
  shadow : AMap Nat := []
  later : AMap Nat := []
  /-- RESET-class values that wait for a reset. -/
  stored : AMap Nat := []
  /-- Sessions by slot. -/
  sessions : AMap Session := []
  opened : Nat := 0
  frames : List Assembly := []
  deriving DecidableEq, Repr

/-! ## Scale-out (R350–R378) -/

inductive ConnState where
  | opening | open | closing | failed
  deriving DecidableEq, Repr

/-- A packet of space 0, as its sender numbers it (R358, R365): all but the header's fixed fields. -/
structure Packet where
  type : Nat
  eom : Bool
  lab : Label
  ext : Nat
  payload : List Byte
  deriving DecidableEq, Repr

/-- A packet sent and not acknowledged (R363, R364). -/
structure Unacked where
  pkt : Packet
  plane : Nat
  kgen : Nat
  /-- Later PSNs acknowledged while it was missing. -/
  passed : Nat
  /-- It has been retransmitted for its present gap. -/
  resent : Bool
  deriving DecidableEq, Repr

/-- Congestion state of a plane (R367), in exact arithmetic: α, the rate in Mb/s, and whether a signal came in
the open period. -/
structure Cc where
  alpha : Rat
  rate : Rat
  signalled : Bool
  deriving DecidableEq, Repr

/-- A connection that is not CLOSED (R360, R361); number 0 is the pair link (R377). -/
structure Conn where
  ptn : Nat
  pkg : Nat
  rptn : Nat
  st : ConnState
  /-- The peer's number of the connection. -/
  peer : Nat := 0
  /-- OPENs sent. -/
  tries : Nat := 0
  /-- CLOSE has been sent. -/
  closeSent : Bool := false
  /-- SOX_WINDOW at the opening. -/
  window : Nat := 1024
  /-- Next PSN to send in each space. -/
  psn : List Nat := [0, 0, 0, 0]
  /-- Messages sent: gives MSG. -/
  msg : Nat := 0
  /-- Packets that wait for the window. -/
  queue : List Packet := []
  unacked : AMap Unacked := []
  /-- Next PSN to deliver, and packets held out of order. -/
  rx : Nat := 0
  held : AMap Packet := []
  /-- Data packets since the last ACK. -/
  owed : Nat := 0
  /-- Consecutive timeouts without progress, and by plane. -/
  timeouts : Nat := 0
  planeTimeouts : AMap Nat := []
  /-- Planes not usable for the connection. -/
  bad : List Nat := []
  /-- The plane sprayed last. -/
  lastPlane : Nat := 15
  cc : AMap Cc := []
  deriving DecidableEq, Repr

/-- An entry of a journal (R373). -/
structure JEntry where
  kind : Nat
  key : Nat
  content : List Byte
  deriving DecidableEq, Repr

/-- A write to be mirrored: partition, HPA and bytes (R374). -/
structure MirrorW where
  ptn : Nat
  hpa : Nat
  data : List Byte
  deriving DecidableEq, Repr

/-- A member's part in its pair (R371–R377). -/
structure Pair where
  /-- One more than the number of the latest beat whose HEARTBEAT has arrived; beats missed in a row. -/
  heard : Nat := 0
  missed : Nat := 0
  /-- HELLO has been sent since READY, and its payload has been accepted. -/
  hello : Bool := false
  /-- The HELLO exchange is repeated: the spaces restart once every packet under the old keys is acknowledged (R377). -/
  rekey : Bool := false
  /-- ACTIVE: contents last journalled. STANDBY: contents of the committed beat. Both by kind × 2^40 + key. -/
  base : AMap (List Byte) := []
  committed : AMap (List Byte) := []
  /-- Journal entries that wait for the budget, oldest first, each with its beat. -/
  journal : List (Nat × JEntry) := []
  lagReported : Bool := false
  /-- STANDBY: bytes of the journal not yet parsed; entries received and not applied; MIRROR packets not yet counted. -/
  rxJournal : List Byte := []
  received : List JEntry := []
  mirrors : Nat := 0
  /-- ACTIVE: MIRROR packets of the open beat. -/
  mirrorsSent : Nat := 0
  /-- Writes of mirrored partitions that wait in their mirror queues, oldest first (R374). -/
  mirrorq : List MirrorW := []
  deriving DecidableEq, Repr

/-- A source of time on a port (R355). -/
structure PtpPort where
  rank : Nat
  missed : Bool := false
  /-- A two-step Sync that waits for its Follow_Up. -/
  twoStep : Bool := false
  /-- Path delay last measured, in ns. -/
  delay : Nat := 0
  deriving DecidableEq, Repr

structure Sox where
  conns : AMap Conn := []
  /-- Granules of the mirror queues of mirrored partitions (R374), by partition. -/
  queues : AMap (List Nat) := []
  /-- Best master comparison: the rank announced at each port, the lowest the best. -/
  ptp : AMap PtpPort := []
  pair : Pair := {}
  /-- Management requests of the open beat. -/
  mgmt : Nat := 0
  deriving DecidableEq, Repr

/-! ## The state -/

structure State where
  /-- Commands waiting, first in, first out. -/
  pending : List Instr := []
  /-- What the hub has sent, oldest first. The model's own record of its outputs. -/
  sent : List Out := []
  /-- Counter of free values: the model's own, not the spec's. -/
  fresh : Nat := 0
  /-- The dictionary register file, by `Reg.key`; an unlisted register holds its default. -/
  regs : AMap Nat := []
  mem : List Host.Cell := []
  poison : AMap Unit := []
  beat : Beat := {}
  owl : Owl := {}
  sql : Sql := {}
  store : Store := {}
  sync : Sync := {}
  jay : Jay := {}
  /-- Translation caches and buffers by entry point, most recently used first (R247). -/
  caches : AMap (List XEntry) := []
  hep : Hep := {}
  qos : Qos := {}
  noc : Noc := {}
  hbm : Hbm := {}
  coh : Coh := {}
  sites : AMap Site := []
  tile : Tiles := {}
  /-- Work queues by 64 × partition + queue. -/
  wqs : AMap Wq := []
  /-- Table-service requests held, by partition. -/
  svc : AMap (List SvcReq) := []
  ckpt : AMap Ckpt := []
  ptns : AMap Ptn := []
  col : Col := {}
  sec : Sec := {}
  life : Life := {}
  tap : Tap := {}
  startup : Start := {}
  test : Test := {}
  power : Power := {}
  dict : Dict := {}
  sox : Sox := {}
  /-- Tracker entries held at the home agents: home agent, request, partition (R218). -/
  held : List (Nat × Nat × Option Nat) := []
  /-- Tiles held in reset or powered down (R180). -/
  heldTiles : AMap Unit := []
  /-- Owner of each owned plot (R405). -/
  plots : AMap Nat := []
  deriving DecidableEq, Repr

/-! ## Reset -/

/-- Members of a register at sub-indices 0 to n − 1 with one value. -/
def resetSubs (r : Reg) (u n v : Nat) : AMap Nat := (List.range n).map (fun i => (r.key u i, v))

/-- What a start finds in a hub with its eight stacks and nothing else: PDX_TOPO_FOUND in the layout of R533. -/
def resetTopo : Nat :=
  1 + 5808 * 2 ^ 16 + 8 * 2 ^ 136 + 2304 * 2 ^ 144 + 4 * 2 ^ 168 + (List.range 8).foldl (fun v h => v + 2 ^ (8 * (0x140 + 8 * h))) 0

/-- Registers that differ from their default at READY, in the order of the register file (R368, R527, R534). -/
def resetRegs : AMap Nat :=
  [(Reg.lcsState.key 0 0, 3), (Reg.lcsMarks.key 0 0, 2 ^ 48 - 1), (Reg.lcsOwnerDigest.key 0 0, 4)]
  ++ [(Reg.pdxReady.key 0 0, 1), (Reg.pdxBringupStep.key 0 0, 10), (Reg.pdxBringupResult.key 0 0, 2)]
  ++ [(Reg.pdxTopoFound.key 0 0, resetTopo), (Reg.pdxStarts.key 0 0, 1)]
  ++ [(Reg.beatRounds.key 0 0, 125), (Reg.hbmStacksPresent.key 0 0, 0xFF)]
  ++ resetSubs .hbmStackState 0 8 2 ++ resetSubs .hbmSpareFree 0 8 16 ++ resetSubs .hbmPprLeft 0 8 8192
  ++ [(Reg.tilSpareMap.key 0 0, 2 ^ 384 - 1)] ++ resetSubs .tilCclkEffective 0 32 1300
  ++ (List.range 8).flatMap (fun k => (Reg.uciRepairPending.key k 0, 2 ^ 1024 - 1) :: resetSubs .uciRepairMap k 16 (2 ^ 64 - 2 ^ 8))
  ++ [(Reg.soxPtpPort.key 0 0, 0xFF)]
  ++ resetSubs .soxEgressTable 0 16 ((List.range 8).foldl (fun v k => v + 2 ^ 31 * 2 ^ (32 * k)) 0)
  ++ [(Reg.secState.key 0 0, 1), (Reg.secApproved.key 0 0, 1)]
  ++ [(Reg.sqlState.key 0 0, 1), (Reg.sqlBuffered.key 0 0, 1), (Reg.sqlSeq.key 0 0, 1)]
  ++ resetSubs .bstResult 0 10 1

/-- The START record of the start that has just ended (R563, R564). -/
def resetRecord : Record :=
  { code := 0, kind := .start, sev := .corrected, ptn := none, ptpTime := false, raised := false, keep := false, beat := 0, time := 0
    seq := 0, detail := 0, ext := 2 * 2 ^ 112, boot := 1 }

/-- The hub at READY of its first start (R527), in a unit whose life cycle stands at FIELD, with its stacks and no chiplet, no
topology record, no scale-out link and no host; what the spec leaves open stands in notes/assumptions/3.md and 5.md. -/
def State.reset : State :=
  { regs := resetRegs
    sql := { buffer := [resetRecord] }
    sec := { slots := [(0x200, { material := 0 }), (0x201, { material := 0 })], root := some 0, hubKey := some 0 }
    hep := { perst := true } }

/-- Faults. The block has none: the spec gives every command an effect, and a malformed or refused one is answered with a status.
No command raises a fault. -/
inductive Fault
  deriving DecidableEq, Repr

/-- Refusals. -/
inductive Refusal where
  /-- Raised by the dispatch of a command that has no meaning yet, and by no other part of the model. Safe: the machine stops. -/
  | notModelled (mnemonic : String)
  deriving DecidableEq, Repr

end Sys2Proof.Machine
end

