-- ==== Sys2Proof/Machine/Ops.lean ====
section
/-! DEFINITION. The named operations over registers, counters, memory and outputs that the meanings share. -/

namespace Sys2Proof.Machine

/-! ## Bit fields and byte order -/

/-- Bits [msb:lsb] of a number (R6). -/
def field (v msb lsb : Nat) : Nat := v / 2 ^ lsb % 2 ^ (msb + 1 - lsb)

/-- `v` with bits [msb:lsb] replaced by `x`. -/
def setField (v msb lsb x : Nat) : Nat :=
  v - field v msb lsb * 2 ^ lsb + (x % 2 ^ (msb + 1 - lsb)) * 2 ^ lsb

/-- `v` with bit `i` set. -/
def setBit (v i : Nat) : Nat := if v.testBit i then v else v + 2 ^ i

/-- `v` with bit `i` clear. -/
def clearBit (v i : Nat) : Nat := if v.testBit i then v - 2 ^ i else v

/-- The numbers of the set bits of `v` below `n`, ascending. -/
def bitsOf (v n : Nat) : List Nat := (List.range n).filter v.testBit

/-- Set bits of `v` below `n`. -/
def popCount (v n : Nat) : Nat := (bitsOf v n).length

/-- Little-endian value of bytes (R7). -/
def leNat : List Byte → Nat
  | [] => 0
  | b :: r => b.toNat + 256 * leNat r

/-- The `n` low bytes of `v`, little-endian (R7). -/
def toLe : Nat → Nat → List Byte
  | 0, _ => []
  | n + 1, v => BitVec.ofNat 8 v :: toLe n (v / 256)

/-- Big-endian value of bytes (R7: network headers). -/
def beNat (bs : List Byte) : Nat := leNat bs.reverse

/-- A two's complement number of `n` bits as an integer. -/
def signed (n v : Nat) : Int := if v % 2 ^ n < 2 ^ (n - 1) then (v % 2 ^ n : Nat) else ((v % 2 ^ n : Nat) : Int) - 2 ^ n

/-- An integer in two's complement of `n` bits. -/
def twos (n : Nat) (i : Int) : Nat := (i % (2 ^ n : Nat)).toNat

/-! ## Registers -/

/-- The value in effect of a register (R18): member `u`, sub-index `sub`. -/
def State.rd (s : State) (r : Reg) (u : Nat := 0) (sub : Nat := 0) : Nat :=
  s.regs.get (r.key u sub) (r.dfltAt sub)

/-- A register set to `v`, which is held in the register's width. -/
def State.wr (s : State) (r : Reg) (v : Nat) (u : Nat := 0) (sub : Nat := 0) : State :=
  { s with regs := s.regs.put (r.key u sub) (v % 2 ^ r.bits) (r.dfltAt sub) }

/-- A counter's value raised by `n`. Past the end of its width the spec states no value
(notes/assumptions/8.md). -/
def counterAdd (r : Reg) (u sub v n : Nat) : Nat :=
  if v + n < 2 ^ r.bits then v + n else Config.counterEnd (r.key u sub)

/-- A counter register raised by `n`. -/
def State.bump (s : State) (r : Reg) (u : Nat := 0) (sub : Nat := 0) (n : Nat := 1) : State :=
  s.wr r (counterAdd r u sub (s.rd r u sub) n) u sub

/-- The activates that an access to a stack issues, a free number: whether a row is open is a matter of timing (R219, R242). -/
def State.activate (s : State) (h : Nat) : State :=
  s.bump .hbmActivates 0 h (Config.activates h (s.rd .hbmReadBytes 0 h + s.rd .hbmWriteBytes 0 h))

/-- Bits [msb:lsb] of a register. -/
def State.rdField (s : State) (r : Reg) (msb lsb : Nat) (u : Nat := 0) (sub : Nat := 0) : Nat :=
  field (s.rd r u sub) msb lsb

/-- Bits [msb:lsb] of a register replaced. -/
def State.wrField (s : State) (r : Reg) (msb lsb x : Nat) (u : Nat := 0) (sub : Nat := 0) : State :=
  s.wr r (setField (s.rd r u sub) msb lsb x) u sub

/-- A 64-bit counter at word `i` of a register of several words, raised by one. -/
def State.bumpWord (s : State) (r : Reg) (i : Nat) (u : Nat := 0) (sub : Nat := 0) : State :=
  let v := s.rdField r (64 * i + 63) (64 * i) u sub
  let v' := if v + 1 < 2 ^ 64 then v + 1 else Config.counterEnd (r.key u sub)
  s.wrField r (64 * i + 63) (64 * i) v' u sub

/-- A register back at its default. -/
def State.clr (s : State) (r : Reg) (u : Nat := 0) (sub : Nat := 0) : State :=
  { s with regs := s.regs.erase (r.key u sub) }

/-! ## Free values and outputs -/

/-- The free word of the next draw. -/
def State.free (s : State) : Word := Config.freeWord s.fresh

/-- The counter of free values advanced: the next draw is another value. -/
def State.drawn (s : State) (n : Nat := 1) : State := { s with fresh := s.fresh + n }

/-- A message or signal sent. -/
def State.emit (s : State) (o : Out) : State := { s with sent := s.sent ++ [o] }

/-- Messages sent, in order. -/
def State.emitAll (s : State) (os : List Out) : State := { s with sent := s.sent ++ os }

/-- Apply an operation to the state for each member of a list, in order. -/
def State.each {α : Type} (s : State) (l : List α) (f : State → α → State) : State := l.foldl f s

/-! ## Memory (R10, R209, R215, R216) -/

/-- The byte at an HPA. A byte that nothing has written reads 0 (notes/assumptions/4.md). -/
def State.byte (s : State) (a : Nat) : Byte := AMap.get s.mem a 0

/-- One byte of memory set. -/
def State.setByte (s : State) (a : Nat) (b : Byte) : State := { s with mem := AMap.put s.mem a b 0 }

/-- Bytes of a memory, from `a` on, replaced. -/
def memPut (m : List Host.Cell) (a : Nat) : List Byte → List Host.Cell
  | [] => m
  | b :: r => memPut (AMap.put m a b 0) (a + 1) r

/-- The `n` bytes of a memory from `a` on. -/
def memBytes (m : List Host.Cell) (a n : Nat) : List Byte :=
  (List.range n).map (fun i => AMap.get m (a + i) (0 : Byte))

def State.bytes (s : State) (a n : Nat) : List Byte := memBytes s.mem a n

def State.putBytes (s : State) (a : Nat) (bs : List Byte) : State := { s with mem := memPut s.mem a bs }

/-- The memory's form: canonical, and no byte listed that equals what an unlisted one reads as. -/
def Memory.wf (m : List Host.Cell) : Bool := AMap.sorted m && m.all (fun c => c.2 != 0)

/-- A sector is stored as poisoned (R216). -/
def State.poisoned (s : State) (sector : Nat) : Bool := (s.poison.find sector).isSome

/-! ## Lists in order -/

/-- Insertion by a key, stable. -/
def insertBy {α : Type} (key : α → Nat) (x : α) : List α → List α
  | [] => [x]
  | y :: r => if key x < key y then x :: y :: r else y :: insertBy key x r

/-- A list in rising order of a key; equal keys keep their order. -/
def sortBy {α : Type} (key : α → Nat) (l : List α) : List α := l.foldl (fun acc x => insertBy key x acc) []

end Sys2Proof.Machine
end

