-- ==== Sys2Proof/Machine/Operands.lean ====
section
/-! DEFINITION. What the operands of commands name: tiles, plots and quadrants, hub-physical locations, the
home granule tables, and the translation of partition-physical addresses. -/

namespace Sys2Proof.Machine

/-! ## Numbering (R12) -/

/-- Column of a logical tile. -/
def tileX (t : Nat) : Nat := t % 48
/-- Row of a logical tile. -/
def tileY (t : Nat) : Nat := t / 48
/-- Tile at (x, y). -/
def tileAt (x y : Nat) : Nat := 48 * y + x
/-- The plot of a tile. -/
def plotOf (t : Nat) : Nat := tileY t / 6 * 8 + tileX t / 6
/-- The tiles of a plot, by row. -/
def plotTiles (p : Nat) : List Nat :=
  (List.range 36).map (fun i => tileAt (6 * (p % 8) + i % 6) (6 * (p / 8) + i / 6))
/-- Quadrant of a site: 0 NW, 1 SW, 2 NE, 3 SE (R12). -/
def siteQuad (k : Nat) : Nat := k / 2
/-- Quadrant of a stack (R12). -/
def stackQuad (h : Nat) : Nat :=
  match h / 2 with
  | 0 => 0
  | 1 => 2
  | 2 => 1
  | _ => 3
/-- The other stack of a stack's quadrant. -/
def stackMate (h : Nat) : Nat := if h % 2 = 0 then h + 1 else h - 1
/-- Preferred stack of a site (R252). -/
def preferredStack (k : Nat) : Nat :=
  match siteQuad k with
  | 0 => 0
  | 1 => 4
  | 2 => 3
  | _ => 7
/-- The site for which a tile's requests count (R252). -/
def tileSite (t : Nat) : Nat := if tileX t ≤ 23 then tileY t / 12 else 4 + tileY t / 12

/-- The quadrant of a plot. -/
def plotQuad (p : Nat) : Nat := (if p % 8 < 4 then 0 else 2) + (if p / 8 < 4 then 0 else 1)

/-- The partition that owns a plot. -/
def State.plotOwner (s : State) (p : Nat) : Option Nat := s.plots.find p
/-- The partition that owns a tile. -/
def State.tileOwner (s : State) (t : Nat) : Option Nat := s.plotOwner (plotOf t)
/-- Plots of a partition, ascending. -/
def State.plotsOf (s : State) (p : Nat) : List Nat := (s.plots.where (fun _ o => o == p)).keys
/-- Tiles of a partition. -/
def State.tilesOf (s : State) (p : Nat) : List Nat := (s.plotsOf p).flatMap plotTiles

/-- A tile held in reset or powered down (R180). -/
def State.tileHeld (s : State) (t : Nat) : Bool := (s.heldTiles.find t).isSome

/-- A number for each entry point, by which its cache is kept. -/
def entryCode : Entry → Nat
  | .site k => k
  | .host => 8
  | .hub => 9
  | .engine c => 10 + c
  | .sox e => 16 + e
  | .tile t => 64 + t

/-! ## Access (R19) -/

/-- What a role may do with an entry: nothing, read, write, or both. -/
inductive Acc where
  | n | r | w | b
  deriving DecidableEq, Repr

/-- A role's part of an access string, in the order V, I, O, S, T. -/
def accOf (l : List Acc) (x : Role) : Acc :=
  match x with
  | .vendor => l.getD 0 .n
  | .integrator => l.getD 1 .n
  | .operator => l.getD 2 .n
  | .security => l.getD 3 .n
  | .tenant => l.getD 4 .n

def Acc.writes (a : Acc) : Bool := a == .w || a == .b
def Acc.reads (a : Acc) : Bool := a == .r || a == .b

/-- A role may write under an access string. -/
def mayWrite (l : List Acc) (x : Role) : Bool := (accOf l x).writes

/-- Sessions of the dictionary that end (R506). -/
def State.endSessions (s : State) (q : Session → Bool) : State :=
  { s with dict := { s.dict with sessions := s.dict.sessions.where (fun _ x => !q x) } }

/-! ## Sites -/

def State.site (s : State) (k : Nat) : Site := s.sites.get k {}

def State.setSite (s : State) (k : Nat) (x : Site) : State := { s with sites := s.sites.put k x {} }

/-! ## Hub-physical locations (R209–R211) -/

/-- Stack of an HPA. -/
def stackOf (hpa : Nat) : Nat := hpa / Config.stackBytes
/-- Hub granule number of an HPA. -/
def granOf (hpa : Nat) : Nat := hpa / Config.granule
/-- Pseudo-channel of an HPA (R211). -/
def pchOf (hpa : Nat) : Nat := field hpa 13 8 ^^^ field hpa 19 14
/-- Bank of an HPA within its pseudo-channel (R211). -/
def bankOf (hpa : Nat) : Nat := field hpa 21 16 ^^^ field hpa 27 22 ^^^ field hpa 33 28
/-- Row of an HPA within its bank (R211). -/
def rowOf (hpa : Nat) : Nat := field hpa 35 22
/-- Column of an HPA within its row (R211). -/
def colOf (hpa : Nat) : Nat := field hpa 15 14 * 8 + field hpa 7 5

/-- The HPA of column `col` of a row: the map of R211 undone from its upper fields down. -/
def hpaOfCol (stack pch bank row col : Nat) : Nat :=
  let mid := bank ^^^ (row % 64) ^^^ (row / 64 % 64)      -- O[21:16]
  let o1914 := mid % 16 * 4 + col / 8                     -- O[19:14]
  stack * Config.stackBytes + row * 2 ^ 22 + mid * 2 ^ 16 + col / 8 * 2 ^ 14
    + (pch ^^^ o1914) * 2 ^ 8 + col % 8 * 2 ^ 5

/-- States of a stack (R242): READY is 2. -/
def stackReady : Nat := 2

/-- A stack in service. -/
def State.stackUp (s : State) (h : Nat) : Bool := h < 8 && s.rd .hbmStackState 0 h == stackReady

/-- An HPA that the hub holds: below 512 GiB and in a stack that is neither absent nor failed (R209). -/
def State.populated (s : State) (hpa : Nat) : Bool :=
  stackOf hpa < 8 && decide (2 ≤ s.rd .hbmStackState 0 (stackOf hpa))

/-- What a granule is before Jay has written its entry (R210). -/
def State.hgtReset (s : State) (hg : Nat) : Hgt :=
  let w := hg % 65536
  let spare := s.rd .hbmSpareGranules
  let reserve := s.rd .hbmHubReserve
  if 65536 - spare ≤ w then { state := .spare }
  else if 65536 - spare - reserve ≤ w then { state := .reserve }
  else {}

/-- The HGT entry of a hub granule (R245). -/
def State.hgt (s : State) (hg : Nat) : Hgt := s.jay.hgt.get hg (s.hgtReset hg)

/-- The HGT entry of a hub granule set. -/
def State.setHgt (s : State) (hg : Nat) (e : Hgt) : State :=
  { s with jay := { s.jay with hgt := s.jay.hgt.put hg e (s.hgtReset hg) } }

/-- The parts of an access that cross no 256 B boundary. -/
def lineParts (ppa n : Nat) : List (Nat × Nat) :=
  if n = 0 then []
  else (List.range ((ppa + n - 1) / 256 - ppa / 256 + 1)).map (fun i =>
    let a := max ppa ((ppa / 256 + i) * 256)
    (a, min (ppa + n) ((ppa / 256 + i + 1) * 256) - a))

/-! ## Stored data and poison (R215, R216) -/

/-- Bytes of the unit of reading and writing at an HPA: a sector in ECC mode, a line in MAC mode. -/
def State.unit (s : State) (hpa : Nat) : Nat := if (s.hgt (granOf hpa)).mac then 64 else 32

/-- The units that the bytes `a` to `a + n - 1` touch, each by its first byte. -/
def unitsOf (size a n : Nat) : List Nat :=
  if n = 0 then []
  else (List.range ((a + n - 1) / size - a / size + 1)).map (fun i => (a / size + i) * size)

/-- Some sector of a unit is stored as poisoned. -/
def State.unitPoisoned (s : State) (size u : Nat) : Bool :=
  (List.range (size / 32)).any (fun i => s.poisoned (u / 32 + i))

/-- A read of these bytes meets a poisoned unit (R216). -/
def State.readsPoison (s : State) (a n : Nat) : Bool :=
  (unitsOf (s.unit a) a n).any (s.unitPoisoned (s.unit a))

/-- A unit stored as poisoned: zero data and the pattern of R216. -/
def State.poisonUnit (s : State) (size u : Nat) : State :=
  { s with
    mem := memPut s.mem u (List.replicate size 0)
    poison := (List.range (size / 32)).foldl (fun m i => AMap.set m (u / 32 + i) ()) s.poison }

/-- A unit stored without poison. -/
def State.cleanUnit (s : State) (size u : Nat) : State :=
  { s with poison := (List.range (size / 32)).foldl (fun m i => AMap.erase m (u / 32 + i)) s.poison }

/-- The unit's poison after a write of the bytes `a` to `a + n - 1`: a full write removes it, a
partial write leaves a poisoned unit poisoned, poisoned data poisons every unit it touches. -/
def State.settleUnit (size a n : Nat) (bad : Bool) (s : State) (u : Nat) : State :=
  if bad then s.poisonUnit size u
  else if decide (a ≤ u) && decide (u + size ≤ a + n) then s.cleanUnit size u
  else if s.unitPoisoned size u then s.poisonUnit size u
  else s

/-- Data written at an HPA, as poison or not (R215, R216). -/
def State.store64 (s : State) (a : Nat) (bs : List Byte) (bad : Bool) : State :=
  (unitsOf (s.unit a) a bs.length).foldl (State.settleUnit (s.unit a) a bs.length bad) (s.putBytes a bs)

/-! ## The directory and translation (R243–R250, R410) -/

/-- DBASE of a partition. -/
def State.dbase (s : State) (p : Nat) : Nat := s.rdField .jayPtnRange 50 32 0 p
/-- DLEN of a partition. -/
def State.dlen (s : State) (p : Nat) : Nat := s.rdField .jayPtnRange 19 0 0 p

/-- The directory entry of a partition's PPA granule (R243). -/
def State.dirEntry (s : State) (p g : Nat) : DirEntry := s.jay.dir.get (s.dbase p + g) {}

/-- The directory entry of a partition's PPA granule set. -/
def State.setDir (s : State) (p g : Nat) (e : DirEntry) : State :=
  { s with jay := { s.jay with dir := s.jay.dir.put (s.dbase p + g) e {} } }

/-- The place of a directory entry: its target while it forwards, else its granule (R248). -/
def DirEntry.place (e : DirEntry) : Nat := if e.mstate = .forward then e.tgran else e.hgran

/-- A window entry of R410, from its 128 bits. -/
structure Window where
  peer : Nat
  exGran : Nat
  imGran : Nat
  count : Nat
  write : Bool
  valid : Bool
  deriving DecidableEq, Repr

def windowOf (v : Nat) : Window :=
  { peer := field v 127 123, exGran := field v 122 95, imGran := field v 94 67, count := field v 66 51
    write := v.testBit 50, valid := v.testBit 49 }

/-- The open import window of partition `p` that holds PPA granule `g` (R410). -/
def State.importOf (s : State) (p g : Nat) : Option Window :=
  ((List.range 8).filterMap (fun w =>
    if (s.rd .ptnWindowState p).testBit w then
      let e := windowOf (s.rd .ptnWindow p w)
      if e.imGran ≤ g ∧ g < e.imGran + e.count then some e else none
    else none)).head?

/-- Where a PPA lies: its HPA, the partition under whose key and entry it is served, whether it may
be written, and the attributes of its entry. -/
structure Place where
  hpa : Nat
  owner : Nat
  writable : Bool
  sfmt : Nat
  kgen : Nat
  rowrep : Bool
  deriving DecidableEq, Repr

/-- The place of offset `off` in a PPA granule through a valid directory entry of partition `o`. -/
def State.placeIn (s : State) (o g off : Nat) (w : Bool) : Option Place :=
  let e := s.dirEntry o g
  if g < s.dlen o ∧ e.valid then
    some { hpa := e.place * Config.granule + off, owner := o, writable := w, sfmt := e.sfmt, kgen := e.kgen
           rowrep := e.rowrep }
  else none

/-- Translation of a PPA of partition `p`: an open window first, then the partition's own run
(R248, R410). None where no entry maps it. -/
def State.place (s : State) (p ppa : Nat) : Option Place :=
  let g := ppa / Config.granule
  let off := ppa % Config.granule
  match s.importOf p g with
  | some w => s.placeIn w.peer (w.exGran + (g - w.imGran)) off w.write
  | none => s.placeIn p g off true

/-- `n` bytes read at a PPA: data and whether it is poisoned; none where the PPA is not mapped. The
bytes lie in one granule, as every object of the hub's own does (its alignment is its size). -/
def State.readPpa (s : State) (p ppa n : Nat) : Option (List Byte × Bool) :=
  (s.place p ppa).map (fun pl => (s.bytes pl.hpa n, s.readsPoison pl.hpa n))

/-- Bytes written at a PPA; the state is unchanged where the PPA is not mapped or not writable. -/
def State.writePpa (s : State) (p ppa : Nat) (bs : List Byte) (bad : Bool := false) : State :=
  match s.place p ppa with
  | some pl => if pl.writable then s.store64 pl.hpa bs bad else s
  | none => s

end Sys2Proof.Machine
end

