-- ==== Sys2Proof/Machine/Sync.lean ====
section
/-! DEFINITION. Synchronization objects: the operations of R381 and the waiters of R383. -/

namespace Sys2Proof.Machine

/-! ## Objects and runs -/

/-- REASON codes of an answer (R384). -/
def reasonDone : Nat := 0
def reasonExpired : Nat := 1
def reasonRange : Nat := 2
def reasonKind : Nat := 3
def reasonOpx : Nat := 4
def reasonOperand : Nat := 5

/-- Bank of an object (R379). -/
def bankOfObj (n : Nat) : Nat := n / 8192

/-- The object lies in the run that COL_SYNC_MAP gives the partition in its bank (R379). -/
def State.ownsObj (s : State) (p n : Nat) : Bool :=
  let b := bankOfObj n
  let base := s.rdField .colSyncMap (32 * b + 28) (32 * b + 16) 0 p
  let count := s.rdField .colSyncMap (32 * b + 13) (32 * b) 0 p
  decide (n < 65536) && decide (base ≤ n % 8192) && decide (n % 8192 < base + count)

/-- An object (R380): COUNTER 0 unless set. -/
def State.obj (s : State) (n : Nat) : SyncObj := s.sync.objs.get n {}

def State.setObj (s : State) (n : Nat) (o : SyncObj) : State :=
  { s with sync := { s.sync with objs := s.sync.objs.put n o {} } }

/-- TARGET, COUNT and GEN of a BARRIER value (R380). -/
def barTarget (v : Word) : BitVec 16 := v.extractLsb' 48 16
def barCount (v : Word) : BitVec 16 := v.extractLsb' 32 16
def barGen (v : Word) : BitVec 32 := v.extractLsb' 0 32
def barValue (t c : BitVec 16) (g : BitVec 32) : Word := (t ++ c) ++ g

/-- A barrier value after one arrival (R381): the phase ends when COUNT reaches TARGET. -/
def barArrive (v : Word) : Word :=
  if barCount v + 1 = barTarget v then barValue (barTarget v) 0 (barGen v + 1)
  else barValue (barTarget v) (barCount v + 1) (barGen v)

/-- A barrier's COUNT lies below its TARGET (R381). -/
def SyncObj.barrierOk (o : SyncObj) : Bool :=
  o.kind != .barrier || decide (barCount o.value < barTarget o.value)

/-! ## Answers (R384) -/

/-- HTL opcodes CMP and SYNC_DATA (R307). -/
def htlCmp : Nat := 0x20
def htlSyncData : Nat := 0x31

/-- An answer on its way. RESULT and REASON of a slot of the host's window hold it (R478). At a site it leaves as SYNC_DATA, or as CMP with status SYNC for REASON 2–5, and the request's
tracker is free; a late answer to a request that has timed out is discarded. -/
def State.syncSend (s : State) (src : SyncSrc) (result : Word) (reason : Nat) : State :=
  let s := s.emit (.syncAnswer src result reason)
  match src.entry with
  | .site k =>
    (match s.noc.trackers.find? (fun e => e.2.entry == src.entry && e.2.op == .sync && e.2.lab == src.lab && e.2.tag == src.tag) with
     | none => s
     | some (id, x) =>
       let s : State := { s with noc := { s.noc with trackers := s.noc.trackers.erase id } }
       if x.timedOut then s
       else if reason ≤ reasonExpired then
         s.emit (.htl k htlSyncData x.lab x.och x.tag 0 0 0 true 0
           (toLe 8 result.toNat ++ [BitVec.ofNat 8 reason] ++ List.replicate 23 0))
       else (s.bump .htlRefused k 8).emit (.htl k htlCmp x.lab x.och x.tag 8 0 0 true 0 []))
  | .host =>
    let n := 128 * src.lab.ptn + src.tag
    let x := s.hep.slots.get n {}
    { s with hep := { s.hep with slots := s.hep.slots.put n { x with result := result.toNat, reason } {} } }
  | _ => s

/-- A waiting operation that a reset of its partition ends (R383): status ABORTED. -/
def State.syncAbort (s : State) (src : SyncSrc) : State :=
  let s := s.emit (.syncAborted src)
  match src.entry with
  | .site k =>
    (match s.noc.trackers.find? (fun e => e.2.entry == src.entry && e.2.op == .sync && e.2.lab == src.lab && e.2.tag == src.tag) with
     | none => s
     | some (id, x) =>
       let s : State := { s with noc := { s.noc with trackers := s.noc.trackers.erase id } }
       if x.timedOut then s else s.emit (.htl k htlCmp x.lab x.och x.tag 1 0 0 true 0 []))
  | _ => s

/-- An answer of a bank. -/
structure SyncAns where
  src : SyncSrc
  result : Word
  reason : Nat
  deriving DecidableEq, Repr

def State.syncSendAll (s : State) (l : List SyncAns) : State := s.each l (fun s a => s.syncSend a.src a.result a.reason)

/-! ## Waiting (R383) -/

/-- The condition of a wait holds for an object's value. -/
def WaitCond.holds (c : WaitCond) (v : Word) : Bool :=
  match c with
  | .ge a => decide (a ≤ v)
  | .acquire a => decide (a ≤ v)
  | .genNot g => barGen v != g
  | .any a _ => v &&& a != 0
  | .all a _ => v &&& a == a

/-- The object's value after a wait whose condition holds has been served. -/
def WaitCond.take (c : WaitCond) (v : Word) : Word :=
  match c with
  | .acquire a => v - a
  | .any a true => v &&& ~~~ a
  | .all a true => v &&& ~~~ a
  | _ => v

/-- The result of a wait that is served (R381). -/
def WaitCond.result (c : WaitCond) (v : Word) : Word :=
  match c with
  | .acquire a => v - a
  | _ => v

def WaitCond.isAcquire : WaitCond → Bool
  | .acquire _ => true
  | _ => false

/-- What serving an object's waiters leaves: the value, those that still wait and the answers. -/
structure Served where
  value : Word
  left : List Waiter
  out : List SyncAns
  deriving DecidableEq, Repr

/-- The waiters of object `n`, in arrival order, served as their conditions come to hold. An ACQUIRE
behind an ACQUIRE that still waits is not served (R383). -/
def serve (n : Nat) : Word → Bool → List Waiter → Served
  | v, _, [] => ⟨v, [], []⟩
  | v, blocked, w :: r =>
    if w.obj = n ∧ w.cond.holds v ∧ ¬ (blocked ∧ w.cond.isAcquire) then
      let k := serve n (w.cond.take v) blocked r
      ⟨k.value, k.left, ⟨w.src, w.cond.result v, reasonDone⟩ :: k.out⟩
    else
      let k := serve n v (blocked || (decide (w.obj = n) && w.cond.isAcquire)) r
      ⟨k.value, w :: k.left, k.out⟩

/-- Object `n` takes a value, and its waiters are served. -/
def State.settleObj (s : State) (n : Nat) (o : SyncObj) : State :=
  let k := serve n o.value false s.sync.waiters
  let t : State := { s.setObj n { o with value := k.value } with
    sync := { (s.setObj n { o with value := k.value }).sync with waiters := k.left } }
  t.syncSendAll k.out

/-- Waiter entries that a partition holds in a bank. -/
def State.waitersIn (s : State) (p bank : Nat) : Nat :=
  (s.sync.waiters.filter (fun w => w.src.lab.ptn == p && bankOfObj w.obj == bank)).length

/-- An operation answered. -/
def State.syncDone (s : State) (src : SyncSrc) (v : Word) : State := s.syncSend src v reasonDone

/-- An operation refused with REASON 2–5: nothing changes but the count (R384). The spec states no
result for it: a free value (notes/assumptions/1.md). -/
def State.syncRefuse (s : State) (src : SyncSrc) (reason : Nat) : State :=
  ((s.bump .colSyncErrors 0 src.lab.ptn).syncSend src s.free reason).drawn

/-- A wait (R383): answered at once when its condition holds, EXPIRED when it may not wait, else a
waiter entry. An ACQUIRE behind a waiting ACQUIRE waits. -/
def State.syncWait (s : State) (src : SyncSrc) (n : Nat) (c : WaitCond) : State :=
  let o := s.obj n
  let behind := c.isAcquire && s.sync.waiters.any (fun w => w.obj == n && w.cond.isAcquire)
  if c.holds o.value ∧ ¬ behind then
    (s.settleObj n { o with value := c.take o.value }).syncSend src (c.result o.value) reasonDone
  else if src.entry = .host then s.syncSend src o.value reasonExpired
  else if 128 ≤ s.waitersIn src.lab.ptn (bankOfObj n) then
    (s.bump .colWaitFull 0 src.lab.ptn).syncSend src o.value reasonExpired
  else { s with sync := { s.sync with waiters := s.sync.waiters ++ [⟨n, src, c⟩] } }

/-- The checks every operation passes first, in the order of R384: the object's run, its kind, its
operands. The operation codes of this table exist, so OPX is never the reason. -/
def State.syncOp (s : State) (src : SyncSrc) (n : Nat) (kinds : List SyncKind) (operandBad : Bool)
    (f : State → State) : State :=
  if ¬ s.ownsObj src.lab.ptn n then s.syncRefuse src reasonRange
  else if ¬ kinds.contains (s.obj n).kind then s.syncRefuse src reasonKind
  else if operandBad then s.syncRefuse src reasonOperand
  else f s

/-- A change of an object's value whose answer is the value `r`. -/
def State.syncSet (s : State) (src : SyncSrc) (n : Nat) (v r : Word) : State :=
  (s.settleObj n { s.obj n with value := v }).syncDone src r

def allKinds : List SyncKind := [.counter, .semaphore, .barrier, .event]

/-- The kind of INIT's operand B[1:0] (R381). -/
def kindOf (b : Word) : SyncKind :=
  match (b.extractLsb' 0 2).toNat with
  | 0 => .counter
  | 1 => .semaphore
  | 2 => .barrier
  | _ => .event

/-- Every waiter that `p` names is answered and its entry is freed; then the waiters that stood behind it are served where
their conditions hold. -/
def State.endWaiters (s : State) (p : Waiter → Bool) (ans : State → Waiter → State) : State :=
  let gone := s.sync.waiters.filter p
  let t : State := { s with sync := { s.sync with waiters := s.sync.waiters.filter (fun w => !p w) } }
  (t.each gone ans).each gone (fun t w => t.settleObj w.obj (t.obj w.obj))

/-- Waiters answered EXPIRED with the value their object holds (R383). -/
def State.expireWaiters (s : State) (p : Waiter → Bool) : State :=
  s.endWaiters p (fun t w => t.syncSend w.src (s.obj w.obj).value reasonExpired)

/-- SET of event flags for partition `p` by the hub itself, as an interrupt's delivery (R381, R417). -/
def State.setFlags (s : State) (p n : Nat) (a : Word) : State :=
  if s.ownsObj p n ∧ (s.obj n).kind = .event then s.settleObj n { s.obj n with value := (s.obj n).value ||| a }
  else s.bump .colSyncErrors 0 p

/-- ADD for partition `p` by the hub itself to a COUNTER, as the end of a collective or of a
descriptor (R391, R152). -/
def State.addCounter (s : State) (p n : Nat) (a : Word) : State :=
  if s.ownsObj p n ∧ (s.obj n).kind = .counter then s.settleObj n { s.obj n with value := (s.obj n).value + a }
  else s.bump .colSyncErrors 0 p

/-- Semaphore units returned, at most 2^64 − 1 in all (R381). -/
def semAdd (v a : Word) : Word := if v.toNat + a.toNat < 2 ^ 64 then v + a else BitVec.allOnes 64

/-- The waiter `id` of a bank, counted from 0 in arrival order. -/
def State.waiterAt (s : State) (bank id : Nat) : Option Waiter :=
  (s.sync.waiters.filter (fun w => bankOfObj w.obj == bank))[id]?

/-- One waiter answered EXPIRED; those behind it are served where their conditions hold. -/
def State.expireOne (s : State) (w : Waiter) : State :=
  let u := s.syncSend w.src (s.obj w.obj).value reasonExpired
  let t : State := { u with sync := { u.sync with waiters := u.sync.waiters.erase w } }
  t.settleObj w.obj (s.obj w.obj)

end Sys2Proof.Machine
end

