-- ==== Sys2Proof/Machine/Interrupts.lean ====
section
/-! DEFINITION. Interrupts: MSI-X messages of the host endpoint and the vectors of a partition. -/

namespace Sys2Proof.Machine

/-! ## Partition states (R406) -/

def ptnFree : Nat := 0
def ptnFormed : Nat := 1
def ptnSealing : Nat := 2
def ptnSealed : Nat := 3
def ptnHalted : Nat := 4
def ptnResetting : Nat := 5
def ptnScrubbing : Nat := 6
def ptnDissolving : Nat := 7

/-- PTN_STATE of a partition. -/
def State.ptnState (s : State) (p : Nat) : Nat := s.rd .ptnState p

def State.setPtnState (s : State) (p v : Nat) : State := s.wr .ptnState v p

/-- The partition is formed: it is in any state but FREE. -/
def State.formed (s : State) (p : Nat) : Bool := p < 32 && s.ptnState p != ptnFree

/-! ## MSI-X (R485) -/

/-- HEP_LINK_STATE of a link that is up (R493). -/
def linkUp : Nat := 2

/-- An MSI-X entry as a reset leaves it: masked. -/
def msixReset : Nat := 2 ^ 96

/-- A message of function `fn`: 0 is PF0, pp + 1 the VF of partition pp. Discarded and counted while
the link is down; held pending while the entry or the function is masked. -/
def State.msix (s : State) (fn entry : Nat) : State :=
  if s.rd .hepLinkState ≠ linkUp then s.bump .hepIntrDiscarded
  else if (s.hep.msixTab.get (2048 * fn + entry) msixReset).testBit 96 ∨ (s.hep.fnMask.find fn).isSome then
    { s with hep := { s.hep with msixPend := s.hep.msixPend.set (2048 * fn + entry) () } }
  else s.emit (.msix fn entry)

/-! ## The checkpoint export (R487, R488) -/

/-- STATUS of the export block. -/
def xpRunning : Nat := 1
def xpDone : Nat := 2
def xpNotEnabled : Nat := 3
def xpNoKey : Nat := 4
def xpNotSealed : Nat := 5
def xpXlate : Nat := 6
def xpLinkLost : Nat := 7
def xpAborted : Nat := 8
def xpBusy : Nat := 9
def xpPolicy : Nat := 10

/-- The partition of the run. -/
def Export.ptn (x : Export) : Nat := field x.run 63 59

/-- A running export ends with a status; each end raises PF0 vector 3. -/
def State.exportEnd (s : State) (status : Nat) : State :=
  if s.hep.exp.status = xpRunning then
    let t : State := { s with hep := { s.hep with exp := { s.hep.exp with status, busy := false } } }
    t.msix 0 3
  else s

/-- A running export of a partition ends. -/
def State.exportEndOf (s : State) (p status : Nat) : State := if s.hep.exp.ptn = p then s.exportEnd status else s

/-! ## Vectors (R415–R418) -/

/-- A map entry (R416). -/
structure VecMap where
  kind : Nat
  ctx : Nat
  bound : Bool
  mask : Bool
  target : Nat
  deriving DecidableEq, Repr

def vecMapOf (v : Nat) : VecMap :=
  { kind := field v 63 62, ctx := field v 61 58, bound := v.testBit 57, mask := v.testBit 56, target := field v 31 0 }

/-- The map entry of vector `v` of partition `p`. -/
def State.vecMap (s : State) (p v : Nat) : VecMap :=
  vecMapOf (s.rdField .ptnIntrMap (64 * (v % 16) + 63) (64 * (v % 16)) p (v / 16))

/-- INTR_H to a chiplet (R313): under one of the partition's 16 credits, else it waits; dropped and counted for a lost
chiplet (R298). -/
def State.intrToChiplet (s : State) (k p vec : Nat) : State :=
  let x := s.site k
  if x.lost then s.bump .uciLosses k
  else if x.intrUsed.get p 0 < 16 then
    (s.setSite k { x with intrUsed := x.intrUsed.put p (x.intrUsed.get p 0 + 1) 0 }).emit (.intrH k p vec)
  else s.setSite k { x with intrq := x.intrq ++ [(p, vec)] }

/-- A vector delivered by its KIND (R417). While the partition is HALTED only HOST entries are (R553);
after a FATAL-HUB none is (R555). -/
def State.deliver (s : State) (p v : Nat) : State :=
  let m := s.vecMap p v
  if s.owl.fatalHub then s
  else if m.kind = 1 then s.msix (p + 1) (field m.target 10 0)
  else if s.ptnState p = ptnHalted then s
  else if m.kind = 2 then s.intrToChiplet (field m.target 2 0) p (field m.target 31 16)
  else if m.kind = 3 then s.setFlags p (field m.target 15 0) (BitVec.ofNat 64 (2 ^ field m.target 21 16))
  else s

/-- PPA of the post descriptor of a context (R418). -/
def State.postAddr (s : State) (p ctx : Nat) : Nat := s.rd .ptnPostBase p + 64 * ctx

/-- Bit `v` of the post descriptor of a context set (R418). -/
def State.post (s : State) (p ctx v : Nat) : State :=
  let a := s.postAddr p ctx + v / 8
  match s.readPpa p a 1 with
  | some ([b], bad) => s.writePpa p a [b ||| BitVec.ofNat 8 (2 ^ (v % 8))] bad
  | _ => s

/-- A raise of vector `v` of partition `p` (R417). -/
def State.raiseVector (s : State) (p v : Nat) : State :=
  let m := s.vecMap p v
  if m.kind = 0 then s.bump .ptnIntrDropped p
  else if m.mask then s.wr .ptnIntrPend (setBit (s.rd .ptnIntrPend p) v) p
  else if m.bound ∧ s.rd .ptnCtxRunning p ≠ m.ctx then s.post p m.ctx v
  else s.deliver p v

/-- A source of a partition raises its vector (R415, R417). -/
def execInterruptRaise (p v : Nat) (s : State) : Host.Outcome State Fault Refusal := .next (s.raiseVector p v)

end Sys2Proof.Machine
end

