-- ==== Sys2Proof/Machine/Strand.lean ====
section
/-! DEFINITION. Strands of a tile: the configuration store that drives them, their states, their end, and
the count of items that a descriptor keeps (R75–R78, R90–R95, R151). -/

namespace Sys2Proof.Machine

/-! ## The configuration store (R75–R78) -/

/-- The bytes from `a` on of a sparse byte table. -/
def sparseBytes (m : AMap Byte) (a n : Nat) : List Byte := (List.range n).map (fun i => m.get (a + i) 0)

/-- A tile's configuration store; none where no configuration is loaded. -/
def State.cfgOf (s : State) (t : Nat) : Option (AMap Byte) := s.tile.cfg.find t

/-- Stage word `i` of a tile as a number of 256 bits (R77). -/
def State.stageWord (s : State) (t i : Nat) : Nat := leNat (sparseBytes ((s.cfgOf t).getD []) (32 * i) 32)

/-- The graph header of a tile (R76). -/
def State.graphHeader (s : State) (t : Nat) : Nat := leNat (sparseBytes ((s.cfgOf t).getD []) 0x800 8)

/-- An operand field of a stage word (R78). -/
structure Operand where
  space : Nat
  reg : Nat
  off : Nat
  fmt : Nat
  deriving DecidableEq, Repr

def operandOf (v : Nat) : Operand :=
  { space := field v 31 29, reg := field v 28 25, off := field v 24 8, fmt := field v 7 4 }

/-- A stage word's fields (R77). -/
structure Stage where
  nextA : Nat
  nextB : Nat
  cond : Nat
  unit : Nat
  op : Nat
  count : Nat
  stoch : Bool
  sat : Bool
  loopReg : Nat
  loopEn : Bool
  src0 : Operand
  src1 : Operand
  dst : Operand
  aux : Nat
  deriving DecidableEq, Repr

def stageOf (w : Nat) : Stage :=
  { nextA := field w 255 250, nextB := field w 249 244, cond := field w 243 241, unit := field w 239 236
    op := field w 235 228, count := if field w 227 222 = 0 then 64 else field w 227 222
    stoch := w.testBit 221, sat := w.testBit 220, loopReg := field w 219 216, loopEn := w.testBit 215
    src0 := operandOf (field w 207 176), src1 := operandOf (field w 175 144), dst := operandOf (field w 143 112)
    aux := field w 111 48 }

/-! ## Strands -/

def strandKey (t n : Nat) : Nat := 512 * t + n

def State.strand (s : State) (t n : Nat) : Option Strand := s.tile.strands.find (strandKey t n)

def State.setStrand (s : State) (t n : Nat) (x : Strand) : State :=
  { s with tile := { s.tile with strands := s.tile.strands.set (strandKey t n) x } }

def State.dropStrand (s : State) (t n : Nat) : State :=
  { s with tile := { s.tile with strands := s.tile.strands.erase (strandKey t n) } }

/-- Live strands of a tile, with their numbers. -/
def State.strandsOf (s : State) (t : Nat) : List (Nat × Strand) :=
  (s.tile.strands.where (fun k _ => k / 512 == t)).map (fun (e : Nat × Strand) => (e.1 % 512, e.2))

/-- Register `r` of a strand. -/
def Strand.reg (x : Strand) (r : Nat) : Word := x.regs.getD r 0

def Strand.setReg (x : Strand) (r : Nat) (v : Word) : Strand :=
  { x with regs := x.regs.zipIdx.map (fun (e : Word × Nat) => if e.2 = r then v else e.1) }

/-- The branch of a stage is taken (R77, COND). -/
def Strand.takes (x : Strand) (g : Stage) : Bool :=
  match g.cond with
  | 1 => x.zf
  | 2 => !x.zf
  | 3 => x.nf
  | 4 => !x.nf
  | 5 => x.reg g.loopReg != 0
  | 6 => x.rch
  | _ => false

/-- A completed stage: the loop register counts, and the strand is ready at the next stage (R77, R92). -/
def Strand.complete (x : Strand) (g : Stage) : Strand :=
  let x := if g.loopEn then x.setReg g.loopReg (x.reg g.loopReg - 1) else x
  { x with st := .ready, limit := none, stage := if x.takes g then g.nextB else g.nextA }

/-! ## Items of a descriptor (R151) -/

/-- FIRST_FAIL where no item failed. -/
def noFail : Nat := 0xFFFFFFFF

def State.wq (s : State) (p q : Nat) : Wq := s.wqs.get (64 * p + q) {}

def State.setWq (s : State) (p q : Nat) (w : Wq) : State := { s with wqs := s.wqs.put (64 * p + q) w {} }

/-- A descriptor of a queue changed. -/
def State.mapDesc (s : State) (p q idx : Nat) (f : Desc → Desc) : State :=
  let w := s.wq p q
  s.setWq p q { w with descs := w.descs.map (fun d => if d.idx = idx then f d else d) }

/-- An item counted in its descriptor: OK or failed with a code (R150–R152). -/
def Desc.count (d : Desc) (item code : Nat) : Desc :=
  if code = 0 then { d with done := d.done + 1 }
  else { d with
    failed := d.failed + 1
    firstFail := min d.firstFail item
    failCode := if item < d.firstFail then code else d.failCode }

/-- An item ends. -/
def State.itemDone (s : State) (p q idx item code : Nat) : State := s.mapDesc p q idx (fun d => d.count item code)

/-! ## Halts (R92, R94) -/

/-- A strand is free again and its item's completion is written. -/
def State.endStrand (s : State) (t n : Nat) (x : Strand) : State :=
  match s.tileOwner t with
  | some p => (s.dropStrand t n).itemDone p x.queue x.desc x.item x.status
  | none => s.dropStrand t n

/-- Code of a halt by ABORT (R94). -/
def haltAbort : Nat := 7

/-- A halted strand whose PENDING is zero ends. -/
def State.settleStrand (s : State) (t n : Nat) : State :=
  match s.strand t n with
  | some x => if x.st = .halted ∧ x.pending = 0 then s.endStrand t n x else s
  | none => s

/-- A strand halts with a status (R94); it ends once its requests have. -/
def State.haltStrand (s : State) (t n code : Nat) : State :=
  match s.strand t n with
  | none => s
  | some x =>
    if x.st = .halted then s
    else
      let s := match s.tileOwner t with
        | some p => s.bump .tilHalts 0 p
        | none => s
      (s.setStrand t n { x with st := .halted, status := code }).settleStrand t n

/-- Every live strand of some tiles halts. -/
def State.haltTile (s : State) (code t : Nat) : State :=
  s.each (s.strandsOf t) (fun s (e : Nat × Strand) => s.haltStrand t e.1 code)

/-- One request of a strand completes: PENDING falls, and a strand whose WAIT now holds is ready. -/
def State.requestDone (s : State) (t n : Nat) : State :=
  match s.strand t n with
  | none => s
  | some x =>
    let x := { x with pending := x.pending - 1 }
    let x := match x.st, x.limit with
      | .waitMem, some l => if x.pending ≤ l then x.complete (stageOf (s.stageWord t x.stage)) else x
      | _, _ => x
    (s.setStrand t n x).settleStrand t n

end Sys2Proof.Machine
end

