-- ==== Sys2Proof/Machine/Wire.lean ====
section
/-! DEFINITION. SFT packets on the wire: package identity, addresses, encapsulation and header (R353, R357, R358, R371). -/

namespace Sys2Proof.Machine

/-! ## Identity (R353, R371) -/

def pairUnpaired : Nat := 0
def pairActive : Nat := 1
def pairStandby : Nat := 2
def pairSolo : Nat := 3
def pairFenced : Nat := 4

/-- The package ID that the hub holds: of a pair 2P, or 2P + 1; its own while it is UNPAIRED (R371). -/
def State.heldPkg (s : State) : Nat :=
  let own := s.rd .soxPkgId
  let role := s.rd .soxPairRole
  if role = pairActive ∨ role = pairSolo then own / 2 * 2 else if role = pairStandby then own / 2 * 2 + 1 else own

/-- The MAC address of a package on a plane. -/
def macOf (pkg e : Nat) : Nat := 0x02C500000000 + 16 * pkg + e

/-- The IPv6 address of a package on a plane. -/
def State.ipv6Of (s : State) (pkg e : Nat) : Nat := s.rd .soxIpv6Prefix 0 e * 2 ^ 64 + pkg % 2 ^ 17

/-! ## The header (R358, R366) -/

/-- Packets whose payload is encrypted: DATA, COLL, SVC, CKPT, JOURNAL and MIRROR. -/
def sftEnc (type : Nat) : Bool := ([0, 4, 5, 6, 8, 9] : List Nat).contains type

def sftHeader (src : Nat) (f : Sft) : Nat :=
  2 ^ 252 + f.type % 16 * 2 ^ 248 + (if sftEnc f.type then 2 ^ 247 else 0) + (if f.eom then 2 ^ 246 else 0) + f.port % 16 * 2 ^ 242
    + f.kgen % 4 * 2 ^ 240 + src % 2 ^ 17 * 2 ^ 223 + f.dstPkg % 2 ^ 17 * 2 ^ 206 + f.srcPtn % 32 * 2 ^ 201 + f.dstPtn % 32 * 2 ^ 196
    + f.ctx % 16 * 2 ^ 192 + f.cls % 8 * 2 ^ 189 + f.conn % 2 ^ 24 * 2 ^ 164 + f.psn % 2 ^ 48 * 2 ^ 116 + f.payload.length % 2 ^ 16 * 2 ^ 100
    + f.ext % 2 ^ 100

/-- The encapsulation of a packet. -/
def State.wire (s : State) (f : Sft) : Wire :=
  let e := f.port % 16
  let udp := decide (s.rd .soxEncap = 1)
  { dstMac := macOf f.dstPkg e, srcMac := macOf s.heldPkg e, vlan := s.rd .soxVlan 0 e
    ethertype := if udp then 0x86DD else s.rd .soxEthertype, udp6 := udp
    srcAddr := if udp then s.ipv6Of s.heldPkg e else 0, dstAddr := if udp then s.ipv6Of f.dstPkg e else 0
    srcPort := if udp then 0xC000 + 16 * (f.psn % 64) + e else 0, dstPort := if udp then s.rd .soxUdpPort else 0
    ect := udp && s.rd .soxEcn == 1, header := sftHeader s.heldPkg f }

/-- An SFT packet leaves a port. -/
def State.sendSft (s : State) (f : Sft) : State := s.emit (.sft f (s.wire f))

end Sys2Proof.Machine
end

