-- ==== Sys2Proof/Machine/SafeState.lean ====
section
/-! DEFINITION. The safe states of the output groups (R555), which the reaction to a fatal raise commands. -/

namespace Sys2Proof.Machine

/-! ## UCIe mainband -/

/-- A request of a chiplet answered ABORTED (R308): with poison for data where it reads. -/
def State.abortAnswer (s : State) (j : Nat) (k : Tracker) : State :=
  if s.rd .uciProtocol j = 2 then s.emit (.cxl j k.tag true [] true)
  else
    let reads := k.op == .rdShared || k.op == .rdUnique || k.op == .rdNa
    s.emit (.htl j (if reads then 0x30 else 0x20) k.lab k.och k.tag 1 0 0 true (if reads then 2 ^ (min 8 (k.len / 32)) - 1 else 0) [])

/-- Requests already received at the sites, of one partition or of all, are answered ABORTED; those that a home agent has
are discarded when it answers. -/
def State.abortSites (s : State) (mine : Nat → Bool) : State :=
  let hit (k : Tracker) : Bool := mine k.lab.ptn && (match k.entry with
    | .site _ => k.op != .sync
    | _ => false)
  let gone := s.noc.trackers.where (fun _ k => hit k && !k.timedOut)
  let kept := s.noc.trackers.where (fun _ k => !hit k || k.phase == .out)
  let s : State := { s with noc := { s.noc with
    trackers := kept.mapVal (fun _ (k : Tracker) => if hit k then { k with timedOut := true } else k) } }
  s.each gone (fun s (e : Nat × Tracker) =>
    match e.2.entry with
    | .site j => s.abortAnswer j e.2
    | _ => s)

/-! ## Keys of a connection (R441) -/

/-- The slots of a partition's fabric keys (R432). -/
def slotFabric (p i : Nat) : Nat := 16 * p + 3 + i

def State.keySlot (s : State) (k : Nat) : Option KeySlot := s.sec.slots.find k

/-- The fabric keys that a partition holds. -/
def State.fabricKeys (s : State) (p : Nat) : List KeySlot := [slotFabric p 0, slotFabric p 1].filterMap s.keySlot

/-- The generation under which a partition sends new packets: the newer one from the edge that opens its SWITCH_BEAT. -/
def State.sendGen (s : State) (p : Nat) : Nat :=
  match s.fabricKeys p with
  | [a] => a.gen
  | [a, b] =>
    let new := if b.gen = (a.gen + 1) % 4 then b else a
    let old := if b.gen = (a.gen + 1) % 4 then a else b
    if new.switchBeat ≤ s.beat.number.toNat then new.gen else old.gen
  | _ => 0

/-- The generation of new packets of a connection; the pair link has one key (R377). -/
def State.genOf (s : State) (n : Nat) (c : Conn) : Nat := if n = 0 then 0 else s.sendGen c.ptn

/-! ## Scale-out -/

/-- TYPE of a fault notice (R358), and its scopes: a partition, or the hub (R370). -/
def faultType : Nat := 11
def scopePartition : Nat := 0
def scopeHub : Nat := 1

/-- Plane DST_PKG mod 16, or the next usable plane. -/
def State.faultPlane (s : State) (c : Conn) : Option Nat :=
  let up := (List.range 16).filter (fun e => decide (2 ≤ s.rd .soxPortState 0 e) && !c.bad.contains e)
  match up.find? (fun e => decide (c.pkg % 16 ≤ e)) with
  | some e => some e
  | none => up.head?

/-- A fault notice on an open connection. -/
def State.faultNotice (s : State) (n : Nat) (c : Conn) (scope code : Nat) : State :=
  match s.faultPlane c with
  | some e =>
    if c.st = .open then
      s.sendSft ({ port := e, type := faultType, dstPkg := c.pkg, srcPtn := c.ptn, dstPtn := c.rptn, conn := c.peer
                   psn := c.psn.getD 3 0, kgen := s.genOf n c, ctx := 0, cls := 7, eom := false, ext := 0
                   payload := toLe 8 (scope * 2 ^ 62 + c.ptn * 2 ^ 57 + code % 65536 * 2 ^ 32) })
    else s
  | none => s

/-- Connections of one partition or of all close after their notices; nothing of them follows. -/
def State.faultConns (s : State) (mine : Nat → Bool) (scope code : Nat) : State :=
  let l := s.sox.conns.where (fun n c => n != 0 && mine c.ptn)
  let t := s.each l (fun s (e : Nat × Conn) => s.faultNotice e.1 e.2 scope code)
  { t with sox := { t.sox with conns := t.sox.conns.mapVal (fun n (c : Conn) =>
      if n ≠ 0 ∧ mine c.ptn then { c with st := .failed, queue := [], unacked := [], held := [] } else c) } }

/-! ## Work -/

/-- Strands halt with ABORT, waiters are answered ABORTED, and nothing declared is admitted. -/
def State.stopWork (s : State) (mine : Nat → Bool) : State :=
  let ts := (s.plots.where (fun _ p => mine p)).keys.flatMap plotTiles
  let s := s.each ts (fun s t => s.haltTile haltAbort t)
  let s := s.endWaiters (fun w => mine w.src.lab.ptn) (fun s w => s.syncAbort w.src)
  let keep (p : Option Nat) : Bool := (p.map (fun q => !mine q)).getD true
  { s with beat := { s.beat with
      decls := s.beat.decls.filter (fun d => keep d.decl.ptn)
      admitted := s.beat.admitted.filter (fun d => keep d.decl.ptn) } }

/-! ## The safe states -/

/-- FATAL-PARTITION of `p` by an event. -/
def State.safePartition (s : State) (p code : Nat) : State :=
  (((s.stopWork (· == p)).abortSites (· == p)).faultConns (· == p) scopePartition code).emit (.aer (p + 1) 0)

/-- A stack writes what it has acknowledged, precharges and enters self-refresh; requests at it complete with poison. -/
def State.restStack (s : State) (h : Nat) : State :=
  if s.stackUp h then (s.wr .hbmStackState 3 0 h).emit (.selfRefresh h true) else s

/-- An interconnect run of a site is in progress. -/
def State.testedSite (s : State) (k : Nat) : Bool :=
  match s.test.ic with
  | some sel => !sel.testBit 15 && field sel 14 12 == k
  | none => false

/-- An interconnect run ends ABORTED (R594). -/
def State.abortPattern (s : State) : State :=
  if s.test.ic.isSome then ({ s with test := { s.test with ic := none } } : State).wr .bstIcState 4 else s

/-- Tests end at a FATAL-HUB. No value of BST_TILE_STATE says ABORTED: it is free (R594). -/
def State.abortTests (s : State) : State :=
  let s := s.abortPattern
  if s.rd .bstTileState = 1 then
    let t : State := { s with test := { s.test with tiles := 0 } }
    (t.wr .bstTileState (s.free.toNat % 4)).drawn
  else s

/-- FATAL-HUB. -/
def State.safeHub (s : State) (code : Nat) : State :=
  let s := (((s.abortTests).stopWork (fun _ => true)).abortSites (fun _ => true)).faultConns (fun _ => true) scopeHub code
  let s := s.each ((List.range 16).filter (fun e => decide (2 ≤ s.rd .soxPortState 0 e))) (fun s e => s.emit (.localFault e))
  (s.emit .errFatal).each (List.range 8) State.restStack

end Sys2Proof.Machine
end

