-- ==== Sys2Proof/Machine/Flags.lean ====
section
/-! DEFINITION. Event codes, the sources of events with their severities (R545–R549), and the order of severities. -/

namespace Sys2Proof.Machine

/-- A source of events (R547): its code without instance bits, its default severity, whether its default
mode is count mode, and the highest severity that escalation can give it. -/
structure Source where
  code : Nat
  sev : Severity
  count : Bool
  ceiling : Severity
  deriving DecidableEq, Repr

/-- A severity as a number (R14, R549). -/
def Severity.rank : Severity → Nat
  | .corrected => 0
  | .contained => 1
  | .fatalPartition => 2
  | .fatalHub => 3

/-- The severity of a code (R549). -/
def Severity.ofCode : Nat → Severity
  | 0 => .corrected
  | 1 => .contained
  | 2 => .fatalPartition
  | _ => .fatalHub

/-- One step up (R14). -/
def Severity.up : Severity → Severity
  | .corrected => .contained
  | .contained => .fatalPartition
  | _ => .fatalHub

/-- The larger of two severities. -/
def Severity.max (a b : Severity) : Severity := if a.rank < b.rank then b else a

/-- FATAL-PARTITION or FATAL-HUB. -/
def Severity.fatal (a : Severity) : Bool := decide (2 ≤ a.rank)

/-! ## Statuses of the dictionary (R507), life-cycle states (R455) and states of the security engine -/

def stOk : Nat := 0
def stBusy : Nat := 1
def stDenied : Nat := 2
def stNotFound : Nat := 3
def stType : Nat := 4
def stRange : Nat := 5
def stRunning : Nat := 6
def stLocked : Nat := 7
def stPending : Nat := 8
def stAuth : Nat := 9

def lcWafer : Nat := 0
def lcAssembly : Nat := 1
def lcProvisioned : Nat := 2
def lcField : Nat := 3
def lcReturned : Nat := 4
def lcScrapped : Nat := 5
def lcLocked : Nat := 15

def seSelftest : Nat := 0
def seOperational : Nat := 1
def seError : Nat := 2
def seZeroised : Nat := 3

/-- The life-cycle state in force. -/
def State.lc (s : State) : Nat := s.rd .lcsState

/-- What a dictionary operation answers: a status, and the state it leaves. -/
abbrev Answer := Nat × State

/-- A refusal: the status, and nothing changed. -/
def State.refuse (s : State) (st : Nat) : Answer := (st, s)

/-- A dictionary operation with its status sent. -/
def State.answered (a : Answer) : State := a.2.emit (.status a.1 0)

/-- A BEAT-class value held for the coming edge, or for the edge after when it comes in the cutoff cycle or later (R17, R59). -/
def State.holdBeat (s : State) (r : Reg) (v : Nat) (u : Nat := 0) (sub : Nat := 0) : State :=
  let k := r.key u sub
  let x := v % 2 ^ r.bits
  { s with dict :=
    if s.beat.cutoff then { s.dict with later := s.dict.later.set k x } else { s.dict with shadow := s.dict.shadow.set k x } }

/-- The beat that opens at the edge at which a BEAT-class value written now applies (R507). -/
def State.edgeBeat (s : State) : Nat := s.beat.number.toNat + s.beat.skip + (if s.beat.cutoff then 2 else 1)

/-! ## Event codes (R15, R546) -/

/-- `BEAT_OVERRUN`. -/
def Ev.beatOverrun : Nat := 0x1010
/-- `BEAT_ALIGN_LOST`. -/
def Ev.beatAlignLost : Nat := 0x1020
/-- `BEAT_SLOT_LOSS`. -/
def Ev.beatSlotLoss : Nat := 0x1030
/-- `TIL_SRAM_CE`. -/
def Ev.tilSramCe : Nat := 0x2010
/-- `TIL_SRAM_UE`. -/
def Ev.tilSramUe : Nat := 0x2020
/-- `TIL_ROWCACHE_UE`. -/
def Ev.tilRowcacheUe : Nat := 0x2030
/-- `TIL_COLBUF_UE`. -/
def Ev.tilColbufUe : Nat := 0x2040
/-- `TIL_STATE_CE`. -/
def Ev.tilStateCe : Nat := 0x2050
/-- `TIL_STATE_UE`. -/
def Ev.tilStateUe : Nat := 0x2060
/-- `TIL_CFG_CE`. -/
def Ev.tilCfgCe : Nat := 0x2070
/-- `TIL_CFG_UE`. -/
def Ev.tilCfgUe : Nat := 0x2080
/-- `TIL_WQ_ERR`. -/
def Ev.tilWqErr : Nat := 0x2090
/-- `TIL_RESTORE_BAD`. -/
def Ev.tilRestoreBad : Nat := 0x20A0
/-- `TIL_CKPT_FAIL`. -/
def Ev.tilCkptFail : Nat := 0x20B0
/-- `TIL_ISOLATION`. -/
def Ev.tilIsolation : Nat := 0x20C0
/-- `NOC_DAT_CE`. -/
def Ev.nocDatCe : Nat := 0x3010
/-- `NOC_DAT_UE`. -/
def Ev.nocDatUe : Nat := 0x3020
/-- `NOC_TAG_PARITY`. -/
def Ev.nocTagParity : Nat := 0x3030
/-- `NOC_CTL_PARITY`. -/
def Ev.nocCtlParity : Nat := 0x3040
/-- `NOC_RSP_TIMEOUT`. -/
def Ev.nocRspTimeout : Nat := 0x3050
/-- `HBM_CE` of instance `s`. -/
def Ev.hbmCe (s : Nat) : Nat := 0x4010 + s
/-- `HBM_UE` of instance `s`. -/
def Ev.hbmUe (s : Nat) : Nat := 0x4020 + s
/-- `HBM_TEMP_UNREAD` of instance `s`. -/
def Ev.hbmTempUnread (s : Nat) : Nat := 0x4030 + s
/-- `HBM_QUIESCE` of instance `s`. -/
def Ev.hbmQuiesce (s : Nat) : Nat := 0x4040 + s
/-- `HBM_CATTRIP` of instance `s`. -/
def Ev.hbmCattrip (s : Nat) : Nat := 0x4050 + s
/-- `HBM_RETIRE` of instance `s`. -/
def Ev.hbmRetire (s : Nat) : Nat := 0x4060 + s
/-- `HBM_RETIRE_BLOCKED` of instance `s`. -/
def Ev.hbmRetireBlocked (s : Nat) : Nat := 0x4070 + s
/-- `HBM_SPARE_LOW` of instance `s`. -/
def Ev.hbmSpareLow (s : Nat) : Nat := 0x4080 + s
/-- `HBM_TRACK_OVERFLOW` of instance `s`. -/
def Ev.hbmTrackOverflow (s : Nat) : Nat := 0x4090 + s
/-- `JAY_STALE_HPA`. -/
def Ev.jayStaleHpa : Nat := 0x5010
/-- `JAY_KGEN_STALE`. -/
def Ev.jayKgenStale : Nat := 0x5020
/-- `JAY_DIR_UE`. -/
def Ev.jayDirUe : Nat := 0x5030
/-- `JAY_MISS_TIMEOUT`. -/
def Ev.jayMissTimeout : Nat := 0x5040
/-- `JAY_HOST_MISS`. -/
def Ev.jayHostMiss : Nat := 0x5050
/-- `JAY_SWEEP_STALLED`. -/
def Ev.jaySweepStalled : Nat := 0x5060
/-- `UCI_RETRY_RATE` of instance `k`. -/
def Ev.uciRetryRate (k : Nat) : Nat := 0x6010 + k
/-- `UCI_RETRAIN` of instance `k`. -/
def Ev.uciRetrain (k : Nat) : Nat := 0x6020 + k
/-- `UCI_MODULE_DISABLED` of instance `k`. -/
def Ev.uciModuleDisabled (k : Nat) : Nat := 0x6030 + k
/-- `UCI_GROUP_DOWN` of instance `k`. -/
def Ev.uciGroupDown (k : Nat) : Nat := 0x6040 + k
/-- `UCI_REPAIR_MISS` of instance `k`. -/
def Ev.uciRepairMiss (k : Nat) : Nat := 0x6050 + k
/-- `UCI_SB_TIMEOUT` of instance `k`. -/
def Ev.uciSbTimeout (k : Nat) : Nat := 0x6060 + k
/-- `UCI_CHIPLET_ERR` of instance `k`. -/
def Ev.uciChipletErr (k : Nat) : Nat := 0x6070 + k
/-- `UCI_LEVEL` of instance `k`. -/
def Ev.uciLevel (k : Nat) : Nat := 0x6080 + k
/-- `UCI_ATTEST_FAIL` of instance `k`. -/
def Ev.uciAttestFail (k : Nat) : Nat := 0x6090 + k
/-- `UCI_QUIESCE_TIMEOUT` of instance `k`. -/
def Ev.uciQuiesceTimeout (k : Nat) : Nat := 0x60A0 + k
/-- `UCI_LOSS` of instance `k`. -/
def Ev.uciLoss (k : Nat) : Nat := 0x60B0 + k
/-- `HTL_HDR_PARITY` of instance `k`. -/
def Ev.htlHdrParity (k : Nat) : Nat := 0x6100 + k
/-- `HTL_ISOLATION` of instance `k`. -/
def Ev.htlIsolation (k : Nat) : Nat := 0x6110 + k
/-- `COH_DOMAIN_DOWN`. -/
def Ev.cohDomainDown : Nat := 0x7010
/-- `COH_SF_UE`. -/
def Ev.cohSfUe : Nat := 0x7020
/-- `SOX_PORT_CHANGE` of instance `e`. -/
def Ev.soxPortChange (e : Nat) : Nat := 0x8010 + e
/-- `SOX_ISOLATION`. -/
def Ev.soxIsolation : Nat := 0x8020
/-- `SOX_AUTH_FAIL`. -/
def Ev.soxAuthFail : Nat := 0x8030
/-- `SOX_CONN_FAILED`. -/
def Ev.soxConnFailed : Nat := 0x8040
/-- `SOX_PAIR_REFUSED`. -/
def Ev.soxPairRefused : Nat := 0x8050
/-- `SOX_JOURNAL_LAG`. -/
def Ev.soxJournalLag : Nat := 0x8060
/-- `SOX_TAKEOVER`. -/
def Ev.soxTakeover : Nat := 0x8070
/-- `SOX_FENCED`. -/
def Ev.soxFenced : Nat := 0x8080
/-- `COL_PLAN_MISS`. -/
def Ev.colPlanMiss : Nat := 0x9010
/-- `PTN_SCHED_MISS`. -/
def Ev.ptnSchedMiss : Nat := 0xA010
/-- `SEC_MAC_FAIL`. -/
def Ev.secMacFail : Nat := 0xB010
/-- `SEC_POLICY_REVOKED`. -/
def Ev.secPolicyRevoked : Nat := 0xB020
/-- `SEC_SELFTEST_FAIL`. -/
def Ev.secSelftestFail : Nat := 0xB030
/-- `SEC_ZEROISED`. -/
def Ev.secZeroised : Nat := 0xB040
/-- `HEP_BAD_ACCESS`. -/
def Ev.hepBadAccess : Nat := 0xC010
/-- `HEP_WTT_MISS`. -/
def Ev.hepWttMiss : Nat := 0xC020
/-- `HEP_POISON_RX`. -/
def Ev.hepPoisonRx : Nat := 0xC030
/-- `HEP_SLOT_FAULT`. -/
def Ev.hepSlotFault : Nat := 0xC040
/-- `HEP_REMOVE_MISS`. -/
def Ev.hepRemoveMiss : Nat := 0xC050
/-- `HEP_SURPRISE`. -/
def Ev.hepSurprise : Nat := 0xC060
/-- `PDX_ROLEKEY_BAD`. -/
def Ev.pdxRolekeyBad : Nat := 0xD010
/-- `PDX_AUTH_FAIL`. -/
def Ev.pdxAuthFail : Nat := 0xD020
/-- `BRINGUP_TIMEOUT`. -/
def Ev.bringupTimeout : Nat := 0xD030
/-- `BRINGUP_RECORDS_LOST`. -/
def Ev.bringupRecordsLost : Nat := 0xD040
/-- `TOPO_RECORD_BAD`. -/
def Ev.topoRecordBad : Nat := 0xD050
/-- `PWR_FAIL`. -/
def Ev.pwrFail : Nat := 0xE010
/-- `PWR_THERM_MISS`. -/
def Ev.pwrThermMiss : Nat := 0xE020
/-- `OWL_TRIAGE_MISS`. -/
def Ev.owlTriageMiss : Nat := 0xF010
/-- `OWL_TREE_PARITY`. -/
def Ev.owlTreeParity : Nat := 0xF020
/-- `BST_FAIL` of instance `b`. -/
def Ev.bstFail (b : Nat) : Nat := 0xF040 + b
/-- `SQL_STORE_FAIL`. -/
def Ev.sqlStoreFail : Nat := 0xF030
/-- `SQL_STORE_FOREIGN`. -/
def Ev.sqlStoreForeign : Nat := 0xF050
/-- `SQL_DROPPED`. -/
def Ev.sqlDropped : Nat := 0xF060
/-- `SQL_FLUSH_MISS`. -/
def Ev.sqlFlushMiss : Nat := 0xF070
/-- `SQL_KEEP_FULL`. -/
def Ev.sqlKeepFull : Nat := 0xF080
/-- `SQL_FILL`. -/
def Ev.sqlFill : Nat := 0xF090
/-- `PWR_BROWNOUT`. -/
def Ev.pwrBrownout : Nat := 0xE030
/-- `PWR_THERMTRIP`. -/
def Ev.pwrThermtrip : Nat := 0xE040
/-- `PWR_TJ_CRIT`. -/
def Ev.pwrTjCrit : Nat := 0xE050
/-- `PWR_SENSOR_FAIL`. -/
def Ev.pwrSensorFail : Nat := 0xE060
/-- `PWR_CHIPLET_OVER` of instance `k`. -/
def Ev.pwrChipletOver (k : Nat) : Nat := 0xE070 + k
/-- `PWR_REVOKE_MISS` of instance `k`. -/
def Ev.pwrRevokeMiss (k : Nat) : Nat := 0xE080 + k
/-- `PWR_BUDGET_SHORT`. -/
def Ev.pwrBudgetShort : Nat := 0xE090
/-- `PWR_HUB_OVER`. -/
def Ev.pwrHubOver : Nat := 0xE0A0
/-- `PIN_SOXCLK_LOSS`. -/
def Ev.pinSoxclkLoss : Nat := 0xE0B0
/-- `PIN_HOSTCLK_LOSS`. -/
def Ev.pinHostclkLoss : Nat := 0xE0C0
/-- `BST_TILE_FAIL`. -/
def Ev.bstTileFail : Nat := 0xF0A0

/-! ## Sources (R547 and the event tables of the recorder, power and pin chapters) -/

def sources0 : List Source := [
  ⟨0x1010, .contained, false, .contained⟩,
  ⟨0x1020, .contained, false, .contained⟩,
  ⟨0x1030, .corrected, true, .contained⟩,
  ⟨0x2010, .corrected, true, .contained⟩,
  ⟨0x2020, .contained, false, .fatalPartition⟩,
  ⟨0x2030, .contained, false, .fatalPartition⟩,
  ⟨0x2040, .contained, false, .fatalPartition⟩,
  ⟨0x2050, .corrected, true, .contained⟩,
  ⟨0x2060, .contained, false, .fatalPartition⟩,
  ⟨0x2070, .corrected, true, .contained⟩,
  ⟨0x2080, .contained, false, .fatalPartition⟩,
  ⟨0x2090, .contained, false, .contained⟩,
  ⟨0x20A0, .contained, false, .contained⟩,
  ⟨0x20B0, .contained, false, .contained⟩,
  ⟨0x20C0, .contained, false, .contained⟩,
  ⟨0x3010, .corrected, true, .contained⟩,
  ⟨0x3020, .contained, false, .fatalHub⟩,
  ⟨0x3030, .contained, false, .fatalHub⟩,
  ⟨0x3040, .contained, false, .fatalHub⟩,
  ⟨0x3050, .contained, false, .fatalPartition⟩]

def sources1 : List Source := [
  ⟨0x4010, .corrected, true, .contained⟩,
  ⟨0x4020, .contained, false, .fatalPartition⟩,
  ⟨0x4030, .contained, false, .contained⟩,
  ⟨0x4040, .contained, false, .contained⟩,
  ⟨0x4050, .contained, false, .contained⟩,
  ⟨0x4060, .corrected, false, .contained⟩,
  ⟨0x4070, .contained, false, .contained⟩,
  ⟨0x4080, .corrected, false, .contained⟩,
  ⟨0x4090, .corrected, false, .contained⟩,
  ⟨0x5010, .contained, false, .fatalHub⟩,
  ⟨0x5020, .contained, false, .fatalHub⟩,
  ⟨0x5030, .contained, false, .fatalHub⟩,
  ⟨0x5040, .contained, false, .contained⟩,
  ⟨0x5050, .corrected, false, .contained⟩,
  ⟨0x5060, .corrected, false, .contained⟩,
  ⟨0x6010, .corrected, false, .contained⟩,
  ⟨0x6020, .corrected, true, .contained⟩,
  ⟨0x6030, .contained, false, .contained⟩,
  ⟨0x6040, .contained, false, .contained⟩,
  ⟨0x6050, .contained, false, .contained⟩]

def sources2 : List Source := [
  ⟨0x6060, .contained, false, .contained⟩,
  ⟨0x6070, .corrected, false, .contained⟩,
  ⟨0x6080, .contained, false, .contained⟩,
  ⟨0x6090, .contained, false, .contained⟩,
  ⟨0x60A0, .contained, false, .contained⟩,
  ⟨0x60B0, .contained, false, .contained⟩,
  ⟨0x6100, .contained, false, .contained⟩,
  ⟨0x6110, .contained, false, .contained⟩,
  ⟨0x7010, .fatalPartition, false, .fatalPartition⟩,
  ⟨0x7020, .contained, false, .fatalHub⟩,
  ⟨0x8010, .corrected, false, .contained⟩,
  ⟨0x8020, .contained, false, .contained⟩,
  ⟨0x8030, .contained, false, .contained⟩,
  ⟨0x8040, .contained, false, .contained⟩,
  ⟨0x8050, .contained, false, .contained⟩,
  ⟨0x8060, .corrected, false, .contained⟩,
  ⟨0x8070, .contained, false, .contained⟩,
  ⟨0x8080, .contained, false, .contained⟩,
  ⟨0x9010, .corrected, false, .contained⟩,
  ⟨0xA010, .corrected, false, .contained⟩]

def sources3 : List Source := [
  ⟨0xB010, .contained, false, .fatalPartition⟩,
  ⟨0xB020, .corrected, false, .contained⟩,
  ⟨0xB030, .fatalHub, false, .fatalHub⟩,
  ⟨0xB040, .fatalHub, false, .fatalHub⟩,
  ⟨0xC010, .corrected, false, .contained⟩,
  ⟨0xC020, .corrected, false, .contained⟩,
  ⟨0xC030, .contained, false, .contained⟩,
  ⟨0xC040, .contained, false, .contained⟩,
  ⟨0xC050, .corrected, false, .contained⟩,
  ⟨0xC060, .contained, false, .contained⟩,
  ⟨0xD010, .contained, false, .contained⟩,
  ⟨0xD020, .contained, false, .contained⟩,
  ⟨0xD030, .fatalHub, false, .fatalHub⟩,
  ⟨0xD040, .contained, false, .contained⟩,
  ⟨0xD050, .contained, false, .contained⟩,
  ⟨0xE010, .fatalHub, false, .fatalHub⟩,
  ⟨0xE020, .corrected, false, .contained⟩,
  ⟨0xF010, .corrected, false, .contained⟩,
  ⟨0xF020, .fatalHub, false, .fatalHub⟩,
  ⟨0xF040, .fatalHub, false, .fatalHub⟩]

def sources4 : List Source := [
  ⟨0xF030, .contained, false, .contained⟩,
  ⟨0xF050, .contained, false, .contained⟩,
  ⟨0xF060, .corrected, false, .contained⟩,
  ⟨0xF070, .corrected, false, .contained⟩,
  ⟨0xF080, .contained, false, .contained⟩,
  ⟨0xF090, .corrected, false, .contained⟩,
  ⟨0xE030, .fatalHub, false, .fatalHub⟩,
  ⟨0xE040, .fatalHub, false, .fatalHub⟩,
  ⟨0xE050, .contained, false, .contained⟩,
  ⟨0xE060, .contained, false, .contained⟩,
  ⟨0xE070, .contained, false, .contained⟩,
  ⟨0xE080, .contained, false, .contained⟩,
  ⟨0xE090, .corrected, false, .contained⟩,
  ⟨0xE0A0, .corrected, false, .contained⟩,
  ⟨0xE0B0, .fatalHub, false, .fatalHub⟩,
  ⟨0xE0C0, .contained, false, .contained⟩,
  ⟨0xF0A0, .contained, false, .contained⟩]

/-- Every source. -/
def sources : List Source := sources0 ++ sources1 ++ sources2 ++ sources3 ++ sources4

/-- The source of an event code: the instance bits are ignored (R549). -/
def sourceOf (code : Nat) : Option Source := sources.find? (fun x => x.code / 16 == code / 16)

/-- The default configuration of a source (R549). -/
def Source.cfg (x : Source) : SrcCfg := { count := x.count, sev := x.sev, action := .none, n := 16, w := 3600000 }

end Sys2Proof.Machine
end

