-- ==== Sys2Proof/Machine/Squirrel.lean ====
section
/-! DEFINITION. Squirrel: records, the buffer with its token buckets, and the record store (R563–R577). -/

namespace Sys2Proof.Machine

/-! ## Records -/

def RecKind.code : RecKind → Nat
  | .event => 0 | .summary => 1 | .start => 2 | .repairSoft => 3 | .repairHard => 4
  | .retire => 5 | .debugAccess => 6 | .linkRepair => 7 | .lifecycle => 8

/-- A record exempt from the bucket (R566): raised at a FATAL severity, or of a kind other than EVENT. -/
def Record.exempt (r : Record) : Bool := r.kind != .event || (r.raised && r.sev.fatal)

/-- CRC-32C over bytes, reflected, with initial value and final inversion of all ones. -/
def crcBit : Nat → Nat → Nat
  | 0, c => c
  | n + 1, c => crcBit n (if c % 2 = 1 then c / 2 ^^^ 0x82F63B78 else c / 2)

def crc32cFrom : Nat → List Byte → Nat
  | c, [] => c
  | c, b :: r => crc32cFrom (crcBit 8 (c ^^^ b.toNat)) r

def crc32c (bs : List Byte) : Nat := crc32cFrom 0xFFFFFFFF bs ^^^ 0xFFFFFFFF

/-- Bits [511:32] of a record as a number shifted down by 32 (R563). -/
def Record.upper (r : Record) : Nat :=
  let put (v at' : Nat) := v * 2 ^ (at' - 32)
  put (r.code % 65536) 496 + put r.kind.code 492 + put r.sev.rank 490
  + put (if r.ptn.isSome then 1 else 0) 489 + put ((r.ptn.getD 0) % 32) 484
  + put (if r.ptpTime then 1 else 0) 483 + put (if r.raised then 1 else 0) 482
  + put (if r.keep then 1 else 0) 481 + put r.beat.toNat 432 + put r.time.toNat 368
  + put (r.seq % 2 ^ 40) 328 + put (r.detail % 2 ^ 52) 276 + put (r.ext % 2 ^ 128) 148 + put (r.boot % 2 ^ 32) 116

/-- The 64 bytes of a record, its CRC in bits [31:0] over bits [511:32] (R563). -/
def Record.bytes (r : Record) : List Byte :=
  toLe 4 (crc32c (toLe 60 r.upper)) ++ toLe 60 r.upper

/-- BEAT_ALIGN_STATE codes (R67). -/
def alignFree : Nat := 0
def alignAcquiring : Nat := 1
def alignLocked : Nat := 2
def alignHoldover : Nat := 3
def alignLost : Nat := 4

/-- A record as it is made now (R563): TIME is a free value, since the model has no clock. -/
def State.newRecord (s : State) (kind : RecKind) (code : Nat) (sev : Severity) (ptn : Option Nat) (raised keep : Bool)
    (detail ext : Nat) : Record :=
  { code, kind, sev, ptn, raised, keep, detail, ext
    ptpTime := s.rd .beatAlignState == alignLocked || s.rd .beatAlignState == alignHoldover
    beat := s.beat.number, time := s.free, seq := s.rd .sqlSeq, boot := s.sql.boot }

/-! ## The buffer (R565) -/

/-- Exempt records in the buffer. -/
def Sql.exempts (q : Sql) : Nat := (q.buffer.filter Record.exempt).length

/-- There is room: 64 of the 1,024 places are held for exempt records, which take those first. -/
def Sql.room (q : Sql) (exempt : Bool) : Bool :=
  if exempt then decide (q.buffer.length < 1024)
  else decide (q.buffer.length - q.exempts + (q.exempts - 64) < 960)

/-- A record into the buffer; without room it is dropped and counted, and takes no SEQ. -/
def State.buffer (s : State) (r : Record) : State :=
  if s.sql.room r.exempt then
    let t := { s with sql := { s.sql with buffer := s.sql.buffer ++ [{ r with seq := s.rd .sqlSeq }] } }
    ((t.bump .sqlSeq).wr .sqlBuffered (s.sql.buffer.length + 1)).drawn
  else
    let t := s.bump .sqlDropped
    { t with sql := { t.sql with dropPending := t.sql.dropPending || !t.sql.dropReported } }

/-! ## Buckets (R566, R567) -/

/-- The bucket of a code: full at BURST 16 and PERIOD 1,000 µs unless changed (R566, R577). -/
def State.bucket (s : State) (code : Nat) : Bucket :=
  s.sql.buckets.get (code / 16) { burst := 16, period := 1000, tokens := 16, suppressed := 0, first := 0, last := 0 }

def State.setBucket (s : State) (code : Nat) (b : Bucket) : State :=
  { s with sql := { s.sql with buckets := s.sql.buckets.set (code / 16) b } }

/-- SUMMARY of an entry with suppressed events, whose count it clears (R564, R567). -/
def State.summarise (s : State) (code : Nat) : State :=
  let b := s.bucket code
  if b.suppressed = 0 then s
  else (s.buffer (s.newRecord .summary (code / 16 * 16) .corrected none false false 0
        (b.suppressed * 2 ^ 96 + b.first.toNat * 2 ^ 48 + b.last.toNat))).setBucket code
        { b with suppressed := 0 }

/-- An EVENT record: it passes its bucket unless it is exempt (R566). -/
def State.recordEvent (s : State) (code : Nat) (sev : Severity) (ptn : Option Nat) (raised : Bool) (detail : Nat) : State :=
  let b := s.bucket code
  if raised && sev.fatal then
    (s.summarise code).buffer ((s.summarise code).newRecord .event code sev ptn raised false detail 0)
  else if b.period = 0 ∨ 0 < b.tokens then
    let t := (s.summarise code).setBucket code
      { b with suppressed := 0, tokens := if b.period = 0 then b.tokens else b.tokens - 1 }
    t.buffer (t.newRecord .event code sev ptn raised false detail 0)
  else
    s.setBucket code { b with
      suppressed := min (b.suppressed + 1) (2 ^ 32 - 1)
      first := if b.suppressed = 0 then s.beat.number else b.first
      last := s.beat.number }

/-- A record of another kind (R564). -/
def State.record (s : State) (kind : RecKind) (ptn : Option Nat) (keep : Bool) (ext : Nat) : State :=
  s.buffer (s.newRecord kind 0 .corrected ptn false keep 0 ext)

/-! ## Flushes and the store (R568, R571) -/

def storeReady : Nat := 1
def storeForeign : Nat := 2
def storeFailed : Nat := 3

/-- A flush starts: a SUMMARY for each entry with a suppressed count; none starts while SQL_STATE is
not READY (R567, R571). -/
def State.startFlush (s : State) : State :=
  if s.rd .sqlState ≠ storeReady ∨ s.sql.flushing then s
  else
    let t := s.each s.sql.buckets.keys (fun t k => t.summarise (k * 16))
    { t with sql := { t.sql with flushing := true } }

/-- Slots of the circulating area (R568). -/
def circSlots : Nat := 61440

/-- A record is carried forward: KEEP, and for REPAIR_SOFT no later REPAIR_HARD of its row (R568). -/
def Store.carries (st : Store) (r : Record) : Bool :=
  r.keep && (r.kind != .repairSoft ||
    !(st.circ.any (fun e => e.2.kind == .repairHard && e.2.ext == r.ext && decide (r.seq < e.2.seq))))

/-- The slot at the head made free: a KEEP record there is written again at the head with a new SEQ
while at most 8,192 are carried, and the head moves on (R568). -/
def State.clearHead : Nat → State → State
  | 0, s => s
  | n + 1, s =>
    match s.store.circ.find s.store.head with
    | some r =>
      if s.store.carries r then
        if (s.store.circ.where (fun _ r => s.store.carries r)).length ≤ 8192 then
          State.clearHead n
            ({ s with store := { s.store with
                circ := s.store.circ.set s.store.head { r with seq := s.rd .sqlSeq }
                head := (s.store.head + 1) % circSlots } }.bump .sqlSeq)
        else { s with sql := { s.sql with keepPending := true } }
      else s
    | none => s

/-- A record written to the store: the circulating area's head and, while it holds fewer than 512
records, the first area (R568). -/
def State.storeRecord (s : State) (r : Record) : State :=
  let t := State.clearHead 8193 s
  { t with store := { t.store with
      circ := t.store.circ.set t.store.head r
      head := (t.store.head + 1) % circSlots
      first := if t.store.first.length < 512 then t.store.first.set t.store.first.length r else t.store.first } }

/-- Buffered records written in SEQ order: all of them, or those before the one whose read-back failed
twice (R571, R573). -/
def State.writeOut (s : State) (rs : List Record) : State := s.each rs State.storeRecord

/-- The flush's end: the buffer is empty (R571). -/
def State.endFlush (s : State) : State :=
  let t := s.writeOut s.sql.buffer
  let t := { t with sql := { t.sql with buffer := [], flushing := false, dropReported := false, fillRaised := false } }
  (t.wr .sqlBuffered 0).bump .sqlFlushes

end Sys2Proof.Machine
end

