-- ==== Sys2Proof/Machine/Owl.lean ====
section
/-! DEFINITION. Owl: an event reported, counted, raised, latched and escalated, and the reaction to it (R545–R559). -/

namespace Sys2Proof.Machine

/-- An event that a detector reports (R545): its code, the partition it names, its detail, and a
severity of its own where its chapter gives one (R287, R347). -/
structure Event where
  code : Nat
  ptn : Option Nat := none
  detail : Nat := 0
  sev : Severity := .corrected
  deriving DecidableEq, Repr

/-- The number of the hub latch. -/
def hubLatch : Nat := 32

/-- The configuration of a source (R549). -/
def State.srcCfg (s : State) (x : Source) : SrcCfg := s.owl.cfg.get (x.code / 16) x.cfg

/-- The latch of an event: that of the formed partition it names, else the hub's (R550). -/
def State.latchOf (s : State) (e : Event) : Nat :=
  match e.ptn with
  | some p => if s.formed p then p else hubLatch
  | none => hubLatch

/-- The severity of a raise at a latch (R551, steps 1 and 2): whether it escalated, and the severity. -/
def raiseSev (v ceiling : Severity) (latch : Option Latch) (hub : Bool) : Bool × Severity :=
  let esc := match latch with
    | some l => decide (v = l.level) && decide (v.rank < ceiling.rank)
    | none => false
  let v := if esc then v.up else v
  let v := if hub ∧ v = .fatalPartition then (if ceiling = .fatalHub then .fatalHub else .contained) else v
  (esc, v)

/-- A latch after a raise (R551, steps 3 and 4). -/
def latchAfter (old : Option Latch) (code : Nat) (v : Severity) (esc cnt : Bool) (beat : BitVec 48) (detail : Nat) : Latch :=
  match old with
  | none => { code, fsev := v, level := v, ovf := false, esc, cnt, beat, detail := detail % 2 ^ 52 }
  | some l => { l with ovf := true, esc := l.esc || esc, level := l.level.max v }

/-- The raise counted by severity (R562). -/
def State.countRaise (s : State) (latch : Nat) (v : Severity) (esc : Bool) : State :=
  let t := s.bumpWord .owlCounts v.rank
  let t := if latch < 32 then t.bumpWord .owlPtnCounts v.rank 0 latch else t
  if esc then t.bump .owlEscalations else t

/-- A raise of CONTAINED or above awaits triage; a pending one of the latch stands unless the new one
is of higher severity (R552, R557, R559). -/
def State.awaitTriage (s : State) (latch code : Nat) (v : Severity) (detail : Nat) : State :=
  if v = .corrected then s
  else
    let higher := s.owl.triage.all (fun t => t.latch != latch || decide (t.sev.rank < v.rank))
    if higher then
      { s with owl := { s.owl with
          triage := s.owl.triage.filter (fun t => t.latch != latch) ++ [⟨code, s.beat.number, latch, v, detail⟩] } }
    else s

/-- The partition enters HALTED, unless a reset of it is running (R555, R559). -/
def State.halt (s : State) (p : Nat) : State :=
  let st := s.ptnState p
  if st = ptnFree ∨ st = ptnResetting ∨ st = ptnScrubbing ∨ st = ptnDissolving ∨ st = ptnHalted then s
  else (s.setPtnState p ptnHalted).bumpWord .ptnResets 3 p

/-- The reaction to a raise at a severity (R553, R555, R556). -/
def State.react (s : State) (latch code : Nat) (v : Severity) : State :=
  let t := if latch < 32 then s.raiseVector latch (s.rd .ptnFaultVector latch) else s
  let t := if latch = hubLatch ∨ v = .fatalPartition then t.msix 0 1 else t
  let t := if v = .fatalPartition ∧ latch < 32 then (t.halt latch).safePartition latch code else t
  if v = .fatalHub ∧ latch = hubLatch then
    let t := t.each (List.range 32) State.halt
    let t := { t with owl := { t.owl with alive := false, faultN := true, fatalHub := true, slowPath := true
                                          triage := t.owl.triage.filter (fun x => x.latch == hubLatch) } }
    t.safeHub code
  else if v.fatal then { t with owl := { t.owl with slowPath := true } }
  else t

/-- A raise of an event at one latch (R551): the severity, the latch, the counts, triage and the reaction. -/
def State.raiseAt (s : State) (x : Source) (latch code : Nat) (v : Severity) (cnt : Bool) (detail : Nat) : State × Severity :=
  let old := s.owl.latches.find latch
  let r := raiseSev v x.ceiling old (latch == hubLatch)
  let t := { s with owl := { s.owl with
      latches := s.owl.latches.set latch (latchAfter old code r.2 r.1 cnt s.beat.number detail) } }
  (((t.countRaise latch r.2 r.1).awaitTriage latch code r.2 detail).react latch code r.2, r.2)

/-- Count mode (R548): whether the event is raised, and the windows after it. -/
def countEvent (w : AMap Nat) (code n : Nat) : Bool × AMap Nat :=
  if n ≤ w.get code 0 + 1 then (true, w.erase code) else (false, w.set code (w.get code 0 + 1))

/-- The sources whose event ends the fast path of a warm reset (R535). -/
def slowCodes : List Nat := [0x603, 0x604, 0x402, 0x208, 0xB03, 0xE01]

/-- An event taken by Owl and passed to Squirrel (R545–R553). -/
def State.report1 (s : State) (e : Event) : State :=
  match sourceOf e.code with
  | none => s
  | some x =>
    let c := s.srcCfg x
    let v := c.sev.max e.sev
    let k := if c.count then countEvent s.owl.windows e.code c.n else (true, s.owl.windows)
    let s := { s with owl := { s.owl with windows := k.2, slowPath := s.owl.slowPath || slowCodes.contains (e.code / 16) } }
    if k.1 then
      let latch := s.latchOf e
      let r := s.raiseAt x latch e.code v c.count e.detail
      let t := if r.2 = .fatalHub ∧ latch ≠ hubLatch then
          (r.1.raiseAt x hubLatch e.code .fatalHub c.count (setField e.detail 51 47 latch)).1
        else r.1
      let t := t.recordEvent e.code r.2 e.ptn true e.detail
      if r.2.fatal then t.startFlush else t
    else s.recordEvent e.code v e.ptn false e.detail

/-- What a new record may call for (R565, R568, R571, R572): SQL_DROPPED, SQL_KEEP_FULL, a flush at the
fill mark in hardware mode, or SQL_FILL in host mode. -/
def State.sqlSettle (s : State) : State :=
  let s := if s.sql.dropPending then
      { s with sql := { s.sql with dropPending := false, dropReported := true } }.report1 { code := Ev.sqlDropped } else s
  let s := if s.sql.keepPending then
      { s with sql := { s.sql with keepPending := false } }.report1 { code := Ev.sqlKeepFull } else s
  if s.sql.buffer.length < s.rd .sqlFillMark then s
  else if s.rd .sqlFlushMode = 0 then s.startFlush
  else if s.sql.fillRaised ∨ s.sql.flushing then s
  else { s with sql := { s.sql with fillRaised := true } }.report1 { code := Ev.sqlFill }

/-- An event reported to Owl (R545). -/
def State.report (s : State) (e : Event) : State := (s.report1 e).sqlSettle

/-- An event of a code, naming a partition or none. -/
def State.ev (s : State) (code : Nat) (ptn : Option Nat := none) (detail : Nat := 0) : State :=
  s.report { code, ptn, detail }

/-- A record of a kind other than EVENT (R563, R564). -/
def State.log (s : State) (kind : RecKind) (ext : Nat) (keep : Bool := false) (ptn : Option Nat := none) : State :=
  (s.record kind ptn keep ext).sqlSettle

/-- The 128 bits of a latch (R550); an empty latch reads 0. -/
def latchBits : Option Latch → Nat
  | none => 0
  | some l =>
    l.code % 65536 * 2 ^ 112 + l.fsev.rank * 2 ^ 110 + l.level.rank * 2 ^ 108 + 2 ^ 107
    + (if l.ovf then 2 ^ 106 else 0) + (if l.esc then 2 ^ 105 else 0) + (if l.cnt then 2 ^ 104 else 0)
    + l.beat.toNat * 2 ^ 56 + l.detail % 2 ^ 52

/-- Latch cleared: at formation, at the end of a dissolution, and by an acknowledgement (R550, R552). -/
def State.clearLatch (s : State) (latch : Nat) : State :=
  { s with owl := { s.owl with latches := s.owl.latches.erase latch } }

/-! ## Errors in tile memories (R97, R105) -/

/-- A corrected error in a tile memory is counted and reported. -/
def State.tileCe (s : State) (p t ev : Nat) : State :=
  let s := s.bump .tilCeCount 0 p
  ({ s with tile := { s.tile with seen := s.tile.seen.set p (s.tile.seen.get p 0 ||| 1) } } : State).ev ev (some p) (Config.detail [t])

/-- An uncorrectable error is counted and reported (R97, R105). -/
def State.tileUe (s : State) (p t ev : Nat) : State :=
  let s := s.bump .tilUeCount 0 p
  ({ s with tile := { s.tile with seen := s.tile.seen.set p (s.tile.seen.get p 0 ||| 2) } } : State).ev ev (some p) (Config.detail [t])

end Sys2Proof.Machine
end

