-- ==== Sys2Proof/Machine/Beat.lean ====
section
/-! DEFINITION. Woodpecker: alignment, declarations and admission (R40–R62). The edge and the cutoff, which
act on every block, stand in Edge.lean. -/

namespace Sys2Proof.Machine

/-! ## Sources and rounds -/

def srcLocal : Nat := 0
def srcPtp : Nat := 1
def srcPps : Nat := 2

/-- Whole rounds of a beat: BEAT_PERIOD / 400 ns (R41). -/
def State.beatRounds (s : State) : Nat := s.rd .beatPeriod / 400

/-- |offset| within the tolerance of 50 ns (R46). -/
def within (o : Int) : Bool := decide (o.natAbs ≤ 50)

/-! ## Alignment (R46) -/

/-- The alignment state that an edge sets, and the count of consecutive edges in tolerance. -/
def alignStep (src st inTol lockEdges : Nat) (offset : Option Int) (lapse holdoverDone : Bool) : Nat × Nat :=
  if src = srcLocal then (alignFree, 0)
  else if st = alignLocked then
    match offset with
    | some o => if within o then (if lapse then (alignHoldover, 0) else (alignLocked, 0)) else (alignLost, 0)
    | none => if lapse then (alignHoldover, 0) else (alignLocked, 0)
  else if st = alignHoldover then
    match offset with
    | some o => if within o then (alignLocked, 0) else (alignLost, 0)
    | none => if holdoverDone then (alignLost, 0) else (alignHoldover, 0)
  else if st = alignLost then
    match offset with
    | some _ => (alignAcquiring, 0)
    | none => (alignLost, 0)
  else
    match offset with
    | some o =>
      if within o then (if lockEdges ≤ inTol + 1 then (alignLocked, 0) else (alignAcquiring, inTol + 1))
      else (alignAcquiring, 0)
    | none => (alignAcquiring, 0)

/-- Whole rounds nearest an offset of `n` ns, half a round going down (R48). -/
def nearestRounds (n : Nat) : Nat := (n + 199) / 400

/-- How the beat that opens is realigned (R48): its rounds and the beat numbers that the next edge skips. -/
def realign (o : Int) (n period : Nat) : Nat × Nat :=
  if 0 < o then
    let skip := o.toNat / period
    (max (n - nearestRounds (o.toNat % period)) ((n + 1) / 2), skip)
  else (n + min (nearestRounds o.natAbs) n, 0)

/-- The trim of the beat that opens (R47): the offset in FCLK cycles, to the nearest, within
BEAT_TRIM_MAX cycles in each round; a late edge shortens. -/
def trimOf (o : Int) (n trimMax : Nat) : Int :=
  let c := min ((26 * o.natAbs + 5) / 10) (n * trimMax)
  if 0 < o then -(c : Int) else c

/-- The SYS window of round `r` of a beat, in FCLK cycles (R47): 16 and the round's share of the trim. -/
def sysWindowCycles (trim : Int) (trimMax r : Nat) : Int :=
  let share := min (trim.natAbs - r * trimMax) trimMax
  if 0 ≤ trim then 16 + share else 16 - share

/-- An edge's measurement acts: the state, the length of the beat that opens and its trim (R45–R49). -/
def State.align (s : State) (offset : Option Int) : State :=
  let src := s.rd .beatSyncSrc
  let st := s.rd .beatAlignState
  let k := alignStep src st s.beat.inTol (s.rd .beatLockEdges) offset s.beat.lapse s.beat.holdoverDone
  let n := s.beatRounds
  let s1 := s.wr .beatAlignState k.1
  let s1 := { s1 with beat := { s1.beat with
      inTol := k.2, lapse := false, rounds := n, trim := 0, skip := 0
      holdoverDone := if k.1 = alignHoldover ∧ st = alignHoldover then s.beat.holdoverDone else false } }
  let s2 := match offset with
    | none => s1
    | some o =>
      if src = srcLocal then s1
      else
        let t := s1.wr .beatOffset (twos 32 o)
        if (k.1 = alignAcquiring ∨ k.1 = alignLost) ∧ 400 < o.natAbs then
          let r := realign o n (s.rd .beatPeriod)
          let t := { t with beat := { t.beat with rounds := r.1, skip := r.2, realigned := true } }
          if s.beat.realigned then t.bump .beatSkipped 0 0 r.2 else t
        else { t with beat := { t.beat with
            trim := trimOf o n (s.rd .beatTrimMax), realigned := true } }
  let s3 := s2.wr .beatRounds s2.beat.rounds
  if k.1 = alignLost ∧ st ≠ alignLost then (s3.bump .beatAlignLosses).ev Ev.beatAlignLost else s3

/-- Cross-package work may be admitted for the coming edge (R46). -/
def State.aligned (s : State) : Bool :=
  let st := s.rd .beatAlignState
  st == alignLocked || (st == alignHoldover && !s.beat.holdoverDone)

/-! ## Declarations (R52–R54) -/

def declLate : Nat := 0
def declFull : Nat := 1
def declUnaligned : Nat := 2
def declBudget : Nat := 3
def declDuplicate : Nat := 4

/-- Pending declarations of an owner. -/
def State.pendingOf (s : State) (o : Option Nat) : Nat := (s.beat.decls.filter (fun d => d.decl.ptn == o)).length

/-- The limit of an owner: 64 for a partition, 256 for the hub (R52). -/
def declLimit : Option Nat → Nat
  | some _ => 64
  | none => 256

def isStep (d : Declaration) : Bool :=
  match d.kind with
  | .step _ _ => true
  | _ => false

/-- The number of the beat that the coming edge opens (R48). -/
def State.comingBeat (s : State) : Nat := s.beat.number.toNat + 1 + s.beat.skip

/-- The coming edge skips the target beat (R48, R53). -/
def State.skips (s : State) (d : Declaration) : Bool :=
  match d.target with
  | none => false
  | some b => decide (s.beat.number.toNat < b.toNat) && decide (b.toNat < s.comingBeat)

/-- Received in the cutoff cycle or later for the coming edge, or for a beat that has passed or been
skipped (R53). -/
def State.isLate (s : State) (d : Declaration) : Bool :=
  match d.target with
  | none => s.beat.cutoff
  | some b => decide (b.toNat ≤ s.beat.number.toNat) || s.skips d || (s.beat.cutoff && decide (b.toNat = s.comingBeat))

/-- A declaration taken (R52, R53): refused with FULL or LATE, or held as pending. A collective step
always carries REFUSE. -/
def State.declare (s : State) (d : Declaration) : State :=
  let id := s.beat.nextId
  let s1 := { s with beat := { s.beat with nextId := id + 1 } }
  if declLimit d.ptn ≤ s.pendingOf d.ptn then s1.emit (.declRefused id declFull)
  else if s.isLate d ∧ (¬ d.defer ∨ isStep d) then s1.emit (.declRefused id declLate)
  else { s1.emit (.declTaken id) with beat := { s1.beat with
      decls := s1.beat.decls ++ [{ id, decl := d, late := s.isLate d }] } }

/-- The declaration is for the edge whose admission is being checked. -/
def State.due (s : State) (p : Pend) : Bool :=
  p.late ||
  match p.decl.target with
  | none => true
  | some b => decide (b.toNat ≤ s.comingBeat)

/-- The answer of admission to a declaration that is due (R54): admitted, refused with a reason, or held. -/
inductive Admission where
  | accept
  | refuse (reason : Nat)
  | hold
  deriving DecidableEq, Repr

/-- An item of the coming edge that makes another of the same kind a duplicate (R54). -/
def clashes (a b : DeclKind) : Bool :=
  match a, b with
  | .switch _, .switch _ => true
  | .step g _, .step h _ => g == h
  | .snapshot _, .snapshot _ => true
  | _, _ => false

def State.clash (s : State) (d : Declaration) : Bool :=
  (s.beat.admitted ++ s.beat.items.filter (fun i => !i.done && decide (1 < i.edges))).any
    (fun i => i.decl.ptn == d.ptn && clashes i.decl.kind d.kind)

/-- The context that runs in the beat the coming edge opens: that of an admitted switch, else the
running one. -/
def State.ctxNext (s : State) (p : Nat) : Nat :=
  ((s.beat.admitted.filterMap (fun i =>
    match i.decl.kind with
    | .switch c => if i.decl.ptn = some p then some c else none
    | _ => none)).head?).getD (s.rd .ptnCtxRunning p)

/-- Granules of migrations admitted for the coming edge. -/
def State.migrationsAdmitted (s : State) : Nat :=
  (s.beat.admitted.filter (fun i => match i.decl.kind with | .migration _ => true | _ => false)).length

/-- Granules that one beat admits hub-wide (R255): JAY_BEAT_BUDGET, or what 512 GB/s move in a beat. -/
def State.beatBudget (s : State) : Nat := min (s.rd .jayBeatBudget) (s.rd .beatPeriod * 512 / 0x100000)

/-- A partition has a step whose group is stretched: its switches are held (R62). -/
def State.stretched (s : State) (p : Nat) : Bool :=
  s.beat.items.any (fun i => i.decl.ptn == some p && isStep i.decl && decide (1 < i.edges))

def State.admission (s : State) (d : Declaration) : Admission :=
  match d.kind with
  | .tileWork _ _ =>
    match d.ptn with
    | some p => if s.ctxNext p = d.ctx then .accept else .hold
    | none => .accept
  | .switch _ =>
    if (d.ptn.map s.stretched).getD false then .hold
    else if s.clash d then .refuse declDuplicate else .accept
  | .step _ cross =>
    if s.clash d then .refuse declDuplicate
    else if cross ∧ ¬ s.aligned then .refuse declUnaligned else .accept
  | .snapshot cross =>
    if s.clash d then .refuse declDuplicate
    else if cross ∧ ¬ s.aligned then .refuse declUnaligned else .accept
  | .migration _ => if s.migrationsAdmitted < s.beatBudget then .accept else .refuse declBudget
  | .thermal => .accept

/-- What becomes of a due declaration. One in time whose target beat the coming edge skips is late: without DEFER it is
refused (R48, R53). -/
def State.verdict (s : State) (p : Pend) : Admission :=
  if s.skips p.decl ∧ ¬ p.late ∧ (¬ p.decl.defer ∨ isStep p.decl) then .refuse declLate else s.admission p.decl

/-- One due declaration checked for the coming edge. -/
def State.admit1 (s : State) (p : Pend) : State :=
  if ¬ s.due p then s
  else
    match s.verdict p with
    | .hold => s
    | .refuse r =>
      { s.emit (.declRefused p.id r) with beat := { s.beat with decls := s.beat.decls.filter (fun x => x.id != p.id) } }
    | .accept =>
      { s.emit (.declAdmitted p.id) with beat := { s.beat with
          decls := s.beat.decls.filter (fun x => x.id != p.id)
          admitted := s.beat.admitted ++ [{ id := p.id, decl := p.decl, done := false, edges := 1 }] } }

/-- Switches first, since which context runs decides about tile work (R54). -/
def admitOrder (l : List Pend) : List Pend :=
  l.filter (fun p => match p.decl.kind with | .switch _ => true | _ => false)
    ++ l.filter (fun p => match p.decl.kind with | .switch _ => false | _ => true)

/-- Admission for the coming edge (R57), in the order of declaration. -/
def State.admitAll (s : State) : State :=
  let t := s.each (admitOrder s.beat.decls) State.admit1
  { t with beat := { t.beat with cutoff := true } }

/-- A completion reaches Woodpecker (R55). -/
def State.complete (s : State) (id : Nat) : State :=
  { s with beat := { s.beat with items := s.beat.items.map (fun i => if i.id = id then { i with done := true } else i) } }

/-- Work of the open beat ends without counting as an overrun (R262). -/
def State.dropItems (s : State) (p : Declaration → Bool) : State :=
  { s with beat := { s.beat with items := s.beat.items.filter (fun i => !p i.decl) } }

/-- Slots of a partition lost to a fault or thermal reaction (R32, R56). -/
def State.loseSlots (s : State) (p n : Nat) : State :=
  let t := s.bump .beatLostSlots 0 p n
  { t with beat := { t.beat with lost := t.beat.lost.set p (t.beat.lost.get p 0 + n) } }

/-! ## The commands -/

/-- BEAT_HOLDOVER has elapsed since entry into HOLDOVER: the state changes at the next edge (R46). -/
def execBeatHoldoverExpiry (s : State) : Host.Outcome State Fault Refusal :=
  .next (if s.rd .beatAlignState = alignHoldover then { s with beat := { s.beat with holdoverDone := true } } else s)

/-- Four expected PTP sync intervals passed without a Sync on any enabled port (R46). -/
def execPtpSyncLapse (s : State) : Host.Outcome State Fault Refusal :=
  .next (if s.rd .beatSyncSrc = srcPtp then { s with beat := { s.beat with lapse := true } } else s)

/-- An expected PPS pulse did not arrive (R46). -/
def execPpsPulseMissed (s : State) : Host.Outcome State Fault Refusal :=
  .next (if s.rd .beatSyncSrc = srcPps then { s with beat := { s.beat with lapse := true } } else s)

/-- With source PPS, a rising edge of the 1 PPS input marks the second of BEAT_TOD_SECONDS (R50). -/
def execPpsInEdge (s : State) : Host.Outcome State Fault Refusal :=
  .next (if s.rd .beatSyncSrc = srcPps then
      { s with beat := { s.beat with ptpSeconds := s.rd .beatTodSeconds } } else s)

/-- A whole second of PTP time: the output pulses while enabled and LOCKED or HOLDOVER (R50). -/
def execPpsOutPulse (s : State) : Host.Outcome State Fault Refusal :=
  .next (if s.rd .beatPpsOut = 1 ∧ (s.rd .beatAlignState = alignLocked ∨ s.rd .beatAlignState = alignHoldover)
    then s.emit .ppsPulse else s)

/-- A declaration is taken or refused (R52, R53). -/
def execDeclare (d : Declaration) (s : State) : Host.Outcome State Fault Refusal := .next (s.declare d)

/-- The completion of an admitted item reaches Woodpecker (R55). -/
def execItemCompletion (id : Nat) (s : State) : Host.Outcome State Fault Refusal := .next (s.complete id)

end Sys2Proof.Machine
end

