-- ==== Sys2Proof/Machine/Arith.lean ====
section
/-! DEFINITION. Number formats and arithmetic: values as exact dyadic numbers, rounding into the formats of R109,
MX blocks and packs, stochastic rounding, reduce-at-home (R107–R136). -/

namespace Sys2Proof.Machine

/-! ## Values -/

/-- A floating-point value: NaN, an infinity, or (−1)^neg × m × 2^e exactly. -/
inductive Fp where
  | nan
  | inf (neg : Bool)
  | fin (neg : Bool) (m : Nat) (e : Int)
  deriving DecidableEq, Repr

/-- A value on its way between formats: FP32, or INT32 when both ends are integer formats (R113). -/
inductive Val where
  | f (x : Fp)
  | i (n : Int)
  deriving DecidableEq, Repr

/-- A floating-point format (R109): exponent and mantissa widths, bias, the largest exponent field of a
finite value, whether all ones in exponent and mantissa is NaN alone, and whether it has infinities. -/
structure FloatFmt where
  eb : Nat
  mb : Nat
  bias : Nat
  top : Nat
  topNan : Bool
  hasInf : Bool
  deriving DecidableEq, Repr

def fp32 : FloatFmt := ⟨8, 23, 127, 254, false, true⟩
def bf16 : FloatFmt := ⟨8, 7, 127, 254, false, true⟩
def fp16 : FloatFmt := ⟨5, 10, 15, 30, false, true⟩
def e4m3 : FloatFmt := ⟨4, 3, 7, 15, true, false⟩
def e5m2 : FloatFmt := ⟨5, 2, 15, 30, false, true⟩
def e3m2 : FloatFmt := ⟨3, 2, 3, 7, false, false⟩
def e2m3 : FloatFmt := ⟨2, 3, 1, 3, false, false⟩
def e2m1 : FloatFmt := ⟨2, 1, 1, 3, false, false⟩

/-- The value of a bit pattern (R109). -/
def decodeFloat (f : FloatFmt) (v : Nat) : Fp :=
  let m := v % 2 ^ f.mb
  let e := v / 2 ^ f.mb % 2 ^ f.eb
  let neg := v.testBit (f.mb + f.eb)
  if f.hasInf ∧ e = 2 ^ f.eb - 1 then (if m = 0 then .inf neg else .nan)
  else if f.topNan ∧ e = 2 ^ f.eb - 1 ∧ m = 2 ^ f.mb - 1 then .nan
  else if e = 0 then .fin neg m (1 - (f.bias : Int) - f.mb)
  else .fin neg (2 ^ f.mb + m) ((e : Int) - f.bias - f.mb)

/-- Mantissa and exponent of the largest finite value. -/
def maxMant (f : FloatFmt) : Nat := if f.topNan then 2 ^ (f.mb + 1) - 2 else 2 ^ (f.mb + 1) - 1
def maxExp (f : FloatFmt) : Int := (f.top : Int) - f.bias - f.mb

/-- The pattern of k × 2^q, where q is the format's quantum for that value. -/
def patternOf (f : FloatFmt) (neg : Bool) (k : Nat) (q : Int) : Nat :=
  let s := if neg then 2 ^ (f.mb + f.eb) else 0
  if k < 2 ^ f.mb then s + k
  else s + (q + f.mb + f.bias).toNat * 2 ^ f.mb + (k - 2 ^ f.mb)

/-- The canonical NaN (R109, R116). -/
def nanPattern (f : FloatFmt) : Nat :=
  if f.topNan then 2 ^ (f.mb + f.eb) - 1 else (2 ^ f.eb - 1) * 2 ^ f.mb + 2 ^ (f.mb - 1)

def infPattern (f : FloatFmt) (neg : Bool) : Nat := (if neg then 2 ^ (f.mb + f.eb) else 0) + (2 ^ f.eb - 1) * 2 ^ f.mb

/-- How a value between two representable ones is rounded (R114, R120): to nearest even, or by a random word. -/
inductive Rnd where
  | nearest
  | stoch (r : Nat)
  deriving DecidableEq, Repr

/-- `m` × 2^`e` as a multiple of 2^`q`, rounded. -/
def roundMul (m : Nat) (e q : Int) (r : Rnd) : Nat :=
  if q ≤ e then m * 2 ^ (e - q).toNat
  else
    let d := (q - e).toNat
    let k := m / 2 ^ d
    let rem := m % 2 ^ d
    match r with
    | .nearest => if 2 * rem > 2 ^ d ∨ (2 * rem = 2 ^ d ∧ k % 2 = 1) then k + 1 else k
    | .stoch w => if 65536 ≤ w + 65536 * rem / 2 ^ d then k + 1 else k

/-- Comparison of m × 2^e with n × 2^g. -/
def dyLt (m : Nat) (e : Int) (n : Nat) (g : Int) : Bool :=
  if e ≤ g then decide (m < n * 2 ^ (g - e).toNat) else decide (m * 2 ^ (e - g).toNat < n)

/-- floor(log2) of m × 2^e, m ≠ 0. -/
def floorLog2 (m : Nat) (e : Int) : Int := (Nat.log2 m : Int) + e

/-- The exponent of the quantum of a format at a value. -/
def quantum (f : FloatFmt) (m : Nat) (e : Int) : Int := max (floorLog2 m e - f.mb) (1 - (f.bias : Int) - f.mb)

/-- A multiple brought back under 2^(mb+1) after rounding up to it. -/
def renorm (f : FloatFmt) (k : Nat) (q : Int) : Nat × Int := if k = 2 ^ (f.mb + 1) then (2 ^ f.mb, q + 1) else (k, q)

/-- A value rounded to a format as k × 2^q, without regard to overflow. -/
def roundFin (f : FloatFmt) (m : Nat) (e : Int) (r : Rnd) : Nat × Int :=
  if m = 0 then (0, 1 - (f.bias : Int) - f.mb)
  else renorm f (roundMul m e (quantum f m e) r) (quantum f m e)

/-- What overflow gives (R115). -/
def overflow (f : FloatFmt) (neg sat : Bool) : Nat :=
  if f.hasInf ∧ ¬ sat then infPattern f neg else patternOf f neg (maxMant f) (maxExp f)

/-- Narrowing to a floating-point format (R114, R115). A value beyond the largest finite value takes no
random word (R120). -/
def narrowFloat (f : FloatFmt) (sat : Bool) (r : Rnd) (x : Fp) : Nat :=
  match x with
  | .nan => nanPattern f
  | .inf neg => overflow f neg sat
  | .fin neg m e =>
    let r := if dyLt (maxMant f) (maxExp f) m e then .nearest else r
    let k := roundFin f m e r
    if dyLt (maxMant f) (maxExp f) k.1 k.2 then overflow f neg sat else patternOf f neg k.1 k.2

/-- A value rounded to FP32, to nearest even, as a value again. -/
def toFp32 (x : Fp) : Fp := decodeFloat fp32 (narrowFloat fp32 false .nearest x)

/-! ## FP32 arithmetic (R125–R127) -/

def Fp.isNan : Fp → Bool
  | .nan => true
  | _ => false

def Fp.neg : Fp → Fp
  | .nan => .nan
  | .inf n => .inf (!n)
  | .fin n m e => .fin (!n) m e

def Fp.abs : Fp → Fp
  | .nan => .nan
  | .inf _ => .inf false
  | .fin _ m e => .fin false m e

/-- Signed mantissa at exponent `g`, which is at most `e`. -/
def mantAt (neg : Bool) (m : Nat) (e g : Int) : Int :=
  let v : Int := m * 2 ^ (e - g).toNat
  if neg then -v else v

/-- Exact sum of two values; a zero sum of values of both signs is +0. -/
def addExact (x y : Fp) : Fp :=
  match x, y with
  | .nan, _ => .nan
  | _, .nan => .nan
  | .inf a, .inf b => if a = b then .inf a else .nan
  | .inf a, _ => .inf a
  | _, .inf b => .inf b
  | .fin a m e, .fin b n g =>
    let q := min e g
    let v := mantAt a m e q + mantAt b n g q
    if v = 0 then .fin (a && b) 0 q else .fin (decide (v < 0)) v.natAbs q

/-- Exact product. -/
def mulExact (x y : Fp) : Fp :=
  match x, y with
  | .nan, _ => .nan
  | _, .nan => .nan
  | .inf a, .inf b => .inf (a != b)
  | .inf a, .fin b n _ => if n = 0 then .nan else .inf (a != b)
  | .fin a m _, .inf b => if m = 0 then .nan else .inf (a != b)
  | .fin a m e, .fin b n g => .fin (a != b) (m * n) (e + g)

def fpAdd (x y : Fp) : Fp := toFp32 (addExact x y)
def fpMul (x y : Fp) : Fp := toFp32 (mulExact x y)
/-- The exact sum of products and addend, rounded once (R125). -/
def fpDot (ps : List (Fp × Fp)) (c : Fp) : Fp := toFp32 ((ps.map (fun p => mulExact p.1 p.2)).foldl addExact c)

/-- x < y, with −0 below +0 where `zeros` says so (R126). -/
def fpLt (zeros : Bool) (x y : Fp) : Bool :=
  match x, y with
  | .nan, _ => false
  | _, .nan => false
  | .inf a, .inf b => a && !b
  | .inf a, _ => a
  | _, .inf b => !b
  | .fin a m e, .fin b n g =>
    if m = 0 ∧ n = 0 then zeros && a && !b
    else if m = 0 then !b
    else if n = 0 then a
    else if a = b then (if a then dyLt n g m e else dyLt m e n g)
    else a

/-- MAX (R126). -/
def fpMax (x y : Fp) : Fp := if x.isNan then y else if y.isNan then x else if fpLt true x y then y else x
/-- MIN (R126). -/
def fpMin (x y : Fp) : Fp := if x.isNan then y else if y.isNan then x else if fpLt true y x then y else x

/-- Integer square root, bit by bit from 2^n down. -/
def isqrtFrom (v : Nat) : Nat → Nat → Nat
  | 0, a => a
  | n + 1, a => if (a + 2 ^ n) * (a + 2 ^ n) ≤ v then isqrtFrom v n (a + 2 ^ n) else isqrtFrom v n a

/-- 1/x in FP32: the pattern that Config.rcp names if it lies within 1 ulp of the exact value, else the
value next toward zero, which does (R127, notes/assumptions/11.md). -/
def fpRcp (x : Fp) : Fp :=
  match x with
  | .nan => .nan
  | .inf neg => .fin neg 0 0
  | .fin neg m e =>
    if m = 0 then .inf neg
    else
      let l := -(floorLog2 m e) - (if m = 2 ^ Nat.log2 m then 0 else 1)
      let q := max (l - 23) (-149)
      let base := 2 ^ (-(e + q)).toNat / m
      let c := decodeFloat fp32 (Config.rcp (narrowFloat fp32 false .nearest x) % 2 ^ 32)
      match c with
      | .fin cn cm ce =>
        let d := addExact (mulExact (.fin false cm ce) (.fin false m e)) (.fin true 1 0)
        match d with
        | .fin _ dm de => if cn = neg ∧ ¬ dyLt m (e + q) dm de then toFp32 c else toFp32 (.fin neg base q)
        | _ => toFp32 (.fin neg base q)
      | _ => toFp32 (.fin neg base q)

/-- 1/√x in FP32, within 2 ulp (R127). -/
def fpRsqrt (x : Fp) : Fp :=
  match x with
  | .nan => .nan
  | .inf neg => if neg then .nan else .fin false 0 0
  | .fin neg m e =>
    if m = 0 then .inf neg
    else if neg then .nan
    else
      let l := floorLog2 m e
      let n := (if m = 2 ^ Nat.log2 m then -l else -l - 1) / 2
      let q := n - 23
      let base := isqrtFrom (2 ^ (-(2 * q + e)).toNat / m) 32 0
      let c := decodeFloat fp32 (Config.rsqrt (narrowFloat fp32 false .nearest x) % 2 ^ 32)
      match c with
      | .fin false cm ce =>
        let two : Fp := .fin false 2 q
        let hi := addExact (.fin false cm ce) two
        let lo := addExact (.fin false cm ce) two.neg
        let sq := fun (v : Fp) => mulExact (mulExact v v) (.fin false m e)
        if ¬ fpLt false (sq hi) (.fin false 1 0) ∧ (fpLt false lo (.fin false 0 0) ∨ ¬ fpLt false (.fin false 1 0) (sq lo)) then
          toFp32 c
        else toFp32 (.fin false base q)
      | _ => toFp32 (.fin false base q)

/-- 2^x in FP32: −infinity gives +0, +infinity and 2^128 and above +infinity; elsewhere a free value (R126, R127,
notes/assumptions/11.md). -/
def fpExp2 (x : Fp) : Fp :=
  match x with
  | .nan => .nan
  | .inf neg => if neg then .fin false 0 0 else .inf false
  | .fin neg m e =>
    if !fpLt false (.fin neg m e) (.fin false 128 0) then .inf false
    else decodeFloat fp32 (Config.exp2 (narrowFloat fp32 false .nearest x) % 2 ^ 32)

/-! ## Format codes (R107, R130) -/

def fmtRaw : Nat := 0
def fmtFp32 : Nat := 1
def fmtInt32 : Nat := 4
def fmtInt8 : Nat := 5

def isMx (c : Nat) : Bool := decide (6 ≤ c) && decide (c ≤ 11)
def isInt (c : Nat) : Bool := c == 4 || c == 5

/-- Bits of an element. -/
def elemBits (c : Nat) : Nat :=
  match c with
  | 1 => 32 | 2 => 16 | 3 => 16 | 4 => 32 | 5 => 8 | 6 => 8 | 7 => 8 | 8 => 6 | 9 => 6 | 10 => 4 | 11 => 8
  | _ => 0

/-- Elements that a lane processes. -/
def laneFactor (c : Nat) : Nat :=
  match c with
  | 5 => 2 | 6 => 2 | 7 => 2 | 11 => 2 | 8 => 4 | 9 => 4 | 10 => 4
  | _ => 1

/-- The floating-point layout of a code's elements. -/
def floatOf (c : Nat) : Option FloatFmt :=
  match c with
  | 1 => some fp32 | 2 => some bf16 | 3 => some fp16 | 6 => some e4m3 | 7 => some e5m2
  | 8 => some e3m2 | 9 => some e2m3 | 10 => some e2m1
  | _ => none

/-- emax of an MX format (R118). -/
def emaxOf (c : Nat) : Int :=
  match c with
  | 6 => 8 | 7 => 15 | 8 => 4 | 9 => 2 | 10 => 2
  | _ => 0

/-- Bytes of a block of 32 elements. -/
def blockBytes (c : Nat) : Nat := 4 * elemBits c

/-! ## Expansion (R113) -/

/-- An element without a scale, as a value; an MXINT8 element k is k × 2^−6 (R110). -/
def elemVal (c v : Nat) : Fp :=
  match floatOf c with
  | some f => decodeFloat f v
  | none =>
    let k := signed (elemBits c) v
    .fin (decide (k < 0)) k.natAbs (if c = 11 then -6 else 0)

/-- A value times 2^k; past the FP32 range an infinity (R113). -/
def scaled (x : Fp) (k : Int) : Fp :=
  match x with
  | .fin n m e => toFp32 (.fin n m (e + k))
  | y => y

/-- Element `i` of packed bits, elements of `w` bits, lowest first. -/
def elemAt (v w i : Nat) : Nat := v / 2 ^ (w * i) % 2 ^ w

/-- The 32 values of an MX block (R111). -/
def expandBlock (c : Nat) (bytes : List Byte) (scale : Nat) : List Val :=
  (List.range 32).map (fun i =>
    .f (if scale = 0xFF then .nan else scaled (elemVal c (elemAt (leNat bytes) (elemBits c) i)) ((scale : Int) - 127)))

/-- An element of a format that is not MX, expanded for a destination (R113). -/
def expandElem (c dst v : Nat) : Val :=
  if isInt c then
    (if isInt dst then .i (signed (elemBits c) v)
     else .f (toFp32 (.fin (decide (signed (elemBits c) v < 0)) (signed (elemBits c) v).natAbs 0)))
  else .f (elemVal c v)

/-- `n` values of an operand in layout R112: elements, then one scale for each block. -/
def operandVals (c dst n : Nat) (bytes : List Byte) : List Val :=
  if isMx c then
    (List.range (n / 32)).flatMap (fun b =>
      expandBlock c ((bytes.drop (b * blockBytes c)).take (blockBytes c)) ((bytes.getD (n / 32 * blockBytes c + b) 0).toNat))
  else (List.range n).map (fun i => expandElem c dst (elemAt (leNat bytes) (elemBits c) i))

/-- Bytes of an operand of `n` elements (R112). -/
def operandLen (c n : Nat) : Nat := if isMx c then n / 32 * (blockBytes c + 1) else n * elemBits c / 8

/-- Packs of a storage attribute (R130, R131): blocks of a pack, and its bytes. -/
def packBlocks (attr : Nat) : Nat := attr % 16 + 1
def packBytes (attr : Nat) : Nat := (packBlocks attr * (blockBytes (attr / 16) + 1) + 31) / 32 * 32

/-- A storage attribute that R130 allows. -/
def attrValid (attr : Nat) : Bool :=
  let c := attr / 16 % 16
  let p := attr % 16
  decide (c ≤ 11) && (match c with
    | 6 => decide (p ≤ 6) | 7 => decide (p ≤ 6) | 11 => decide (p ≤ 6) | 8 => decide (p ≤ 9) | 9 => decide (p ≤ 9)
    | 10 => decide (p ≤ 14)
    | _ => p == 0)

/-- The values of a stored extent (R131, R132). -/
def storedVals (attr dst : Nat) (bytes : List Byte) : List Val :=
  let c := attr / 16
  if isMx c then
    (List.range (bytes.length / packBytes attr)).flatMap (fun k =>
      operandVals c dst (32 * packBlocks attr) ((bytes.drop (k * packBytes attr)).take (packBytes attr)))
  else operandVals c dst (bytes.length * 8 / elemBits c) bytes

/-! ## Narrowing (R114–R118) -/

/-- An integer of `n` bits, saturated. -/
def satInt (n : Nat) (v : Int) : Int := min (max v (-(2 ^ (n - 1)))) (2 ^ (n - 1) - 1)

/-- A value as a whole number, rounded; NaN is 0 and infinities are beyond every range (R115). -/
def toInt (r : Rnd) (x : Fp) : Int :=
  match x with
  | .nan => 0
  | .inf neg => if neg then -(2 ^ 200) else 2 ^ 200
  | .fin neg m e => if neg then -(roundMul m e 0 r : Int) else roundMul m e 0 r

/-- One element narrowed to a format that is not MX. -/
def narrowElem (c : Nat) (sat : Bool) (r : Rnd) (v : Val) : Nat :=
  match floatOf c with
  | some f =>
    (match v with
     | .f x => narrowFloat f sat r x
     | .i n => narrowFloat f sat r (.fin (decide (n < 0)) n.natAbs 0))
  | none =>
    (match v with
     | .f x => twos (elemBits c) (satInt (elemBits c) (toInt r x))
     | .i n => twos (elemBits c) (satInt (elemBits c) n))

def valFp : Val → Fp
  | .f x => x
  | .i n => .fin (decide (n < 0)) n.natAbs 0

/-- The larger magnitude. -/
def maxMag (a b : Nat × Int) : Nat × Int := if dyLt a.1 a.2 b.1 b.2 then b else a

def magOf : Fp → Nat × Int
  | .fin _ m e => (m, e)
  | _ => (0, 0)

/-- The largest magnitude of a block. -/
def amaxOf (xs : List Fp) : Nat × Int := (xs.map magOf).foldl maxMag (0, 0)

def clampE (e : Int) : Int := min (max e (-127)) 127

/-- An element of an MX format from a value divided by its scale: saturated at the largest finite value;
MXINT8 stays within ±127 (R110, R115). -/
def narrowMx (c : Nat) (r : Rnd) (x : Fp) : Nat :=
  match floatOf c with
  | some f => narrowFloat f true r x
  | none =>
    match x with
    | .fin n m e => twos 8 (min (max (toInt r (.fin n m (e + 6))) (-127)) 127)
    | _ => 0

/-- amax / 2^E, rounded to nearest even in the element format, exceeds the largest finite value (R118). -/
def exceeds (c : Nat) (a : Nat × Int) (e : Int) : Bool :=
  match floatOf c with
  | some f => dyLt (maxMant f) (maxExp f) (roundFin f a.1 (a.2 - e) .nearest).1 (roundFin f a.1 (a.2 - e) .nearest).2
  | none => decide (127 < roundMul a.1 (a.2 - e + 6) 0 .nearest)

/-- Scale exponent of a block (R118); `fit` is ARI_MX_SCALE_MODE FIT. None: amax is 0. -/
def scaleExp (c : Nat) (fit : Bool) (a : Nat × Int) : Option Int :=
  if a.1 = 0 then none
  else
    let e := clampE (floorLog2 a.1 a.2 - emaxOf c)
    some (if fit ∧ exceeds c a e then clampE (e + 1) else e)

/-- Numbers of `w` bits packed, lowest first, as `n` bytes. -/
def packElems (w n : Nat) (vs : List Nat) : List Byte := toLe n (vs.zipIdx.foldl (fun (a : Nat) (e : Nat × Nat) => a + e.1 % 2 ^ w * 2 ^ (w * e.2)) 0)

/-- A block quantised (R116, R118): element bytes and scale. -/
def quantBlock (c : Nat) (fit : Bool) (rnd : Nat → Rnd) (vs : List Val) : List Byte × Byte :=
  let xs := vs.map valFp
  if xs.any (fun x => match x with | .fin _ _ _ => false | _ => true) then (List.replicate (blockBytes c) 0, 0xFF)
  else
    match scaleExp c fit (amaxOf xs) with
    | none => (packElems (elemBits c) (blockBytes c) (xs.zipIdx.map (fun (x : Fp × Nat) => narrowMx c .nearest x.1)), 0)
    | some e =>
      (packElems (elemBits c) (blockBytes c) (xs.zipIdx.map (fun (x : Fp × Nat) =>
        narrowMx c (rnd x.2) (match x.1 with | .fin n m g => .fin n m (g - e) | y => y))), BitVec.ofInt 8 (e + 127))

/-- Values narrowed into an operand of layout R112. -/
def operandBytes (c : Nat) (sat fit : Bool) (rnd : Nat → Rnd) (vs : List Val) : List Byte :=
  if isMx c then
    let bs := (List.range (vs.length / 32)).map (fun b =>
      quantBlock c fit (fun i => rnd (32 * b + i)) ((vs.drop (32 * b)).take 32))
    bs.flatMap (·.1) ++ bs.map (·.2)
  else packElems (elemBits c) (vs.length * elemBits c / 8) (vs.zipIdx.map (fun (v : Val × Nat) => narrowElem c sat (rnd v.2) v.1))

/-- Values narrowed into stored packs, padded with zeros to whole sectors (R131). -/
def storedBytes (attr : Nat) (sat fit : Bool) (rnd : Nat → Rnd) (vs : List Val) : List Byte :=
  let c := attr / 16
  if isMx c then
    let n := 32 * packBlocks attr
    (List.range (vs.length / n)).flatMap (fun k =>
      let b := operandBytes c sat fit (fun i => rnd (n * k + i)) ((vs.drop (n * k)).take n)
      b ++ List.replicate (packBytes attr - b.length) 0)
  else operandBytes c sat fit rnd vs

/-! ## Conversion of a request (R132, R133) -/

/-- The request is converted: its delivery format is neither RAW nor the storage format. -/
def converts (attr fmt : Nat) : Bool := attr / 16 != 0 && fmt != 0 && fmt != attr / 16

/-- The stored extent of a converted request meets R133: whole sectors, at most 256 B, whole packs. -/
def extentOk (attr off len : Nat) : Bool :=
  off % 32 == 0 && len % 32 == 0 && decide (len ≤ 256)
    && (!isMx (attr / 16) || (off % packBytes attr == 0 && len % packBytes attr == 0))

/-- Stored bytes as the delivery format gives them, narrowed as the stage or the site does (R114, R115, R118). -/
def convertRead (attr fmt : Nat) (sat fit : Bool) (rnd : Nat → Rnd) (bytes : List Byte) : List Byte :=
  operandBytes fmt sat fit rnd (storedVals attr fmt bytes)

/-- Elements of a stored extent. -/
def extentElems (attr len : Nat) : Nat :=
  let c := attr / 16
  if isMx c then len / packBytes attr * (32 * packBlocks attr) else len * 8 / elemBits c

/-- Delivered bytes as they are stored, rounded as the stage or the site does. -/
def convertWrite (attr fmt len : Nat) (sat fit : Bool) (rnd : Nat → Rnd) (bytes : List Byte) : List Byte :=
  storedBytes attr sat fit rnd (operandVals fmt (attr / 16) (extentElems attr len) bytes)

/-! ## Reduce-at-home (R135) -/

/-- One element reduced: ADD or MAX, in INT32 with saturation or in FP32. -/
def reduceVal (max? : Bool) (a b : Val) : Val :=
  match a, b with
  | .i x, .i y => .i (if max? then max x y else satInt 32 (x + y))
  | x, y => .f (if max? then fpMax (valFp x) (valFp y) else fpAdd (valFp x) (valFp y))

def reduceVals (max? : Bool) (a b : List Val) : List Val := (a.zip b).map (fun p => reduceVal max? p.1 p.2)

/-- The stored bytes after a reduce-at-home write: `attr` is the granule's storage attribute, `fmt` the stated
format of the data. In a RAW granule the stored bytes are taken in that format. -/
def reduceAtHome (attr fmt : Nat) (max? fit : Bool) (old new : List Byte) : List Byte :=
  let attr' := if attr / 16 = 0 then fmt * 16 else attr
  let n := extentElems attr' old.length
  storedBytes attr' true fit (fun _ => .nearest)
    (reduceVals max? (storedVals attr' fmt old) (operandVals fmt (attr' / 16) n new))

/-! ## Stochastic rounding (R121, R122) -/

def w32 (v : Nat) : Nat := v % 2 ^ 32

def srRounds : Nat → Nat → Nat → Nat → Nat → Nat → Nat → Nat × Nat × Nat × Nat
  | 0, _, _, c0, c1, c2, c3 => (c0, c1, c2, c3)
  | n + 1, k0, k1, c0, c1, c2, c3 =>
    let p := c0 * 0xA3B195E7
    let q := c2 * 0xC86F2D13
    srRounds n (w32 (k0 + 0x6A09E667)) (w32 (k1 + 0x3C6EF372))
      ((q / 2 ^ 32) ^^^ c1 ^^^ k0) (w32 q) ((p / 2 ^ 32) ^^^ c3 ^^^ k1) (w32 p)

/-- The generator of R122. -/
def srBlock (k0 k1 c0 c1 c2 c3 : Nat) : Nat × Nat × Nat × Nat := srRounds 10 k0 k1 c0 c1 c2 c3

/-- The random word of element slot `j` of a lane (R121). -/
def randomWord (key epoch seq tile lane j : Nat) : Nat :=
  let c := epoch % 2 ^ 46 * 2 ^ 82 + seq % 2 ^ 64 * 2 ^ 18 + tile % 2 ^ 12 * 2 ^ 6 + lane % 64
  let r := srBlock (w32 key) (w32 (key / 2 ^ 32)) (w32 c) (w32 (c / 2 ^ 32)) (w32 (c / 2 ^ 64)) (w32 (c / 2 ^ 96))
  (r.1 + r.2.1 * 2 ^ 32) / 2 ^ (16 * j) % 2 ^ 16

end Sys2Proof.Machine
end

