-- ==== Sys2Proof/Machine/Entry.lean ====
section
/-! DEFINITION. Entry points: requests tracked from their issue to their answer, their translation and
its caches, injection, the drains of a granule invalidation, and answers in each entry's form
(R26–R28, R186, R247–R251, R308, R311, R315, R320). -/

namespace Sys2Proof.Machine

/-! ## Sites -/

/-- UCI_PROTOCOL: 1 HTL, 2 CXL (R300). -/
def protoHtl : Nat := 1
def protoCxl : Nat := 2

/-- Statuses of R308. -/
def hsOk : Nat := 0
def hsAborted : Nat := 1
def hsXlate : Nat := 2
def hsIsolation : Nat := 3
def hsBadField : Nat := 4
def hsConv : Nat := 5
def hsNotCoherent : Nat := 6
def hsQueue : Nat := 7
def hsSync : Nat := 8
def hsTimeout : Nat := 9
def hsLevel : Nat := 10

/-- OP of a request (R307). -/
def ReqOp.code : ReqOp → Nat
  | .rdShared => 1 | .rdUnique => 2 | .claim => 3 | .evict => 4 | .rdNa => 5 | .intr => 6
  | .wb => 0x10 | .write => 0x11 | .stash => 0x12 | .reduce => 0x13 | .sync => 0x15

/-- Its answer carries data. -/
def ReqOp.reads (o : ReqOp) : Bool := o == .rdShared || o == .rdUnique || o == .rdNa

/-- Line opcodes: the coherent opcodes of R307 other than WR_STASH. -/
def ReqOp.line (o : ReqOp) : Bool := o == .rdShared || o == .rdUnique || o == .claim || o == .evict || o == .wb

/-- CMP, RD_DATA, SYNC_DATA (R307). -/
def opCmp : Nat := 0x20
def opRdData : Nat := 0x30
def opSyncData : Nat := 0x31

/-! ## Trackers -/

/-- The entry point of a tracker number. -/
def Tracker.is (k : Tracker) (e : Entry) : Bool := k.entry == e

/-- Trackers of an entry point, in rising number. -/
def State.trackersAt (s : State) (e : Entry) : AMap Tracker := s.noc.trackers.where (fun _ k => k.entry == e)

def State.setTracker (s : State) (id : Nat) (k : Tracker) : State :=
  { s with noc := { s.noc with trackers := s.noc.trackers.set id k } }

def State.dropTracker (s : State) (id : Nat) : State :=
  { s with noc := { s.noc with trackers := s.noc.trackers.erase id } }

/-- A TXID free at an entry point. -/
def State.freeId (s : State) (e : Entry) : Nat :=
  s.noc.trackers.free (s.trackersAt e).length (8192 * entryCode e)

/-- A request of an entry point, not yet tracked. -/
def newRequest (e : Entry) (lab : Label) (op : ReqOp) (tag ppa len : Nat) (data : List Byte) : Tracker :=
  { entry := e, ptn := some lab.ptn, lab, op, tag, ppa, len, data
    och := 0, fmt := 0, agent := 0, opx := 0, obj := 0, poison := 0, dst := 0, dfmt := 0
    phase := .xlate, hgran := 0, kgen := 0, sfmt := 0, order := 0, fence := false, retried := false, timedOut := false
    base := 0, whole := len, group := 0, landed := false, rnd := [], sat := false }

/-! ## Translation at an entry point (R247, R248, R410) -/

/-- What the window check says of a PPA granule: the directory run and granule through which it is translated, or a
refusal of a write without WRITE. -/
def State.route (s : State) (p g : Nat) (write : Bool) : Option (Nat × Nat) :=
  match s.importOf p g with
  | some w => if write ∧ ¬ w.write then none else some (w.peer, w.exGran + (g - w.imGran))
  | none => some (p, g)

/-- The set of a translation cache in which a granule lies; a buffer has one set of 64 (R247). -/
def cacheSet (e : Entry) (p g : Nat) : Nat :=
  match e with
  | .tile _ => g % 64
  | .site _ => (g % 64) ^^^ p
  | _ => 0

def cacheWays : Entry → Nat
  | .tile _ => 8
  | .site _ => 8
  | _ => 64

def State.cacheOf (s : State) (e : Entry) : List XEntry := s.caches.get (entryCode e) []

def State.setCache (s : State) (e : Entry) (l : List XEntry) : State := { s with caches := s.caches.put (entryCode e) l [] }

/-- An entry put first; where its set is full, the least recently used entry of the set leaves (R247). -/
def State.cacheFill (s : State) (e : Entry) (x : XEntry) : State :=
  let l := (s.cacheOf e).filter (fun y => !(y.ptn == x.ptn && y.gran == x.gran))
  let inSet := l.filter (fun y => cacheSet e y.ptn y.gran == cacheSet e x.ptn x.gran)
  let out := inSet.drop (cacheWays e - 1)
  s.setCache e (x :: l.filter (fun y => !out.contains y))

def State.cacheFind (s : State) (e : Entry) (p g : Nat) : Option XEntry :=
  (s.cacheOf e).find? (fun y => y.ptn == p && y.gran == g)

/-- A granule's entries dropped from a cache. -/
def State.cacheDrop (s : State) (e : Entry) (p g : Nat) : State :=
  s.setCache e ((s.cacheOf e).filter (fun y => !(y.ptn == p && y.gran == g)))

/-- A partition's entries dropped from every cache (R420). -/
def State.cachesFlush (s : State) (p : Nat) : State :=
  { s with caches := (s.caches.mapVal (fun _ (l : List XEntry) => l.filter (fun y => y.ptn != p))).where (fun _ l => !l.isEmpty) }

/-- The request carries data to be stored. -/
def ReqOp.writes (o : ReqOp) : Bool := o == .wb || o == .write || o == .stash || o == .reduce

/-- How the elements of a converted write are rounded. -/
def rounderOf : List Nat → Nat → Rnd
  | [key, epoch, seq, tile, f], i => .stoch (randomWord key epoch seq tile (i / max 1 f) (i % max 1 f))
  | _, _ => .nearest

/-- The stored bytes that a write's part carries: converted for the storage format that its translation returned, where
its delivery format asks it (R132–R134). -/
def Tracker.stored (k : Tracker) (attr : Nat) (fit : Bool) : List Byte :=
  let d := if (k.op = .write ∨ k.op = .stash) ∧ converts attr k.fmt then convertWrite attr k.fmt k.whole k.sat fit (rounderOf k.rnd) k.data
    else k.data
  if k.op = .write ∨ k.op = .stash then (d.drop k.base).take k.len else d

/-- The bytes that a converted read delivers, narrowed as the stage or the site does (R114, R118, R132). -/
def State.readAs (s : State) (k : Tracker) (data : List Byte) : List Byte :=
  convertRead k.sfmt k.fmt k.sat (s.rd .ariMxScaleMode 0 k.lab.ptn == 1) (rounderOf k.rnd) data

/-- The request as it travels to its home agent (R320). -/
def Tracker.home (k : Tracker) (id : Nat) (x : XEntry) (p : Nat) (fit : Bool) : HomeReq :=
  { id, entry := k.entry, lab := { k.lab with ptn := p }, kgen := x.kgen
    hpa := x.hgran * Config.granule + k.ppa % Config.granule, pgran := x.gran, len := k.len, agent := k.agent
    fmt := k.fmt, opx := k.opx, obj := k.obj, data := k.stored x.sfmt fit, poison := k.poison }

/-- The replica tile of a granule in a plot (R266). -/
def replicaTile (plot g : Nat) : Nat := tileAt (6 * (plot % 8) + g % 36 % 6) (6 * (plot / 8) + g % 36 / 6)

/-- The replica tile of a site read under a redirect: of the owner's lowest plot in the site's quadrant, or of its
lowest plot (R267). -/
def State.redirectTile (s : State) (k p g : Nat) : Option Nat :=
  let ps := s.plotsOf p
  let near := ps.filter (fun x => plotQuad x == siteQuad k)
  (near ++ ps).head?.map (fun x => replicaTile x g)

/-- Where a translated request goes: to a replica tile or to the home agent (R267). -/
def State.sendOut (s : State) (k : Tracker) (r : HomeReq) (x : XEntry) : State :=
  if k.op = .rdNa ∧ x.rowrep then
    match k.entry with
    | .tile t => s.emit (.replica (replicaTile (plotOf t) x.gran) r)
    | .site j =>
      if s.jay.redirect.contains (stackOf r.hpa) then
        match s.redirectTile j r.lab.ptn x.gran with
        | some t => s.emit (.replica t r)
        | none => s.emit (.request k.op.code r)
      else s.emit (.request k.op.code r)
    | _ => s.emit (.request k.op.code r)
  else s.emit (.request (if k.op = .rdNa ∧ k.opx = 1 then 0x2A else k.op.code) r)

/-- A site's class of credits for a request: 0 REQ, 3 DAT (R307). -/
def ReqOp.net (o : ReqOp) : Nat := if decide (o.code < 0x10) then 0 else 3

/-- The buffer of a message from a chiplet is free: its credit returns (R313), unless a snapshot pauses the partition (R396). -/
def State.returnCredit (s : State) (e : Entry) (o : ReqOp) (p : Nat) : State :=
  match e with
  | .site k =>
    if (s.col.paused.find p).isSome then { s with col := { s.col with credits := s.col.credits ++ [{ site := k, net := o.net, ptn := p }] } }
    else s.emit (.credit k o.net p 1)
  | _ => s

/-- A tracked request injected with a translation. -/
def State.injectWith (s : State) (id : Nat) (k : Tracker) (x : XEntry) (p : Nat) : State :=
  let s := s.setTracker id { k with phase := .out, hgran := x.hgran, kgen := x.kgen, sfmt := x.sfmt }
  (s.sendOut k (k.home id x p (s.rd .ariMxScaleMode 0 p == 1)) x).returnCredit k.entry k.op k.lab.ptn

/-- A granule of an entry point is held while its old requests drain (R251). -/
def State.holding (s : State) (e : Entry) (p g : Nat) : Bool := s.jay.draining.contains (e, p, g)

/-! ## Answers -/

/-- Poison as the fabric carries it: a poisoned flit marks every sector that it carries, four of them (R310). -/
def flitPoison (n poison : Nat) : Nat :=
  (List.range n).foldl (fun a i =>
    if (List.range 4).any (fun j => poison.testBit (i / 4 * 4 + j)) then a + 2 ^ i else a) 0

/-- The mask of `n` sectors. -/
def allPoison (n : Nat) : Nat := 2 ^ n - 1

/-- Delivered data in parts of up to 256 B (R315). -/
def partsOf : Nat → List Byte → List (List Byte)
  | 0, _ => []
  | n + 1, d => if d.length ≤ 256 then [d] else d.take 256 :: partsOf n (d.drop 256)

/-- RD_DATA or CMP of a site's request (R306, R312, R315). -/
def State.htlAnswer (s : State) (j : Nat) (k : Tracker) (status st : Nat) (data : List Byte) (poison : Nat) : State :=
  if data.isEmpty ∧ (poison = 0 ∨ k.op.writes) then s.emit (.htl j opCmp k.lab k.och k.tag status st 0 true (poison % 2 ^ 8) [])
  else
    let conv := k.op = .rdNa ∧ converts k.sfmt k.fmt
    let out := if conv then s.readAs k data else data
    let ps := partsOf 8 out
    let mask := flitPoison (k.len / 32) poison
    s.emitAll (ps.zipIdx.map (fun (e : List Byte × Nat) =>
      .htl j (if k.op = .sync then opSyncData else opRdData) k.lab k.och k.tag status st e.2 (e.2 + 1 == ps.length)
        (if conv then (if mask = 0 then 0 else allPoison 8) else mask / 2 ^ (8 * e.2) % 2 ^ 8) e.1))

/-! ## The host station (R479–R483) -/

/-- A read that is refused: Unsupported Request, or Completer Abort. -/
def cplUr : Nat := 1
def cplCa : Nat := 2

/-- An access to a VF refused with a code of R481: recorded, counted, logged in PF0's AER and reported; a read is completed. -/
def State.hostRefuse (s : State) (p code : Nat) (read : Bool) : State :=
  let s : State := { s with hep := { s.hep with refused := s.hep.refused.set p (256 + code) } }
  let s := (s.bump .hepRefused 0 p).emit (.aer (p + 1) code)
  let s := if code = 5 then (s.bump .hepWttMisses 0 p).ev Ev.hepWttMiss (some p) else s
  let s := if code = 1 then s.ev Ev.hepBadAccess (some p) else s
  if read then s.emit (.completion (p + 1) (if code = 1 ∨ code = 2 ∨ code = 3 ∨ code = 5 then cplUr else cplCa) []) else s

/-- Trackers of a VF's function whose answers are awaited. -/
def State.hostOut (s : State) (p : Nat) : List Tracker :=
  (s.noc.trackers.where (fun _ k => k.entry == .host && k.lab.ptn == p && !k.timedOut)).map (fun (e : Nat × Tracker) => e.2)

/-- A tracker of the station is free for a function: 15 are its own, and 17 are shared among PF0 and the VFs of shared-mode
partitions (R482). -/
def State.hostRoom (s : State) (p : Nat) : Bool :=
  let used (q : Nat) : Nat := (s.noc.trackers.where (fun _ k => k.entry == .host && k.lab.ptn == q)).length
  decide (used p < 15) ||
    (s.rd .beatTimingMode 0 p == 1 && decide (((List.range 32).map (fun q => used q - 15)).foldl (· + ·) 0 < 17))

/-- What becomes of the request at the head of a function's queue. -/
inductive HostTurn where
  | wait
  | done (s : State)
  | issue (s : State) (k : Tracker)
  deriving DecidableEq, Repr

/-- Two spans of bytes overlap. -/
def overlap (a n b m : Nat) : Bool := decide (a < b + m) && decide (b < a + n)

/-- A BAR2 request whose turn has come (R480, R481, R483); after a FATAL-HUB it is answered Completer Abort (R555), and while a
snapshot pauses the partition it waits (R396). A write received with EP stores its sectors poisoned. -/
def State.hostBar2 (s : State) (p : Nat) (r : HostReq) : HostTurn :=
  let st := s.ptnState p
  let read := r.data.isNone
  let w := s.hep.wtt.get (1024 * p + r.off / 2 ^ 26 % 1024) 0
  let ppa := field w 47 20 * Config.granule + r.off % 2 ^ 26
  let outs := s.hostOut p
  if s.owl.fatalHub then .done (if read then s.emit (.completion (p + 1) cplCa []) else s)
  else if (s.col.paused.find p).isSome then .wait
  else if st = ptnFree then .done (s.hostRefuse p 2 read)
  else if st = ptnFormed ∨ st = ptnSealing then .done (s.hostRefuse p 3 read)
  else if st ≠ ptnSealed then .done (s.hostRefuse p 4 read)
  else if !w.testBit 63 || (if read then !w.testBit 62 else !w.testBit 61) then .done (s.hostRefuse p 5 read)
  else if read && !outs.isEmpty || !read && outs.any (fun k => k.op.writes && (w.testBit 53 || overlap k.ppa k.len ppa r.len)) || !s.hostRoom p then
    .wait
  else
    let cls := field w 56 54
    let s := if 5 ≤ cls then s.bump .qosSysDemoted 0 p else s
    let lab : Label := { ptn := p, ctx := field w 60 57, cls := if 5 ≤ cls then 2 else cls }
    let a := ppa / 32 * 32
    let n := (ppa + r.len + 31) / 32 * 32 - a
    match r.data with
    | none => .issue s { newRequest .host lab .rdNa 0 a n [] with base := ppa - a, whole := r.len }
    | some d =>
      if r.ep then
        .issue (s.ev Ev.hepPoisonRx (some p)) { newRequest .host lab .write 0 a n (List.replicate n 0) with poison := 2 ^ (n / 32) - 1 }
      else .issue s (newRequest .host lab .write 0 ppa r.len d)

/-- A request of the host is answered (R481, R472): completions of at most 256 B, broken at 256 B-aligned addresses. -/
def State.hostAnswer (s : State) (k : Tracker) (status : Nat) (data : List Byte) (poison : Nat) : State :=
  let p := k.lab.ptn
  let read := k.op.reads
  if status = hsXlate then s.hostRefuse p 6 read
  else if status = hsAborted then s.hostRefuse p 7 read
  else if status = hsTimeout then s.hostRefuse p 8 read
  else if read then
    let a := k.ppa + k.base
    s.emitAll ((lineParts a k.whole).map (fun (e : Nat × Nat) =>
      .completion (p + 1) (if poison = 0 then 0 else 4) ((data.drop (e.1 - k.ppa)).take e.2)))
  else s

/-- The answer in the form of its entry point. A lost chiplet's answers are discarded (R298). -/
def State.deliverAnswer (s : State) (id : Nat) (k : Tracker) (status st : Nat) (data : List Byte) (poison : Nat) : State :=
  match k.entry with
  | .site j =>
    if (s.site j).lost then s
    else
      let s := if status = hsXlate then s.bump .htlRefused j hsXlate else s
      if s.rd .uciProtocol j = protoCxl then
        s.emit (.cxl j k.tag (status != hsOk && ((k.op.reads && k.dfmt != 2) || k.dfmt == 1)) data (poison != 0 || (status != hsOk && k.op.reads)))
      else s.htlAnswer j k status st data poison
  | .engine c =>
    let t : State := { s with col := { s.col with got := s.col.got.set id { data, bad := poison != 0 || status != hsOk } } }
    t.emit (.answer (.engine c) id status data (poison != 0))
  | .host => s.hostAnswer k status data poison
  | e =>
    let t := if e = .hub ∧ k.op = .rdNa ∧ k.dfmt = 1 then
        s.wrField .secDebugData (8 * (k.dst + data.length) - 1) (8 * k.dst) (leNat data) 0 k.lab.ptn
      else s
    t.emit (.answer e id status data (poison != 0))

/-- An invalidation's receiver has no tracker left with an old request to the granule (R251). -/
def State.drained (s : State) (e : Entry) (p g : Nat) : Bool :=
  (s.trackersAt e).all (fun (x : Nat × Tracker) =>
    !((x.2.phase == .out || x.2.phase == .answered) && s.route x.2.lab.ptn (x.2.ppa / Config.granule) false == some (p, g)))

/-- Earlier requests of its channel are unanswered (R311). -/
def State.channelBusy (s : State) (k : Tracker) : Bool :=
  (s.trackersAt k.entry).any (fun (x : Nat × Tracker) =>
    decide (x.2.order < k.order) && x.2.lab.ptn == k.lab.ptn && x.2.och == k.och && !x.2.timedOut)

/-- The request reads or writes an extent of memory. -/
def ReqOp.extent (o : ReqOp) : Bool := o != .intr && o != .sync

/-- An earlier request of its channel that overlaps it waits for its fence (R311). -/
def State.overtakes (s : State) (k : Tracker) : Bool :=
  k.op.extent && (s.trackersAt k.entry).any (fun (x : Nat × Tracker) =>
    x.2.phase == .fenced && decide (x.2.order < k.order) && x.2.lab.ptn == k.lab.ptn && x.2.och == k.och && x.2.op.extent
    && overlap x.2.ppa x.2.len k.ppa k.len)

/-- A request waits for others of its channel. -/
def State.mustWait (s : State) (k : Tracker) : Bool := (k.fence && s.channelBusy k) || s.overtakes k

/-- The turn of a request that waits at its entry point has come: its fence is open, or its granule has drained. -/
def State.turnCome (s : State) (k : Tracker) : Bool :=
  (k.phase == .fenced && !s.mustWait k) ||
  (k.phase == .hold && !(match s.route k.lab.ptn (k.ppa / Config.granule) false with
    | some (p, g) => s.holding k.entry p g
    | none => false))

/-- A request of HTL that reaches its end at the station: an interrupt (R311, R318). -/
def State.stationOp (s : State) (id : Nat) (k : Tracker) : State :=
  match k.entry, k.op with
  | .site j, .intr =>
    (((s.raiseVector k.lab.ptn k.obj).emit (.htl j opCmp k.lab k.och k.tag hsOk 0 0 true 0 [])).dropTracker id).returnCredit
      k.entry k.op k.lab.ptn
  | _, _ => s

/-- The same operation asked of its bank: emitted with the request, and answered from there (R318). -/
def State.forwardSync (s : State) (id : Nat) (k : Tracker) : State :=
  (s.setTracker id { k with phase := .out }).emit (.request k.op.code
    { id, entry := k.entry, lab := k.lab, kgen := 0, hpa := 0, pgran := 0, len := k.len, agent := k.agent, fmt := k.fmt
      opx := k.opx, obj := k.obj, data := k.data, poison := k.poison })

mutual
/-- A tracked request translated: injected on a hit, held while its granule drains, else a lookup is sent (R248). -/
def State.translate (fuel : Nat) (s : State) (id : Nat) (k : Tracker) : State :=
  match fuel with
  | 0 => s
  | f + 1 =>
    if k.op = .intr then s.stationOp id k
    else if k.op = .sync then (s.forwardSync id k).returnCredit k.entry k.op k.lab.ptn
    else
      match s.route k.lab.ptn (k.ppa / Config.granule) k.op.writes with
      | none => State.finish f (s.setTracker id k) id hsXlate 0 [] 0
      | some (p, g) =>
        if s.holding k.entry p g then s.setTracker id { k with phase := .hold }
        else
          match s.cacheFind k.entry p g with
          | some x => (s.cacheFill k.entry x).injectWith id k x p
          | none => (s.setTracker id { k with phase := .xlate }).emit (.lookup k.entry p g)

/-- A request ends: its answer goes out, its tracker is free, fenced requests of its channel whose turn has come
are issued, and a granule that it kept from draining is acknowledged. -/
def State.finish (fuel : Nat) (s : State) (id status st : Nat) (data : List Byte) (poison : Nat) : State :=
  match fuel with
  | 0 => s
  | f + 1 =>
    match s.noc.trackers.find id with
    | none => s
    | some k =>
      let s := if k.timedOut then s else s.deliverAnswer id k status st data poison
      let s := match k.entry with
        | .tile t =>
          if k.timedOut then s.dropTracker id
          else if status = hsXlate then ((s.dropTracker id).haltStrand t k.tag 5).requestDone t k.tag
          else s.setTracker id { k with phase := .answered }
        | _ => s.dropTracker id
      State.settleEntry f s k.entry

/-- What the end of a request releases at its entry point. -/
def State.settleEntry (fuel : Nat) (s : State) (e : Entry) : State :=
  match fuel with
  | 0 => s
  | f + 1 =>
    let done := s.jay.draining.filter (fun d => d.1 == e && s.drained e d.2.1 d.2.2)
    let s := { s with jay := { s.jay with draining := s.jay.draining.filter (fun d => !done.contains d) } }
    let s := s.emitAll (done.map (fun d => .invalAck e d.2.1 d.2.2))
    let s := (sortBy (fun (x : Nat × Tracker) => x.2.order) (s.trackersAt e)).foldl (fun s (x : Nat × Tracker) =>
      match s.noc.trackers.find x.1 with
      | some k => if s.turnCome k then State.translate f s x.1 k else s
      | none => s) s
    if e = .host then (List.range 32).foldl (fun s p => State.hostPump f s p) s else s

/-- The BAR2 requests at the head of a function's queue whose turn has come. -/
def State.hostPump (fuel : Nat) (s : State) (p : Nat) : State :=
  match fuel with
  | 0 => s
  | f + 1 =>
    match s.hep.queue.get p [] with
    | [] => s
    | r :: rest =>
      if ¬ r.bar2 then s
      else
        let pop (s : State) : State := { s with hep := { s.hep with queue := s.hep.queue.put p rest [] } }
        match s.hostBar2 p r with
        | .wait => s
        | .done t => State.hostPump f (pop t) p
        | .issue t k =>
          let t := pop t
          let k := { k with order := t.noc.order }
          let t : State := { t with noc := { t.noc with order := t.noc.order + 1 } }
          State.hostPump f (State.translate f t (t.freeId .host) k) p
end

/-- The tag of a timed-out request of a queue's: no completion record waits for it any longer. -/
def Tracker.settledTag (k : Tracker) : Nat :=
  match k.entry with
  | .tile _ => if 1024 ≤ k.tag then 1023 else k.tag
  | .hub => if 1024 ≤ k.tag then 1023 else k.tag
  | _ => k.tag

/-- NOC_RSP_TIMEOUT at the entry point: the request completes with poison, a tile's strand halts with POISON (R94, R186). -/
def State.timeOut (s : State) (id : Nat) (k : Tracker) : State :=
  let s := s.setTracker id { k with timedOut := true, tag := k.settledTag }
  match k.entry with
  | .tile t => (s.haltStrand t k.tag 4).requestDone t k.tag
  | _ => s.deliverAnswer id k hsTimeout 0 [] (if k.op.reads then allPoison (k.len / 32) else 0)

/-- Steps of `translate`, `finish` and `settleEntry` that one answer can call for. -/
def State.entryFuel (s : State) : Nat :=
  3 * s.noc.trackers.length + 8 + 4 * (s.hep.queue.map (fun (e : Nat × List HostReq) => e.2.length)).foldl (· + ·) 0

/-- Fenced requests of the sites whose turn has come are issued. -/
def State.settleSites (s : State) : State := s.each (List.range 8) (fun s k => State.settleEntry s.entryFuel s (.site k))

/-- A request's answer reaches its entry point (R308, R312). -/
def State.answerReq (s : State) (id status st : Nat) (data : List Byte) (poison : Nat) : State :=
  s.finish s.entryFuel id status st data poison

/-- A request issued at its entry point: it takes a tracker, and waits behind a fence, for its translation, or is
injected. -/
def State.issue (s : State) (k : Tracker) (fence : Bool) : State :=
  let k := { k with order := s.noc.order, fence }
  let id := s.freeId k.entry
  let s := { s with noc := { s.noc with order := s.noc.order + 1 } }
  if s.mustWait k then s.setTracker id { k with phase := .fenced }
  else s.translate s.entryFuel id k

end Sys2Proof.Machine
end

