-- ==== Sys2Proof/Machine/Regulation.lean ====
section
/-! DEFINITION. Slot tables, their commit and feasibility check, the serving and lending of slots, and the
queue-level feedback (R188–R205). A table is named by its selector (R205): kind in [15:12]. -/

namespace Sys2Proof.Machine

/-! ## Tables (R190–R192, R198, R205) -/

def selHa (h : Nat) : Nat := h
def selLink (k : Nat) : Nat := 0x1000 + k
def selTile (t : Nat) : Nat := 0x2000 + t
def selSitePort (n : Nat) : Nat := 0x3000 + n
def selStackPort (n : Nat) : Nat := 0x4000 + n
def selAtt (n : Nat) : Nat := 0x5000 + n

/-- Kind of a table. -/
def selKind (sel : Nat) : Nat := sel / 4096
/-- Number of a table within its kind. -/
def selNum (sel : Nat) : Nat := sel % 4096

/-- Every table of the hub (R205). -/
def allTables : List Nat :=
  (List.range 8).map selHa ++ (List.range 8).map selLink ++ (List.range 2304).map selTile
    ++ (List.range 96).map selSitePort ++ (List.range 96).map selStackPort ++ (List.range 12).map selAtt

/-- A selector code in use. -/
def selValid (sel : Nat) : Bool :=
  match selKind sel with
  | 0 => decide (selNum sel < 8)
  | 1 => decide (selNum sel < 8)
  | 2 => decide (selNum sel < 2304)
  | 3 => decide (selNum sel < 96)
  | 4 => decide (selNum sel < 96)
  | 5 => decide (selNum sel < 12)
  | _ => false

/-- An injection table. -/
def isInjector (sel : Nat) : Bool := decide (2 ≤ selKind sel)

/-- DEST of an entry toward any destination (R191). -/
def destAny : Nat := 3 * 4096 + 0xFFF

/-- The entry that a slot has at READY (R198). -/
def slotReset (sel slot : Nat) : Nat :=
  if slot < 8 ∧ selKind sel = 0 then 2 * 2 ^ 30
  else if slot < 8 ∧ selKind sel = 4 then 2 * 2 ^ 30 + 15 * 2 ^ 21 + destAny * 2 ^ 7
  else 0

/-- A table entry (R190). -/
structure SlotEntry where
  kind : Nat
  ptn : Nat
  net : Nat
  dest : Nat
  low : Nat
  deriving DecidableEq, Repr

def slotEntryOf (v : Nat) : SlotEntry :=
  { kind := field v 31 30, ptn := field v 29 25, net := field v 24 21, dest := field v 20 7, low := field v 6 0 }

/-- The egress table of a port is served like any other (R368): kind 6. -/
def selEgress (e : Nat) : Nat := 0x6000 + e

/-- The active word of a slot. -/
def State.slotWord (s : State) (sel slot : Nat) : Nat :=
  if selKind sel = 6 then s.rdField .soxEgressTable (32 * slot + 31) (32 * slot) 0 (selNum sel)
  else s.qos.active.get (128 * sel + slot) (slotReset sel slot)

/-- The staged word of a slot: the active one where nothing else is staged (R195). -/
def State.stagedWord (s : State) (sel slot : Nat) : Nat := s.qos.staged.get (128 * sel + slot) (s.slotWord sel slot)

/-- The 512 bytes of a table, entry k in bytes 4k to 4k + 3, as a number. -/
def tableBytes (f : Nat → Nat) : Nat := (List.range 128).foldl (fun v k => v + f k % 2 ^ 32 * 2 ^ (32 * k)) 0

/-- Who owns a slot now: a partition that is not formed owns none (R197). -/
inductive SlotOwner where
  | free
  | ptn (p : Nat)
  | hub
  deriving DecidableEq, Repr

def State.slotOwner (s : State) (sel slot : Nat) : SlotOwner :=
  let e := slotEntryOf (s.slotWord sel slot)
  if e.kind = 1 then (if s.formed e.ptn then .ptn e.ptn else .free)
  else if e.kind = 2 then .hub else .free

/-- A partition runs in sealed timing mode (R63). -/
def State.sealedMode (s : State) (p : Nat) : Bool := s.rd .beatTimingMode 0 p == 0

/-- Slots that a partition's entries hold in a table. -/
def State.slotsOwned (s : State) (sel p : Nat) : Nat :=
  ((List.range 128).filter (fun k =>
    let e := slotEntryOf (s.slotWord sel k)
    e.kind == 1 && e.ptn == p)).length

/-- HUB slots of a table. -/
def State.hubSlots (s : State) (sel : Nat) : Nat :=
  ((List.range 128).filter (fun k => (slotEntryOf (s.slotWord sel k)).kind == 2)).length

/-- QOS_PTN_SHARE (R205): slots at each home agent and each site. -/
def State.ptnShare (s : State) (p : Nat) : Nat :=
  (List.range 8).foldl (fun v h =>
    v + s.slotsOwned (selHa h) p * 2 ^ (8 * h) + s.slotsOwned (selLink h) p * 2 ^ (64 + 8 * h)) 0

/-! ## Tracker entitlements (R200, R218) -/

/-- Entries that a partition holds at a home agent; none: the hub's own. -/
def State.heldBy (s : State) (h : Nat) (p : Option Nat) : Nat :=
  (s.held.filter (fun e => e.1 == h && e.2.2 == p)).length

/-- Occupancy of a home agent. -/
def State.occupancy (s : State) (h : Nat) : Nat := (s.held.filter (fun e => e.1 == h)).length

/-- Entitlement of tracker entries (R200). -/
def State.entitlement (s : State) (h p : Nat) : Nat := max 64 (8192 * s.slotsOwned (selHa h) p / 128)

def State.hubEntitlement (s : State) (h : Nat) : Nat := max 64 (8192 * s.hubSlots (selHa h) / 128)

/-- Entries that the sealed-mode partitions reserve at a home agent. -/
def State.reservedEntries (s : State) (h : Nat) : Nat :=
  ((List.range 32).filter (fun p => s.formed p && s.sealedMode p)).foldl (fun n p => n + s.entitlement h p) 0

/-- How many more entries a partition may take at a home agent (R200). -/
def State.room (s : State) (h : Nat) (p : Option Nat) : Nat :=
  let sharedRoom := 8192 - s.reservedEntries h
    - (s.held.filter (fun e => e.1 == h && !((e.2.2.map s.sealedMode).getD false))).length
  match p with
  | some p => if s.sealedMode p then s.entitlement h p - s.heldBy h (some p) else sharedRoom
  | none => sharedRoom

/-! ## Serving a slot (R199, R203, R219, R228) -/

/-- A thermal or fault reaction keeps a home agent's slot from being served (R228, R229, R230), or the fabric duty an
injector's (R605). -/
def State.slotBlocked (s : State) (sel : Nat) : Bool :=
  (isInjector sel && selKind sel != 6 && decide (s.beat.total % 8 < s.rd .pwrFabricDuty)) ||
  selKind sel == 0 && (decide (s.beat.total % 4 < s.rd .hbmThrottleLevel 0 (selNum sel)) || !s.stackUp (selNum sel))

/-- The class in which a request is served: a home agent serves a write that carries LAT0 or LAT1 as STD (R189). -/
def State.clsAt (s : State) (c : Cand) : Nat :=
  if selKind c.res = 0 ∧ c.cls ≤ 1 ∧ s.noc.ingress.any (fun q => q.2.any (fun r => r.id == c.id && !r.data.isEmpty)) then 2 else c.cls

/-- The rank of a request within its partition (R199): LAT0, then requests that waited QOS_AGE rounds, then LAT1, STD,
BULK, BG. At a port's egress: SYS first, then by class; the hub's own packets rank by kind, which HOME gives: 0 PTP, 1 CTRL,
2 HEARTBEAT, 3 JOURNAL, 4 MGMT, 5 FAULT (R368). -/
def State.prio (s : State) (c : Cand) : Nat :=
  if selKind c.res = 6 then (if c.ptn.isNone then c.home else if c.cls = 7 then 0 else c.cls + 1)
  else if s.clsAt c = 0 then 0 else if (s.qos.aged.find c.id).isSome then 1 else s.clsAt c + 1

/-- Requests in the order of R199, arrival order within a rank. Class SYS is served here only at a port's egress. -/
def State.inOrder (s : State) (cs : List Cand) : List Cand :=
  (List.range 6).flatMap (fun k => cs.filter (fun c => (decide (c.cls < 5) || selKind c.res == 6) && s.prio c == k))

/-- Feedback holds a request at its injector (R202). -/
def State.heldBack (s : State) (c : Cand) : Bool :=
  let w := s.qos.holds.get (8 * c.res + c.home) 0
  let level := field w 35 34
  let hold := match c.ptn with
    | some p => w.testBit p
    | none => w.testBit 33
  isInjector c.res && hold && ((c.cls == 3 && decide (1 ≤ level) && c.ptn.isSome) || (c.cls == 4 && level == 2))

/-- Requests that may be served at a resource: those feedback does not hold and, at a home agent,
those for which a tracker entry is free (R200, R202). -/
def State.servable (s : State) (sel : Nat) (p : Option Nat) (cs : List Cand) : List Cand :=
  let l := s.inOrder (cs.filter (fun c => c.res == sel && c.ptn == p && !s.heldBack c))
  if selKind sel = 0 then l.take (s.room (selNum sel) p) else l

/-- The step of the lending order in which a request ranks (R203); an answer or a retry ranks first. -/
def State.lendStep (s : State) (sel : Nat) (c : Cand) : Nat :=
  match c.ptn with
  | none => 4
  | some p =>
    if c.ans then 1
    else if s.clsAt c ≤ 1 then (if s.qos.latBorrows.get (64 * sel + p) 0 < s.slotsOwned sel p then 1 else 2)
    else if c.cls ≤ 2 then 2 else if c.cls = 3 then 3 else 5

/-- Distance of a candidate from the last borrower in the round robin: 32 stands for the hub. -/
def State.turn (s : State) (sel : Nat) (p : Option Nat) : Nat :=
  (p.getD 32 + 33 + 32 - s.qos.lastBorrower.get sel 32) % 33

/-- The candidates for a slot that is lent: shared-mode partitions and the hub's BG work, at a home agent while a tracker
entry is free for them. -/
def State.borrowers (s : State) (sel : Nat) (cs : List Cand) : List Cand :=
  cs.filter (fun c => c.res == sel && decide (c.cls < 5) && !s.heldBack c && (selKind sel != 0 || decide (0 < s.room (selNum sel) c.ptn))
    && (match c.ptn with
    | some p => s.formed p && !s.sealedMode p
    | none => true))

/-- The borrower of a lent slot: the lowest step, then round robin (R203). -/
def State.chooseBorrower (s : State) (sel : Nat) (cs : List Cand) : Option Cand :=
  (s.borrowers sel cs).foldl (fun best c =>
    match best with
    | none => some c
    | some b =>
      if 64 * s.lendStep sel c + s.turn sel c.ptn < 64 * s.lendStep sel b + s.turn sel b.ptn then some c else best) none

/-- Requests leave their ingress queues and take tracker entries (R218). -/
def State.takeRequests (s : State) (h : Nat) (cs : List Cand) : State :=
  { s with
    noc := { s.noc with ingress := s.noc.ingress.mapVal (fun _ q => q.filter (fun r => !(cs.any (fun c => c.id == r.id)))) }
    held := s.held ++ cs.map (fun c => (h, c.id, c.ptn)) }

/-- Requests of one owner served in a slot. -/
def State.serveSlot (s : State) (sel slot : Nat) (p : Option Nat) (cs : List Cand) : State :=
  let l := s.servable sel p cs
  if l.isEmpty then s
  else
    let t := s.emit (.slotServed sel slot p (l.map (·.id)))
    let t := { t with qos := { t.qos with aged := l.foldl (fun m c => AMap.erase m c.id) t.qos.aged } }
    if selKind sel = 0 then t.takeRequests (selNum sel) l else t

/-- A slot lent (R203). -/
def State.lend (s : State) (sel slot : Nat) (cs : List Cand) : State :=
  match s.chooseBorrower sel cs with
  | none => s
  | some c =>
    let t := s.serveSlot sel slot c.ptn cs
    let t := { t with qos := { t.qos with lastBorrower := t.qos.lastBorrower.set sel (c.ptn.getD 32) } }
    match c.ptn with
    | none => t
    | some p =>
      let t := t.bump .qosPtnBorrowed 0 p
      if c.cls ≤ 1 ∧ ¬ c.ans ∧ s.lendStep sel c = 1 then
        { t with qos := { t.qos with latBorrows := t.qos.latBorrows.set (64 * sel + p) (t.qos.latBorrows.get (64 * sel + p) 0 + 1) } }
      else t

/-- A slot begins (R199, R203, R228): it is blocked and lost to its owner, serves its owner, is lent,
or stays idle. -/
def State.slotBegin (s : State) (sel slot : Nat) (cs : List Cand) : State :=
  let owner := s.slotOwner sel slot
  if s.slotBlocked sel then
    match owner with
    | .ptn p => s.loseSlots p 1
    | _ => s
  else
    match owner with
    | .ptn p =>
      if ¬ (s.servable sel (some p) cs).isEmpty then s.serveSlot sel slot (some p) cs
      else if s.sealedMode p then s
      else s.lend sel slot cs
    | .hub =>
      if ¬ (s.servable sel none cs).isEmpty then s.serveSlot sel slot none cs else s.lend sel slot cs
    | .free => s.lend sel slot cs

/-! ## The SYS window (R193) -/

/-- SYS requests of a resource in round-robin order of partition, after the partition served last. -/
def State.sysOrder (s : State) (sel : Nat) (cs : List Cand) : List Cand :=
  let last := s.qos.sysLast.get sel 32
  (List.range 33).flatMap (fun i =>
    cs.filter (fun c => c.res == sel && c.cls == 7 && c.ptn.getD 32 == (last + 1 + i) % 33))

/-- At most one SYS request of each partition in one turn of the round robin, at most four in all. -/
def firstOfEach (cs : List Cand) : List Cand :=
  cs.foldl (fun acc c => if acc.any (fun a => a.ptn == c.ptn) then acc else acc ++ [c]) []

/-- The SYS requests a window serves: four at a home agent, all of them elsewhere. -/
def State.sysServed (s : State) (sel : Nat) (cs : List Cand) : List Cand :=
  let l := s.sysOrder sel cs
  if selKind sel = 0 then
    let first := firstOfEach l
    (first ++ l.filter (fun c => !first.contains c)).take 4
  else l

def State.sysAt (s : State) (cs : List Cand) (sel : Nat) : State :=
  let l := s.sysServed sel cs
  match l.getLast? with
  | none => s
  | some c =>
    let t := s.emit (.sysServed sel (l.map (·.id)))
    let t := { t with qos := { t.qos with sysLast := t.qos.sysLast.set sel (c.ptn.getD 32) } }
    if selKind sel = 0 then t.takeRequests (selNum sel) l else t

/-- The resources that a list of requests names, each once. -/
def resourcesOf (cs : List Cand) : List Nat := (cs.map (·.res)).eraseDups

/-- A round of a retrain (R283): each partition loses the share of its link slots that the group's entries of the
distribution table make of all entries. Shares are kept in units of one entry. -/
def State.retrainShares (s : State) (k : Nat) : State :=
  let x := s.site k
  let st := s.rd .uciLinkState k
  let used := s.rd .uciModules k
  let n := (x.groups.zipIdx.filter (fun (g : GroupState × Nat) => g.1 == .training)).foldl
    (fun n (g : GroupState × Nat) => n + popCount (used / 16 ^ g.2 % 16) 4) 0
  let m : AMap Nat := (List.range 32).foldl (fun (m : AMap Nat) p => AMap.put m p (m.get p 0 + n * s.slotsOwned (selLink k) p) 0) x.lostShares
  if n = 0 ∨ ¬ (st = 2 ∨ st = 3) then s else s.setSite k { x with lostShares := m }

/-- The SYS window ends the round: the count of rounds advances (R41, R224). -/
def State.endRound (s : State) : State :=
  let s := s.each (List.range 8) State.retrainShares
  { s with
    beat := { s.beat with round := s.beat.round + 1, total := s.beat.total + 1 }
    qos := { s.qos with latBorrows := [] } }

/-- Sites that receive beat markers: HTL, their link up or degraded; after a FATAL-HUB only idle flits are sent (R57, R555). -/
def State.markerSites (s : State) : List Nat :=
  (List.range 8).filter (fun k => !s.owl.fatalHub && (s.rd .uciLinkState k == 2 || s.rd .uciLinkState k == 3) && s.rd .uciProtocol k == 1)

/-- The beat marker takes the first flit of the window in the first round of a beat (R57, R193). -/
def State.sendMarkers (s : State) : State :=
  if s.beat.round = 0 then s.emitAll (s.markerSites.map (fun k => .beatMarker k s.beat.number)) else s

def State.sysWindow (s : State) (cs : List Cand) : State := (s.sendMarkers.each (resourcesOf cs) (fun t r => t.sysAt cs r)).endRound

/-! ## Feedback (R201, R202) -/

/-- LEVEL of an occupancy, held up by the hysteresis of the level before (R201, R202). -/
def levelOf (occ bulk bg hyst before : Nat) : Nat :=
  let raw := if bg ≤ occ then 2 else if bulk ≤ occ then 1 else 0
  if before = 2 ∧ bg - hyst ≤ occ then 2
  else if 1 ≤ before ∧ bulk - hyst ≤ occ then max raw 1
  else raw

/-- Shared-mode partitions that hold more than their entitlement at a home agent. -/
def State.holdBits (s : State) (h : Nat) : Nat :=
  (List.range 32).foldl (fun v p =>
    if s.formed p ∧ ¬ s.sealedMode p ∧ s.entitlement h p < s.heldBy h (some p) then v + 2 ^ p else v) 0

/-- The level word of a home agent (R201). -/
def State.levelWord (s : State) (h : Nat) : Nat :=
  let occ := s.occupancy h
  let level := levelOf occ (s.rd .qosThrBulk) (s.rd .qosThrBg) (s.rd .qosHyst) (field (s.qos.levels.get h 0) 35 34)
  level * 2 ^ 34 + (if s.hubEntitlement h < s.heldBy h none then 2 ^ 33 else 0) + s.holdBits h

/-- A home agent's sample. A partition held at any home agent counts once in a publication period, which a home agent that
samples again begins (R201, R205). -/
def State.levelSample (s : State) (h : Nat) : State :=
  let w := s.levelWord h
  let occ := s.occupancy h
  let t := s.wr .qosHaLevel occ 0 h
  let t := t.wr .qosHaLevelMax (max occ (s.rd .qosHaLevelMax 0 h)) 0 h
  let again := s.qos.sampled.contains h
  let counted := if again then [] else s.qos.heldNow
  let now := if field w 35 34 = 0 then [] else (bitsOf w 32).filter (fun p => !counted.contains p)
  let t := { t with qos := { t.qos with
      levels := t.qos.levels.put h w 0
      sampled := if again then [h] else h :: s.qos.sampled, heldNow := now ++ counted } }
  (t.each now (fun t p => t.bump .qosPtnHeld 0 p)).emit (.levelWord h w)

/-! ## The feasibility check (R196) -/

/-- Partitions bound to a site, as a bit mask (R294). -/
def State.boundMask (s : State) (k : Nat) : Nat := s.rd .uciBind k

/-- A destination code that R191 lists. -/
def destValid (d : Nat) : Bool :=
  let n := d % 4096
  match d / 4096 with
  | 0 => decide (n < 96)
  | 1 => decide (n < 96)
  | 2 => decide (n < 64)
  | _ => decide (n < 12) || n == 0xFFF

/-- Condition 1: no reserved value, and fields zero where R190 requires it. -/
def entryWellFormed (sel : Nat) (e : SlotEntry) : Bool :=
  e.kind != 3 && e.low == 0 && (e.kind == 1 || e.ptn == 0)
    && (if isInjector sel then e.kind == 0 || destValid e.dest else e.net == 0 && e.dest == 0)

/-- Condition 2: who may be named in a table. -/
def State.entryAllowed (s : State) (sel : Nat) (e : SlotEntry) : Bool :=
  match selKind sel with
  | 1 => e.kind != 1 || (s.boundMask (selNum sel)).testBit e.ptn
  | 2 => e.kind == 0 || (e.kind == 1 && s.tileOwner (selNum sel) == some e.ptn)
  | 3 => e.kind != 1 || (s.boundMask (selNum sel / 12)).testBit e.ptn
  | _ => true

/-- Staged entries of a table. -/
def State.stagedTable (s : State) (sel : Nat) : List SlotEntry :=
  (List.range 128).map (fun k => slotEntryOf (s.stagedWord sel k))

/-- Length of the run of one owner that holds slot `k` of a table. -/
def runLength (t : List SlotEntry) (k : Nat) : Nat :=
  match t[k]? with
  | none => 0
  | some e =>
    let same := fun (x : SlotEntry) => x.kind == e.kind && x.ptn == e.ptn
    ((t.drop k).takeWhile same).length + ((t.take k).reverse.takeWhile same).length

/-- Condition 3: the runs of sealed partitions at home agents hold at least 8 slots (R194). -/
def State.runOk (s : State) (sel : Nat) (t : List SlotEntry) (k : Nat) (e : SlotEntry) : Bool :=
  selKind sel != 0 || e.kind != 1 || !s.sealedMode e.ptn || decide (8 ≤ runLength t k)

/-- Condition 4: no sealed partition's entry carries DEST ANY. -/
def State.anyOk (s : State) (sel : Nat) (e : SlotEntry) : Bool :=
  !isInjector sel || e.kind != 1 || !s.sealedMode e.ptn || e.dest != destAny

/-- A scheduled entry: owned by a partition or the hub, toward a named destination (R171). -/
def SlotEntry.scheduled (e : SlotEntry) : Bool := (e.kind == 1 || e.kind == 2) && e.dest != destAny && e.net != 0

/-- The DEST code by which a return entry names an injector (R191). -/
def returnDest (sel : Nat) : Nat :=
  match selKind sel with
  | 2 => 2 * 4096 + plotOf (selNum sel)
  | 3 => 1 * 4096 + selNum sel
  | 4 => selNum sel
  | _ => 3 * 4096 + selNum sel

/-- Condition 5: the return-path rule. -/
def State.returnOk (s : State) (sel : Nat) (e : SlotEntry) : Bool :=
  !isInjector sel || !e.scheduled || e.dest / 4096 != 0 || !e.net.testBit 3
    || (s.stagedTable (selStackPort (e.dest % 4096))).any (fun x =>
        x.kind == e.kind && x.ptn == e.ptn && x.dest == returnDest sel && x.net.testBit 1 && x.net.testBit 0)

/-- Router of an attached station (R174, R191). -/
def attRouter (n : Nat) : Nat × Nat :=
  match n with
  | 0 => (11, 11) | 1 => (12, 12) | 2 => (35, 11) | 3 => (36, 12) | 4 => (11, 35) | 5 => (12, 36)
  | 6 => (35, 35) | 7 => (36, 36) | 8 => (23, 23) | 9 => (24, 23) | 10 => (23, 24) | _ => (24, 24)

/-- Router and port of port `n` (12k + p) of the sites (R174): 2 EAST, 4 WEST. -/
def sitePortAt (n : Nat) : Nat × Nat × Nat := if n < 48 then (0, n, 4) else (47, n - 48, 2)
/-- Router and port of port `n` (12s + p) of the stacks (R174): 1 NORTH, 3 SOUTH. -/
def stackPortAt (n : Nat) : Nat × Nat × Nat := if n < 48 then (n, 0, 1) else (n - 48, 47, 3)

/-- Router of an injector. -/
def injectorAt (sel : Nat) : Nat × Nat :=
  match selKind sel with
  | 2 => (tileX (selNum sel), tileY (selNum sel))
  | 3 => ((sitePortAt (selNum sel)).1, (sitePortAt (selNum sel)).2.1)
  | 4 => ((stackPortAt (selNum sel)).1, (stackPortAt (selNum sel)).2.1)
  | _ => attRouter (selNum sel)

/-- Endpoints that a DEST covers, as router column, row and port (R191). -/
def destEnds (d : Nat) : List (Nat × Nat × Nat) :=
  let n := d % 4096
  match d / 4096 with
  | 0 => [stackPortAt n]
  | 1 => [sitePortAt n]
  | 2 => (plotTiles n).map (fun t => (tileX t, tileY t, 0))
  | _ => [((attRouter n).1, (attRouter n).2, 5)]

/-- The router outputs of a path, X first and then Y (R169): router, output port, and hops before it. -/
def pathX (y : Nat) : Nat → Nat → Nat → Nat → List (Nat × Nat × Nat × Nat)
  | 0, _, _, _ => []
  | n + 1, x, dx, k =>
    if x < dx then (x, y, 2, k) :: pathX y n (x + 1) dx (k + 1)
    else if dx < x then (x, y, 4, k) :: pathX y n (x - 1) dx (k + 1)
    else []

def pathY (x : Nat) : Nat → Nat → Nat → Nat → List (Nat × Nat × Nat × Nat)
  | 0, _, _, _ => []
  | n + 1, y, dy, k =>
    if y < dy then (x, y, 3, k) :: pathY x n (y + 1) dy (k + 1)
    else if dy < y then (x, y, 1, k) :: pathY x n (y - 1) dy (k + 1)
    else []

def dist (a b : Nat) : Nat := (a - b) + (b - a)

def pathOf (x y dx dy port : Nat) : List (Nat × Nat × Nat × Nat) :=
  pathX y 48 x dx 0 ++ pathY dx 48 y dy (dist x dx) ++ [(dx, dy, port, dist x dx + dist y dy)]

/-- A claim of a scheduled entry on a router output: network, router, output, first cycle in the round,
and the entry that makes it. -/
structure Claim where
  net : Nat
  out : Nat
  cycle : Nat
  src : Nat
  deriving DecidableEq, Repr

def claimsOf (sel slot : Nat) (e : SlotEntry) : List Claim :=
  if ¬ e.scheduled then []
  else
    (destEnds e.dest).flatMap (fun d =>
      (pathOf (injectorAt sel).1 (injectorAt sel).2 d.1 d.2.1 d.2.2).flatMap (fun h =>
        (bitsOf e.net 4).map (fun n =>
          { net := n, out := (48 * h.2.1 + h.1) * 8 + h.2.2.1, cycle := (8 * slot + h.2.2.2) % Config.roundFclk
            src := 128 * sel + slot })))

/-- Two claims meet: one output of one network in overlapping cycles (each lasts 8 cycles of the round). -/
def Claim.meets (a b : Claim) : Bool :=
  a.net == b.net && a.out == b.out && a.src != b.src
    && (decide ((a.cycle + Config.roundFclk - b.cycle) % Config.roundFclk < 8)
      || decide ((b.cycle + Config.roundFclk - a.cycle) % Config.roundFclk < 8))

/-- Every claim of the staged injection tables. -/
def State.allClaims (s : State) : List Claim :=
  (allTables.filter isInjector).flatMap (fun sel =>
    (List.range 128).flatMap (fun k => claimsOf sel k (slotEntryOf (s.stagedWord sel k))))

/-- Condition 6: no two scheduled flits meet. -/
def State.pathsOk (s : State) (all : List Claim) (sel slot : Nat) : Bool :=
  !isInjector sel || (claimsOf sel slot (slotEntryOf (s.stagedWord sel slot))).all (fun c => !all.any c.meets)

/-- The selector of the injector at an endpoint. -/
def portSelOf (d : Nat × Nat × Nat) : Nat :=
  match d.2.2 with
  | 0 => selTile (tileAt d.1 d.2.1)
  | 1 => selStackPort d.1
  | 3 => selStackPort (48 + d.1)
  | 4 => selSitePort d.2.1
  | 2 => selSitePort (48 + d.2.1)
  | _ => selAtt (((List.range 12).find? (fun n => attRouter n == (d.1, d.2.1))).getD 0)

/-- Scheduled REQ slots of partitions, as the port at which each arrives and its partition (R176). -/
def State.allArrivals (s : State) : List (Nat × Nat) :=
  (allTables.filter isInjector).flatMap (fun sel =>
    (List.range 128).flatMap (fun k =>
      let e := slotEntryOf (s.stagedWord sel k)
      if e.scheduled && e.kind == 1 && e.net.testBit 3 then ((destEnds e.dest).map portSelOf).eraseDups.map (fun d => (d, e.ptn)) else []))

/-- Condition 7: at least as many RSP slots at a port as REQ arrivals there, for every partition. -/
def rspOk (arr : List (Nat × Nat)) (t : List SlotEntry) (sel : Nat) : Bool :=
  !isInjector sel || arr.all (fun a => a.1 != sel ||
    decide ((arr.filter (· == a)).length ≤ (t.filter (fun e => e.kind == 1 && e.ptn == a.2 && e.net.testBit 1)).length))

/-- Condition 8: a run of 8 HUB slots at each home agent, 8 HUB entries at each stack port. -/
def State.hubOk (s : State) (sel : Nat) : Bool :=
  let t := s.stagedTable sel
  match selKind sel with
  | 0 => (List.range 128).any (fun k =>
      ((t[k]?).map (fun e => e.kind == 2)).getD false && decide (8 ≤ runLength t k))
  | 4 => decide (8 ≤ (t.filter (fun e => e.kind == 2)).length)
  | _ => true

/-- Granules of a stack that a partition owns. -/
def State.ownsAt (s : State) (p h : Nat) : Bool :=
  s.jay.hgt.any (fun e => e.1 / 65536 == h && e.2.owner == p
    && (e.2.state == .pool || e.2.state == .mapped || e.2.state == .locked))

/-- Condition 9: a sealed partition owns slots at the home agent of each stack that holds its granules. -/
def State.grantOk (s : State) (sel p : Nat) : Bool :=
  selKind sel != 0 || !s.sealedMode p || !s.ownsAt p (selNum sel)
    || (s.stagedTable sel).any (fun e => e.kind == 1 && e.ptn == p)

/-- Partitions that some staged table names. -/
def State.namedPtns (s : State) : List Nat :=
  let l := allTables.flatMap (fun sel => ((s.stagedTable sel).filter (fun e => e.kind == 1)).map (fun e => e.ptn))
  (List.range 32).filter l.contains

/-- The first condition that an entry `e` at a slot of a table `t` fails, or 0. -/
def State.entryFault (s : State) (all : List Claim) (t : List SlotEntry) (sel slot : Nat) (e : SlotEntry) : Nat :=
  if ¬ entryWellFormed sel e then 1
  else if ¬ s.entryAllowed sel e then 2
  else if ¬ s.runOk sel t slot e then 3
  else if ¬ s.anyOk sel e then 4
  else if ¬ s.returnOk sel e then 5
  else if ¬ s.pathsOk all sel slot then 6
  else 0

/-- The first failure of a table: entry and condition. A condition on a whole table names entry 0. -/
def State.tableFault (s : State) (all : List Claim) (arr : List (Nat × Nat)) (named : List Nat) (sel : Nat) : Option (Nat × Nat) :=
  let t := s.stagedTable sel
  match t.zipIdx.find? (fun x => s.entryFault all t sel x.2 x.1 != 0) with
  | some x => some (x.2, s.entryFault all t sel x.2 x.1)
  | none =>
    if ¬ rspOk arr t sel then some (0, 7)
    else if ¬ s.hubOk sel then some (0, 8)
    else if ¬ named.all (fun p => s.grantOk sel p) then some (0, 9)
    else none

/-- The feasibility check of the staged set (R196): the first failing table, entry and condition. -/
def State.feasibility (s : State) : Option (Nat × Nat × Nat) :=
  let all := s.allClaims
  let arr := s.allArrivals
  let named := s.namedPtns
  (allTables.filterMap (fun sel => (s.tableFault all arr named sel).map (fun f => (sel, f.1, f.2)))).head?

/-! ## Commit (R195) -/

def commitIdle : Nat := 0
def commitChecking : Nat := 1
def commitPassed : Nat := 2
def commitApplied : Nat := 3
def commitFailed : Nat := 4

/-- QOS_COMMIT: 1 starts the check (R195); access rrbrn. -/
def State.qosCommit (s : State) (role : Role) (v : Nat) : Answer :=
  if role ≠ .operator then s.refuse stDenied
  else if v ≠ 1 then s.refuse stRange
  else if s.rd .qosCommitStatus = commitChecking ∨ s.rd .qosCommitStatus = commitPassed then s.refuse stBusy
  else (stPending, s.wr .qosCommitStatus commitChecking)

/-- The check ends (R195): FAILED with the fault, or PASSED with the staged set in the shadow copies. -/
def State.commitCheck (s : State) : State :=
  match s.feasibility with
  | some (sel, k, c) =>
    (s.wr .qosCommitStatus commitFailed).wr .qosCommitFault (sel * 2 ^ 24 + k * 2 ^ 16 + c * 2 ^ 8)
  | none =>
    let t := s.wr .qosCommitStatus commitPassed
    { t with qos := { t.qos with shadow := some t.qos.staged, ready := false } }

/-- The shadow copies become active at an edge whose cutoff fell after the pass (R195). -/
def State.applyTables (s : State) : State :=
  match s.qos.shadow with
  | some m =>
    if s.qos.ready then
      let t := { s with qos := { s.qos with
          active := m.foldl (fun (a : AMap Nat) (e : Nat × Nat) =>
            AMap.put a e.1 e.2 (slotReset (e.1 / 128) (e.1 % 128))) s.qos.active
          staged := [], shadow := none, ready := false } }
      (t.wr .qosCommitStatus commitApplied).wr .qosCommitBeat t.beat.number.toNat
    else s
  | none => s

/-! ## The commands -/

/-- The first cycle of a table slot (R199, R203). -/
def execSlotBegin (res slot : Nat) (cands : List Cand) (s : State) : Host.Outcome State Fault Refusal :=
  .next (s.slotBegin res slot cands)

/-- The SYS window of a round, which ends the round (R41, R193). -/
def execSysWindow (cands : List Cand) (s : State) : Host.Outcome State Fault Refusal := .next (s.sysWindow cands)

/-- A home agent samples its occupancy and publishes its level word (R201). -/
def execQosLevelSample (h : Nat) (s : State) : Host.Outcome State Fault Refusal := .next (s.levelSample h)

/-- The level word of home agent `h` reaches an injector, which acts on it from now on (R202). -/
def execQosLevelWord (inj h : Nat) (s : State) : Host.Outcome State Fault Refusal :=
  .next { s with qos := { s.qos with holds := s.qos.holds.put (8 * inj + h) (s.qos.levels.get h 0) 0 } }

/-- A request of a partition has waited QOS_AGE rounds since it became eligible (R199). -/
def execRequestAged (p id : Nat) (s : State) : Host.Outcome State Fault Refusal :=
  .next (if (s.qos.aged.find id).isSome then s
    else { s.bump .qosPtnAged 0 p with qos := { s.qos with aged := s.qos.aged.set id () } })

def execQosCommit (role : Role) (v : Nat) (s : State) : Host.Outcome State Fault Refusal :=
  .next (State.answered (s.qosCommit role v))

/-- The feasibility check of a commit ends (R195, R196). -/
def execQosCommitCheckDone (s : State) : Host.Outcome State Fault Refusal :=
  .next (if s.rd .qosCommitStatus = commitChecking then s.commitCheck else s)

end Sys2Proof.Machine
end

