-- ==== Sys2Proof/Machine/Jay.lean ====
section
/-! DEFINITION. Jay: granules and pools, lookups and miss service, granule invalidations, heat, software control
(R243–R258). -/

namespace Sys2Proof.Machine

/-! ## Granules of a stack (R210, R245) -/

/-- Granules of a stack that are available to partitions, retired ones among them. -/
def State.available (s : State) : Nat := 65536 - s.rd .hbmSpareGranules - s.rd .hbmHubReserve

/-- Listed granules of a stack with a property. -/
def State.granulesWhere (s : State) (h : Nat) (q : Hgt → Bool) : List Nat :=
  (s.jay.hgt.where (fun k e => k / 65536 == h && q e)).keys

/-- FREE granules of a stack (R245): the available ones less those that are listed as anything else. -/
def State.freeCount (s : State) (h : Nat) : Nat :=
  if s.populated (h * Config.stackBytes) then
    s.available - (s.jay.hgt.where (fun k _ => k / 65536 == h && decide (k % 65536 < s.available))).length
  else 0

/-- The lowest-numbered FREE granule of a stack. -/
def State.firstFree (s : State) (h : Nat) : Option Nat :=
  if s.freeCount h = 0 then none
  else some (s.jay.hgt.free (s.jay.hgt.length + 1) (h * 65536))

/-- The lowest-numbered spare granule of a stack. -/
def State.firstSpare (s : State) (h : Nat) : Option Nat :=
  if s.populated (h * Config.stackBytes) then
    ((List.range (s.rd .hbmSpareGranules)).map (fun i => h * 65536 + (65536 - s.rd .hbmSpareGranules) + i)).find?
      (fun g => (s.hgt g).state == .spare)
  else none

/-- Granules that formations have reserved at a stack and not yet written (R408). -/
def State.reservedAt (s : State) (h : Nat) : Nat :=
  (s.jay.reserved.where (fun k _ => k % 8 == h)).foldl (fun n e => n + e.2) 0

/-- POOL granules of a partition at a stack. -/
def State.poolAt (s : State) (p h : Nat) : List Nat := s.granulesWhere h (fun e => e.state == .pool && e.owner == p)

/-- A stack is being drained (R264). -/
def State.draining (s : State) (h : Nat) : Bool := (s.jay.drains.find h).isSome

/-- The newest key generation of a partition (R432, R454). -/
def State.newestKgen (s : State) (p : Nat) : Nat := s.rd .secMemKgen 0 p % 4

/-! ## Order of the stacks for a granule of the pool (R249) -/

/-- The site for which an entry point's requests count (R252). -/
def siteOf : Entry → Option Nat
  | .site k => some k
  | .tile t => some (tileSite t)
  | _ => none

/-- The stacks in the order of R249 for a requester's site; without a site only the last step is left. -/
def stackOrder (k : Option Nat) : List Nat :=
  match k with
  | some k => preferredStack k :: stackMate (preferredStack k) :: List.range 8
  | none => List.range 8

/-- A POOL granule for a mapping, neither source nor target of a migration: from the first stack of a list that holds one. -/
def State.takePool (s : State) (p : Nat) (hs : List Nat) : Option Nat :=
  (hs.filterMap (fun h => ((s.poolAt p h).filter (fun g => !s.jay.migs.any (fun m => m.src == g || m.dst == g))).head?)).head?

/-- The stacks in the order of R249, those that are being drained left out (R264). -/
def State.poolOrder (s : State) (k : Option Nat) : List Nat := (stackOrder k).filter (fun h => !s.draining h)

/-! ## Mapping -/

/-- A PPA granule mapped onto a POOL granule (R249, R257). -/
def State.mapGranule (s : State) (p g hg sfmt : Nat) : State :=
  let e := s.hgt hg
  (s.setDir p g { valid := true, owner := p, hgran := hg, sfmt, kgen := e.kgen
                  lastMove := s.beat.number.setWidth 16 }).setHgt hg { e with state := .mapped, rowrep := false }

/-- A cache entry of a directory entry (R247). -/
def DirEntry.xentry (e : DirEntry) (p g : Nat) : XEntry :=
  { ptn := p, gran := g, hgran := e.place, sfmt := e.sfmt, kgen := e.kgen, rowrep := e.rowrep }

/-- A slice's answer on its way. -/
def State.sliceAnswer (s : State) (e : Entry) (p g : Nat) (x : Option XEntry) : State :=
  { s.emit (.xlate e p g (x.map XEntry.hgran)) with jay := { s.jay with answers := s.jay.answers ++ [(e, p, g, x)] } }

/-- A refusal, counted (R248). -/
def State.sliceRefuse (s : State) (e : Entry) (p g : Nat) : State := (s.bump .jayXlateRefused 0 p).sliceAnswer e p g none

/-- A miss put on record under JAY_MISS_MODE HOST (R250). -/
def State.recordMiss (s : State) (e : Entry) (p g : Nat) : State :=
  let l := s.jay.misses.get p []
  if l.any (fun m => m.gran == g) then
    let l' := l.map (fun m => if m.gran = g then { m with waiting := m.waiting ++ [e] } else m)
    { s with jay := { s.jay with misses := s.jay.misses.set p l' } }
  else if 64 ≤ l.length then s.sliceRefuse e p g
  else
    let t : State := { s with jay := { s.jay with misses := s.jay.misses.set p (l ++ [{ gran := g, waiting := [e] }]) } }
    t.raiseVector p (s.rd .jayMissVector 0 p)

/-- A slice answers a lookup (R248–R250). -/
def State.sliceLookup (s : State) (e : Entry) (p g : Nat) (entryUE : Bool) : State :=
  if s.dlen p ≤ g then s.sliceRefuse e p g
  else if entryUE then (s.sliceRefuse e p g).ev Ev.jayDirUe (some p)
  else
    let d := s.dirEntry p g
    if d.valid then
      if d.mstate = .locked then { s with jay := { s.jay with lockWait := s.jay.lockWait ++ [(e, p, g)] } }
      else s.sliceAnswer e p g (some (d.xentry p g))
    else if s.rd .jayMissMode 0 p = 0 then
      match s.takePool p (s.poolOrder (siteOf e)) with
      | some hg =>
        let s := s.mapGranule p g hg 0
        s.sliceAnswer e p g (some ((s.dirEntry p g).xentry p g))
      | none => s.sliceRefuse e p g
    else s.recordMiss e p g

/-- Lookups that waited for the end of a lock are answered (R248). -/
def State.answerLockWait (s : State) (p g : Nat) : State :=
  let l := s.jay.lockWait.filter (fun w => w.2.1 == p && w.2.2 == g)
  let s := { s with jay := { s.jay with lockWait := s.jay.lockWait.filter (fun w => !(w.2.1 == p && w.2.2 == g)) } }
  s.each l (fun s w => s.sliceLookup w.1 p g false)

/-- The requests of an entry point that wait for a granule's translation, in their order. -/
def State.waitingFor (s : State) (e : Entry) (p g : Nat) : List Nat :=
  (sortBy (fun (x : Nat × Tracker) => x.2.order) ((s.trackersAt e).where (fun _ k =>
    k.phase == .xlate && s.route k.lab.ptn (k.ppa / Config.granule) k.op.writes == some (p, g)))).map (fun x => x.1)

/-- A refused translation at a site is counted (R308, R309). -/
def State.xlateRefused (s : State) (e : Entry) : State :=
  match e with
  | .site k => s.bump .htlRefused k hsXlate
  | _ => s

/-- A slice's answer reaches its entry point (R247, R248, R251). -/
def State.xlateAnswer (s : State) (e : Entry) (p g : Nat) : State :=
  match s.jay.answers.find? (fun a => a.1 == e && a.2.1 == p && a.2.2.1 == g) with
  | none => s
  | some a =>
    let s := { s with jay := { s.jay with answers := s.jay.answers.erase a } }
    match a.2.2.2 with
    | some x =>
      let s := s.cacheFill e x
      s.each (s.waitingFor e p g) (fun s id =>
        match s.noc.trackers.find id with
        | some k => s.translate s.entryFuel id k
        | none => s)
    | none => s.each (s.waitingFor e p g) (fun s id => (s.xlateRefused e).answerReq id hsXlate 0 [] 0)

/-- JAY_MISS_DEADLINE passes for a record (R250). -/
def State.missTimeout (s : State) (p g : Nat) : State :=
  let l := s.jay.misses.get p []
  match l.find? (fun m => m.gran == g) with
  | none => s
  | some m =>
    let s := { s with jay := { s.jay with misses := s.jay.misses.put p (l.filter (fun m => m.gran != g)) [] } }
    let s := s.each m.waiting (fun s e => s.each (s.waitingFor e p g) (fun s id =>
      match s.noc.trackers.find id with
      | some k => s.answerReq id hsOk 0 [] (if k.op.reads then allPoison (k.len / 32) else 0)
      | none => s))
    s.ev Ev.jayMissTimeout (some p)

/-- Lookups of a granule's miss record are answered (R250, R257). -/
def State.answerMiss (s : State) (p g : Nat) : State :=
  let l := s.jay.misses.get p []
  match l.find? (fun m => m.gran == g) with
  | none => s
  | some m =>
    let s := { s with jay := { s.jay with misses := s.jay.misses.put p (l.filter (fun m => m.gran != g)) [] } }
    s.each m.waiting (fun s e => s.sliceAnswer e p g (some ((s.dirEntry p g).xentry p g)))

/-! ## Granule invalidations (R251) -/

/-- Sites bound to a partition. -/
def State.sitesOf (s : State) (p : Nat) : List Nat := (List.range 8).filter (fun k => (s.rd .uciBind k).testBit p)

/-- The translation buffers: host station, scale-out stations, collective engines and the hub's controller ports. -/
def buffers : List Entry := .host :: .hub :: ((List.range 16).map .sox ++ (List.range 4).map .engine)

/-- Every receiver of a change in a partition's entry. -/
def State.receivers (s : State) (p : Nat) : List Entry :=
  (s.tilesOf p).map .tile ++ (s.sitesOf p).map .site ++ buffers

/-- A granule invalidation sent. -/
def State.invalidate (s : State) (p g : Nat) (dest : List Entry) (xlate rows : Bool) (code : Option Nat)
    (held : List Nat) (source : Option Nat) : State :=
  { s.emitAll (dest.map (fun e => .invalidate e p g xlate rows)) with
    jay := { s.jay with inval := s.jay.inval ++ [{ ptn := p, gran := g, xlate, rows, waiting := dest, code, held, source }] } }

/-- Row-cache blocks of a granule dropped from a tile. -/
def State.dropRows (s : State) (t p g : Nat) : State :=
  { s with tile := { s.tile with rows := s.tile.rows.where (fun k b =>
      !(k / 128 == t && b.ptn == p && b.block / 4096 == g)) } }

/-- A receiver acts on a granule invalidation (R251): it drops what the scope names, holds new requests to the
granule while old ones are in flight, and acknowledges. -/
def State.receiveInval (s : State) (e : Entry) (p g : Nat) : State :=
  match s.jay.inval.find? (fun i => i.ptn == p && i.gran == g && i.waiting.contains e) with
  | none => s
  | some i =>
    let s := if i.xlate then s.cacheDrop e p g else s
    let s : State := match e with
      | .tile t => if i.rows then s.dropRows t p g else s
      | _ => s
    let isHeld : Bool := match e with
      | .tile t => s.tileHeld t
      | _ => false
    if isHeld || s.drained e p g then s.emit (.invalAck e p g)
    else { s with jay := { s.jay with draining := s.jay.draining ++ [(e, p, g)] } }

/-! ## Heat (R252) -/

/-- A request ordered at a home agent counts for its site: SAMPLE, and an increment where its low bits become zero. -/
def State.sampleHeat (s : State) (hg : Nat) (r : HomeReq) : State :=
  match siteOf r.entry with
  | none => s
  | some k =>
    let e := s.hgt hg
    let v := e.sample + 1
    let s := s.setHgt hg { e with sample := v }
    if v.toNat % 2 ^ s.rd .jayHeatSampleLog2 ≠ 0 then s
    else
      let h := hg / 65536
      let buf := s.jay.heatBuf.get h []
      let entry := s.dbase e.owner + r.pgran
      if buf.any (fun x => x.entry == entry && x.site == k) then
        let buf' := buf.map (fun x => if x.entry = entry ∧ x.site = k then { x with count := x.count + 1 } else x)
        { s with jay := { s.jay with heatBuf := s.jay.heatBuf.set h buf' } }
      else if buf.length < 64 then
        { s with jay := { s.jay with heatBuf := s.jay.heatBuf.set h (buf ++ [{ entry, site := k, count := 1 }]) } }
      else s.bump .jayHeatDropped

/-- A heat counter raised, saturating at 15. -/
def addHeat (l : List Nat) (k n : Nat) : List Nat :=
  l.zipIdx.map (fun (x : Nat × Nat) => if x.2 = k then min 15 (x.1 + n) else x.1)

/-- The oldest entry of a home agent's buffer reaches its slice (R252). -/
def State.heatIncrement (s : State) (h : Nat) : State :=
  match s.jay.heatBuf.get h [] with
  | [] => s
  | x :: r =>
    let s := { s with jay := { s.jay with heatBuf := s.jay.heatBuf.put h r [] } }
    let d : DirEntry := s.jay.dir.get x.entry {}
    { s with jay := { s.jay with dir := s.jay.dir.put x.entry { d with heat := addHeat d.heat x.site x.count } {} } }

/-- A read of a granule with ROWREP counted (R266): a block that is not in the full table of 256 replaces the entry with the
lowest count. -/
def State.countRow (s : State) (hpa : Nat) : State :=
  if ¬ (s.hgt (granOf hpa)).rowrep then s
  else
    let h := stackOf hpa
    let b := hpa / 256
    let l := s.jay.rowHot.get h []
    let l' :=
      if l.any (fun e => e.1 == b) then l.map (fun e => if e.1 = b then (e.1, e.2 + 1) else e)
      else if l.length < 256 then l ++ [(b, 1)]
      else
        let low := l.foldl (fun (m : Nat × Nat) e => if e.2 < m.2 then e else m) (l.headD (0, 0))
        l.erase low ++ [(b, 1)]
    { s with jay := { s.jay with rowHot := s.jay.rowHot.set h l' } }

/-! ## Software control (R256, R257) -/

def jcDone : Nat := 0
def jcQueued : Nat := 1
def jcOutOfRange : Nat := 2
def jcNotMapped : Nat := 3
def jcAlreadyMapped : Nat := 4
def jcPoolEmpty : Nat := 5
def jcMode : Nat := 6
def jcQueueFull : Nat := 7
def jcNoTarget : Nat := 8

/-- JAY_CMD_RESULT of a command that returns: its code, and the count of commands taken. -/
def State.jayResult (s : State) (p code : Nat) : State :=
  let n := s.rdField .jayCmdResult 23 0 0 p
  let n' := if n + 1 < 2 ^ 24 then n + 1 else Config.counterEnd (Reg.key .jayCmdResult 0 p) % 2 ^ 24
  s.wr .jayCmdResult (code * 2 ^ 24 + n') 0 p

/-- Code alone, of an order that is dropped later (R257). -/
def State.jayCode (s : State) (p code : Nat) : State := s.wrField .jayCmdResult 31 24 code 0 p

/-- The granule is migrating. -/
def DirEntry.migrating (e : DirEntry) : Bool := e.mstate != .idle

/-- A command on a mapped granule (R257): its codes in order, then its effect. -/
def State.onMapped (s : State) (p g : Nat) (f : State → DirEntry → State) : State :=
  if s.dlen p ≤ g then s.jayResult p jcOutOfRange
  else if (s.dirEntry p g).valid then f s (s.dirEntry p g)
  else s.jayResult p jcNotMapped

/-- MAP. -/
def State.jayMap (s : State) (p g stack sfmt : Nat) : State :=
  if s.dlen p ≤ g then s.jayResult p jcOutOfRange
  else if (s.dirEntry p g).valid then s.jayResult p jcAlreadyMapped
  else
    let site := (((s.jay.misses.get p []).find? (fun m => m.gran == g)).bind (fun m => m.waiting.head?)).bind siteOf
    match s.takePool p (if stack < 8 then [stack] else s.poolOrder site) with
    | some hg => ((s.mapGranule p g hg sfmt).answerMiss p g).jayResult p jcDone
    | none => s.jayResult p jcPoolEmpty

/-- A granule of the partition taken out of its map: VALID cleared and the granule in the pool. -/
def State.unmapNow (s : State) (p g : Nat) (code : Option Nat) : State :=
  let d := s.dirEntry p g
  let e := s.hgt d.hgran
  ((s.setDir p g {}).setHgt d.hgran { e with state := .pool, rowrep := false }).invalidate p g (s.receivers p) true true code [] none

def State.setFmtNow (s : State) (p g sfmt : Nat) (code : Option Nat) : State :=
  (s.setDir p g { s.dirEntry p g with sfmt }).invalidate p g (s.receivers p) true false code [] none

def State.jayUnmap (s : State) (p g : Nat) : State :=
  s.onMapped p g (fun s d =>
    if d.migrating then { s.jayResult p jcQueued with jay := { s.jay with queued := s.jay.queued ++ [.unmap p g] } }
    else s.unmapNow p g (some jcDone))

def State.jaySetFmt (s : State) (p g sfmt : Nat) : State :=
  s.onMapped p g (fun s d =>
    if d.migrating then { s.jayResult p jcQueued with jay := { s.jay with queued := s.jay.queued ++ [.setFmt p g sfmt] } }
    else s.setFmtNow p g sfmt (some jcDone))

def State.jayPin (s : State) (p g : Nat) (value : Bool) : State :=
  s.onMapped p g (fun s d => (s.setDir p g { d with pin := value }).jayResult p jcDone)

def State.jayHint (s : State) (p g stack : Nat) : State :=
  s.onMapped p g (fun s d =>
    (s.setDir p g (if stack < 8 then { d with hintEn := true, hintStack := stack } else { d with hintEn := false })).jayResult p jcDone)

def State.jayRowrep (s : State) (p g : Nat) (value : Bool) : State :=
  s.onMapped p g (fun s d =>
    let e := s.hgt d.hgran
    ((s.setDir p g { d with rowrep := value }).setHgt d.hgran { e with rowrep := value }).invalidate p g (s.receivers p) true
      (!value) (some jcDone) [] none)

/-- JAY_MODE HOST. -/
def State.hostAssisted (s : State) (p : Nat) : Bool := s.rd .jayMode 0 p == 1

def State.jayMove (s : State) (p g stack : Nat) : State :=
  if s.dlen p ≤ g then s.jayResult p jcOutOfRange
  else if ¬ s.hostAssisted p then s.jayResult p jcMode
  else if ¬ (s.dirEntry p g).valid then s.jayResult p jcNotMapped
  else if 64 ≤ (s.jay.moves.filter (fun m => m.1 == p)).length then s.jayResult p jcQueueFull
  else { s.jayResult p jcQueued with jay := { s.jay with moves := s.jay.moves ++ [(p, g, stack)] } }

/-- ACK answers the current posting, and those before it. -/
def State.jayAck (s : State) (p g : Nat) : State :=
  if s.dlen p ≤ g then s.jayResult p jcOutOfRange
  else if ¬ s.hostAssisted p then s.jayResult p jcMode
  else
    match s.jay.posting.find p with
    | some x => { s.jayResult p jcDone with jay := { s.jay with posting := s.jay.posting.set p { x with beats := [] } } }
    | none => s.jayResult p jcDone

/-- JAY_HOST_DEADLINE passes without ACK (R258): one miss for the oldest posting that waits. -/
def State.jayHostMiss (s : State) (p : Nat) : State :=
  match s.jay.posting.find p with
  | some x =>
    match x.beats with
    | b :: r =>
      if s.beat.number.toNat < b.toNat + s.rd .jayHostDeadline then s
      else
        let t := s.ev Ev.jayHostMiss (some p)
        { t with jay := { t.jay with posting := s.jay.posting.set p { x with beats := r } } }
    | [] => s
  | none => s

/-! ## The commands -/

def execSliceLookup (e : Entry) (p g : Nat) (entryUE : Bool) (s : State) : Host.Outcome State Fault Refusal :=
  .next (s.sliceLookup e p g entryUE)

def execJayMissTimeout (p g : Nat) (s : State) : Host.Outcome State Fault Refusal := .next (s.missTimeout p g)

def execGranuleInvalidate (e : Entry) (p g : Nat) (s : State) : Host.Outcome State Fault Refusal := .next (s.receiveInval e p g)

def execHeatIncrement (h : Nat) (s : State) : Host.Outcome State Fault Refusal := .next (s.heatIncrement h)

def execJayCmdMap (p g stack sfmt : Nat) (s : State) : Host.Outcome State Fault Refusal := .next (s.jayMap p g stack sfmt)

def execJayCmdUnmap (p g : Nat) (s : State) : Host.Outcome State Fault Refusal := .next (s.jayUnmap p g)

def execJayCmdSetFmt (p g sfmt : Nat) (s : State) : Host.Outcome State Fault Refusal := .next (s.jaySetFmt p g sfmt)

def execJayCmdPin (p g : Nat) (value : Bool) (s : State) : Host.Outcome State Fault Refusal := .next (s.jayPin p g value)

def execJayCmdHint (p g stack : Nat) (s : State) : Host.Outcome State Fault Refusal := .next (s.jayHint p g stack)

def execJayCmdRowrep (p g : Nat) (value : Bool) (s : State) : Host.Outcome State Fault Refusal := .next (s.jayRowrep p g value)

def execJayCmdMove (p g stack : Nat) (s : State) : Host.Outcome State Fault Refusal := .next (s.jayMove p g stack)

def execJayCmdAck (p g : Nat) (s : State) : Host.Outcome State Fault Refusal := .next (s.jayAck p g)

def execJayHostMiss (p : Nat) (s : State) : Host.Outcome State Fault Refusal := .next (s.jayHostMiss p)

end Sys2Proof.Machine
end

