-- ==== Sys2Proof/Machine/Errors.lean ====
section
/-! DEFINITION. Errors that a read of a stack meets, and the rows that they make suspect (R211, R214, R231–R234). -/

namespace Sys2Proof.Machine

/-! ## Rows (R211, R232) -/

/-- Number of a row: ((64 × stack + pseudo-channel) × 64 + bank) × 16,384 + row. -/
def rowNo (stack pch bank row : Nat) : Nat := ((64 * stack + pch) * 64 + bank) * 16384 + row

/-- The row of an HPA. -/
def rowAt (hpa : Nat) : Nat := rowNo (stackOf hpa) (pchOf hpa) (bankOf hpa) (rowOf hpa)

def rowStack (k : Nat) : Nat := k / (64 * 64 * 16384)
def rowPch (k : Nat) : Nat := k / (64 * 16384) % 64
def rowBank (k : Nat) : Nat := k / 16384 % 64

/-- The granule to which a row belongs (R211). -/
def rowGran (k : Nat) : Nat := granOf (hpaOfCol (rowStack k) (rowPch k) (rowBank k) (k % 16384) 0)

/-- A repair resource is left in the row's bank. -/
def State.bankLeft (s : State) (k : Nat) : Bool := decide (s.hbm.used.get (k / 16384) 0 < s.hbm.perBank)

/-- A row became suspect: it is to be repaired once, else its granule retires (R233, R236). A row of a granule that is
being retired is left to the retirement (R238). -/
def State.suspectRow (s : State) (k : Nat) : State :=
  let hg := rowGran k
  let s : State := { s with hbm := { s.hbm with rows := s.hbm.rows.erase k } }
  if s.jay.retire.contains hg ∨ s.hbm.suspect.contains k ∨ (s.hgt hg).state = .offline then s
  else if (s.hbm.repaired.find k).isNone ∧ s.bankLeft k then { s with hbm := { s.hbm with suspect := s.hbm.suspect ++ [k] } }
  else { s with jay := { s.jay with retire := s.jay.retire ++ [hg] } }

/-- Beats that HBM_ROW_CE_WINDOW spans. -/
def State.ceWindow (s : State) : Nat := s.rd .hbmRowCeWindow / s.rd .beatPeriod

/-- Room in a home agent's tracker of 256 rows: a full one drops the row with the oldest first error that has no UE. -/
def State.trackRoom (s : State) (h : Nat) : State :=
  let mine := s.hbm.rows.where (fun k _ => rowStack k == h)
  if mine.length < 256 then s
  else
    let old := (mine.where (fun _ r => !r.ue)).foldl (fun (b : Option (Nat × Nat)) (e : Nat × RowTrack) =>
      match b with
      | none => some (e.2.first, e.1)
      | some x => if e.2.first < x.1 then some (e.2.first, e.1) else some x) none
    match old with
    | some x => ({ s with hbm := { s.hbm with rows := s.hbm.rows.erase x.2 } } : State).ev (Ev.hbmTrackOverflow h)
    | none => s.ev (Ev.hbmTrackOverflow h)

/-- An error in a row (R232). -/
def State.trackRow (s : State) (k : Nat) (ue : Bool) : State :=
  let s := if (s.hbm.rows.find k).isSome then s else s.trackRoom (rowStack k)
  let old : RowTrack := s.hbm.rows.get k { errs := [], ue := false, first := s.hbm.order }
  let recent := old.errs.filter (fun b => decide (s.beat.number.toNat ≤ b.toNat + s.ceWindow))
  let errs := if ue then recent else recent ++ [s.beat.number]
  let t : State := { s with hbm := { s.hbm with
    order := s.hbm.order + 1, rows := s.hbm.rows.set k { old with errs, ue := old.ue || ue } } }
  if ue ∨ s.rd .hbmRowCeLimit ≤ errs.length then t.suspectRow k else t

/-! ## Read data (R214, R231, R234) -/

/-- The partition that owns a granule. -/
def State.granOwner (s : State) (hg : Nat) : Option Nat :=
  let e := s.hgt hg
  match e.state with
  | .pool | .mapped | .locked | .forward => some e.owner
  | _ => none

/-- Detail of a memory event: the address. -/
def hpaDetail (hpa : Nat) : Nat := Config.detail [hpa]

/-- The sector of a read in which an error lies. -/
def errSector : ReadErr → Nat
  | .corrected i => i
  | .uncorrectable i => i
  | .macFail i => i

/-- One error of a read at `a` (R231), counted for a partition where the read was its own: the poison it gives. A unit that
is stored as poisoned raises no error (R216). -/
def State.readErr (s : State) (a : Nat) (own : Bool) (e : ReadErr) : State × List Nat :=
  let x := a + 32 * errSector e
  let size := s.unit x
  let u := x / size * size
  let p := if own then s.granOwner (granOf x) else none
  let count (r : Reg) (t : State) : State := match p with
    | some p => t.bump r 0 p
    | none => t
  if s.unitPoisoned size u then (s, [])
  else
    match e with
    | .corrected _ =>
      if size = 64 then (s, [])
      else (((count .hbmCeCount s).ev (Ev.hbmCe (stackOf x)) p (hpaDetail x)).trackRow (rowAt x) false, [])
    | .uncorrectable _ =>
      (((count .hbmUeCount s).ev (Ev.hbmUe (stackOf x)) p (hpaDetail x)).trackRow (rowAt x) true, [u])
    | .macFail _ =>
      if size = 64 ∧ own then ((count .secMacFails s).ev Ev.secMacFail p (hpaDetail x), [u]) else (s, [])

/-- The errors of a read, and the units that deliver poison. -/
def State.readErrs (s : State) (a : Nat) (own : Bool) (es : List ReadErr) : State × List Nat :=
  es.foldl (fun (r : State × List Nat) e => ((r.1.readErr a own e).1, r.2 ++ (r.1.readErr a own e).2)) (s, [])

end Sys2Proof.Machine
end

