-- ==== Sys2Proof/Machine/Coherence.lean ====
section
/-! DEFINITION. Home agents: the checks of a request, the snoop filter, transactions, snoops and their answers, recalls,
and the takedown of a coherent domain (R246, R268, R324–R348). -/

namespace Sys2Proof.Machine

/-! ## Lines, regions and slots (R329) -/

def lineOf (hpa : Nat) : Nat := hpa / 64
def regionOfLine (l : Nat) : Nat := l / 32
def haOfLine (l : Nat) : Nat := stackOf (l * 64)

/-- The set of a region: a[21:11] xor a[32:22]. -/
def regionSet (r : Nat) : Nat := field (r * 2048) 21 11 ^^^ field (r * 2048) 32 22

/-- Lines that the bytes `a` to `a + n - 1` touch, ascending. -/
def linesOf (a n : Nat) : List Nat :=
  if n = 0 then [] else (List.range ((a + n - 1) / 64 - a / 64 + 1)).map (fun i => a / 64 + i)

def LineState.code : LineState → Nat
  | .i => 0 | .s => 1 | .e => 2 | .m => 3 | .o => 4

def LineState.ofCode : Nat → Option LineState
  | 0 => some .i | 1 => some .s | 2 => some .e | 3 => some .m | 4 => some .o | _ => none

def State.regionAt (s : State) (r : Nat) : Option Region := s.coh.regions.find r

def State.setRegion (s : State) (r : Nat) (x : Region) : State :=
  { s with coh := { s.coh with regions := s.coh.regions.set r x } }

def State.freeRegion (s : State) (r : Nat) : State :=
  { s with coh := { s.coh with regions := s.coh.regions.erase r } }

/-- The filter's record of a line. -/
def State.lineF (s : State) (l : Nat) : LineF :=
  match s.regionAt (regionOfLine l) with
  | some x => x.lines.get (l % 32) {}
  | none => {}

/-- The slot of an agent. -/
def Region.slotOf (x : Region) (a : Nat) : Option Nat := (x.slots.find? (fun e => e.2 == a)).map (fun (e : Nat × Nat) => e.1)

/-- The agent of a slot. -/
def Region.agentOf (x : Region) (i : Nat) : Nat := x.slots.get i 0

/-- Slots whose agent holds no line are free at once (R332). -/
def Region.tidy (x : Region) : Region :=
  { x with slots := x.slots.where (fun i _ => x.lines.any (fun e => e.2.pres.contains i)) }

/-- The agents that hold a line. -/
def State.holders (s : State) (l : Nat) : List Nat :=
  match s.regionAt (regionOfLine l) with
  | some x => (x.lines.get (l % 32) {}).pres.map x.agentOf
  | none => []

/-- The state in which an agent is recorded for a line (R341). -/
def State.recorded (s : State) (l a : Nat) : LineState :=
  match s.regionAt (regionOfLine l) with
  | none => .i
  | some x =>
    let f := x.lines.get (l % 32) {}
    match x.slotOf a with
    | none => .i
    | some i =>
      if !f.pres.contains i then .i
      else if f.st = .o ∧ f.own ≠ i then .s else f.st

/-- The line field changed. -/
def State.setLine (s : State) (l : Nat) (g : Region → LineF → LineF) : State :=
  match s.regionAt (regionOfLine l) with
  | none => s
  | some x => s.setRegion (regionOfLine l)
      (Region.tidy { x with lines := x.lines.put (l % 32) (g x (x.lines.get (l % 32) {})) {} })

/-- An agent removed from a line: S if other holders remain, else I (R333). -/
def State.removeHolder (s : State) (l a : Nat) : State :=
  s.setLine l (fun x f =>
    match x.slotOf a with
    | none => f
    | some i =>
      let pres := f.pres.filter (· != i)
      if pres.isEmpty then {} else if f.own = i ∨ f.st ≠ .o then { st := .s, own := 0, pres } else { f with pres })

/-- Slots 0–7 that are free. -/
def Region.freeSlot (x : Region) : Option Nat := (List.range 8).find? (fun i => (x.slots.find i).isNone)

/-- An agent given a slot, where it has none. -/
def Region.withAgent (x : Region) (a : Nat) : Region :=
  match x.slotOf a with
  | some _ => x
  | none =>
    match x.freeSlot with
    | some i => { x with slots := x.slots.set i a }
    | none => x

/-- An agent becomes the only holder in a state, or is added in S. -/
def State.grantLine (s : State) (l a : Nat) (st : LineState) : State :=
  match s.regionAt (regionOfLine l) with
  | none => s
  | some x =>
    let x := x.withAgent a
    let i := (x.slotOf a).getD 0
    let f := x.lines.get (l % 32) {}
    let f' : LineF :=
      if st = .s then
        { st := if f.st = .o then .o else .s, own := if f.st = .o then f.own else 0
          pres := (List.range 8).filter (fun j => f.pres.contains j || j == i) }
      else { st, own := i, pres := [i] }
    s.setRegion (regionOfLine l) (Region.tidy { x with lines := x.lines.put (l % 32) f' {} })

/-- An agent's new state recorded after its answer (R341). -/
def State.recordAnswer (s : State) (l a : Nat) (st : LineState) : State :=
  if s.recorded l a = .i then s
  else
    match st with
    | .i => s.removeHolder l a
    | .s => s.setLine l (fun x f => if some f.own = x.slotOf a ∧ f.st ≠ .s then { f with st := .s, own := 0 } else f)
    | _ => s.setLine l (fun x f => { f with st, own := (x.slotOf a).getD f.own })

/-- An agent's number (R325). -/
def agentNo (r : HomeReq) : Nat :=
  match r.entry with
  | .site k => 16 * k + r.agent
  | _ => 0

/-! ## Ways (R330) -/

/-- Ways in which a partition allocates: its reserved ones, or those that no sealed partition reserves. -/
def State.allowedWays (s : State) (p : Nat) : List Nat :=
  match s.coh.ways.find p with
  | some ws => ws
  | none => (List.range 16).filter (fun w => s.coh.ways.all (fun e => !e.2.contains w))

/-- Regions of the set of a region at its home agent. -/
def State.setRegions (s : State) (r : Nat) : AMap Region :=
  s.coh.regions.where (fun k _ => haOfLine (k * 32) == haOfLine (r * 32) && regionSet k == regionSet r)

def State.freeWay (s : State) (p r : Nat) : Option Nat :=
  (s.allowedWays p).find? (fun w => (s.setRegions r).all (fun e => e.2.way != w))

/-- The victim of R331: the least recently allocated allowed entry that is not being recalled. -/
def State.victimOf (s : State) (p r : Nat) : Option Nat :=
  ((s.setRegions r).where (fun _ x => (s.allowedWays p).contains x.way && !x.recalled)).foldl
    (fun (b : Option Nat) (e : Nat × Region) =>
      match b with
      | none => some e.1
      | some k => if e.2.stamp < ((s.regionAt k).map Region.stamp).getD 0 then some e.1 else some k) none

/-! ## Snoops (R339, R340) -/

/-- A TXID of a home agent that no snoop holds. -/
def State.freeTxid (s : State) (h : Nat) : Nat :=
  let used := (s.coh.snoops.filter (fun n => n.h == h)).map Snoop.txid ++ (s.coh.reserved.filter (fun r => r.1 == h)).map (·.2.1)
  ((List.range (used.length + 1)).find? (fun i => !used.contains i)).getD 0

def SnpKind.op : SnpKind → Nat
  | .shared => 0x28 | .inv => 0x29 | .na => 0x2A | .hint => 0x2A

/-- Queue entries of a chiplet's agents for snoops: SNPQ of its CAP (R288, R313). -/
def State.snpq (s : State) (k : Nat) : Nat := s.rdField .uciCap 61 46 k

/-- A snoop on its way to its chiplet: sent under a credit, else queued at the station (R340). -/
def State.toChiplet (s : State) (a : Nat) (m : SnpMsg) : State :=
  let k := a / 16
  let x := s.site k
  let ag := a % 16
  if x.snpUsed.get ag 0 < s.snpq k ∧ (x.snpq.get ag []).isEmpty then
    (s.setSite k { x with snpUsed := x.snpUsed.put ag (x.snpUsed.get ag 0 + 1) 0 }).emit (.snoop k m.op m.opx ag m.ppa m.txid m.ptn)
  else s.setSite k { x with snpq := x.snpq.put ag (x.snpq.get ag [] ++ [m]) [] }

/-- PPA of a line of a region (R339). -/
def Region.ppaOf (x : Region) (l : Nat) : Nat := x.pgran * Config.granule + l * 64 % Config.granule

/-- A snoop sent; a station answers for a lost chiplet (R347). -/
def State.sendSnoop (s : State) (p ppa l a : Nat) (kind : SnpKind) (why : SnpFor) : State :=
  let h := haOfLine l
  let id := s.freeTxid h
  let opx := match kind with
    | .shared => if s.rd .cohPtnLevel 0 p = 1 then 1 else 0
    | .hint => 1
    | _ => 0
  let s := (s.bump .cohSnoops 0 p)
  let t : State := { s with coh := { s.coh with
    snoops := s.coh.snoops ++ [{ h, txid := id, agent := a, ptn := p, line := l, kind, recd := s.recorded l a, why }] } }
  if (t.site (a / 16)).lost then t.emit (.stationAck h id a)
  else t.toChiplet a { op := kind.op, opx, ppa, txid := id, ptn := p }

/-- Snoops to several agents for a line. -/
def State.snoopAll (s : State) (l : Nat) (agents : List Nat) (kind : SnpKind) (why : SnpFor) : State :=
  match s.regionAt (regionOfLine l) with
  | none => s
  | some x => s.each agents (fun s a => s.sendSnoop x.ptn (x.ppaOf l) l a kind why)

/-- The answers permitted to a snoop (R341). -/
def permitted (kind : SnpKind) (recd : LineState) (level1 hasData : Bool) (st : LineState) : Bool :=
  match kind, recd with
  | .shared, .e => if hasData then st == .s || st == .i || (st == .o && !level1) else st == .s || st == .i
  | .shared, .m => hasData && (st == .s || st == .i || (st == .o && !level1))
  | .shared, .o => hasData && (st == .o || st == .s || st == .i)
  | .inv, .s => !hasData && st == .i
  | .inv, .e => st == .i
  | .inv, .m => hasData && st == .i
  | .inv, .o => hasData && st == .i
  | .na, .e => if hasData then st == .e || st == .m || st == .i else st == .e || st == .i
  | .na, .m => hasData && (st == .m || st == .i)
  | .na, .o => hasData && (st == .o || st == .i)
  | .hint, _ => !hasData && st == .i
  | _, _ => false

/-! ## Memory at the home agent (R215, R216, R310) -/

/-- Blocks of a granule that a migration copies, marked dirty by a write (R259). -/
def State.markDirty (s : State) (a n : Nat) : State :=
  { s with jay := { s.jay with migs := s.jay.migs.map (fun m =>
      if m.src = granOf a ∧ (m.phase = .copy ∨ m.phase = .locked) then
        { m with dirty := (unitsOf 256 (a % Config.granule) n).foldl (fun d u => if d.contains (u / 256) then d else d ++ [u / 256]) m.dirty }
      else m) } }

/-- Bytes written to a stack, counted in whole units. -/
def State.countWrite (s : State) (a n : Nat) : State :=
  (s.activate (stackOf a)).bump .hbmWriteBytes 0 (stackOf a) ((unitsOf (s.unit a) a n).length * s.unit a)

/-- Bytes read from a stack, counted in whole units. -/
def State.countRead (s : State) (a n : Nat) : State :=
  (s.activate (stackOf a)).bump .hbmReadBytes 0 (stackOf a) ((unitsOf (s.unit a) a n).length * s.unit a)

/-- A write of a mirrored partition that an ACTIVE member orders enters its mirror queue (R374). -/
def State.mirror (s : State) (a : Nat) (d : List Byte) : State :=
  let p := (s.hgt (granOf a)).owner
  if s.rd .soxPairRole = 1 ∧ s.rd .soxMirror 0 p = 1 ∧ (s.sox.conns.find 0).isSome then
    { s with sox := { s.sox with pair := { s.sox.pair with mirrorq := s.sox.pair.mirrorq ++ [{ ptn := p, hpa := a, data := d }] } } }
  else s

/-- Data stored at an HPA; bit i of the mask: sector i is poisoned. -/
def State.storeMasked (s : State) (a : Nat) (d : List Byte) (mask : Nat) : State :=
  let t := (((s.store64 a d false).countWrite a d.length).markDirty a d.length).mirror a d
  t.each (bitsOf mask (d.length / 32)) (fun t i => t.poisonUnit (t.unit a) ((a + 32 * i) / t.unit a * t.unit a))

/-- The same, with nothing counted, marked or mirrored. -/
def State.storePlain (s : State) (a : Nat) (d : List Byte) (mask : Nat) : State :=
  let t := s.store64 a d false
  t.each (bitsOf mask (d.length / 32)) (fun t i => t.poisonUnit (t.unit a) ((a + 32 * i) / t.unit a * t.unit a))

/-- Poisoned sectors among `n` bytes at an HPA. -/
def State.poisonMask (s : State) (a n : Nat) : Nat :=
  (List.range (n / 32)).foldl (fun m i =>
    if s.unitPoisoned (s.unit a) ((a + 32 * i) / s.unit a * s.unit a) then m + 2 ^ i else m) 0

/-- A line stored poisoned (R346, R348). -/
def State.poisonLine (s : State) (l : Nat) : State :=
  s.each (unitsOf (s.unit (l * 64)) (l * 64) 64) (fun s u => s.poisonUnit (s.unit (l * 64)) u)

/-! ## Transactions -/

def Txn.active (t : Txn) : Bool := t.phase != .wait

def State.setTxn (s : State) (t : Txn) : State :=
  { s with coh := { s.coh with txns := s.coh.txns.map (fun u => if u.n = t.n then t else u) } }

def State.dropTxn (s : State) (t : Txn) : State :=
  { s with
    coh := { s.coh with txns := s.coh.txns.filter (fun u => u.n != t.n) }
    held := s.held.filter (fun e => !(e.1 == t.h && e.2.1 == t.req.id)) }

/-- Snoops for a purpose are outstanding. -/
def State.awaits (s : State) (w : SnpFor) : Bool := s.coh.snoops.any (fun n => n.why == w)

/-- An answer leaves the home agent for its requester. -/
def State.homeAnswer (s : State) (h : Nat) (r : HomeReq) (status st : Nat) (data : List Byte) (poison : Nat) : State :=
  (s.emit (.homeAnswer h r.entry r.id status st data poison)).answerReq r.id status st data poison

/-- A request completes with poison (R229, R230, R246). -/
def State.poisonAnswer (s : State) (h : Nat) (op : ReqOp) (r : HomeReq) (status : Nat) : State :=
  s.homeAnswer h r status 0 [] (if op.reads then allPoison (r.len / 32) else 0)

/-- A transaction ends with an answer. -/
def State.endTxn (s : State) (t : Txn) (status st : Nat) (data : List Byte) (poison : Nat) : State :=
  (s.dropTxn t).homeAnswer t.h t.req status st data poison

/-- A snoop is no longer awaited; its TXID stays reserved until its late answer (R347). -/
def State.orphan (s : State) (q : Snoop → Bool) : State :=
  { s with coh := { s.coh with
      reserved := s.coh.reserved ++ (s.coh.snoops.filter q).map (fun n => (n.h, n.txid, n.agent, n.ptn))
      snoops := s.coh.snoops.filter (fun n => !q n) } }

/-- Every request of a partition at the home agents completes with ABORTED (R346, R348). A grant that awaits its GACK has its answer. -/
def State.abortTxns (s : State) (p : Nat) : State :=
  let l := s.coh.txns.filter (fun t => t.req.lab.ptn == p)
  let s := s.orphan (fun n => l.any (fun t => n.why == .txn t.n))
  s.each l (fun s t => if t.phase = .grant then s.dropTxn t
    else s.endTxn t hsAborted 0 [] (if t.op.reads then allPoison (t.req.len / 32) else 0))

/-! ## Recalls (R331, R345) -/

/-- A line has a transaction or snoop of its own: a recall takes it afterwards (R337). -/
def State.lineActive (s : State) (l : Nat) : Bool :=
  s.coh.snoops.any (fun n => n.line == l) ||
  s.coh.txns.any (fun u => u.got.contains l || (u.active && u.lines.head? == some l))

/-- A region's recall: SNP_INV, one per holder, for every line with a presence bit. -/
def State.recallRegion (s : State) (r : Nat) : State :=
  match s.regionAt r with
  | none => s
  | some x =>
    let s := s.setRegion r { x with recalled := true }
    let s := s.each (x.lines.keys.filter (fun j => !s.lineActive (32 * r + j))) (fun s j =>
      s.snoopAll (32 * r + j) (s.holders (32 * r + j)) .inv (.recalled r))
    if x.lines.isEmpty then s.freeRegion r else s

/-- Regions of a granule. -/
def State.granuleRegions (s : State) (hg : Nat) : List Nat := (s.coh.regions.where (fun k _ => k / 512 == hg)).keys

/-- Every region of a granule recalled (R345). -/
def State.recallGranule (s : State) (hg : Nat) : State := s.each (s.granuleRegions hg) State.recallRegion

/-- A recall whose answers have all arrived: the entry is free, or lines granted meanwhile are recalled too. -/
def State.settleRecall (s : State) (r : Nat) : State :=
  match s.regionAt r with
  | none => s
  | some x =>
    if ¬ x.recalled ∨ s.awaits (.recalled r) ∨ (s.coh.walking.find x.ptn).isSome then s else s.recallRegion r

/-! ## Takedown (R347, R348) -/

def domainNone : Nat := 0
def domainUp : Nat := 1
def domainDown : Nat := 2

/-- A partition's domain is being taken down or is down. -/
def State.domainLost (s : State) (p : Nat) : Bool :=
  (s.coh.walking.find p).isSome || s.rd .cohDomainState 0 p == domainDown

/-- Regions of a partition. -/
def State.regionsOf (s : State) (p : Nat) : List Nat := (s.coh.regions.where (fun _ x => x.ptn == p)).keys

/-- The walk at a region: E, M and O lines are stored poisoned, and SNP_INV goes to each holder at a
chiplet that is not lost, without awaiting its answer. -/
def State.walkRegion (s : State) (r : Nat) : State :=
  match s.regionAt r with
  | none => s
  | some x =>
    let s := s.each x.lines (fun s (e : Nat × LineF) =>
      let l := 32 * r + e.1
      let s := if e.2.st = .s ∨ e.2.st = .i then s else s.poisonLine l
      s.snoopAll l ((s.holders l).filter (fun a => !(s.site (a / 16)).lost)) .inv (.recalled r))
    (s.orphan (fun n => n.why == .recalled r)).setRegion r { x with recalled := true, lines := [], slots := [] }

/-- The domain of a partition is taken down, with its cause, the agent and the line. Causes 2 and 5 name no line. -/
def State.takedown (s : State) (p cause agent l : Nat) : State :=
  if s.domainLost p then s
  else
    let ppa := match s.regionAt (regionOfLine l) with
      | some x => if cause = 2 ∨ cause = 5 then 0 else x.ppaOf l
      | none => 0
    let s := (s.bump .cohTakedowns 0 p).wr .cohLastError (cause * 2 ^ 56 + agent * 2 ^ 48 + ppa / 64 % 2 ^ 42 * 64) 0 p
    let s := (s.abortTxns p).orphan (fun n => n.ptn == p)
    let s := s.each (s.regionsOf p) State.walkRegion
    let t : State := { s with coh := { s.coh with walking := s.coh.walking.set p () } }
    t.ev Ev.cohDomainDown (some p)

/-! ## The checks of a request (R229, R230, R246) -/

/-- What the home granule table says of a request. -/
inductive HgtAnswer where
  | serve
  | wait
  | forward (hg : Nat)
  | stale
  | staleKey
  deriving DecidableEq, Repr

/-- A retired granule still forwards while its invalidation runs (R265). -/
def State.forwards (s : State) (hg : Nat) : Bool :=
  let e := s.hgt hg
  e.state == .forward || (e.state == .offline && s.jay.inval.any (fun i => i.source == some hg))

def State.hgtCheck (s : State) (r : HomeReq) : HgtAnswer :=
  let hg := granOf r.hpa
  let e := s.hgt hg
  let own := r.entry == .hub || e.owner == r.lab.ptn
  if ¬ own then .stale
  else if e.state = .locked then .wait
  else if s.forwards hg then .forward e.fwd
  else if e.state = .mapped ∨ (r.entry = .hub ∧ e.state = .pool) then
    if r.entry = .hub ∨ r.kgen = e.kgen ∨ r.kgen = (e.kgen + 3) % 4 then .serve else .staleKey
  else .stale

/-- A line of a shared window (R327). -/
def State.windowed (s : State) (hpa : Nat) : Bool := (s.jay.windows.find (granOf hpa)).isSome

/-! ## Completion -/

/-- Ownership of a line or new data in a granule with replicas waits for the replicas (R268). -/
def Txn.owns (t : Txn) (st : Nat) : Bool := t.op.writes || decide (2 ≤ st)

/-- The state that a grant gives (R333): after the snoops of RD_SHARED, RD_UNIQUE and CLAIM. -/
def State.grantOf (s : State) (t : Txn) (l : Nat) : LineState :=
  let f := s.lineF l
  let a := agentNo t.req
  match t.op with
  | .rdShared => if ¬ t.asked ∧ (f.st = .i ∨ s.recorded l a = .e) then .e else .s
  | .rdUnique => if t.taken.isSome then .m else .e
  | _ => .m

/-- A stash hint after its write (R317, R336). It is dropped too while the chiplet has not joined the partition after a reset or a loss
(R296, R298). -/
def State.stashHint (s : State) (t : Txn) : State :=
  let k := t.req.obj % 8
  let a := 16 * k + field t.req.obj 7 4
  let p := t.req.lab.ptn
  if (s.rd .uciBind k).testBit p ∧ s.rd .uciCohRole k p = 2 ∧ ((s.site k).granted.find p).isSome then
    s.sendSnoop p (t.req.pgran * Config.granule + t.req.hpa % Config.granule / 64 * 64) (lineOf t.req.hpa) a .hint (.txn t.n)
  else
    match t.req.entry with
    | .site j => s.bump .htlStashDropped j
    | _ => s.bump .htlStashDropped k

/-- The last act of a transaction: a grant, an acknowledgement, or the data of a read. -/
def State.conclude (s : State) (t : Txn) : State :=
  let l := t.lines.headD (t.got.headD 0)
  if s.windowed t.req.hpa ∧ t.op.line then s.endTxn t hsOk 0 (if t.op.reads then t.data else []) t.poison
  else
    match t.op with
    | .rdShared | .rdUnique | .claim =>
      let st := s.grantOf t l
      let data := if t.op = .claim then [] else t.data
      let poison := if t.op = .claim then 0 else t.poison
      let s := (s.grantLine l (agentNo t.req) st).setTxn { t with phase := .grant }
      (s.homeAnswer t.h t.req hsOk st.code data poison).emit (.gack t.h l)
    | .stash => (s.endTxn t hsOk 0 [] t.poison).stashHint t
    | _ => s.endTxn t hsOk 0 t.data t.poison

/-- A transaction whose work is done concludes, after the replicas of its granule are gone where R268 asks it. -/
def State.completeTxn (s : State) (t : Txn) : State :=
  let hg := granOf t.req.hpa
  let st := match t.op with
    | .rdShared | .rdUnique | .claim => if s.windowed t.req.hpa then 0 else (s.grantOf t (t.lines.headD 0)).code
    | _ => 0
  if (s.hgt hg).rlive ∧ t.owns st then s.setTxn { t with phase := .rlive } else s.conclude t

/-- Replicas to be invalidated for a waiting transaction (R268): once every fill of the granule is acknowledged. -/
def State.startRows (s : State) (t : Txn) : State :=
  let hg := granOf t.req.hpa
  let e := s.hgt hg
  if s.jay.fills.any (fun x => x.hgran == hg) then s
  else if s.jay.inval.any (fun i => i.rows && i.held.contains t.n) then s
  else
    let dest := (s.plotsOf e.owner).map (fun q => Entry.tile (replicaTile q t.req.pgran))
    if dest.isEmpty then s.setHgt hg { e with rlive := false }
    else s.invalidate e.owner t.req.pgran dest false true none [t.n] none

/-! ## Serving a line (R333–R335) -/

/-- The bytes of a request that lie in a line: their place in the request, and their number. -/
def partIn (r : HomeReq) (l : Nat) : Nat × Nat :=
  let a := max r.hpa (l * 64)
  let b := min (r.hpa + r.len) (l * 64 + 64)
  (a - r.hpa, b - a)

/-- Memory's data of a line added to what a read has gathered. -/
def State.gather (s : State) (t : Txn) (l : Nat) : Txn :=
  let q := partIn t.req l
  let a := t.req.hpa + q.1
  match t.taken with
  | some (d, bad) =>
    { t with
      data := t.data ++ (d.drop (a % 64)).take q.2
      poison := if bad then t.poison + allPoison (q.2 / 32) * 2 ^ (q.1 / 32) else t.poison }
  | none => { t with data := t.data ++ s.bytes a q.2, poison := t.poison + s.poisonMask a q.2 * 2 ^ (q.1 / 32) }

/-- A write's part of a line stored: merged over the snooped data, if any, and then the line is stored as one. A reduction finds
the snooped data in place. -/
def State.writePart (s : State) (t : Txn) (l : Nat) : State :=
  let q := partIn t.req l
  let d := (t.req.data.drop q.1).take q.2
  let mask := t.req.poison / 2 ^ (q.1 / 32) % 2 ^ (q.2 / 32)
  match t.taken with
  | some (old, bad) =>
    let s := s.storePlain (l * 64) old (if bad then 3 else 0)
    let s := if t.op = .reduce then s else (s.storePlain (t.req.hpa + q.1) d mask).countWrite (l * 64) 64
    (s.markDirty (l * 64) 64).mirror (l * 64) (s.bytes (l * 64) 64)
  | none => if t.op = .reduce then s else s.storeMasked (t.req.hpa + q.1) d mask

/-- Bytes `a` to `a + n - 1` cover only part of the unit at `u`. -/
def coversPart (size a n u : Nat) : Bool := !(decide (a ≤ u) && decide (u + size ≤ a + n))

/-- The memory read of a read-modify-write meets errors (R215): in the units of a line whose data no holder returned, and that the
write covers in part, or that a reduction reads. -/
def Txn.rmwErrs (t : Txn) (size l : Nat) : List ReadErr :=
  let q := partIn t.req l
  t.errs.filter (fun e =>
    let x := t.req.hpa / 32 * 32 + 32 * errSector e
    t.taken.isNone && x / 64 == l && (t.op == .reduce || coversPart size (t.req.hpa + q.1) q.2 (x / size * size)))

/-- The merged units whose old data was uncorrectable are stored poisoned, and the write completes with poison (R215). -/
def State.rmwPoison (s : State) (t : Txn) (l : Nat) : State × Txn :=
  let r := s.readErrs (t.req.hpa / 32 * 32) true (t.rmwErrs (s.unit t.req.hpa) l)
  let size := s.unit t.req.hpa
  (r.1.each r.2 (fun s u => s.poisonUnit size u),
    { t with poison := (List.range (t.req.len / 32)).foldl (fun m i =>
        if r.2.contains ((t.req.hpa / 32 * 32 + 32 * i) / size * size) then m ||| 2 ^ i else m) t.poison })

/-- Reduce-at-home over the request's whole extent (R135, R310). A poisoned sector poisons the unit that it touches, and in MX
storage, whose packs span units, the extent. -/
def State.reduceHome (s : State) (t : Txn) : State :=
  let r := t.req
  let d := s.dirEntry r.lab.ptn r.pgran
  let old := s.bytes r.hpa r.len
  let bad := s.poisonMask r.hpa r.len ||| r.poison
  s.storeMasked r.hpa (reduceAtHome d.sfmt r.fmt (r.opx == 1) (s.rd .ariMxScaleMode 0 r.lab.ptn == 1) old r.data)
    (if bad = 0 then 0 else if isMx (d.sfmt / 16) then allPoison (r.len / 32) else bad)

/-- The current line is done: the next one, or the end (R337). -/
def State.lineDone (s : State) (t : Txn) (l : Nat) : State :=
  let t1 := { t with lines := t.lines.tail, got := t.got ++ [l], taken := none }
  match t1.lines with
  | [] =>
    let s := if t.op = .reduce then s.reduceHome t else s
    if t1.reading then s.setTxn { t1 with phase := .read } else (s.setTxn t1).completeTxn t1
  | _ => s.setTxn { t1 with phase := .wait }

/-- Every snoop of the current line is answered. -/
def State.snoopsDone (s : State) (t : Txn) : State :=
  let l := t.lines.headD 0
  match t.op with
  | .rdShared | .rdUnique | .claim =>
    let t1 := s.gather { t with data := [], poison := 0 } l
    let t1 := if t.taken.isSome ∨ t.op = .claim then { t1 with reading := false } else { t1 with poison := t1.poison ||| t.memBad }
    if t1.reading then s.setTxn { t1 with phase := .read } else (s.setTxn t1).completeTxn t1
  | .rdNa =>
    let t1 := s.gather t l
    s.lineDone (if t.taken.isNone then { t1 with reading := true } else t1) l
  | _ =>
    let u := (s.writePart t l).rmwPoison t l
    u.1.lineDone u.2 l

/-- Snoops sent for the current line; without any, the line goes on at once. -/
def State.await (s : State) (t : Txn) (agents : List Nat) (kind : SnpKind) : State :=
  let l := t.lines.headD 0
  let t := { t with phase := .snoop, asked := !agents.isEmpty }
  let s := (s.setTxn t).snoopAll l agents kind (.txn t.n)
  if agents.isEmpty then s.snoopsDone t else s

/-- Requesters whose reads may be snooped (R335): the engines, the host station and the hub's own controllers. -/
def maySnoop : Entry → Bool
  | .engine _ => true
  | .host => true
  | .hub => true
  | _ => false

/-- The current line of a request is served (R333, R335). -/
def State.serveLine (s : State) (t : Txn) : State :=
  let l := t.lines.headD 0
  let f := s.lineF l
  let a := agentNo t.req
  let mine := s.recorded l a
  let others := (s.holders l).filter (· != a)
  let owner := match s.regionAt (regionOfLine l) with
    | some x => [x.agentOf f.own]
    | none => []
  if s.windowed t.req.hpa ∧ t.op.line then
    if t.op.reads then
      s.setTxn { s.gather t l with phase := .read, reading := true }
    else s.completeTxn t
  else
    match t.op with
    | .rdShared =>
      if mine = .m ∨ mine = .o then s.takedown t.req.lab.ptn 3 a l
      else if f.st = .i ∨ f.st = .s ∨ mine = .e then s.await { t with reading := true } [] .shared
      else s.await { t with reading := f.st != .o } owner .shared
    | .rdUnique =>
      if mine = .m ∨ mine = .o then s.takedown t.req.lab.ptn 3 a l
      else s.await { t with reading := f.st != .o } others .inv
    | .claim =>
      if mine = .m then s.takedown t.req.lab.ptn 3 a l
      else if mine = .i then s.await { t with op := .rdUnique, reading := f.st != .o } others .inv
      else s.await t others .inv
    | .rdNa =>
      if t.req.opx = 1 ∧ maySnoop t.req.entry ∧ (f.st = .e ∨ f.st = .m ∨ f.st = .o) then s.await t owner .na
      else s.await t [] .na
    | _ => s.await t (s.holders l) .inv

/-! ## Waiting and starting (R330–R332, R337, R342) -/

/-- A line is busy with another transaction, or a slot of it is being recalled. -/
def State.busyFor (s : State) (t : Txn) (l : Nat) : Bool :=
  s.coh.txns.any (fun u => u.n != t.n && u.op != .wb &&
    (u.got.contains l || (u.active && u.lines.head? == some l))) ||
  s.coh.snoops.any (fun n => n.line == l && (match n.why with
    | .slot .. => true
    | _ => false))

/-- Lines that the transactions of a home agent keep busy. -/
def State.busyLines (s : State) (h : Nat) : Nat :=
  (s.coh.txns.filter (fun u => u.h == h)).foldl (fun n u => n + u.got.length + (if u.active && !u.lines.isEmpty then 1 else 0)) 0

/-- The slot with the fewest presence bits, the lowest on a tie (R332). -/
def Region.leastSlot (x : Region) : Nat :=
  let count (i : Nat) := (x.lines.filter (fun e => e.2.pres.contains i)).length
  (List.range 8).foldl (fun b i => if count i < count b then i else b) 0

/-- Lines of a slot, as numbers within the region. -/
def Region.linesOf (x : Region) (i : Nat) : List Nat := (x.lines.where (fun _ f => f.pres.contains i)).keys

/-- A request needs a slot, and each line of the one to be taken is busy. -/
def State.slotBusy (s : State) (r : Nat) (x : Region) (a : Nat) : Bool :=
  (x.slotOf a).isNone && x.freeSlot.isNone && (x.linesOf x.leastSlot).all (fun j => s.lineActive (32 * r + j))

/-- The request needs a region entry for its requester. -/
def State.needsEntry (s : State) (t : Txn) : Bool :=
  (t.op == .rdShared || t.op == .rdUnique || t.op == .claim) && !s.windowed t.req.hpa

/-- The request waits at the ordering point. -/
def State.blocked (s : State) (t : Txn) : Bool :=
  let l := t.lines.headD 0
  let r := regionOfLine l
  let p := t.req.lab.ptn
  (s.hgtCheck t.req == .wait) || s.busyFor t l ||
  ((s.regionAt r).map Region.recalled).getD false ||
  (s.needsEntry t && (decide (2048 ≤ s.busyLines t.h) ||
    (match s.regionAt r with
     | none => (s.freeWay p r).isNone && ((s.victimOf p r).isNone || (match t.victim with
        | some v => ((s.regionAt v).map Region.recalled).getD false
        | none => false))
     | some x => s.slotBusy r x (agentNo t.req) || s.coh.snoops.any (fun n => match n.why with
        | .slot r' _ m => r' == r && m == some t.n
        | _ => false))))

/-- A slot taken from its agent: SNP_INV for each line that it holds, as each is free. -/
def State.recallSlot (s : State) (r : Nat) (x : Region) (t : Txn) : State :=
  let i := x.leastSlot
  s.each ((x.linesOf i).filter (fun j => !s.lineActive (32 * r + j))) (fun s j =>
    s.snoopAll (32 * r + j) [x.agentOf i] .inv (.slot r i (some t.n)))

/-- A request that waits no longer is checked again and its current line begun, or a way or slot is recalled for it. -/
def State.start (s : State) (t : Txn) : State :=
  match s.hgtCheck t.req with
  | .wait => s
  | .forward hg => (s.dropTxn t).emit (.forward t.op.code { t.req with hpa := hg * Config.granule + t.req.hpa % Config.granule })
  | .stale => ((s.dropTxn t).poisonAnswer t.h t.op t.req hsOk).ev Ev.jayStaleHpa (some t.req.lab.ptn)
  | .staleKey => ((s.dropTxn t).poisonAnswer t.h t.op t.req hsOk).ev Ev.jayKgenStale (some t.req.lab.ptn)
  | .serve =>
    let r := regionOfLine (t.lines.headD 0)
    let p := t.req.lab.ptn
    if ¬ s.needsEntry t then s.serveLine t
    else
      match s.regionAt r with
      | none =>
        match s.freeWay p r with
        | some w =>
          let x : Region := { ptn := p, pgran := t.req.pgran, way := w, stamp := s.coh.stamp, recalled := false, slots := [], lines := [] }
          let s1 := s.setRegion r x
          let s2 : State := { s1 with coh := { s1.coh with stamp := s1.coh.stamp + 1 } }
          s2.serveLine t
        | none =>
          match s.victimOf p r with
          | some v =>
            let owner := ((s.regionAt v).map Region.ptn).getD p
            ((s.setTxn { t with victim := some v }).bump .cohCapRecalls 0 owner).recallRegion v
          | none => s
      | some x =>
        if (x.slotOf (agentNo t.req)).isNone ∧ x.freeSlot.isNone then s.recallSlot r x t else s.serveLine t

/-- The site for which a request takes part in a tie (R342). -/
def tieSite (r : HomeReq) : Option Nat := siteOf r.entry

/-- The place of a request in the rotation: sites after the last winner in order, then requests of no site. -/
def State.tieRank (s : State) (t : Txn) : Nat :=
  match tieSite t.req with
  | some k => 16 * ((k + 7 - s.coh.lastTie.get t.h 7) % 8) + (match t.req.entry with
    | .site _ => t.req.agent
    | _ => 15)
  | none => 128

/-- The winner among requests to one line: the least rank, the first to arrive on a tie. -/
def State.winner (s : State) (l : List Txn) : Option Txn :=
  l.foldl (fun b t =>
    match b with
    | none => some t
    | some u => if s.tieRank t < s.tieRank u then some t else some u) none

/-- Waiting requests that can start, for the line of the first of them. -/
def State.startable (s : State) : List Txn :=
  match s.coh.txns.find? (fun t => t.phase == .wait && !s.blocked t) with
  | none => []
  | some t => s.coh.txns.filter (fun u => u.phase == .wait && u.lines.head? == t.lines.head? && !s.blocked u)

/-- A winner of several recorded (R342). -/
def State.recordTie (s : State) (n : Nat) (t : Txn) : State :=
  if n < 2 then s
  else
    match tieSite t.req with
    | some k => { s with coh := { s.coh with lastTie := s.coh.lastTie.set t.h k } }
    | none => s

/-- A region under recall that has lines, none of them active, and awaits no answer: its recall goes on. -/
def State.recallDue (s : State) : Option Nat :=
  (s.coh.regions.find? (fun (e : Nat × Region) =>
    e.2.recalled && (s.coh.walking.find e.2.ptn).isNone && !s.awaits (.recalled e.1) &&
    (e.2.lines.isEmpty || e.2.lines.any (fun f => !s.lineActive (32 * e.1 + f.1))))).map (fun (e : Nat × Region) => e.1)

/-- Requests at the ordering points go on as far as they can. -/
def State.pump : Nat → State → State
  | 0, s => s
  | n + 1, s =>
    match s.recallDue with
    | some r => State.pump n (s.recallRegion r)
    | none =>
    match s.coh.txns.find? (fun t => t.phase == .rlive && !(s.hgt (granOf t.req.hpa)).rlive) with
    | some t => State.pump n (s.conclude t)
    | none =>
      match s.winner s.startable with
      | some t => State.pump n ((s.recordTie s.startable.length t).start t)
      | none => s.each (s.coh.txns.filter (fun t => t.phase == .rlive)) State.startRows

/-- Steps that one event can set off: each waiting request takes at most its lines and a way, a slot and an end. -/
def State.pumpFuel (s : State) : Nat := 12 * s.coh.txns.length + 2 * s.coh.regions.length + 12

def State.pumped (s : State) : State := s.pump s.pumpFuel

/-! ## Requests (R246, R333, R335) -/

/-- WB and EVICT never wait (R333, R337). -/
def State.wbEvict (s : State) (t : Txn) : State :=
  let l := lineOf t.req.hpa
  let a := agentNo t.req
  let p := t.req.lab.ptn
  let mine := s.recorded l a
  if s.windowed t.req.hpa then s.endTxn t hsOk 0 [] 0
  else if t.op = .evict then
    if mine = .m ∨ mine = .o then s.takedown p 3 a l
    else (s.removeHolder l a).endTxn t hsOk 0 [] 0
  else if mine = .e ∨ mine = .m ∨ mine = .o then
    ((s.storeMasked (l * 64) t.req.data t.req.poison).removeHolder l a).completeTxn { t with phase := .rlive, got := [l], lines := [] }
  else (s.bump .cohStaleWb 0 p).endTxn t hsOk 0 [] 0

/-- A request arrives at its ordering point; `es` are the errors that the memory read of a read-modify-write meets. -/
def State.homeServe (s : State) (h : Nat) (op : ReqOp) (r : HomeReq) (es : List ReadErr) : State :=
  if ¬ s.stackUp h ∨ stackOf r.hpa ≠ h ∨ s.rd .secState = seZeroised then s.poisonAnswer h op r hsOk
  else
    match s.hgtCheck r with
    | .stale => (s.poisonAnswer h op r hsOk).ev Ev.jayStaleHpa (some r.lab.ptn)
    | .staleKey => (s.poisonAnswer h op r hsOk).ev Ev.jayKgenStale (some r.lab.ptn)
    | a =>
      let s := s.sampleHeat (granOf r.hpa) r
      let s := if op.reads then s.countRow r.hpa else s
      match a with
      | .forward hg => s.emit (.forward op.code { r with hpa := hg * Config.granule + r.hpa % Config.granule })
      | _ =>
        if op.line ∧ s.domainLost r.lab.ptn then s.poisonAnswer h op r hsAborted
        else
          let t : Txn := { n := s.coh.nextTxn, h, op, req := r, lines := linesOf r.hpa r.len, errs := es }
          let s1 : State := { s with coh := { s.coh with nextTxn := s.coh.nextTxn + 1, txns := s.coh.txns ++ [t] } }
          (if op = .wb ∨ op = .evict then s1.wbEvict t else s1).pumped

/-- An uncorrectable error in the filter entry of a line (R347): in the word that holds PTN it is the hub's, and nothing is known of the
line; elsewhere it takes the domain of the entry's partition down. -/
def State.filterUe (s : State) (l ue : Nat) : State :=
  match s.regionAt (regionOfLine l) with
  | some x => if ue = 2 then s.ev Ev.cohSfUe none else if ue = 1 then (s.takedown x.ptn 6 0 l).pumped else s
  | none => s

/-- A request arrives; its lookup may meet an error in the filter. -/
def State.homeRequest (s : State) (h : Nat) (op : ReqOp) (r : HomeReq) (es : List ReadErr) (ue : Nat) : State :=
  if ue = 2 ∧ (s.regionAt (regionOfLine (lineOf r.hpa))).isSome then s.filterUe (lineOf r.hpa) ue
  else (s.filterUe (lineOf r.hpa) ue).homeServe h op r es

/-- GACK ends a grant (R338). -/
def State.gackAt (s : State) (h l : Nat) : State :=
  match s.coh.txns.find? (fun t => t.h == h && t.phase == .grant && t.lines.head? == some l) with
  | some t => (s.dropTxn t).pumped
  | none => s

/-! ## Snoop answers (R334, R341, R347) -/

/-- An answer's data where it goes to memory (R334). -/
def State.answerData (s : State) (n : Snoop) (hasData : Bool) (st : LineState) (data : List Byte) (poison : Bool) : State :=
  let write := match n.why with
    | .txn _ => n.kind == .shared && (st == .s || st == .i)
    | _ => true
  if hasData && write then s.storeMasked (n.line * 64) data (if poison then 3 else 0) else s

/-- An answer given to what awaited it. -/
def State.answerTo (s : State) (n : Snoop) (taken : Option (List Byte × Bool)) : State :=
  match n.why with
  | .txn m =>
    match s.coh.txns.find? (fun t => t.n == m) with
    | none => s
    | some t =>
      let t := { t with taken := if taken.isSome then taken else t.taken }
      let s := s.setTxn t
      if s.awaits (.txn m) then s else s.snoopsDone t
  | .recalled r => s.settleRecall r
  | .slot .. => s

/-- A snoop answer arrives at a home agent. -/
def State.snoopAnswer (s : State) (h agent txid ptn : Nat) (hasData : Bool) (stc : Nat) (data : List Byte) (poison : Bool)
    (ue : Nat) : State :=
  match s.coh.snoops.find? (fun n => n.h == h && n.txid == txid && n.agent == agent) with
  | none =>
    if s.coh.reserved.any (fun r => r.1 == h && r.2.1 == txid && r.2.2.1 == agent) then
      { s with coh := { s.coh with reserved := s.coh.reserved.filter (fun r => !(r.1 == h && r.2.1 == txid && r.2.2.1 == agent)) } }
    else (s.takedown ptn 2 agent 0).pumped
  | some n =>
    if ue = 2 then s.ev Ev.cohSfUe none
    else if ue = 1 then (s.takedown n.ptn 6 agent n.line).pumped
    else
      match LineState.ofCode stc with
      | none => (s.takedown n.ptn 1 agent n.line).pumped
      | some st =>
        if !permitted n.kind n.recd (s.rd .cohPtnLevel 0 n.ptn == 1) hasData st then (s.takedown n.ptn 1 agent n.line).pumped
        else
          let s1 : State := { s with coh := { s.coh with snoops := s.coh.snoops.erase n } }
          let s2 := s1.answerData n hasData st data poison
          let s3 := if n.kind = .na ∧ st = .i ∧ hasData ∨ n.kind = .hint then s2 else s2.recordAnswer n.line agent st
          (s3.answerTo n (if hasData then some (data, poison) else none)).pumped

/-- COH_SNP_TIMEOUT passes for a snoop (R346, R347). -/
def State.snpTimeout (s : State) (h txid ue : Nat) : State :=
  match s.coh.snoops.find? (fun n => n.h == h && n.txid == txid) with
  | none => s
  | some n =>
    let s := s.filterUe n.line ue
    let s1 := s.orphan (fun m => m == n)
    if s.ptnState n.ptn = ptnResetting then
      let st := s.recorded n.line n.agent
      let s2 := if st = .e ∨ st = .m ∨ st = .o then s1.poisonLine n.line else s1
      ((s2.removeHolder n.line n.agent).answerTo n none).pumped
    else (s1.takedown n.ptn 4 n.agent n.line).pumped

/-- The takedown's walk ends: entries are free and the domain reads DOWN (R348). -/
def State.walkEnd (s : State) (p : Nat) : State :=
  if (s.coh.walking.find p).isNone then s
  else
    let s1 : State := { s with coh := { s.coh with
      walking := s.coh.walking.erase p, regions := s.coh.regions.where (fun _ x => x.ptn != p) } }
    (s1.wr .cohDomainState domainDown 0 p).pumped

/-! ## The commands -/

def execHomeRdShared (h : Nat) (r : HomeReq) (ue : Nat) (s : State) : Host.Outcome State Fault Refusal :=
  .next (s.homeRequest h .rdShared r [] ue)

def execHomeRdUnique (h : Nat) (r : HomeReq) (ue : Nat) (s : State) : Host.Outcome State Fault Refusal :=
  .next (s.homeRequest h .rdUnique r [] ue)

def execHomeClaim (h : Nat) (r : HomeReq) (ue : Nat) (s : State) : Host.Outcome State Fault Refusal :=
  .next (s.homeRequest h .claim r [] ue)

def execHomeEvict (h : Nat) (r : HomeReq) (ue : Nat) (s : State) : Host.Outcome State Fault Refusal :=
  .next (s.homeRequest h .evict r [] ue)

def execHomeWb (h : Nat) (r : HomeReq) (ue : Nat) (s : State) : Host.Outcome State Fault Refusal :=
  .next (s.homeRequest h .wb r [] ue)

def execHomeWrite (h : Nat) (stash : Bool) (r : HomeReq) (es : List ReadErr) (ue : Nat) (s : State) : Host.Outcome State Fault Refusal :=
  .next (s.homeRequest h (if stash then .stash else .write) r es ue)

def execHomeWrRed (h : Nat) (r : HomeReq) (es : List ReadErr) (ue : Nat) (s : State) : Host.Outcome State Fault Refusal :=
  .next (s.homeRequest h .reduce r es ue)

def execHomeRdNa (h : Nat) (r : HomeReq) (ue : Nat) (s : State) : Host.Outcome State Fault Refusal :=
  .next (s.homeRequest h .rdNa r [] ue)

def execGack (h line : Nat) (s : State) : Host.Outcome State Fault Refusal := .next (s.gackAt h line)

def execTakedownWalkEnd (p : Nat) (s : State) : Host.Outcome State Fault Refusal := .next (s.walkEnd p)

end Sys2Proof.Machine
end

