-- ==== Sys2Proof/Machine/Vector.lean ====
section
/-! DEFINITION. Evaluation of vector and reduction stages over values: R83, R84, R124–R128. -/

namespace Sys2Proof.Machine

/-! ## Integers -/

/-- An INT32 result: wrapped, or saturated with SAT (R125). -/
def int32 (sat : Bool) (v : Int) : Int := if sat then satInt 32 v else signed 32 (twos 32 v)

/-- The integer of a value on the INT32 path. -/
def valInt : Val → Int
  | .i v => v
  | .f _ => 0

/-! ## Lane-wise operations (R83, R125, R126) -/

/-- Two values combined: on the INT32 path by `g`, else in FP32 by `f`. -/
def val2 (g : Int → Int → Int) (f : Fp → Fp → Fp) (a b : Val) : Val :=
  match a, b with
  | .i x, .i y => .i (g x y)
  | x, y => .f (f (valFp x) (valFp y))

def valAdd (sat : Bool) : Val → Val → Val := val2 (fun x y => int32 sat (x + y)) fpAdd

def valSub (sat : Bool) : Val → Val → Val := val2 (fun x y => int32 sat (x - y)) (fun x y => fpAdd x y.neg)

/-- The low 32 bits of an integer product (R125). -/
def valMul : Val → Val → Val := val2 (fun x y => int32 false (x * y)) fpMul

def valMax : Val → Val → Val := val2 max fpMax

def valMin : Val → Val → Val := val2 min fpMin

/-- SRC0 is less than SRC1: false of a NaN, and −0 is not less than +0 (R126). -/
def valLt (a b : Val) : Bool :=
  match a, b with
  | .i x, .i y => decide (x < y)
  | x, y => !(valFp x).isNan && !(valFp y).isNan && fpLt false (valFp x) (valFp y)

/-- A product summed with an accumulator, rounded or narrowed once (R125): the lane dot of a list of pairs. -/
def valDot (sat : Bool) (ps : List (Val × Val)) (c : Val) : Val :=
  let allInt := ps.all (fun p => match p.1, p.2 with | .i _, .i _ => true | _, _ => false)
  match c with
  | .i v => if allInt then .i (int32 sat (ps.foldl (fun a p => a + valInt p.1 * valInt p.2) v))
      else .f (fpDot (ps.map (fun p => (valFp p.1, valFp p.2))) (valFp c))
  | _ => .f (fpDot (ps.map (fun p => (valFp p.1, valFp p.2))) (valFp c))

/-- The INT32 result of ABS and NEG: of −2³¹ the spec states none, and `w` is a free word. -/
def intSign (neg : Bool) (w : Word) (x : Int) : Int :=
  let y := if neg then -x else (x.natAbs : Int)
  if y = 2 ^ 31 then signed 32 w.toNat else y

/-- ABS or NEG: on the sign bit in FP32; a NaN gives the canonical NaN (R126). -/
def valSign (neg : Bool) (w : Word) (a : Val) : Val :=
  match a with
  | .i x => .i (intSign neg w x)
  | .f x => .f (if neg then x.neg else x.abs)

/-- A one-operand FP32 function. -/
def valFn (f : Fp → Fp) (a : Val) : Val := .f (f (valFp a))

/-! ## Reductions (R84, R128) -/

/-- One level of the pairwise tree: elements 2i and 2i + 1 added, the last one passed up. -/
def pairUp (add : Val → Val → Val) : List Val → List Val
  | a :: b :: r => add a b :: pairUp add r
  | l => l

/-- The sum over a fixed pairwise tree in element order. -/
def treeSum (add : Val → Val → Val) : Nat → List Val → Val
  | _, [] => .i 0
  | _, [a] => a
  | 0, a :: _ => a
  | n + 1, l => treeSum add n (pairUp add l)

/-- Levels that any stage's tree needs: 256 elements. -/
def treeDepth : Nat := 9

/-- Output `k` of PREFIX or SEGSUM: the sum of the elements from its segment's start to it. -/
def segSums (add : Val → Val → Val) (starts : List Nat) (l : List Val) : List Val :=
  (List.range l.length).map (fun k =>
    let b := (starts.filter (fun i => decide (i ≤ k))).foldl max 0
    treeSum add treeDepth ((l.drop b).take (k + 1 - b)))

/-- Largest or smallest element: NaN only if all are NaN. -/
def valBest (better : Val → Val → Val) : List Val → Val
  | [] => .i 0
  | a :: r => r.foldl better a

/-- The order of MAX and MIN: −0 is less than +0, NaN below everything (R126, R128). -/
def keyLt (a b : Val) : Bool :=
  match a, b with
  | .i x, .i y => decide (x < y)
  | x, y =>
    if (valFp y).isNan then false
    else if (valFp x).isNan then true
    else fpLt true (valFp x) (valFp y)

/-- Index of the largest element, the lowest on a tie; 0 if all are NaN. -/
def argMax (l : List Val) : Nat :=
  (l.zipIdx.foldl (fun (b : Option (Val × Nat)) (e : Val × Nat) =>
    match b with
    | none => some e
    | some m => if keyLt m.1 e.1 then some e else some m) none).elim 0 (·.2)

/-- Put into a list in descending order of keys, after every equal key. -/
def insertDesc {α : Type} (x : Val × α) : List (Val × α) → List (Val × α)
  | [] => [x]
  | y :: r => if keyLt y.1 x.1 then x :: y :: r else y :: insertDesc x r

/-- Keys from highest to lowest; equal keys keep their order. -/
def sortDesc {α : Type} (l : List (Val × α)) : List (Val × α) := l.foldl (fun a x => insertDesc x a) []

end Sys2Proof.Machine
end

