-- ==== Sys2Proof/Machine/Tiles.lean ====
section
/-! DEFINITION. Stages of a strand: what the tile's scheduler issues, operands, scalar, vector and reduction stages,
gathers, scatters and sends with their trackers, waits, and the answers that land (R70–R105). -/

namespace Sys2Proof.Machine

/-! ## Issue (R92, R93) -/

/-- Bytes of the program area of a partition's tiles (R70). -/
def State.programBytes (s : State) (p : Nat) : Nat := (12 - (s.rd .tilRowcacheKib 0 p + s.rd .tilColbufKib 0 p) / 8) * 0x2000

/-- Program-area banks of a partition's tiles. -/
def State.programBanks (s : State) (p : Nat) : Nat := s.programBytes p / 0x2000

/-- The strand that the scheduler issues next: the READY strands in turn after the last one issued, yielded strands
behind them in the order of their yields. -/
def State.pick (s : State) (t : Nat) : Option Nat :=
  let last := s.tile.last.get t 511
  let y := s.tile.yielded.get t []
  let ready := ((s.strandsOf t).filter (fun e => e.2.st == .ready)).map (·.1)
  let plain := ready.filter (fun n => !y.contains n)
  let after := plain.filter (fun n => decide (last < n))
  (after ++ plain ++ y.filter ready.contains).head?

/-- The stages of a tile issue: its partition is SEALED, a context of it runs, and no comparator has stopped the tile clocks
(R604). -/
def State.tileRuns (s : State) (t : Nat) : Bool :=
  match s.tileOwner t with
  | some p => s.ptnState p == ptnSealed && s.rd .ptnCtxRunning p != 0xFF && !s.power.trip && !s.tileHeld t && (s.cfgOf t).isSome
  | none => false

/-- What a stage runs with: its partition, its strand and its stage word. -/
structure Issue where
  p : Nat
  x : Strand
  g : Stage
  /-- SEQ before the stage issued (R123). -/
  seq : Nat
  deriving DecidableEq, Repr

/-- The strand that the tile issues is `n`, and its stage is of this unit and operation. -/
def State.issues (s : State) (t n unit op : Nat) : Option Issue :=
  match s.tileOwner t, s.strand t n with
  | some p, some x =>
    let g := stageOf (s.stageWord t x.stage)
    if s.tileRuns t ∧ s.pick t = some n ∧ g.unit = unit ∧ g.op = op then some { p, x, g, seq := s.tile.seq.get t 0 } else none
  | _, _ => none

/-- The bookkeeping of an issue: the strand issued last, and SEQ after a stage with ROUND 1 (R93, R123). -/
def State.issued (s : State) (t n : Nat) (g : Stage) : State :=
  { s with tile := { s.tile with
      last := s.tile.last.set t n
      yielded := s.tile.yielded.put t ((s.tile.yielded.get t []).filter (· != n)) []
      seq := if g.stoch then s.tile.seq.set t (s.tile.seq.get t 0 + 1) else s.tile.seq } }

/-! ## Operands (R70–R72, R77, R78) -/

/-- Bytes of a tile's scratchpad. -/
def State.padBytes (s : State) (t a n : Nat) : List Byte := sparseBytes (s.tile.pad.get t []) a n

/-- Words of a bank that an access touches: bank and row of the program area (R71). -/
def wordsOf (banks a n : Nat) : List (Nat × Nat) :=
  if n = 0 then [] else (List.range ((a + n - 1) / 64 - a / 64 + 1)).map (fun i => ((a / 64 + i) % banks, (a / 64 + i) / banks))

/-- Bytes written into a tile's scratchpad; a word written whole is bad no longer. -/
def State.padWrite (s : State) (t banks a : Nat) (bs : List Byte) : State :=
  let m : AMap Byte := bs.zipIdx.foldl (fun (m : AMap Byte) (e : Byte × Nat) => m.put (a + e.2) e.1 0) (s.tile.pad.get t [])
  let whole := (wordsOf banks ((a + 63) / 64 * 64) ((a + bs.length) / 64 * 64 - (a + 63) / 64 * 64))
  { s with tile := { s.tile with
      pad := s.tile.pad.put t m []
      bad := s.tile.bad.filter (fun w => !(w.1 == t && whole.contains w.2)) } }

/-- The tile-local address of a program-area operand. -/
def State.operandAddr (s : State) (t n : Nat) (x : Strand) (o : Operand) : Nat :=
  if o.space = 2 then (x.reg o.reg).toNat + o.off
  else
    let h := s.graphHeader t
    (field h 29 19 + n * field h 40 30) * 64 + o.off

/-- Halt statuses (R94). -/
def haltBound : Nat := 1
def haltAlign : Nat := 2
def haltEcc : Nat := 3
def haltPoison : Nat := 4
def haltXlate : Nat := 5
def haltIsolation : Nat := 6
def haltSync : Nat := 8

/-- A program-area range, or the halt status where it leaves the area. -/
def State.programRange (s : State) (p t n : Nat) (x : Strand) (o : Operand) (len : Nat) : Except Nat Nat :=
  let a := s.operandAddr t n x o
  if s.programBytes p < a + len then .error haltBound else .ok a

/-- Bytes of an operand: of the program area, or of the constant area. -/
def State.readOperand (s : State) (p t n : Nat) (x : Strand) (o : Operand) (len : Nat) : Except Nat (List Byte) :=
  if o.space = 4 then
    (if 0x3000 < o.off + len then .error haltBound else .ok (sparseBytes ((s.cfgOf t).getD []) (0x1000 + o.off) len))
  else if o.space = 2 ∨ o.space = 3 then
    match s.programRange p t n x o len with
    | .error c => .error c
    | .ok a =>
      if (wordsOf (s.programBanks p) a len).any (fun w => s.tile.bad.contains (t, w)) then .error haltEcc
      else .ok (s.padBytes t a len)
  else .ok (List.replicate len 0)

/-- A 64-bit operand: a register, or 8 aligned bytes (R82). -/
def State.readWord (s : State) (p t n : Nat) (x : Strand) (o : Operand) : Except Nat Word :=
  if o.space = 1 then .ok (x.reg o.reg)
  else if o.space = 0 then .ok 0
  else if o.space ≠ 4 ∧ s.operandAddr t n x o % 8 ≠ 0 then .error haltAlign
  else
    match s.readOperand p t n x o 8 with
    | .error c => .error c
    | .ok b => .ok (BitVec.ofNat 64 (leNat b))

/-- `n` values of a vector operand; a register is a scalar for every element (R79). -/
def State.readVals (s : State) (p t k : Nat) (x : Strand) (o : Operand) (dst n : Nat) : Except Nat (List Val) :=
  if o.space = 1 then
    .ok (List.replicate n (expandElem o.fmt dst ((x.reg o.reg).toNat % 2 ^ elemBits o.fmt)))
  else
    match s.readOperand p t k x o (operandLen o.fmt n) with
    | .error c => .error c
    | .ok b => .ok (operandVals o.fmt dst n b)

/-- What a stage does: the strand after it, and the bytes that it writes. -/
structure Effect where
  x : Strand
  writes : List (Nat × List Byte)
  deriving DecidableEq, Repr

/-- Bytes written to an operand: the low bytes of a register, or the program area. -/
def State.writeOperand (s : State) (p t n : Nat) (x : Strand) (o : Operand) (bs : List Byte) : Except Nat Effect :=
  if o.space = 1 then .ok { x := x.setReg o.reg (BitVec.ofNat 64 (leNat (bs.take 8))), writes := [] }
  else if o.space = 0 then .ok { x, writes := [] }
  else
    match s.programRange p t n x o bs.length with
    | .error c => .error c
    | .ok a => .ok { x, writes := [(a, bs)] }

/-- A strand halts with a status; an uncorrectable error is counted and reported too (R94, R97). -/
def State.haltAt (s : State) (p t n c : Nat) : State :=
  let s := s.haltStrand t n c
  if c = haltEcc then s.tileUe p t Ev.tilSramUe else s

/-- A stage's outcome: its effect and the next stage, or a halt. -/
def State.stageDone (s : State) (t n : Nat) (i : Issue) (r : Except Nat Effect) : State :=
  let s := s.issued t n i.g
  match r with
  | .error c => s.haltAt i.p t n c
  | .ok e =>
    let s := s.each e.writes (fun s (w : Nat × List Byte) => s.padWrite t (s.programBanks i.p) w.1 w.2)
    s.setStrand t n (e.x.complete i.g)

/-! ## Scalar stages (R82) -/

/-- The flags of a result. -/
def Strand.flags (x : Strand) (v : Word) : Strand := { x with zf := v == 0, nf := v.msb }

/-- A scalar operation of two operands into DST. -/
def State.scalar2 (s : State) (t n op : Nat) (f : Word → Word → Word) : State :=
  match s.issues t n 1 op with
  | none => s
  | some i => s.stageDone t n i (do
      let a ← s.readWord i.p t n i.x i.g.src0
      let b ← s.readWord i.p t n i.x i.g.src1
      let v := f a b
      if i.g.dst.space ≠ 1 ∧ i.g.dst.space ≠ 0 ∧ s.operandAddr t n i.x i.g.dst % 8 ≠ 0 then .error haltAlign
      else s.writeOperand i.p t n (i.x.flags v) i.g.dst (toLe 8 v.toNat))

/-- CMP: flags only. -/
def State.scalarCmp (s : State) (t n : Nat) : State :=
  match s.issues t n 1 0x0A with
  | none => s
  | some i => s.stageDone t n i (do
      let a ← s.readWord i.p t n i.x i.g.src0
      let b ← s.readWord i.p t n i.x i.g.src1
      .ok { x := { i.x with zf := a == b, nf := a.slt b }, writes := [] })

/-- MOVI: DST = AUX. -/
def State.scalarMovi (s : State) (t n : Nat) : State :=
  match s.issues t n 1 0x0C with
  | none => s
  | some i => s.stageDone t n i
      (s.writeOperand i.p t n (i.x.flags (BitVec.ofNat 64 i.g.aux)) i.g.dst (toLe 8 i.g.aux))

/-- LD: a register from 8 aligned bytes. -/
def State.scalarLd (s : State) (t n : Nat) : State :=
  match s.issues t n 1 0x0D with
  | none => s
  | some i => s.stageDone t n i (do
      let v ← s.readWord i.p t n i.x i.g.src0
      s.writeOperand i.p t n (i.x.flags v) i.g.dst (toLe 8 v.toNat))

/-- ST: 8 aligned bytes from a register; no flags. -/
def State.scalarSt (s : State) (t n : Nat) : State :=
  match s.issues t n 1 0x0E with
  | none => s
  | some i => s.stageDone t n i (do
      let v ← s.readWord i.p t n i.x i.g.src0
      if s.operandAddr t n i.x i.g.dst % 8 ≠ 0 then .error haltAlign
      else s.writeOperand i.p t n i.x i.g.dst (toLe 8 v.toNat))

/-! ## Vector stages (R83, R124–R127) -/

/-- The lowest context's key and epoch, and SEQ, for a stage's random words (R121). -/
def State.rndWords (s : State) (p t seq f : Nat) : List Nat :=
  let c := s.rd .ptnCtxRunning p % 16
  [s.rd .ariSrKey p c, s.rd .ariSrEpoch p c, seq, t, f]

/-- How a stage rounds into a format. -/
def State.rounder (s : State) (p t : Nat) (g : Stage) (fmt : Nat) : Nat → Rnd :=
  if g.stoch then rounderOf (s.rndWords p t (s.tile.seq.get t 0) (laneFactor fmt)) else fun _ => .nearest

/-- The partition quantises with FIT (R118). -/
def State.fit (s : State) (p : Nat) : Bool := s.rd .ariMxScaleMode 0 p == 1

/-- Values narrowed and written to DST. -/
def State.writeVals (s : State) (t n : Nat) (i : Issue) (vs : List Val) : Except Nat Effect :=
  let o := i.g.dst
  s.writeOperand i.p t n i.x o (operandBytes o.fmt i.g.sat (s.fit i.p) (s.rounder i.p t i.g o.fmt) vs)

/-- The format in which sources are evaluated: INT32 where every one and DST are integers, else FP32 (R125). -/
def evalFmt (os : List Operand) : Nat := if os.all (fun o => isInt o.fmt) then fmtInt32 else fmtFp32

/-- A lane-wise operation of two sources. -/
def State.vec2 (s : State) (t n op : Nat) (f : Bool → Val → Val → Val) : State :=
  match s.issues t n 2 op with
  | none => s
  | some i => s.stageDone t n i (do
      let e := evalFmt [i.g.src0, i.g.src1, i.g.dst]
      let k := i.g.count * laneFactor i.g.dst.fmt
      let a ← s.readVals i.p t n i.x i.g.src0 e k
      let b ← s.readVals i.p t n i.x i.g.src1 e k
      s.writeVals t n i ((a.zip b).map (fun v => f i.g.sat v.1 v.2)))

/-- A lane-wise operation of one source, on the INT32 path only where `int` allows it; `f` takes the element's number. -/
def State.vec1 (s : State) (t n op : Nat) (int : Bool) (f : Nat → Val → Val) : State :=
  match s.issues t n 2 op with
  | none => s
  | some i => s.stageDone t n i (do
      let e := if int then evalFmt [i.g.src0, i.g.dst] else fmtFp32
      let a ← s.readVals i.p t n i.x i.g.src0 e (i.g.count * laneFactor i.g.dst.fmt)
      s.writeVals t n i (a.zipIdx.map (fun (v : Val × Nat) => f v.2 v.1)))

/-- FMA: elementwise, or a lane dot where DST has factor 1 (R124). -/
def State.vecFma (s : State) (t n : Nat) : State :=
  match s.issues t n 2 0x03 with
  | none => s
  | some i => s.stageDone t n i (do
      let e := evalFmt [i.g.src0, i.g.src1, i.g.dst]
      let f := if i.g.src0.space = 1 then laneFactor i.g.src1.fmt else laneFactor i.g.src0.fmt
      let fd := laneFactor i.g.dst.fmt
      let r := f / max 1 fd
      let a ← s.readVals i.p t n i.x i.g.src0 e (i.g.count * f)
      let b ← s.readVals i.p t n i.x i.g.src1 e (i.g.count * f)
      let c ← s.readVals i.p t n i.x i.g.dst e (i.g.count * fd)
      s.writeVals t n i (c.zipIdx.map (fun (v : Val × Nat) =>
        valDot i.g.sat (((a.zip b).drop (r * v.2)).take r) v.1)))

/-- CVT: between formats, by parts where the lane factors differ (R124). -/
def State.vecCvt (s : State) (t n : Nat) : State :=
  match s.issues t n 2 0x08 with
  | none => s
  | some i => s.stageDone t n i (do
      let e := evalFmt [i.g.src0, i.g.dst]
      let fs := laneFactor i.g.src0.fmt
      let fd := laneFactor i.g.dst.fmt
      let q := i.g.aux % 4
      if fs ≤ fd ∨ i.g.src0.space = 1 then
        let k := i.g.count * (if i.g.src0.space = 1 then fd else fs)
        let a ← s.readVals i.p t n i.x i.g.src0 e k
        if k = i.g.count * fd then s.writeVals t n i a
        else
          let o := i.g.dst
          let bytes := operandBytes o.fmt i.g.sat (s.fit i.p) (s.rounder i.p t i.g o.fmt) a
          let eb := k * elemBits o.fmt / 8
          let whole := i.g.count * fd
          let w ← s.writeOperand i.p t n i.x { o with off := o.off + q * eb } (bytes.take eb)
          if isMx o.fmt then
            let v ← s.writeOperand i.p t n i.x { o with off := o.off + whole * elemBits o.fmt / 8 + q * (k / 32) } (bytes.drop eb)
            .ok { w with writes := w.writes ++ v.writes }
          else .ok w
      else
        let a ← s.readVals i.p t n i.x i.g.src0 e (i.g.count * fs)
        s.writeVals t n i ((a.drop (q * (i.g.count * fd))).take (i.g.count * fd)))

/-- The lanes of a mask register (R83). -/
def maskLane (v : Word) (f j : Nat) : Bool := v.toNat.testBit (j / max 1 f)

/-- SELECT: each lane from SRC0 or SRC1 under the mask. -/
def State.vecSelect (s : State) (t n : Nat) : State :=
  match s.issues t n 2 0x09 with
  | none => s
  | some i => s.stageDone t n i (do
      let e := evalFmt [i.g.src0, i.g.src1, i.g.dst]
      let f := laneFactor i.g.dst.fmt
      let a ← s.readVals i.p t n i.x i.g.src0 e (i.g.count * f)
      let b ← s.readVals i.p t n i.x i.g.src1 e (i.g.count * f)
      s.writeVals t n i ((a.zip b).zipIdx.map (fun (v : (Val × Val) × Nat) =>
        if maskLane (i.x.reg (i.g.aux % 8)) f v.2 then v.1.1 else v.1.2)))

/-- CMPLT: a mask of the lanes where SRC0 < SRC1. -/
def State.vecCmplt (s : State) (t n : Nat) : State :=
  match s.issues t n 2 0x0A with
  | none => s
  | some i => s.stageDone t n i (do
      let e := evalFmt [i.g.src0, i.g.src1]
      let a ← s.readVals i.p t n i.x i.g.src0 e i.g.count
      let b ← s.readVals i.p t n i.x i.g.src1 e i.g.count
      let m := (a.zip b).zipIdx.foldl (fun (m : Nat) (v : (Val × Val) × Nat) => if valLt v.1.1 v.1.2 then m + 2 ^ v.2 else m) 0
      .ok { x := i.x.setReg i.g.dst.reg (BitVec.ofNat 64 m), writes := [] })

/-! ## Reduction stages (R84, R128) -/

/-- The addition of SUM, PREFIX and SEGSUM. -/
def redFmt (g : Stage) : Nat := if isInt g.src0.fmt then fmtInt32 else fmtFp32

/-- A reduction of SRC0's elements into DST. -/
def State.red (s : State) (t n op : Nat) (f : Issue → List Val → List Val) : State :=
  match s.issues t n 3 op with
  | none => s
  | some i => s.stageDone t n i (do
      let a ← s.readVals i.p t n i.x i.g.src0 (redFmt i.g) (i.g.count * laneFactor i.g.src0.fmt)
      s.writeVals t n i (f i a))

/-- ARGMAX writes an INT32 (R128). -/
def State.redArgmax (s : State) (t n : Nat) : State :=
  match s.issues t n 3 0x03 with
  | none => s
  | some i => s.stageDone t n i (do
      let a ← s.readVals i.p t n i.x i.g.src0 (redFmt i.g) (i.g.count * laneFactor i.g.src0.fmt)
      s.writeOperand i.p t n i.x i.g.dst (toLe 4 (argMax a)))

/-- SORT64: keys of SRC0 descending, with the values of SRC1. The sorted keys are written at DST and the values, in their
own format, after them: the spec names no place for the values (notes/assumptions/12.md). -/
def State.redSort (s : State) (t n : Nat) : State :=
  match s.issues t n 3 0x04 with
  | none => s
  | some i => s.stageDone t n i (do
      let a ← s.readVals i.p t n i.x i.g.src0 (redFmt i.g) 64
      let b ← s.readOperand i.p t n i.x i.g.src1 (64 * elemBits i.g.src1.fmt / 8)
      let w := elemBits i.g.src1.fmt
      let l := sortDesc (a.zip ((List.range 64).map (elemAt (leNat b) w)))
      let keys := operandBytes i.g.dst.fmt i.g.sat false (fun _ => .nearest) (l.map (·.1))
      s.writeOperand i.p t n i.x i.g.dst (keys ++ packElems w (8 * w) (l.map (·.2))))

/-- TOPK_MERGE: the 64 largest of two sorted lists of 64 keys. -/
def State.redTopk (s : State) (t n : Nat) : State :=
  match s.issues t n 3 0x05 with
  | none => s
  | some i => s.stageDone t n i (do
      let a ← s.readVals i.p t n i.x i.g.src0 (redFmt i.g) 64
      let b ← s.readVals i.p t n i.x i.g.src1 (redFmt i.g) 64
      s.writeVals t n i (((sortDesc ((a ++ b).map (fun v => (v, ())))).take 64).map (·.1)))

/-- Starts of segments: the first element of each lane whose mask bit is set. -/
def segStarts (m : Word) (f count : Nat) : List Nat := ((List.range count).filter (fun l => m.toNat.testBit l)).map (· * f)

/-! ## Trackers and credit (R68, R86, R92) -/

/-- Free request trackers of a tile. -/
def State.freeTrackers (s : State) (t : Nat) : Nat := 64 - (s.trackersAt (.tile t)).length

/-- A strand finds no free tracker and waits for one. -/
def State.waitCredit (s : State) (t n : Nat) (i : Issue) : State :=
  let o := s.tile.order
  let s := s.setStrand t n { i.x with st := .waitCredit, order := o, seq := i.seq }
  { s with tile := { s.tile with order := o + 1 } }

/-- Parts of an extent that no part crosses a 256 B boundary: offset and length (R86). -/
def split256 (a len : Nat) : List (Nat × Nat) :=
  let room := 256 - a % 256
  if len ≤ room then [(0, len)] else [(0, room), (room, len - room)]

/-- The label of a tile's requests: its partition, the running context, and the class of its item's queue. -/
def State.tileLabel (s : State) (p q : Nat) : Label :=
  { ptn := p, ctx := s.rd .ptnCtxRunning p % 16, cls := field (s.rd .tilWqCfg p q) 110 108 }

/-- The storage format of a PPA's granule, where it is mapped. -/
def State.sfmtAt (s : State) (p ppa : Nat) : Option Nat := (s.place p ppa).map Place.sfmt

/-- A memory stage issues its requests: PENDING rises by one for each. -/
def State.issueParts (s : State) (t n : Nat) (i : Issue) (a len : Nat) (k : Tracker) : State :=
  let parts := split256 a len
  let s := s.setStrand t n ({ i.x with pending := i.x.pending + parts.length }.complete i.g)
  let group := s.noc.order
  s.each parts (fun s (e : Nat × Nat) =>
    s.issue { k with ppa := a + e.1, base := e.1, whole := len, len := e.2, group } false)

/-- Whether a converted request keeps R133: none where nothing is converted or the granule is not mapped. -/
def State.convBreaks (s : State) (p ppa len fmt : Nat) : Bool :=
  match s.sfmtAt p ppa with
  | some a => converts a fmt && !extentOk a (ppa % Config.granule) len
  | none => false

/-- Bytes that an extent delivers in a format. -/
def delivered (attr : Option Nat) (fmt len : Nat) : Nat :=
  match attr with
  | some a => if converts a fmt then operandLen fmt (extentElems a len) else len
  | none => len

/-- GATHER (R85, R86). -/
def State.gatherStage (s : State) (t n : Nat) (i : Issue) : State :=
  let a := (i.x.reg i.g.src0.reg).toNat + i.g.src0.off
  let len := (field i.g.aux 63 60 + 1) * 32
  let fmt := i.g.dst.fmt
  if a % 32 ≠ 0 then s.haltAt i.p t n haltAlign
  else if s.convBreaks i.p a len fmt then (s.bump .ariConvRefused 0 i.p).haltAt i.p t n haltAlign
  else
    match s.programRange i.p t n i.x i.g.dst (delivered (s.sfmtAt i.p a) fmt len) with
    | .error c => s.haltAt i.p t n c
    | .ok d =>
      if s.freeTrackers t < (split256 a len).length then s.waitCredit t n i
      else s.issueParts t n i a len
        { newRequest (.tile t) (s.tileLabel i.p i.x.queue) .rdNa n a len [] with
          dst := d, dfmt := fmt, fmt, rnd := if i.g.stoch then s.rndWords i.p t i.seq (laneFactor fmt) else [], sat := i.g.sat }

/-- SCATTER: a write, a stash or a reduce-at-home write (R85). -/
def State.scatterStage (s : State) (t n : Nat) (i : Issue) (op : ReqOp) : State :=
  let a := (i.x.reg i.g.src0.reg).toNat + i.g.src0.off
  let len := (field i.g.aux 63 60 + 1) * 32
  let fmt := i.g.src1.fmt
  let red := op == .reduce
  let attr := (s.sfmtAt i.p a).map (fun c => if red ∧ c / 16 = 0 then fmt * 16 else c)
  if a % 32 ≠ 0 then s.haltAt i.p t n haltAlign
  else if !red && s.convBreaks i.p a len fmt then (s.bump .ariConvRefused 0 i.p).haltAt i.p t n haltAlign
  else
    match s.readOperand i.p t n i.x i.g.src1 (delivered attr fmt len) with
    | .error c => s.haltAt i.p t n c
    | .ok d =>
      if s.freeTrackers t < (split256 a len).length then s.waitCredit t n i
      else s.issueParts t n i a len
        { newRequest (.tile t) (s.tileLabel i.p i.x.queue) op n a len d with
          fmt, opx := if i.g.op = 3 then 1 else 0, obj := if op = .stash then field i.g.aux 58 56 else 0
          rnd := if i.g.stoch then s.rndWords i.p t i.seq (laneFactor fmt) else [], sat := i.g.sat }

/-- SEND to a tile of the same partition (R89). It lands within the command. -/
def State.sendStage (s : State) (t n : Nat) (i : Issue) : State :=
  let v := (i.x.reg i.g.dst.reg).toNat
  let dest := tileAt (field v 13 8) (field v 5 0)
  let len := (field i.g.aux 63 60 + 1) * 32
  match s.readOperand i.p t n i.x i.g.src1 len with
  | .error c => s.haltAt i.p t n c
  | .ok d =>
    if 48 ≤ field v 13 8 ∨ 48 ≤ field v 5 0 ∨ s.tileOwner dest ≠ some i.p then
      (s.haltAt i.p t n haltIsolation).ev Ev.tilIsolation (some i.p) (Config.detail [t, dest])
    else if s.freeTrackers t = 0 then s.waitCredit t n i
    else if s.programBytes i.p < field v 33 16 + len then s.haltAt i.p t n haltBound
    else (s.padWrite dest (s.programBanks i.p) (field v 33 16) d).setStrand t n (i.x.complete i.g)

/-- The stage that a strand with a tracker runs. -/
def State.memStage (s : State) (t n : Nat) (i : Issue) : State :=
  match i.g.unit, i.g.op with
  | 4, _ => s.gatherStage t n i
  | 5, 0 => s.scatterStage t n i .write
  | 5, 1 => s.scatterStage t n i .stash
  | 5, _ => s.scatterStage t n i .reduce
  | _, _ => s.sendStage t n i

/-- A memory stage of a unit and operation issues. -/
def State.memIssue (s : State) (t n unit op : Nat) : State :=
  match s.issues t n unit op with
  | none => s
  | some i => (s.issued t n i.g).memStage t n i

/-- The strand of a tile that has waited longest for a tracker. -/
def State.creditWaiter (s : State) (t : Nat) : Option (Nat × Strand) :=
  ((s.strandsOf t).filter (fun e => e.2.st == .waitCredit)).foldl (fun (b : Option (Nat × Strand)) e =>
    match b with
    | none => some e
    | some m => if e.2.order < m.2.order then some e else some m) none

/-- Trackers that freed are given to the strands that wait for them, the longest waiting first (R92). -/
def State.retryCredit : Nat → State → Nat → State
  | 0, s, _ => s
  | f + 1, s, t =>
    match s.creditWaiter t, s.tileOwner t with
    | some e, some p =>
      let i : Issue := { p, x := { e.2 with st := .ready, seq := 0 }, g := stageOf (s.stageWord t e.2.stage), seq := e.2.seq }
      let s1 := (s.setStrand t e.1 i.x).memStage t e.1 i
      match s1.strand t e.1 with
      | some x => if x.st = .waitCredit then s else State.retryCredit f s1 t
      | none => State.retryCredit f s1 t
    | _, _ => s

def State.credited (s : State) (t : Nat) : State := State.retryCredit 64 s t

/-! ## Answers (R86, R95) -/

/-- A gather's data lands in the program area, unless its strand has halted. -/
def State.land (s : State) (t : Nat) (k : Tracker) (a : Nat) (bs : List Byte) (rowHit : Bool) : State :=
  match s.tileOwner t, s.strand t k.tag with
  | some p, some x =>
    if x.st = .halted then s
    else (s.padWrite t (s.programBanks p) a bs).setStrand t k.tag { x with rch := rowHit }
  | _, _ => s

/-- One request of a tile completes: its tracker frees and PENDING falls. -/
def State.tileDone (s : State) (t id : Nat) (k : Tracker) : State :=
  let s := (s.dropTracker id).requestDone t k.tag
  s.settleEntry s.entryFuel (.tile t)

/-- Data or an acknowledgement arrives at a tile. -/
def State.gatherResponse (s : State) (t id : Nat) (data : List Byte) (poison rowHit : Bool) : State :=
  match s.noc.trackers.find id with
  | none => s
  | some k =>
    if k.entry ≠ .tile t ∨ ¬ (k.phase = .out ∨ k.phase = .answered) ∨ k.landed then s
    else if k.timedOut then
      let u := s.dropTracker id
      (u.settleEntry u.entryFuel (.tile t)).credited t
    else if poison then ((s.haltStrand t k.tag haltPoison).tileDone t id k).credited t
    else if k.op ≠ .rdNa then (s.tileDone t id k).credited t
    else if !converts k.sfmt k.fmt then ((s.land t k (k.dst + k.base) data rowHit).tileDone t id k).credited t
    else if k.whole = k.len then ((s.land t k k.dst (s.readAs k data) rowHit).tileDone t id k).credited t
    else
      match s.noc.trackers.find? (fun e => e.2.entry == .tile t && e.2.group == k.group && e.2.landed) with
      | none => s.setTracker id { k with landed := true, data, phase := .answered }
      | some m =>
        let all := if k.base = 0 then data ++ m.2.data else m.2.data ++ data
        (((s.land t k k.dst (s.readAs k all) rowHit).tileDone t id k).tileDone t m.1 m.2).credited t

/-! ## SYNC, WAIT, YIELD and END (R87, R88, R93, R384) -/

/-- SYNC: an object outside the partition halts the strand, and no request leaves the tile. -/
def State.syncStage (s : State) (t n : Nat) : State :=
  match s.strand t n with
  | none => s
  | some x0 =>
    match s.issues t n 6 (stageOf (s.stageWord t x0.stage)).op with
    | none => s
    | some i =>
      let obj := (i.x.reg i.g.src0.reg).toNat
      let s := s.issued t n i.g
      if ¬ s.ownsObj i.p obj then s.haltAt i.p t n haltSync
      else (s.setStrand t n { i.x with st := .waitSync }).emit (.request 0x15
        { id := n, entry := .tile t, lab := s.tileLabel i.p i.x.queue, kgen := 0, hpa := 0, pgran := 0, len := 32, agent := 0
          fmt := 0, opx := i.g.op, obj, data := toLe 8 (i.x.reg i.g.src1.reg).toNat ++ toLe 8 i.g.aux, poison := 0 })

/-- The reply of a sync bank: the result to DST, ZF from EXPIRED, or a halt (R384). -/
def State.syncReply (s : State) (t n result reason : Nat) : State :=
  match s.strand t n, s.tileOwner t with
  | some x, some p =>
    if x.st ≠ .waitSync then s
    else if 2 ≤ reason then s.haltAt p t n haltSync
    else
      let g := stageOf (s.stageWord t x.stage)
      let x := if g.dst.space = 1 then x.setReg g.dst.reg (BitVec.ofNat 64 result) else x
      s.setStrand t n ({ x with zf := reason == reasonExpired }.complete g)
  | _, _ => s

/-- WAIT: on PENDING, or on the next edge. -/
def State.waitStage (s : State) (t n op : Nat) : State :=
  match s.issues t n 7 op with
  | none => s
  | some i =>
    let s := s.issued t n i.g
    if op = 0 then
      (if i.x.pending ≤ i.g.aux % 256 then s.setStrand t n (i.x.complete i.g)
       else s.setStrand t n { i.x with st := .waitMem, limit := some (i.g.aux % 256) })
    else s.setStrand t n { i.x with st := .waitMem, limit := none }

/-- YIELD: the strand is last in the next rotation. -/
def State.yieldStage (s : State) (t n : Nat) : State :=
  match s.issues t n 9 0 with
  | none => s
  | some i =>
    let s := (s.issued t n i.g).setStrand t n (i.x.complete i.g)
    { s with tile := { s.tile with yielded := s.tile.yielded.put t (s.tile.yielded.get t [] ++ [n]) [] } }

/-- Requests of a strand that ends before they do: their trackers free when they complete, and only the completion record
of their queue waits for them (R151): their tag becomes the queue's. -/
def State.detach (s : State) (t n tag : Nat) : State :=
  { s with noc := { s.noc with trackers := s.noc.trackers.mapVal (fun _ (k : Tracker) =>
      if k.entry = .tile t ∧ k.tag = n then { k with timedOut := true, tag } else k) } }

/-- END: the item completes. -/
def State.endStage (s : State) (t n : Nat) : State :=
  match s.issues t n 10 0 with
  | none => s
  | some i => ((s.issued t n i.g).detach t n (1024 + 64 * i.p + i.x.queue)).endStrand t n { i.x with status := 0 }

/-! ## Errors in tile memories (R97) -/

/-- The SYNC stage that a strand issues. -/
def State.syncIssue (s : State) (t n : Nat) : Option Issue :=
  match s.strand t n with
  | some x => s.issues t n 6 (stageOf (s.stageWord t x.stage)).op
  | none => none

/-- A stage reads the program area. -/
def Stage.readsPad (g : Stage) : Bool :=
  let scratch (o : Operand) : Bool := o.space == 2 || o.space == 3
  scratch g.src0 || scratch g.src1 || (g.unit == 2 && g.op == 3 && scratch g.dst)

/-- An uncorrectable error in the configuration store: every strand of the tile halts with ECC, and the tile refuses dispatch
until a new configuration is loaded. -/
def State.cfgLost (s : State) (p t : Nat) : State :=
  let s := (s.haltTile haltEcc t).tileUe p t Ev.tilCfgUe
  { s with tile := { s.tile with refuse := s.tile.refuse.set t () } }

/-- A stage issues and meets an error in a tile memory: a corrected one is reported and the stage runs; an uncorrectable one
halts its strand, or every strand of the tile, in its place. -/
def State.met (s : State) (t n : Nat) (e : TileErr) (i : Option Issue) (f : State → State) : State :=
  match e, i with
  | .clean, _ => f s
  | _, none => s
  | .cfgCe, some i => f (s.tileCe i.p t Ev.tilCfgCe)
  | .cfgUe, some i => s.cfgLost i.p t
  | .stateCe, some i => f (s.tileCe i.p t Ev.tilStateCe)
  | .stateUe, some i => (s.haltStrand t n haltEcc).tileUe i.p t Ev.tilStateUe
  | .sramCe, some i => f (if i.g.readsPad then s.tileCe i.p t Ev.tilSramCe else s)
  | .sramUe, some i => if i.g.readsPad then (s.issued t n i.g).haltAt i.p t n haltEcc else f s

/-! ## The commands -/

/-- NOP: no effect but the next stage (R81). -/
def State.nopStage (s : State) (t n : Nat) : State :=
  match s.issues t n 0 0 with
  | some i => s.stageDone t n i (.ok { x := i.x, writes := [] })
  | none => s

/-- The stages of a strand; each may meet an error in a tile memory (R97). -/
def execNop (t n : Nat) (e : TileErr) (s : State) : Host.Outcome State Fault Refusal :=
  .next (s.met t n e (s.issues t n 0 0) (fun s => s.nopStage t n))

def execScalarAdd (t n : Nat) (e : TileErr) (s : State) : Host.Outcome State Fault Refusal :=
  .next (s.met t n e (s.issues t n 1 0x00) (fun s => s.scalar2 t n 0x00 (fun a b => a + b)))
def execScalarSub (t n : Nat) (e : TileErr) (s : State) : Host.Outcome State Fault Refusal :=
  .next (s.met t n e (s.issues t n 1 0x01) (fun s => s.scalar2 t n 0x01 (fun a b => a - b)))
def execScalarAnd (t n : Nat) (e : TileErr) (s : State) : Host.Outcome State Fault Refusal :=
  .next (s.met t n e (s.issues t n 1 0x02) (fun s => s.scalar2 t n 0x02 (fun a b => a &&& b)))
def execScalarOr (t n : Nat) (e : TileErr) (s : State) : Host.Outcome State Fault Refusal :=
  .next (s.met t n e (s.issues t n 1 0x03) (fun s => s.scalar2 t n 0x03 (fun a b => a ||| b)))
def execScalarXor (t n : Nat) (e : TileErr) (s : State) : Host.Outcome State Fault Refusal :=
  .next (s.met t n e (s.issues t n 1 0x04) (fun s => s.scalar2 t n 0x04 (fun a b => a ^^^ b)))
def execScalarShl (t n : Nat) (e : TileErr) (s : State) : Host.Outcome State Fault Refusal :=
  .next (s.met t n e (s.issues t n 1 0x05) (fun s => s.scalar2 t n 0x05 (fun a b => a <<< (b.toNat % 64))))
def execScalarShr (t n : Nat) (e : TileErr) (s : State) : Host.Outcome State Fault Refusal :=
  .next (s.met t n e (s.issues t n 1 0x06) (fun s => s.scalar2 t n 0x06 (fun a b => a >>> (b.toNat % 64))))
def execScalarMul (t n : Nat) (e : TileErr) (s : State) : Host.Outcome State Fault Refusal :=
  .next (s.met t n e (s.issues t n 1 0x07) (fun s => s.scalar2 t n 0x07 (fun a b => a * b)))
def execScalarMin (t n : Nat) (e : TileErr) (s : State) : Host.Outcome State Fault Refusal :=
  .next (s.met t n e (s.issues t n 1 0x08) (fun s => s.scalar2 t n 0x08 (fun a b => if b.slt a then b else a)))
def execScalarMax (t n : Nat) (e : TileErr) (s : State) : Host.Outcome State Fault Refusal :=
  .next (s.met t n e (s.issues t n 1 0x09) (fun s => s.scalar2 t n 0x09 (fun a b => if a.slt b then b else a)))
def execScalarCmp (t n : Nat) (e : TileErr) (s : State) : Host.Outcome State Fault Refusal :=
  .next (s.met t n e (s.issues t n 1 0x0A) (fun s => s.scalarCmp t n))
def execScalarMov (t n : Nat) (e : TileErr) (s : State) : Host.Outcome State Fault Refusal :=
  .next (s.met t n e (s.issues t n 1 0x0B) (fun s => s.scalar2 t n 0x0B (fun a _ => a)))
def execScalarMovi (t n : Nat) (e : TileErr) (s : State) : Host.Outcome State Fault Refusal :=
  .next (s.met t n e (s.issues t n 1 0x0C) (fun s => s.scalarMovi t n))
def execScalarLd (t n : Nat) (e : TileErr) (s : State) : Host.Outcome State Fault Refusal :=
  .next (s.met t n e (s.issues t n 1 0x0D) (fun s => s.scalarLd t n))
def execScalarSt (t n : Nat) (e : TileErr) (s : State) : Host.Outcome State Fault Refusal :=
  .next (s.met t n e (s.issues t n 1 0x0E) (fun s => s.scalarSt t n))

def execVecAdd (t n : Nat) (e : TileErr) (s : State) : Host.Outcome State Fault Refusal :=
  .next (s.met t n e (s.issues t n 2 0x00) (fun s => s.vec2 t n 0x00 valAdd))
def execVecSub (t n : Nat) (e : TileErr) (s : State) : Host.Outcome State Fault Refusal :=
  .next (s.met t n e (s.issues t n 2 0x01) (fun s => s.vec2 t n 0x01 valSub))
def execVecMul (t n : Nat) (e : TileErr) (s : State) : Host.Outcome State Fault Refusal :=
  .next (s.met t n e (s.issues t n 2 0x02) (fun s => s.vec2 t n 0x02 (fun _ => valMul)))
def execVecFma (t n : Nat) (e : TileErr) (s : State) : Host.Outcome State Fault Refusal :=
  .next (s.met t n e (s.issues t n 2 0x03) (fun s => s.vecFma t n))
def execVecMax (t n : Nat) (e : TileErr) (s : State) : Host.Outcome State Fault Refusal :=
  .next (s.met t n e (s.issues t n 2 0x04) (fun s => s.vec2 t n 0x04 (fun _ => valMax)))
def execVecMin (t n : Nat) (e : TileErr) (s : State) : Host.Outcome State Fault Refusal :=
  .next (s.met t n e (s.issues t n 2 0x05) (fun s => s.vec2 t n 0x05 (fun _ => valMin)))
/-- ABS; of the most negative INT32 the result is free. -/
def execVecAbs (t n : Nat) (e : TileErr) (s : State) : Host.Outcome State Fault Refusal :=
  .next (s.met t n e (s.issues t n 2 0x06) (fun s => (s.vec1 t n 0x06 true (fun j => valSign false (Config.freeWord (s.fresh + j)))).drawn 256))
/-- NEG; of the most negative INT32 the result is free. -/
def execVecNeg (t n : Nat) (e : TileErr) (s : State) : Host.Outcome State Fault Refusal :=
  .next (s.met t n e (s.issues t n 2 0x07) (fun s => (s.vec1 t n 0x07 true (fun j => valSign true (Config.freeWord (s.fresh + j)))).drawn 256))
def execVecCvt (t n : Nat) (e : TileErr) (s : State) : Host.Outcome State Fault Refusal :=
  .next (s.met t n e (s.issues t n 2 0x08) (fun s => s.vecCvt t n))
def execVecSelect (t n : Nat) (e : TileErr) (s : State) : Host.Outcome State Fault Refusal :=
  .next (s.met t n e (s.issues t n 2 0x09) (fun s => s.vecSelect t n))
def execVecCmplt (t n : Nat) (e : TileErr) (s : State) : Host.Outcome State Fault Refusal :=
  .next (s.met t n e (s.issues t n 2 0x0A) (fun s => s.vecCmplt t n))
def execVecRsqrt (t n : Nat) (e : TileErr) (s : State) : Host.Outcome State Fault Refusal :=
  .next (s.met t n e (s.issues t n 2 0x0B) (fun s => s.vec1 t n 0x0B false (fun _ => valFn fpRsqrt)))
def execVecRcp (t n : Nat) (e : TileErr) (s : State) : Host.Outcome State Fault Refusal :=
  .next (s.met t n e (s.issues t n 2 0x0C) (fun s => s.vec1 t n 0x0C false (fun _ => valFn fpRcp)))
def execVecExp2 (t n : Nat) (e : TileErr) (s : State) : Host.Outcome State Fault Refusal :=
  .next (s.met t n e (s.issues t n 2 0x0D) (fun s => s.vec1 t n 0x0D false (fun _ => valFn fpExp2)))

def execRedSum (t n : Nat) (e : TileErr) (s : State) : Host.Outcome State Fault Refusal :=
  .next (s.met t n e (s.issues t n 3 0x00) (fun s => s.red t n 0x00 (fun i l => [treeSum (valAdd i.g.sat) treeDepth l])))
def execRedMax (t n : Nat) (e : TileErr) (s : State) : Host.Outcome State Fault Refusal :=
  .next (s.met t n e (s.issues t n 3 0x01) (fun s => s.red t n 0x01 (fun _ l => [valBest valMax l])))
def execRedMin (t n : Nat) (e : TileErr) (s : State) : Host.Outcome State Fault Refusal :=
  .next (s.met t n e (s.issues t n 3 0x02) (fun s => s.red t n 0x02 (fun _ l => [valBest valMin l])))
def execRedArgmax (t n : Nat) (e : TileErr) (s : State) : Host.Outcome State Fault Refusal :=
  .next (s.met t n e (s.issues t n 3 3) (fun s => s.redArgmax t n))
def execRedSort64 (t n : Nat) (e : TileErr) (s : State) : Host.Outcome State Fault Refusal :=
  .next (s.met t n e (s.issues t n 3 4) (fun s => s.redSort t n))
def execRedTopkMerge (t n : Nat) (e : TileErr) (s : State) : Host.Outcome State Fault Refusal :=
  .next (s.met t n e (s.issues t n 3 5) (fun s => s.redTopk t n))
def execRedPrefix (t n : Nat) (e : TileErr) (s : State) : Host.Outcome State Fault Refusal :=
  .next (s.met t n e (s.issues t n 3 0x06) (fun s => s.red t n 0x06 (fun i l => segSums (valAdd i.g.sat) [] l)))
def execRedSegsum (t n : Nat) (e : TileErr) (s : State) : Host.Outcome State Fault Refusal :=
  .next (s.met t n e (s.issues t n 3 0x07) (fun s => s.red t n 0x07 (fun i l =>
    segSums (valAdd i.g.sat) (segStarts (i.x.reg (i.g.aux % 8)) (laneFactor i.g.src0.fmt) i.g.count) l)))

def execGatherRead (t n : Nat) (e : TileErr) (s : State) : Host.Outcome State Fault Refusal :=
  .next (s.met t n e (s.issues t n 4 0) (fun s => s.memIssue t n 4 0))
def execScatterWrite (t n : Nat) (e : TileErr) (s : State) : Host.Outcome State Fault Refusal :=
  .next (s.met t n e (s.issues t n 5 0) (fun s => s.memIssue t n 5 0))
def execScatterStash (t n : Nat) (e : TileErr) (s : State) : Host.Outcome State Fault Refusal :=
  .next (s.met t n e (s.issues t n 5 1) (fun s => s.memIssue t n 5 1))
def execScatterReduceAdd (t n : Nat) (e : TileErr) (s : State) : Host.Outcome State Fault Refusal :=
  .next (s.met t n e (s.issues t n 5 2) (fun s => s.memIssue t n 5 2))
def execScatterReduceMax (t n : Nat) (e : TileErr) (s : State) : Host.Outcome State Fault Refusal :=
  .next (s.met t n e (s.issues t n 5 3) (fun s => s.memIssue t n 5 3))
def execSyncStage (t n : Nat) (e : TileErr) (s : State) : Host.Outcome State Fault Refusal :=
  .next (s.met t n e (s.syncIssue t n) (fun s => s.syncStage t n))
def execWaitPending (t n : Nat) (e : TileErr) (s : State) : Host.Outcome State Fault Refusal :=
  .next (s.met t n e (s.issues t n 7 0) (fun s => s.waitStage t n 0))
def execWaitEdge (t n : Nat) (e : TileErr) (s : State) : Host.Outcome State Fault Refusal :=
  .next (s.met t n e (s.issues t n 7 1) (fun s => s.waitStage t n 1))
def execSendStage (t n : Nat) (e : TileErr) (s : State) : Host.Outcome State Fault Refusal :=
  .next (s.met t n e (s.issues t n 8 0) (fun s => s.memIssue t n 8 0))
def execYieldStage (t n : Nat) (e : TileErr) (s : State) : Host.Outcome State Fault Refusal :=
  .next (s.met t n e (s.issues t n 9 0) (fun s => s.yieldStage t n))
def execEndStage (t n : Nat) (e : TileErr) (s : State) : Host.Outcome State Fault Refusal :=
  .next (s.met t n e (s.issues t n 10 0) (fun s => s.endStage t n))

def execGatherResponse (t id : Nat) (data : List Byte) (poison rowHit : Bool) (s : State) : Host.Outcome State Fault Refusal :=
  .next (s.gatherResponse t id data poison rowHit)

def execSyncReply (t n result reason : Nat) (s : State) : Host.Outcome State Fault Refusal := .next (s.syncReply t n result reason)

/-- The lookup answer reaches the entry point (R248); trackers that a refusal frees go to waiting strands. -/
def execXlateAnswer (e : Entry) (p g : Nat) (s : State) : Host.Outcome State Fault Refusal :=
  .next (match e with
    | .tile t => (s.xlateAnswer e p g).credited t
    | _ => s.xlateAnswer e p g)

/-- ABORT_ALL: every live strand of the running context halts with ABORT (R95, R105). -/
def State.abortAll (s : State) (p : Nat) : State := s.each (s.tilesOf p) (fun s t => s.haltTile haltAbort t)

def execTilAbortAll (p : Nat) (s : State) : Host.Outcome State Fault Refusal := .next (s.abortAll p)

/-- A word read and checked by the patrol scrubber (R74, R97): 0 clean, 1 corrected, 2 uncorrectable. -/
def execPatrolScrubVisit (t bank row err : Nat) (s : State) : Host.Outcome State Fault Refusal :=
  .next (if s.rd .tilPatrolEn = 0 ∨ err = 0 then s
    else if err = 1 then
      match s.tileOwner t with
      | some p => s.tileCe p t Ev.tilSramCe
      | none => s
    else if s.tile.bad.contains (t, bank, row) then s
    else { s with tile := { s.tile with bad := s.tile.bad ++ [(t, bank, row)] } })

/-! ## Clocks and voltages (R104, R599, R600) -/

/-- The clock target of a partition: the lowest of its setting, the operator's cap and the limit of thermal protection. -/
def State.clockTarget (s : State) (p : Nat) : Nat := min (min (s.rd .tilCclkMhz 0 p) (s.rd .tilCclkCapMhz 0 p)) (s.rd .pwrLimitMhz 0 p)

/-- The tile island of a plot. -/
def islandOf (p : Nat) : Nat := 4 * (p / 16) + p % 8 / 2

/-- The highest clock target among the partitions that own an island's plots; 600 MHz needs the lowest voltage. -/
def State.islandTarget (s : State) (i : Nat) : Nat :=
  (s.plots.where (fun q _ => islandOf q == i)).foldl (fun m (e : Nat × Nat) => max m (s.clockTarget e.2)) 600

/-- The clock that an island's voltage serves. -/
def State.islandMhz (s : State) (i : Nat) : Nat := s.tile.islands.get i 600

def State.setIsland (s : State) (i v : Nat) : State := { s with tile := { s.tile with islands := s.tile.islands.put i v 600 } }

/-- The clock that every island of a partition's plots serves. -/
def State.voltageMhz (s : State) (p : Nat) : Nat := (s.plotsOf p).foldl (fun m q => min m (s.islandMhz (islandOf q))) 1300

/-- The clocks at an edge (R104): a target that the voltages serve takes effect; then the voltages fall to their targets. -/
def State.clockEdge (s : State) : State :=
  let s := s.each (List.range 32) (fun s p =>
    let t := s.clockTarget p
    let v := s.voltageMhz p
    s.wr .tilCclkEffective (if t ≤ v then t else min (min t (s.rd .tilCclkEffective 0 p)) v) 0 p)
  s.each (List.range 16) (fun s i => s.setIsland i (min (s.islandMhz i) (s.islandTarget i)))

/-- A rising island voltage reaches its target (R104, R600). A slew stops where it is at a power failure (R614). -/
def execIslandVoltageReady (island : Nat) (s : State) : Host.Outcome State Fault Refusal :=
  .next (if s.startup.pwrFail ∨ 16 ≤ island then s else s.setIsland island (max (s.islandMhz island) (s.islandTarget island)))

end Sys2Proof.Machine
end

