-- ==== Sys2Proof/Machine/Functions.lean ====
section
/-! DEFINITION. Stock functions: rows, lists and the result of one item of each function (R147–R150), and the check
of a configuration image at its load (R80). -/

namespace Sys2Proof.Machine

/-! ## Reading for an item -/

/-- What an item computes with: the spans that it reads are kept, and a fail code of R150 ends it. -/
abbrev ItemM := ExceptT Nat (StateM (List (Nat × Nat)))

def failIndex : Nat := 0x10
def failOrder : Nat := 0x11
def failShape : Nat := 0x12

/-- The parts of `n` bytes at a PPA that lie in one granule each. -/
def granuleParts (ppa n : Nat) : List (Nat × Nat) :=
  if n = 0 then []
  else (List.range ((ppa + n - 1) / Config.granule - ppa / Config.granule + 1)).map (fun i =>
    let a := max ppa ((ppa / Config.granule + i) * Config.granule)
    let b := min (ppa + n) ((ppa / Config.granule + i + 1) * Config.granule)
    (a, b - a))

/-- `n` bytes at a PPA of a partition: data and poison, or none where some granule is not mapped. -/
def State.readSpan (s : State) (p ppa n : Nat) : Option (List Byte × Bool) :=
  (granuleParts ppa n).foldl (fun (r : Option (List Byte × Bool)) e =>
    match r, s.readPpa p e.1 e.2 with
    | some (d, bad), some (d', bad') => some (d ++ d', bad || bad')
    | _, _ => none) (some ([], false))

/-- Bytes that an item reads: an unmapped PPA fails it with XLATE, poison with POISON (R94). -/
def State.itemRead (s : State) (p ppa n : Nat) : ItemM (List Byte) := do
  modify (fun l => l ++ [(ppa, n)])
  match s.readSpan p ppa n with
  | none => throw haltXlate
  | some (d, bad) => if bad then throw haltPoison else pure d

/-- An INT32 of a list. -/
def State.itemInt (s : State) (p base i : Nat) : ItemM Int := do
  let b ← s.itemRead p (base + 4 * i) 4
  pure (signed 32 (leNat b))

/-! ## GEOM (R147) -/

structure Geom where
  elems : Nat
  sectors : Nat
  fa : Nat
  fb : Nat
  mode : Nat
  stoch : Bool
  weighted : Bool
  stash : Bool
  site : Nat
  deriving DecidableEq, Repr

def geomOf (v : Nat) : Geom :=
  { elems := field v 63 48, sectors := field v 47 36, fa := field v 35 32, fb := field v 31 28, mode := field v 27 24
    stoch := v.testBit 23, weighted := v.testBit 22, stash := v.testBit 21, site := field v 20 18 }

/-- Bytes of a dense row. -/
def denseBytes (fmt n : Nat) : Nat := operandLen fmt n

/-- The FP32 pattern of a value. -/
def patternF (v : Val) : Nat := narrowElem fmtFp32 false .nearest v

def valueF (v : Nat) : Val := .f (decodeFloat fp32 v)

/-- The first `n` values; values that a stored row does not hold are free. -/
def State.fullRow (s : State) (n : Nat) (vs : List Val) : List Val :=
  vs.take n ++ (List.range (n - vs.length)).map (fun i => valueF ((Config.freeWord (s.fresh + i)).toNat % 2 ^ 32))

/-- The granule of a row is typed: its storage attribute, else SHAPE. -/
def State.typedAt (s : State) (p ppa : Nat) : ItemM Nat :=
  match s.sfmtAt p ppa with
  | none => throw haltXlate
  | some a => if a / 16 = 0 then throw failShape else pure a

/-- Every 256 B part of a converted row meets R133. -/
def rowParts (attr off len : Nat) : Bool :=
  (List.range ((len + 255) / 256)).all (fun i => extentOk attr (off + 256 * i) (min 256 (len - 256 * i)))

/-- Row `r` of a table: its storage attribute and its values, delivered in FP32. -/
def State.tableRow (s : State) (p table : Nat) (g : Geom) (r : Nat) : ItemM (List Val) := do
  let a := table + r * 32 * g.sectors
  let attr ← s.typedAt p a
  if converts attr fmtFp32 ∧ ¬ rowParts attr (a % Config.granule) (32 * g.sectors) then throw haltAlign
  else
    let b ← s.itemRead p a (32 * g.sectors)
    pure (s.fullRow g.elems ((storedVals attr fmtFp32 b).map (fun v => valueF (patternF v))))

/-- A dense row in a stated format. -/
def State.denseRow (s : State) (p base fmt n i dst : Nat) : ItemM (List Val) := do
  let b ← s.itemRead p (base + i * denseBytes fmt n) (denseBytes fmt n)
  pure (operandVals fmt dst n b)

/-- A dense row of a source, which fails in a RAW granule. -/
def State.sourceRow (s : State) (p base fmt n i dst : Nat) : ItemM (List Val) := do
  let _ ← s.typedAt p (base + i * denseBytes fmt n)
  s.denseRow p base fmt n i dst

/-- The entries of bag or segment `j`: first and end. Offsets that decrease fail with SHAPE. -/
def State.span (s : State) (p offsets j : Nat) : ItemM (Nat × Nat) := do
  let a ← s.itemInt p offsets j
  let b ← s.itemInt p offsets (j + 1)
  if a < 0 ∨ b < a then throw failShape else pure (a.toNat, b.toNat)

/-! ## Writing -/

/-- A write of an item: operation, stated format and OPX of a reduce, PPA and stored bytes. -/
structure ItemWrite where
  op : ReqOp
  fmt : Nat
  opx : Nat
  ppa : Nat
  data : List Byte
  deriving DecidableEq, Repr

/-- How an item rounds a narrowing write: stochastic draws are free, as is SAT of a stock configuration. -/
def State.itemRnd (s : State) (g : Geom) (i : Nat) : Rnd :=
  if g.stoch then .stoch ((Config.freeWord (s.fresh + 1024 + i)).toNat % 65536) else .nearest

/-- Free words that an item may use. -/
def itemDraws : Nat := 1024 + 65536

/-- Values written densely in a format. -/
def State.denseOut (s : State) (g : Geom) (p fmt ppa : Nat) (vs : List Val) : ItemWrite :=
  { op := if g.stash then .stash else .write, fmt, opx := 0, ppa
    data := operandBytes fmt (Config.stockSat fmt) (s.fit p) (s.itemRnd g) vs }

/-- Values written into a typed row. -/
def State.rowOut (s : State) (g : Geom) (p attr ppa : Nat) (vs : List Val) : ItemWrite :=
  { op := if g.stash then .stash else .write, fmt := 0, opx := 0, ppa
    data := storedBytes attr (Config.stockSat (attr / 16)) (s.fit p) (s.itemRnd g) vs }

/-! ## The functions (R149) -/

/-- Sequential FP32 accumulation in row order. -/
def sumRows : List (List Val) → List Val
  | [] => []
  | r :: rs => rs.foldl (fun a x => (a.zip x).map (fun (v : Val × Val) => valAdd false v.1 v.2)) r

/-- MAX or MIN over rows. -/
def bestRows (f : Val → Val → Val) : List (List Val) → List Val
  | [] => []
  | r :: rs => rs.foldl (fun a x => (a.zip x).map (fun (v : Val × Val) => f v.1 v.2)) r

/-- Weighted rows: the first product, then one multiply-add for each row. -/
def sumWeighted : List (Val × List Val) → List Val
  | [] => []
  | r :: rs => rs.foldl (fun a x => (a.zip x.2).map (fun (v : Val × Val) => valDot false [(x.1, v.2)] v.1))
      (r.2.map (fun v => valMul r.1 v))

/-- EMB_BAG: one bag pooled. An empty bag is zeros. -/
def pool (g : Geom) (rows : List (Val × List Val)) : List Val :=
  if rows.isEmpty then List.replicate g.elems (valueF 0)
  else
    let sum := if g.weighted then sumWeighted rows else sumRows (rows.map (·.2))
    match g.mode with
    | 0 => sum
    | 1 => sum.map (fun v => valueF (Config.mean (patternF v) rows.length))
    | _ => bestRows valMax (rows.map (·.2))

/-- Rows named by number, each below ROWS. -/
def State.rowsOf (s : State) (p table : Nat) (g : Geom) (limit : Nat) : List (Val × Nat) → ItemM (List (Val × List Val))
  | [] => pure []
  | (w, r) :: rest => do
    if limit ≤ r then throw failIndex
    else
      let v ← s.tableRow p table g r
      let vs ← State.rowsOf s p table g limit rest
      pure ((w, v) :: vs)

/-- EMB_BAG, one bag. -/
def State.itemBag (s : State) (p : Nat) (P : List Nat) (j : Nat) : ItemM (List ItemWrite) := do
  let g := geomOf (P.getD 1 0)
  let e ← s.span p (P.getD 3 0) j
  let b ← s.itemRead p (P.getD 2 0 + 8 * e.1) (8 * (e.2 - e.1))
  let ix := (List.range (e.2 - e.1)).map (fun i => (valueF (leNat ((b.drop (8 * i + 4)).take 4)), leNat ((b.drop (8 * i)).take 4)))
  let rows ← s.rowsOf p (P.getD 0 0) g (field (P.getD 5 0) 63 32) ix
  pure [s.denseOut g p g.fa (P.getD 4 0 + j * denseBytes g.fa g.elems) (pool g rows)]

/-- The optimisers' hyperparameters as FP32 patterns, the step and ROWS. -/
structure Hyper where
  lr : Nat
  b1 : Nat
  b2 : Nat
  eps : Nat
  wd : Nat
  t : Nat
  rows : Nat
  deriving DecidableEq, Repr

def hyperOf (b : List Byte) : Hyper :=
  let w (i : Nat) := leNat ((b.drop (4 * i)).take 4)
  { lr := w 0, b1 := w 1, b2 := w 2, eps := w 3, wd := w 4, t := w 5, rows := w 6 }

/-- Bytes of optimiser state per row. -/
def optBytes (mode n : Nat) : Nat :=
  match mode with
  | 0 => 0
  | 1 => 4 * n
  | 2 => 4
  | _ => 8 * n

/-- One optimiser step of a row: the new weights and the new state, as FP32 patterns. The results lie within the bounds
of R136, and are otherwise free. -/
def optimise (mode : Nat) (h : Hyper) (w g st : List Nat) : List Nat × List Nat :=
  let n := w.length
  let at' (l : List Nat) (i : Nat) := l.getD i 0
  match mode with
  | 0 => ((List.range n).map (fun i => Config.optimiser 0 0 [at' w i, at' g i, h.lr, h.wd]), [])
  | 1 =>
    let u := (List.range n).map (fun i => Config.optimiser 1 1 [at' st i, at' g i, at' w i, h.b1, h.wd])
    ((List.range n).map (fun i => Config.optimiser 1 0 [at' w i, at' u i, h.lr]), u)
  | 2 =>
    let G := Config.optimiser 2 1 (at' st 0 :: g)
    ((List.range n).map (fun i => Config.optimiser 2 0 [at' w i, at' g i, G, h.lr, h.eps]), [G])
  | _ =>
    let m := (List.range n).map (fun i => Config.optimiser 3 1 [at' st i, at' g i, h.b1])
    let v := (List.range n).map (fun i => Config.optimiser 3 2 [at' st (n + i), at' g i, h.b2])
    ((List.range n).map (fun i => Config.optimiser 3 0 [at' w i, at' m i, at' v i, h.lr, h.b1, h.b2, h.eps, h.wd, h.t]), m ++ v)

/-- Little-endian words of 32 bits. -/
def words32 (b : List Byte) : List Nat := (List.range (b.length / 4)).map (fun i => leNat ((b.drop (4 * i)).take 4))

/-- A row and its optimiser state updated with a gradient. -/
def State.updateRow (s : State) (p table : Nat) (g : Geom) (h : Hyper) (stBase r : Nat) (grad : List Val) : ItemM (List ItemWrite) := do
  let w ← s.tableRow p table g r
  let n := optBytes g.mode g.elems
  let st ← s.itemRead p (stBase + r * n) n
  let q := optimise g.mode h (w.map patternF) (grad.map patternF) (words32 st)
  let attr ← s.typedAt p (table + r * 32 * g.sectors)
  pure ([s.rowOut g p attr (table + r * 32 * g.sectors) (q.1.map valueF)]
    ++ (if n = 0 then [] else
      [{ op := .write, fmt := 0, opx := 0, ppa := stBase + r * n, data := q.2.flatMap (fun v => toLe 4 v) }]))

/-- UPDATE, one row update. -/
def State.itemUpdate (s : State) (p : Nat) (P : List Nat) (i : Nat) : ItemM (List ItemWrite) := do
  let g := geomOf (P.getD 1 0)
  let hb ← s.itemRead p (P.getD 5 0) 32
  let h := hyperOf hb
  let r ← s.itemInt p (P.getD 3 0) i
  let before ← if i = 0 then pure (-1 : Int) else s.itemInt p (P.getD 3 0) (i - 1)
  if h.rows ≤ i ∨ r < 0 ∨ (h.rows : Int) ≤ r then throw failIndex
  else if i ≠ 0 ∧ r ≤ before then throw failOrder
  else
    let grad ← s.denseRow p (P.getD 2 0) g.fa g.elems i fmtFp32
    s.updateRow p (P.getD 0 0) g h (P.getD 4 0) r.toNat grad

/-- The reduce-at-home writes of a source row into a stored row, one for each 256 B of it (R135). -/
def reduceWrites (attr fmt opx ppa elems : Nat) (src : List Byte) : List ItemWrite :=
  let len := if isMx (attr / 16) then elems / (32 * packBlocks attr) * packBytes attr else elems * elemBits (attr / 16) / 8
  (List.range ((len + 255) / 256)).map (fun i =>
    let n := min 256 (len - 256 * i)
    let from' := operandLen fmt (extentElems attr (256 * i))
    { op := .reduce, fmt, opx, ppa := ppa + 256 * i
      data := (src.drop from').take (operandLen fmt (extentElems attr n)) })

/-- REDUCE, one source row. -/
def State.itemReduce (s : State) (p : Nat) (P : List Nat) (i : Nat) : ItemM (List ItemWrite) := do
  let g := geomOf (P.getD 1 0)
  let r ← s.itemInt p (P.getD 3 0) i
  if r < 0 ∨ (field (P.getD 5 0) 63 32 : Int) ≤ r then throw failIndex
  else
    let a := P.getD 0 0 + r.toNat * 32 * g.sectors
    let attr ← s.typedAt p a
    let n := denseBytes g.fa g.elems
    let _ ← s.typedAt p (P.getD 2 0 + i * n)
    if ¬ rowParts attr (a % Config.granule) (32 * g.sectors) then throw haltAlign
    else
      let src ← s.itemRead p (P.getD 2 0 + i * n) n
      pure (reduceWrites attr g.fa g.mode a g.elems src)

/-- Keys of a segment with their bit patterns and values. -/
def State.keysOf (s : State) (p keys fmt values : Nat) (index : Bool) (e : Nat × Nat) : ItemM (List (Val × Nat × Nat)) := do
  let n := e.2 - e.1
  let k ← s.itemRead p (keys + 4 * e.1) (4 * n)
  let v ← if index then pure ((List.range n)) else do
    let b ← s.itemRead p (values + 4 * e.1) (4 * n)
    pure (words32 b)
  pure ((words32 k).zipIdx.map (fun (x : Nat × Nat) => (expandElem fmt fmt x.1, x.1, v.getD x.2 0)))

/-- TOPK, one segment. -/
def State.itemTopk (s : State) (p : Nat) (P : List Nat) (j : Nat) : ItemM (List ItemWrite) := do
  let g := geomOf (P.getD 1 0)
  let e ← s.span p (P.getD 2 0) j
  let ks ← s.keysOf p (P.getD 0 0) g.fa (P.getD 3 0) (P.getD 3 0 == 0) e
  let top := ((sortDesc ks).map (·.2)).take g.elems
  let low := if g.fa = fmtInt32 then 0x80000000 else 0xFF800000
  let top := top ++ List.replicate (g.elems - top.length) (low, 0xFFFFFFFF)
  let op := if g.stash then ReqOp.stash else .write
  pure [{ op, fmt := 0, opx := 0, ppa := P.getD 4 0 + j * 4 * g.elems, data := top.flatMap (fun x => toLe 4 x.1) },
        { op, fmt := 0, opx := 0, ppa := P.getD 5 0 + j * 4 * g.elems, data := top.flatMap (fun x => toLe 4 x.2) }]

/-- Rows of a segment, in row order. -/
def State.sourceRows (s : State) (p base fmt n : Nat) : List Nat → ItemM (List (List Val))
  | [] => pure []
  | r :: rest => do
    let v ← s.sourceRow p base fmt n r fmtFp32
    let vs ← State.sourceRows s p base fmt n rest
    pure (v :: vs)

/-- SEG_REDUCE, one segment of rows. What an empty segment gives is free. -/
def State.itemSeg (s : State) (p : Nat) (P : List Nat) (j : Nat) : ItemM (List ItemWrite) := do
  let g := geomOf (P.getD 1 0)
  let e ← s.span p (P.getD 2 0) j
  let rows ← s.sourceRows p (P.getD 0 0) g.fa g.elems ((List.range (e.2 - e.1)).map (fun i => e.1 + i))
  let v := match g.mode with
    | 0 => sumRows rows
    | 1 => bestRows valMax rows
    | _ => bestRows valMin rows
  pure [s.denseOut g p g.fb (P.getD 4 0 + j * denseBytes g.fb g.elems) (s.fullRow g.elems v)]

/-- Stable insertion for ascending order, NaN lowest. -/
def insertAsc {α : Type} (x : Val × α) : List (Val × α) → List (Val × α)
  | [] => [x]
  | y :: r => if keyLt x.1 y.1 then x :: y :: r else y :: insertAsc x r

/-- SORT, one segment of at most 65,536 keys. -/
def State.itemSort (s : State) (p : Nat) (P : List Nat) (j : Nat) : ItemM (List ItemWrite) := do
  let g := geomOf (P.getD 1 0)
  let e ← s.span p (P.getD 2 0) j
  if 65536 < e.2 - e.1 then throw failShape
  else
    let ks ← s.keysOf p (P.getD 0 0) g.fa (P.getD 3 0) false e
    let out := (if g.mode = 0 then sortDesc ks else ks.foldl (fun a x => insertAsc x a) []).map (·.2)
    let op := if g.stash then ReqOp.stash else .write
    pure [{ op, fmt := 0, opx := 0, ppa := P.getD 4 0 + 4 * e.1, data := out.flatMap (fun x => toLe 4 x.1) },
          { op, fmt := 0, opx := 0, ppa := P.getD 5 0 + 4 * e.1, data := out.flatMap (fun x => toLe 4 x.2) }]

/-- PACK, one row. -/
def State.itemPack (s : State) (p : Nat) (P : List Nat) (i : Nat) : ItemM (List ItemWrite) := do
  let g := geomOf (P.getD 1 0)
  if field (P.getD 5 0) 63 32 ≤ i then throw failIndex
  else
    let a := P.getD 4 0 + i * 32 * g.sectors
    let attr ← s.typedAt p a
    if converts attr g.fa ∧ ¬ rowParts attr (a % Config.granule) (32 * g.sectors) then throw haltAlign
    else
      let v ← s.sourceRow p (P.getD 0 0) g.fa g.elems i (attr / 16)
      pure [s.rowOut g p attr a v]

/-! ## The check of a configuration (R80) -/

/-- The operations of a unit (R81–R89). -/
def opsOf : Nat → Nat
  | 0 => 1 | 1 => 15 | 2 => 14 | 3 => 8 | 4 => 1 | 5 => 4 | 6 => 15 | 7 => 2 | 8 => 1 | 9 => 1 | 10 => 1
  | _ => 0

/-- Operands that a stage uses: SRC0, SRC1, DST. -/
def usesOperands (g : Stage) : Bool × Bool × Bool :=
  match g.unit with
  | 1 => match g.op with
    | 0x0A => (true, true, false)
    | 0x0B => (true, false, true)
    | 0x0C => (false, false, true)
    | 0x0D => (true, false, true)
    | 0x0E => (true, false, true)
    | _ => (true, true, true)
  | 2 => (true, decide (g.op < 6) || g.op == 9 || g.op == 10, true)
  | 3 => (true, g.op == 4 || g.op == 5, true)
  | 4 => (true, false, true)
  | 5 => (true, true, false)
  | 6 => (true, true, true)
  | 8 => (false, true, true)
  | _ => (false, false, false)

/-- An operand field's reserved values (R78), and RAW only where no element is taken. -/
def operandOk (g : Stage) (raw : Nat) (o : Operand) : Bool :=
  decide (o.space ≤ 4) && decide (o.reg ≤ 6) && decide (o.fmt ≤ 11) && (raw % 16 == 0) &&
  (o.fmt != 0 || o.space == 0 || (g.unit != 2 && g.unit != 3) || (g.unit == 2 && g.op == 10))

/-- A vector operand of `n` elements: an MX operand is no register and holds whole blocks (R79, R111). -/
def mxOk (o : Operand) (n : Nat) : Bool := !isMx o.fmt || (o.space != 1 && n % 32 == 0)

/-- Lane factor of an operand; a register is exempt. -/
def factorOf (o : Operand) : Option Nat := if o.space = 1 then none else some (laneFactor o.fmt)

def sameFactor (os : List Operand) : Bool :=
  match os.filterMap factorOf with
  | [] => true
  | f :: r => r.all (· == f)

/-- The rules of R124 and R128 for a stage of lanes. -/
def lanesOk (g : Stage) : Bool :=
  let c := g.count
  let f0 := laneFactor g.src0.fmt
  let fd := laneFactor g.dst.fmt
  let whole (o : Operand) : Bool := mxOk o (c * laneFactor o.fmt)
  if g.unit = 2 then
    match g.op with
    | 0x03 => sameFactor [g.src0, g.src1] && (fd == 1 || sameFactor [g.src0, g.src1, g.dst]) && whole g.src0 && whole g.src1 && whole g.dst && g.aux == 0
    | 0x08 => mxOk g.src0 (c * min f0 fd) && mxOk g.dst (c * min f0 fd) && g.aux % 4 < max 1 (max f0 fd / max 1 (min f0 fd)) && g.aux / 4 == 0
    | 0x09 => sameFactor [g.src0, g.src1, g.dst] && whole g.src0 && whole g.src1 && whole g.dst && g.aux % 8 != 7 && g.aux / 8 == 0
    | 0x0A => g.dst.space == 1 && (factorOf g.src0).getD 1 == 1 && (factorOf g.src1).getD 1 == 1 && g.aux == 0
    | op => sameFactor ([g.src0, g.dst] ++ (if op < 6 then [g.src1] else [])) && whole g.src0 && whole g.dst &&
        (decide (6 ≤ op) || whole g.src1) && g.aux == 0
  else if g.unit = 3 then
    whole g.src0 &&
    (match g.op with
     | 4 => f0 == 1 && laneFactor g.src1.fmt == 1
     | 5 => f0 == 1 && laneFactor g.src1.fmt == 1
     | 6 => f0 == fd && whole g.dst
     | 7 => f0 == fd && whole g.dst && g.aux % 8 != 7
     | _ => true)
  else true

/-- The spaces that a unit's operands may name. -/
def spacesOk (g : Stage) : Bool :=
  match g.unit with
  | 1 => (match g.op with
    | 0x0A => true
    | 0x0D => g.dst.space == 1 && (g.src0.space == 2 || g.src0.space == 3)
    | 0x0E => g.src0.space == 1 && (g.dst.space == 2 || g.dst.space == 3)
    | _ => g.dst.space != 4)
  | 2 => g.dst.space != 4
  | 3 => g.dst.space != 4
  | 4 => g.src0.space == 1 && (g.dst.space == 2 || g.dst.space == 3)
  | 5 => g.src0.space == 1 && (g.src1.space == 2 || g.src1.space == 3 || g.src1.space == 4)
  | 6 => g.src0.space == 1 && g.src1.space ≤ 1 && g.dst.space ≤ 1
  | 8 => g.dst.space == 1 && (g.src1.space == 2 || g.src1.space == 3 || g.src1.space == 4)
  | _ => true

/-- A stage word of an image of `stages` stages passes the check. GATHER and SCATTER move 32–256 B (R85). -/
def stageOk (stages w : Nat) : Bool :=
  let g := stageOf w
  let u := usesOperands g
  field w 47 0 == 0 && !w.testBit 240 && field w 214 208 == 0 && g.cond != 7 && decide (g.unit ≤ 10) &&
  decide (g.op < opsOf g.unit) && decide (g.nextA < stages) && (g.cond == 0 || decide (g.nextB < stages)) &&
  (!(g.loopEn || g.cond == 5) || decide (g.loopReg ≤ 6)) &&
  operandOk g (field w 179 176) g.src0 && operandOk g (field w 147 144) g.src1 && operandOk g (field w 115 112) g.dst &&
  (!u.1 || g.src0.space != 0) && (!u.2.1 || g.src1.space != 0 || g.unit == 6) && (!u.2.2 || g.dst.space != 0 || g.unit == 6) &&
  spacesOk g && lanesOk g && ((g.unit != 4 && g.unit != 5) || decide (field g.aux 63 60 ≤ 7))

/-- A configuration image for tiles whose program area has `units` units of 64 B passes the check of R80. -/
def configOk (units : Nat) (img : AMap Byte) : Bool :=
  let h := leNat (sparseBytes img 0x800 8)
  let stages := field h 57 51
  decide (1 ≤ stages) && decide (stages ≤ 64) && decide (field h 63 58 < stages) &&
  decide (1 ≤ field h 50 41) && decide (field h 50 41 ≤ 512) && decide (field h 40 30 ≤ 1536) &&
  decide (field h 29 19 + field h 50 41 * field h 40 30 ≤ units) &&
  (List.range stages).all (fun i => stageOk stages (leNat (sparseBytes img (32 * i) 32)))

end Sys2Proof.Machine
end

