-- ==== Sys2Proof/Machine/Keys.lean ====
section
/-! DEFINITION. Key slots, measurements and the policies bound to a tenant's keys (R432, R433, R436–R438, R446, R453). -/

namespace Sys2Proof.Machine

/-! ## Drawn values (R433) -/

/-- 256 bits drawn from the random bit generator: a free value. -/
def State.draw256 (s : State) : Nat :=
  (Config.freeWord s.fresh).toNat + 2 ^ 64 * (Config.freeWord (s.fresh + 1)).toNat
    + 2 ^ 128 * (Config.freeWord (s.fresh + 2)).toNat + 2 ^ 192 * (Config.freeWord (s.fresh + 3)).toNat

/-- 128 bits drawn. -/
def State.draw128 (s : State) : Nat :=
  (Config.freeWord s.fresh).toNat + 2 ^ 64 * (Config.freeWord (s.fresh + 1)).toNat

/-! ## Key slots (R432) -/

def slotMem (p g : Nat) : Nat := 16 * p + g % 2
def slotCkpt (p : Nat) : Nat := 16 * p + 2
def slotPak (p : Nat) : Nat := 16 * p + 5
def slotContent (p i : Nat) : Nat := 16 * p + 6 + i
def slotScrub (p : Nat) : Nat := 16 * p + 14
def slotDevid : Nat := 512
def slotAlias : Nat := 513
def slotPair : Nat := 514

/-- The slots that hold a tenant's keys. -/
def tenantSlots (p : Nat) : List Nat := [16 * p + 2, 16 * p + 3, 16 * p + 4] ++ (List.range 8).map (slotContent p)

def State.setKey (s : State) (k : Nat) (x : KeySlot) : State := { s with sec := { s.sec with slots := s.sec.slots.set k x } }

/-- A slot destroyed, with every copy on the key bus (R428); a checkpoint export under it ends (R488). -/
def State.destroyKey (s : State) (k : Nat) : State :=
  let t : State := { s with sec := { s.sec with slots := s.sec.slots.erase k } }
  if k = slotCkpt (k / 16) then t.exportEndOf (k / 16) xpPolicy else t

/-- A key drawn into a slot. -/
def State.drawKey (s : State) (k : Nat) : State := (s.setKey k { material := s.draw256 }).drawn 4

/-- The security engine offers its services (R452, R453). -/
def State.seUp (s : State) : Bool := s.rd .secState == seOperational

/-! ## Sites of a partition -/

/-- Partitions that a site serves. -/
def State.sharing (s : State) (k : Nat) : Nat := popCount (s.rd .uciBind k) 32

/-! ## Measurements (R446) -/

/-- The configuration of a partition at its seal, in index order. -/
def State.sealContent (s : State) (p : Nat) : List Nat :=
  [s.rd .ptnPlots p, s.rd .ptnGranules p, s.rd .ptnCtxCount p, s.rd .ptnPostBase p]
  ++ (List.range 8).map (fun w => s.rd .ptnWindow p w) ++ (List.range 8).map (fun w => s.rd .ptnExport p w)
  ++ [s.rd .pdxTenantRoot p]
  ++ ([Reg.beatTimingMode, .hbmLineCode, .jayPtnRange, .tilRowcacheKib, .tilColbufKib, .tilAcceptDegraded, .tilSaveBase,
       .cohPtnLevel, .cohSfWays].map (fun r => s.rd r 0 p))
  ++ (List.range 8).map (fun k => s.rd .uciAcceptUnattested k p)
  ++ ([Reg.soxPtnConnMax, .soxMirror, .colSyncMap, .hepHostCkpt, .secChipletPolicy, .secTenantKey].map (fun r => s.rd r 0 p))

/-- What is measured of a bound site. -/
def State.siteContent (s : State) (p k : Nat) : List Nat :=
  [k, s.rd .uciProtocol k, s.rd .uciAttestState k, s.rd .uciCohRole k p, (if s.sharing k > 1 then 1 else 0), s.sharing k,
   (s.site k).alg, (s.site k).chain, (s.site k).meas]

/-- The HTL level fixed for a partition at its seal (R294). -/
def State.ptnHtlLevel (s : State) (p : Nat) : Nat := ((s.sitesOf p).map (fun k => s.rd .htlPtnLevel k p)).foldl max 0

/-- The windows of a partition that are open. -/
def State.windowContent (s : State) (p : Nat) : List Nat :=
  (bitsOf (s.rd .ptnWindowState p) 8).map (fun w => s.rd .ptnWindow p w)
  ++ (List.range 8).map (fun w => s.rd .ptnExport p w)

/-- What measurement block `i` of partition `p` measures (R446); none where the endpoint has no such block. -/
def State.measure (s : State) (p i : Nat) : Option (List Nat) :=
  match i with
  | 1 => some [Config.seRom]
  | 2 => some [s.sec.seFw, s.rd .secFwVersion]
  | 3 => some [s.sec.ctlFw]
  | 4 => some [Config.stockImages]
  | 5 => some [s.rd .lcsState, s.rd .lcsSvn, s.rd .lcsOwnerDigest]
  | 6 => some [s.rd .pdxTopoRecord, s.rd .pdxTopoState]
  | 7 => some (s.qos.active.flatMap (fun (e : Nat × Nat) => [e.1, e.2]) ++ (List.range 16).map (fun e => s.rd .soxEgressTable 0 e))
  | 8 => some [s.rd .secState, s.rd .secApproved]
  | 16 => some (s.sealContent p)
  | 17 => some [s.rd .beatTimingMode 0 p, s.rd .hbmLineCode 0 p, s.rd .cohPtnLevel 0 p, s.ptnHtlLevel p]
  | 18 => some ((s.sitesOf p).flatMap (s.siteContent p))
  | 19 => some (s.windowContent p)
  | 20 => some ([s.rd .secMemKgen 0 p, s.rd .secRotateState 0 p] ++
      (tenantSlots p).filterMap (fun k => (s.keySlot k).map KeySlot.keyId))
  | 21 => some (match s.sec.grants.find p with
      | some g => [1, g.scope]
      | none => [0])
  | 22 => some [s.rd .soxPairRole, s.rd .soxMirror 0 p]
  | 23 => some [s.rd .secChipletPolicy 0 p]
  | _ => none

/-- The security version in a measurement: of the SE firmware, and of the OTP. -/
def State.svnIn (s : State) (i : Nat) : Option Nat :=
  if i = 2 then some (s.rdField .secFwVersion 31 0) else if i = 5 then some (s.rd .lcsSvn) else none

/-! ## Policies (R436) -/

def State.termHolds (s : State) (p : Nat) (t : PolicyTerm) : Bool :=
  match t.op with
  | 0 => true
  | 1 => match s.measure p t.index with
    | some c => Config.digest c == t.value
    | none => false
  | 2 => match s.svnIn t.index with
    | some v => decide (t.value % 2 ^ 32 ≤ v)
    | none => false
  | _ => false

def State.flagHolds (s : State) (p : Nat) : Nat → Bool
  | 0 => s.sealedMode p
  | 1 => s.rd .hbmLineCode 0 p == 1
  | 2 => (s.sitesOf p).all (fun k => s.sharing k == 1)
  | 3 => (s.sitesOf p).all (fun k => s.rd .uciAttestState k == 1)
  | 4 => (s.sec.grants.find p).isNone
  | 5 => s.rd .secApproved == 1
  | _ => false

/-- Every term and flag of a key's policy holds. -/
def State.policyHolds (s : State) (p flags : Nat) (terms : List PolicyTerm) : Bool :=
  terms.all (s.termHolds p) && (bitsOf flags 32).all (s.flagHolds p)

/-! ## Revocation (R438) -/

/-- A tenant's key destroyed because its policy no longer holds; what uses it ends with status POLICY. -/
def State.revoke (s : State) (p k : Nat) : State :=
  let s := (s.destroyKey k).bump .secRevocations 0 p
  let imports : AMap Import := s.sec.imports.mapVal (fun q (i : Import) => if q = p ∧ i.slot = k then { i with revoked := true } else i)
  let ckpt : AMap Ckpt := s.ckpt.mapVal (fun q (c : Ckpt) => if q = p ∧ k = slotCkpt p then { c with ends := 3 } else c)
  let t : State := { s with sec := { s.sec with imports }, ckpt }
  t.ev Ev.secPolicyRevoked (some p) (Config.detail [k])

/-- A measurement of a partition has changed: every tenant key whose policy no longer holds is destroyed. -/
def State.remeasure (s : State) (p : Nat) : State :=
  s.each (tenantSlots p) (fun s k =>
    match s.keySlot k with
    | some x => if s.policyHolds p x.flags x.terms then s else s.revoke p k
    | none => s)

/-- A measurement of the hub has changed. -/
def State.remeasureAll (s : State) : State := s.each (List.range 32) State.remeasure

/-! ## Debug grants in force (R449, R450) -/

/-- SEC_APPROVED reads 0 while a grant is in force. -/
def State.settleApproved (s : State) : State := (s.wr .secApproved (if s.sec.grants.isEmpty then 1 else 0)).remeasureAll

/-- A grant ends. -/
def State.grantEnd (s : State) (p : Nat) : State :=
  if (s.sec.grants.find p).isNone then s
  else
    let t : State := { s with sec := { s.sec with grants := s.sec.grants.erase p } }
    (t.wr .secDebugState 0 0 p).settleApproved

/-- A grant that waits takes effect, and the policies are evaluated for the new value of measurement 21. -/
def State.grantStart (s : State) (p : Nat) : State :=
  match s.sec.nextGrants.find p with
  | none => s
  | some g =>
    let t : State := { s with sec := { s.sec with grants := s.sec.grants.set p g, nextGrants := s.sec.nextGrants.erase p } }
    (t.wr .secDebugState g.beats 0 p).settleApproved

/-- A beat of a grant in force has passed: after the last it ends. -/
def State.grantBeat (s : State) (p : Nat) : State :=
  if (s.sec.grants.find p).isNone then s
  else if s.rd .secDebugState 0 p ≤ 1 then s.grantEnd p
  else s.wr .secDebugState (s.rd .secDebugState 0 p - 1) 0 p

/-! ## Zeroisation (R453) -/

/-- Every slot, the root key, the hub memory key and the generator's state are cleared; SEC_STATE reads ZEROISED,
SEC_ZEROISED is reported, and every session ends (R506). -/
def State.zeroise (s : State) : State :=
  let t : State := { s with sec := { s.sec with slots := [], root := none, hubKey := none } }
  ((((t.exportEnd xpPolicy).wr .secState seZeroised).ev Ev.secZeroised).remeasureAll).endSessions (fun _ => true)

end Sys2Proof.Machine
end

