-- ==== Sys2Proof/Machine/Transport.lean ====
section
/-! DEFINITION. Sending on a connection: its number, its key generation, messages cut into packets, planes and
the window (R360–R365, R441). -/

namespace Sys2Proof.Machine

/-! ## Types and operations (R358) -/

def sftData : Nat := 0
def sftAck : Nat := 1
def sftCnp : Nat := 2
def sftCtrl : Nat := 3
def sftColl : Nat := 4
def sftSvc : Nat := 5
def sftCkpt : Nat := 6
def sftMgmt : Nat := 7
def sftJournal : Nat := 8
def sftMirror : Nat := 9
def sftHeartbeat : Nat := 10
def sftFault : Nat := 11

def ctrlOpen : Nat := 1
def ctrlOpenAck : Nat := 2
def ctrlRefuse : Nat := 3
def ctrlClose : Nat := 4
def ctrlCloseAck : Nat := 5
def ctrlReset : Nat := 6
def ctrlHello : Nat := 7
def ctrlHelloAck : Nat := 8

/-- EXT of a CTRL packet. -/
def ctrlExt (op peer reason : Nat) : Nat := op * 2 ^ 92 + peer % 2 ^ 24 * 2 ^ 68 + reason * 2 ^ 60

/-- CLASS SYS. -/
def clsSys : Nat := 7

/-! ## Ports and planes (R351, R363) -/

/-- A port is UP. -/
def State.portUp (s : State) (e : Nat) : Bool := decide (2 ≤ s.rd .soxPortState 0 e)

def State.portsUp (s : State) : List Nat := (List.range 16).filter s.portUp

/-- Planes usable for a connection. A FENCED member (4) sends nothing but HEARTBEAT (R371). -/
def State.planesOf (s : State) (c : Conn) : List Nat :=
  if s.rd .soxPairRole = 4 then [] else s.portsUp.filter (fun e => !c.bad.contains e)

/-- The next plane in rotation after one. -/
def nextPlane (ps : List Nat) (last : Nat) : Option Nat :=
  match ps.filter (fun e => decide (last < e)) with
  | e :: _ => some e
  | [] => ps.head?

/-! ## Connections (R360). Number 0 is the pair link (R377). -/

def State.conn (s : State) (n : Nat) : Option Conn := s.sox.conns.find n

def State.setConn (s : State) (n : Nat) (c : Conn) : State := { s with sox := { s.sox with conns := s.sox.conns.set n c } }

def State.dropConn (s : State) (n : Nat) : State := { s with sox := { s.sox with conns := s.sox.conns.erase n } }

/-- The connection of a partition to a partition of a package. -/
def State.connOf (s : State) (p pkg rptn : Nat) : Option Nat :=
  (s.sox.conns.find? (fun e => e.1 != 0 && e.2.ptn == p && e.2.pkg == pkg && e.2.rptn == rptn)).map (fun (e : Nat × Conn) => e.1)

def State.connsOf (s : State) (p : Nat) : List Nat := (s.sox.conns.where (fun n c => n != 0 && c.ptn == p)).keys

/-- A connection number that is free: the smallest from 1 on. -/
def State.freeConn (s : State) : Nat := s.sox.conns.free s.sox.conns.length 1

/-- The limits of R360 leave room for another connection of a partition. -/
def State.connRoom (s : State) (p : Nat) : Bool :=
  decide ((s.sox.conns.filter (fun e => e.1 != 0)).length < 16384) && decide ((s.connsOf p).length < s.rd .soxPtnConnMax 0 p)

/-- The next PSN of a space, and the connection after it is taken. -/
def Conn.takePsn (c : Conn) (space : Nat) : Nat × Conn :=
  (c.psn.getD space 0, { c with psn := c.psn.zipIdx.map (fun (e : Nat × Nat) => if e.2 = space then e.1 + 1 else e.1) })

/-- A packet outside space 0 sent on a connection, on a usable plane: ACK, CNP, CTRL or FAULT. -/
def State.sendCtl (s : State) (n : Nat) (c : Conn) (space type ext : Nat) (payload : List Byte) : State :=
  match nextPlane (s.planesOf c) c.lastPlane with
  | none => s.setConn n c
  | some e =>
    let q := c.takePsn space
    (s.setConn n { q.2 with lastPlane := e }).sendSft (
      { port := e, type, dstPkg := c.pkg, srcPtn := c.ptn, dstPtn := c.rptn, conn := c.peer, psn := q.1, kgen := s.genOf n c
        ctx := 0, cls := clsSys, eom := false, ext, payload })

/-- CTRL OPEN (R361, R441): the KEY_ID in payload bytes 0–3. -/
def State.sendOpen (s : State) (n : Nat) (c : Conn) : State :=
  let id := ((s.fabricKeys c.ptn).head?.map KeySlot.keyId).getD 0
  s.sendCtl n { c with tries := c.tries + 1 } 2 sftCtrl (ctrlExt ctrlOpen n 0) (toLe 4 id)

/-- A connection is asked for: OPENING, where the limits leave room and a key is held (R360, R361). -/
def State.openConn (s : State) (p pkg rptn : Nat) : State :=
  if (s.connOf p pkg rptn).isSome ∨ ¬ s.connRoom p ∨ (s.fabricKeys p).isEmpty then s
  else
    s.sendOpen s.freeConn { ptn := p, pkg, rptn, st := .opening, window := s.rd .soxWindow }

/-! ## Data (R358, R363, R365) -/

/-- A packet of space 0 on the wire. -/
def State.wirePacket (s : State) (c : Conn) (port psn kgen : Nat) (k : Packet) : State :=
  s.sendSft ({ port, type := k.type, dstPkg := c.pkg, srcPtn := c.ptn, dstPtn := c.rptn, conn := c.peer, psn, kgen
               ctx := k.lab.ctx, cls := k.lab.cls, eom := k.eom, ext := k.ext, payload := k.payload })

/-- A snapshot pauses the connection's partition: no new DATA, COLL or SVC packet (R396). -/
def State.pausedFor (s : State) (c : Conn) (k : Packet) : Bool :=
  (s.col.paused.find c.ptn).isSome && (k.type == sftData || k.type == sftColl || k.type == sftSvc)

/-- One packet sent under the window, on the next usable plane. -/
def State.pumpOne (s : State) (n : Nat) : State :=
  match s.conn n with
  | none => s
  | some c =>
    match c.queue, nextPlane (s.planesOf c) c.lastPlane with
    | k :: rest, some e =>
      if c.st = .open ∧ c.unacked.length < c.window ∧ !s.pausedFor c k then
        let q := c.takePsn 0
        let g := s.genOf n c
        let c := { q.2 with queue := rest, lastPlane := e
                            unacked := q.2.unacked.set q.1 { pkt := k, plane := e, kgen := g, passed := 0, resent := false } }
        (s.setConn n c).wirePacket c e q.1 g k
      else s
    | _, _ => s

/-- Packets sent until the window or the queue ends. -/
def State.pumpConn : Nat → State → Nat → State
  | 0, s, _ => s
  | f + 1, s, n =>
    match s.conn n with
    | some c => if c.queue.isEmpty then s else State.pumpConn f (s.pumpOne n) n
    | none => s

/-- The packets of a message: payloads of at most 8,192 B, with MSG and OFFSET. -/
def packetsOf (type msg : Nat) (lab : Label) : Nat → Nat → List Byte → List Packet
  | 0, _, _ => []
  | f + 1, off, d =>
    { type, lab, eom := decide (d.length ≤ 8192), ext := msg % 2 ^ 32 * 2 ^ 68 + off % 2 ^ 32 * 2 ^ 36, payload := d.take 8192 }
      :: (if d.length ≤ 8192 then [] else packetsOf type msg lab f (off + 8192) (d.drop 8192))

/-- A message given to a connection. -/
def State.sendMsg (s : State) (n type : Nat) (lab : Label) (d : List Byte) : State :=
  match s.conn n with
  | none => s
  | some c =>
    let ks := packetsOf type c.msg lab (d.length / 8192 + 1) 0 d
    State.pumpConn (ks.length + c.queue.length) (s.setConn n { c with msg := c.msg + 1, queue := c.queue ++ ks }) n

/-- A message to a partition of a package: the connection is asked for where there is none (R361). -/
def State.sendTo (s : State) (p pkg rptn type : Nat) (lab : Label) (d : List Byte) : State :=
  let s := s.openConn p pkg rptn
  match s.connOf p pkg rptn with
  | some n => s.sendMsg n type lab d
  | none => s

end Sys2Proof.Machine
end

