-- ==== Sys2Proof/Machine/Programs.lean ====
section
/-! DEFINITION. Work queues, descriptors, dispatch, completion, and the table and checkpoint services (R140–R162). -/

namespace Sys2Proof.Machine

/-! ## Writes of the hub on a partition's behalf -/

/-- Marks a hub or detached request as one that a queue's record waits for (R151). -/
def queueTag (p q : Nat) : Nat := 1024 + 64 * p + q

/-- One part of a write, tracked at the hub and given to its home agent. -/
def State.hubPart (s : State) (k : Tracker) : State :=
  match s.place k.lab.ptn k.ppa with
  | none => s
  | some pl =>
    let x : XEntry := { ptn := pl.owner, gran := k.ppa / Config.granule, hgran := pl.hpa / Config.granule, sfmt := pl.sfmt
                        kgen := pl.kgen, rowrep := pl.rowrep }
    let id := s.freeId .hub
    let k : Tracker := { k with phase := .out, hgran := x.hgran, kgen := x.kgen, sfmt := x.sfmt, order := s.noc.order }
    let s : State := { s with noc := { s.noc with order := s.noc.order + 1 } }
    let r := k.home id x pl.owner false
    (s.setTracker id k).homeServe (stackOf r.hpa) k.op r []

/-- Bytes written at a PPA through the home agents. -/
def State.hubWrite (s : State) (lab : Label) (tag : Nat) (op : ReqOp) (fmt opx obj ppa : Nat) (d : List Byte) : State :=
  s.each (lineParts ppa d.length) (fun s (e : Nat × Nat) =>
    s.hubPart { newRequest .hub lab op tag e.1 e.2 ((d.drop (e.1 - ppa)).take e.2) with fmt, opx, obj })

/-- Every byte of a span is mapped and may be written. -/
def State.spanWritable (s : State) (p ppa n : Nat) : Bool :=
  (granuleParts ppa n).all (fun e => ((s.place p e.1).map Place.writable).getD false)

/-- A span that an item has read, as the home agents count it (R218, R252, R266). -/
def State.noteRead (s : State) (lab : Label) (e : Nat × Nat) : State :=
  s.each (lineParts e.1 e.2) (fun s (x : Nat × Nat) =>
    match s.place lab.ptn x.1 with
    | none => s
    | some pl =>
      let k := newRequest .hub lab .rdNa 0 x.1 x.2 []
      let r := k.home 0 { ptn := pl.owner, gran := x.1 / Config.granule, hgran := pl.hpa / Config.granule, sfmt := 0
                          kgen := pl.kgen, rowrep := false } pl.owner false
      ((s.sampleHeat (granOf pl.hpa) r).countRow pl.hpa).countRead pl.hpa x.2)

/-! ## Queue configuration (R141–R143) -/

def wqCount : Nat := 131072

structure WqCfg where
  plots : Nat
  ring : Nat
  cpl : Nat
  log2 : Nat
  ctx : Nat
  cls : Nat
  vector : Nat
  coalesce : Nat
  submit : Bool
  site : Nat
  enable : Bool
  deriving DecidableEq, Repr

def wqCfgOf (v : Nat) : WqCfg :=
  { plots := field v 255 192, ring := field v 191 156 * 4096, cpl := field v 155 120 * 4096, log2 := field v 119 115
    ctx := field v 114 111, cls := field v 110 108, vector := field v 107 99, coalesce := field v 98 91
    submit := v.testBit 90, site := field v 89 87, enable := v.testBit 86 }

def State.wqCfg (s : State) (p q : Nat) : WqCfg := wqCfgOf (s.rd .tilWqCfg p q)

/-- The queue is idle (R142). -/
def State.wqIdle (s : State) (p q : Nat) : Bool :=
  let w := s.wq p q
  !(s.wqCfg p q).enable || (w.head == w.tail && w.descs.isEmpty)

/-- A write of TIL_WQ_CFG (R142). -/
def State.wqCfgWrite (s : State) (role : Role) (p q v : Nat) : Answer :=
  let c := wqCfgOf v
  if 32 ≤ p ∨ 64 ≤ q then s.refuse stNotFound
  else if !mayWrite [.n, .n, .r, .n, .b] role then s.refuse stDenied
  else if field v 85 0 ≠ 0 ∨ (bitsOf c.plots 64).any (fun i => s.plotOwner i != some p) ∨ 5 ≤ c.cls ∨ c.log2 < 4 ∨ 16 < c.log2
      ∨ (c.submit ∧ ¬ (s.rd .uciBind c.site).testBit p) then s.refuse stRange
  else if !s.wqIdle p q then s.refuse stRunning
  else
    let t := s.wr .tilWqCfg v p q
    if c.enable ∧ ¬ (s.wqCfg p q).enable then (stOk, t.setWq p q { s.wq p q with tail := 0, head := 0, cplHead := 0, err := false })
    else (stOk, t)

/-- The queue stops on an error (R144). -/
def State.wqError (s : State) (p q : Nat) : State :=
  (s.setWq p q { s.wq p q with err := true }).ev Ev.tilWqErr (some p) (Config.detail [q])

/-- A new TAIL would leave more than a ring between it and CPL_HEAD (R144). -/
def overflows (c : WqCfg) (w : Wq) (tail : Nat) : Bool :=
  decide (2 ^ c.log2 < (tail + wqCount - w.cplHead) % wqCount)

/-- Software writes TAIL (R144). -/
def State.wqTail (s : State) (p q tail : Nat) : State :=
  let w := s.wq p q
  let c := s.wqCfg p q
  if c.submit then s
  else if overflows c w (tail % wqCount) then s.wqError p q
  else s.setWq p q { w with tail := tail % wqCount }

/-- A descriptor of a site written into slot TAIL (R144); false where the queue takes none. -/
def State.wqSubmit (s : State) (p q site : Nat) (d : List Byte) : Bool × State :=
  let w := s.wq p q
  let c := s.wqCfg p q
  let a := c.ring + 64 * (w.tail % 2 ^ c.log2)
  let tail := (w.tail + 1) % wqCount
  if c.enable ∧ c.submit ∧ c.site = site ∧ ¬ overflows c w tail ∧ s.spanWritable p a 64 then
    (true, (s.hubWrite { ptn := p, ctx := c.ctx, cls := c.cls } 0 .write 0 0 0 a d).setWq p q { w with tail })
  else (false, s)

/-! ## Descriptors (R146–R149) -/

def Desc.func (d : Desc) : Nat := field (d.words.getD 0 0) 63 56
def Desc.items (d : Desc) : Nat := field (d.words.getD 1 0) 31 0
def Desc.fence (d : Desc) : Bool := (d.words.getD 0 0).testBit 52
def Desc.int (d : Desc) : Bool := (d.words.getD 0 0).testBit 51
def Desc.params (d : Desc) : List Nat := d.words.drop 2

def fnNop : Nat := 0x00
def fnLoad : Nat := 0x01
def fnRun : Nat := 0x02
def fnCheckpoint : Nat := 0x30

/-- A stock function (R148). -/
def isStock (f : Nat) : Bool := decide (0x10 ≤ f) && decide (f ≤ 0x16)

/-- The function runs items. -/
def hasItems (f : Nat) : Bool := f == fnRun || isStock f

def dsOk : Nat := 0x00
def dsItemErrors : Nat := 0x01
def dsAborted : Nat := 0x02
def dsCancelled : Nat := 0x03
def dsLate : Nat := 0x10
def dsFull : Nat := 0x11
def dsBadFunc : Nat := 0x20
def dsBadParam : Nat := 0x21
def dsNoConfig : Nat := 0x22
def dsLoadRefused : Nat := 0x23
def dsCkptFailed : Nat := 0x30

/-- Formats in which a row of `n` elements lies densely: an MX row holds whole blocks. -/
def rowFmt (c n : Nat) : Bool := decide (1 ≤ c) && decide (c ≤ 11) && (!isMx c || n % 32 == 0)

def pooledFmt (c : Nat) : Bool := c == 1 || c == 2 || c == 3
def keyFmt (c : Nat) : Bool := c == 1 || c == 4

/-- The parameters of a stock function lie in their ranges (R147, R149). -/
def State.stockOk (s : State) (p f : Nat) (P : List Nat) : Bool :=
  let g := geomOf (P.getD 1 0)
  let table (a : Nat) := a % 32 == 0 && decide (1 ≤ g.sectors) && decide (g.sectors ≤ 32)
  decide (1 ≤ g.elems) && decide (g.elems ≤ 1024) && (!g.stash || (s.rd .uciBind g.site).testBit p) &&
  (match f with
   | 0x10 => table (P.getD 0 0) && pooledFmt g.fa && decide (g.mode ≤ 2) && !(g.weighted && g.mode == 2)
   | 0x11 => table (P.getD 0 0) && pooledFmt g.fa && decide (g.mode ≤ 3)
   | 0x12 => table (P.getD 0 0) && rowFmt g.fa g.elems && !isMx g.fa && decide (g.mode ≤ 1)
   | 0x13 => keyFmt g.fa
   | 0x14 => rowFmt g.fa g.elems && rowFmt g.fb g.elems && decide (g.mode ≤ 2)
   | 0x15 => keyFmt g.fa && decide (g.mode ≤ 1)
   | _ => table (P.getD 4 0) && decide (1 ≤ g.fa) && decide (g.fa ≤ 5))

/-- DSTATUS with which a descriptor is refused at its read, or OK (R152). -/
def State.descStatus (s : State) (p : Nat) (w : List Nat) : Nat :=
  let d0 := w.getD 0 0
  let f := field d0 63 56
  let P := w.drop 2
  if field d0 50 48 ≠ 0 ∨ (isStock f ∧ field (P.getD 1 0) 17 0 ≠ 0)
      ∨ ¬ (f = fnNop ∨ f = fnLoad ∨ f = fnRun ∨ isStock f ∨ f = fnCheckpoint) then dsBadFunc
  else if hasItems f ∧ (field (w.getD 1 0) 31 0 = 0 ∨ 16777216 < field (w.getD 1 0) 31 0) then dsBadParam
  else if f = fnLoad ∧ (P.getD 0 0 % 64 ≠ 0 ∨ 0xFEFF < field (P.getD 1 0) 15 0) then dsBadParam
  else if isStock f ∧ !s.stockOk p f P then dsBadParam
  else dsOk

/-- A descriptor's items have all been dispatched, or it has none (R153). -/
def Desc.exhausted (d : Desc) : Bool := d.status.isSome || (d.started && (!hasItems d.func || decide (d.items ≤ d.next)))

/-- The descriptor as a declaration of tile work (R155). -/
def declarationOf (p q idx ctx d0 : Nat) : Declaration :=
  { kind := .tileWork q idx, ptn := some p, ctx, target := if field d0 47 0 = 2 ^ 48 - 1 then none else some (BitVec.ofNat 48 d0)
    defer := !d0.testBit 54, abort := d0.testBit 53 }

/-- The declaration of a descriptor is made when the hub reads it: refused with LATE or FULL, or taken. -/
def State.declareDesc (s : State) (p q : Nat) (d : Desc) (ctx : Nat) : State × Desc :=
  let id := s.beat.nextId
  let x := declarationOf p q d.idx ctx (d.words.getD 0 0)
  let t := s.declare x
  if t.beat.decls.any (fun e => e.id == id) then (t, { d with decl := some id, open' := false })
  else (t, { d with status := some (if declLimit x.ptn ≤ s.pendingOf x.ptn then dsFull else dsLate) })

/-- The hub reads the descriptor at HEAD (R144). -/
def State.fetchDesc (s : State) (p q : Nat) : State :=
  let w := s.wq p q
  let c := s.wqCfg p q
  let before : Bool := match w.descs.getLast? with
    | some d => d.started || d.status.isSome
    | none => true
  if s.ptnState p ≠ ptnSealed ∨ ¬ c.enable ∨ w.err ∨ w.head = w.tail ∨ ¬ before then s
  else
    match s.readPpa p (c.ring + 64 * (w.head % 2 ^ c.log2)) 64 with
    | some (b, false) =>
      let ws := (List.range 8).map (fun i => leNat ((b.drop (8 * i)).take 8))
      let st := s.descStatus p ws
      let d : Desc := { idx := w.head, words := ws, decl := none, open' := true, started := false, next := 0, done := 0, failed := 0
                        firstFail := noFail, failCode := 0, status := if st = dsOk then none else some st, overrun := false }
      let r : State × Desc := if st = dsOk ∧ (ws.getD 0 0).testBit 55 then s.declareDesc p q d c.ctx else (s, d)
      r.1.setWq p q { w with head := (w.head + 1) % wqCount, descs := w.descs ++ [r.2] }
    | _ => s.wqError p q

/-! ## Services (R158, R159) -/

/-- A service of a mode runs: always, or as a fall-back in the absence of the host (R38). -/
def State.svcMode (s : State) (mode : Nat) : Bool := mode == 1 || (mode == 2 && !s.beat.hostSeen)

def State.tableService (s : State) (p : Nat) : Bool := s.svcMode (s.rdField .tilSvcCfg 1 0 0 p)
def State.ckptService (s : State) (p : Nat) : Bool := s.svcMode (s.rdField .tilSvcCfg 3 2 0 p)

/-- Plots withheld by a running service. -/
def State.svcPlots (s : State) (p : Nat) : Nat := if s.tableService p || s.ckptService p then s.rd .tilSvcPlots 0 p else 0

/-! ## Dispatch (R153, R154) -/

/-- The dispatch set of a queue. -/
def State.dispatchSet (s : State) (p q : Nat) : List Nat :=
  let c := s.wqCfg p q
  ((List.range 64).filter (fun i => c.plots.testBit i && !(s.svcPlots p).testBit i && s.plotOwner i == some p)).flatMap plotTiles
    |>.filter (fun t => !(s.rd .tilFailed).testBit t && !s.tileHeld t)

/-- The queue's context runs, its dispatch set is not empty, and no snapshot pauses the partition (R396). -/
def State.mayDispatch (s : State) (p q : Nat) : Bool :=
  s.ptnState p == ptnSealed && s.rd .ptnCtxRunning p == (s.wqCfg p q).ctx && !(s.dispatchSet p q).isEmpty
    && (s.col.paused.find p).isNone

/-- The descriptor whose items are next, and those before it. -/
def State.currentDesc (s : State) (p q : Nat) : Option (Desc × List Desc) :=
  let ds := (s.wq p q).descs
  match ds.dropWhile Desc.exhausted with
  | d :: _ => some (d, ds.takeWhile Desc.exhausted)
  | [] => none

/-- The descriptor may start: its declaration is admitted, and no fence holds it (R153, R155). -/
def Desc.mayStart (d : Desc) (before : List Desc) : Bool := d.started || (d.open' && (!d.fence || before.isEmpty))

/-- The stock configuration of a function is loaded on every tile. -/
def State.stockLoaded (s : State) (f : Nat) (ts : List Nat) : Bool := ts.all (fun t => s.tile.cfgId.find t == some (0xFF00 + f))

/-- No strand is live on some tiles. -/
def State.quiet (s : State) (ts : List Nat) : Bool := ts.all (fun t => (s.strandsOf t).isEmpty)

/-- Tiles for which a LOAD, or a stock function whose configuration is not loaded, waits: no item is sent to them (R154). -/
def State.waitedTiles (s : State) (p : Nat) : List Nat :=
  (List.range 64).flatMap (fun q =>
    match s.currentDesc p q with
    | some (d, b) =>
      if d.mayStart b ∧ ¬ d.started ∧ s.mayDispatch p q ∧ (d.func = fnLoad ∨ (isStock d.func ∧ !s.stockLoaded d.func (s.dispatchSet p q)))
        then s.dispatchSet p q else []
    | none => [])

/-- The tile that takes the next item: the one with the most free strand places, the lowest on a tie. -/
def State.bestTile (s : State) (ts : List Nat) : Option Nat :=
  let room (t : Nat) := field (s.graphHeader t) 50 41 - (s.strandsOf t).length
  let waited := ts.filter (fun t => decide (0 < room t) && (s.tile.refuse.find t).isNone)
  waited.foldl (fun (b : Option Nat) t =>
    match b with
    | none => some t
    | some m => if room m < room t ∨ (room m = room t ∧ t < m) then some t else some m) none

/-- A strand started for an item (R91). -/
def State.startStrand (s : State) (t q : Nat) (d : Desc) (slot : Nat) : State :=
  let n := ((List.range 512).find? (fun n => (s.strand t n).isNone)).getD 0
  let arg := BitVec.ofNat 64 (d.params.getD 0 0 + d.next * d.params.getD 1 0)
  s.setStrand t n
    { stage := field (s.graphHeader t) 63 58, st := .ready, zf := false, nf := false, rch := false, pending := 0, status := 0
      item := d.next, regs := [arg, BitVec.ofNat 64 slot, 0, 0, 0, 0, 0], limit := none, order := 0, queue := q, desc := d.idx }

/-- The PPA of a descriptor's ring slot (R144). -/
def State.slotPpa (s : State) (p q idx : Nat) : Nat := (s.wqCfg p q).ring + 64 * (idx % 2 ^ (s.wqCfg p q).log2)

/-- RUN starts: its configuration must be loaded on every tile of the dispatch set (R148, R152). -/
def State.runStart (s : State) (p q : Nat) : State :=
  match s.currentDesc p q with
  | some (d, b) =>
    if d.func = fnRun ∧ ¬ d.started ∧ d.mayStart b ∧ s.mayDispatch p q then
      let id := field (d.params.getD 2 0) 15 0
      if (s.dispatchSet p q).all (fun t => s.tile.cfgId.find t == some id) then s.mapDesc p q d.idx (fun d => { d with started := true })
      else s.mapDesc p q d.idx (fun d => { d with started := true, status := some dsNoConfig })
    else s
  | none => s

/-- The next item of a RUN goes to a tile as a strand (R91, R153). -/
def State.dispatchItem (s : State) (p q : Nat) : State :=
  match s.currentDesc p q with
  | some (d, _) =>
    if d.func = fnRun ∧ d.started ∧ s.mayDispatch p q then
      match s.bestTile ((s.dispatchSet p q).filter (fun t => !(s.waitedTiles p).contains t)) with
      | some t => (s.startStrand t q d (s.slotPpa p q d.idx)).mapDesc p q d.idx (fun d => { d with next := d.next + 1 })
      | none => s
    else s
  | none => s

/-! ## Functions without items, and LOAD -/

/-- NOP: done once every earlier descriptor has completed (R148). -/
def State.nopStart (s : State) (p q : Nat) : State :=
  match s.currentDesc p q with
  | some (d, b) =>
    if d.func = fnNop ∧ d.mayStart b ∧ b.isEmpty then s.mapDesc p q d.idx (fun d => { d with started := true, status := some dsOk })
    else s
  | none => s

/-- A configuration in every tile of a set. -/
def State.setConfig (s : State) (ts : List Nat) (id : Nat) (img : Option (AMap Byte)) : State :=
  { s with tile := { s.tile with
      cfg := ts.foldl (fun (m : AMap (AMap Byte)) t => match img with
        | some i => m.set t i
        | none => m.erase t) s.tile.cfg
      cfgId := ts.foldl (fun (m : AMap Nat) t => m.set t id) s.tile.cfgId
      refuse := ts.foldl (fun (m : AMap Unit) t => m.erase t) s.tile.refuse } }

/-- The bytes of an image that are not zero, by offset. -/
def sparseOf (b : List Byte) : AMap Byte := (b.zipIdx.map (fun (e : Byte × Nat) => (e.2, e.1))).filter (fun e => e.2 != 0)

/-- LOAD: once no strand is live on the dispatch set, every tile takes the image or none does (R154). -/
def State.loadStart (s : State) (p q : Nat) : State :=
  match s.currentDesc p q with
  | some (d, b) =>
    let ts := s.dispatchSet p q
    if d.func = fnLoad ∧ d.mayStart b ∧ s.mayDispatch p q ∧ s.quiet ts then
      match s.readSpan p (d.params.getD 0 0) 0x4000 with
      | some (img, false) =>
        if configOk (s.programBytes p / 64) (sparseOf img) then
          (s.setConfig ts (field (d.params.getD 1 0) 15 0) (some (sparseOf img))).mapDesc p q d.idx
            (fun d => { d with started := true, status := some dsOk })
        else s.mapDesc p q d.idx (fun d => { d with started := true, status := some dsLoadRefused, firstFail := ts.foldl min noFail })
      | _ => s.mapDesc p q d.idx (fun d => { d with started := true, status := some dsLoadRefused, firstFail := ts.foldl min noFail })
    else s
  | none => s

/-! ## Items of stock functions -/

/-- The outcome of an item: what it read, and its writes or its fail code. -/
def State.itemOf (s : State) (p f : Nat) (P : List Nat) (i : Nat) : ItemM (List ItemWrite) :=
  match f with
  | 0x10 => s.itemBag p P i
  | 0x11 => s.itemUpdate p P i
  | 0x12 => s.itemReduce p P i
  | 0x13 => s.itemTopk p P i
  | 0x14 => s.itemSeg p P i
  | 0x15 => s.itemSort p P i
  | _ => s.itemPack p P i

/-- Writes given to the home agents, where every one of them may be made; else XLATE. -/
def State.itemWrites (s : State) (lab : Label) (tag site : Nat) (ws : List ItemWrite) : Nat × State :=
  if ws.all (fun w => s.spanWritable lab.ptn w.ppa w.data.length) then
    (0, s.each ws (fun s (w : ItemWrite) => s.hubWrite lab tag w.op w.fmt w.opx site w.ppa w.data))
  else (haltXlate, s)

/-- One item computed with its reads counted and its writes made. -/
def State.runItem (s : State) (lab : Label) (tag site : Nat) (m : ItemM (List ItemWrite)) : Nat × State :=
  let r := (m.run).run []
  let t := (s.each r.2 (fun s (e : Nat × Nat) => s.noteRead lab e)).drawn itemDraws
  match r.1 with
  | .error c => (c, if c = haltAlign then t.bump .ariConvRefused 0 lab.ptn else t)
  | .ok ws => t.itemWrites lab tag site ws

/-- Item `i` of a stock function: its configuration is loaded first where it is not (R154). -/
def State.stockItem (s : State) (p q f i : Nat) : State :=
  match s.currentDesc p q with
  | some (d, b) =>
    let ts := s.dispatchSet p q
    if d.func = f ∧ d.mayStart b ∧ s.mayDispatch p q ∧ d.next = i ∧ (s.stockLoaded f ts ∨ s.quiet ts) then
      let s := if s.stockLoaded f ts then s else s.setConfig ts (0xFF00 + f) none
      let c := s.wqCfg p q
      let r := s.runItem { ptn := p, ctx := c.ctx, cls := c.cls } (queueTag p q) (geomOf (d.params.getD 1 0)).site (s.itemOf p f d.params i)
      r.2.mapDesc p q d.idx (fun d => { d.count i r.1 with started := true, next := i + 1 })
    else s
  | none => s

/-! ## Completion (R151, R152) -/

/-- Requests whose effects a queue's record waits for. -/
def State.queueWrites (s : State) (p q : Nat) : Bool :=
  s.noc.trackers.any (fun e => e.2.tag == queueTag p q && (match e.2.entry with
    | .tile _ => true
    | .hub => true
    | _ => false))

/-- A descriptor's work has ended. -/
def Desc.ended (d : Desc) : Bool :=
  let all := !hasItems d.func || decide (d.items ≤ d.done + d.failed)
  match d.status with
  | some c => c != dsAborted || all
  | none => d.started && hasItems d.func && all

/-- The completion record. -/
def Desc.record (d : Desc) (c : WqCfg) (beat : BitVec 48) : Nat :=
  let st := d.status.getD (if d.failed = 0 then dsOk else dsItemErrors)
  let none' := decide (0x10 ≤ st)
  (if d.idx / 2 ^ c.log2 % 2 = 0 then 2 ^ 255 else 0) + (if d.overrun then 2 ^ 254 else 0) + st * 2 ^ 240
  + (if none' then 0 else d.failCode * 2 ^ 232) + field (d.words.getD 1 0) 63 32 * 2 ^ 160
  + (if none' then 0 else d.done * 2 ^ 128 + d.failed * 2 ^ 96)
  + (if none' ∧ st ≠ dsLoadRefused then noFail else d.firstFail) * 2 ^ 64 + beat.toNat

/-- The completion interrupt (R141, R146). -/
def State.wqInterrupt (s : State) (p q : Nat) (d : Desc) : State :=
  let c := s.wqCfg p q
  let w := s.wq p q
  let full := decide (c.coalesce ≠ 0) && decide (c.coalesce ≤ w.uncounted + 1)
  let t := s.setWq p q { w with uncounted := if full then 0 else w.uncounted + 1 }
  if full ∨ d.int then t.raiseVector p c.vector else t

/-- The first descriptor of a queue that has ended gets its record; its declared item is complete (R55, R155). -/
def State.completeDesc (s : State) (p q : Nat) : State :=
  let w := s.wq p q
  let c := s.wqCfg p q
  match w.descs.find? Desc.ended with
  | none => s
  | some d =>
    if s.queueWrites p q then s
    else
      let t := s.setWq p q { w with descs := w.descs.filter (fun x => x.idx != d.idx) }
      let a := c.cpl + 32 * (d.idx % 2 ^ c.log2)
      let t := match d.decl with
        | some id => t.complete id
        | none => t
      if !s.spanWritable p a 32 then t.wqError p q
      else
        ((t.hubWrite { ptn := p, ctx := c.ctx, cls := c.cls } 0 .write 0 0 0 a (toLe 32 (d.record c s.beat.number))).bump
          .tilWqDescriptors 0 p).wqInterrupt p q d

/-! ## Aborts (R145, R155) -/

/-- Items that were not dispatched count as failed with ABORT. -/
def Desc.aborted (d : Desc) (overrun : Bool) : Desc :=
  let left := d.items - d.next
  let d := { d with status := some dsAborted, started := true, overrun := d.overrun || overrun }
  if hasItems d.func ∧ 0 < left then
    { d with failed := d.failed + left, next := d.items, firstFail := min d.firstFail d.next
             failCode := if d.next < d.firstFail then haltAbort else d.failCode }
  else d

/-- A descriptor's live strands halt with ABORT. -/
def State.abortStrands (s : State) (p q idx : Nat) : State :=
  s.each (s.tilesOf p) (fun s t =>
    s.each ((s.strandsOf t).filter (fun e => e.2.queue == q && e.2.desc == idx)) (fun s (e : Nat × Strand) => s.haltStrand t e.1 haltAbort))

/-- A descriptor in progress is aborted. -/
def State.abortDesc (s : State) (p q : Nat) (overrun : Bool) (d : Desc) : State :=
  if d.status.isSome then (if overrun then s.mapDesc p q d.idx (fun d => { d with overrun := true }) else s)
  else (s.mapDesc p q d.idx (fun d => d.aborted overrun)).abortStrands p q d.idx

/-- The descriptor at a count, cancelled unread; its TAG is read for its record, and is free where it cannot be. -/
def State.cancelled (s : State) (p q idx : Nat) : Desc :=
  let tag := match s.readPpa p (s.slotPpa p q idx + 8) 8 with
    | some (b, false) => leNat b
    | _ => (Config.freeWord (s.fresh + idx)).toNat
  { idx, words := [0, tag], decl := none, open' := true, started := true, next := 0, done := 0, failed := 0, firstFail := noFail
    failCode := 0, status := some dsCancelled, overrun := false }

/-- ABORT of a queue (R145). A pending declaration of an aborted descriptor is withdrawn. -/
def State.wqAbort (s : State) (p q : Nat) : State :=
  let w := s.wq p q
  let t := s.each w.descs (State.abortDesc · p q false)
  let ids := w.descs.filterMap (fun d => if d.open' then none else d.decl)
  let unread := (List.range ((w.tail + wqCount - w.head) % wqCount)).map (fun i => s.cancelled p q ((w.head + i) % wqCount))
  let u : State := { t with
    beat := { t.beat with
      decls := t.beat.decls.filter (fun x => !ids.contains x.id)
      admitted := t.beat.admitted.filter (fun x => !ids.contains x.id) } }
  let v := u.wq p q
  (u.drawn wqCount).setWq p q { v with head := w.tail, descs := v.descs ++ unread }

/-! ## The table service (R160, R161) -/

structure Table where
  ppa : Nat
  rows : Nat
  geom : Geom
  opt : Nat
  writable : Bool
  valid : Bool
  hyper : Nat
  state : Nat
  deriving DecidableEq, Repr

def tableOf (v : Nat) : Table :=
  { ppa := field v 255 208, rows := field v 207 176, geom := geomOf (field v 175 112), opt := field v 111 108
    writable := v.testBit 107, valid := v.testBit 106, hyper := field v 105 58, state := field v 57 10 }

def svOk : Nat := 0
def svNoTable : Nat := 1
def svIndex : Nat := 2
def svReadOnly : Nat := 3
def svBusy : Nat := 4
def svOrder : Nat := 5
def svError : Nat := 6

/-- The label of a partition's service work. -/
def State.svcLabel (s : State) (p cls : Nat) : Label := { ptn := p, ctx := s.rdField .tilSvcCfg 7 4 0 p, cls }

/-- Lookups run in class LAT1 and updates in class STD. -/
def svcClass (op : Nat) : Nat := if op = 3 then 2 else 1

/-- The reply of a request. -/
def State.svcReply (s : State) (p : Nat) (r : SvcReq) (st : Nat) (body : List Byte) : State :=
  let h := r.op * 2 ^ 120 + r.table % 256 * 2 ^ 112 + r.rows.length % 65536 * 2 ^ 96 + r.reqId % 2 ^ 32 * 2 ^ 64 + st * 2 ^ 56
  let t := (s.sendMsg r.conn sftSvc (s.svcLabel p (svcClass r.op)) (toLe 16 h ++ body)).bump .tilSvcRequests 0 p
  if st = svBusy then t.bump .tilSvcBusy 0 p else t

def ascending : List Nat → Bool
  | a :: b :: r => decide (a < b) && ascending (b :: r)
  | _ => true

/-- Gradient rows applied one after the other; the first that fails ends the request with ERROR. -/
def State.svcUpdates (lab : Label) (x : Table) (h : Hyper) : State → List (Nat × List Nat) → Nat × State
  | s, [] => (svOk, s)
  | s, (r, g) :: rest =>
    let q := s.runItem lab 0 0 (s.updateRow lab.ptn x.ppa { x.geom with mode := x.opt } h x.state r (g.map valueF))
    if q.1 = 0 then State.svcUpdates lab x h q.2 rest else (svError, q.2)

/-- The rows of a lookup, or the pooled row, in the delivery format. -/
def State.svcLookup (s : State) (p : Nat) (x : Table) (bag : Bool) (rows : List Nat) : ItemM (List Byte) := do
  let vs ← s.rowsOf p x.ppa x.geom x.rows (rows.map (fun r => (valueF 0, r)))
  let out := if bag then [pool { x.geom with weighted := false } vs] else vs.map (·.2)
  pure (out.flatMap (fun v => operandBytes x.geom.fa (Config.stockSat x.geom.fa) (s.fit p) (s.itemRnd x.geom) v))

/-- A request served. -/
def State.svcServe (s : State) (p : Nat) (r : SvcReq) : State :=
  let x := tableOf (s.rd .tilTableReg p r.table)
  let lab := s.svcLabel p (svcClass r.op)
  if 64 ≤ r.table ∨ ¬ x.valid then s.svcReply p r svNoTable []
  else if r.rows.isEmpty ∨ 256 < r.rows.length then s.svcReply p r svError []
  else if r.rows.any (fun i => decide (x.rows ≤ i)) then s.svcReply p r svIndex []
  else if r.op = 3 then
    if ¬ x.writable then s.svcReply p r svReadOnly []
    else if !ascending r.rows then s.svcReply p r svOrder []
    else if r.grads.length ≠ r.rows.length * x.geom.elems then s.svcReply p r svError []
    else
      match s.readSpan p x.hyper 32 with
      | some (hb, false) =>
        let rows := r.rows.zipIdx.map (fun (e : Nat × Nat) => (e.1, (r.grads.drop (e.2 * x.geom.elems)).take x.geom.elems))
        let q := s.svcUpdates lab x (hyperOf hb) rows
        q.2.svcReply p r q.1 []
      | _ => s.svcReply p r svError []
  else
    let m := ((s.svcLookup p x (r.op == 2) r.rows).run).run []
    let t := (s.each m.2 (fun s (e : Nat × Nat) => s.noteRead lab e)).drawn itemDraws
    match m.1 with
    | .ok b => t.svcReply p r svOk b
    | .error _ => t.svcReply p r svError []

/-- The table service works in this beat: it runs, and SVC_CTX is the running context. -/
def State.svcWorks (s : State) (p : Nat) : Bool :=
  s.tableService p && s.ptnState p == ptnSealed && s.rd .ptnCtxRunning p == s.rdField .tilSvcCfg 7 4 0 p

/-- A request arrives: served, held, or answered BUSY. Where the service does not run there is nothing to answer it. -/
def State.svcRequest (s : State) (p : Nat) (r : SvcReq) : State :=
  if !s.tableService p then s
  else if s.svcWorks p then s.svcServe p r
  else
    let l := s.svc.get p []
    if 1024 ≤ l.length then s.svcReply p r svBusy [] else { s with svc := s.svc.put p (l ++ [r]) [] }

/-- Held requests served once the service works (R158). -/
def State.svcDrain (s : State) (p : Nat) : State :=
  if s.svcWorks p then
    let t : State := { s with svc := s.svc.erase p }
    t.each (s.svc.get p []) (fun t r => t.svcServe p r)
  else s

/-- A request has waited longer than TIL_SVC_TIMEOUT beats (R161). -/
def State.svcTimeout (s : State) (p reqId : Nat) : State :=
  let l := s.svc.get p []
  match l.find? (fun r => r.reqId == reqId) with
  | some r =>
    let t : State := { s with svc := s.svc.put p (l.filter (· != r)) [] }
    t.svcReply p r svBusy []
  | none => s

/-! ## The checkpoint service (R162, R439) -/

/-- Header bytes 0x00–0x3F of a chunk record. -/
def chunkHeader (kind keyId stream seq idx ppa salt : Nat) : List Byte :=
  toLe 4 (1 + 256 * kind) ++ toLe 4 keyId ++ toLe 4 stream ++ toLe 4 seq ++ toLe 4 idx ++ toLe 4 0 ++ toLe 8 ppa ++ toLe 16 salt
    ++ toLe 16 0

/-- A chunk record of a granule: the cipher and its tag are those of a key that no one else holds. -/
def chunkRecord (material salt : Nat) (header : List Byte) (idx : Nat) (plain : List Byte) : List Byte :=
  header ++ plain.zipIdx.map (fun (e : Byte × Nat) => e.1 ^^^ Config.keyStream material salt idx e.2)
    ++ toLe 16 (Config.chunkTag [material, salt, idx, leNat header, leNat plain]) ++ toLe 48 0

/-- A run's end: its descriptor's status, the counters and the event (R162). -/
def State.ckptEnd (s : State) (p : Nat) (c : Ckpt) (ok : Bool) : State :=
  let s : State := { s with ckpt := s.ckpt.erase p }
  let s := match c.desc with
    | some (q, idx) => s.mapDesc p q idx (fun d => { d with status := some (if ok then dsOk else dsCkptFailed) })
    | none => s
  if ok then
    (s.hubWrite (s.svcLabel p 3) 0 .write 0 0 0 (c.plan + 12) (toLe 4 (c.seq + 1))).bump .tilCkptDone 0 p
  else (s.bump .tilCkptFailed 0 p).ev Ev.tilCkptFail (some p) (Config.detail [c.stream, c.seq])

/-- The next chunk of a run sent, while fewer than 64 are unacknowledged; none where its granule cannot be read. -/
def State.ckptChunk (s : State) (p : Nat) (c : Ckpt) : Option State :=
  match s.keySlot (slotCkpt p), s.readSpan p (c.chunks.getD c.sent 0 * Config.granule) Config.granule with
  | some k, some (d, false) =>
    let h := chunkHeader 2 k.keyId c.stream c.seq c.sent (c.chunks.getD c.sent 0 * Config.granule) c.salt
    let s : State := { s with ckpt := s.ckpt.set p { c with sent := c.sent + 1, unacked := c.unacked ++ [c.sent] } }
    some (s.sendTo p c.pkg c.dptn sftCkpt (s.svcLabel p 3) (chunkRecord k.material c.salt h c.sent d))
  | _, _ => none

/-- Chunks sent until 64 are unacknowledged or all are sent; a run whose chunks are all acknowledged succeeds. -/
def State.ckptPump : Nat → State → Nat → State
  | 0, s, _ => s
  | f + 1, s, p =>
    match s.ckpt.find p with
    | none => s
    | some c =>
      if c.ends ≠ 0 then s.ckptEnd p c false
      else if c.sent < c.chunks.length ∧ c.unacked.length < 64 then
        match s.ckptChunk p c with
        | some t => State.ckptPump f t p
        | none => s.ckptEnd p c false
      else if c.chunks.length ≤ c.sent ∧ c.unacked.isEmpty then s.ckptEnd p c true
      else s

/-- The granules of a plan's ranges; none where a range leaves the PPA space or breaks its alignment. -/
def planGranules (b : List Byte) (n : Nat) : Option (List Nat) :=
  (List.range n).foldl (fun (r : Option (List Nat)) i =>
    let ppa := leNat ((b.drop (16 * i)).take 8)
    let count := leNat ((b.drop (16 * i + 8)).take 8)
    match r with
    | some l =>
      if ppa % Config.granule = 0 ∧ ppa / Config.granule + count ≤ 2 ^ 28 then
        some (l ++ (List.range count).map (fun j => ppa / Config.granule + j))
      else none
    | none => none) (some [])

/-- A run begins from a plan; what cannot be read or is malformed fails it. -/
def State.ckptStart (s : State) (p plan : Nat) (desc : Option (Nat × Nat)) : State :=
  let fail : Ckpt := { desc, plan, stream := 0, pkg := 0, dptn := 0, seq := 0, chunks := [], sent := 0, unacked := [], salt := 0 }
  match s.readSpan p plan 16 with
  | some (b, false) =>
    let d0 := leNat (b.take 8)
    let d1 := leNat (b.drop 8)
    let c := { fail with stream := field d0 63 32, pkg := field d0 31 15, dptn := field d0 14 10, seq := field d1 63 32, salt := s.draw128 }
    let n := field d1 8 0
    if n = 0 ∨ 256 < n ∨ field d0 9 0 ≠ 0 ∨ field d1 31 9 ≠ 0 then s.ckptEnd p c false
    else
      match s.readSpan p (plan + 16) (16 * n) with
      | some (rb, false) =>
        match planGranules rb n with
        | some l =>
          let t : State := { s with ckpt := s.ckpt.set p { c with chunks := l } }
          State.ckptPump 66 (t.drawn 2) p
        | none => s.ckptEnd p c false
      | _ => s.ckptEnd p c false
  | _ => s.ckptEnd p fail false

/-- CHECKPOINT: one run of the service; it waits for a run in progress. -/
def State.ckptDesc (s : State) (p q : Nat) : State :=
  match s.currentDesc p q with
  | some (d, b) =>
    if d.func = fnCheckpoint ∧ ¬ d.started ∧ d.mayStart b ∧ (s.ckpt.find p).isNone ∧ s.ptnState p = ptnSealed then
      (s.mapDesc p q d.idx (fun d => { d with started := true })).ckptStart p (d.params.getD 0 0) (some (q, d.idx))
    else s
  | none => s

/-- A run of the period. -/
def State.ckptPeriod (s : State) (p : Nat) : State :=
  if s.ckptService p ∧ s.rd .tilCkptPeriod 0 p ≠ 0 ∧ (s.ckpt.find p).isNone ∧ s.ptnState p = ptnSealed then
    s.ckptStart p (s.rd .tilCkptPlan 0 p) none
  else s

/-- The storage package answers a chunk. -/
def State.ckptAck (s : State) (p idx : Nat) (accepted : Bool) : State :=
  match s.ckpt.find p with
  | none => s
  | some c =>
    if !c.unacked.contains idx then s
    else if !accepted then s.ckptEnd p c false
    else
      let t : State := { s with ckpt := s.ckpt.set p { c with unacked := c.unacked.filter (· != idx) } }
      State.ckptPump 66 t p

/-- A chunk is not acknowledged within TIL_SVC_TIMEOUT beats. -/
def State.ckptTimeout (s : State) (p idx : Nat) : State :=
  match s.ckpt.find p with
  | none => s
  | some c => if c.unacked.contains idx then s.ckptEnd p c false else s

/-! ## The commands -/

def execWqCfgWrite (role : Role) (p q v : Nat) (s : State) : Host.Outcome State Fault Refusal :=
  .next (State.answered (s.wqCfgWrite role p q v))

def execWqTailWrite (p q tail : Nat) (s : State) : Host.Outcome State Fault Refusal := .next (s.wqTail p q tail)

/-- Completion records consumed by software (R143). -/
def execWqCplHeadWrite (p q head : Nat) (s : State) : Host.Outcome State Fault Refusal :=
  .next (s.setWq p q { s.wq p q with cplHead := head % wqCount })

def execWqAbort (p q : Nat) (s : State) : Host.Outcome State Fault Refusal := .next (s.wqAbort p q)
def execDescriptorFetch (p q : Nat) (s : State) : Host.Outcome State Fault Refusal := .next (s.fetchDesc p q)
def execFuncNop (p q : Nat) (s : State) : Host.Outcome State Fault Refusal := .next (s.nopStart p q)
def execFuncLoad (p q : Nat) (s : State) : Host.Outcome State Fault Refusal := .next (s.loadStart p q)
def execFuncRun (p q : Nat) (s : State) : Host.Outcome State Fault Refusal := .next (s.runStart p q)
def execFuncEmbBag (p q item : Nat) (s : State) : Host.Outcome State Fault Refusal := .next (s.stockItem p q 0x10 item)
def execFuncUpdate (p q item : Nat) (s : State) : Host.Outcome State Fault Refusal := .next (s.stockItem p q 0x11 item)
def execFuncReduce (p q item : Nat) (s : State) : Host.Outcome State Fault Refusal := .next (s.stockItem p q 0x12 item)
def execFuncTopk (p q item : Nat) (s : State) : Host.Outcome State Fault Refusal := .next (s.stockItem p q 0x13 item)
def execFuncSegReduce (p q item : Nat) (s : State) : Host.Outcome State Fault Refusal := .next (s.stockItem p q 0x14 item)
def execFuncSort (p q item : Nat) (s : State) : Host.Outcome State Fault Refusal := .next (s.stockItem p q 0x15 item)
def execFuncPack (p q item : Nat) (s : State) : Host.Outcome State Fault Refusal := .next (s.stockItem p q 0x16 item)
def execFuncCheckpoint (p q : Nat) (s : State) : Host.Outcome State Fault Refusal := .next (s.ckptDesc p q)
def execItemDispatch (p q : Nat) (s : State) : Host.Outcome State Fault Refusal := .next (s.dispatchItem p q)
def execDescriptorComplete (p q : Nat) (s : State) : Host.Outcome State Fault Refusal := .next (s.completeDesc p q)

def execSvcLookup (p conn table reqId : Nat) (rows : List Nat) (s : State) : Host.Outcome State Fault Refusal :=
  .next (s.svcRequest p { conn, op := 1, table, reqId, rows, grads := [], beat := s.beat.number })

def execSvcLookupBag (p conn table reqId : Nat) (rows : List Nat) (s : State) : Host.Outcome State Fault Refusal :=
  .next (s.svcRequest p { conn, op := 2, table, reqId, rows, grads := [], beat := s.beat.number })

def execSvcUpdate (p conn table reqId : Nat) (rows grads : List Nat) (s : State) : Host.Outcome State Fault Refusal :=
  .next (s.svcRequest p { conn, op := 3, table, reqId, rows, grads, beat := s.beat.number })

def execSvcTimeout (p reqId : Nat) (s : State) : Host.Outcome State Fault Refusal := .next (s.svcTimeout p reqId)
def execCkptPeriodRun (p : Nat) (s : State) : Host.Outcome State Fault Refusal := .next (s.ckptPeriod p)
def execCkptChunkAck (p idx : Nat) (accepted : Bool) (s : State) : Host.Outcome State Fault Refusal := .next (s.ckptAck p idx accepted)
def execCkptChunkTimeout (p idx : Nat) (s : State) : Host.Outcome State Fault Refusal := .next (s.ckptTimeout p idx)

end Sys2Proof.Machine
end

