-- ==== Sys2Proof/Machine/Network.lean ====
section
/-! DEFINITION. The fabric network: route tags, parity, the DAT check code, routing, ejection, ingress queues,
retries and trackers (R164–R187). A flit leaves a router in the command in which it arrives. -/

namespace Sys2Proof.Machine

/-! ## The route tag (R165) -/

def tagDx (t : BitVec 48) : Nat := (t.extractLsb' 42 6).toNat
def tagDy (t : BitVec 48) : Nat := (t.extractLsb' 36 6).toNat
def tagDport (t : BitVec 48) : Nat := (t.extractLsb' 33 3).toNat
def tagSx (t : BitVec 48) : Nat := (t.extractLsb' 27 6).toNat
def tagSy (t : BitVec 48) : Nat := (t.extractLsb' 21 6).toNat
def tagSport (t : BitVec 48) : Nat := (t.extractLsb' 18 3).toNat
def tagVc (t : BitVec 48) : Nat := (t.extractLsb' 16 2).toNat
def tagPoison (t : BitVec 48) : Bool := t.getLsbD 15
def tagLast (t : BitVec 48) : Bool := t.getLsbD 14
def tagTxid (t : BitVec 48) : Nat := (t.extractLsb' 0 13).toNat

/-! ## Parity (R164) -/

/-- Payload bits of a network. -/
def payloadBits : Net → Nat
  | .req => 160
  | .snp => 128
  | .rsp => 96
  | .dat => 1024

/-- Odd number of ones among the low `n` bits. -/
def oddOnes (v n : Nat) : Bool := popCount v n % 2 == 1

/-- Tag and payload as one number, the tag in the low 48 bits: the order in which the groups of 32 bits
are counted (notes/assumptions/10.md). -/
def flitBits (f : Flit) : Nat := f.tag.toNat + f.payload.toNat % 2 ^ payloadBits f.net * 2 ^ 48

/-- Bits that the parity covers: tag and payload, on DAT the tag alone. -/
def parityBits (n : Net) : Nat := if n = .dat then 48 else 48 + payloadBits n

/-- Parity bit `i` of a flit is right: even parity over its group of 32 bits. -/
def parityOk (f : Flit) (i : Nat) : Bool :=
  oddOnes (flitBits f % 2 ^ parityBits f.net / 2 ^ (32 * i) % 2 ^ 32) 32 == f.parity.testBit i

/-- The groups that hold bits of the route tag: checked by every router (R185). -/
def tagParityOk (f : Flit) : Bool := parityOk f 0 && parityOk f 1

/-- The other groups: checked where the flit is ejected (R185). -/
def payloadParityOk (f : Flit) : Bool :=
  (List.range ((parityBits f.net + 31) / 32)).all (fun i => decide (i < 2) || parityOk f i)

/-! ## The DAT check code (R184): GF(2^8) with x^8 + x^4 + x^3 + x^2 + 1 -/

/-- Times α. -/
def gfTimes2 (a : Nat) : Nat := if 128 ≤ a then (2 * a) ^^^ 0x11D else 2 * a

def gfMulFrom : Nat → Nat → Nat → Nat
  | 0, _, _ => 0
  | n + 1, a, b => (if b % 2 = 1 then a else 0) ^^^ gfMulFrom n (gfTimes2 a) (b / 2)

/-- Product in the field. -/
def gfMul (a b : Nat) : Nat := gfMulFrom 8 a b

/-- α^n. -/
def gfPow : Nat → Nat
  | 0 => 1
  | n + 1 => gfTimes2 (gfPow n)

/-- A code word's value at a point, lowest coefficient first. -/
def gfEval (x : Nat) : List Byte → Nat
  | [] => 0
  | b :: r => b.toNat ^^^ gfMul x (gfEval x r)

/-- The code word of a flit: check bytes are the low coefficients, data bytes the rest
(notes/assumptions/10.md). -/
def codeWord (f : Flit) : List Byte := f.check.take 8 ++ toLe 128 f.payload.toNat

/-- The eight syndromes. -/
def syndromes (c : List Byte) : List Nat := (List.range 8).map (fun k => gfEval (gfPow k) c)

/-- What the check finds: clean, one byte to be corrected (its place and what is added to it), or an error
that is only detected. -/
inductive Check where
  | clean
  | byte (i e : Nat)
  | bad
  deriving DecidableEq, Repr

def checkWord (c : List Byte) : Check :=
  let s := syndromes c
  if s.all (· == 0) then .clean
  else
    match (List.range c.length).find? (fun i =>
      s.head? != some 0 && (s.zipIdx).all (fun e => e.1 == gfMul (s.headD 0) (gfPow (i * e.2)))) with
    | some i => .byte i (s.headD 0)
    | none => .bad

/-- A DAT flit with one byte corrected. -/
def correctFlit (f : Flit) (i e : Nat) : Flit :=
  if i < 8 then { f with check := f.check.zipIdx.map (fun (b : Byte × Nat) => if b.2 = i then b.1 ^^^ BitVec.ofNat 8 e else b.1) }
  else { f with payload := f.payload ^^^ BitVec.ofNat 1024 (e * 2 ^ (8 * (i - 8))) }

/-! ## Routing (R168, R169, R174) -/

/-- An endpoint sits at a port of a router: the tile, a station facing off the mesh, or an attached one. -/
def endpointAt (x y port : Nat) : Bool :=
  match port with
  | 0 => true
  | 1 => y == 0
  | 2 => x == 47
  | 3 => y == 47
  | 4 => x == 0
  | 5 => (List.range 12).any (fun n => attRouter n == (x, y))
  | _ => false

/-- Output of a flit at a router: X first, then Y, then DPORT. -/
def outputAt (x y : Nat) (t : BitVec 48) : Nat :=
  if x < tagDx t then 2 else if tagDx t < x then 4
  else if y < tagDy t then 3 else if tagDy t < y then 1
  else tagDport t

/-- A packet, by network, source and channel. -/
def packetKey (f : Flit) : Nat :=
  let n := match f.net with | .req => 0 | .snp => 1 | .rsp => 2 | .dat => 3
  ((n * 64 + tagSx f.tag) * 64 + tagSy f.tag) * 32 + tagSport f.tag * 4 + tagVc f.tag

/-- A flit discarded under a tag error (R169, R185): reported and counted, and the rest of its packet with it. -/
def State.discardFlit (s : State) (f : Flit) (code : Nat) : State :=
  let t := { s with noc := { s.noc with
      dropping := if tagLast f.tag then s.noc.dropping.erase (packetKey f) else s.noc.dropping.set (packetKey f) () } }
  (t.bump .nocParityErr).ev code

/-- A DAT flit counted where it crosses a cut (R183, R187). -/
def State.countCut (s : State) (x y out : Nat) (f : Flit) : State :=
  if f.net ≠ .dat then s
  else if x = 23 ∧ out = 2 then s.bump .nocCutFlits 0 0
  else if x = 24 ∧ out = 4 then s.bump .nocCutFlits 0 1
  else if y = 23 ∧ out = 3 then s.bump .nocCutFlits 0 2
  else if y = 24 ∧ out = 1 then s.bump .nocCutFlits 0 3
  else s

/-- Its path crosses either cut. -/
def crossesCut (t : BitVec 48) : Bool :=
  (decide (tagSx t < 24) != decide (tagDx t < 24)) || (decide (tagSy t < 24) != decide (tagDy t < 24))

/-- A partition's DAT flits that cross a cut, counted at their injector (R183). -/
def State.countPtnCut (s : State) (x y : Nat) (f : Flit) : State :=
  match f.ptn with
  | some p => if f.net = .dat ∧ x = tagSx f.tag ∧ y = tagSy f.tag ∧ crossesCut f.tag then s.bump .nocPtnCutFlits 0 p else s
  | none => s

/-- A flit arrives at a router (R169, R185). -/
def State.routerFlit (s : State) (x y : Nat) (f : Flit) : State :=
  if (s.noc.dropping.find (packetKey f)).isSome then
    if tagLast f.tag then { s with noc := { s.noc with dropping := s.noc.dropping.erase (packetKey f) } } else s
  else if ¬ tagParityOk f ∨ 48 ≤ tagDx f.tag ∨ 48 ≤ tagDy f.tag ∨ tagVc f.tag = 3
      ∨ ¬ endpointAt (tagDx f.tag) (tagDy f.tag) (tagDport f.tag) then
    s.discardFlit f Ev.nocTagParity
  else
    let out := outputAt x y f.tag
    (((s.countPtnCut x y f).countCut x y out f).emit (.flitOut x y out f))

/-! ## Ejection (R180, R184, R185) -/

/-- What a tile bridge does for a held tile (R180). -/
def State.bridgeFlit (s : State) (x y : Nat) (f : Flit) : State :=
  match f.net with
  | .snp => s.emit (.bridgeAck x y f)
  | .dat => s.bump .nocBridgeDiscards
  | .rsp => s.bump .nocBridgeDiscards
  | .req => s

def State.ejectFlit (s : State) (x y port : Nat) (f : Flit) : State :=
  if port = 0 ∧ s.tileHeld (tileAt x y) then s.bridgeFlit x y f
  else if f.net ≠ .dat then
    if payloadParityOk f then s.emit (.flitTaken x y port f (tagPoison f.tag))
    else (s.bump .nocParityErr).ev Ev.nocCtlParity
  else
    match checkWord (codeWord f) with
    | .clean => s.emit (.flitTaken x y port f (tagPoison f.tag))
    | .byte i e =>
      ((s.bump .nocDatCe).ev Ev.nocDatCe).emit (.flitTaken x y port (correctFlit f i e) (tagPoison f.tag))
    | .bad => ((s.bump .nocDatUe).ev Ev.nocDatUe f.ptn).emit (.flitTaken x y port f true)

/-! ## Ingress queues, retries and trackers (R176, R186) -/

def State.ingressQueue (s : State) (port p : Nat) : List HomeReq := s.noc.ingress.get (32 * port + p) []

def State.setIngress (s : State) (port p : Nat) (q : List HomeReq) : State :=
  { s with noc := { s.noc with ingress := s.noc.ingress.put (32 * port + p) q [] } }

/-- The class under which a request enters (R189): SYS stays only for sync operations and interrupts,
which are not requests of a home agent. -/
def State.demote (s : State) (l : Label) : State × Label :=
  if l.cls = 7 then (s.bump .qosSysDemoted 0 l.ptn, { l with cls := 2 }) else (s, l)

/-- The mirror queue of a partition is full (R374). -/
def State.mirrorFull (s : State) (p : Nat) : Bool :=
  let l := s.sox.pair.mirrorq.filter (fun w => w.ptn == p)
  s.rd .soxPairRole == 1 && s.rd .soxMirror 0 p == 1 && decide (s.rd .soxMirrorQueueMib * 0x100000 ≤ (l.map (fun w => w.data.length)).foldl (· + ·) 0)

/-- The label under which a memory request enters at a stack port: class SYS stays there only for the hub's own accesses (R189). -/
def State.ingressLabel (s : State) (port : Nat) (r : HomeReq) : State × Label :=
  if selKind port = 4 ∧ r.entry ≠ .hub then s.demote r.lab else (s, r.lab)

/-- A REQ flit at a port (R176): queued; with a full queue, or a full mirror queue, a SCH flit is recorded as a retry and
dropped, any other waits under its credits. -/
def State.ingressReq (s : State) (port : Nat) (ch : Chan) (r : HomeReq) : State :=
  let q := s.ingressQueue port r.lab.ptn
  if q.length < 32 ∧ ¬ (!r.data.isEmpty ∧ s.mirrorFull r.lab.ptn) then
    let e := s.ingressLabel port r
    e.1.setIngress port r.lab.ptn (q ++ [{ r with lab := e.2 }])
  else
    match ch with
    | .sch =>
      let t := { s with noc := { s.noc with
          retries := s.noc.retries.put port (s.noc.retries.get port [] ++ [(r.lab.ptn, r.id)]) [] } }
      (t.bump .qosPtnRetries 0 r.lab.ptn).emit (.retry port r.id)
    | _ => s

/-- A retry reaches its requester, which reissues the request in a later owned slot and keeps its
space; its time limit is not restarted (R176, R186). -/
def State.retryRx (s : State) (id : Nat) : State :=
  let t := { s with noc := { s.noc with
    retries := (s.noc.retries.mapVal (fun _ (l : List (Nat × Nat)) => l.filter (fun (e : Nat × Nat) => e.2 != id))).where (fun _ l => !l.isEmpty) } }
  match t.noc.trackers.find id with
  | some k => { t.emit (.reissue id) with noc := { t.noc with trackers := t.noc.trackers.set id { k with retried := true } } }
  | none => t.emit (.reissue id)

/-- NOC_RSP_TIMEOUT passes for a tracker (R186): the request completes with poison, and the tracker keeps its
number until the late answer or the owner's next reset. A part that has landed has its answer. -/
def State.rspTimeout (s : State) (id : Nat) : State :=
  match s.noc.trackers.find id with
  | none => s
  | some k =>
    if k.timedOut ∨ k.landed ∨ k.phase = .fenced ∨ k.phase = .xlate ∨ k.phase = .hold then s
    else
      let t := s.timeOut id k
      let t := match k.ptn with
        | some p => t.bump .nocTimeouts 0 p
        | none => t
      (t.settleEntry t.entryFuel k.entry).ev Ev.nocRspTimeout k.ptn

/-! ## The commands -/

def execRouterFlitArrival (x y : Nat) (f : Flit) (s : State) : Host.Outcome State Fault Refusal := .next (s.routerFlit x y f)

def execFlitEject (x y port : Nat) (f : Flit) (s : State) : Host.Outcome State Fault Refusal := .next (s.ejectFlit x y port f)

def execIngressReq (port : Nat) (ch : Chan) (r : HomeReq) (s : State) : Host.Outcome State Fault Refusal :=
  .next (s.ingressReq port ch r)

def execRetryRx (id : Nat) (s : State) : Host.Outcome State Fault Refusal := .next (s.retryRx id)

def execNocRspTimeout (id : Nat) (s : State) : Host.Outcome State Fault Refusal := .next (s.rspTimeout id)

end Sys2Proof.Machine
end

