-- ==== Sys2Proof/Machine/ScaleOut.lean ====
section
/-! DEFINITION. Scale-out: ports and time, the checks of a frame, connections, retransmission, congestion, egress tables
and fault notices (R350–R370). -/

namespace Sys2Proof.Machine

/-! ## Identity (R353, R371) -/

/-- The hub is a member of a pair: SOX_PAIR_MODE is set and it is not UNPAIRED. -/
def State.paired (s : State) : Bool := s.rd .soxPairMode != 0 && s.rd .soxPairRole != pairUnpaired

/-- The package IDs that the hub answers: 2P while it holds it, else its own. A FENCED member answers none. -/
def State.answersPkg (s : State) (id : Nat) : Bool :=
  let own := s.rd .soxPkgId
  let role := s.rd .soxPairRole
  if !s.paired then id == own
  else if role = pairActive ∨ role = pairSolo then id == own / 2 * 2
  else if role = pairStandby then id == own / 2 * 2 + 1
  else false

/-! ## Ports and time (R351, R354, R355) -/

/-- A port's state changes. -/
def State.portChange (s : State) (e st : Nat) : State :=
  if 16 ≤ e ∨ 3 < st ∨ s.rd .soxPortState 0 e = st then s
  else (s.wr .soxPortState st 0 e).ev (Ev.soxPortChange e) none (Config.detail [st])

/-- Reasons of SOX_DROPPED. -/
def dropFormat : Nat := 0
def dropKind : Nat := 1
def dropPkg : Nat := 2
def dropNoConn : Nat := 3
def dropTag : Nat := 4
def dropPsn : Nat := 5

def State.dropFrame (s : State) (e reason : Nat) : State := s.bumpWord .soxDropped reason 0 e

/-- A port runs PTP in a domain. -/
def State.ptpOn (s : State) (e domain : Nat) : Bool := (s.rd .soxPtpEn).testBit e && s.rd .soxPtpDomain == domain && s.portUp e

/-- The best port: of those that have announced a master and miss no Sync, the lowest rank, then the lowest number. -/
def State.bestPort (s : State) : Nat :=
  ((s.sox.ptp.filter (fun e => (s.rd .soxPtpEn).testBit e.1 && !e.2.missed)).foldl (fun (b : Option (Nat × Nat)) e =>
    match b with
    | none => some (e.1, e.2.rank)
    | some m => if e.2.rank < m.2 then some (e.1, e.2.rank) else some m) none).elim 0xFF (·.1)

def State.setPtp (s : State) (m : AMap PtpPort) : State :=
  let t : State := { s with sox := { s.sox with ptp := m } }
  t.wr .soxPtpPort t.bestPort

/-- A Sync: `missed` names the ports that missed theirs in its interval. A two-step Sync waits for its Follow_Up. -/
def State.ptpSync (s : State) (e domain : Nat) (twoStep : Bool) (missed : Nat) : State :=
  if !s.ptpOn e domain then s
  else
    (s.setPtp (s.sox.ptp.mapVal (fun i (p : PtpPort) =>
      if i = e then { p with twoStep, missed := false } else { p with missed := missed.testBit i }))).emit (.ptpDelayReq e)

def State.ptpFollowUp (s : State) (e domain : Nat) : State :=
  if !s.ptpOn e domain then s
  else s.setPtp (s.sox.ptp.mapVal (fun i (p : PtpPort) => if i = e then { p with twoStep := false } else p))

/-- Delay_Resp completes the measurement of a port's path delay. -/
def State.ptpDelay (s : State) (e domain delay : Nat) : State :=
  if !s.ptpOn e domain then s
  else s.setPtp (s.sox.ptp.mapVal (fun i (p : PtpPort) => if i = e then { p with delay } else p))

def State.ptpAnnounce (s : State) (e rank : Nat) : State :=
  if (s.rd .soxPtpEn).testBit e ∧ s.portUp e then
    s.setPtp (s.sox.ptp.set e { (s.sox.ptp.get e { rank }) with rank })
  else s

/-! ## The checks of a frame (R359) -/

/-- Packets that travel on the pair link (R377). -/
def ofPair (f : Frame) : Bool :=
  f.type == sftAck || f.type == sftCnp || f.type == sftJournal || f.type == sftMirror || f.type == sftHeartbeat ||
  (f.type == sftCtrl && (field f.ext 99 92 == ctrlReset || field f.ext 99 92 == ctrlHello || field f.ext 99 92 == ctrlHelloAck))

/-- Packets that travel on the pair link and on connections alike. -/
def ofConn (f : Frame) : Bool := f.type == sftAck || f.type == sftCnp || (f.type == sftCtrl && field f.ext 99 92 == ctrlReset)

/-- Check 3: the connection that a frame names, with matching ends. -/
def State.frameConn (s : State) (f : Frame) : Option Conn :=
  match s.conn f.conn with
  | none => none
  | some c =>
    if f.conn = 0 then (if f.srcPkg = c.pkg ∧ ofPair f then some c else none)
    else if ofPair f ∧ ¬ ofConn f then none
    else if c.st ≠ .failed ∧ c.pkg = f.srcPkg ∧ c.rptn = f.srcPtn ∧ c.ptn = f.dstPtn then some c else none

/-- Check 4: the tag verifies, under a generation that the partition holds. -/
def State.frameTag (s : State) (f : Frame) (c : Conn) : Bool :=
  f.tagOk && (f.conn == 0 || f.type == sftCtrl || (s.fabricKeys c.ptn).any (fun k => k.gen == f.kgen))

/-- Checks 1 and 2, then `k`. After a FATAL-HUB nothing is received (R555); before READY and once a reset is commanded every
frame is dropped and counted (R526, R537). -/
def State.frame12 (s : State) (f : Frame) (k : State → State) : State :=
  if s.owl.fatalHub then s
  else if s.rd .pdxReady = 0 ∨ s.startup.reset.isSome then s.dropFrame f.port dropNoConn
  else if ¬ f.format ∨ f.ver ≠ 1 ∨ f.cls = 5 ∨ f.cls = 6 then s.dropFrame f.port dropFormat
  else if !s.answersPkg f.dstPkg then s.dropFrame f.port dropPkg
  else k s

/-- A drop at check 3 or 4 is reported too. -/
def State.dropIsolation (s : State) (f : Frame) : State := (s.dropFrame f.port dropNoConn).ev Ev.soxIsolation none (Config.detail [f.conn])
def State.dropAuth (s : State) (f : Frame) : State := (s.dropFrame f.port dropTag).ev Ev.soxAuthFail none (Config.detail [f.conn])

/-- A frame of a connection that passes checks 1 to 4, given to `k` with its connection. -/
def State.frameOn (s : State) (f : Frame) (k : State → Conn → State) : State :=
  s.frame12 f (fun s =>
    match s.frameConn f with
    | none => s.dropIsolation f
    | some c => if s.frameTag f c then k s c else s.dropAuth f)

/-- The frame is of this TYPE, and of this operation where it is CTRL. -/
def isCtrl (f : Frame) (op : Nat) : Bool := f.type == sftCtrl && field f.ext 99 92 == op

/-! ## Ends of connections (R361) -/

def msgNoConn : Nat := 1
def msgFailed : Nat := 2
def msgPeerFault : Nat := 3

/-- Message numbers of packets. -/
def msgsOf (l : List Packet) : List Nat := (l.map (fun k => field k.ext 99 68)).eraseDups

/-- Messages of a connection that have not been acknowledged whole. -/
def Conn.openMsgs (c : Conn) : List Nat := msgsOf (c.unacked.map (fun (e : Nat × Unacked) => e.2.pkt) ++ c.queue)

def State.endMsgs (s : State) (n : Nat) (c : Conn) (status : Nat) : State :=
  s.emitAll (c.openMsgs.map (fun m => .msgStatus n m status))

/-- A connection is CLOSED; its waiting messages complete with a status. -/
def State.closeConn (s : State) (n : Nat) (c : Conn) (status : Nat) : State := (s.endMsgs n c status).dropConn n

/-- FAILED: unacknowledged messages complete with CONN_FAILED; at the next edge the connection is CLOSED. -/
def State.failConn (s : State) (n : Nat) (c : Conn) : State :=
  (((s.endMsgs n c msgFailed).setConn n { c with st := .failed, queue := [], unacked := [] }).bump .soxConnFailed 0 c.ptn).ev
    Ev.soxConnFailed (some c.ptn) (Config.detail [n])

/-- CLOSE goes out once every packet is acknowledged. -/
def State.settleClose (s : State) (n : Nat) : State :=
  match s.conn n with
  | some c =>
    if c.st = .closing ∧ ¬ c.closeSent ∧ c.unacked.isEmpty ∧ c.queue.isEmpty then
      s.sendCtl n { c with closeSent := true } 2 sftCtrl (ctrlExt ctrlClose n 0) []
    else s
  | none => s

def State.startClose (s : State) (n : Nat) : State :=
  match s.conn n with
  | some c => if c.st = .open ∧ n ≠ 0 then (s.setConn n { c with st := .closing }).settleClose n else s
  | none => s

/-! ## Receiving in order (R364) -/

/-- An ACK: CUM, SACK and DELAY, the last of which timing gives. -/
def State.sendAck (s : State) (n : Nat) (c : Conn) : State :=
  let sack := (List.range 32).foldl (fun v i => if (c.held.find (c.rx + 1 + i)).isSome then v + 2 ^ i else v) 0
  (s.sendCtl n { c with owed := 0 } 1 sftAck (c.rx * 2 ^ 52 + sack * 2 ^ 20 + s.free.toNat % 2 ^ 20) []).drawn

/-- A packet delivered in PSN order. On the pair link, entries of a journal are kept and mirror writes are done (R374). -/
def State.deliverPkt (s : State) (n : Nat) (k : Packet) : State :=
  if k.type = sftJournal then
    { s with sox := { s.sox with pair := { s.sox.pair with rxJournal := s.sox.pair.rxJournal ++ k.payload } } }
  else if k.type = sftMirror then
    let t : State := { s with sox := { s.sox with pair := { s.sox.pair with mirrors := s.sox.pair.mirrors + 1 } } }
    t.store64 (field k.ext 99 36) k.payload false
  else s.emit (.delivered n k.type k.lab k.ext k.eom k.payload)

/-- Packets held are delivered while the next PSN is among them. -/
def State.deliverHeld : Nat → State → Nat → State
  | 0, s, _ => s
  | f + 1, s, n =>
    match s.conn n with
    | none => s
    | some c =>
      match c.held.find c.rx with
      | none => s
      | some k => State.deliverHeld f ((s.setConn n { c with held := c.held.erase c.rx, rx := c.rx + 1 }).deliverPkt n k) n

/-- A congestion notification for the plane on which a CE mark arrived (R367). -/
def State.sendCnp (s : State) (n : Nat) (e : Nat) : State :=
  match s.conn n with
  | some c => s.sendCtl n c 1 sftCnp (e * 2 ^ 96) []
  | none => s

/-- A packet of space 0: check 5, the reorder store, delivery, and an ACK after 16 packets. -/
def State.rxOrdered (s : State) (n : Nat) (c : Conn) (f : Frame) : State :=
  if f.psn < c.rx ∨ (c.held.find f.psn).isSome then s.sendAck n c
  else if c.rx + 4096 ≤ f.psn then s.dropFrame f.port dropPsn
  else
    let r : State × Label :=
      if f.type = sftColl ∨ f.type = sftJournal then (s, { ptn := f.dstPtn, ctx := f.ctx, cls := f.cls })
      else s.demote { ptn := f.dstPtn, ctx := f.ctx, cls := f.cls }
    let k : Packet := { type := f.type, eom := f.eom, lab := r.2, ext := f.ext, payload := f.payload }
    let s := State.deliverHeld (c.held.length + 1) (r.1.setConn n { c with held := c.held.set f.psn k, owed := c.owed + 1 }) n
    let s := if f.ce then s.sendCnp n f.port else s
    match s.conn n with
    | some c => if 16 ≤ c.owed then s.sendAck n c else s
    | none => s

/-! ## Acknowledgement and retransmission (R363, R364) -/

/-- A packet sent again on a different usable plane whenever one exists, with its original bytes. -/
def State.resend (s : State) (n psn : Nat) : State :=
  match s.conn n with
  | none => s
  | some c =>
    match c.unacked.find psn with
    | none => s
    | some u =>
      let others := (s.planesOf c).filter (· != u.plane)
      match nextPlane (if others.isEmpty then s.planesOf c else others) c.lastPlane with
      | none => s
      | some e =>
        let c1 : Conn := { c with unacked := c.unacked.set psn { u with plane := e, passed := 0, resent := true }, lastPlane := e }
        let t := (s.setConn n c1).wirePacket c1 e psn u.kgen u.pkt
        if n = 0 then t else t.bump .soxRetx 0 c.ptn

/-- PSNs that an ACK acknowledges. -/
def acked (ext psn : Nat) : Bool :=
  let cum := field ext 99 52
  decide (psn < cum) || (decide (cum < psn) && decide (psn ≤ cum + 32) && ext.testBit (20 + (psn - cum - 1)))

/-- An ACK arrives: packets are freed, gaps that three later PSNs have passed are filled, the window moves on. A plane that
was not usable and on which a probe has been acknowledged is usable again. -/
def State.ackRx (s : State) (n : Nat) (c : Conn) (ext : Nat) : State :=
  let gone := c.unacked.where (fun psn _ => acked ext psn)
  let left := (c.unacked.where (fun psn _ => !acked ext psn)).mapVal (fun psn (u : Unacked) =>
    { u with passed := u.passed + (gone.filter (fun e => decide (psn < e.1))).length })
  let planes := gone.map (fun (e : Nat × Unacked) => e.2.plane)
  let c1 : Conn := { c with
    unacked := left, timeouts := if gone.isEmpty then c.timeouts else 0
    planeTimeouts := c.planeTimeouts.where (fun e _ => !planes.contains e), bad := c.bad.filter (fun e => !planes.contains e) }
  let s := s.setConn n c1
  let s := s.each (left.where (fun _ u => decide (3 ≤ u.passed) && !u.resent)).keys (fun s psn => s.resend n psn)
  (State.pumpConn c1.queue.length s n).settleClose n

/-- RTO passes for a PSN: a timeout of the connection and of its plane; the eighth in a row fails the connection. -/
def State.rtoRx (s : State) (n psn : Nat) : State :=
  match s.conn n with
  | none => s
  | some c =>
    match c.unacked.find psn with
    | none => s
    | some u =>
      let k := c.planeTimeouts.get u.plane 0 + 1
      let c1 : Conn := { c with
        timeouts := c.timeouts + 1, planeTimeouts := c.planeTimeouts.set u.plane k
        bad := if 4 ≤ k ∧ !c.bad.contains u.plane then c.bad ++ [u.plane] else c.bad }
      if 8 ≤ c1.timeouts ∧ n ≠ 0 then s.failConn n c1 else (s.setConn n c1).resend n psn

/-! ## Congestion (R367) -/

def State.ccOf (s : State) (c : Conn) (e : Nat) : Cc := c.cc.get e { alpha := 1, rate := s.rd .soxCcStart, signalled := false }

/-- The line rate of a port in Mb/s. -/
def State.lineRate (s : State) (e : Nat) : Rat := if s.rd .soxPortState 0 e = 3 then 400000 else 800000

/-- A congestion signal for a plane. -/
def State.ccSignal (s : State) (n : Nat) (c : Conn) (e : Nat) : State :=
  let x := s.ccOf c e
  let a := 15 / 16 * x.alpha + 1 / 16
  s.setConn n { c with cc := c.cc.set e { alpha := a, rate := max 100 (x.rate * (1 - a / 2)), signalled := true } }

/-- SOX_CC_PERIOD passes. -/
def State.ccPeriod (s : State) (n e : Nat) : State :=
  match s.conn n with
  | none => s
  | some c =>
    let x := s.ccOf c e
    if x.signalled then s.setConn n { c with cc := c.cc.set e { x with signalled := false } }
    else
      let y : Cc := { alpha := 15 / 16 * x.alpha, rate := min (s.lineRate e) (x.rate + (s.rd .soxCcAi : Rat)), signalled := false }
      s.setConn n { c with cc := c.cc.set e y }

/-! ## Opening (R361, R362, R441) -/

/-- REFUSE to the sender of a frame. -/
def State.refuseOpen (s : State) (f : Frame) (reason : Nat) : State :=
  s.sendSft ({ port := f.port, type := sftCtrl, dstPkg := f.srcPkg, srcPtn := f.dstPtn, dstPtn := f.srcPtn
               conn := field f.ext 91 68, psn := 0, kgen := f.kgen, ctx := 0, cls := clsSys, eom := false
               ext := ctrlExt ctrlRefuse 0 reason, payload := [] })

/-- OPEN_ACK of a connection, with the hub's number in PEER_CONN. -/
def State.sendOpenAck (s : State) (n : Nat) (c : Conn) : State := s.sendCtl n c 2 sftCtrl (ctrlExt ctrlOpenAck n 0) []

/-- An OPEN: refused with NO_KEY, NOT_SEALED or FULL, or answered OPEN_ACK. -/
def State.openRx (s : State) (f : Frame) : State :=
  let p := f.dstPtn
  let id := leNat (f.payload.take 4)
  let peer := field f.ext 91 68
  if !(s.fabricKeys p).any (fun k => k.keyId == id) then s.refuseOpen f 1
  else if ¬ f.tagOk then s.dropAuth f
  else if s.ptnState p ≠ ptnSealed then s.refuseOpen f 2
  else
    match s.connOf p f.srcPkg f.srcPtn with
    | some n =>
      (match s.conn n with
       | some c =>
         if c.st = .open ∨ c.st = .opening then
           State.pumpConn c.queue.length (s.sendOpenAck n { c with st := .open, peer }) n
         else s.refuseOpen f 3
       | none => s)
    | none =>
      if !s.connRoom p then s.refuseOpen f 3
      else s.sendOpenAck s.freeConn { ptn := p, pkg := f.srcPkg, rptn := f.srcPtn, st := .open, peer, window := s.rd .soxWindow }

/-- A partition's block first sends to a remote partition: OPENING, or NO_CONN where no connection may be (R360, R361). -/
def State.openRequest (s : State) (p pkg rptn : Nat) : State :=
  if s.ptnState p ≠ ptnSealed then s else s.openConn p pkg rptn

/-- 100 µs pass without an answer to an OPEN. -/
def State.openRetry (s : State) (n : Nat) : State :=
  match s.conn n with
  | some c => if c.st ≠ .opening then s else if c.tries < 8 then s.sendOpen n c else s.closeConn n c msgNoConn
  | none => s

/-! ## Egress tables (R368) -/

/-- An entry that R368 allows: NET, DEST and the reserved bits are zero. -/
def egressEntryOk (v : Nat) : Bool :=
  let e := slotEntryOf v
  e.kind != 3 && e.net == 0 && e.dest == 0 && e.low == 0 && (e.kind == 1 || e.ptn == 0)

/-- A write of SOX_EGRESS_TABLE, which applies at the next edge. -/
def State.egressWrite (s : State) (role : Role) (e v : Nat) : Answer :=
  let es := (List.range 128).map (fun k => field v (32 * k + 31) (32 * k))
  if 16 ≤ e then s.refuse stNotFound
  else if !mayWrite [.r, .r, .b, .r, .n] role then s.refuse stDenied
  else if es.any (fun w => !egressEntryOk w) ∨ (es.filter (fun w => (slotEntryOf w).kind == 2)).length < 8 then s.refuse stRange
  else (stPending, s.holdBeat .soxEgressTable v 0 e)

end Sys2Proof.Machine
end

