-- ==== Sys2Proof/Machine/Sites.lean ====
section
/-! DEFINITION. Chiplet sites: modules and link groups, training and retry, sideband messages, attestation, binding, and the
reset and loss of a chiplet (R270–R300). -/

namespace Sys2Proof.Machine

/-! ## Modules and groups (R273, R274) -/

/-- UCI_LINK_STATE. -/
def lsAbsent : Nat := 0
def lsTraining : Nat := 1
def lsUp : Nat := 2
def lsDegraded : Nat := 3
def lsDown : Nat := 4
def lsHeld : Nat := 5

/-- UCI_ATTEST_STATE. -/
def atPending : Nat := 0
def atAttested : Nat := 1
def atUnattested : Nat := 2
def atFailed : Nat := 3

/-- UCI_COH_ROLE. -/
def roleNone : Nat := 0
def roleNc : Nat := 1
def roleCoherent : Nat := 2

/-- A population that R273 allows. -/
def populationOk (m : Nat) : Bool := [0x1, 0x3, 0xF, 0xFF, 0xFFF, 0xFFFF].contains m

/-- The lowest set bit of a group's four modules, as a mask. -/
def lowestModule (m : Nat) : Nat := match bitsOf m 4 with
  | [] => 0
  | i :: _ => 2 ^ i

/-- The widest set of R274 for a group: of its populated modules, those that run. -/
def groupSet (populated disabled g : Nat) : Nat :=
  let pop := populated / 16 ^ g % 16
  let en := (List.range 4).foldl (fun a i => if pop.testBit i ∧ ¬ disabled.testBit (4 * g + i) then a + 2 ^ i else a) 0
  if pop = 3 then (if en = 3 then 3 else lowestModule en)
  else if en = 15 then 15
  else if en % 4 = 3 then 3
  else if en / 4 = 3 then 12
  else lowestModule en

/-- A group carries or will carry flits: it stays in the distribution table while it retrains. -/
def GroupState.inUse (g : GroupState) : Bool := g == .up || g == .training

/-- Modules in use, from which the distribution table of R275 follows. -/
def Site.modules (x : Site) : Nat :=
  x.groups.zipIdx.foldl (fun a (e : GroupState × Nat) =>
    if e.1.inUse then a + groupSet x.populated x.disabled e.2 * 16 ^ e.2 else a) 0

/-- No group of a populated site is left. -/
def Site.allDown (x : Site) : Bool := x.groups.all (fun g => !g.inUse)

/-- The modules in use and the link state after a change of the groups. -/
def State.settleLink (s : State) (k : Nat) : State :=
  let x := s.site k
  let s := s.wr .uciModules x.modules k
  if s.rd .uciLinkState k = lsHeld ∨ s.rd .uciLinkState k = lsTraining then s
  else s.wr .uciLinkState (if x.allDown then lsDown else if x.disabled = 0 then lsUp else lsDegraded) k

def State.setGroup (s : State) (k g : Nat) (v : GroupState) : State :=
  let x := s.site k
  s.setSite k { x with groups := x.groups.zipIdx.map (fun (e : GroupState × Nat) => if e.2 = g then v else e.1) }

def Site.group (x : Site) (g : Nat) : GroupState := x.groups.getD g .none

/-! ## Sideband (R285–R287) -/

def sbxSpdm : Nat := 1
def sbxCap : Nat := 2
def sbxPwr : Nat := 3
def sbxRst : Nat := 4

/-- RST kinds. -/
def rstQuiesce : Nat := 1
def rstAssert : Nat := 3
def rstRelease : Nat := 4

/-- A request on the sideband, which expects a response. -/
def State.sbxRequest (s : State) (k cls payload : Nat) : State :=
  let x := s.site k
  (s.setSite k { x with sbx := x.sbx.set x.nextSbx { cls, payload, attempts := 1 }, nextSbx := (x.nextSbx + 1) % 4096 }).emit
    (.sbx k cls false x.nextSbx 0 payload)

/-- Requests of a chiplet other than those of the start are answered BUSY before READY, and every one after a FATAL-HUB (R526,
R555). -/
def State.sbxBusy (s : State) (start : Bool) : Bool := s.owl.fatalHub || (!start && s.rd .pdxReady == 0)

/-- The response to a request of a chiplet. -/
def State.sbxAnswer (s : State) (k cls txn status : Nat) : State := s.emit (.sbx k cls true txn status 0)

/-- A reset message. -/
def State.sbxReset (s : State) (k kind : Nat) : State :=
  let x := s.site k
  (s.setSite k { x with nextSbx := (x.nextSbx + 1) % 4096 }).emit (.sbx k sbxRst false x.nextSbx 0 (kind * 2 ^ 56))

/-- Requests of a class are answered or given up. -/
def State.sbxEnd (s : State) (k cls : Nat) : State :=
  let x := s.site k
  s.setSite k { x with sbx := x.sbx.where (fun _ r => r.cls != cls) }

/-! ## Policy, roles and levels (R291, R294, R447) -/

/-- SEC_CHIPLET_POLICY of a partition accepts the measurements of a site's chiplet. -/
def State.policyAccepts (s : State) (p k : Nat) : Bool :=
  let v := s.rd .secChipletPolicy 0 p
  v == 0 || (List.range 8).any (fun i => field v (512 * i + 511) (512 * i) != 0 && field v (512 * i + 511) (512 * i) == (s.site k).meas)

/-- The attestation state of a site admits a partition (R291). -/
def State.admits (s : State) (p k : Nat) : Bool :=
  let a := s.rd .uciAttestState k
  (a == atAttested && s.policyAccepts p k) || (a == atUnattested && s.rd .uciAcceptUnattested k p == 1)

/-- COH of a chiplet's CAP message (R288). -/
def State.capCoh (s : State) (k : Nat) : Nat := s.rdField .uciCap 75 72 k

/-- The role of a site's chiplet in a partition (R294). -/
def State.roleFor (s : State) (p k : Nat) : Nat :=
  let c := s.capCoh k
  if c ≠ 0 ∧ s.rd .cohPtnLevel 0 p ≤ c ∧ !(s.allowedWays p).isEmpty then roleCoherent else roleNc

/-- A partition is sealed: it has left FREE and FORMED and has not been dissolved. -/
def State.isSealed (s : State) (p : Nat) : Bool := s.ptnState p != ptnFree && s.ptnState p != ptnFormed

/-- Initial credits of a partition at a site (R313, R314). -/
def State.grantCredits (s : State) (p k : Nat) : State :=
  let x := s.site k
  ((s.setSite k { x with granted := x.granted.set p () }).emit (.credit k 0 p 96)).emit (.credit k 3 p 48)

/-! ## Loss (R297, R298) -/

/-- The chiplet holds lines of a partition or has a coherent request of it outstanding. -/
def State.cohBusy (s : State) (p k : Nat) : Bool :=
  s.coh.regions.any (fun e => e.2.ptn == p && e.2.slots.any (fun a => a.2 / 16 == k)) ||
  s.coh.txns.any (fun t => t.req.lab.ptn == p && t.op.line && t.req.entry == .site k) ||
  (s.trackersAt (.site k)).any (fun x => x.2.lab.ptn == p && x.2.op.line)

/-- A loss in one partition of the binding. While a reset of the partition runs, no further fault is raised (R299). -/
def State.lossIn (s : State) (k p : Nat) : State :=
  if s.ptnState p = ptnResetting then s
  else if s.rd .uciCohRole k p = roleCoherent ∧ s.cohBusy p k then s.takedown p 5 (16 * k) 0
  else s.ev (Ev.uciLoss k) (some p)

/-- What a station forgets when its chiplet is reset or lost: credits, queues and parts of writes (R296, R314). -/
def Site.cleared (x : Site) : Site :=
  { x with snpq := [], snpUsed := [], intrUsed := [], intrq := [], granted := [], parts := [], fenced := [], spdm := 0 }

/-- The chiplet is lost (R298). -/
def State.loseChiplet (s : State) (k : Nat) : State :=
  let x := s.site k
  if x.lost then s
  else
    let s := if s.testedSite k then s.abortPattern else s
    let s := (s.bump .uciLosses k).bump .uciLosses k 0 x.intrq.length
    let s := s.setSite k { x.cleared with lost := true, polling := true, reset := .none, quiesced := false }
    let s := (s.wr .uciAttestState atPending k).wr .uciLinkState lsDown k
    let kept := s.noc.trackers.where (fun _ t => !(t.entry == .site k && t.phase != .out))
    let s : State := { s with noc := { s.noc with trackers := kept.mapVal (fun _ (t : Tracker) =>
      if t.entry = .site k then { t with timedOut := true } else t) } }
    let s := State.settleEntry s.entryFuel s (.site k)
    let s := s.each (s.coh.snoops.filter (fun n => n.agent / 16 == k)) (fun s n => s.emit (.stationAck n.h n.txid n.agent))
    let s := s.each (bitsOf (s.rd .uciBind k) 32) (fun s p => if s.isSealed p then s.lossIn k p else s)
    s.each (bitsOf (s.rd .uciBind k) 32) State.remeasure

/-- A group is lost; with the last one the chiplet is, outside an orderly reset (R283, R284, R296). -/
def State.groupDown (s : State) (k g : Nat) : State :=
  let s := ((s.setGroup k g .down).ev (Ev.uciGroupDown k) none (Config.detail [g])).settleLink k
  let x := s.site k
  if x.allDown ∧ ¬ (x.reset = .asserted ∨ x.quiesced) then s.loseChiplet k else s

/-! ## Retry, retrain and narrowing (R282, R283) -/

/-- A module is disabled; after READY it counts as lost. -/
def State.disableModule (s : State) (k m : Nat) : State :=
  let x := s.site k
  let t := s.setSite k { x with disabled := setBit x.disabled m }
  (if t.rd .pdxReady = 1 then t.bump .uciModulesLost k else t).ev (Ev.uciModuleDisabled k) none (Config.detail [m])

/-- A group retrains: counted and reported. -/
def State.retrain (s : State) (k g : Nat) : State :=
  ((s.setGroup k g .training).bump .uciRetrains k).ev (Ev.uciRetrain k) none (Config.detail [g])

/-- A group narrowed after a module was disabled: it retrains once more, or is DOWN where no set is left. -/
def State.narrow (s : State) (k g : Nat) : State :=
  let x := s.site k
  let s := s.setSite k { x with
    fails := x.fails.zipIdx.map (fun (e : Nat × Nat) => if e.2 = g then 0 else e.1)
    narrowed := x.narrowed.zipIdx.map (fun (e : Bool × Nat) => if e.2 = g then true else e.1) }
  if groupSet x.populated x.disabled g = 0 then s.groupDown k g else (s.retrain k g).settleLink k

/-- A retrain ends (R283); `worst` is the module with the most lane errors, of those in use. -/
def State.retrainDone (s : State) (k g : Nat) (ok : Bool) (worst : Nat) : State :=
  let x := s.site k
  if x.group g ≠ .training then s
  else if ok then
    (((s.setSite k { x with
      fails := x.fails.zipIdx.map (fun (e : Nat × Nat) => if e.2 = g then 0 else e.1)
      narrowed := x.narrowed.zipIdx.map (fun (e : Bool × Nat) => if e.2 = g then false else e.1) }).setGroup k g .up).settleLink k)
  else if x.narrowed.getD g false then s.groupDown k g
  else if x.fails.getD g 0 = 0 then
    (s.setSite k { x with fails := x.fails.zipIdx.map (fun (e : Nat × Nat) => if e.2 = g then 1 else e.1) }).retrain k g
  else
    let used := groupSet x.populated x.disabled g
    let m := if used.testBit (worst % 4) then worst % 4 else (bitsOf used 4).headD 0
    (s.disableModule k (4 * g + m)).narrow k g

/-- Beats in 1 ms, rounded up. -/
def State.beatsPerMs (s : State) : Nat := (1000000 + s.rd .beatPeriod - 1) / max 1 (s.rd .beatPeriod)

/-- A retry of a group counted; more than 1,000 within 1 ms are reported (R282). -/
def State.crcRetry (s : State) (k g : Nat) : State :=
  let x := s.site k
  let recent := ((x.retries.get g []).filter (fun b => decide (s.beat.number.toNat < b.toNat + s.beatsPerMs))) ++ [s.beat.number]
  let s := s.bump .uciRetries k
  if 1000 < recent.length then
    (s.setSite k { x with retries := x.retries.erase g }).ev (Ev.uciRetryRate k) none (Config.detail [g])
  else s.setSite k { x with retries := x.retries.set g recent }

/-- A module loses its forwarded clock (R283). -/
def State.clockLoss (s : State) (k m : Nat) : State :=
  let x := s.site k
  let g := m / 4
  if ¬ x.populated.testBit m ∨ x.disabled.testBit m then s
  else
    let s1 := s.disableModule k m
    if (x.group g).inUse ∧ (groupSet x.populated x.disabled g).testBit (m % 4) then s1.narrow k g else s1.settleLink k

/-! ## Training (R281) -/

/-- A site trains: the rate that its groups reach, and the groups that do not train. -/
def State.train (s : State) (k : Nat) (rate : Option Nat) (down : Nat) : State :=
  let x := s.site k
  let gs : List GroupState := (List.range 4).map (fun g =>
    if x.populated / 16 ^ g % 16 = 0 then GroupState.none
    else if rate.isNone ∨ down.testBit g ∨ groupSet x.populated x.disabled g = 0 ∨ !populationOk x.populated then .down
    else .up)
  let y : Site := { x with groups := gs, fails := [0, 0, 0, 0], narrowed := [false, false, false, false], lost := false, polling := false }
  let s := (s.setSite k y).wr .uciModules y.modules k
  match rate with
  | some r =>
    if y.allDown then (s.wr .uciLinkState lsDown k).loseChiplet k
    else (s.wr .uciRateEffective r k).wr .uciLinkState (if x.offline then lsHeld else lsTraining) k
  | none => (s.wr .uciLinkState lsDown k).loseChiplet k

/-- Training at a start: a site that trains on no group is DOWN, and nothing is lost. -/
def State.trainFirst (s : State) (k : Nat) (rate : Option Nat) (down : Nat) : State :=
  let x := s.site k
  let gs : List GroupState := (List.range 4).map (fun g =>
    if x.populated / 16 ^ g % 16 = 0 then GroupState.none
    else if rate.isNone ∨ down.testBit g ∨ groupSet x.populated x.disabled g = 0 ∨ !populationOk x.populated then .down
    else .up)
  let y : Site := { x with groups := gs }
  let s := (s.setSite k y).wr .uciModules y.modules k
  match rate with
  | some r => if y.allDown then s.wr .uciLinkState lsDown k else (s.wr .uciRateEffective r k).wr .uciLinkState lsTraining k
  | none => s.wr .uciLinkState lsDown k

/-! ## Capabilities, attestation and rejoin (R288–R295) -/

/-- The hub's own CAP message (R288, R319). -/
def State.hubCap (s : State) : Nat :=
  s.rd .pdxVendorId * 2 ^ 112 + s.rd .pdxDeviceIds / 2 ^ 16 * 2 ^ 96 + 0xB0 * 2 ^ 88 + 15 * 2 ^ 84 + 3 * 2 ^ 80 + 1 * 2 ^ 76
    + 2 * 2 ^ 72 + 16 * 2 ^ 67

/-- Protocol and level that a CAP message and UCI_PROTO_ALLOW give (R289): protocol 0 where none qualifies. -/
def negotiate (allow cap : Nat) : Nat × Nat :=
  let proto := field cap 87 84
  let top := min (field cap 83 80) 3
  if allow.testBit 0 ∧ proto.testBit 0 then (if max (field cap 79 76) 1 ≤ top then (protoHtl, top) else (0, 0))
  else if allow.testBit 1 ∧ proto.testBit 1 ∧ (proto.testBit 2 ∨ proto.testBit 3) then (protoCxl, 2)
  else (0, 0)

/-- Attestation of a chiplet starts (R290). -/
def State.startAttest (s : State) (k : Nat) : State :=
  let x := s.site k
  (s.setSite k { x with spdm := 1 }).sbxRequest k sbxSpdm 1

/-- The chiplet's CAP message arrives (R288, R289). -/
def State.capRx (s : State) (k txn cap : Nat) : State :=
  let n := negotiate (s.rd .uciProtoAllow k) cap
  let st := s.rd .uciLinkState k
  if st = lsAbsent ∨ st = lsDown then s
  else
    let s := (s.wr .uciCap cap k).emit (.sbx k sbxCap true txn 0 s.hubCap)
    let s := (s.wr .uciProtocol n.1 k).wr .uciHtlLevel n.2 k
    let s := if n.1 = 0 then (s.wr .uciLinkState lsHeld k).ev (Ev.uciLevel k)
      else if st = lsTraining then (s.wr .uciLinkState lsUp k).settleLink k
      else s
    s.startAttest k

/-- Sealed partitions of a binding. -/
def State.sealedBound (s : State) (k : Nat) : List Nat := (bitsOf (s.rd .uciBind k) 32).filter s.isSealed

/-- A chiplet rejoins its sealed partitions, or the site is HELD (R295). -/
def State.rejoin (s : State) (k : Nat) : State :=
  let ps := s.sealedBound k
  let x := s.site k
  if ps.isEmpty ∨ s.rd .uciLinkState k = lsHeld then s
  else if ps.any (fun p => !s.admits p k) then (s.wr .uciLinkState lsHeld k).ev (Ev.uciAttestFail k)
  else if s.rd .uciProtocol k ≠ x.proto ∨ ps.any (fun p => decide (s.rd .uciHtlLevel k < s.rd .htlPtnLevel k p)) then
    (s.wr .uciLinkState lsHeld k).ev (Ev.uciLevel k)
  else s.each ps (fun s p => (s.wr .uciCohRole (s.roleFor p k) k p).grantCredits p k)

/-- Attestation ends in a state (R291). -/
def State.attestEnd (s : State) (k st : Nat) : State :=
  let x := s.site k
  let s := ((s.setSite k { x with spdm := 0 }).sbxEnd k sbxSpdm).wr .uciAttestState st k
  let s := if st = atFailed then (s.wr .uciLinkState lsHeld k).ev (Ev.uciAttestFail k) else s
  let s := if (s.site k).granted.isEmpty then s.rejoin k else s
  s.each (bitsOf (s.rd .uciBind k) 32) State.remeasure

/-- A step of the exchange of R290 is answered. -/
def State.spdmResponse (s : State) (k : Nat) (r : SpdmResult) : State :=
  let x := s.site k
  if x.spdm = 0 then s
  else
    let s := s.sbxEnd k sbxSpdm
    match r with
    | .unsupported => s.attestEnd k atUnattested
    | .bad => s.attestEnd k atFailed
    | .ok alg chain meas =>
      let x := s.site k
      let x := { x with alg := if x.spdm = 3 then alg else x.alg, chain := if x.spdm = 5 then chain else x.chain
                        meas := if x.spdm = 6 then meas else x.meas }
      if x.spdm = 6 then (s.setSite k x).attestEnd k atAttested
      else
        let s := (s.setSite k { x with spdm := x.spdm + 1 }).sbxRequest k sbxSpdm (if x.spdm = 5 then s.draw256 * 16 + 6 else x.spdm + 1)
        if x.spdm = 5 then s.drawn 4 else s

/-! ## Orderly reset (R296, R344) -/

/-- The snoop filter's entries of a site are recalled: each slot of its agents, line by line. -/
def State.recallSite (s : State) (k : Nat) : State :=
  s.each s.coh.regions (fun s (e : Nat × Region) =>
    s.each (e.2.slots.where (fun _ a => a / 16 == k)) (fun s (i : Nat × Nat) =>
      s.each ((e.2.lines.where (fun _ f => f.pres.contains i.1)).keys.filter (fun j => !s.lineActive (32 * e.1 + j)))
        (fun s j => s.snoopAll (32 * e.1 + j) [i.2] .inv (.slot e.1 i.1 none))))

/-- No line of the site is recorded and no snoop to it is outstanding. -/
def State.recalled (s : State) (k : Nat) : Bool :=
  s.coh.snoops.all (fun n => n.agent / 16 != k) && s.coh.regions.all (fun e => e.2.slots.all (fun a => a.2 / 16 != k))

/-- An orderly reset begins. -/
def State.startReset (s : State) (k : Nat) : State :=
  let x := s.site k
  if x.reset ≠ .none ∨ s.rd .uciLinkState k = lsAbsent then s
  else
    let s := if s.testedSite k then s.abortPattern else s
    (((s.setSite k { x with reset := .quiescing, quiesced := false }).bump .uciResets k).sbxReset k rstQuiesce).recallSite k

/-- The chiplet is reset: RST ASSERT, attestation PENDING, every group TRAINING. -/
def State.assertReset (s : State) (k : Nat) : State :=
  let x := s.site k
  let gs := x.groups.map (fun g => if g = GroupState.none then GroupState.none else .training)
  let s := s.setSite k { x.cleared with reset := .asserted, quiesced := true, polling := true, groups := gs }
  let s := ((s.wr .uciAttestState atPending k).wr .uciLinkState lsTraining k).sbxReset k rstAssert
  s.each (bitsOf (s.rd .uciBind k) 32) State.remeasure

/-- An orderly reset goes on once QUIESCED has arrived and the recall has ended; lines granted meanwhile are recalled too. -/
def State.settleReset (s : State) (k : Nat) : State :=
  let x := s.site k
  if x.reset ≠ .quiescing then s
  else if s.recalled k then (if x.quiesced then s.assertReset k else s)
  else if s.coh.snoops.any (fun n => n.agent / 16 == k) then s
  else s.recallSite k

def State.settleResets (s : State) : State := s.each (List.range 8) State.settleReset

/-- QUIESCED has not arrived in time: the chiplet is reset and handled as lost, unless it was lost already. -/
def State.quiesceTimeout (s : State) (k : Nat) : State :=
  let x := s.site k
  if x.reset = .quiescing ∧ ¬ x.quiesced then
    let t := (s.ev (Ev.uciQuiesceTimeout k)).sbxReset k rstAssert
    if x.lost then t.setSite k { t.site k with reset := .none } else t.loseChiplet k
  else s

/-- RST READY after a reset or a loss: released and trained (R296, R297). -/
def State.rstReady (s : State) (k : Nat) (rate : Option Nat) (down : Nat) : State :=
  let x := s.site k
  if x.polling then
    ((s.setSite k { x with reset := .none, quiesced := false }).sbxReset k rstRelease).train k rate down
  else s

/-! ## Dictionary writes of a site -/

/-- UCI_BIND (R292). -/
def State.uciBindWrite (s : State) (role : Role) (k mask : Nat) : Answer :=
  let old := s.rd .uciBind k
  let named := bitsOf mask 32
  if !mayWrite [.r, .r, .b, .r, .r] role then s.refuse stDenied
  else if (bitsOf old 32).any s.isSealed ∨ named.any s.isSealed ∨ s.testedSite k then s.refuse stRunning
  else if 2 ^ 32 ≤ mask ∨ 16 < named.length ∨
      (1 < named.length ∧ ¬ (s.rd .uciAttestState k = atAttested ∧ s.rd .uciProtocol k = protoHtl ∧
        named.length ≤ s.rdField .uciCap 71 67 k)) then s.refuse stRange
  else if named.any (fun p => !s.admits p k) then s.refuse stDenied
  else (stOk, s.wr .uciBind mask k)

/-- UCI_RESET_CMD (R291, R296): a reset or an attestation. -/
def State.uciResetCmd (s : State) (role : Role) (k v : Nat) : Answer :=
  if !mayWrite [.r, .r, .b, .r, .n] role then s.refuse stDenied
  else if v ≠ 1 ∧ v ≠ 2 then s.refuse stRange
  else if (s.site k).reset ≠ .none ∨ s.rd .uciLinkState k = lsAbsent then s.refuse stBusy
  else if v = 1 then (stOk, (s.wr .uciResetCmd 1 k).startReset k)
  else if !(s.sealedBound k).isEmpty then s.refuse stLocked
  else (stOk, (s.wr .uciResetCmd 2 k).startAttest k)

/-- The pause of R280 ends: proposals accepted enter the run map, the other modules are disabled, and training goes on. -/
def State.endPause (s : State) (k mask : Nat) (rate : Option Nat) (down : Nat) : State :=
  let x := s.site k
  let s := s.each (bitsOf x.proposed 16) (fun s m =>
    let map := s.rdField .uciRepairPending (64 * m + 63) (64 * m) k
    if mask.testBit m then
      (s.wr .uciRepairMap map k m).log .linkRepair (k * 2 ^ 125 + m * 2 ^ 121 + map * 2 ^ 57)
    else
      let y := s.site k
      (s.setSite k { y with disabled := setBit y.disabled m }).ev (Ev.uciModuleDisabled k) none (Config.detail [m]))
  let y := s.site k
  ((s.setSite k { y with pause := false, proposed := 0 }).wr .uciRepairPending (2 ^ 1024 - 1) k).trainFirst k rate down

/-- UCI_REPAIR_ACCEPT (R280). -/
def State.uciRepairAccept (s : State) (role : Role) (k mask : Nat) (rate : Option Nat) (down : Nat) : Answer :=
  if !mayWrite [.r, .b, .b, .r, .n] role ∨ ¬ (s.site k).pause then s.refuse stDenied
  else (stOk, (s.wr .uciRepairAccept mask k).endPause k mask rate down)

/-! ## The commands -/

def execHomeSnoopAnswer (h agent txid ptn : Nat) (hasData : Bool) (st : Nat) (data : List Byte) (poison : Bool) (ue : Nat) (s : State) :
    Host.Outcome State Fault Refusal :=
  .next (s.snoopAnswer h agent txid ptn hasData st data poison ue).settleResets

def execCohSnpTimeout (h txid ue : Nat) (s : State) : Host.Outcome State Fault Refusal := .next (s.snpTimeout h txid ue).settleResets

def execUciRepairAccept (role : Role) (k mask : Nat) (rate : Option Nat) (down : Nat) (s : State) : Host.Outcome State Fault Refusal :=
  .next (State.answered (s.uciRepairAccept role k mask rate down))

/-- A pause that ends by deadline is reported, and its proposals are refused (R280). -/
def execUciRepairDeadlineExpiry (k : Nat) (rate : Option Nat) (down : Nat) (s : State) : Host.Outcome State Fault Refusal :=
  .next (if (s.site k).pause then (s.ev (Ev.uciRepairMiss k)).endPause k 0 rate down else s)

def execUciCrcRetry (k lg : Nat) (s : State) : Host.Outcome State Fault Refusal := .next (s.crcRetry k lg)

/-- A group whose retry fails retrains (R283). -/
def execUciRetrain (k lg : Nat) (s : State) : Host.Outcome State Fault Refusal :=
  .next (if (s.site k).group lg = .up then s.retrain k lg else s)

def execUciRetrainDone (k lg : Nat) (ok : Bool) (worst : Nat) (s : State) : Host.Outcome State Fault Refusal :=
  .next (s.retrainDone k lg ok worst)

def execFwdClockLoss (k m : Nat) (s : State) : Host.Outcome State Fault Refusal := .next (s.clockLoss k m)

def execSbxCap (k txn cap : Nat) (s : State) : Host.Outcome State Fault Refusal :=
  .next (if s.sbxBusy true then s.sbxAnswer k sbxCap txn 2 else s.capRx k txn cap)

def execSbxSpdmResponse (k : Nat) (res : SpdmResult) (s : State) : Host.Outcome State Fault Refusal := .next (s.spdmResponse k res)

/-- RST QUIESCED (R296). -/
def execSbxRstQuiesced (k : Nat) (s : State) : Host.Outcome State Fault Refusal :=
  .next (if (s.site k).reset = .quiescing then (s.setSite k { s.site k with quiesced := true }).settleReset k else s)

/-- RST REQUEST: an orderly reset that the chiplet asks for (R296, R299). -/
def execSbxRstRequest (k txn : Nat) (s : State) : Host.Outcome State Fault Refusal :=
  .next (if s.sbxBusy false then s.sbxAnswer k sbxRst txn 2 else (s.sbxAnswer k sbxRst txn 0).startReset k)

def execSbxRstReady (k : Nat) (rate : Option Nat) (down : Nat) (s : State) : Host.Outcome State Fault Refusal :=
  .next (s.rstReady k rate down)

/-- ERR: recorded as UCI_CHIPLET_ERR with the severity that R287 gives. -/
def execSbxErr (k txn payload : Nat) (s : State) : Host.Outcome State Fault Refusal :=
  let e : Event := { code := Ev.uciChipletErr k, detail := Config.detail [payload]
                     sev := if field payload 63 56 = 0 then .corrected else .contained }
  .next (if s.sbxBusy false then s.sbxAnswer k 5 txn 2 else (s.sbxAnswer k 5 txn 0).report e)

/-- 10 ms pass without a response: the request is sent again, at most three times in all; then it ends with TIMEOUT,
which fails an attestation (R286, R291). -/
def execSbxTimeout (k txn : Nat) (s : State) : Host.Outcome State Fault Refusal :=
  .next (match (s.site k).sbx.find txn with
    | none => s
    | some r =>
      let x := s.site k
      if s.owl.fatalHub then s
      else if r.attempts < 3 then
        (s.setSite k { x with sbx := x.sbx.set txn { r with attempts := r.attempts + 1 } }).emit (.sbx k r.cls false txn 0 r.payload)
      else
        let t := (s.setSite k { x with sbx := x.sbx.erase txn }).ev (Ev.uciSbTimeout k)
        if r.cls = sbxSpdm then t.attestEnd k atFailed else t)

def execUciResetCmdReset (role : Role) (k : Nat) (s : State) : Host.Outcome State Fault Refusal :=
  .next (State.answered (s.uciResetCmd role k 1))

def execUciResetCmdAttest (role : Role) (k : Nat) (s : State) : Host.Outcome State Fault Refusal :=
  .next (State.answered (s.uciResetCmd role k 2))

def execUciQuiesceTimeout (k : Nat) (s : State) : Host.Outcome State Fault Refusal := .next (s.quiesceTimeout k)

/-- The poll of the sideband for RST READY (R296, R297). -/
def execSidebandPoll (k : Nat) (s : State) : Host.Outcome State Fault Refusal :=
  .next (let t := s.settleReset k
    if (t.site k).polling then t.emit (.sbxPoll k) else t)

def execUciBindWrite (role : Role) (k mask : Nat) (s : State) : Host.Outcome State Fault Refusal :=
  .next (State.answered (s.uciBindWrite role k mask))

/-- A response ends the request that it answers (R286). A chiplet that answers PWR with UNSUPPORTED takes no part in the budget
(R611). -/
def State.sbxResponse (s : State) (k cls txn status : Nat) : State :=
  let x := s.site k
  match x.sbx.find txn with
  | none => s
  | some r =>
    if r.cls ≠ cls then s
    else
      let s := s.setSite k { x with sbx := x.sbx.erase txn }
      if cls = sbxPwr ∧ status = 1 then
        let y : SitePwr := s.power.sites.get k {}
        { s with power := { s.power with sites := s.power.sites.set k { y with unsupported := true } } }
      else s

/-- A message whose VER is not 1 is answered VERSION, a reserved CLASS UNSUPPORTED (R285); a response is never answered. -/
def execSbxOtherMessage (k ver cls txn : Nat) (resp : Bool) (status : Nat) (s : State) : Host.Outcome State Fault Refusal :=
  .next (if resp then s.sbxResponse k cls txn status
    else if s.sbxBusy false then s.sbxAnswer k cls txn 2
    else if ver ≠ 1 then s.emit (.sbx k cls true txn 3 0)
    else if cls = 0 ∨ 5 < cls then s.emit (.sbx k cls true txn 1 0)
    else s)

end Sys2Proof.Machine
end

