-- ==== Sys2Proof/Machine/Collectives.lean ====
section
/-! DEFINITION. Collective groups, the collective ring, steps, messages, aborts and stretches (R379, R385–R403). -/

namespace Sys2Proof.Machine

/-! ## Group registers (R385) -/

structure GroupCfg where
  gid : Nat
  n : Nat
  me : Nat
  radix : Nat
  engine : Nat
  valid : Bool
  list : Nat
  plots : Nat
  resetOk : Bool
  low : Nat
  deriving DecidableEq, Repr

def groupCfgOf (v : Nat) : GroupCfg :=
  { gid := field v 255 224, n := field v 223 207, me := field v 206 190, radix := 16 / 2 ^ field v 189 188, engine := field v 187 186
    valid := v.testBit 185, list := field v 184 137, plots := field v 136 73, resetOk := v.testBit 72, low := field v 71 0 }

def State.groupCfg (s : State) (p g : Nat) : GroupCfg := groupCfgOf (s.rd .colGroup p g)

def grpNone : Nat := 0
def grpForming : Nat := 1
def grpReady : Nat := 2
def grpRefused : Nat := 3
def grpDown : Nat := 4

/-- COL_GROUP_STATE[7:0]. -/
def State.groupState (s : State) (p g : Nat) : Nat := s.rdField .colGroupState 7 0 p g

def State.setGroupState (s : State) (p g st reason : Nat) : State := s.wr .colGroupState (st + 256 * reason) p g

def State.group (s : State) (p g : Nat) : Group := s.col.groups.get (16 * p + g) {}

def State.setColGroup (s : State) (p g : Nat) (x : Group) : State :=
  { s with col := { s.col with groups := s.col.groups.put (16 * p + g) x {} } }

/-! ## Trees (R387, R403) -/

/-- The depth of the tree of radix `q` over `n` members. -/
def depthFrom (q n : Nat) : Nat → Nat → Nat
  | 0, d => d
  | f + 1, d => if n ≤ (q ^ (d + 1) - 1) / (q - 1) then d else depthFrom q n f (d + 1)

/-- The parent of member `i` in the tree rooted at `root`, and its children in ascending relative index. -/
def treeParent (q n root i : Nat) : Option Nat :=
  let r := (i + n - root) % n
  if r = 0 then none else some (((r - 1) / q + root) % n)

def treeChildren (q n root i : Nat) : List Nat :=
  let r := (i + n - root) % n
  ((List.range q).map (fun j => q * r + 1 + j)).filter (fun x => decide (x < n)) |>.map (fun x => (x + root) % n)

def State.parentIn (s : State) (p g root : Nat) : Option Nat :=
  let c := s.groupCfg p g
  let x := s.group p g
  if x.parents.isEmpty ∨ root ≠ 0 then treeParent c.radix c.n root c.me
  else
    let u := x.parents.getD c.me 0
    if u = c.me then none else some u

def State.childrenIn (s : State) (p g root : Nat) : List Nat :=
  let c := s.groupCfg p g
  let x := s.group p g
  if x.parents.isEmpty ∨ root ≠ 0 then treeChildren c.radix c.n root c.me
  else (List.range c.n).filter (fun i => decide (i ≠ c.me) && x.parents.getD i 0 == c.me)

/-- The steps from a member to the root of a host-supplied tree, none within `fuel`. -/
def climb (ps : List Nat) : Nat → Nat → Option Nat
  | 0, _ => none
  | f + 1, i => if ps.getD i 0 = i then some 0 else (climb ps f (ps.getD i 0)).map (· + 1)

/-- The tree's depth D. -/
def State.groupDepth (s : State) (p g : Nat) : Nat :=
  let c := s.groupCfg p g
  let x := s.group p g
  if x.parents.isEmpty then depthFrom c.radix c.n c.n 0
  else ((List.range c.n).filterMap (climb x.parents (c.n + 1))).foldl max 0

/-- Parents that make a tree of `n` members: member 0 is the one root, every member under it, at most 16 children. -/
def isTree (ps : List Nat) (n : Nat) : Bool :=
  ps.all (fun i => decide (i < n)) && ps.getD 0 0 == 0 && ((List.range n).filter (fun i => ps.getD i 0 == i)).length == 1
    && (List.range n).all (fun i => (climb ps (n + 1) i).isSome)
    && (List.range n).all (fun i => decide (((List.range n).filter (fun j => decide (j ≠ i) && ps.getD j 0 == i)).length ≤ 16))

/-! ## Messages (R394) -/

def kindForm : Nat := 1
def kindFormed : Nat := 2
def kindRefuse : Nat := 3
def kindUp : Nat := 4
def kindDown : Nat := 5
def kindStretchReq : Nat := 6
def kindStretchGrant : Nat := 7
def kindAbort : Nat := 8
def kindReset : Nat := 9

/-- The header of a message. -/
def collHeader (kind gid beat step status : Nat) : Nat :=
  kind * 2 ^ 120 + gid % 2 ^ 32 * 2 ^ 88 + beat % 2 ^ 48 * 2 ^ 40 + step % 2 ^ 16 * 2 ^ 24 + status % 256 * 2 ^ 16

/-- The ring's configuration (R388). -/
def State.ringCfg (s : State) (p : Nat) : WqCfg := wqCfgOf (s.rd .colRingCfg 0 p)

/-- A message to a member: UP and DOWN in the ring's class, every other kind in class SYS. -/
def State.sendColl (s : State) (p g dest kind beat step status : Nat) (body : List Byte) : State :=
  let c := s.groupCfg p g
  let r := s.ringCfg p
  let w := (s.group p g).list.getD dest 0
  let cls := if kind = kindUp ∨ kind = kindDown then r.cls else clsSys
  s.sendTo p (field w 31 15) (field w 14 10) sftColl { ptn := p, ctx := r.ctx, cls } (toLe 16 (collHeader kind c.gid beat step status) ++ body)

/-- A message as it arrives on a connection: the group that it names, the sender's index, and its fields. -/
structure CollMsg where
  ptn : Nat
  g : Nat
  src : Nat
  beat : Nat
  step : Nat
  status : Nat
  body : List Byte
  deriving DecidableEq, Repr

def State.collMsg (s : State) (n kind : Nat) (d : List Byte) : Option CollMsg :=
  match s.conn n with
  | none => none
  | some c =>
    let h := leNat (d.take 16)
    let p := c.ptn
    match (List.range 16).find? (fun g => (s.groupCfg p g).gid == field h 119 88 && s.groupState p g != grpNone) with
    | some g =>
      let word := c.pkg * 2 ^ 15 + c.rptn * 2 ^ 10
      (match (s.group p g).list.findIdx? (fun w => w / 1024 * 1024 == word) with
       | some src =>
         if field h 127 120 = kind ∧ n ≠ 0 then
           some { ptn := p, g, src, beat := field h 87 40, step := field h 39 24, status := field h 23 16, body := d.drop 16 }
         else none
       | none => none)
    | none => none

/-! ## Formation (R386) -/

def refSelf : Nat := 1
def refMismatch : Nat := 2
def refBeat : Nat := 3
def refNoConn : Nat := 4
def refTimeout : Nat := 5
def refFull : Nat := 6
def refTree : Nat := 7

/-- The values that members compare: N, radix, BEAT_PERIOD, BEAT_EPOCH and 8 bytes of the list's digest. -/
def State.formVals (s : State) (p g : Nat) : List Nat :=
  let c := s.groupCfg p g
  [c.n, c.radix, s.rd .beatPeriod, s.rd .beatEpoch, Config.digest (s.group p g).list % 2 ^ 64]

def formBody (vs : List Nat) : List Byte := vs.flatMap (toLe 8)

def formValsOf (b : List Byte) : List Nat := (List.range 5).map (fun i => leNat ((b.drop (8 * i)).take 8))

/-- A member's word in the list. -/
def State.ownWord (s : State) (p : Nat) : Nat := s.rd .soxPkgId * 2 ^ 15 + p * 2 ^ 10

/-- Groups that an engine holds, other than one. -/
def State.engineGroups (s : State) (e p g : Nat) : Nat :=
  ((List.range 512).filter (fun i =>
    decide (i ≠ 16 * p + g) && s.groupState (i / 16) (i % 16) != grpNone && (s.groupCfg (i / 16) (i % 16)).engine == e)).length

def State.refuseGroup (s : State) (p g reason : Nat) : State := s.setGroupState p g grpRefused reason

/-- Words of 4 B at a PPA. -/
def State.words4 (s : State) (p ppa n : Nat) : Option (List Nat) :=
  match s.readSpan p ppa (4 * n) with
  | some (b, false) => some (words32 b)
  | _ => none

/-- The tree's neighbours. -/
def State.neighbours (s : State) (p g : Nat) : List Nat := (s.parentIn p g 0).toList ++ s.childrenIn p g 0

/-- The connection to a member. -/
def State.memberConn (s : State) (p g i : Nat) : Option Nat :=
  let w := (s.group p g).list.getD i 0
  s.connOf p (field w 31 15) (field w 14 10)

/-- Step 2 of formation: connections to the neighbours. -/
def State.openNeighbours (s : State) (p g : Nat) : State :=
  s.each (s.neighbours p g) (fun s i =>
    let w := (s.group p g).list.getD i 0
    s.openConn p (field w 31 15) (field w 14 10))

/-- COL_GROUP_STATE becomes READY, and FORMED passes down. -/
def State.groupFormed (s : State) (p g : Nat) : State :=
  (s.setGroupState p g grpReady 0).each (s.childrenIn p g 0) (fun s i => s.sendColl p g i kindFormed 0 0 0 [])

/-- The group is REFUSED, and REFUSE passes down. -/
def State.groupRefused (s : State) (p g reason : Nat) : State :=
  (s.refuseGroup p g reason).each (s.childrenIn p g 0) (fun s i => s.sendColl p g i kindRefuse 0 0 reason [])

/-- The reports of a group's children, in ascending index, where every child has reported. -/
def State.childReports (s : State) (p g : Nat) : Option (List (List Nat)) :=
  (s.childrenIn p g 0).foldl (fun (r : Option (List (List Nat))) i =>
    let w := (s.group p g).list.getD i 0
    match r, s.col.reports.find? (fun (x : Report) => x.ptn == p && x.gid == (s.groupCfg p g).gid && x.pkg == field w 31 15 && x.rptn == field w 14 10) with
    | some l, some x => some (l ++ [x.vals])
    | _, _ => none) (some [])

/-- Step 3 and 4 of formation: once every child has reported, FORM goes to the parent; the root compares and answers. A report
that differs from the member's own values is the one passed on. -/
def State.formReport (s : State) (p g : Nat) : State :=
  if s.groupState p g ≠ grpForming ∨ (s.group p g).reported then s
  else
    match s.childReports p g with
    | none => s
    | some l =>
      let own := s.formVals p g
      let odd := l.find? (· != own)
      let x := s.group p g
      let s := s.setColGroup p g { x with reported := true }
      match s.parentIn p g 0 with
      | some u => s.sendColl p g u kindForm 0 0 0 (formBody (odd.getD own))
      | none =>
        match odd with
        | none => s.groupFormed p g
        | some v =>
          if v.getD 0 0 ≠ own.getD 0 0 ∨ v.getD 1 0 ≠ own.getD 1 0 ∨ v.getD 4 0 ≠ own.getD 4 0 then s.groupRefused p g refMismatch
          else s.groupRefused p g refBeat

/-- A write of COL_GROUP with VALID 1. -/
def State.formGroup (s : State) (p g v : Nat) : Answer :=
  let c := groupCfgOf v
  if 32 ≤ p ∨ 16 ≤ g then s.refuse stNotFound
  else if ¬ c.valid ∨ c.n = 0 ∨ 65536 < c.n ∨ c.n ≤ c.me ∨ c.low ≠ 0 then s.refuse stRange
  else if (s.group p g).coll.isSome ∨ s.groupState p g = grpForming then s.refuse stRunning
  else
    let s := (s.wr .colGroup v p g).setColGroup p g {}
    let full := decide (256 ≤ s.engineGroups c.engine p g)
    let s := s.setGroupState p g grpForming 0
    if full then (stOk, s.refuseGroup p g refFull)
    else
      match s.words4 p c.list c.n with
      | none => (stOk, s.refuseGroup p g refSelf)
      | some l =>
        let s := s.setColGroup p g { list := l }
        if l.getD c.me 0 / 1024 * 1024 ≠ s.ownWord p then (stOk, s.refuseGroup p g refSelf)
        else
          let tree := if s.rd .colSchedMode 0 p = 1 then (s.words4 p (c.list + 4 * c.n) c.n).getD [] else []
          let given := tree.any (fun w => w.testBit 31)
          let ps := tree.map (fun w => field w 16 0)
          let bad := given && !(tree.all (fun w => w.testBit 31 && field w 30 17 == 0) && isTree ps c.n)
          if bad then (stOk, s.refuseGroup p g refTree)
          else
            let s := if s.rd .colSchedMode 0 p = 1 ∧ ¬ given then s.ev Ev.colPlanMiss (some p) (Config.detail [g]) else s
            let s := s.setColGroup p g { list := l, parents := if given then ps else [] }
            let s := s.openNeighbours p g
            if (s.neighbours p g).all (fun i => (s.memberConn p g i).isSome) then (stOk, s.formReport p g)
            else (stOk, s.refuseGroup p g refNoConn)

/-- A write with VALID 0 dissolves the group. -/
def State.dissolveGroup (s : State) (p g v : Nat) : Answer :=
  let c := groupCfgOf v
  if 32 ≤ p ∨ 16 ≤ g then s.refuse stNotFound
  else if c.valid ∨ c.low ≠ 0 then s.refuse stRange
  else if (s.group p g).coll.isSome ∨ s.groupState p g = grpForming then s.refuse stRunning
  else (stOk, ((s.wr .colGroup v p g).setColGroup p g {}).setGroupState p g grpNone 0)

/-! ## Declared steps -/

/-- Fields of a descriptor (R389). -/
def Coll.op (c : Coll) : Nat := field (c.words.getD 0 0) 63 56
def Coll.rop (c : Coll) : Nat := field (c.words.getD 0 0) 55 54
def Coll.fmt (c : Coll) : Nat := field (c.words.getD 0 0) 53 50
def Coll.wire32 (c : Coll) : Bool := (c.words.getD 0 0).testBit 49
def Coll.int (c : Coll) : Bool := (c.words.getD 0 0).testBit 48
def Coll.start (c : Coll) : Nat := field (c.words.getD 0 0) 47 0
def Coll.tag (c : Coll) : Nat := field (c.words.getD 1 0) 63 32
def Coll.grp (c : Coll) : Nat := field (c.words.getD 1 0) 3 0
def Coll.src (c : Coll) : Nat := c.words.getD 2 0
def Coll.dst (c : Coll) : Nat := c.words.getD 3 0
def Coll.chunk (c : Coll) : Nat := field (c.words.getD 4 0) 63 32
def Coll.steps (c : Coll) : Nat := field (c.words.getD 4 0) 31 16
def Coll.armObj (c : Coll) : Nat := field (c.words.getD 5 0) 63 48
def Coll.armEn (c : Coll) : Bool := (c.words.getD 5 0).testBit 47
def Coll.planPpa (c : Coll) : Nat := field (c.words.getD 5 0) 39 0 * 256
def Coll.armValue (c : Coll) : Nat := c.words.getD 6 0
def Coll.doneObj (c : Coll) : Nat := field (c.words.getD 7 0) 63 48
def Coll.doneEn (c : Coll) : Bool := (c.words.getD 7 0).testBit 47
def Coll.root (c : Coll) : Nat := if field (c.words.getD 0 0) 63 56 = 4 then field (c.words.getD 7 0) 16 0 else 0

def opAllreduce : Nat := 1
def opReduceScatter : Nat := 2
def opAllgather : Nat := 3
def opBroadcast : Nat := 4
def opBarrier : Nat := 5
def opSnapshot : Nat := 6
def opGlobalReset : Nat := 7

def Coll.reduces (c : Coll) : Bool := c.op == opAllreduce || c.op == opReduceScatter
/-- Steps move data between members. -/
def Coll.moves (c : Coll) : Bool := decide (1 ≤ c.op) && decide (c.op ≤ 4)

/-- "next" in START_BEAT. -/
def beatNext : Nat := 0xFFFFFFFFFFFF

/-- The group spans packages. -/
def State.crossGroup (s : State) (p g : Nat) : Bool := (s.group p g).list.any (fun w => field w 31 15 != s.rd .soxPkgId)

/-- The beat for which a step is declared (R392, R403). -/
def Coll.target (c : Coll) (step now : Nat) : Nat :=
  if c.start = beatNext then now + 1
  else (if c.plan.isEmpty then c.start + step else c.plan.getD step 0) + c.stretched

/-- A step declared under R52 with policy REFUSE; none where it is refused. -/
def State.declareStep (s : State) (p g : Nat) (c : Coll) (step : Nat) : Option Nat × State :=
  let id := s.beat.nextId
  let cross := s.crossGroup p g
  let d : Declaration :=
    { kind := if c.op = opSnapshot then .snapshot cross else .step g cross, ptn := some p, ctx := (s.ringCfg p).ctx
      target := some (BitVec.ofNat 48 (c.target step s.beat.number.toNat)), defer := false, abort := false }
  let t := s.declare d
  (if t.beat.decls.any (fun e => e.id == id) then some id else none, t)

def State.setColl (s : State) (p g : Nat) (c : Option Coll) : State := s.setColGroup p g { s.group p g with coll := c }

/-- Items of a collective withdrawn: pending, admitted for the coming edge, or in the open beat. -/
def State.withdraw (s : State) (ids : List Nat) : State :=
  { s with beat := { s.beat with
      decls := s.beat.decls.filter (fun x => !ids.contains x.id)
      admitted := s.beat.admitted.filter (fun x => !ids.contains x.id)
      items := s.beat.items.filter (fun x => !ids.contains x.id) } }

/-! ## Pausing a partition for a snapshot (R396) -/

def State.pausePtn (s : State) (p : Nat) : State := { s with col := { s.col with paused := s.col.paused.set p () } }

/-- Work goes on: withheld credits return, and waiting packets go out. -/
def State.resumePtn (s : State) (p : Nat) : State :=
  if (s.col.paused.find p).isNone then s
  else
    let mine := s.col.credits.filter (fun (x : HeldCredit) => x.ptn == p)
    let t : State := { s with col := { s.col with paused := s.col.paused.erase p, credits := s.col.credits.filter (fun x => x.ptn != p) } }
    let t := t.emitAll (mine.map (fun (x : HeldCredit) => Out.credit x.site x.net x.ptn 1))
    t.each (t.connsOf p) (fun t n => match t.conn n with
      | some c => State.pumpConn c.queue.length t n
      | none => t)

/-! ## Aborts and records (R391, R398, R399) -/

def csOk : Nat := 0x00
def csPoisoned : Nat := 0x01
def csCancelled : Nat := 0x02
def csLate : Nat := 0x10
def csNotArmed : Nat := 0x11
def csUnaligned : Nat := 0x12
def csOverrun : Nat := 0x13
def csThermal : Nat := 0x14
def csMemberLost : Nat := 0x15
def csReset : Nat := 0x16
def csMismatch : Nat := 0x17
def csBuffer : Nat := 0x18
def csBadDesc : Nat := 0x20
def csNoGroup : Nat := 0x21

/-- Marks the writes of a group's collective, which its record waits for. -/
def collTag (p g : Nat) : Nat := 8192 + 16 * p + g

/-- The body of ABORT: the member that raised it, its package, and a stack. -/
def abortBody (index pkg code : Nat) : List Byte := toLe 4 index ++ toLe 4 pkg ++ toLe 4 code

/-- The collective in progress completes with a status, and ABORT goes to the neighbours but the one that it came from. The
first status stands. -/
def State.abortColl (s : State) (p g status : Nat) (sender : Option Nat) (index pkg code : Nat) : State :=
  match (s.group p g).coll with
  | none => s
  | some c =>
    if c.status.isSome then s
    else
      let s := s.withdraw (c.item.toList ++ c.nextItem.toList)
      let s := if c.op = opSnapshot then s.resumePtn p else s
      let s := s.setColl p g (some { c with status := some status, failed := index, firstFail := pkg, failCode := code, phase := .none
                                            item := none, nextItem := none, parts := [] })
      s.each ((s.neighbours p g).filter (fun i => some i != sender)) (fun s i =>
        s.sendColl p g i kindAbort c.beat c.step status (abortBody index pkg code))

/-- This member raises an abort. -/
def State.raiseAbort (s : State) (p g status code : Nat) : State :=
  s.abortColl p g status none (s.groupCfg p g).me (s.rd .soxPkgId) code

/-- A member is lost: the abort, and the group is DOWN. -/
def State.colGroupDown (s : State) (p g status : Nat) : State := (s.raiseAbort p g status 0).setGroupState p g grpDown 0

/-- The completion record, in the layout of R151. -/
def Coll.record (c : Coll) (r : WqCfg) (beat : BitVec 48) : Nat :=
  let st := c.status.getD csOk
  (if c.idx / 2 ^ r.log2 % 2 = 0 then 2 ^ 255 else 0) + (if st = csOverrun then 2 ^ 254 else 0) + st * 2 ^ 240 + c.failCode * 2 ^ 232
    + c.tag * 2 ^ 160 + c.step * 2 ^ 128 + c.failed * 2 ^ 96 + c.firstFail * 2 ^ 64 + beat.toNat

def State.ring (s : State) (p : Nat) : Ring := s.col.rings.get p {}

def State.setRing (s : State) (p : Nat) (r : Ring) : State := { s with col := { s.col with rings := s.col.rings.put p r {} } }

/-- The ring stops on an error (R144, R388). -/
def State.ringError (s : State) (p : Nat) : State :=
  (s.setRing p { s.ring p with err := true }).ev Ev.tilWqErr (some p) (Config.detail [64])

/-- A record written, its counters, the interrupt, and DONE_OBJ (R388, R391). -/
def State.collRecord (s : State) (p : Nat) (c : Coll) : State :=
  let r := s.ringCfg p
  let a := r.cpl + 32 * (c.idx % 2 ^ r.log2)
  let st := c.status.getD csOk
  let s := if st ≤ csPoisoned then s.bump .colCompleted 0 p else if st < csBadDesc then s.bump .colAborted 0 p else s
  if !s.spanWritable p a 32 then s.ringError p
  else
    let s := s.hubWrite { ptn := p, ctx := r.ctx, cls := r.cls } 0 .write 0 0 0 a (toLe 32 (c.record r s.beat.number))
    let s := if c.doneEn then s.addCounter p c.doneObj 1 else s
    let w := s.ring p
    let full := decide (r.coalesce ≠ 0) && decide (r.coalesce ≤ w.uncounted + 1)
    let s := s.setRing p { w with uncounted := if full then 0 else w.uncounted + 1 }
    if full ∨ c.int then s.raiseVector p r.vector else s

/-- Requests of a group's collective are outstanding. -/
def State.collBusy (s : State) (p g : Nat) : Bool := s.noc.trackers.any (fun e => e.2.tag == collTag p g && !e.2.timedOut)

/-- Ended collectives get their records once their writes are visible, and descriptors that ended without running theirs. -/
def State.collEnd (s : State) (p g : Nat) : State :=
  match (s.group p g).coll with
  | some c => if c.status.isSome ∧ !s.collBusy p g then (s.setColl p g none).collRecord p c else s
  | none => s

def State.ringEnd (s : State) (p : Nat) : State :=
  let l := (s.ring p).ended
  (s.setRing p { s.ring p with ended := [] }).each l (fun s c => s.collRecord p c)

/-! ## Reading and combining (R393) -/

/-- A line of a span is held by an agent that may have changed it. -/
def State.heldDirty (s : State) (hpa n : Nat) : Bool :=
  (List.range ((hpa % 64 + n + 63) / 64)).any (fun i =>
    (s.holders (hpa / 64 + i)).any (fun a =>
      s.recorded (hpa / 64 + i) a == .e || s.recorded (hpa / 64 + i) a == .m || s.recorded (hpa / 64 + i) a == .o))

/-- A snooped read of a part, tracked at the engine (R335). -/
def State.engineRead (s : State) (e : Nat) (lab : Label) (tag : Nat) (a n : Nat) : Option Nat × State :=
  match s.place lab.ptn a with
  | none => (none, s)
  | some pl =>
    let x : XEntry := { ptn := pl.owner, gran := a / Config.granule, hgran := pl.hpa / Config.granule, sfmt := pl.sfmt, kgen := pl.kgen
                        rowrep := false }
    let id := s.freeId (.engine e)
    let k : Tracker := { newRequest (.engine e) lab .rdNa tag a n [] with
                         opx := 1, phase := .out, hgran := x.hgran, kgen := x.kgen, order := s.noc.order }
    let s : State := { s with noc := { s.noc with order := s.noc.order + 1 } }
    (some id, (s.setTracker id k).homeServe (stackOf pl.hpa) .rdNa (k.home id x pl.owner false) [])

/-- What a span read so far gives. -/
structure SpanRead where
  data : List Byte
  poison : Nat
  parts : List ReadPart
  deriving DecidableEq, Repr

/-- Sectors [a, a + n) marked. -/
def markSectors (m a n : Nat) : Nat := (List.range n).foldl (fun m i => setBit m (a + i)) m

/-- A span read with snooped reads: lines that an agent may have changed are asked of it, the rest is read at once. What is not
mapped is poisoned. -/
def State.snoopedSpan (s : State) (e : Nat) (lab : Label) (tag ppa n : Nat) : SpanRead × State :=
  (lineParts ppa n).foldl (fun (r : SpanRead × State) (x : Nat × Nat) =>
    let off := x.1 - ppa
    let none' : SpanRead × State :=
      ({ r.1 with data := r.1.data ++ List.replicate x.2 0, poison := markSectors r.1.poison (off / 32) ((x.2 + 31) / 32) }, r.2)
    match r.2.place lab.ptn x.1 with
    | none => none'
    | some pl =>
      if r.2.heldDirty pl.hpa x.2 then
        match r.2.engineRead e lab tag x.1 x.2 with
        | (some id, t) => ({ r.1 with data := r.1.data ++ List.replicate x.2 0, parts := r.1.parts ++ [{ id, off, len := x.2 }] }, t)
        | (none, t) => (none'.1, t)
      else
        let bad := (List.range ((x.2 + 31) / 32)).foldl (fun m i =>
          if r.2.readsPoison (pl.hpa + 32 * i) 32 then setBit m (off / 32 + i) else m) r.1.poison
        ({ r.1 with data := r.1.data ++ r.2.bytes pl.hpa x.2, poison := bad }, r.2.noteRead lab x))
    ({ data := [], poison := 0, parts := [] }, s)

/-- Bytes put into a list at an offset. -/
def splice (d : List Byte) (off : Nat) (b : List Byte) : List Byte := d.take off ++ b ++ d.drop (off + b.length)

/-- Answers of snooped reads taken into the collective's data. -/
def State.takeReads (s : State) (c : Coll) : Coll × State :=
  c.parts.foldl (fun (r : Coll × State) (x : ReadPart) =>
    match r.2.col.got.find x.id with
    | none => r
    | some b =>
      let t : State := { r.2 with col := { r.2.col with got := r.2.col.got.erase x.id } }
      ({ r.1 with
         own := if b.bad then r.1.own else splice r.1.own x.off (b.data.take x.len)
         ownPoison := if b.bad then markSectors r.1.ownPoison (x.off / 32) ((x.len + 31) / 32) else r.1.ownPoison
         parts := r.1.parts.filter (fun y => y.id != x.id) }, t)) (c, s)

/-- The format in which partial results travel. -/
def Coll.wire (c : Coll) : Nat := if c.wire32 then fmtFp32 else c.fmt

/-- Accumulation in FP32, or in INT32 with saturation. -/
def Coll.acc (c : Coll) : Nat := if c.fmt = fmtInt32 then fmtInt32 else fmtFp32

def Coll.elems (c : Coll) : Nat := c.chunk * 8 / elemBits c.fmt

/-- One contribution added (R393). -/
def Coll.combine (c : Coll) (a b : List Val) : List Val :=
  (a.zip b).map (fun (v : Val × Val) =>
    match c.rop with
    | 0 => valAdd true v.1 v.2
    | 1 => valMax v.1 v.2
    | _ => valMin v.1 v.2)

/-- A value of the wire in the accumulator's form. -/
def Coll.widen (c : Coll) (b : List Byte) : List Val :=
  (operandVals c.wire c.acc c.elems b).map (fun v =>
    match v with
    | .f x => if c.acc = fmtInt32 then Val.i (satInt 32 (toInt .nearest x)) else .f x
    | .i n => .i n)

/-- The member's partial result: its own contribution, then its children's in ascending relative index. -/
def Coll.partialOf (c : Coll) (own : List Byte) (ups : List (List Byte)) : List Val :=
  ups.foldl (fun a b => c.combine a (c.widen b)) (operandVals c.fmt c.acc c.elems own)

/-- Pieces gathered so far: each member's stands at its place and is zero elsewhere. -/
def orBytes (a b : List Byte) : List Byte := (a.zip b).map (fun (x : Byte × Byte) => x.1 ||| x.2)

/-! ## Steps (R392, R393) -/

/-- The span that a step reads at this member, and the offset of its data within the chunk. -/
def Coll.readSpan (c : Coll) (n me : Nat) : Option (Nat × Nat × Nat) :=
  if c.reduces then some (c.src + c.step * c.chunk, c.chunk, 0)
  else if c.op = opAllgather then some (c.src + c.step * (c.chunk / n), c.chunk / n, me * (c.chunk / n))
  else if c.op = opBroadcast ∧ c.root = me then some (c.src + c.step * c.chunk, c.chunk, 0)
  else if c.op = opSnapshot then some (c.src, c.chunk, 0)
  else none

/-- The span that a step writes. -/
def Coll.writeSpan (c : Coll) (n : Nat) : Nat × Nat :=
  if c.op = opReduceScatter then (c.dst + c.step * (c.chunk / n), c.chunk / n) else (c.dst + c.step * c.chunk, c.chunk)

/-- The stacks that hold a granule of a span (R400). -/
def State.spanStacks (s : State) (p ppa n : Nat) : Nat :=
  (granuleParts ppa n).foldl (fun m x => match s.place p x.1 with
    | some pl => setBit m (stackOf pl.hpa)
    | none => m) 0

/-- The stacks that serve a step. -/
def State.stepStacks (s : State) (p : Nat) (c : Coll) (n me : Nat) : Nat :=
  if !c.moves ∧ c.op ≠ opSnapshot then 0
  else
    let w := c.writeSpan n
    (match c.readSpan n me with
     | some r => s.spanStacks p r.1 r.2.1
     | none => 0) ||| s.spanStacks p w.1 w.2

/-- A reducing collective finds no working collective buffer (R393, R97). -/
def State.bufferBad (s : State) (p g : Nat) (c : Coll) : Bool :=
  let k := s.groupCfg p g
  let col := s.rd .tilColbufKib 0 p / 8
  let n := 12 - (s.rd .tilRowcacheKib 0 p / 8 + col)
  c.reduces && (k.plots == 0 || col == 0 ||
    s.tile.bad.any (fun (b : Nat × Nat × Nat) => k.plots.testBit (plotOf b.1) && decide (n ≤ b.2.1) && decide (b.2.1 < n + col)))

/-- The bytes of a step written, with their poison. -/
def State.collWrite (s : State) (p g : Nat) (ppa : Nat) (d : List Byte) (poison first : Nat) : State :=
  let r := s.ringCfg p
  s.each (lineParts ppa d.length) (fun s (e : Nat × Nat) =>
    let off := e.1 - ppa
    s.hubPart { newRequest .hub { ptn := p, ctx := r.ctx, cls := r.cls } .write (collTag p g) e.1 e.2 ((d.drop off).take e.2) with
      poison := (List.range ((e.2 + 31) / 32)).foldl (fun m i => if poison.testBit (first + off / 32 + i) then setBit m i else m) 0 })

/-- The fields of the descriptor that UP and DOWN carry. -/
def Coll.fields (c : Coll) : List Byte := toLe 8 (clearBit (clearBit (c.words.getD 0 0) 49) 48) ++ toLe 8 (c.words.getD 4 0)

/-- The body of UP and DOWN: those fields, the count of sectors, their poison and the data. -/
def Coll.body (c : Coll) (d : List Byte) (poison : Nat) : List Byte :=
  let n := (d.length + 31) / 32
  c.fields ++ toLe 4 n ++ toLe ((n + 7) / 8) poison ++ d

/-- What the body of UP or DOWN holds: fields, poison, data. -/
def bodyOf (b : List Byte) : List Byte × Nat × List Byte :=
  let n := leNat ((b.drop 16).take 4)
  let m := (n + 7) / 8
  (b.take 16, leNat ((b.drop 20).take m), b.drop (20 + m))

/-- DOWN to the children, and the member's own writes. -/
def State.collDeliver (s : State) (p g : Nat) (c : Coll) (d : List Byte) (poison : Nat) : State :=
  let k := s.groupCfg p g
  let s := s.each (s.childrenIn p g c.root) (fun s i => s.sendColl p g i kindDown c.beat c.step 0 (c.body d poison))
  let w := c.writeSpan k.n
  let off := if c.op = opReduceScatter then k.me * (c.chunk / k.n) else 0
  let s := if c.moves then s.collWrite p g w.1 ((d.drop off).take w.2) poison (off / 32) else s
  let mine := (List.range (w.2 / 32)).any (fun i => poison.testBit (off / 32 + i))
  s.setColl p g (some { c with phase := .writing, own := d, ownPoison := poison, poisoned := c.poisoned || (c.moves && mine) })

/-- The data of every child for the step, in ascending relative index. -/
def Coll.upsOf (c : Coll) (cs : List Nat) : Option (List StepData) :=
  cs.foldl (fun (r : Option (List StepData)) i =>
    match r, c.up.find? (fun (u : StepData) => u.step == c.step && u.index == i) with
    | some l, some u => some (l ++ [u])
    | _, _ => none) (some [])

/-- The objects of a partition, in ascending number. -/
def State.objsOf (s : State) (p : Nat) : List Nat :=
  (List.range 8).flatMap (fun b =>
    let base := s.rdField .colSyncMap (32 * b + 28) (32 * b + 16) 0 p
    let count := s.rdField .colSyncMap (32 * b + 13) (32 * b) 0 p
    (List.range count).map (fun i => 8192 * b + base + i))

/-- Reading is over: what the step does with the member's data. -/
def State.collReduce (s : State) (p g : Nat) (c : Coll) : State :=
  let k := s.groupCfg p g
  if c.op = opSnapshot then
    let s := s.collWrite p g (c.dst + (8 * (s.objsOf p).length + 255) / 256 * 256) c.own c.ownPoison 0
    s.setColl p g (some { c with phase := .writing, poisoned := c.poisoned || c.ownPoison != 0 })
  else if c.op = opBroadcast then
    if c.root = k.me then s.collDeliver p g c c.own c.ownPoison
    else s.setColl p g (some { c with phase := .await })
  else
    match c.upsOf (s.childrenIn p g 0) with
    | none => s.setColl p g (some { c with phase := .reduce })
    | some us =>
      let poison := us.foldl (fun m (u : StepData) => m ||| u.poison) c.ownPoison
      let enc (f : Nat) : List Byte :=
        if c.reduces then operandBytes f true false (fun _ => .nearest) (c.partialOf c.own (us.map StepData.data))
        else us.foldl (fun a (u : StepData) => orBytes a u.data) c.own
      match s.parentIn p g 0 with
      | some u => (s.sendColl p g u kindUp c.beat c.step 0 (c.body (enc c.wire) poison)).setColl p g (some { c with phase := .await })
      | none => s.collDeliver p g c (enc c.fmt) poison

/-- The engine goes as far as it can with the step in progress. -/
def State.collPump : Nat → State → Nat → Nat → State
  | 0, s, _, _ => s
  | f + 1, s, p, g =>
    match (s.group p g).coll with
    | none => s
    | some c =>
      if c.status.isSome then s
      else
        match c.phase with
        | .reading =>
          let r := s.takeReads c
          if r.1.parts.isEmpty then State.collPump f (r.2.collReduce p g r.1) p g else r.2.setColl p g (some r.1)
        | .reduce =>
          if (c.upsOf (s.childrenIn p g 0)).isSome then State.collPump f (s.collReduce p g c) p g else s
        | .await =>
          match c.down with
          | some d => if d.step = c.step then s.collDeliver p g { c with down := none } d.data d.poison else s
          | none => s
        | _ => s

/-- The member's reads of a step begin. -/
def State.collRead (s : State) (p g : Nat) (c : Coll) : State :=
  let k := s.groupCfg p g
  let r := s.ringCfg p
  match c.readSpan k.n k.me with
  | none => State.collPump 4 (s.setColl p g (some { c with phase := .reading, own := [], ownPoison := 0, parts := [] })) p g
  | some x =>
    let q := s.snoopedSpan k.engine { ptn := p, ctx := r.ctx, cls := r.cls } (collTag p g) x.1 x.2.1
    let pad := if c.op = opAllgather then x.2.2 else 0
    let all := List.replicate pad 0 ++ q.1.data ++ List.replicate (if c.op = opAllgather then c.chunk - pad - x.2.1 else 0) 0
    let c := { c with phase := .reading, own := all, ownPoison := q.1.poison * 2 ^ (pad / 32)
                      parts := q.1.parts.map (fun (e : ReadPart) => { e with off := e.off + pad }) }
    State.collPump 4 (q.2.setColl p g (some c)) p g

/-- A step is admitted at the edge that opens the present beat. -/
def State.collAdmit (s : State) (p g : Nat) : State :=
  match (s.group p g).coll with
  | none => s
  | some c =>
    match c.nextItem with
    | none => s
    | some id =>
      if c.status.isSome ∨ c.phase ≠ .none ∨ ¬ s.beat.items.any (fun i => i.id == id) then s
      else
        let k := s.groupCfg p g
        let c := { c with item := some id, nextItem := none, beat := s.beat.number.toNat, served := s.stepStacks p c k.n k.me }
        let s := s.setColl p g (some c)
        if s.bufferBad p g c then
          let s := if s.rd .tilColbufKib 0 p ≠ 0 ∧ k.plots ≠ 0 then s.ev Ev.tilColbufUe (some p) (Config.detail [g]) else s
          (s.raiseAbort p g csBuffer 0).collEnd p g
        else if (c.up ++ c.down.toList).any (fun (u : StepData) => u.step == c.step && u.beat != c.beat) then
          (s.raiseAbort p g csMismatch 0).collEnd p g
        else
          let r : Option Nat × State := if c.step + 1 < c.steps then s.declareStep p g c (c.step + 1) else (none, s)
          let s := r.2.setColl p g (some { c with nextItem := r.1 })
          if c.step + 1 < c.steps ∧ r.1.isNone then (s.raiseAbort p g csLate 0).collEnd p g
          else if c.op = opSnapshot then (s.setColl p g (some { c with phase := .drain })).pausePtn p
          else s.collRead p g { c with nextItem := r.1 }

/-- The step's writes are visible and its messages sent: it is complete (R392). -/
def State.stepComplete (s : State) (p g : Nat) : State :=
  let s := State.collPump 4 s p g
  match (s.group p g).coll with
  | none => s
  | some c =>
    if c.status.isSome ∨ c.phase ≠ .writing ∨ s.collBusy p g then s.collEnd p g
    else
      let s := match c.item with
        | some id => s.complete id
        | none => s
      let s := if c.op = opSnapshot then s.resumePtn p else s
      let done := decide (c.steps ≤ c.step + 1)
      let c := { c with step := c.step + 1, phase := .none, item := none, up := c.up.filter (fun (u : StepData) => decide (c.step < u.step))
                        status := if done then some (if c.poisoned then csPoisoned else csOk) else none }
      (s.setColl p g (some c)).collEnd p g

/-! ## Reading a descriptor (R388–R390, R403) -/

/-- A condition of R389 or R390 is broken. -/
def Coll.bad (c : Coll) (k : GroupCfg) : Bool :=
  let w := c.words
  decide (c.op = 0) || decide (7 < c.op) || field (w.getD 1 0) 31 4 != 0 || field (w.getD 4 0) 15 0 != 0 || field (w.getD 5 0) 46 40 != 0
    || field (w.getD 7 0) 46 17 != 0 || decide (c.steps = 0) || (decide (5 ≤ c.op) && decide (c.steps ≠ 1))
    || (c.start == beatNext && k.n != 1)
    || (c.reduces && (c.rop == 3 || c.fmt == 0 || decide (4 < c.fmt)))
    || (c.op == opGlobalReset && (decide (1 < c.rop) || k.me != 0))
    || ((c.moves || c.op == opSnapshot) &&
        (c.src % 256 != 0 || c.dst % 256 != 0 || c.chunk % 256 != 0 || decide (c.chunk < 256) || decide (16777216 < c.chunk)))
    || ((c.op == opReduceScatter || c.op == opAllgather) && c.chunk % (32 * k.n) != 0)
    || (c.op == opBroadcast && decide (k.n ≤ c.root))

def ascendingNats : List Nat → Bool
  | a :: b :: r => decide (a < b) && ascendingNats (b :: r)
  | _ => true

/-- The step plan that the host supplies, where it meets its deadline. -/
def State.planOf (s : State) (p : Nat) (c : Coll) : Option (List Nat) :=
  if c.planPpa = 0 then none
  else
    match s.readSpan p c.planPpa (8 * c.steps) with
    | some (b, false) =>
      let l := (List.range c.steps).map (fun i => leNat ((b.drop (8 * i)).take 8))
      let first := l.getD 0 0
      if !ascendingNats l ∨ first < s.comingBeat ∨ (s.beat.cutoff ∧ first = s.comingBeat) then none else some l
    | _ => none

/-- What the engine does with a descriptor of a READY group: its step 0 is declared. -/
def State.collBegin (s : State) (p g : Nat) (c : Coll) : State :=
  let host := s.rd .colSchedMode 0 p == 1 && c.op != opGlobalReset
  let plan := if host then s.planOf p c else none
  let s := if host ∧ plan.isNone then s.ev Ev.colPlanMiss (some p) (Config.detail [g]) else s
  let c := { c with plan := plan.getD [] }
  let r := s.declareStep p g c 0
  let s := r.2.setColl p g (some { c with nextItem := r.1 })
  if r.1.isSome then s else (s.raiseAbort p g csLate 0).collEnd p g

/-- The descriptor at HEAD of the ring, where the ring may be read and no earlier collective of its group is in progress. -/
def State.ringHead (s : State) (p : Nat) : Option Coll :=
  let w := s.ring p
  let r := s.ringCfg p
  if s.ptnState p ≠ ptnSealed ∨ ¬ r.enable ∨ w.err ∨ w.head = w.tail then none
  else
    match s.readPpa p (r.ring + 64 * (w.head % 2 ^ r.log2)) 64 with
    | some (b, false) => some { idx := w.head, words := (List.range 8).map (fun i => leNat ((b.drop (8 * i)).take 8)) }
    | _ => none

/-- HEAD advances past a descriptor. -/
def State.ringRead (s : State) (p : Nat) : State :=
  let w := s.ring p
  s.setRing p { w with head := (w.head + 1) % wqCount }

/-- The descriptor at HEAD is read where its OP is `op`, or is one that no row names: refused, or begun by `k`. -/
def State.collFetch (s : State) (p op : Nat) (k : State → Nat → Coll → State) : State :=
  let w := s.ring p
  let r := s.ringCfg p
  match s.ringHead p with
  | none =>
    if s.ptnState p = ptnSealed ∧ r.enable ∧ ¬ w.err ∧ w.head ≠ w.tail then s.ringError p else s
  | some c =>
    if c.op ≠ op ∧ c.op ≠ 0 ∧ c.op ≤ 7 then s
    else if (s.group p c.grp).coll.isSome then s
    else
      let s := s.ringRead p
      let refuse (st : Nat) : State :=
        (s.setRing p { s.ring p with ended := (s.ring p).ended ++ [{ c with status := some st }] }).ringEnd p
      if s.groupState p c.grp ≠ grpReady then refuse csNoGroup
      else if c.bad (s.groupCfg p c.grp) then refuse csBadDesc
      else k s c.grp c

/-- At the cutoff: a step due at the coming edge that is not armed aborts its collective (R392). -/
def State.collArm (s : State) (p g : Nat) : State :=
  match (s.group p g).coll with
  | none => s
  | some c =>
    match c.nextItem with
    | none => s
    | some id =>
      if ¬ s.beat.decls.any (fun d => d.id == id && s.due d) then s
      else if s.groupState p g ≠ grpReady
          ∨ (c.armEn ∧ c.step = 0 ∧ c.item.isNone ∧ ¬ (s.ownsObj p c.armObj ∧ (s.obj c.armObj).kind = .counter ∧ c.armValue ≤ (s.obj c.armObj).value.toNat))
        then s.raiseAbort p g csNotArmed 0
      else s

/-- After admission: a step that was refused aborts its collective with UNALIGNED, or as not armed where the hub is aligned. -/
def State.collRefused (s : State) (p g : Nat) : State :=
  match (s.group p g).coll with
  | none => s
  | some c =>
    match c.nextItem with
    | none => s
    | some id =>
      if s.beat.decls.any (fun d => d.id == id) ∨ s.beat.admitted.any (fun d => d.id == id) then s
      else s.raiseAbort p g (if s.aligned then csNotArmed else csUnaligned) 0

/-! ## The ring's doorbell (R388, R143–R145) -/

def State.ringTail (s : State) (p tail cplHead : Nat) : State :=
  let w := { s.ring p with cplHead := cplHead % wqCount }
  let s := s.setRing p w
  let c := s.ringCfg p
  if 2 ^ c.log2 < (tail % wqCount + wqCount - w.cplHead) % wqCount then s.ringError p
  else s.setRing p { w with tail := tail % wqCount }

/-- ABORT: collectives in progress are CANCELLED at every member, and unread descriptors are CANCELLED. -/
def State.ringAbort (s : State) (p : Nat) : State :=
  let s := s.each (List.range 16) (fun s g => (s.raiseAbort p g csCancelled 0).collEnd p g)
  let w := s.ring p
  let r := s.ringCfg p
  let unread := (List.range ((w.tail + wqCount - w.head) % wqCount)).map (fun i =>
    let idx := (w.head + i) % wqCount
    let tag := match s.readPpa p (r.ring + 64 * (idx % 2 ^ r.log2) + 8) 8 with
      | some (b, false) => leNat b
      | _ => (Config.freeWord (s.fresh + idx)).toNat
    let c : Coll := { idx, words := [0, tag], status := some csCancelled }
    c)
  ((s.drawn wqCount).setRing p { w with head := w.tail, ended := w.ended ++ unread }).ringEnd p

/-- A write of COL_RING_CFG (R388): the fields of R141 that it holds, and the checks of R142. -/
def State.ringCfgWrite (s : State) (role : Role) (p v : Nat) : Answer :=
  let c := wqCfgOf v
  if 32 ≤ p then s.refuse stNotFound
  else if !mayWrite [.n, .n, .r, .n, .b] role then s.refuse stDenied
  else if field v 255 192 ≠ 0 ∨ field v 90 87 ≠ 0 ∨ field v 85 0 ≠ 0 ∨ 5 ≤ c.cls ∨ c.log2 < 4 ∨ 16 < c.log2 then s.refuse stRange
  else if (s.ringCfg p).enable ∧ ((s.ring p).head ≠ (s.ring p).tail ∨ (List.range 16).any (fun g => (s.group p g).coll.isSome)) then
    s.refuse stRunning
  else
    let t := s.wr .colRingCfg v 0 p
    if c.enable ∧ ¬ (s.ringCfg p).enable then (stOk, t.setRing p {}) else (stOk, t)

/-! ## Stretches (R60–R62, R400) -/

/-- A stretch acts on the step in progress, whose deadline moves to the following edge; no step is admitted at the edge. -/
def State.extendStep (s : State) (p g : Nat) : State :=
  let x := s.group p g
  match x.coll with
  | none => s
  | some c =>
    match c.item with
    | none => s
    | some id =>
      let later (d : Declaration) : Declaration := { d with target := d.target.map (· + 1) }
      let moved := (s.beat.admitted.filter (fun i => some i.id == c.nextItem)).map (fun (i : Item) =>
        ({ id := i.id, decl := later i.decl, late := false } : Pend))
      let t : State := { s with beat := { s.beat with
        items := s.beat.items.map (fun i => if i.id = id then { i with edges := 2 } else i)
        admitted := s.beat.admitted.filter (fun i => some i.id != c.nextItem)
        decls := s.beat.decls.map (fun d => if some d.id == c.nextItem then { d with decl := later d.decl } else d) ++ moved } }
      (t.setColGroup p g { x with run := x.run + 1, calm := 0, coll := some { c with stretched := c.stretched + 1 } }).bump .colStretched 0 p

/-- The grant names edge `e`. -/
def State.takeGrant (s : State) (p g e : Nat) : State :=
  let s := s.each (s.childrenIn p g 0) (fun s i => s.sendColl p g i kindStretchGrant e 0 0 [])
  let now := s.beat.number.toNat
  if e ≤ now then (s.raiseAbort p g csOverrun 0).collEnd p g
  else
    let s := (s.setColGroup p g { s.group p g with grant := some e }).bump .beatStretchGrants
    if e = now + 1 + s.beat.skip then s.extendStep p g else s

/-- The root decides on a request: at most one stretch in a group beat, and none beyond eight in a row. -/
def State.decideStretch (s : State) (p g : Nat) : State :=
  let x := s.group p g
  let now := s.beat.number.toNat
  let pending : Bool := match x.grant with
    | some e => decide (now < e)
    | none => false
  let left := (s.beat.rounds - s.beat.round) * 400
  let lead := s.groupDepth p g * s.rd .colLevelNs + s.rd .colGrantMargin
  let e := if s.crossGroup p g ∧ left < lead then now + 2 + s.beat.skip else now + 1 + s.beat.skip
  if pending ∨ 8 ≤ x.run ∨ x.coll.isNone then s else s.takeGrant p g e

/-- A request goes up the tree to the root. -/
def State.requestStretch (s : State) (p g : Nat) : State :=
  match (s.group p g).coll, s.parentIn p g 0 with
  | some c, some u => s.sendColl p g u kindStretchReq c.beat c.step 0 []
  | _, some u => s.sendColl p g u kindStretchReq 0 0 0 []
  | _, none => s.decideStretch p g

/-- A stack refreshes at double rate, or is throttled. -/
def State.stackHot (s : State) (h : Nat) : Bool :=
  decide (1 ≤ s.rd .hbmThrottleLevel 0 h) || s.rd .hbmRefreshRate 0 h != 0

/-- The step in progress is incomplete, and a stack that serves it is hot; with decisions from the host, only where its decision
asks for stretches (R607, R608). -/
def State.wantsStretch (s : State) (p g : Nat) : Bool :=
  match (s.group p g).coll with
  | some c => c.item.isSome && c.status.isNone && (bitsOf c.served 8).any (fun h => s.stackHot h && s.power.stretch.testBit h)
  | none => false

/-! ## What ends collectives from outside (R399) -/

/-- Groups that need a connection lose it: formation is refused NO_CONN, a READY group is DOWN with MEMBER_LOST. -/
def State.loseMember (s : State) (lost : State → Nat → Nat → Nat → Bool) : State :=
  s.each s.col.groups.keys (fun s k =>
    let p := k / 16
    let g := k % 16
    if !(s.neighbours p g).any (lost s p g) then s
    else if s.groupState p g = grpForming then s.refuseGroup p g refNoConn
    else if s.groupState p g = grpReady then (s.colGroupDown p g csMemberLost).collEnd p g
    else s)

/-- Connections that FAILED, and connections that could not be opened while a group forms. -/
def State.settleGroups (s : State) : State :=
  s.loseMember (fun s p g i =>
    match s.memberConn p g i with
    | some n => (match s.conn n with
      | some c => c.st == .failed
      | none => true)
    | none => s.groupState p g == grpForming)

/-- A FAULT notice on a connection. -/
def State.faultGroups (s : State) (n : Nat) : State := s.loseMember (fun s p g i => s.memberConn p g i == some n)

/-- A quiesce or catastrophic temperature of a stack: steps that it serves, in progress or due at the coming edge, abort. -/
def State.thermalAbort (s : State) (h : Nat) : State :=
  s.each s.col.groups.keys (fun s k =>
    let p := k / 16
    let g := k % 16
    match (s.group p g).coll with
    | some c =>
      let kc := s.groupCfg p g
      let next : Bool := match c.nextItem with
        | some id => s.beat.admitted.any (fun i => i.id == id) || s.beat.items.any (fun i => i.id == id)
        | none => false
      let step := if c.item.isSome then { c with step := c.step + 1 } else c
      if (c.item.isSome ∧ c.served.testBit h) ∨ (next ∧ (s.stepStacks p step kc.n kc.me).testBit h) then
        (s.raiseAbort p g csThermal h).collEnd p g
      else s
    | none => s)

/-- A reset of a partition ends its collectives (R420): those of a context, whose groups stay READY, or all, whose groups are DOWN. -/
def State.collReset (s : State) (p : Nat) (ctx : Option Nat) : State :=
  s.each (List.range 16) (fun s g =>
    match ctx with
    | some cc => if (s.ringCfg p).ctx = cc then (s.raiseAbort p g csReset 0).collEnd p g else s
    | none =>
      if s.groupState p g = grpReady ∨ s.groupState p g = grpForming then (s.colGroupDown p g csReset).collEnd p g else s)

/-! ## The sync map (R379) -/

/-- The run of a bank that a map gives. -/
def runOf (v b : Nat) : Nat × Nat := (field v (32 * b + 28) (32 * b + 16), field v (32 * b + 13) (32 * b))

/-- A map is well formed, and overlaps no run of another formed partition. -/
def State.syncMapOk (s : State) (p v : Nat) : Bool :=
  (List.range 8).all (fun b =>
    let r := runOf v b
    field v (32 * b + 31) (32 * b + 29) == 0 && field v (32 * b + 15) (32 * b + 14) == 0 && decide (r.1 + r.2 ≤ 8192)
    && (List.range 32).all (fun q =>
      let o := runOf (s.rd .colSyncMap 0 q) b
      q == p || !s.formed q || r.2 == 0 || o.2 == 0 || decide (r.1 + r.2 ≤ o.1) || decide (o.1 + o.2 ≤ r.1)))

/-- Objects that the map adds become COUNTER 0. -/
def State.writeSyncMap (s : State) (p v : Nat) : State :=
  let old := s.objsOf p
  let t := s.wr .colSyncMap v 0 p
  let added := (t.objsOf p).filter (fun n => !old.contains n)
  { t with sync := { t.sync with objs := added.foldl (fun m n => AMap.erase m n) t.sync.objs } }

def State.syncMapWrite (s : State) (role : Role) (p v : Nat) : Answer :=
  if 32 ≤ p then s.refuse stNotFound
  else if !mayWrite [.r, .r, .b, .r, .r] role then s.refuse stDenied
  else if !s.syncMapOk p v then s.refuse stRange
  else if s.isSealed p then s.refuse stLocked
  else (stOk, s.writeSyncMap p v)

/-! ## The commands -/

def execColSyncMapWrite (role : Role) (p v : Nat) (s : State) : Host.Outcome State Fault Refusal := .next (State.answered (s.syncMapWrite role p v))

def execColGroupForm (p g v : Nat) (s : State) : Host.Outcome State Fault Refusal := .next (State.answered (s.formGroup p g v))
def execColGroupDissolve (p g v : Nat) (s : State) : Host.Outcome State Fault Refusal := .next (State.answered (s.dissolveGroup p g v))

/-- COL_FORM_TIMEOUT passes while the group forms (R386). -/
def execColFormTimeout (p g : Nat) (s : State) : Host.Outcome State Fault Refusal :=
  .next (if s.groupState p g = grpForming then s.refuseGroup p g refTimeout else s)

/-- A write of COL_DB: TAIL and CPL_HEAD. -/
def execColDbTailWrite (p tail cplHead : Nat) (s : State) : Host.Outcome State Fault Refusal := .next (s.ringTail p tail cplHead)
def execColDbAbort (p : Nat) (s : State) : Host.Outcome State Fault Refusal := .next (s.ringAbort p)
def execCollAllreduce (p : Nat) (s : State) : Host.Outcome State Fault Refusal := .next (s.collFetch p opAllreduce (fun s g c => s.collBegin p g c))
def execCollReduceScatter (p : Nat) (s : State) : Host.Outcome State Fault Refusal :=
  .next (s.collFetch p opReduceScatter (fun s g c => s.collBegin p g c))
def execCollAllgather (p : Nat) (s : State) : Host.Outcome State Fault Refusal := .next (s.collFetch p opAllgather (fun s g c => s.collBegin p g c))
def execCollBroadcast (p : Nat) (s : State) : Host.Outcome State Fault Refusal := .next (s.collFetch p opBroadcast (fun s g c => s.collBegin p g c))
def execCollBarrier (p : Nat) (s : State) : Host.Outcome State Fault Refusal := .next (s.collFetch p opBarrier (fun s g c => s.collBegin p g c))
def execCollSnapshot (p : Nat) (s : State) : Host.Outcome State Fault Refusal := .next (s.collFetch p opSnapshot (fun s g c => s.collBegin p g c))
def execCollStepComplete (p g : Nat) (s : State) : Host.Outcome State Fault Refusal := .next (s.stepComplete p g)

/-- A partition's writes are acknowledged, and its connections are empty (R396). -/
def State.ptnDrained (s : State) (p : Nat) : Bool :=
  !s.noc.trackers.any (fun e => e.2.lab.ptn == p && e.2.op.writes && !e.2.timedOut)
    && (s.connsOf p).all (fun n => match s.conn n with
      | some c => c.unacked.isEmpty && c.held.isEmpty
      | none => true)

/-- The paused partition has drained: the values of its objects are written at DST, and the copy begins. -/
def execSnapshotDrainEnd (p : Nat) (s : State) : Host.Outcome State Fault Refusal :=
  .next (match (List.range 16).find? (fun g => match (s.group p g).coll with
      | some c => c.phase == .drain && c.status.isNone
      | none => false) with
    | none => s
    | some g =>
      match (s.group p g).coll with
      | none => s
      | some c =>
        if !s.ptnDrained p then s
        else
          let vals := (s.objsOf p).flatMap (fun n => toLe 8 (s.obj n).value.toNat)
          (s.collWrite p g c.dst vals 0 0).collRead p g c)

def execCollMsgForm (c : Nat) (payload : List Byte) (s : State) : Host.Outcome State Fault Refusal :=
  .next (match s.conn c with
    | none => s
    | some x =>
      let h := leNat (payload.take 16)
      if field h 127 120 ≠ kindForm ∨ c = 0 then s
      else
        let r : Report := { ptn := x.ptn, gid := field h 119 88, pkg := x.pkg, rptn := x.rptn, vals := formValsOf (payload.drop 16) }
        let others := s.col.reports.filter (fun (y : Report) => !(y.ptn == r.ptn && y.gid == r.gid && y.pkg == r.pkg && y.rptn == r.rptn))
        let t : State := { s with col := { s.col with reports := others ++ [r] } }
        t.each (List.range 16) (fun t g => if (t.groupCfg x.ptn g).gid = r.gid then t.formReport x.ptn g else t))

def execCollMsgFormed (c : Nat) (payload : List Byte) (s : State) : Host.Outcome State Fault Refusal :=
  .next (match s.collMsg c kindFormed payload with
    | some m => if s.groupState m.ptn m.g = grpForming ∧ s.parentIn m.ptn m.g 0 = some m.src then s.groupFormed m.ptn m.g else s
    | none => s)

def execCollMsgRefuse (c : Nat) (payload : List Byte) (s : State) : Host.Outcome State Fault Refusal :=
  .next (match s.collMsg c kindRefuse payload with
    | some m =>
      if s.groupState m.ptn m.g = grpForming ∧ s.parentIn m.ptn m.g 0 = some m.src then s.groupRefused m.ptn m.g m.status else s
    | none => s)

/-- Step data from a neighbour; fields that differ from the member's descriptor, or another beat, abort with MISMATCH. -/
def State.stepData (s : State) (m : CollMsg) (put : Coll → StepData → Coll) : State :=
  match (s.group m.ptn m.g).coll with
  | none => s
  | some c =>
    let b := bodyOf m.body
    if c.status.isSome then s
    else if b.1 ≠ c.fields ∨ (c.item.isSome ∧ m.step = c.step ∧ m.beat ≠ c.beat) then (s.raiseAbort m.ptn m.g csMismatch 0).collEnd m.ptn m.g
    else
      let c := put c { step := m.step, index := m.src, beat := m.beat, data := b.2.2, poison := b.2.1 }
      State.collPump 4 (s.setColl m.ptn m.g (some c)) m.ptn m.g

def execCollMsgUp (c : Nat) (payload : List Byte) (s : State) : Host.Outcome State Fault Refusal :=
  .next (match s.collMsg c kindUp payload with
    | some m =>
      if (s.childrenIn m.ptn m.g 0).contains m.src then s.stepData m (fun x d => { x with up := x.up ++ [d] }) else s
    | none => s)

def execCollMsgDown (c : Nat) (payload : List Byte) (s : State) : Host.Outcome State Fault Refusal :=
  .next (match s.collMsg c kindDown payload with
    | some m =>
      (match (s.group m.ptn m.g).coll with
       | some x => if s.parentIn m.ptn m.g x.root = some m.src then s.stepData m (fun x d => { x with down := some d }) else s
       | none => s)
    | none => s)

def execCollMsgStretchReq (c : Nat) (payload : List Byte) (s : State) : Host.Outcome State Fault Refusal :=
  .next (match s.collMsg c kindStretchReq payload with
    | some m => if (s.childrenIn m.ptn m.g 0).contains m.src then s.requestStretch m.ptn m.g else s
    | none => s)

def execCollMsgStretchGrant (c : Nat) (payload : List Byte) (s : State) : Host.Outcome State Fault Refusal :=
  .next (match s.collMsg c kindStretchGrant payload with
    | some m => if s.parentIn m.ptn m.g 0 = some m.src then s.takeGrant m.ptn m.g m.beat else s
    | none => s)

def execCollMsgAbort (c : Nat) (payload : List Byte) (s : State) : Host.Outcome State Fault Refusal :=
  .next (match s.collMsg c kindAbort payload with
    | some m =>
      (s.abortColl m.ptn m.g m.status (some m.src) (leNat (m.body.take 4)) (leNat ((m.body.drop 4).take 4)) (leNat ((m.body.drop 8).take 4))).collEnd
        m.ptn m.g
    | none => s)

/-- The check point of a hub beat: thermal protection requests a stretch for the group (R401). -/
def execStretchCheckPoint (p g : Nat) (s : State) : Host.Outcome State Fault Refusal :=
  .next (if s.wantsStretch p g then s.requestStretch p g else s)

end Sys2Proof.Machine
end

