-- ==== Sys2Proof/Machine/Connections.lean ====
section
/-! DEFINITION. The commands of scale-out ports and connections. An end of a connection that a collective group needs is seen by
the group at once (R386, R399). -/

namespace Sys2Proof.Machine

/-! ## The commands -/

def execSoxPortChange (e st : Nat) (s : State) : Host.Outcome State Fault Refusal := .next (s.portChange e st)

/-- A frame of a kind that R350 does not list is dropped and counted. -/
def execSoxOtherFrame (e : Nat) (s : State) : Host.Outcome State Fault Refusal := .next (s.dropFrame (e % 16) dropKind)

def execPtpSyncRx (e domain : Nat) (twoStep : Bool) (missed : Nat) (s : State) : Host.Outcome State Fault Refusal :=
  .next (s.ptpSync e domain twoStep missed)

def execPtpAnnounceRx (e rank : Nat) (s : State) : Host.Outcome State Fault Refusal := .next (s.ptpAnnounce e rank)

def execPtpFollowUpRx (e domain : Nat) (s : State) : Host.Outcome State Fault Refusal := .next (s.ptpFollowUp e domain)

def execPtpDelayRespRx (e domain delay : Nat) (s : State) : Host.Outcome State Fault Refusal := .next (s.ptpDelay e domain delay)

/-- DATA and the other messages of a connection (COLL, SVC, CKPT): received in order. -/
def execSftData (f : Frame) (s : State) : Host.Outcome State Fault Refusal :=
  .next (if f.type = sftData ∨ f.type = sftColl ∨ f.type = sftSvc ∨ f.type = sftCkpt then
      s.frameOn f (fun s c => if c.st = .open ∨ c.st = .closing then s.rxOrdered f.conn c f else s.dropIsolation f)
    else s)

def execSftAck (f : Frame) (rttHigh : Bool) (s : State) : Host.Outcome State Fault Refusal :=
  .next (if f.type = sftAck then
      s.frameOn f (fun s c =>
        let t := s.ackRx f.conn c f.ext
        if rttHigh then (match t.conn f.conn with
          | some c => t.ccSignal f.conn c f.port
          | none => t) else t)
    else s)

def execSftCnp (f : Frame) (due : Bool) (s : State) : Host.Outcome State Fault Refusal :=
  .next (if f.type = sftCnp then
      s.frameOn f (fun s c =>
        let t := s.bump .soxCnpRx 0 c.ptn
        if due then t.ccSignal f.conn c (field f.ext 99 96) else t)
    else s)

def execSftCtrlOpen (f : Frame) (s : State) : Host.Outcome State Fault Refusal :=
  .next (if isCtrl f ctrlOpen then s.frame12 f (fun s => s.openRx f) else s)

/-- OPEN_ACK opens an OPENING connection, and its waiting packets go out. -/
def execSftCtrlOpenAck (f : Frame) (s : State) : Host.Outcome State Fault Refusal :=
  .next (if isCtrl f ctrlOpenAck then
      s.frameOn f (fun s c =>
        if c.st = .opening then
          State.pumpConn c.queue.length (s.setConn f.conn { c with st := .open, peer := field f.ext 91 68 }) f.conn
        else s)
    else s)

/-- CLOSE is answered CLOSE_ACK and the connection is CLOSED. -/
def execSftCtrlClose (f : Frame) (s : State) : Host.Outcome State Fault Refusal :=
  .next (State.settleGroups (if isCtrl f ctrlClose then
      s.frameOn f (fun s c =>
        let t := s.sendCtl f.conn c 2 sftCtrl (ctrlExt ctrlCloseAck f.conn 0) []
        t.closeConn f.conn c msgNoConn)
    else s))

def execSftCtrlCloseAck (f : Frame) (s : State) : Host.Outcome State Fault Refusal :=
  .next (State.settleGroups (if isCtrl f ctrlCloseAck then
      s.frameOn f (fun s c => if c.st = .closing then s.closeConn f.conn c msgNoConn else s)
    else s))

def execSftCtrlReset (f : Frame) (s : State) : Host.Outcome State Fault Refusal :=
  .next (State.settleGroups (if isCtrl f ctrlReset then
      s.frameOn f (fun s c => if (c.st = .open ∨ c.st = .closing) ∧ f.conn ≠ 0 then s.failConn f.conn c else s)
    else s))

/-- A fault notice: messages complete with PEER_FAULT and the connection closes (R370). -/
def execSftFault (f : Frame) (s : State) : Host.Outcome State Fault Refusal :=
  .next (State.settleGroups (if f.type = sftFault then
      s.frameOn f (fun s c =>
        if c.st = .open then
          (((s.endMsgs f.conn c msgPeerFault).setConn f.conn { c with st := .closing, queue := [], unacked := [] }).settleClose f.conn).faultGroups
            f.conn
        else s)
    else s))

def execConnOpenRequest (p pkg rptn : Nat) (s : State) : Host.Outcome State Fault Refusal := .next (s.openRequest p pkg rptn)
def execConnOpenRetry (c : Nat) (s : State) : Host.Outcome State Fault Refusal := .next (s.openRetry c).settleGroups
def execConnIdleExpiry (c : Nat) (s : State) : Host.Outcome State Fault Refusal := .next (s.startClose c)

/-- The PSN of a space has reached 2^48 − 2^16 (R361). -/
def execConnPsnLimit (c : Nat) (s : State) : Host.Outcome State Fault Refusal :=
  .next (match s.conn c with
    | some x => if x.psn.any (fun v => decide (2 ^ 48 - 2 ^ 16 ≤ v)) then s.startClose c else s
    | none => s)

def execConnCloseTimeout (c : Nat) (s : State) : Host.Outcome State Fault Refusal :=
  .next (State.settleGroups (match s.conn c with
    | some x => if x.st = .closing then s.closeConn c x msgNoConn else s
    | none => s))

/-- 1 µs after an unacknowledged arrival (R364). -/
def execSftAckTimer (c : Nat) (s : State) : Host.Outcome State Fault Refusal :=
  .next (match s.conn c with
    | some x => if x.owed = 0 then s else s.sendAck c x
    | none => s)

def execSftRtoExpiry (c psn : Nat) (s : State) : Host.Outcome State Fault Refusal := .next (s.rtoRx c psn).settleGroups
def execCcPeriodExpiry (c plane : Nat) (s : State) : Host.Outcome State Fault Refusal := .next (s.ccPeriod c plane)

def execSoxEgressTableWrite (role : Role) (e v : Nat) (s : State) : Host.Outcome State Fault Refusal :=
  .next (State.answered (s.egressWrite role e v))

/-- REFUSE: an OPENING connection is CLOSED, and its messages complete with NO_CONN (R361). -/
def State.ctrlRefused (s : State) (f : Frame) : State :=
  s.frameOn f (fun s c => if c.st = .opening ∧ f.conn ≠ 0 then (s.closeConn f.conn c msgNoConn).settleGroups else s)

end Sys2Proof.Machine
end

