-- ==== Sys2Proof/Machine/Htl.lean ====
section
/-! DEFINITION. The hub transaction layer: the station's checks of a message from a chiplet, its injection, credits, and
the translation of CXL messages (R301–R322). -/

namespace Sys2Proof.Machine

/-! ## Headers (R304–R306) -/

structure HtlHdr where
  net : Nat
  op : Nat
  lab : Label
  och : Nat
  tag : Nat
  ppa : Nat
  fmt : Nat
  len : Nat
  agent : Nat
  opx : Nat
  obj : Nat
  poison : Nat
  fence : Bool
  part : Nat
  last : Bool
  /-- Bits [2:1] of the request layout. -/
  rsvd : Nat
  deriving DecidableEq, Repr

/-- A header in the request layout. -/
def htlHdr (v : Nat) : HtlHdr :=
  { net := field v 127 126, op := field v 125 120, lab := { ptn := field v 119 115, ctx := field v 114 111, cls := field v 110 108 }
    och := field v 107 104, tag := field v 103 91, ppa := field v 90 48 * 32, fmt := field v 47 44, len := (field v 43 41 + 1) * 32
    agent := field v 40 37, opx := field v 36 32, obj := field v 31 16, poison := field v 15 8, fence := v.testBit 7
    part := field v 6 4, last := v.testBit 3, rsvd := field v 2 1 }

/-- STATE and POISON of the answer layout. -/
def answerState (v : Nat) : Nat := field v 82 80
def answerPoison (v : Nat) : Nat := field v 15 8

/-- HPAR holds: the header's ones are even. -/
def hparOk (v : Nat) : Bool := popCount v 128 % 2 == 0

/-! ## Opcodes (R307) -/

def oRdShared : Nat := 0x01
def oRdUnique : Nat := 0x02
def oClaim : Nat := 0x03
def oEvict : Nat := 0x04
def oRdNa : Nat := 0x05
def oIntr : Nat := 0x06
def oAbort : Nat := 0x07
def oWb : Nat := 0x10
def oWrNs : Nat := 0x11
def oWrStash : Nat := 0x12
def oWrRed : Nat := 0x13
def oGatherDesc : Nat := 0x14
def oSync : Nat := 0x15
def oSnpAck : Nat := 0x23
def oSnpData : Nat := 0x32

/-- Network and level of an opcode from a chiplet; none where it is reserved or not from a chiplet. -/
def opInfo (op : Nat) : Option (Nat × Nat) :=
  match op with
  | 0x01 => some (0, 2) | 0x02 => some (0, 2) | 0x03 => some (0, 2) | 0x04 => some (0, 2) | 0x05 => some (0, 1)
  | 0x06 => some (0, 1) | 0x07 => some (0, 1) | 0x10 => some (3, 2) | 0x11 => some (3, 1) | 0x12 => some (3, 2)
  | 0x13 => some (3, 3) | 0x14 => some (3, 1) | 0x15 => some (3, 1) | 0x23 => some (2, 2) | 0x32 => some (3, 2)
  | _ => none

/-- Line opcodes. -/
def isLineOp (op : Nat) : Bool := op == oRdShared || op == oRdUnique || op == oClaim || op == oEvict || op == oWb

/-- Opcodes in the answer layout. -/
def isAnswerOp (op : Nat) : Bool := op == oSnpAck || op == oSnpData

def reqOpOf (op : Nat) : ReqOp :=
  match op with
  | 0x01 => .rdShared | 0x02 => .rdUnique | 0x03 => .claim | 0x04 => .evict | 0x05 => .rdNa | 0x06 => .intr
  | 0x10 => .wb | 0x11 => .write | 0x12 => .stash | 0x13 => .reduce
  | _ => .sync

/-! ## The station's checks (R309) -/

/-- The HTL level that the site uses for a partition. -/
def State.levelFor (s : State) (k p : Nat) : Nat :=
  if s.isSealed p ∧ (s.rd .uciBind k).testBit p then s.rd .htlPtnLevel k p else s.rd .uciHtlLevel k

/-- TAG is outstanding for the partition at the site. -/
def State.tagBusy (s : State) (k p tag : Nat) : Bool :=
  (s.trackersAt (.site k)).any (fun x => x.2.lab.ptn == p && x.2.tag == tag && !x.2.timedOut) ||
  (s.site k).fenced.any (fun m => (htlHdr m.hdr).lab.ptn == p && (htlHdr m.hdr).tag == tag)

/-- The bits of OBJ that an opcode uses (R307). -/
def objBits (op : Nat) : Nat :=
  match op with
  | 0x06 => 0x1FF | 0x07 => 0x3F | 0x12 => 0xF7 | 0x14 => 0x3F | 0x15 => 0xFFFF
  | _ => 0

/-- The largest OPX of an opcode (R307, R390). -/
def opxMax (op : Nat) : Nat :=
  match op with
  | 0x13 => 1 | 0x15 => 0x0E
  | _ => 0

/-- Opcodes whose ADDR is an address; of the others it is zero (R305). -/
def hasAddr (op : Nat) : Bool := isLineOp op || op == oRdNa || op == oWrNs || op == oWrStash || op == oWrRed

/-- Check 4: the fields. -/
def State.badField (s : State) (k v : Nat) (level : Nat) : Bool :=
  let h := htlHdr v
  if isAnswerOp h.op then
    decide (5 ≤ answerState v) || field v 24 16 != 0 || field v 7 1 != 0 || h.lab.cls == 5 || h.lab.cls == 6
  else
    h.rsvd != 0 || h.lab.cls == 5 || h.lab.cls == 6 || s.tagBusy k h.lab.ptn h.tag
    || decide (opxMax h.op < h.opx) || h.obj &&& objBits h.op != h.obj || (!hasAddr h.op && h.ppa != 0) || decide (11 < h.fmt)
    || (isLineOp h.op && (h.len != 64 || h.ppa % 64 != 0))
    || (h.op == oGatherDesc && h.len != 64) || (h.op == oSync && h.len != 32)
    || ((isLineOp h.op || h.op == oWrStash) && h.och != field h.ppa 9 6)
    || (h.fmt != 0 && (decide (level < 3) || !(h.op == oRdNa || h.op == oWrNs || h.op == oWrStash || h.op == oWrRed)))

/-- Check 7: the stored extent of a converted request, or of a reduce-at-home write in MX storage. -/
def State.badConv (s : State) (h : HtlHdr) : Bool :=
  match s.place h.lab.ptn h.ppa with
  | none => false
  | some pl =>
    let off := h.ppa % Config.granule
    if h.op = oWrRed then
      (if pl.sfmt / 16 = 0 then isMx h.fmt else isMx (pl.sfmt / 16) && !extentOk pl.sfmt off h.len)
    else
      (h.op == oRdNa || h.op == oWrNs || h.op == oWrStash) && converts pl.sfmt h.fmt && !extentOk pl.sfmt off h.len

/-- The first check from 2 on that a message fails, as a status. A snoop answer of a bound partition that was sealed
is taken whatever the partition's state now: the recall of its reset waits for it (R313, R421). -/
def State.htlCheck (s : State) (k v : Nat) : Nat :=
  let h := htlHdr v
  let p := h.lab.ptn
  let level := s.levelFor k p
  match opInfo h.op with
  | none => hsBadField
  | some (net, need) =>
    if level < need then hsLevel
    else if h.net ≠ net ∨ s.badField k v level then hsBadField
    else if !(s.rd .uciBind k).testBit p then hsIsolation
    else if isAnswerOp h.op then (if ((s.site k).granted.find p).isSome then hsOk else hsAborted)
    else if s.ptnState p ≠ ptnSealed ∨ ((s.site k).granted.find p).isNone ∨ s.startup.reset.isSome then hsAborted
    else if isLineOp h.op ∧ s.rd .uciCohRole k p ≠ roleCoherent then hsNotCoherent
    else if s.badConv h then hsConv
    else if hasAddr h.op ∧ decide (Config.granule < h.ppa % Config.granule + h.len) then hsXlate
    else hsOk

/-- Credits of a message return where its partition's were granted (R313, R314). -/
def State.refuseCredit (s : State) (k : Nat) (h : HtlHdr) : State :=
  if ((s.site k).granted.find h.lab.ptn).isSome ∧ !isAnswerOp h.op then
    s.emit (.credit k (if h.op < 0x10 then 0 else 3) h.lab.ptn 1)
  else s

/-- A refusal: CMP with its status, counted (R308, R309). -/
def State.htlRefuse (s : State) (k : Nat) (h : HtlHdr) (st : Nat) : State :=
  let s := ((s.bump .htlRefused k st).emit (.htl k opCmp h.lab h.och h.tag st 0 0 true 0 [])).refuseCredit k h
  if st = hsIsolation then s.ev (Ev.htlIsolation k) none (Config.detail [h.lab.ptn])
  else if st = hsConv then s.bump .ariConvRefused 0 h.lab.ptn
  else s

/-- A completion without an effect still to come. -/
def State.htlDone (s : State) (k : Nat) (h : HtlHdr) : State :=
  (s.emit (.htl k opCmp h.lab h.och h.tag hsOk 0 0 true 0 [])).refuseCredit k h

/-! ## Queues (R316) -/

/-- ABORT of a queue, refused where the queue is disabled or not this site's. -/
def State.htlAbortQueue (s : State) (k : Nat) (h : HtlHdr) : State :=
  let c := s.wqCfg h.lab.ptn (h.obj % 64)
  if ¬ c.enable ∨ ¬ c.submit ∨ c.site ≠ k then s.htlRefuse k h hsQueue
  else (s.wqAbort h.lab.ptn (h.obj % 64)).htlDone k h

/-- GATHER_DESC: the descriptor goes into slot TAIL. -/
def State.htlGather (s : State) (k : Nat) (h : HtlHdr) (data : List Byte) : State :=
  let p := h.lab.ptn
  let q := h.obj % 64
  let c := s.wqCfg p q
  if ¬ c.enable ∨ ¬ c.submit ∨ c.site ≠ k ∨ (s.wq p q).err ∨ overflows c (s.wq p q) (((s.wq p q).tail + 1) % wqCount) then
    s.htlRefuse k h hsQueue
  else if !s.spanWritable p (s.slotPpa p q (s.wq p q).tail) 64 then s.htlRefuse k h hsXlate
  else
    let r := s.wqSubmit p q k data
    r.2.htlDone k h

/-- Requests of a message's channel are unanswered (R311). -/
def State.htlFenced (s : State) (k : Nat) (h : HtlHdr) : Bool :=
  h.fence && (s.trackersAt (.site k)).any (fun x => x.2.lab.ptn == h.lab.ptn && x.2.och == h.och && !x.2.timedOut)

/-- A queue operation taken, or held for its fence. -/
def State.htlQueueOp (s : State) (k v : Nat) (data : List Byte) : State :=
  let h := htlHdr v
  if s.htlFenced k h then s.setSite k { s.site k with fenced := (s.site k).fenced ++ [{ hdr := v, data }] }
  else if h.op = oAbort then s.htlAbortQueue k h
  else s.htlGather k h data

/-- Held queue operations whose fence has opened. -/
def State.htlUnfence (s : State) (k : Nat) : State :=
  let l := (s.site k).fenced
  (s.setSite k { s.site k with fenced := [] }).each l (fun s m => s.htlQueueOp k m.hdr m.data)

/-! ## Injection (R315, R317, R320) -/

/-- The tracker of a message. -/
def htlTracker (k : Nat) (h : HtlHdr) (data : List Byte) (poison : Nat) : Tracker :=
  { newRequest (.site k) h.lab (reqOpOf h.op) h.tag h.ppa h.len data with
    och := h.och, fmt := h.fmt, agent := h.agent, opx := if h.op = oWrRed ∨ h.op = oSync then h.opx else 0
    obj := if h.op = oIntr then h.obj % 512 else h.obj, poison }

/-- A converted write: its parts are gathered until LAST, then it is issued; poison of a part poisons the extent. -/
def State.htlPart (s : State) (k : Nat) (h : HtlHdr) (data : List Byte) (attr : Nat) : State :=
  let x := s.site k
  let mine (y : Parts) : Bool := y.ptn == h.lab.ptn && y.tag == h.tag
  let before := (x.parts.find? mine).getD { ptn := h.lab.ptn, tag := h.tag, data := [], poison := 0 }
  let now : Parts := { before with data := before.data ++ data, poison := before.poison ||| h.poison }
  let s1 := s.setSite k { x with parts := x.parts.filter (fun y => !mine y) ++ (if h.last then [] else [now]) }
  if !h.last then s1.refuseCredit k h
  else if now.data.length ≠ operandLen h.fmt (extentElems attr h.len) then s1.htlRefuse k h hsBadField
  else s1.issue (htlTracker k h now.data (if now.poison = 0 then 0 else allPoison (h.len / 32))) h.fence

/-- A message that has passed its checks is carried into the fabric. -/
def State.htlInject (s : State) (k v : Nat) (data : List Byte) : State :=
  let h0 := htlHdr v
  let r : State × Label := if h0.lab.cls = 7 ∧ h0.op ≠ oIntr ∧ h0.op ≠ oSync ∧ !isAnswerOp h0.op then s.demote h0.lab else (s, h0.lab)
  let s := r.1
  let h := { h0 with lab := r.2 }
  if isAnswerOp h.op then
    s.emit (.snpAnswer k h.tag h.lab.ptn (answerState v) (if h.op = oSnpData then data.take 64 else []) (answerPoison v % 4))
  else if h.op = oAbort ∨ h.op = oGatherDesc then s.htlQueueOp k v data
  else if h.op = oSync ∧ !s.ownsObj h.lab.ptn h.obj then s.htlRefuse k h hsSync
  else
    match s.place h.lab.ptn h.ppa with
    | some pl =>
      if h.op = oWrRed ∧ pl.sfmt / 16 ≠ 0 then
        if data.length ≠ operandLen h.fmt (extentElems pl.sfmt h.len) then s.htlRefuse k h hsBadField
        else s.issue (htlTracker k h data (if h.poison = 0 then 0 else allPoison (h.len / 32))) h.fence
      else if (h.op = oWrNs ∨ h.op = oWrStash) ∧ converts pl.sfmt h.fmt then s.htlPart k h data pl.sfmt
      else s.issue (htlTracker k h (data.take h.len) (h.poison % 2 ^ (h.len / 32))) (h.fence || h.op == oIntr)
    | none => s.issue (htlTracker k h (data.take h.len) (h.poison % 2 ^ (h.len / 32))) (h.fence || h.op == oIntr)

/-- The site takes mainband messages on a group (R289). -/
def State.takesMessages (s : State) (k lg : Nat) : Bool :=
  (s.rd .uciLinkState k == lsUp || s.rd .uciLinkState k == lsDegraded) && (s.site k).group lg == .up

/-- Sub-index of HTL_REFUSED that counts messages discarded unanswered. -/
def refusedDiscard : Nat := 0xFF

/-- A message of opcode `op` from the chiplet of site `k` on link group `lg`. A header of another valid opcode is another
row's message. After a FATAL-HUB messages are discarded (R555). -/
def State.htlMessage (s : State) (op k lg hdr : Nat) (data : List Byte) : State :=
  let v := hdr % 2 ^ 128
  let h := htlHdr v
  if 8 ≤ k ∨ s.owl.fatalHub then s
  else if !s.takesMessages k lg then s.bump .htlRefused k refusedDiscard
  else if !hparOk v then (s.bump .htlHdrParity k).ev (Ev.htlHdrParity k)
  else if h.op ≠ op ∧ (opInfo h.op).isSome then s
  else
    let st := s.htlCheck k v
    (if st = hsOk then s.htlInject k v data else s.htlRefuse k h st).htlUnfence k

/-! ## Credits (R303, R313) -/

/-- Snoops that wait are sent under the credits that have come back. -/
def State.drainSnoops : Nat → State → Nat → Nat → State
  | 0, s, _, _ => s
  | f + 1, s, k, ag =>
    let x := s.site k
    match x.snpq.get ag [] with
    | m :: rest =>
      if x.snpUsed.get ag 0 < s.snpq k then
        State.drainSnoops f ((s.setSite k { x with snpq := x.snpq.put ag rest [], snpUsed := x.snpUsed.put ag (x.snpUsed.get ag 0 + 1) 0 }).emit
          (.snoop k m.op m.opx ag m.ppa m.txid m.ptn)) k ag
      else s
    | [] => s

/-- Interrupts that wait for a credit of a partition. -/
def State.drainIntr : Nat → State → Nat → Nat → State
  | 0, s, _, _ => s
  | f + 1, s, k, p =>
    let x := s.site k
    match x.intrq.find? (fun e => e.1 == p) with
    | some e =>
      if x.intrUsed.get p 0 < 16 then
        State.drainIntr f ((s.setSite k { x with intrq := x.intrq.erase e, intrUsed := x.intrUsed.put p (x.intrUsed.get p 0 + 1) 0 }).emit
          (.intrH k p e.2)) k p
      else s
    | none => s

/-- One credit-return entry of the control slot. -/
def State.creditEntry (s : State) (k e : Nat) : State :=
  let x := s.site k
  let who := field e 12 8
  let n := field e 7 0
  if ¬ e.testBit 15 then s
  else if field e 14 13 = 1 then
    let ag := who % 16
    State.drainSnoops (n + 1) (s.setSite k { x with snpUsed := x.snpUsed.put ag (x.snpUsed.get ag 0 - n) 0 }) k ag
  else if field e 14 13 = 2 then
    State.drainIntr (n + 1) (s.setSite k { x with intrUsed := x.intrUsed.put who (x.intrUsed.get who 0 - n) 0 }) k who
  else s

/-! ## CXL (R321, R322) -/

/-- The HTL opcode of a CXL message. -/
def cxlOp : CxlMsg → Nat
  | .rdShared => oRdShared | .rdOwn => oRdUnique | .rdCurr => oRdNa | .rdOwnNoData => oClaim
  | .cleanEvict => oEvict | .cleanEvictNoData => oEvict | .dirtyEvict => oWb
  | .wrCur => oWrNs | .itoMWr => oWrNs | .wowrInv => oWrNs
  | .snoopRsp _ d => if d then oSnpData else oSnpAck
  | .memRd => oRdNa | .memWr => oWrNs | .memWrPtl => oWrNs | .ioRead => oRdNa | .ioWrite => oWrNs

/-- CXL.io requests. -/
def cxlIo : CxlMsg → Bool
  | .ioRead => true
  | .ioWrite => true
  | _ => false

/-- CXL.mem requests: a refused read is answered with poisoned data alone. -/
def cxlMem : CxlMsg → Bool
  | .memRd => true
  | .memWr => true
  | .memWrPtl => true
  | _ => false

/-- A CXL message's label: the partition of the binding, context 0, class STD. -/
def State.cxlLabel (s : State) (k : Nat) : Label := { ptn := (bitsOf (s.rd .uciBind k) 32).headD 0, ctx := 0, cls := 2 }

/-- The first check that a translated message fails. -/
def State.cxlCheck (s : State) (k : Nat) (m : CxlMsg) (tag ppa len : Nat) : Nat :=
  let p := (s.cxlLabel k).ptn
  let op := cxlOp m
  if s.levelFor k p < 2 then hsLevel
  else if (!isAnswerOp op && s.tagBusy k p tag) || (isLineOp op && (len != 64 || ppa % 64 != 0)) then hsBadField
  else if !(s.rd .uciBind k).testBit p then hsIsolation
  else if isAnswerOp op then (if ((s.site k).granted.find p).isSome then hsOk else hsAborted)
  else if s.ptnState p ≠ ptnSealed ∨ ((s.site k).granted.find p).isNone ∨ s.startup.reset.isSome then hsAborted
  else if isLineOp op ∧ s.rd .uciCohRole k p ≠ roleCoherent then hsNotCoherent
  else if Config.granule < ppa % Config.granule + len then hsXlate
  else hsOk

/-- A refusal in the form of its protocol: a read of memory or cache is answered with poisoned data, a write is completed
without effect, a CXL.io request with Unsupported Request. -/
def State.cxlRefuse (s : State) (k : Nat) (m : CxlMsg) (tag st : Nat) : State :=
  let reads := decide (cxlOp m < 0x10)
  let s := (s.bump .htlRefused k st).emit (.cxl k tag (cxlIo m || (reads && !cxlMem m)) [] reads)
  if st = hsIsolation then s.ev (Ev.htlIsolation k) else s

/-- A CXL message translated and carried into the fabric. -/
def State.cxlMessage (s : State) (k : Nat) (m : CxlMsg) (tag ppa len : Nat) (data : List Byte) (poison : Bool) : State :=
  if s.owl.fatalHub then s
  else if 8 ≤ k ∨ s.rd .uciProtocol k ≠ protoCxl ∨ ¬ (s.rd .uciLinkState k = lsUp ∨ s.rd .uciLinkState k = lsDegraded) then
    s.bump .htlRefused k refusedDiscard
  else
    let st := s.cxlCheck k m tag ppa len
    let lab := s.cxlLabel k
    match m with
    | .snoopRsp x _ => if st = hsOk then s.emit (.snpAnswer k tag lab.ptn x data (if poison then 3 else 0)) else s.cxlRefuse k m tag st
    | _ =>
      if st ≠ hsOk then s.cxlRefuse k m tag st
      else
        let k0 := newRequest (.site k) lab (reqOpOf (cxlOp m)) tag ppa len (data.take len)
        s.issue { k0 with och := if cxlIo m then 0 else field ppa 9 6, dfmt := if cxlIo m then 1 else if cxlMem m then 2 else 0
                          poison := if poison then allPoison ((len + 31) / 32) else 0 } false

/-! ## The commands -/

def execHtlRdShared (k lg hdr : Nat) (data : List Byte) (s : State) : Host.Outcome State Fault Refusal :=
  .next (s.htlMessage oRdShared k lg hdr data)
def execHtlRdUnique (k lg hdr : Nat) (data : List Byte) (s : State) : Host.Outcome State Fault Refusal :=
  .next (s.htlMessage oRdUnique k lg hdr data)
def execHtlClaim (k lg hdr : Nat) (data : List Byte) (s : State) : Host.Outcome State Fault Refusal :=
  .next (s.htlMessage oClaim k lg hdr data)
def execHtlEvict (k lg hdr : Nat) (data : List Byte) (s : State) : Host.Outcome State Fault Refusal :=
  .next (s.htlMessage oEvict k lg hdr data)
def execHtlRdNa (k lg hdr : Nat) (data : List Byte) (s : State) : Host.Outcome State Fault Refusal :=
  .next (s.htlMessage oRdNa k lg hdr data)
def execHtlIntr (k lg hdr : Nat) (data : List Byte) (s : State) : Host.Outcome State Fault Refusal :=
  .next (s.htlMessage oIntr k lg hdr data)
def execHtlAbort (k lg hdr : Nat) (data : List Byte) (s : State) : Host.Outcome State Fault Refusal :=
  .next (s.htlMessage oAbort k lg hdr data)
def execHtlWb (k lg hdr : Nat) (data : List Byte) (s : State) : Host.Outcome State Fault Refusal :=
  .next (s.htlMessage oWb k lg hdr data)
def execHtlWrNs (k lg hdr : Nat) (data : List Byte) (s : State) : Host.Outcome State Fault Refusal :=
  .next (s.htlMessage oWrNs k lg hdr data)
def execHtlWrStash (k lg hdr : Nat) (data : List Byte) (s : State) : Host.Outcome State Fault Refusal :=
  .next (s.htlMessage oWrStash k lg hdr data)
def execHtlWrRed (k lg hdr : Nat) (data : List Byte) (s : State) : Host.Outcome State Fault Refusal :=
  .next (s.htlMessage oWrRed k lg hdr data)
def execHtlGatherDesc (k lg hdr : Nat) (data : List Byte) (s : State) : Host.Outcome State Fault Refusal :=
  .next (s.htlMessage oGatherDesc k lg hdr data)
def execHtlSync (k lg hdr : Nat) (data : List Byte) (s : State) : Host.Outcome State Fault Refusal :=
  .next (s.htlMessage oSync k lg hdr data)
def execHtlSnpAck (k lg hdr : Nat) (data : List Byte) (s : State) : Host.Outcome State Fault Refusal :=
  .next (s.htlMessage oSnpAck k lg hdr data)
def execHtlSnpData (k lg hdr : Nat) (data : List Byte) (s : State) : Host.Outcome State Fault Refusal :=
  .next (s.htlMessage oSnpData k lg hdr data)

/-- The control slot of a flit: eight credit-return entries (R303). -/
def execHtlCreditReturn (k slot : Nat) (s : State) : Host.Outcome State Fault Refusal :=
  .next (s.each (List.range 8) (fun s j => s.creditEntry k (field slot (16 * j + 15) (16 * j))))

def execCxlMessage (k : Nat) (m : CxlMsg) (tag ppa len : Nat) (data : List Byte) (poison : Bool) (s : State) :
    Host.Outcome State Fault Refusal :=
  .next (s.cxlMessage k m tag ppa len data poison)

end Sys2Proof.Machine
end

