-- ==== Sys2Proof/Machine/Migration.lean ====
section
/-! DEFINITION. Placement and migration: candidates, the pass of R255, the phases of R259, cancellation, sweeps,
drains, retirement and row-cache fills (R236, R254–R268). -/

namespace Sys2Proof.Machine

/-! ## Migrations under way -/

def State.migOf (s : State) (src : Nat) : Option Mig := s.jay.migs.find? (fun m => m.src == src)

def State.setMig (s : State) (m : Mig) : State :=
  { s with jay := { s.jay with migs := s.jay.migs.map (fun x => if x.src = m.src then m else x) } }

def State.dropMig (s : State) (src : Nat) : State :=
  { s with jay := { s.jay with migs := s.jay.migs.filter (fun m => m.src != src) } }

/-- The directory entry of a migrating granule changed; a pool granule has none. -/
def State.migDir (s : State) (m : Mig) (f : DirEntry → DirEntry) : State :=
  match m.gran with
  | some g => s.setDir m.ptn g (f (s.dirEntry m.ptn g))
  | none => s

/-- What a granule returns to when it is not mapped or owned any more (R210). -/
def State.idleHgt (s : State) (hg : Nat) : Hgt :=
  if 65536 - s.rd .hbmSpareGranules ≤ hg % 65536 then { state := .spare } else {}

/-! ## Targets (R236, R254, R264) -/

/-- The partition may hold granules at a stack: in sealed mode it owns memory-command slots there (R196, R254). -/
def State.mayHold (s : State) (p h : Nat) : Bool := !s.sealedMode p || decide (0 < s.slotsOwned (selHa h) p)

/-- Granules of migrations declared for the coming beat, with a property. -/
def State.declaredMigs (s : State) (q : Mig → Bool) : Nat := (s.jay.migs.filter (fun m => m.phase == .declared && q m)).length

/-- The limit of a stack as source and as target in one beat (R255). -/
def State.stackBudget (s : State) : Nat := min (s.rd .jayStackBudget) (max 1 (s.rd .beatPeriod / 12500))

/-- A stack holds a FREE granule beyond what formations have reserved there (R408). -/
def State.hasFree (s : State) (h : Nat) : Bool := s.stackUp h && decide (s.reservedAt h < s.freeCount h)

/-- A stack has not reached its limit as target (R255). -/
def State.takesMore (s : State) (h : Nat) : Bool := decide (s.declaredMigs (fun m => m.dst / 65536 == h) < s.stackBudget)

/-- A target stack is usable (R254). -/
def State.usable (s : State) (p h : Nat) : Bool :=
  s.hasFree h && !s.draining h && s.mayHold p h && s.takesMore h

/-- One-way times from a site to a stack, summed over the twelve port indices (R182). -/
def pathTime (k h : Nat) : Nat :=
  (List.range 12).foldl (fun n i =>
    let a := sitePortAt (12 * k + i)
    let b := stackPortAt (12 * h + i)
    n + ((a.1 - b.1) + (b.1 - a.1) + (a.2.1 - b.2.1) + (b.2.1 - a.2.1) + 2)) 0

/-- The stacks by nearness to a site; a tie goes to the lower number (R264). -/
def nearStacks (k : Nat) : List Nat := sortBy (pathTime k) (List.range 8)

/-- The lowest-numbered site with the largest counter (R254). -/
def dominant (heat : List Nat) : Nat :=
  ((heat.zipIdx).foldl (fun (b : Nat × Nat) (e : Nat × Nat) => if b.1 < e.1 then e else b) (heat.headD 0, 0)).2

/-- A migration to be declared: its targets in order, and whether a spare granule may be one. -/
structure Plan where
  kind : MigKind
  ptn : Nat
  gran : Option Nat
  src : Nat
  targets : List Nat
  deriving DecidableEq, Repr

/-- The stacks that a retirement searches (R236). -/
def retireOrder (h : Nat) : List Nat := h :: stackMate h :: (List.range 8).filter (fun x => x != h && x != stackMate h)

/-- The stacks that may take a retired granule (R236, R264). -/
def State.retireStacks (s : State) (q : Plan) : List Nat := q.targets.filter (fun h => s.stackUp h && !s.draining h && s.mayHold q.ptn h)

/-- The granule taken as target, and whether it is a spare. -/
def State.targetOf (s : State) (q : Plan) : Option (Nat × Bool) :=
  match q.kind with
  | .retire =>
    let hs := s.retireStacks q
    if hs.any s.hasFree then ((hs.filterMap (fun h => if s.hasFree h && s.takesMore h then s.firstFree h else none)).head?).map (fun g => (g, false))
    else ((hs.filterMap (fun h => if s.takesMore h then s.firstSpare h else none)).head?).map (fun g => (g, true))
  | .sweep =>
    ((q.targets.filterMap (fun h => if s.hasFree h && !s.draining h && s.takesMore h then s.firstFree h else none)).head?).map
      (fun g => (g, false))
  | _ => ((q.targets.filterMap (fun h => if s.usable q.ptn h then s.firstFree h else none)).head?).map (fun g => (g, false))

/-- The limits of R255 leave room for a migration from a stack, and the stack is in service: a repair or retirement that is due
while it is quiesced waits for the resume (R238), and Jay does not move what a catastrophic temperature left (R262). -/
def State.withinBudget (s : State) (src : Nat) : Bool :=
  s.stackUp (src / 65536) && decide (s.declaredMigs (fun _ => true) < s.beatBudget) &&
  decide (s.declaredMigs (fun m => m.src / 65536 == src / 65536) < s.stackBudget)

/-- A plan without a target in this beat: a retirement for which none exists is blocked (R237), an order is dropped (R257), a sweep whose
stack has no FREE granule is deferred and reported (R263). -/
def State.noTarget (s : State) (q : Plan) : State :=
  match q.kind with
  | .retire =>
    if s.jay.blocked.contains q.src ∨ (s.retireStacks q).any (fun h => s.hasFree h || (s.firstSpare h).isSome) then s
    else { s.ev (Ev.hbmRetireBlocked (q.src / 65536)) with jay := { (s.ev (Ev.hbmRetireBlocked (q.src / 65536))).jay with
        blocked := s.jay.blocked ++ [q.src] } }
  | .move => s.jayCode q.ptn jcNoTarget
  | .sweep => if q.targets.any s.hasFree then s else s.ev Ev.jaySweepStalled (some q.ptn)
  | _ => s

/-- A migration declared for the next beat (R255, R259): MSTATE DECLARED, TGRAN set, the target a POOL granule of the owner. -/
def State.plan1 (s : State) (q : Plan) : State :=
  if ¬ s.withinBudget q.src then s
  else
    match s.targetOf q with
    | none => s.noTarget q
    | some (dst, _) =>
      let id := s.beat.nextId
      let t := s.declare { kind := .migration q.src, ptn := none, ctx := 0, target := none, defer := false, abort := false }
      if ¬ t.beat.decls.any (fun d => d.id == id) then t
      else
        let m : Mig := { ptn := q.ptn, gran := q.gran, src := q.src, dst, kind := q.kind, phase := .declared, item := id
                         pass := 0, dirty := [] }
        let t := t.setHgt dst { state := .pool, owner := q.ptn, kgen := s.newestKgen q.ptn
                                mac := s.rd .hbmLineCode 0 q.ptn == 1 }
        let t : State := { t with jay := { t.jay with migs := t.jay.migs ++ [m], blocked := t.jay.blocked.erase q.src } }
        t.migDir m (fun e => { e with mstate := .declared, tgran := dst })

/-! ## The pass before the cutoff (R254, R255) -/

/-- Mapped PPA granules of a partition that are in no migration, with their entries. -/
def State.mappedOf (s : State) (p : Nat) : List (Nat × DirEntry) :=
  ((s.jay.dir.where (fun k e => decide (s.dbase p ≤ k) && decide (k < s.dbase p + s.dlen p) && e.valid && e.mstate == .idle))).map
    (fun (x : Nat × DirEntry) => (x.1 - s.dbase p, x.2))

/-- A partition admits new migrations: it is formed and in no reset (R262). -/
def State.migratable (s : State) (p : Nat) : Bool := s.ptnState p == ptnSealed || s.ptnState p == ptnHalted

/-- Retirements, in order of detection (R236, R255). -/
def State.retirePlans (s : State) : List Plan :=
  s.jay.retire.filterMap (fun hg =>
    let e := s.hgt hg
    if (s.migOf hg).isSome ∨ ¬ s.migratable e.owner then none
    else if e.state = .pool then some { kind := .retire, ptn := e.owner, gran := none, src := hg, targets := retireOrder (hg / 65536) }
    else if e.state = .mapped then
      ((s.mappedOf e.owner).find? (fun x => x.2.hgran == hg)).map (fun x =>
        { kind := .retire, ptn := e.owner, gran := some x.1, src := hg, targets := retireOrder (hg / 65536) })
    else none)

/-- Sum of a granule's counters. -/
def totalHeat (e : DirEntry) : Nat := e.heat.foldl (· + ·) 0

/-- Thermal drains (R264): for each stack the mapped, unpinned granules in it with the highest total heat. -/
def State.drainPlans (s : State) : List Plan :=
  s.jay.drains.flatMap (fun (d : Nat × Nat) =>
    let all := (List.range 32).flatMap (fun p =>
      if s.migratable p then ((s.mappedOf p).filter (fun x => !x.2.pin && x.2.hgran / 65536 == d.1)).map (fun x => (p, x)) else [])
    ((sortBy (fun (x : Nat × Nat × DirEntry) => 120 - totalHeat x.2.2) all).take d.2).map (fun x =>
      let k := dominant x.2.2.heat
      { kind := .drain, ptn := x.1, gran := some x.2.1, src := x.2.2.hgran
        targets := (stackMate d.1 :: preferredStack k :: nearStacks k).filter (· != d.1) }))

/-- MOVE orders, in arrival order (R257). An order for stack 8 may go to any stack. -/
def State.movePlans (s : State) : List Plan :=
  s.jay.moves.filterMap (fun (m : Nat × Nat × Nat) =>
    let e := s.dirEntry m.1 m.2.1
    if e.valid ∧ e.mstate = .idle ∧ s.migratable m.1 ∧ s.hostAssisted m.1 then
      some { kind := .move, ptn := m.1, gran := some m.2.1, src := e.hgran
             targets := if m.2.2 < 8 then [m.2.2] else (List.range 8).filter (· != e.hgran / 65536) }
    else none)

/-- Key-generation sweeps (R263): entries by index, then POOL granules by number. -/
def State.sweepPlans (s : State) : List Plan :=
  s.jay.sweeps.flatMap (fun (w : Nat × Nat) =>
    if ¬ s.migratable w.1 then []
    else
      ((s.mappedOf w.1).filter (fun x => x.2.kgen == w.2)).map (fun x =>
        { kind := .sweep, ptn := w.1, gran := some x.1, src := x.2.hgran, targets := [x.2.hgran / 65536] })
      ++ ((s.jay.hgt.where (fun _ e => e.state == .pool && e.owner == w.1 && e.kgen == w.2)).keys.filter (fun hg => (s.migOf hg).isNone)).map
        (fun hg => { kind := .sweep, ptn := w.1, gran := none, src := hg, targets := [hg / 65536] }))

/-- A mapped granule as a candidate (R254): its targets and score. -/
def State.candidate (s : State) (p : Nat) (e : DirEntry) : Option (List Nat × Nat × Nat) :=
  let h := e.hgran / 65536
  let held := decide ((s.beat.number.toNat + 65536 - e.lastMove.toNat) % 65536 < s.rd .jayMoveHold)
  if e.pin ∨ held then none
  else if e.hintEn ∧ ¬ s.hostAssisted p then
    if e.hintStack = h then none else some ([e.hintStack], 16, dominant e.heat)
  else
    let d := dominant e.heat
    let c := e.heat.getD d 0
    let q := stackQuad h
    let loc := max (e.heat.getD (2 * q) 0) (e.heat.getD (2 * q + 1) 0)
    if siteQuad d ≠ q ∧ s.rd .jayMoveMin ≤ c ∧ loc + s.rd .jayMoveMargin ≤ c then
      some ([preferredStack d, stackMate (preferredStack d)], c - loc, d)
    else none

/-- Candidates of a partition, best first: score, then entry index (R254, R255). -/
def State.candidatesOf (s : State) (p : Nat) : List (Candidate × List Nat) :=
  let l := (s.mappedOf p).filterMap (fun x =>
    match s.candidate p x.2 with
    | some (ts, score, d) =>
      match ts.find? (s.usable p) with
      | some t => some (({ gran := x.1, target := t, site := d, score } : Candidate), ts)
      | none => none
    | none => none)
  sortBy (fun (c : Candidate × List Nat) => 16 - c.1.score) l

/-- Hardware candidates hub-wide: descending score, then partition, then entry index (R255). -/
def State.hotPlans (s : State) : List Plan :=
  let l := (List.range 32).flatMap (fun p =>
    if s.migratable p && !s.hostAssisted p then (s.candidatesOf p).map (fun c => (p, c)) else [])
  (sortBy (fun (x : Nat × Candidate × List Nat) => 16 - x.2.1.score) l).map (fun x =>
    { kind := .heat, ptn := x.1, gran := some x.2.1.gran, src := (s.dirEntry x.1 x.2.1.gran).hgran, targets := x.2.2 })

/-- The pass: retirements, drains, orders, sweeps and hardware candidates, in that order. Orders that were reached leave
their list; orders beyond the limits stay. -/
def State.placementPass (s : State) : State :=
  let s1 := s.each s.retirePlans State.plan1
  let s2 := s1.each s1.drainPlans State.plan1
  let s3 := s2.each s2.movePlans (fun t q =>
    if t.withinBudget q.src then
      let u := t.plan1 q
      { u with jay := { u.jay with moves := u.jay.moves.filter (fun (m : Nat × Nat × Nat) => !(m.1 == q.ptn && some m.2.1 == q.gran)) } }
    else t)
  let s4 := s3.each s3.sweepPlans State.plan1
  s4.each s4.hotPlans State.plan1

/-- Candidates posted at an edge to a host-assisted partition (R258). A posting without candidates asks for no answer. -/
def State.postCandidates (s : State) (p : Nat) : State :=
  let cs := ((s.candidatesOf p).take 32).map (·.1)
  let old := ((s.jay.posting.find p).map Posting.beats).getD []
  let t : State := { s with jay := { s.jay with
    posting := s.jay.posting.set p { cands := cs, beats := if cs.isEmpty then old else old ++ [s.beat.number] } } }
  if cs.isEmpty then t else t.raiseVector p (s.rd .jayMissVector 0 p)

/-! ## The phases (R259–R262, R265) -/

/-- The admitting edge: COPY begins. -/
def State.startMig (s : State) (src : Nat) : State :=
  match s.migOf src with
  | some m =>
    if m.phase = .declared then (s.setMig { m with phase := .copy }).migDir m (fun e => { e with mstate := .copy }) else s
  | none => s

/-- Bytes that a pass moves, counted at both stacks. -/
def State.countCopy (s : State) (m : Mig) (n : Nat) : State :=
  (((s.activate (m.src / 65536)).activate (m.dst / 65536)).bump .hbmReadBytes 0 (m.src / 65536) n).bump .hbmWriteBytes 0 (m.dst / 65536) n

/-- LOCKED: the lock is taken and every region of the granule recalled (R345). -/
def State.lockMig (s : State) (m : Mig) : State :=
  let t := (s.setMig { m with phase := .locked }).setHgt m.src { s.hgt m.src with state := .locked }
  ((t.migDir m (fun e => { e with mstate := .locked })).recallGranule m.src).pumped

/-- Units in the blocks that the next pass copies again are forgotten. -/
def Mig.again (m : Mig) : Mig := { m with dirty := [], bad := m.bad.filter (fun u => !m.dirty.contains (u / 256)) }

/-- The errors that a pass met: reported, and the units that travel as poison (R262). -/
def State.copyErrs (s : State) (m : Mig) (es : List ReadErr) : State × Mig :=
  let r := s.readErrs (m.src * Config.granule) true es
  (r.1, { m with bad := m.bad ++ r.2.map (· - m.src * Config.granule) })

/-- A copy pass ends: a further pass of the blocks marked dirty, or the lock. -/
def State.passDone (s : State) (src : Nat) (es : List ReadErr) : State :=
  match s.migOf src with
  | none => s
  | some m =>
    if m.phase ≠ .copy then s
    else
      let c := (if m.pass = 0 then s.countCopy m Config.granule else s).copyErrs m es
      let s := c.1
      let m := { c.2 with pass := m.pass + 1 }
      if m.pass < s.rd .jayCopyPasses ∧ ¬ m.dirty.isEmpty then (s.countCopy m (256 * m.dirty.length)).setMig m.again
      else s.lockMig m

/-- A granule's bytes and poison carried from one place to another. -/
def State.carry (s : State) (src dst : Nat) : State :=
  let a := src * Config.granule
  let b := dst * Config.granule
  let inSrc (k : Nat) := decide (a ≤ k) && decide (k < a + Config.granule)
  let inDst (k : Nat) := decide (b ≤ k) && decide (k < b + Config.granule)
  { s with
    mem := (s.mem.filter (fun c => inSrc c.1)).foldl (fun m c => AMap.set m (c.1 - a + b) c.2) (s.mem.filter (fun c => !inDst c.1))
    poison := (s.poison.filter (fun c => inSrc (32 * c.1))).foldl (fun m c => AMap.set m (c.1 - a / 32 + b / 32) ())
      (s.poison.filter (fun c => !inDst (32 * c.1))) }

/-- EXT of a RETIRE record (R564). -/
def retireExt (src dst : Nat) : Nat := src * 2 ^ 109 + dst % 2 ^ 19 * 2 ^ 90

/-- A retirement recorded and reported (R235, R236): the granule is offline for good. -/
def State.retired (s : State) (src dst : Nat) : State :=
  let h := src / 65536
  let t := (s.bump .hbmOffline 0 h).log .retire (retireExt src dst) true
  let t : State := { t with jay := { t.jay with retire := t.jay.retire.erase src, blocked := t.jay.blocked.erase src } }
  t.ev (Ev.hbmRetire h)

/-- A spare granule used as target (R236). -/
def State.useSpare (s : State) (dst : Nat) : State :=
  if 65536 - s.rd .hbmSpareGranules ≤ dst % 65536 then
    let h := dst / 65536
    let n := s.rd .hbmSpareFree 0 h - 1
    let t := s.wr .hbmSpareFree n 0 h
    if n = 0 then t.ev (Ev.hbmSpareLow h) else t
  else s

/-- The copy is done and the granule is remapped: the source forwards, the target serves. -/
def State.remap (s : State) (src : Nat) (es : List ReadErr) : State :=
  match s.migOf src with
  | none => s
  | some m =>
    if m.phase ≠ .locked ∨ ¬ (s.granuleRegions src).isEmpty ∨ s.coh.txns.any (fun t => t.active && granOf t.req.hpa == src) then s
    else
      let e := s.hgt src
      let k := s.newestKgen m.ptn
      let c := (s.countCopy m (256 * m.dirty.length)).copyErrs m.again es
      let s := c.1.carry src m.dst
      let bad := c.2.bad.map (· + m.dst * Config.granule)
      let s := s.setHgt m.dst { state := if m.gran.isSome then .mapped else .pool, owner := m.ptn, kgen := k
                                mac := s.rd .hbmLineCode 0 m.ptn == 1, rowrep := e.rowrep, rlive := e.rlive }
      let s := s.each bad (fun s u => s.poisonUnit (s.unit u) (u / s.unit u * s.unit u))
      let s := (s.bump .jayMigrations 0 m.ptn).complete m.item
      let s := if m.kind = .retire then (s.retired src m.dst).useSpare m.dst else s
      match m.gran with
      | none => ((s.setHgt src (if m.kind = .retire then { state := .offline } else s.idleHgt src)).dropMig src).pumped
      | some g =>
        let s := s.setHgt src { e with state := if m.kind = .retire then .offline else .forward, fwd := m.dst }
        let s := s.setDir m.ptn g { s.dirEntry m.ptn g with
          hgran := m.dst, tgran := m.dst, kgen := k, lastMove := s.beat.number.setWidth 16, mstate := .forward }
        let ws := match s.jay.windows.find src with
          | some l => AMap.set (s.jay.windows.erase src) m.dst l
          | none => s.jay.windows
        let w : State := { s with jay := { s.jay with windows := ws } }
        let t := (w.setMig { m with phase := .forward }).invalidate m.ptn g (s.receivers m.ptn) true false none [] (some src)
        (t.answerLockWait m.ptn g).pumped

/-- Commands that waited for a granule's migration (R257). -/
def State.runQueued (s : State) (p g : Nat) : State :=
  let mine : Queued → Bool
    | .unmap q h => q == p && h == g
    | .setFmt q h _ => q == p && h == g
  let l := s.jay.queued.filter mine
  let t : State := { s with jay := { s.jay with queued := s.jay.queued.filter (fun x => !mine x) } }
  t.each l (fun t x =>
    match x with
    | .unmap q h => if (t.dirEntry q h).valid then t.unmapNow q h (some jcDone) else t
    | .setFmt q h f => if (t.dirEntry q h).valid then t.setFmtNow q h f (some jcDone) else t)

/-- A sweep ends when no entry of the partition carries the old generation (R263). -/
def State.sweepLeft (s : State) (p old : Nat) : Bool :=
  (s.mappedOf p).any (fun x => x.2.kgen == old) || (s.jay.hgt.any (fun x => x.2.owner == p && x.2.kgen == old &&
    (x.2.state == .pool || x.2.state == .mapped || x.2.state == .locked || x.2.state == .forward)))

/-- Every acknowledgement has come: the source is FREE, or stays OFFLINE (R259, R265). -/
def State.migDone (s : State) (src : Nat) : State :=
  match s.migOf src, s.jay.inval.find? (fun i => i.source == some src) with
  | some m, some i =>
    if ¬ i.waiting.isEmpty then s
    else
      let g := i.gran
      let s := if m.kind = .retire then s.setHgt src { state := .offline } else s.setHgt src (s.idleHgt src)
      let s := s.setDir m.ptn g { s.dirEntry m.ptn g with mstate := .idle, tgran := 0 }
      let t : State := { s.dropMig src with jay := { (s.dropMig src).jay with inval := s.jay.inval.erase i } }
      t.runQueued m.ptn g
  | _, _ => s

/-- A migration ends without remap: the granule stays at its place, mapped and unlocked, and the target is free (R32, R262). -/
def State.cancelMig (s : State) (m : Mig) (counter : Reg) : State :=
  if m.phase = .forward then s
  else
    let e := s.hgt m.src
    let s := (s.bump counter 0 m.ptn).complete m.item
    let s := if e.state = .locked then s.setHgt m.src { e with state := if m.gran.isSome then .mapped else .pool } else s
    let s := (s.setHgt m.dst (s.idleHgt m.dst)).migDir m (fun d => { d with mstate := .idle, tgran := 0 })
    let s := (s.dropMig m.src).dropItems (fun d => d.kind == .migration m.src)
    match m.gran with
    | some g => ((s.answerLockWait m.ptn g).runQueued m.ptn g).pumped
    | none => s.pumped

/-- Migrations with a property cancelled (R262). -/
def State.cancelMigs (s : State) (q : Mig → Bool) : State :=
  s.each (s.jay.migs.filter q) (fun t m => t.cancelMig m .jayMigCancelled)

/-- A stack is source or target of a migration. -/
def Mig.touches (m : Mig) (h : Nat) : Bool := m.src / 65536 == h || m.dst / 65536 == h

/-- JAY_LOCK_MAX passes: the migration is abandoned (R260). -/
def State.abandon (s : State) (src : Nat) : State :=
  match s.migOf src with
  | some m => if m.phase = .locked then s.cancelMig m .jayMigAbandoned else s
  | none => s

/-! ## Invalidations acknowledged (R251, R257, R268) -/

/-- The transactions that waited for replicas go on (R268). -/
def State.rowsGone (s : State) (i : Inval) : State :=
  if i.rows ∧ ¬ i.xlate then
    let hg := (s.dirEntry i.ptn i.gran).place
    let t := s.setHgt hg { s.hgt hg with rlive := false }
    let src := (s.dirEntry i.ptn i.gran).hgran
    (t.setHgt src { t.hgt src with rlive := false }).pumped
  else s

def State.invalAcked (s : State) (e : Entry) (p g : Nat) : State :=
  match s.jay.inval.find? (fun i => i.ptn == p && i.gran == g && i.waiting.contains e) with
  | none => s
  | some i =>
    let i' := { i with waiting := i.waiting.erase e }
    if i'.waiting.isEmpty ∧ i.source.isNone then
      let t : State := { s with jay := { s.jay with inval := s.jay.inval.erase i } }
      let t := match i.code with
        | some c => t.jayResult p c
        | none => t
      t.rowsGone i
    else { s with jay := { s.jay with inval := s.jay.inval.map (fun j => if j = i then i' else j) } }

/-! ## Row-cache fills (R266) -/

/-- A replica tile acknowledges a fill. -/
def State.fillAcked (s : State) (t p block : Nat) : State :=
  let s1 : State := { s with jay := { s.jay with
    fills := s.jay.fills.filter (fun f => !(f.tile == t && f.ptn == p && f.block == block)) } }
  s1.pumped

/-- The slot of a block in its tile's row cache. -/
def State.rowSlot (s : State) (p block : Nat) : Nat := block % (4 * s.rd .tilRowcacheKib 0 p)

/-- A block sent to the replica tile of every plot of its owner that has a row cache. -/
def State.fillBlock (s : State) (hblock : Nat) : State :=
  let hg := hblock / 4096
  let e := s.hgt hg
  let p := e.owner
  match (s.mappedOf p).find? (fun x => x.2.hgran == hg) with
  | none => s
  | some x =>
    if s.rd .tilRowcacheKib 0 p = 0 then s
    else
      let block := 4096 * x.1 + hblock % 4096
      let ts := (s.plotsOf p).map (fun q => replicaTile q x.1)
      let t := s.each ts (fun t tile =>
        let key := 128 * tile + t.rowSlot p block
        { t.emit (.fill tile p block) with
          tile := { t.tile with rows := t.tile.rows.set key { ptn := p, block, data := t.bytes (hblock * 256) 256 } }
          jay := { t.jay with fills := t.jay.fills ++ [{ tile, ptn := p, block, hgran := hg }] } })
      if ts.isEmpty then t else t.setHgt hg { t.hgt hg with rlive := true }

/-- A block may be filled (R266): hot, not replicated, none of its lines in E, M or O, and not poisoned. -/
def State.fillable (s : State) (hblock : Nat) : Bool :=
  let p := (s.hgt (hblock / 4096)).owner
  (List.range 4).all (fun j =>
    let st := (s.lineF (4 * hblock + j)).st
    st == .i || st == .s) &&
  !(s.readsPoison (hblock * 256) 256) &&
  (match (s.mappedOf p).find? (fun x => x.2.hgran == hblock / 4096) with
   | some x => !(s.tile.rows.any (fun r => r.2.ptn == p && r.2.block == 4096 * x.1 + hblock % 4096))
   | none => false)

/-- The fills of a home agent at an edge, hottest first, and its table cleared. -/
def State.rowFills (s : State) (h : Nat) : State :=
  let l := sortBy (fun (e : Nat × Nat) => 2 ^ 32 - e.2) (s.jay.rowHot.get h [])
  let hot := (l.filter (fun e => decide (s.rd .jayRowHot ≤ e.2) && s.fillable e.1)).take (s.rd .jayRowFills)
  let t := s.each hot (fun t e => t.fillBlock e.1)
  { t with jay := { t.jay with rowHot := t.jay.rowHot.erase h } }

/-! ## The commands -/

def execJayPlacementPass (s : State) : Host.Outcome State Fault Refusal := .next s.placementPass

def execMigrationPassDone (src : Nat) (es : List ReadErr) (s : State) : Host.Outcome State Fault Refusal := .next (s.passDone src es)

def execMigrationRemap (src : Nat) (es : List ReadErr) (s : State) : Host.Outcome State Fault Refusal := .next (s.remap src es)

def execMigrationDone (src : Nat) (s : State) : Host.Outcome State Fault Refusal := .next (s.migDone src)

def execMigrationAbandon (src : Nat) (s : State) : Host.Outcome State Fault Refusal := .next (s.abandon src)

def execInvalidationAck (e : Entry) (p g : Nat) (s : State) : Host.Outcome State Fault Refusal := .next (s.invalAcked e p g)

def execRowFillAck (t p block : Nat) (s : State) : Host.Outcome State Fault Refusal := .next (s.fillAcked t p block)

end Sys2Proof.Machine
end

