-- ==== Sys2Proof/Machine/Memory.lean ====
section
/-! DEFINITION. The stacked memory: read data, repair and retirement, the patrol, refresh,
recalibration, quiesce and catastrophic temperature, and row caches that answer gathers (R206–R241, R267). -/

namespace Sys2Proof.Machine

/-! ## Read data (R214, R231, R234) -/

/-- Sectors of a read that lie in poisoned units. -/
def badSectors (size a n : Nat) (us : List Nat) : Nat :=
  (List.range (n / 32)).foldl (fun m i => if us.contains ((a + 32 * i) / size * size) then m + 2 ^ i else m) 0

/-- Read data returns from a stack for a transaction. -/
def State.readData (s : State) (h id : Nat) (es : List ReadErr) : State :=
  match s.coh.txns.find? (fun t => t.h == h && t.req.id == id && t.reading) with
  | none => s
  | some t =>
    let r := s.readErrs t.req.hpa true es
    let bad := badSectors (s.unit t.req.hpa) t.req.hpa t.req.len r.2
    let s := r.1.countRead t.req.hpa t.req.len
    if t.phase = .read then
      let t := { t with reading := false, poison := t.poison ||| bad }
      ((s.setTxn t).completeTxn t).pumped
    else s.setTxn { t with reading := false, memBad := bad }

/-! ## Repair and retirement (R233, R235, R236) -/

/-- EXT of a repair record (R564). -/
def repairExt (k : Nat) : Nat := rowStack k * 2 ^ 125 + rowPch k * 2 ^ 119 + rowBank k * 2 ^ 113 + k % 16384 * 2 ^ 99

/-- A repair resource of a bank used. -/
def State.useRepair (s : State) (k : Nat) : State :=
  let h := rowStack k
  let n := s.rd .hbmPprLeft 0 h - 1
  let t : State := { s.wr .hbmPprLeft n 0 h with hbm := { s.hbm with
    used := s.hbm.used.put (k / 16384) (s.hbm.used.get (k / 16384) 0 + 1) 0 } }
  if n = 0 then t.ev (Ev.hbmSpareLow h) else t

/-- The slots that a soft repair denies to owners are lost to them (R32, R233). -/
def State.denySlots (s : State) (k : Nat) : State :=
  s.each ((List.range 32).filter (fun p => s.formed p && s.slotsOwned (selHa (rowStack k)) p != 0)) (fun s p => s.loseSlots p (Config.repairSlots k p))

/-- A soft repair (R233): `lost` names the columns whose sector could not be corrected. A suspect row whose bank has no repair
resource left by now has its granule retired (R236). -/
def State.softRepair (s : State) (h pch bank row : Nat) (lost : List Nat) : State :=
  let k := rowNo h pch bank row
  let hg := rowGran k
  let e := s.hgt hg
  if ¬ s.hbm.suspect.contains k ∨ ¬ s.stackUp h ∨ (s.migOf hg).isSome ∨ e.state = .locked then s
  else if ¬ s.bankLeft k then
    { s with
      hbm := { s.hbm with suspect := s.hbm.suspect.erase k }
      jay := { s.jay with retire := if s.jay.retire.contains hg then s.jay.retire else s.jay.retire ++ [hg] } }
  else
    let moved := e.state = .free ∨ e.state = .offline ∨ e.state = .forward
    let s := if moved then s else s.each lost (fun s c =>
      let x := hpaOfCol h pch bank row (c % 32)
      s.poisonUnit (s.unit x) (x / s.unit x * s.unit x))
    let t : State := { s with hbm := { s.hbm with
      suspect := s.hbm.suspect.erase k, repaired := s.hbm.repaired.set k (), waiting := s.hbm.waiting ++ [k] } }
    let t := ((t.useRepair k).bump .hbmPprSoft 0 h).bump .hbmPprPending 0 h
    ((t.emit (.repair h pch bank row false)).log .repairSoft (repairExt k) true).denySlots k

/-- A granule to be retired (R236): a reserve or unowned one goes offline without migration, an owned one is declared for
migration. -/
def State.granuleRetire (s : State) (hg : Nat) : State :=
  if ¬ s.jay.retire.contains hg then s
  else
    let e := s.hgt hg
    match e.state with
    | .free | .reserve | .spare =>
      let t := (s.setHgt hg { state := .offline }).retired hg (2 ^ 19 - 1)
      if e.state = .spare then t.useSpare hg else t
    | _ => s.each (s.retirePlans.filter (fun q => q.src == hg)) State.plan1

/-! ## Quiesce and catastrophic temperature (R229, R230) -/

/-- Every request at a stack that has not been answered completes with poison. -/
def State.poisonAll (s : State) (h : Nat) : State :=
  let l := s.coh.txns.filter (fun t => t.h == h && t.phase != .grant)
  let s := s.orphan (fun n => l.any (fun t => n.why == .txn t.n))
  s.each l (fun s t => (s.dropTxn t).poisonAnswer h t.op t.req hsOk)

def stackQuiesced : Nat := 3
def stackCattrip : Nat := 4

/-- A stack is quiesced at an edge. -/
def State.quiesce (s : State) (h : Nat) : State :=
  if ¬ s.stackUp h then s
  else
    let s := (s.cancelMigs (fun m => m.touches h)).wr .hbmStackState stackQuiesced 0 h
    ((s.poisonAll h).emit (.selfRefresh h true)).ev (Ev.hbmQuiesce h)

/-- The stack's catastrophic-temperature output asserts. -/
def State.cattrip (s : State) (h : Nat) : State :=
  if s.rd .hbmStackState 0 h < stackReady ∨ s.rd .hbmStackState 0 h = stackCattrip then s
  else
    let s := (s.cancelMigs (fun m => m.touches h)).wr .hbmStackState stackCattrip 0 h
    let s := s.wr .hbmStacksPresent (clearBit (s.rd .hbmStacksPresent) h)
    (s.poisonAll h).ev (Ev.hbmCattrip h)

def State.temp (s : State) (h : Nat) : StackTemp := s.hbm.temps.get h {}

def State.setTemp (s : State) (h : Nat) (x : StackTemp) : State :=
  { s with hbm := { s.hbm with temps := s.hbm.temps.put h x {} } }

/-- Recalibration after a resume ends: the stack serves at throttle level 3. -/
def State.recalDone (s : State) (h : Nat) : State :=
  if (s.temp h).resuming then
    (((s.setTemp h { s.temp h with resuming := false }).wr .hbmStackState stackReady 0 h).wr .hbmThrottleLevel 3 0 h)
  else s

/-- The refresh commands of a round (R224). -/
def State.refreshRound (s : State) (h : Nat) : State :=
  if ¬ s.stackUp h then s
  else if s.rd .hbmRefreshRate 0 h = 0 then s.emit (.refresh h (8 * (s.beat.total % 8)) 8)
  else s.emit (.refresh h (16 * (s.beat.total % 4)) 16)

/-- The patrol reads and checks a unit (R239). It never decrypts and finds no MAC mismatch. A corrected sector is written back
as it was. -/
def State.patrol (s : State) (h hpa : Nat) (err : Option ReadErr) : State :=
  if ¬ s.stackUp h ∨ stackOf hpa ≠ h ∨ s.rd .hbmPatrolHours = 0 then s
  else
    let s := s.countRead hpa 32
    match err with
    | some e => (s.readErr (hpa / 32 * 32) false e).1
    | none => s

/-- Impedance and read timing recalibrated (R241). -/
def State.recal (s : State) (h : Nat) : State := if s.stackUp h then s.emit (.recalibrate h) else s

/-- A replica tile serves a gather from its row cache, or forwards it home (R267). A row with an uncorrectable error is
invalidated and read as a miss (R97). -/
def State.replicaGather (s : State) (t : Nat) (r : HomeReq) (e : TileErr) : State :=
  let block := (r.pgran * Config.granule + r.hpa % Config.granule) / 256
  let slot := 128 * t + s.rowSlot r.lab.ptn block
  match s.tile.rows.find slot with
  | some x =>
    if x.ptn = r.lab.ptn ∧ x.block = block then
      if e = .sramUe then
        (({ s with tile := { s.tile with rows := s.tile.rows.erase slot } } : State).tileUe r.lab.ptn t Ev.tilRowcacheUe).emit (.forward 5 r)
      else
        let s := if e = .sramCe then s.tileCe r.lab.ptn t Ev.tilSramCe else s
        let d := (x.data.drop (r.hpa % 256)).take r.len
        ((s.bump .jayRowHits 0 r.lab.ptn).emit (.rowHit t r.id d)).answerReq r.id hsOk 0 d 0
    else s.emit (.forward 5 r)
  | none => s.emit (.forward 5 r)

/-! ## The commands -/

def execRefreshRound (h : Nat) (s : State) : Host.Outcome State Fault Refusal := .next (s.refreshRound h)

def execStackReadData (h id : Nat) (es : List ReadErr) (s : State) : Host.Outcome State Fault Refusal := .next (s.readData h id es)

def execSoftRepair (h pch bank row : Nat) (lost : List Nat) (s : State) : Host.Outcome State Fault Refusal :=
  .next (s.softRepair h pch bank row lost)

def execGranuleRetire (hg : Nat) (s : State) : Host.Outcome State Fault Refusal := .next (s.granuleRetire hg)

def execStackRecalDone (h : Nat) (s : State) : Host.Outcome State Fault Refusal := .next (s.recalDone h)

def execMemoryPatrol (h hpa : Nat) (err : Option ReadErr) (s : State) : Host.Outcome State Fault Refusal := .next (s.patrol h hpa err)

def execHbmRecal (h : Nat) (s : State) : Host.Outcome State Fault Refusal := .next (s.recal h)

def execReplicaGather (t : Nat) (r : HomeReq) (e : TileErr) (s : State) : Host.Outcome State Fault Refusal := .next (s.replicaGather t r e)

end Sys2Proof.Machine
end

