-- ==== Sys2Proof/Machine/Partitions.lean ====
section
/-! DEFINITION. Partitions: formation, sealing, windows, contexts and their switches, resets, and Badger (R405–R425). -/

namespace Sys2Proof.Machine

def State.ptn (s : State) (p : Nat) : Ptn := s.ptns.get p {}

def State.setPtn (s : State) (p : Nat) (x : Ptn) : State := { s with ptns := s.ptns.put p x {} }

/-! ## PTN_CMD (R407) -/

def ptnForm : Nat := 1
def ptnSeal : Nat := 2
def ptnContextReset : Nat := 3
def ptnWarmReset : Nat := 4
def ptnFullReset : Nat := 5
def ptnDissolve : Nat := 6

/-- A refusal by the checks of R408 or R409 leaves its reason. -/
def State.ptnRefuse (s : State) (p op reason : Nat) : Answer := (stRange, s.wr .ptnCmdFault (256 * op + reason % 256) p)

/-- What every command is checked for: its partition, its role, its reserved bits, and the state that accepts it; after a
FATAL-HUB none is taken until the reset (R559), nor while the erasure for leaving FIELD runs (R470). -/
def State.ptnCmd (s : State) (role : Role) (p low : Nat) (roles : List Role) (accepted : Bool) (k : State → Answer) : Answer :=
  if 32 ≤ p then s.refuse stNotFound
  else if !roles.contains role then s.refuse stDenied
  else if field low 3 1 ≠ 0 ∨ 256 ≤ low then s.refuse stRange
  else if !accepted ∨ s.owl.fatalHub then s.refuse stBusy
  else if s.life.erasing.isSome then s.refuse stLocked
  else k s

/-! ## Granules -/

/-- Granule count of a partition at a stack. -/
def State.ptnGranules (s : State) (p h : Nat) : Nat := s.rdField .ptnGranules (32 * h + 31) (32 * h) p

/-- Every line of a granule written as zeros, and nothing of it poisoned (R217). -/
def State.zeroGranule (s : State) (hg : Nat) : State :=
  { s with
    mem := s.mem.filter (fun c => c.1 / Config.granule != hg)
    poison := s.poison.where (fun k _ => k * 32 / Config.granule != hg) }

/-- Granules that a partition owns. -/
def State.granulesOf (s : State) (p : Nat) : List Nat :=
  (s.jay.hgt.where (fun _ e => e.owner == p && (e.state == .pool || e.state == .mapped || e.state == .locked || e.state == .forward))).keys

/-- A granule written under R217 and POOL of a partition. -/
def State.poolGranule (s : State) (p hg : Nat) : State :=
  (s.zeroGranule hg).setHgt hg { state := .pool, owner := p, kgen := s.newestKgen p, mac := s.rd .hbmLineCode 0 p == 1 }

/-- `n` FREE granules of a stack, the lowest first, taken for a partition. -/
def State.takeFree : Nat → State → Nat → Nat → State
  | 0, s, _, _ => s
  | n + 1, s, p, h =>
    match s.firstFree h with
    | some hg => State.takeFree n (s.poolGranule p hg) p h
    | none => s

/-- Stacks over which the save and post areas are spread (R409). -/
def State.areaStacks (s : State) (p : Nat) : List Nat :=
  (List.range 8).filter (fun h => !(s.poolAt p h).isEmpty && decide (0 < s.slotsOwned (selHa h) p))

/-- The tiles of a partition in the order of R156. -/
def State.saveTiles (s : State) (p : Nat) : List Nat := s.tilesOf p

def saveRecord : Nat := 0x24000

/-- Bytes of the save area. -/
def State.saveBytes (s : State) (p : Nat) : Nat := s.rd .ptnCtxCount p * (36 * popCount (s.rd .ptnPlots p) 64) * saveRecord

/-- PPA granules of the save area and the post area. -/
def State.areaGranules (s : State) (p : Nat) : List Nat :=
  let base := s.rd .tilSaveBase 0 p / Config.granule
  let n := (s.saveBytes p + Config.granule - 1) / Config.granule
  let post := s.rd .ptnPostBase p / Config.granule
  (List.range n).map (base + ·) ++ (if base ≤ post ∧ post < base + n then [] else [post])

/-- One granule from each stack in turn, mapped and pinned. -/
def State.mapAreas (s : State) (p : Nat) : State :=
  let hs := s.areaStacks p
  ((s.areaGranules p).zipIdx).foldl (fun s (e : Nat × Nat) =>
    let turn := hs.drop (e.2 % max 1 hs.length) ++ hs.take (e.2 % max 1 hs.length)
    match s.takePool p turn with
    | some hg =>
      let t := s.mapGranule p e.1 hg 0
      t.setDir p e.1 { t.dirEntry p e.1 with pin := true }
    | none => s) s

/-- Home granules of the save area at a stack (R414). -/
def State.saveAt (s : State) (p h : Nat) : Nat :=
  let base := s.rd .tilSaveBase 0 p / Config.granule
  let n := (s.saveBytes p + Config.granule - 1) / Config.granule
  ((List.range n).filter (fun i => (s.dirEntry p (base + i)).valid && (s.dirEntry p (base + i)).hgran / 65536 == h)).length

/-- T_sw of R414 in ns, rounded up: 2,000 and the bytes moved twice over W, whose unit of 25.2 B/ns for a slot holds at 12.8 Gb/s and
scales with the pin rate (R208). Where a stack of the area gives the partition no slot, the bound is a free value. -/
def State.switchBound (s : State) (p : Nat) : Nat :=
  let hs := (List.range 8).filter (fun h => s.saveAt p h != 0)
  let total := hs.foldl (fun a h => a + s.saveAt p h) 0
  let slots (h : Nat) := s.slotsOwned (selHa h) p
  let bytes := 2 * (s.tilesOf p).length * (49152 + s.programBytes p)
  let rate := 8 + 2 * s.rd .hbmRate
  if hs.any (fun h => slots h == 0) then s.free.toNat
  else hs.foldl (fun a h =>
    let num := bytes * 1600 * s.saveAt p h
    let den := 2268 * rate * slots h * total
    max a (2000 + (num + den - 1) / den)) 2000

/-! ## Formation (R408) -/

/-- A plot with a failed tile is degraded (R101). -/
def State.degraded (s : State) (plot : Nat) : Bool := (plotTiles plot).any (fun t => (s.rd .tilFailed).testBit t)

/-- JAY_PTN_RANGE meets R243 and is not empty. -/
def State.rangeOk (s : State) (p : Nat) : Bool :=
  decide (1 ≤ s.dlen p) && decide (s.dbase p + s.dlen p ≤ Config.dirEntries) &&
  (List.range 32).all (fun q => q == p || !s.formed q || decide (s.dbase p + s.dlen p ≤ s.dbase q) || decide (s.dbase q + s.dlen q ≤ s.dbase p))

/-- The checks of R408. -/
def State.formOk (s : State) (p : Nat) : Bool :=
  (bitsOf (s.rd .ptnPlots p) 64).all (fun i => (s.plotOwner i).isNone && !s.test.tiles.testBit i && (!s.degraded i || s.rd .tilAcceptDegraded 0 p == 1))
  && (List.range 8).all (fun h => decide (s.reservedAt h + s.ptnGranules p h ≤ s.freeCount h))
  && s.rangeOk p && s.syncMapOk p (s.rd .colSyncMap 0 p)

/-- Per-partition counters (R408). -/
def ptnCounters : List Reg :=
  [.beatOverruns, .beatLostSlots, .tilCeCount, .tilUeCount, .tilHalts, .ariConvRefused, .tilWqDescriptors, .tilSvcRequests, .tilSvcBusy
   , .tilCkptDone, .tilCkptFailed, .nocTimeouts, .nocPtnCutFlits, .qosPtnBorrowed, .qosPtnRetries, .qosSysDemoted, .qosPtnAged
   , .hbmCeCount, .hbmUeCount, .jayMigrations, .jayMigCancelled, .jayMigAbandoned, .jayXlateRefused, .jayRowHits
   , .cohSnoops, .cohCapRecalls, .cohStaleWb, .cohTakedowns, .soxRetx, .soxCnpRx, .soxConnFailed, .colCompleted, .colAborted
   , .colStretched, .colWaitFull, .colSyncErrors, .secMacFails, .secRevocations, .hepWttMisses, .hepRefused]

def State.clearCounters (s : State) (p : Nat) : State :=
  let s := s.each ptnCounters (fun s r => s.clr r 0 p)
  ((s.clr .ptnSwitches p).clr .ptnIntrDropped p).clr .ptnResets p

/-- Tiles without configuration and strands (R408, R420). -/
def State.emptyTiles (s : State) (ts : List Nat) : State :=
  { s with tile := { s.tile with
      strands := s.tile.strands.where (fun k _ => !ts.contains (k / 512))
      cfg := s.tile.cfg.where (fun t _ => !ts.contains t)
      cfgId := s.tile.cfgId.where (fun t _ => !ts.contains t)
      refuse := s.tile.refuse.where (fun t _ => !ts.contains t)
      last := s.tile.last.where (fun t _ => !ts.contains t)
      yielded := s.tile.yielded.where (fun t _ => !ts.contains t)
      seq := s.tile.seq.where (fun t _ => !ts.contains t) } }

/-- Scratchpads zeroed, with the words that were marked bad there. -/
def State.zeroPads (s : State) (ts : List Nat) : State :=
  { s with tile := { s.tile with
      pad := s.tile.pad.where (fun t _ => !ts.contains t)
      bad := s.tile.bad.filter (fun (b : Nat × Nat × Nat) => !ts.contains b.1) } }

/-- Row caches of a partition emptied (R268, R420). -/
def State.emptyRows (s : State) (p : Nat) : State :=
  { s with
    tile := { s.tile with rows := s.tile.rows.where (fun _ b => b.ptn != p) }
    jay := { s.jay with
      hgt := s.jay.hgt.mapVal (fun _ (e : Hgt) => if e.owner = p then { e with rlive := false } else e)
      fills := s.jay.fills.filter (fun (f : Fill) => f.ptn != p) } }

/-- Tiles that fail are replaced by an unused and tested spare of their row (R100). -/
def State.useSpares (s : State) (p : Nat) : State :=
  s.each (s.tilesOf p) (fun s t =>
    let y := tileY t
    if (s.rd .tilFailed).testBit t ∧ s.rdField .tilSpareMap (8 * y + 7) (8 * y) = 0xFF ∧ (s.tile.spareBad.find y).isNone then
      (s.wrField .tilSpareMap (8 * y + 7) (8 * y) (tileX t)).wr .tilFailed (clearBit (s.rd .tilFailed) t)
    else s)

/-- Objects of a partition become COUNTER 0. -/
def State.resetObjs (s : State) (p : Nat) : State :=
  let l := s.objsOf p
  { s with sync := { s.sync with objs := s.sync.objs.where (fun n _ => !l.contains n) } }

/-- FORM (R408). A refusal's reason is not among those of R409: a free value. -/
def State.formPtn (s : State) (p : Nat) : Answer :=
  if !s.formOk p then (s.drawn).ptnRefuse p ptnForm (s.free.toNat % 256)
  else
    let plots := bitsOf (s.rd .ptnPlots p) 64
    let s : State := { s with plots := plots.foldl (fun (m : AMap Nat) i => m.set i p) s.plots }
    let s := ((s.emptyTiles (s.tilesOf p)).useSpares p).resetObjs p
    let s := s.clearCounters p
    let s : State := { s with
      jay := { s.jay with reserved := (List.range 8).foldl (fun (m : AMap Nat) h => m.put (8 * p + h) (s.ptnGranules p h) 0) s.jay.reserved }
      sql := { s.sql with formedSeq := s.sql.formedSeq.set p (s.rd .sqlSeq) } }
    let old (k : Nat) : Bool := (List.range 16).any (fun c => k == Reg.ariSrKey.key p c || k == Reg.ariSrEpoch.key p c)
    let s : State := { s with dict := { s.dict with shadow := s.dict.shadow.where (fun k _ => !old k), later := s.dict.later.where (fun k _ => !old k) } }
    let s := s.each (List.range 16) (fun s c => ((s.wr .ariSrKey s.free.toNat p c).wr .ariSrEpoch 0 p c).drawn)
    (stPending, (s.clr .ptnSealReq p).setPtnState p ptnFormed)

/-! ## The checks of a seal (R409) -/

/-- Ways that sealed partitions reserve. -/
def State.waysTaken (s : State) : Nat := s.coh.ways.foldl (fun n e => n + e.2.length) 0

def State.sealWays (s : State) (p : Nat) : Nat := if s.sealedMode p then s.rd .cohSfWays 0 p else 0

/-- Active entries of a table. -/
def State.activeTable (s : State) (sel : Nat) : List SlotEntry := (List.range 128).map (fun k => slotEntryOf (s.slotWord sel k))

/-- Conditions 3, 4 and 9 of R196 for a partition in the active tables. -/
def State.sealSlots (s : State) (p : Nat) : Bool :=
  !s.sealedMode p ||
  allTables.all (fun sel =>
    let t := s.activeTable sel
    (List.range 128).all (fun k => match t[k]? with
      | some e => !(e.kind == 1 && e.ptn == p) || ((selKind sel != 0 || decide (8 ≤ runLength t k)) && (!isInjector sel || e.dest != destAny))
      | none => true)
    && (selKind sel != 0 || s.ptnGranules p (selNum sel) == 0 || t.any (fun e => e.kind == 1 && e.ptn == p)))

/-- The HTL level that R294 yields: the lowest of the bound sites'; none where a site has none. -/
def State.sealLevel (s : State) (p : Nat) : Option Nat :=
  let ls := (s.sitesOf p).map (fun k => s.rd .uciHtlLevel k)
  if ls.any (· == 0) then none else some (match ls with
    | [] => 0
    | l :: r => r.foldl min l)

/-- An entry of R410 is well formed. -/
def State.windowOk (s : State) (p v : Nat) (isImport : Bool) : Bool :=
  let w := windowOf v
  !w.valid || (field v 48 0 == 0 && decide (1 ≤ w.count) && w.peer != p && decide (w.exGran + w.count ≤ 2 ^ 28) &&
    (if isImport then decide (s.dlen p ≤ w.imGran) && decide (w.imGran + w.count ≤ 2 ^ 28) else w.imGran == 0))

/-- Granules of the hub reserve that a mirror queue may take, from the present stacks in turn (R374). -/
def State.mirrorGranules (s : State) : List Nat :=
  let taken := s.sox.queues.flatMap (fun (e : Nat × List Nat) => e.2)
  let reserve := s.rd .hbmHubReserve
  let hs := (List.range 8).filter (fun h => decide (2 ≤ s.rd .hbmStackState 0 h))
  let n := s.rd .soxMirrorQueueMib
  ((List.range (reserve - 16)).flatMap (fun i => hs.map (fun h => h * 65536 + s.available + 16 + i))).filter (fun g => !taken.contains g) |>.take n

/-- The first check of R409 that fails. -/
def State.sealFault (s : State) (p : Nat) : Nat :=
  if 14 < s.waysTaken + s.sealWays p then 1
  else if !s.sealSlots p then 2
  else if (s.sitesOf p).any (fun k => !s.admits p k) ∨ (s.sealLevel p).isNone then 3
  else if s.rd .tilSaveBase 0 p % Config.granule ≠ 0 ∨ s.dlen p * Config.granule < s.rd .tilSaveBase 0 p + s.saveBytes p then 4
  else if s.rd .ptnPostBase p % 1024 ≠ 0 ∨ s.dlen p * Config.granule < s.rd .ptnPostBase p + 1024 then 5
  else if !(List.range 8).all (fun w => s.windowOk p (s.rd .ptnWindow p w) true && s.windowOk p (s.rd .ptnExport p w) false) then 6
  else if s.rd .ptnPlots p = 0 ∨ (List.range 8).all (fun h => s.ptnGranules p h == 0) then 7
  else if s.rd .soxMirror 0 p = 1 ∧ s.mirrorGranules.length < s.rd .soxMirrorQueueMib then 8
  else 0

/-! ## Sealing -/

/-- The seal takes effect: SEALING. -/
def State.sealPtn (s : State) (p : Nat) : State :=
  let free := ((List.range 16).reverse.filter (fun w => s.coh.ways.all (fun e => !e.2.contains w))).take (s.sealWays p)
  let s : State := if s.sealedMode p then { s with coh := { s.coh with ways := s.coh.ways.set p free } } else s
  let s := s.each (s.coh.regions.where (fun _ x => free.contains x.way && x.ptn != p)).keys State.recallRegion
  let level := (s.sealLevel p).getD 0
  let s := s.each (s.sitesOf p) (fun s k =>
    let t := ((s.wr .htlPtnLevel level k p).wr .uciCohRole (s.roleFor p k) k p)
    t.setSite k { t.site k with proto := s.rd .uciProtocol k })
  let s : State := if s.rd .soxMirror 0 p = 1 then { s with sox := { s.sox with queues := s.sox.queues.set p s.mirrorGranules } } else s
  let s := ((s.wr .secMemKgen 0 0 p).drawKey (slotMem p 0)).drawKey (slotPak p)
  let s := s.wr .secPakDigest (Config.digest [((s.keySlot (slotPak p)).map KeySlot.material).getD 0]) 0 p
  (s.setPtn p { s.ptn p with writing := true }).setPtnState p ptnSealing

/-- SEAL (R409). -/
def State.sealCmd (s : State) (role : Role) (p : Nat) : Answer :=
  let req := setBit (s.rd .ptnSealReq p) (if role = .tenant then 1 else 0)
  if req ≠ 3 then (stPending, s.wr .ptnSealReq req p)
  else if s.sealFault p ≠ 0 then (s.wr .ptnSealReq 0 p).ptnRefuse p ptnSeal (s.sealFault p)
  else (stPending, (s.wr .ptnSealReq 3 p).sealPtn p)

/-- The recalls from newly reserved ways have ended (R330). -/
def State.waysClear (s : State) (p : Nat) : Bool :=
  match s.coh.ways.find p with
  | some ws => s.coh.regions.all (fun e => e.2.ptn == p || !ws.contains e.2.way)
  | none => true

/-- The last granule is written: granules are POOL, the save and post areas mapped; at the next edge the state is SEALED. -/
def State.sealDone (s : State) (p : Nat) : State :=
  let x := s.ptn p
  if s.ptnState p ≠ ptnSealing ∨ ¬ x.writing ∨ !s.waysClear p then s
  else
    let s := s.each (List.range 8) (fun s h => State.takeFree (s.ptnGranules p h) s p h)
    let s : State := { s with jay := { s.jay with reserved := s.jay.reserved.where (fun k _ => k / 8 != p) } }
    let s := s.mapAreas p
    ((s.wr .ptnSwitchBound (s.switchBound p) p).drawn).setPtn p { x with writing := false, atEdge := some ptnSealed }

/-! ## Windows (R410) -/

/-- The export entry of a partition that answers an import entry. -/
def State.exportFor (s : State) (p : Nat) (w : Window) : Option Nat :=
  (List.range 8).find? (fun i =>
    let x := windowOf (s.rd .ptnExport w.peer i)
    x.valid && x.peer == p && x.exGran == w.exGran && x.count == w.count && x.write == w.write)

/-- The exporter's granules of a window. -/
def State.windowGranules (s : State) (w : Window) : List Nat :=
  ((List.range w.count).map (w.exGran + ·)).filterMap (fun g =>
    let e := s.dirEntry w.peer g
    if g < s.dlen w.peer ∧ e.valid then some g else none)

/-- Room in the window tables of the home agents, 256 entries each. -/
def State.windowRoom (s : State) (hgs : List Nat) : Bool :=
  (List.range 8).all (fun h =>
    decide ((((s.jay.windows.keys ++ hgs).eraseDups).filter (fun g => g / 65536 == h)).length ≤ 256))

/-- Import entry `i` of a partition opens where both sides agree, are sealed, and every granule is mapped. -/
def State.openWindow (s : State) (p i : Nat) : State :=
  let w := windowOf (s.rd .ptnWindow p i)
  if ¬ w.valid ∨ (s.rd .ptnWindowState p).testBit i ∨ s.ptnState p ≠ ptnSealed ∨ s.ptnState w.peer ≠ ptnSealed then s
  else
    match s.exportFor p w with
    | none => s
    | some j =>
      let gs := s.windowGranules w
      let hgs := gs.map (fun g => (s.dirEntry w.peer g).place)
      if gs.length ≠ w.count ∨ !s.windowRoom hgs then s
      else
        let s := s.each gs (fun s g => s.setDir w.peer g { s.dirEntry w.peer g with pin := true })
        let s : State := { s with jay := { s.jay with windows := hgs.foldl (fun (m : AMap (List Nat)) hg =>
          m.set hg ((m.get hg []).filter (· != p) ++ [p])) s.jay.windows } }
        (s.wr .ptnWindowState (setBit (s.rd .ptnWindowState p) i) p).wr .ptnWindowState (setBit (s.rd .ptnWindowState w.peer) (8 + j)) w.peer

/-- Windows that a seal opens: the imports of the partition, and those of others from it. -/
def State.openWindows (s : State) (p : Nat) : State :=
  let s := s.each (List.range 256) (fun s n =>
    if n / 8 = p ∨ (windowOf (s.rd .ptnWindow (n / 8) (n % 8))).peer = p then s.openWindow (n / 8) (n % 8) else s)
  s.remeasureAll

/-- One import window closed. -/
def State.closeWindow (s : State) (p i : Nat) : State :=
  let w := windowOf (s.rd .ptnWindow p i)
  let hgs := (s.windowGranules w).map (fun g => (s.dirEntry w.peer g).place)
  let still (hg : Nat) : Bool := (List.range 8).any (fun j =>
    let v := windowOf (s.rd .ptnWindow p j)
    j != i && (s.rd .ptnWindowState p).testBit j && ((s.windowGranules v).map (fun g => (s.dirEntry v.peer g).place)).contains hg)
  let s : State := { s with jay := { s.jay with windows := hgs.foldl (fun (m : AMap (List Nat)) hg =>
    if still hg then m else m.put hg ((m.get hg []).filter (· != p)) []) s.jay.windows } }
  let s := match s.exportFor p w with
    | some j => s.wr .ptnWindowState (clearBit (s.rd .ptnWindowState w.peer) (8 + j)) w.peer
    | none => s
  (s.wr .ptnWindowState (clearBit (s.rd .ptnWindowState p) i) p).cachesFlush w.peer

/-- The windows of a partition close on either side. -/
def State.closeWindows (s : State) (p : Nat) : State :=
  let s := s.each (List.range 256) (fun s n =>
    let q := n / 8
    if (s.rd .ptnWindowState q).testBit (n % 8) ∧ (q = p ∨ (windowOf (s.rd .ptnWindow q (n % 8))).peer = p) then s.closeWindow q (n % 8) else s)
  s.remeasureAll

/-! ## Contexts (R411–R413, R418) -/

/-- Nothing runs. -/
def ctxNone : Nat := 0xFF

/-- The first context to run when scheduling starts: the lowest enabled one. -/
def State.firstCtx (s : State) (p : Nat) : Nat := (bitsOf (s.rd .ptnCtxEnable p) 16).headD 0

/-- A context is runnable: an unread or held descriptor in an enabled queue or ring of its own, or a posted interrupt (R411). -/
def State.runnable (s : State) (p c : Nat) : Bool :=
  (List.range 64).any (fun q =>
    let w := s.wq p q
    (s.wqCfg p q).enable && (s.wqCfg p q).ctx == c && (w.head != w.tail || !w.descs.isEmpty))
  || ((s.ringCfg p).enable && (s.ringCfg p).ctx == c &&
      ((s.ring p).head != (s.ring p).tail || (List.range 16).any (fun g => (s.group p g).coll.isSome)))
  || (match s.readPpa p (s.postAddr p c) 64 with
      | some (b, _) => b.any (· != 0)
      | none => false)

/-- The context that follows in ascending number with wrap, enabled and runnable. -/
def State.nextCtx (s : State) (p : Nat) : Option Nat :=
  let now := s.rd .ptnCtxRunning p
  ((List.range 16).map (fun i => (now + 1 + i) % 16)).find? (fun c =>
    c != now && (s.rd .ptnCtxEnable p).testBit c && decide (c < s.rd .ptnCtxCount p) && s.runnable p c)

def isSwitch (d : Declaration) : Bool :=
  match d.kind with
  | .switch _ => true
  | _ => false

/-- A switch of a partition is pending or in progress. -/
def State.switching (s : State) (p : Nat) : Bool :=
  (s.ptn p).switch.isSome || s.beat.decls.any (fun d => d.decl.ptn == some p && isSwitch d.decl)
    || s.beat.admitted.any (fun d => d.decl.ptn == some p && isSwitch d.decl)

def switchDecl (p c : Nat) (target : Option (BitVec 48)) : Declaration :=
  { kind := .switch c, ptn := some p, ctx := c, target, defer := true, abort := false }

/-- A quantum has ended, or the running context's bit was cleared. -/
def State.quantumOver (s : State) (p : Nat) : Bool :=
  decide ((s.ptn p).since.toNat + s.rd .ptnCtxQuantum p ≤ s.beat.number.toNat + 1)
    || !(s.rd .ptnCtxEnable p).testBit (s.rd .ptnCtxRunning p)

/-- The scheduler at an edge: a switch declared for the next edge, or the host asked (R411, R412). -/
def State.schedule (s : State) (p : Nat) : State :=
  if s.ptnState p ≠ ptnSealed ∨ s.switching p ∨ s.rd .ptnCtxRunning p = ctxNone then s
  else if s.rd .ptnCtxSchedMode p = 1 then
    let due := decide ((s.ptn p).since.toNat + s.rd .ptnCtxQuantum p ≤ s.beat.number.toNat)
    if due ∧ (s.ptn p).asked.isNone then
      (s.setPtn p { s.ptn p with asked := some s.beat.number }).raiseVector p (s.rd .ptnSchedVector p)
    else s
  else if s.quantumOver p then
    match s.nextCtx p with
    | some c => s.declare (switchDecl p c none)
    | none => s
  else s

/-- PTN_CTX_NEXT (R412). -/
def State.ctxNextWrite (s : State) (role : Role) (p v : Nat) : Answer :=
  let c := field v 51 48
  let b := field v 47 0
  let now := s.beat.number.toNat
  if 32 ≤ p then s.refuse stNotFound
  else if !mayWrite [.n, .n, .b, .n, .b] role then s.refuse stDenied
  else if field v 63 52 ≠ 0 ∨ ¬ (s.rd .ptnCtxEnable p).testBit c ∨ b ≤ now ∨ (s.beat.cutoff ∧ b = now + 1 + s.beat.skip) ∨ s.switching p then
    s.refuse stRange
  else
    (stOk, ((s.wr .ptnCtxNext v p).setPtn p { s.ptn p with asked := none }).declare (switchDecl p c (some (BitVec.ofNat 48 b))))

/-- No decision within PTN_CTX_DEADLINE beats: the running context goes on for a quantum, and the miss is reported. -/
def State.schedMiss (s : State) (p : Nat) : State :=
  match (s.ptn p).asked with
  | none => s
  | some b =>
    if s.beat.number.toNat < b.toNat + s.rd .ptnCtxDeadline p then s
    else (s.setPtn p { s.ptn p with asked := none, since := s.beat.number }).ev Ev.ptnSchedMiss (some p)

/-- Cycle 0 of the edge of a switch: the outgoing context stops (R413). -/
def State.beginSwitch (s : State) (p dst : Nat) (item : Option Nat) : State :=
  let out := s.rd .ptnCtxRunning p
  let src := if out = ctxNone then none else some out
  let s := s.expireWaiters (fun w => w.src.lab.ptn == p && src == some w.src.lab.ctx && w.src.entry != .host)
  let ts := s.tilesOf p
  (s.setPtn p { s.ptn p with switch := some { src, dst, begun := true, saving := ts, restoring := [], item }, asked := none }).wr .ptnCtxRunning
    ctxNone p

/-- A record of a context on a tile (R156). -/
def State.recordPpa (s : State) (p c t : Nat) : Nat :=
  let ts := s.saveTiles p
  s.rd .tilSaveBase 0 p + (c * ts.length + ts.idxOf t) * saveRecord

def StrandState.code : StrandState → Nat
  | .ready => 1
  | .waitMem => 3
  | .waitSync => 4
  | .waitCredit => 5
  | .halted => 6

/-- The 64 B of a strand (R90). -/
def Strand.bytes (x : Strand) : List Byte :=
  toLe 8 (x.stage * 2 ^ 58 + x.st.code * 2 ^ 55 + (if x.zf then 2 ^ 54 else 0) + (if x.nf then 2 ^ 53 else 0) + (if x.rch then 2 ^ 52 else 0)
    + x.pending * 2 ^ 44 + x.status * 2 ^ 40 + x.item) ++ (List.range 7).flatMap (fun i => toLe 8 (x.reg i).toNat)

/-- Bytes written at a PPA range, in the partition's own granules. -/
def State.writeSpan (s : State) (p ppa : Nat) (d : List Byte) : State :=
  s.each (granuleParts ppa d.length) (fun s (e : Nat × Nat) => s.writePpa p e.1 ((d.drop (e.1 - ppa)).take e.2))

/-- The configuration store of a tile. -/
def State.storeBytes (s : State) (t : Nat) : List Byte :=
  match s.tile.cfg.find t with
  | some m => sparseBytes m 0 0x4000
  | none =>
    match s.tile.cfgId.find t with
    | some i => (List.range 0x4000).map (Config.stockByte (i % 256))
    | none => List.replicate 0x4000 0

/-- A tile's record is written (R413 step 2). -/
def State.saveTile (s : State) (p c t : Nat) : State :=
  let strands := (List.range 512).flatMap (fun n => match s.strand t n with
    | some x => x.bytes
    | none => List.replicate 64 0)
  let links := (s.strandsOf t).map (fun (e : Nat × Strand) =>
    ({ ctx := c, tile := t, n := e.1, queue := e.2.queue, desc := e.2.desc, limit := e.2.limit, order := e.2.order, seq := e.2.seq } : StrandLink))
  let x := s.ptn p
  let s := s.writeSpan p (s.recordPpa p c t) (strands ++ s.storeBytes t ++ s.padBytes t 0 (s.programBytes p))
  s.setPtn p { x with
    links := x.links.filter (fun l => !(l.ctx == c && l.tile == t)) ++ links
    cfgIds := match s.tile.cfgId.find t with
      | some i => x.cfgIds.set (2304 * c + t) i
      | none => x.cfgIds.erase (2304 * c + t) }

/-- The tile's trackers are empty (R103). -/
def State.tileIdle (s : State) (t : Nat) : Bool := (s.trackersAt (.tile t)).isEmpty

/-- A tile's save is written, and its restore begins (R413). -/
def State.saveDone (s : State) (p t : Nat) : State :=
  let x := s.ptn p
  match x.switch with
  | none => s
  | some w =>
    if ¬ w.saving.contains t ∨ !s.tileIdle t then s
    else
      let s := match w.src with
        | some c => if w.dropped then s else s.saveTile p c t
        | none => s
      let s := s.emptyTiles [t]
      let x := s.ptn p
      let w := { w with saving := w.saving.filter (· != t), restoring := w.restoring ++ [t] }
      let saved := match w.src with
        | some c => if w.saving.isEmpty then (x.saved.filter (· != c)) ++ (if w.dropped then [] else [c]) else x.saved
        | none => x.saved
      s.setPtn p { x with switch := some w, saved }

def stateOfCode : Nat → Option StrandState
  | 1 => some .ready
  | 2 => some .ready
  | 3 => some .waitMem
  | 4 => some .waitSync
  | 5 => some .waitCredit
  | 6 => some .halted
  | _ => none

/-- A restored strand; a control word with STATE 7 or a reserved bit halts its strand (R157). -/
def State.restoreStrand (s : State) (p c t n : Nat) (b : List Byte) : State :=
  let w := leNat (b.take 8)
  let link := ((s.ptn p).links.find? (fun (l : StrandLink) => l.ctx == c && l.tile == t && l.n == n)).getD
    { ctx := c, tile := t, n, queue := 0, desc := 0, limit := none, order := 0 }
  let bad := decide (field w 57 55 = 7) || field w 39 32 != 0
  if field w 57 55 = 0 ∧ ¬ bad then s
  else
    let x : Strand :=
      { stage := field w 63 58, st := (stateOfCode (field w 57 55)).getD .ready, zf := w.testBit 54, nf := w.testBit 53, rch := w.testBit 52
        pending := 0, status := field w 43 40, item := field w 31 0
        regs := (List.range 7).map (fun i => BitVec.ofNat 64 (leNat ((b.drop (8 + 8 * i)).take 8)))
        limit := link.limit, order := link.order, seq := link.seq, queue := link.queue, desc := link.desc }
    let s := s.setStrand t n x
    if bad then s.haltStrand t n haltAbort else s.settleStrand t n

/-- A tile restored from a record (R157). -/
def State.restoreTile (s : State) (p c t : Nat) : State :=
  match s.readSpan p (s.recordPpa p c t) (0xC000 + s.programBytes p) with
  | none => s
  | some (b, _) =>
    let store := (b.drop 0x8000).take 0x4000
    let id := (s.ptn p).cfgIds.find (2304 * c + t)
    let stock : Bool := match id with
      | some i => decide (0xFF00 ≤ i) && store == (List.range 0x4000).map (Config.stockByte (i % 256))
      | none => false
    let empty := id.isNone && store.all (· == 0)
    let ok := stock || empty || configOk (s.programBytes p / 64) (sparseOf store)
    let s : State := { s with tile := { s.tile with
      cfg := if !ok || stock || empty then s.tile.cfg.erase t else s.tile.cfg.set t (sparseOf store)
      cfgId := match id with
        | some i => if ok then s.tile.cfgId.set t i else s.tile.cfgId.erase t
        | none => s.tile.cfgId.erase t
      pad := s.tile.pad.set t (sparseOf (b.drop 0xC000) ++ ((s.tile.pad.get t []).where (fun a _ => decide (s.programBytes p ≤ a)))) } }
    let s := s.each (List.range 512) (fun s n => s.restoreStrand p c t n ((b.drop (64 * n)).take 64))
    if ok then s else (s.haltTile haltAbort t).ev Ev.tilRestoreBad (some p) (Config.detail [t])

/-- Posted interrupts of the incoming context delivered, in ascending order (R418). -/
def State.deliverPosts (s : State) (p c : Nat) : State :=
  match s.readPpa p (s.postAddr p c) 64 with
  | some (b, _) =>
    let v := leNat b
    (s.writePpa p (s.postAddr p c) (List.replicate 64 0)).each (bitsOf v 512) (fun s i => s.deliver p i)
  | none => s

/-- A tile has restored; when every tile has, the incoming context runs (R413 steps 3 and 4). -/
def State.restoreDone (s : State) (p t : Nat) : State :=
  let x := s.ptn p
  match x.switch with
  | none => s
  | some w =>
    if ¬ w.restoring.contains t then s
    else
      let s := if x.saved.contains w.dst then s.restoreTile p w.dst t else s
      let w := { w with restoring := w.restoring.filter (· != t) }
      if !w.saving.isEmpty ∨ !w.restoring.isEmpty then s.setPtn p { s.ptn p with switch := some w }
      else
        let s := (s.setPtn p { s.ptn p with switch := none, since := s.beat.number }).wr .ptnCtxRunning w.dst p
        let s := match w.item with
          | some id => s.complete id
          | none => s
        (s.bump .ptnSwitches p).deliverPosts p w.dst

/-! ## Resets (R419–R423) -/

def ResetKind.rank : ResetKind → Nat
  | .warm => 0
  | .full => 1
  | .dissolve => 2

/-- CTRL RESET on every connection of a partition, and each is CLOSED. -/
def State.resetConns (s : State) (p : Nat) : State :=
  s.each (s.connsOf p) (fun s n =>
    match s.conn n with
    | some c =>
      let t := s.sendCtl n c 2 sftCtrl (ctrlExt ctrlReset n 0) []
      t.closeConn n c msgNoConn
    | none => s)

/-- Pending and posted interrupts cancelled: of a context, or all. -/
def State.cancelIntr (s : State) (p : Nat) (ctx : Option Nat) : State :=
  match ctx with
  | some c =>
    let keep := (bitsOf (s.rd .ptnIntrPend p) 512).filter (fun v => (s.vecMap p v).ctx != c)
    (s.wr .ptnIntrPend (keep.foldl (fun m v => setBit m v) 0) p).writePpa p (s.postAddr p c) (List.replicate 64 0)
  | none =>
    let s : State := { s with hep := { s.hep with msixPend := s.hep.msixPend.where (fun k _ => k / 2048 != p + 1) } }
    (s.wr .ptnIntrPend 0 p).writePpa p (s.rd .ptnPostBase p) (List.replicate 1024 0)

/-- Descriptors in progress of the queues of a context, or of all, ABORTED. -/
def State.abortQueues (s : State) (p : Nat) (ctx : Option Nat) : State :=
  s.each (List.range 64) (fun s q =>
    if ctx.isNone ∨ ctx = some (s.wqCfg p q).ctx then s.each (s.wq p q).descs (State.abortDesc · p q false) else s)

/-- Queues and ring disabled (R420). -/
def State.disableQueues (s : State) (p : Nat) : State :=
  let s := s.each (List.range 64) (fun s q => s.wr .tilWqCfg (clearBit (s.rd .tilWqCfg p q) 86) p q)
  s.wr .colRingCfg (clearBit (s.rd .colRingCfg 0 p) 86) 0 p

/-- Chiplets bound to no other partition. -/
def State.ownChiplets (s : State) (p : Nat) : List Nat := (s.sitesOf p).filter (fun k => s.sharing k == 1)

/-- A reset of a kind begins (R421 step 1). -/
def State.startPtnReset (s : State) (p : Nat) (k : ResetKind) (chiplets : Bool) : State :=
  let x := s.ptn p
  let s := (s.grantEnd p).exportEndOf p xpAborted
  let s : State := { s with sec := { s.sec with nextGrants := s.sec.nextGrants.erase p, imports := s.sec.imports.erase p } }
  let s := s.cancelMigs (fun m => m.ptn == p)
  let s := (s.collReset p none).resetConns p
  let s := (s.abortAll p).abortQueues p none
  let s := s.endWaiters (fun w => w.src.lab.ptn == p) (fun s w => s.syncAbort w.src)
  let s := s.cancelIntr p none
  let s := (s.abortTxns p).each (s.regionsOf p) State.recallRegion
  let s : State := { s with
    ckpt := s.ckpt.erase p, svc := s.svc.erase p
    col := { s.col with paused := s.col.paused.erase p, credits := s.col.credits.filter (fun c => c.ptn != p) }
    beat := { s.beat with
      decls := s.beat.decls.filter (fun d => d.decl.ptn != some p)
      admitted := s.beat.admitted.filter (fun d => d.decl.ptn != some p)
      items := s.beat.items.filter (fun d => d.decl.ptn != some p) } }
  let s := if chiplets ∧ k = .warm then s.each (s.ownChiplets p) State.startReset else s
  let s := if k = .dissolve then s else s.bumpWord .ptnResets (if k = .warm then 1 else 2) p
  let s := s.setPtn p { x with switch := none, asked := none, reset := some k, chiplets, drained := false, atEdge := none, writing := false
                               ctxReset := none }
  (s.wr .ptnCtxRunning ctxNone p).setPtnState p ptnResetting

/-- The drain has ended: no request of the partition is outstanding, and its domain is recalled. -/
def State.resetDrained (s : State) (p : Nat) : Bool :=
  s.noc.trackers.all (fun e => e.2.lab.ptn != p || e.2.timedOut || e.2.entry == .hub) && (s.regionsOf p).isEmpty
    && s.coh.txns.all (fun t => t.req.lab.ptn != p)

/-- Step 3: completion records ABORTED are written, tiles are held and empty, translations are invalid. -/
def State.drainEnd (s : State) (p : Nat) : State :=
  let x := s.ptn p
  match x.reset with
  | none => s
  | some k =>
    if s.ptnState p ≠ ptnResetting ∨ x.drained ∨ !s.resetDrained p then s
    else
      let s := if k = .dissolve then s
        else s.each (List.range 64) (fun s q => s.each (s.wq p q).descs (fun s _ => s.completeDesc p q))
      let s := s.disableQueues p
      let ts := s.tilesOf p
      let s := ((s.emptyTiles ts).emptyRows p).cachesFlush p
      let s : State := { s with heldTiles := ts.foldl (fun (m : AMap Unit) t => m.set t ()) s.heldTiles }
      s.setPtn p { s.ptn p with drained := true, saved := [], links := [], cfgIds := [] }

/-- A context reset (R420): its end waits for the coming edge. -/
def State.contextReset (s : State) (p c : Nat) : State :=
  let x := s.ptn p
  let s := s.grantEnd p
  let runs := s.rd .ptnCtxRunning p = c
  let s := if runs then s.abortAll p else s
  let s := s.abortQueues p (some c)
  let s := s.endWaiters (fun w => w.src.lab.ptn == p && w.src.lab.ctx == c) (fun s w => s.syncAbort w.src)
  let s := (s.cancelIntr p (some c)).collReset p (some c)
  let sw := x.switch.map (fun (w : Switch) => if w.src = some c then { w with dropped := true } else w)
  let s := match x.switch with
    | some w => if w.dst = c then s.emptyTiles ((s.tilesOf p).filter (fun t => !w.saving.contains t && !w.restoring.contains t)) else s
    | none => s
  (s.bumpWord .ptnResets 0 p).setPtn p { s.ptn p with saved := x.saved.filter (· != c), switch := sw, ctxReset := if runs then some c else none }

/-- WARM_RESET, FULL_RESET and DISSOLVE in the states that accept them, and a stronger kind during a weaker one (R423). -/
def State.resetCmd (s : State) (p : Nat) (k : ResetKind) (chiplets : Bool) : Answer :=
  let x := s.ptn p
  match x.reset with
  | some old =>
    if k.rank ≤ old.rank then s.refuse stBusy
    else
      let st := s.ptnState p
      let t := s.setPtn p { x with reset := some k, atEdge := none }
      (stPending, if k = .dissolve ∧ st = ptnScrubbing then t.setPtnState p ptnDissolving else t)
  | none => (stPending, s.startPtnReset p k chiplets)

/-- A reset that the hub itself calls for; absorbed by one in progress that is as strong. A partition that no seal has completed has
nothing that a warm or full reset restores. -/
def State.resetPtn (s : State) (p : Nat) (k : ResetKind) (chiplets : Bool) : State :=
  let st := s.ptnState p
  if st = ptnFree ∨ (k ≠ .dissolve ∧ (st = ptnFormed ∨ st = ptnSealing)) then s else (s.resetCmd p k chiplets).2

/-! ## Badger (R424) -/

/-- Badger begins at the edge that follows the drain: windows close, a key is drawn, tiles are zeroed. -/
def State.scrubStart (s : State) (p : Nat) (k : ResetKind) : State :=
  let s := (s.closeWindows p).drawKey (slotScrub p)
  let s := s.zeroPads (s.tilesOf p)
  (s.wr .ptnScrubLeft (s.granulesOf p).length p).setPtnState p (if k = .full then ptnScrubbing else ptnDissolving)

/-- Directory entries of a partition invalid. -/
def State.dropDir (s : State) (p : Nat) : State :=
  let b := s.dbase p
  let n := s.dlen p
  { s with jay := { s.jay with
      dir := s.jay.dir.where (fun k _ => decide (k < b) || decide (b + n ≤ k))
      misses := s.jay.misses.erase p, posting := s.jay.posting.erase p, sweeps := s.jay.sweeps.erase p
      moves := s.jay.moves.filter (fun (m : Nat × Nat × Nat) => m.1 != p) } }

/-- What a dissolution releases of R405 and R420. -/
def State.release (s : State) (p : Nat) : State :=
  let s := s.each (s.sitesOf p) (fun s k => ((s.wr .uciBind (clearBit (s.rd .uciBind k) p) k).wr .uciCohRole roleNone k p).wr .htlPtnLevel 0 k p)
  let s := s.each (List.range 15) (fun s j => s.destroyKey (16 * p + j))
  let s := s.each (List.range 32) (fun s i => s.clr .ptnIntrMap p i)
  let s := s.each (List.range 64) (fun s q => (s.clr .tilWqCfg p q))
  let s := s.each (List.range 16) (fun s g => (s.clr .colGroup p g).clr .colGroupState p g)
  let s := ((s.clr .colRingCfg 0 p).clr .ptnSealReq p).clr .ptnSealBeat p
  let ts := s.tilesOf p
  { s with
    plots := s.plots.where (fun _ o => o != p)
    heldTiles := s.heldTiles.where (fun t _ => !ts.contains t)
    wqs := s.wqs.where (fun k _ => k / 64 != p)
    col := { s.col with
      groups := s.col.groups.where (fun k _ => k / 16 != p), rings := s.col.rings.erase p
      reports := s.col.reports.filter (fun (r : Report) => r.ptn != p) }
    coh := { s.coh with ways := s.coh.ways.erase p, walking := s.coh.walking.erase p }
    sox := { s.sox with queues := s.sox.queues.erase p }
    jay := { s.jay with reserved := s.jay.reserved.where (fun k _ => k / 8 != p) }
    sec := { s.sec with
      grants := s.sec.grants.erase p, nextGrants := s.sec.nextGrants.erase p, rotate := s.sec.rotate.erase p, imports := s.sec.imports.erase p }
    ptns := s.ptns.erase p }

/-- A core that failed its BIST, marked under its logical number (R100, R582, R583). -/
def State.failTile (s : State) (ptn : Option Nat) (t : Nat) : State :=
  if (s.rd .tilFailed).testBit t ∨ 2304 ≤ t then s
  else (s.wr .tilFailed (setBit (s.rd .tilFailed) t)).ev Ev.bstTileFail ptn (Config.detail [t])

/-- The last granule is scrubbed; `fails` are the cores that failed the tile BIST on the way (R583). -/
def State.scrubDone (s : State) (p : Nat) (fails : List Nat) : State :=
  let x := s.ptn p
  let st := s.ptnState p
  if (st ≠ ptnScrubbing ∧ st ≠ ptnDissolving) ∨ x.atEdge.isSome then s
  else
    let gs := s.granulesOf p
    let s := s.each (fails.filter (fun t => (s.tilesOf p).contains t)) (fun s t => s.failTile (some p) t)
    let s := (s.each gs State.zeroGranule).destroyKey (slotScrub p)
    let s := (((s.dropDir p).cachesFlush p).resetObjs p).wr .ptnScrubLeft 0 p
    let s := s.each (s.ownChiplets p) State.startReset
    if st = ptnScrubbing then
      let s := ((s.destroyKey (slotMem p 0)).destroyKey (slotMem p 1)).wr .secRotateState 0 0 p
      let s : State := { s with sec := { s.sec with rotate := s.sec.rotate.erase p } }
      let s := (s.wr .secMemKgen 0 0 p).drawKey (slotMem p 0)
      let s := (s.each gs (fun s g => s.poolGranule p g)).mapAreas p
      s.setPtn p { s.ptn p with atEdge := some ptnSealed }
    else
      let s := s.each gs (fun s g => s.setHgt g (s.idleHgt g))
      (s.release p).setPtn p { atEdge := some ptnFree }

/-- The TXIDs kept for late answers are free again once a reset ends (R347), and no recall walk goes on. -/
def State.freeSnoopIds (s : State) (p : Nat) : State :=
  { s with coh := { s.coh with
      reserved := s.coh.reserved.filter (fun r => r.2.2.2 != p)
      walking := s.coh.walking.erase p } }

/-- What the coming edge ends for a partition: a reset's step 4, a seal, a context reset. -/
def State.ptnEdge (s : State) (p : Nat) : State :=
  let x := s.ptn p
  let s := match x.ctxReset with
    | some _ => (s.emptyTiles (s.tilesOf p)).setPtn p { s.ptn p with ctxReset := none }
    | none => s
  match x.atEdge, x.reset with
  | some v, r =>
    let s := s.setPtn p { s.ptn p with atEdge := none, reset := none, drained := false, since := s.beat.number }
    if v = ptnSealed then
      let s := if r.isSome then (s.useSpares p).freeSnoopIds p else s
      let s : State := { s with heldTiles := s.heldTiles.where (fun t _ => !(s.tilesOf p).contains t) }
      let s := ((s.setPtnState p ptnSealed).wr .cohDomainState domainUp 0 p).wr .ptnCtxRunning (s.firstCtx p) p
      let s := if r.isNone then (s.wr .ptnSealBeat s.beat.number.toNat p).each (s.sitesOf p) (fun s k => s.grantCredits p k) else s
      if r.isNone then s.openWindows p else s
    else
      let s := (((s.freeSnoopIds p).setPtnState p ptnFree).wr .cohDomainState domainNone 0 p).wr .ptnCtxRunning ctxNone p
      s.endSessions (fun x => x.role == .tenant && x.ptn == p)
  | none, some k =>
    if !x.drained ∨ s.ptnState p ≠ ptnResetting then s
    else if k = .warm then
      let s : State := { s with heldTiles := s.heldTiles.where (fun t _ => !(s.tilesOf p).contains t) }
      let s := (s.useSpares p).setPtn p { s.ptn p with reset := none, drained := false, since := s.beat.number }
      let s := s.freeSnoopIds p
      ((s.setPtnState p ptnSealed).wr .cohDomainState domainUp 0 p).wr .ptnCtxRunning (s.firstCtx p) p
    else s.scrubStart p k
  | none, none => s

/-! ## GLOBAL_RESET (R397) -/

/-- The kind that ROP names. -/
def globalKind (rop : Nat) : ResetKind := if rop = 0 then .warm else .full

/-- RESET passes to the children, and the partition is reset; a partition already being reset absorbs it (R423). -/
def State.globalReset (s : State) (p g rop : Nat) : State :=
  let s := s.each (s.childrenIn p g 0) (fun s i => s.sendColl p g i kindReset 0 0 rop [])
  if (s.ptn p).reset.isSome then s else s.resetPtn p (globalKind rop) false

/-- Member 0's descriptor: its record is written where the reset keeps the ring, and then its partition is reset. -/
def State.globalBegin (s : State) (p g : Nat) (c : Coll) : State :=
  let s := s.each (s.childrenIn p g 0) (fun s i => s.sendColl p g i kindReset 0 0 c.rop [])
  let s := if c.rop = 0 then s.collRecord p { c with step := 1, status := some csOk } else s
  s.resetPtn p (globalKind c.rop) false

/-! ## The commands -/

def execCollGlobalReset (p : Nat) (s : State) : Host.Outcome State Fault Refusal :=
  .next (s.collFetch p opGlobalReset (fun s g c => s.globalBegin p g c))

/-- RESET from the parent: passed on, and the partition is reset where RESET_OK is set; else the member aborts with MISMATCH. -/
def execCollMsgReset (c : Nat) (payload : List Byte) (s : State) : Host.Outcome State Fault Refusal :=
  .next (match s.collMsg c kindReset payload with
    | some m =>
      if s.parentIn m.ptn m.g 0 ≠ some m.src then s
      else if (s.groupCfg m.ptn m.g).resetOk then s.globalReset m.ptn m.g m.status
      else
        let busy := (s.group m.ptn m.g).coll.isSome
        ((s.raiseAbort m.ptn m.g csMismatch 0).collEnd m.ptn m.g).each (s.neighbours m.ptn m.g) (fun s i =>
          if busy then s
          else s.sendColl m.ptn m.g i kindAbort 0 0 csMismatch (abortBody (s.groupCfg m.ptn m.g).me (s.rd .soxPkgId) 0))
    | none => s)

/-- The commands of PTN_CMD by role, partition and low byte (R407). -/
def State.cmdForm (s : State) (role : Role) (p low : Nat) : Answer :=
  s.ptnCmd role p low [.operator] (s.ptnState p == ptnFree) (fun s => s.formPtn p)

def State.cmdSeal (s : State) (role : Role) (p low : Nat) : Answer :=
  s.ptnCmd role p low [.operator, .tenant] (s.ptnState p == ptnFormed) (fun s => s.sealCmd role p)

def State.cmdContextReset (s : State) (role : Role) (p low : Nat) : Answer :=
  s.ptnCmd role p low [.operator, .tenant] (s.ptnState p == ptnSealed) (fun s => (stPending, s.contextReset p (field low 7 4)))

def State.cmdWarmReset (s : State) (role : Role) (p low : Nat) : Answer :=
  s.ptnCmd role p low [.operator, .tenant] (s.ptnState p == ptnSealed || s.ptnState p == ptnHalted)
    (fun s => s.resetCmd p .warm (low.testBit 0))

def State.cmdFullReset (s : State) (role : Role) (p low : Nat) : Answer :=
  s.ptnCmd role p low [.operator, .tenant] (s.ptnState p == ptnSealed || s.ptnState p == ptnHalted || s.ptnState p == ptnResetting)
    (fun s => s.resetCmd p .full true)

def State.cmdDissolve (s : State) (role : Role) (p low : Nat) : Answer :=
  s.ptnCmd role p low [.operator, .security] (s.ptnState p != ptnFree) (fun s => s.resetCmd p .dissolve true)

def execPtnCmdForm (role : Role) (p low : Nat) (s : State) : Host.Outcome State Fault Refusal := .next (State.answered (s.cmdForm role p low))

def execPtnCmdSeal (role : Role) (p low : Nat) (s : State) : Host.Outcome State Fault Refusal := .next (State.answered (s.cmdSeal role p low))

def execSealWriteDone (p : Nat) (s : State) : Host.Outcome State Fault Refusal := .next (s.sealDone p)

def execPtnCmdContextReset (role : Role) (p low : Nat) (s : State) : Host.Outcome State Fault Refusal :=
  .next (State.answered (s.cmdContextReset role p low))

def execPtnCmdWarmReset (role : Role) (p low : Nat) (s : State) : Host.Outcome State Fault Refusal :=
  .next (State.answered (s.cmdWarmReset role p low))

def execPtnCmdFullReset (role : Role) (p low : Nat) (s : State) : Host.Outcome State Fault Refusal :=
  .next (State.answered (s.cmdFullReset role p low))

def execPtnCmdDissolve (role : Role) (p low : Nat) (s : State) : Host.Outcome State Fault Refusal :=
  .next (State.answered (s.cmdDissolve role p low))

def execResetDrainEnd (p : Nat) (s : State) : Host.Outcome State Fault Refusal := .next (s.drainEnd p)
def execBadgerScrubDone (p : Nat) (fails : List Nat) (s : State) : Host.Outcome State Fault Refusal := .next (s.scrubDone p fails)
def execTileSaveDone (p t : Nat) (s : State) : Host.Outcome State Fault Refusal := .next (s.saveDone p t)
def execTileRestoreDone (p t : Nat) (s : State) : Host.Outcome State Fault Refusal := .next (s.restoreDone p t)

def execPtnCtxNextWrite (role : Role) (p v : Nat) (s : State) : Host.Outcome State Fault Refusal :=
  .next (State.answered (s.ctxNextWrite role p v))

def execPtnSchedMiss (p : Nat) (s : State) : Host.Outcome State Fault Refusal := .next (s.schedMiss p)

end Sys2Proof.Machine
end

