-- ==== Sys2Proof/Machine/Security.lean ====
section
/-! DEFINITION. The commands of the security engine: key delivery, import, rotation, evidence, debug grants, self-tests and
zeroisation (R427–R454). -/

namespace Sys2Proof.Machine

/-! ## Key delivery (R436, R437) -/

def keyLoaded : Nat := 0
def keyFormat : Nat := 1
def keyWrongPak : Nat := 2
def keyAuth : Nat := 3
def keyPolicy : Nat := 4
def keyNotSealed : Nat := 5

/-- A key blob's fields. -/
structure Blob where
  ver : Nat
  kind : Nat
  slot : Nat
  keyId : Nat
  switchBeat : Nat
  gen : Nat
  flags : Nat
  pak : Nat
  terms : List PolicyTerm
  /-- Every reserved byte is zero. -/
  clean : Bool
  deriving DecidableEq, Repr

/-- `n` bytes of a blob from offset `o`, as a number. -/
def bytesAt (b : List Byte) (o n : Nat) : Nat := leNat ((b.drop o).take n)

def blobOf (b : List Byte) : Blob :=
  let at' (i : Nat) : Nat := 0x60 + 80 * i
  { ver := bytesAt b 0 2, kind := bytesAt b 2 1, slot := bytesAt b 3 1, keyId := bytesAt b 4 4, switchBeat := bytesAt b 8 8
    gen := bytesAt b 0x10 1, flags := bytesAt b 0x14 4, pak := bytesAt b 0x20 64
    terms := (List.range 8).map (fun i =>
      { index := bytesAt b (at' i) 1, op := bytesAt b (at' i + 1) 1, value := bytesAt b (at' i + 16) 64 })
    clean := bytesAt b 0x11 3 == 0 && bytesAt b 0x18 8 == 0 && (List.range 8).all (fun i => bytesAt b (at' i + 2) 14 == 0) }

/-- The fields of a blob that its kind does not use are 0, and the others lie in their ranges. -/
def Blob.wellFormed (b : Blob) : Bool :=
  b.ver == 1 && decide (1 ≤ b.kind) && decide (b.kind ≤ 3) && b.clean && decide (b.flags < 64) && b.terms.all (fun t => decide (t.op ≤ 2))
    && (if b.kind = 1 then decide (b.slot ≤ 7) else b.slot == 0)
    && (if b.kind = 3 then decide (b.gen ≤ 3) && decide (b.switchBeat < 2 ^ 48) else b.gen == 0 && b.switchBeat == 0)

/-- A fabric key's generation follows the current one, or the partition holds none; and its beat has not passed (R441). -/
def State.genFits (s : State) (p : Nat) (b : Blob) : Bool :=
  b.kind != 3 || (decide (s.beat.number.toNat < b.switchBeat) && ((s.fabricKeys p).isEmpty || b.gen == (s.sendGen p + 1) % 4))

/-- The place of a fabric key: the slot that does not hold the current generation. -/
def State.fabricPlace (s : State) (p : Nat) : Nat :=
  match s.keySlot (slotFabric p 0) with
  | none => slotFabric p 0
  | some a => if (s.fabricKeys p).length = 2 ∧ a.gen ≠ s.sendGen p then slotFabric p 0 else slotFabric p 1

/-- The slot that a blob loads. -/
def State.blobSlot (s : State) (p : Nat) (b : Blob) : Nat :=
  if b.kind = 1 then slotContent p (b.slot % 8) else if b.kind = 2 then slotCkpt p else s.fabricPlace p

/-- The outcome of a delivery. `key` is what the unwrapping of steps 2 to 4 gives: none where its tag fails. -/
def State.deliveryStatus (s : State) (p : Nat) (b : Blob) (key : Option Nat) : Nat :=
  if s.ptnState p ≠ ptnSealed then keyNotSealed
  else if ¬ b.wellFormed ∨ ¬ s.genFits p b then keyFormat
  else if b.pak ≠ s.rd .secPakDigest 0 p then keyWrongPak
  else if key.isNone ∨ (s.keySlot (slotPak p)).isNone then keyAuth
  else if s.policyHolds p b.flags b.terms then keyLoaded
  else keyPolicy

/-- A delivery: the key is loaded when every step passes, and SEC_KEY_STATUS reports the outcome. The entry is the tenant's. -/
def State.deliverKey (s : State) (role : Role) (p : Nat) (blob : List Byte) (key : Option Nat) : Answer :=
  if role ≠ .tenant then s.refuse stDenied
  else if blob.length ≠ 2384 then s.refuse stType
  else
    let b := blobOf blob
    let st := s.deliveryStatus p b key
    let k := s.blobSlot p b
    let t := if st = keyLoaded then
        (s.setKey k { material := key.getD 0, keyId := b.keyId, gen := b.gen, switchBeat := b.switchBeat, flags := b.flags
                      terms := b.terms.filter (fun t => t.op != 0) }).remeasure p
      else s
    (stOk, t.wr .secKeyStatus (st * 2 ^ 56 + k % 16 * 2 ^ 48 + b.keyId) 0 p)

/-- After the grace period, with no packet sent under it unacknowledged, the previous fabric key is destroyed (R441). -/
def State.retireFabric (s : State) (p : Nat) : State :=
  match s.keySlot (slotFabric p 0), s.keySlot (slotFabric p 1) with
  | some a, some b =>
    let newer := if b.gen = (a.gen + 1) % 4 then b else a
    let old := if b.gen = (a.gen + 1) % 4 then a else b
    let k := if b.gen = (a.gen + 1) % 4 then slotFabric p 0 else slotFabric p 1
    let unsent := s.sox.conns.any (fun (e : Nat × Conn) => e.1 != 0 && e.2.ptn == p && e.2.unacked.any (fun u => u.2.kgen == old.gen))
    if newer.switchBeat + s.rd .secFkGrace 0 p ≤ s.beat.number.toNat ∧ ¬ unsent then (s.destroyKey k).remeasure p else s
  | _, _ => s

/-! ## Import (R439, R440) -/

def impOk : Nat := 0
def impAuth : Nat := 1
def impNoKey : Nat := 2
def impPolicy : Nat := 3
def impFormat : Nat := 4
def impXlate : Nat := 5

/-- Bytes of a chunk record. -/
def chunkBytes : Nat := 0x100080

def State.importResult (s : State) (p st written fail : Nat) : State :=
  s.wr .secImportResult (st * 2 ^ 56 + written % 65536 * 2 ^ 40 + fail % 65536 * 2 ^ 24) 0 p

/-- SEC_IMPORT: the tenant's; IDLE class. An empty slot ends the import with NO_KEY. -/
def State.importWrite (s : State) (role : Role) (p v : Nat) : Answer :=
  let slot := if field v 143 140 = 8 then slotCkpt p else slotContent p (field v 143 140)
  if role ≠ .tenant then s.refuse stDenied
  else if 2 ^ 256 ≤ v then s.refuse stType
  else if field v 255 208 % 256 ≠ 0 ∨ field v 207 160 % Config.granule ≠ 0 ∨ field v 159 144 = 0 ∨ 8 < field v 143 140 ∨ field v 138 0 ≠ 0 then
    s.refuse stRange
  else if (s.sec.imports.find p).isSome then s.refuse stRunning
  else
    let s := s.wr .secImport v 0 p
    match s.keySlot slot with
    | none => (stOk, s.importResult p impNoKey 0 0)
    | some key =>
      let i : Import := { src := field v 255 208, dst := field v 207 160, count := field v 159 144, slot, byHeader := v.testBit 139, key }
      (stOk, { s with sec := { s.sec with imports := s.sec.imports.set p i } })

/-- One record: its status, and the state with its plaintext written. -/
def State.importChunk (s : State) (p : Nat) (i : Import) (n : Nat) : Nat × State :=
  match s.readSpan p (i.src + n * chunkBytes) chunkBytes with
  | some (d, false) =>
    let kind := if i.slot = slotCkpt p then 2 else 1
    let salt := bytesAt d 0x20 16
    let idx := bytesAt d 0x10 4
    let plain := ((d.drop 0x40).take Config.granule).zipIdx.map (fun (e : Byte × Nat) => e.1 ^^^ Config.keyStream i.key.material salt idx e.2)
    let dst := if i.byHeader then bytesAt d 0x18 8 else i.dst + n * Config.granule
    if bytesAt d 0 2 ≠ 1 + 256 * kind ∨ bytesAt d 4 4 ≠ i.key.keyId ∨ bytesAt d 2 2 ≠ 0 ∨ bytesAt d 0x14 4 ≠ 0 ∨ bytesAt d 0x30 16 ≠ 0 then
      (impFormat, s)
    else if bytesAt d 0x100040 16 ≠ Config.chunkTag [i.key.material, salt, idx, leNat (d.take 0x40), leNat plain] % 2 ^ 128 then (impAuth, s)
    else if dst % Config.granule ≠ 0 then (impFormat, s)
    else if ¬ s.spanWritable p dst Config.granule then (impXlate, s)
    else (impOk, s.hubWrite (s.svcLabel p 3) 0 .write 0 0 0 dst plain)
  | some (_, true) => (impAuth, s)
  | none => (impXlate, s)

/-- What an import has done so far: the first failure with its record, the records written, and the state. -/
structure ImportRun where
  status : Nat
  fail : Nat
  written : Nat
  st : State
  deriving DecidableEq, Repr

def ImportRun.next (p : Nat) (i : Import) (r : ImportRun) (n : Nat) : ImportRun :=
  let c := r.st.importChunk p i n
  { status := if r.status = impOk then c.1 else r.status
    fail := if r.status = impOk ∧ c.1 ≠ impOk then n else r.fail
    written := if c.1 = impOk then r.written + 1 else r.written
    st := c.2 }

/-- The import ends: after all its records, or with POLICY after `n` of them where its key was destroyed (R438, R440). -/
def State.importDone (s : State) (p n : Nat) : State :=
  match s.sec.imports.find p with
  | none => s
  | some i =>
    let m := if i.revoked then min n i.count else i.count
    let r := (List.range m).foldl (ImportRun.next p i) { status := impOk, fail := 0, written := 0, st := s }
    let st := if i.revoked ∧ r.status = impOk then impPolicy else r.status
    let fail := if i.revoked ∧ r.status = impOk then m else r.fail
    let t : State := { r.st with sec := { r.st.sec with imports := r.st.sec.imports.erase p } }
    t.importResult p st r.written fail

/-! ## Rotation (R443, R444) -/

def rotIdle : Nat := 0
def rotLoaded : Nat := 1
def rotSweeping : Nat := 2
def rotDraining : Nat := 3

/-- SEC_ROTATE, by the tenant or the security officer: 1 starts a rotation while the partition is SEALED and none runs. -/
def State.rotateWrite (s : State) (role : Role) (p v : Nat) : Answer :=
  if role ≠ .tenant ∧ role ≠ .security then s.refuse stDenied
  else if 256 ≤ v then s.refuse stType
  else if v = 1 ∧ s.ptnState p = ptnSealed ∧ s.rd .secRotateState 0 p = rotIdle then
    (stOk, { (s.wr .secRotate 1 0 p) with sec := { s.sec with rotate := s.sec.rotate.set p () } })
  else s.refuse stBusy

/-- The generation before the current one of a partition. -/
def State.oldGen (s : State) (p : Nat) : Nat := (s.rd .secMemKgen 0 p + 3) % 4

/-- Requests of a partition that carry a generation and have not finished. -/
def State.genCount (s : State) (p g : Nat) : Nat :=
  (s.noc.trackers.filter (fun (e : Nat × Tracker) => e.2.kgen == g && (s.hgt e.2.hgran).owner == p && e.2.phase != .xlate && e.2.phase != .fenced)).length
    + (s.coh.txns.filter (fun (t : Txn) => t.req.kgen == g && (s.hgt (granOf t.req.hpa)).owner == p)).length

/-- What an edge does for a partition's rotation: its key is drawn, then its sweeps are declared, and after them the old
key is destroyed when no request carries it. -/
def State.rotateEdge (s : State) (p : Nat) : State :=
  let st := s.rd .secRotateState 0 p
  if st = rotIdle then
    if (s.sec.rotate.find p).isNone then s
    else
      let g := (s.rd .secMemKgen 0 p + 1) % 4
      let t : State := { s with sec := { s.sec with rotate := s.sec.rotate.erase p } }
      (((t.drawKey (slotMem p g)).wr .secMemKgen g 0 p).wr .secRotateState rotLoaded 0 p).remeasure p
  else if st = rotLoaded then
    let t : State := { s with jay := { s.jay with sweeps := s.jay.sweeps.set p (s.oldGen p) } }
    (t.wr .secRotateState rotSweeping 0 p).remeasure p
  else
    let old := s.oldGen p
    let s := if st = rotSweeping ∧ ¬ s.sweepLeft p old then
        let t : State := { s with jay := { s.jay with sweeps := s.jay.sweeps.erase p } }
        (t.wr .secRotateState rotDraining 0 p).remeasure p
      else s
    if s.rd .secRotateState 0 p = rotDraining ∧ s.genCount p old = 0 then
      ((s.destroyKey (slotMem p old)).wr .secRotateState rotIdle 0 p).remeasure p
    else s

/-! ## Evidence (R445, R446) -/

/-- A partition's endpoint exists from the end of its seal until its dissolution. -/
def State.hasEndpoint (s : State) (ep : Nat) : Bool :=
  ep == 0 || (decide (ep ≤ 32) && (s.keySlot (slotPak (ep - 1))).isSome && s.ptnState (ep - 1) != ptnSealing && s.ptnState (ep - 1) != ptnDissolving)

/-- Blocks given as records, not as digests. -/
def rawBlock (i : Nat) : Bool := [5, 6, 8, 17, 19, 20, 21, 22].contains i

/-- A measurement block at an endpoint. -/
def State.block (s : State) (ep i : Nat) : Option (List Nat) :=
  if 16 ≤ i ∧ ep = 0 then none
  else (s.measure (ep - 1) i).map (fun c =>
    if rawBlock i then i :: c else if i = 2 then [i, Config.digest c, s.rdField .secFwVersion 31 0] else [i, Config.digest c])

def blockIndices : List Nat := (List.range 8).map (· + 1) ++ (List.range 8).map (· + 16)

/-- The chain of an endpoint, by its keys: DeviceID and Alias, and the PAK of a partition. -/
def State.chainOf (s : State) (ep : Nat) : List Nat :=
  [slotDevid, slotAlias].filterMap (fun k => (s.keySlot k).map KeySlot.material)
    ++ (if ep = 0 then [] else ((s.keySlot (slotPak (ep - 1))).map KeySlot.material).toList)

def SpdmReq.code : SpdmReq → Nat
  | .getVersion => 0x84
  | .getCapabilities => 0xE1
  | .negotiateAlgorithms => 0xE3
  | .getDigests => 0x81
  | .getCertificate _ => 0x82
  | .challenge _ => 0x83
  | .getMeasurements _ _ => 0xE0
  | .other c => c

/-- An answer of ERROR: to a request, a slot or a block that the responder does not have. -/
def spdmError : Nat := 0x7F

/-- A responder's answer. The life-cycle states SCRAPPED and LOCKED have none (R456), nor has an engine that is not
OPERATIONAL (R452). -/
def State.spdm (s : State) (ep : Nat) (r : SpdmReq) : State :=
  let beat := s.beat.number.toNat
  let chain := Config.digest (s.chainOf ep)
  if ¬ s.hasEndpoint ep ∨ ¬ s.seUp ∨ s.lc = lcScrapped ∨ s.lc = lcLocked then s
  else
    let answer (nonce : Nat) (b : List (List Nat)) : State := s.emit (.spdm ep (SpdmReq.code r) nonce beat b)
    let err : State := s.emit (.spdm ep spdmError 0 beat [])
    match r with
    | .getVersion => answer 0 [[0x13]]
    | .getCapabilities => answer 0 []
    | .negotiateAlgorithms => answer 0 []
    | .getDigests => answer 0 [[chain]]
    | .getCertificate slot => if slot = 0 then answer 0 [s.chainOf ep] else err
    | .challenge nonce => answer nonce [[chain]]
    | .getMeasurements i nonce =>
      let all := blockIndices.filterMap (s.block ep)
      if i = 0 then answer nonce [[all.length]]
      else if i = 0xFF then answer nonce all
      else match s.block ep i with
        | some b => answer nonce [b]
        | none => err
    | .other _ => err

/-! ## Debug grants (R449) -/

def State.sealDigest (s : State) (p : Nat) : Nat := Config.digest (s.sealContent p)

/-- The body of a grant agrees with the partition's nonce and configuration. -/
def State.grantFits (s : State) (p : Nat) (b : List Byte) : Bool :=
  bytesAt b 0 1 == 1 && bytesAt b 1 1 == p && decide (bytesAt b 2 2 < 8) && bytesAt b 4 4 != 0
    && bytesAt b 8 16 == s.rd .secDebugNonce 0 p && bytesAt b 0x18 64 == s.sealDigest p % 2 ^ 512 && bytesAt b 0x58 40 == 0

/-- SEC_DEBUG_GRANT, by the operator: `sigOk` says that both signatures verify under the tenant's debug key. The nonce is
drawn anew whatever the outcome. -/
def State.grantWrite (s : State) (role : Role) (p : Nat) (b : List Byte) (sigOk : Bool) : Answer :=
  if role ≠ .operator then s.refuse stDenied
  else if b.length ≠ 3584 then s.refuse stType
  else
    let t := (s.wr .secDebugNonce s.draw128 0 p).drawn 2
    if sigOk && s.rd .secTenantKey 0 p != 0 && s.grantFits p b then
      (stPending, { t with sec := { t.sec with nextGrants := t.sec.nextGrants.set p { scope := bytesAt b 2 2, beats := bytesAt b 4 4 } } })
    else (stAuth, t)

/-- SEC_DEBUG_STATE: the tenant ends its grant by writing 0. -/
def State.debugStateWrite (s : State) (role : Role) (p v : Nat) : Answer :=
  if role ≠ .tenant then s.refuse stDenied
  else if 2 ^ 32 ≤ v then s.refuse stType
  else if v ≠ 0 then s.refuse stRange
  else (stOk, s.grantEnd p)

/-- A grant in force permits what a command asks: its write bit and its space. -/
def Grant.allows (g : Grant) (write tile : Bool) : Bool :=
  if tile then !write && g.scope.testBit 2 else if write then g.scope.testBit 1 else g.scope.testBit 0

/-- SEC_DEBUG_DATA filled with a free value, as tile state is read: the spec gives the space no addresses. -/
def State.debugTile (s : State) (p n : Nat) : State :=
  let v := (List.range 32).foldl (fun a i => a + (Config.freeWord (s.fresh + i)).toNat * 2 ^ (64 * i)) 0
  (s.wrField .secDebugData (8 * n - 1) 0 v 0 p).drawn 32

/-- A snooped read of `n` bytes into SEC_DEBUG_DATA. -/
def State.debugRead (s : State) (p ppa n : Nat) : State :=
  s.each (lineParts ppa n) (fun s (e : Nat × Nat) =>
    s.hubPart { newRequest .hub (s.svcLabel p 2) .rdNa 0 e.1 e.2 [] with opx := 1, dst := e.1 - ppa, dfmt := 1 })

/-- SEC_DEBUG_CMD, by the operator within the scope of a grant in force; every access is recorded. -/
def State.debugCmd (s : State) (role : Role) (p v : Nat) : Answer :=
  let ppa := field v 255 208
  let n := field v 207 199 + 1
  let write := v.testBit 198
  let space := field v 197 196
  if role ≠ .operator then s.refuse stDenied
  else if 2 ^ 256 ≤ v then s.refuse stType
  else if 256 < n ∨ 1 < space ∨ field v 195 0 ≠ 0 then s.refuse stRange
  else
    match s.sec.grants.find p with
    | none => s.refuse stDenied
    | some g =>
      if ¬ g.allows write (space == 1) then s.refuse stDenied
      else if space = 0 ∧ (s.readSpan p ppa n).isNone ∨ (write ∧ ¬ s.spanWritable p ppa n) then s.refuse stRange
      else
        let t := (s.wr .secDebugCmd v 0 p).record .debugAccess (some p) false
          (ppa * 2 ^ 80 + (n - 1) * 2 ^ 71 + (if write then 2 ^ 70 else 0) + space * 2 ^ 68)
        let t := if space = 1 then t.debugTile p n
          else if write then t.hubWrite (t.svcLabel p 2) 0 .write 0 0 0 ppa (toLe n (t.rd .secDebugData 0 p))
          else t.debugRead p ppa n
        (stOk, t.sqlSettle)

/-! ## Self-tests and zeroisation (R451–R453) -/

/-- A self-test failed after READY: the engine is zeroised and SEC_SELFTEST_FAIL reported (R452). -/
def State.selftestFail (s : State) : State := ((s.wr .secState seError).zeroise).ev Ev.secSelftestFail

/-- SEC_ZEROISE, by the security officer: 0x5A. -/
def State.zeroiseWrite (s : State) (role : Role) (v : Nat) : Answer :=
  if role ≠ .security then s.refuse stDenied
  else if 256 ≤ v then s.refuse stType
  else if v ≠ 0x5A then s.refuse stRange
  else (stOk, s.zeroise)

/-- SEC_SELFTEST, by the security officer: 1 runs the known-answer tests, of which `pass` is the outcome. -/
def State.selftestWrite (s : State) (role : Role) (v : Nat) (pass : Bool) : Answer :=
  if role ≠ .security then s.refuse stDenied
  else if 256 ≤ v then s.refuse stType
  else if v ≠ 1 then s.refuse stRange
  else if ¬ s.seUp then s.refuse stLocked
  else (stPending, if pass then s else s.selftestFail)

/-! ## The commands -/

def execSecKeyDeliver (role : Role) (p : Nat) (blob : List Byte) (key : Option Nat) (s : State) : Host.Outcome State Fault Refusal :=
  .next (State.answered (s.deliverKey role p blob key))

def execSecImport (role : Role) (p v : Nat) (s : State) : Host.Outcome State Fault Refusal := .next (State.answered (s.importWrite role p v))
def execImportDone (p n : Nat) (s : State) : Host.Outcome State Fault Refusal := .next (s.importDone p n)
def execSecRotate (role : Role) (p v : Nat) (s : State) : Host.Outcome State Fault Refusal := .next (State.answered (s.rotateWrite role p v))
def execFabricKeyRetire (p : Nat) (s : State) : Host.Outcome State Fault Refusal := .next (s.retireFabric p)
def execSpdmRequest (ep : Nat) (req : SpdmReq) (s : State) : Host.Outcome State Fault Refusal := .next (s.spdm ep req)

def execSecDebugGrant (role : Role) (p : Nat) (body : List Byte) (sigOk : Bool) (s : State) : Host.Outcome State Fault Refusal :=
  .next (State.answered (s.grantWrite role p body sigOk))

/-- A grant's last beat is over. -/
def execDebugGrantExpiry (p : Nat) (s : State) : Host.Outcome State Fault Refusal :=
  .next (if s.rd .secDebugState 0 p ≤ 1 then s.grantEnd p else s)

def execSecDebugStateWrite (role : Role) (p v : Nat) (s : State) : Host.Outcome State Fault Refusal :=
  .next (State.answered (s.debugStateWrite role p v))

def execSecDebugCmd (role : Role) (p v : Nat) (s : State) : Host.Outcome State Fault Refusal := .next (State.answered (s.debugCmd role p v))
def execSecZeroise (role : Role) (v : Nat) (s : State) : Host.Outcome State Fault Refusal := .next (State.answered (s.zeroiseWrite role v))

/-- The engine's sensors leave their range (R453). -/
def execSeSensorTrip (s : State) : Host.Outcome State Fault Refusal := .next s.zeroise

def execSecSelftest (role : Role) (v : Nat) (pass : Bool) (s : State) : Host.Outcome State Fault Refusal :=
  .next (State.answered (s.selftestWrite role v pass))

/-- A known-answer test of an engine between takings of keys. -/
def execSecKatPeriodExpiry (pass : Bool) (s : State) : Host.Outcome State Fault Refusal := .next (if pass then s else s.selftestFail)

end Sys2Proof.Machine
end

