-- ==== Sys2Proof/Machine/LifeCycle.lean ====
section
/-! DEFINITION. Life-cycle states, transition records and tokens, the OTP, and the TAP (R455–R471, R591–R593). -/

namespace Sys2Proof.Machine

/-! ## Step marks (R458) -/

def markFull : Nat := 0xFFFF

/-- A mark whose set bits form a run from bit 0, neither blank nor complete. -/
def markPartial (m : Nat) : Bool := (List.range 15).any (fun i => m == 2 ^ (i + 1) - 1)

/-- Complete marks counted from MARK1 without a gap. -/
def completeMarks : List Nat → Nat
  | [] => 0
  | m :: r => if m = markFull then completeMarks r + 1 else 0

/-- What OTP decodes to: a state code, and whether the next mark is partial. -/
structure Decoded where
  state : Nat
  part : Bool
  deriving DecidableEq, Repr

/-- SVN is a thermometer field (R469). -/
def svnOk (bits : Nat) : Bool := (List.range 65).any (fun i => bits == 2 ^ i - 1)

/-- The state that OTP decodes to. -/
def Otp.decode (o : Otp) : Decoded :=
  let c := completeMarks o.marks
  let rest := o.marks.drop c
  let locked : Decoded := { state := lcLocked, part := false }
  if o.bad ∨ ¬ svnOk o.svn then locked
  else match rest with
    | [] => { state := c, part := false }
    | m :: r =>
      if r.any (· != 0) then locked
      else if m = 0 then { state := c, part := false }
      else if markPartial m then { state := c, part := true }
      else locked

/-- The security version. -/
def Otp.version (o : Otp) : Nat := popCount o.svn 64

/-! ## Records (R459–R461) -/

def lcFormat : Nat := 1
def lcUnit : Nat := 2
def lcStateBad : Nat := 3
def lcNonceBad : Nat := 4
def lcRootBad : Nat := 5
def lcSignature : Nat := 6
def lcErase : Nat := 7
def lcFlash : Nat := 8
def lcOtpFail : Nat := 9

def LcRecord.at (r : LcRecord) (o n : Nat) : Nat := bytesAt r.bytes o n

def LcRecord.kind (r : LcRecord) : Nat := LcRecord.at r 1 1
def LcRecord.src (r : LcRecord) : Nat := LcRecord.at r 2 1
def LcRecord.dst (r : LcRecord) : Nat := LcRecord.at r 3 1
def LcRecord.scope (r : LcRecord) : Nat := LcRecord.at r 4 4
def LcRecord.owner (r : LcRecord) : Nat := LcRecord.at r 0x20 64

/-- PROVISIONED to FIELD, the one pair that carries an owner digest. -/
def LcRecord.provisions (r : LcRecord) : Bool := (LcRecord.kind r) == 1 && (LcRecord.src r) == lcProvisioned && (LcRecord.dst r) == lcField

/-- VER, KIND, SIGNERS and the reserved fields. -/
def LcRecord.formatOk (r : LcRecord) : Bool :=
  LcRecord.at r 0 1 == 1 && decide (1 ≤ (LcRecord.kind r)) && decide ((LcRecord.kind r) ≤ 3) && (LcRecord.at r 0x60 1 == 1 || LcRecord.at r 0x60 1 == 2)
    && LcRecord.at r 0x61 31 == 0 && decide ((LcRecord.scope r) < 8) && ((LcRecord.kind r) != 1 || (LcRecord.scope r) == 0) && ((LcRecord.provisions r) || (LcRecord.owner r) == 0)
    && LcRecord.at r (0x80 + 0x14ED) 3 == 0 && LcRecord.at r (0x1570 + 0x14ED) 3 == 0 && (LcRecord.at r 0x60 1 == 2 || LcRecord.at r 0x1570 5360 == 0)

/-- The digests that the signers of a record must have (R460); none where the pair is not listed. Block 2 has none where the
table asks for one signer. -/
def Otp.signers (o : Otp) (r : LcRecord) : Option (Nat × Option Nat) :=
  let f := (LcRecord.src r)
  let t := (LcRecord.dst r)
  match (LcRecord.kind r) with
  | 1 =>
    if f = lcWafer ∧ t = lcAssembly ∨ f = lcAssembly ∧ t = lcProvisioned then some (o.vtest, none)
    else if f = lcProvisioned ∧ t = lcField then some (o.vroot, some (LcRecord.owner r))
    else if f = lcField ∧ t = lcReturned then some (o.owner, some o.vrma)
    else if t = lcScrapped then
      (if f = lcReturned then some (o.vrma, none)
       else if f = lcWafer ∨ f = lcAssembly then some (o.vtest, none)
       else if f = lcProvisioned then some (o.vroot, none)
       else if f = lcField then some (o.owner, none)
       else none)
    else none
  | 2 => if (f = lcWafer ∨ f = lcAssembly) ∧ t = f ∧ (f = lcWafer ∨ ¬ (LcRecord.scope r).testBit 1) then some (o.vtest, none) else none
  | 3 => if f = lcReturned ∧ t = f ∧ ¬ (LcRecord.scope r).testBit 1 then some (o.vrma, none) else none
  | _ => none

/-- The digests of the signer blocks are those named. -/
def LcRecord.rootsOk (r : LcRecord) (want : Nat × Option Nat) : Bool :=
  r.root1 == want.1 && (match want.2 with
    | some d => LcRecord.at r 0x60 1 == 2 && r.root2 == d
    | none => LcRecord.at r 0x60 1 == 1)

/-- Every signature of the blocks in use verifies. -/
def LcRecord.signed (r : LcRecord) : Bool := r.sig1 && (LcRecord.at r 0x60 1 == 1 || r.sig2)

/-- The checks of R461, in their order; 0 where all pass. -/
def State.lcCheck (s : State) (r : LcRecord) (kinds : List Nat) : Nat :=
  if ¬ (LcRecord.formatOk r) ∨ !kinds.contains (LcRecord.kind r) then lcFormat
  else if LcRecord.at r 8 8 ≠ s.life.otp.unitId then lcUnit
  else if (LcRecord.src r) ≠ s.lc then lcStateBad
  else match s.life.otp.signers r with
    | none => lcStateBad
    | some want =>
      if LcRecord.at r 0x10 16 ≠ s.rd .lcsNonce then lcNonceBad
      else if ¬ LcRecord.rootsOk r want then lcRootBad
      else if ¬ (LcRecord.signed r) then lcSignature
      else 0

/-- LCS_TRANSITION_STATUS. -/
def State.lcStatus (s : State) (st reason : Nat) : State := s.wr .lcsTransitionStatus (st * 2 ^ 24 + reason)

def lcChecking : Nat := 1
def lcErasing : Nat := 2
def lcBurning : Nat := 3
def lcDone : Nat := 4
def lcFailed : Nat := 5

/-- A new nonce, after every check and at every start. -/
def State.newNonce (s : State) : State := (s.wr .lcsNonce s.draw128).drawn 2

/-- The record of a transition's end (R564). -/
def State.lcRecord (s : State) (r : LcRecord) : State :=
  let v := s.rd .lcsTransitionStatus
  (s.record .lifecycle none false ((LcRecord.src r) * 2 ^ 120 + (LcRecord.dst r) * 2 ^ 112 + field v 31 24 * 2 ^ 104 + field v 7 0 * 2 ^ 96)).sqlSettle

def State.lcFail (s : State) (r : LcRecord) (reason : Nat) : State := (s.lcStatus lcFailed reason).lcRecord r

/-! ## Burning (R462, R464, R465) -/

def State.setOtp (s : State) (o : Otp) : State := { s with life := { s.life with otp := o } }

/-- One mark filled with up to `n` further bits from bit 0 upward; the bits left over. -/
def fillMark (m n : Nat) : Nat × Nat :=
  let have' := popCount m 16
  (2 ^ (min 16 (have' + n)) - 1, n - (16 - have'))

/-- Marks filled from the first that is not complete: `count` of them, with `n` bits. -/
def fillMarks : Nat → List Nat → Nat → List Nat
  | _, [], _ => []
  | 0, l, _ => l
  | k + 1, m :: r, n =>
    if m = markFull then m :: fillMarks (k + 1) r n
    else (fillMark m n).1 :: fillMarks k r (fillMark m n).2

/-- Marks that a target burns: every remaining one for a scrap, else the next. -/
def marksFor (dst : Nat) : Nat := if dst = lcScrapped then 5 else 1

/-- The marks after `n` bits. -/
def Otp.burn (o : Otp) (dst n : Nat) : Otp := { o with marks := fillMarks (marksFor dst) o.marks n }

/-- A target's marks are complete. -/
def Otp.reached (o : Otp) (dst : Nat) : Bool := decide (dst ≤ completeMarks o.marks)

/-- LCS_MARKS. -/
def State.showMarks (s : State) : State :=
  s.wr .lcsMarks (leNat (s.life.otp.marks.flatMap (fun m => toLe 2 m)))

/-- SEED and the PUF helper (R465): none where neither helper slot is left. -/
def State.enrol (s : State) (ok : Bool) : Option State :=
  let o := s.life.otp
  let seed := o.seed ||| s.draw256
  let o := { o with seed, seedDone := true }
  if o.pufA = 0 then
    (if ok then some ((s.setOtp { o with pufA := 2 }).drawn 4)
     else if o.pufB = 0 then some ((s.setOtp { o with pufA := 1, pufB := 2 }).drawn 4) else none)
  else if o.pufA = 1 ∧ o.pufB = 0 ∧ ok then some ((s.setOtp { o with pufB := 2 }).drawn 4)
  else if o.pufA = 2 ∨ o.pufB = 2 then some s
  else none

/-- Steps 3 to 7 of a transition. Step 6 starts only while PWR_FAIL_N is deasserted; a bit that fails leaves a partial mark. -/
def State.burnTransition (s : State) (r : LcRecord) (b : Burn) : State :=
  let s := { s with life := { s.life with erasing := none } }
  let e := if (LcRecord.src r) = lcAssembly ∧ (LcRecord.dst r) = lcProvisioned then s.enrol b.pufOk else some s
  match e with
  | none => s.lcFail r lcOtpFail
  | some s =>
    let s := if (LcRecord.provisions r) then s.setOtp { s.life.otp with owner := (LcRecord.owner r) } else s
    if ¬ b.flashOk then s.lcFail r lcFlash
    else
      let s : State := { s with life := { s.life with slot := some r } }
      let s := s.lcStatus lcBurning 0
      if s.startup.pwrFail then s
      else
        let s := (s.setOtp (s.life.otp.burn (LcRecord.dst r) b.bits)).showMarks
        if s.life.otp.reached (LcRecord.dst r) then
          let s : State := { s with life := { s.life with done := true } }
          ((s.wr .lcsPending (LcRecord.dst r)).lcStatus lcDone 0).lcRecord r
        else s.lcFail r lcOtpFail

/-! ## Transitions (R462, R466) -/

/-- A transition of this pair erases under R466, or zeroises. -/
def LcRecord.erases (r : LcRecord) : Bool := (LcRecord.src r) == lcField
def LcRecord.zeroises (r : LcRecord) : Bool := (LcRecord.dst r) == lcScrapped && ((LcRecord.src r) == lcReturned || (LcRecord.src r) == lcProvisioned)

/-- A transition or token while another runs or waits for its reset (R463, R470). -/
def State.lcBusy (s : State) : Bool := s.life.done || s.life.erasing.isSome

/-- A record of KIND TRANSITION, checked and run as far as it can be at once. -/
def State.transition (s : State) (r : LcRecord) (b : Burn) : State :=
  let why := s.lcCheck r [1]
  let s := s.newNonce
  if why ≠ 0 then s.lcFail r why
  else
    let s := s.lcStatus lcChecking 0
    if (LcRecord.erases r) then
      let s := s.lcStatus lcErasing 0
      let s := s.each ((List.range 32).filter s.formed) (fun s p => s.resetPtn p .dissolve true)
      { s with life := { s.life with erasing := some r } }
    else if (LcRecord.zeroises r) then ((s.lcStatus lcErasing 0).zeroise).burnTransition r b
    else s.burnTransition r b

/-- LCS_TRANSITION, by V, I or S. -/
def State.transitionWrite (s : State) (role : Role) (r : LcRecord) (b : Burn) : Answer :=
  if !mayWrite [.w, .w, .n, .w, .n] role then s.refuse stDenied
  else if r.bytes.length ≠ 10848 then s.refuse stType
  else if s.lc = lcScrapped ∨ s.lc = lcLocked then s.refuse stLocked
  else if s.lcBusy then s.refuse stBusy
  else (stPending, s.transition r b)

/-- Every granule of a present stack written with zeros (R466, step 2): memory reads as zeros, and nothing is poisoned. -/
def State.eraseMemory (s : State) : State := { s with mem := [], poison := [] }

/-- The erasure ends: it fails where a partition is still formed, a check fails, or the engine or the hub has failed meanwhile. -/
def State.eraseDone (s : State) (verified : Bool) (b : Burn) : State :=
  match s.life.erasing with
  | none => s
  | some r =>
    if ¬ verified ∨ (List.range 32).any s.formed ∨ s.owl.fatalHub ∨ ¬ s.seUp then
      ({ s with life := { s.life with erasing := none } } : State).lcFail r lcErase
    else (s.eraseMemory.zeroise).burnTransition r b

/-! ## Tokens (R467) -/

/-- A token: its scopes open until the next hub reset. -/
def State.token (s : State) (r : LcRecord) : Nat × State :=
  let why := s.lcCheck r [2, 3]
  let s := s.newNonce
  if why ≠ 0 then (stAuth, s.lcStatus lcFailed why)
  else
    let t : State := { s with life := { s.life with opened := true } }
    (stOk, t.wr .lcsDebugScope (t.rd .lcsDebugScope ||| (LcRecord.scope r)))

/-- LCS_TOKEN, by V. -/
def State.tokenWrite (s : State) (role : Role) (r : LcRecord) : Answer :=
  if role ≠ .vendor then s.refuse stDenied
  else if r.bytes.length ≠ 10848 then s.refuse stType
  else if s.lc = lcScrapped ∨ s.lc = lcLocked then s.refuse stLocked
  else if s.lcBusy then s.refuse stBusy
  else s.token r

/-! ## The security version and boundary scan (R468, R469) -/

def State.svnCommit (s : State) (role : Role) (v : Nat) : Answer :=
  if role ≠ .vendor ∧ role ≠ .security then s.refuse stDenied
  else if 256 ≤ v then s.refuse stType
  else if ¬ (role = .vendor ∧ s.lc = lcProvisioned ∨ role = .security ∧ s.lc = lcField) ∨ s.startup.pwrFail then s.refuse stLocked
  else if v ≤ s.rd .lcsSvn ∨ s.rdField .secFwVersion 31 0 < v ∨ 64 < v then s.refuse stRange
  else
    let t := s.setOtp { s.life.otp with svn := 2 ^ v - 1 }
    (stOk, ((t.wr .lcsSvn v).wr .lcsSvnCommit v).remeasureAll)

def State.bscanWrite (s : State) (role : Role) (v : Nat) : Answer :=
  if role ≠ .security then s.refuse stDenied
  else if 1 < v then s.refuse stType
  else if s.lc ≠ lcField then s.refuse stLocked
  else (stOk, s.wr .lcsBscanEn v)

/-! ## The TAP (R468, R591–R593) -/

/-- IDCODE (R591). -/
def idcode : Nat := 0x153489CF

/-- An instruction that the life-cycle state admits (R468). -/
def State.tapAdmits (s : State) (i : TapIr) : Bool :=
  let lc := s.lc
  let dead := lc == lcScrapped || lc == lcLocked
  let scan (bit : Nat) : Bool := (s.rd .lcsDebugScope).testBit bit && (lc == lcWafer || lc == lcAssembly || lc == lcReturned)
  match i with
  | .idcode => true
  | .bypass => true
  | .lcStatus => true
  | .sample => !dead && (lc != lcField || s.rd .lcsBscanEn == 1)
  | .extest => !dead && (lc != lcField || s.rd .lcsBscanEn == 1)
  | .ieee1500 => !dead && lc != lcField
  | .lcToken => !dead && lc != lcField
  | .intscan => scan 0
  | .mbistAcc => scan 2

/-- An instruction selected, or BYPASS where it is not admitted, and what it does on entry. -/
def State.tapSelect (s : State) (i : TapIr) (k : State → State) : State :=
  let ok := s.tapAdmits i
  let t : State := { s with tap := { s.tap with ir := if ok then i else .bypass } }
  if ok then k t else t

/-- The scan of an opened scope: before its first shift the engine is zeroised and the hub leaves READY. -/
def State.scanEntry (s : State) : State :=
  if s.life.opened then
    let t : State := { s with life := { s.life with opened := false } }
    t.zeroise.wr .pdxReady 0
  else s

/-- A stack is taken out of service for a test: its home agent completes requests with poison, as under quiesce. -/
def State.stackOut (s : State) (h : Nat) : State :=
  let s := s.wr .hbmStacksPresent (clearBit (s.rd .hbmStacksPresent) h)
  (if s.stackUp h then (s.cancelMigs (fun m => m.touches h)).wr .hbmStackState stackQuiesced 0 h else s).poisonAll h

/-! ## The commands -/

def execLcsTransition (role : Role) (r : LcRecord) (burn : Burn) (s : State) : Host.Outcome State Fault Refusal :=
  .next (State.answered (s.transitionWrite role r burn))

def execLcsEraseDone (verified : Bool) (burn : Burn) (s : State) : Host.Outcome State Fault Refusal := .next (s.eraseDone verified burn)

def execLcsToken (role : Role) (r : LcRecord) (s : State) : Host.Outcome State Fault Refusal := .next (State.answered (s.tokenWrite role r))

def execLcsSvnCommit (role : Role) (v : Nat) (s : State) : Host.Outcome State Fault Refusal := .next (State.answered (s.svnCommit role v))

def execLcsBscanEnWrite (role : Role) (v : Nat) (s : State) : Host.Outcome State Fault Refusal := .next (State.answered (s.bscanWrite role v))

def execTapBypass (s : State) : Host.Outcome State Fault Refusal := .next (s.tapSelect .bypass id)

/-- IDCODE is shifted out. -/
def execTapIdcode (s : State) : Host.Outcome State Fault Refusal := .next (s.tapSelect .idcode (fun s => s.emit (.tdo idcode)))

def execTapSamplePreload (s : State) : Host.Outcome State Fault Refusal := .next (s.tapSelect .sample id)

/-- EXTEST: in FIELD it zeroises, and SEC_ZEROISED ends every partition. -/
def execTapExtest (s : State) : Host.Outcome State Fault Refusal :=
  .next (s.tapSelect .extest (fun s => if s.lc = lcField then s.zeroise else s))

/-- IEEE1500, with the stack in [2:0] of its register. -/
def execTapIeee1500 (reg : Nat) (s : State) : Host.Outcome State Fault Refusal :=
  .next (s.tapSelect .ieee1500 (fun s =>
    let h := reg % 8
    let s := (s.setTemp h { s.temp h with off := true }).stackOut h
    { s with tap := { s.tap with stack := some h } }))

/-- LC_TOKEN: a record or a token is shifted in. -/
def execTapLcToken (r : LcRecord) (burn : Burn) (s : State) : Host.Outcome State Fault Refusal :=
  .next (s.tapSelect .lcToken (fun s =>
    if s.lcBusy then s else if (LcRecord.kind r) = 1 then s.transition r burn else (s.token r).2))

/-- LC_STATUS: the state code in [3:0] and LCS_PENDING in [7:4]. -/
def execTapLcStatus (s : State) : Host.Outcome State Fault Refusal :=
  .next (s.tapSelect .lcStatus (fun s => s.emit (.tdo (s.lc % 16 + s.rd .lcsPending % 16 * 16))))

def execTapIntscan (s : State) : Host.Outcome State Fault Refusal := .next (s.tapSelect .intscan State.scanEntry)

def execTapMbistAcc (s : State) : Host.Outcome State Fault Refusal := .next (s.tapSelect .mbistAcc State.scanEntry)

/-- TRST_N: the TAP resets to IDCODE (notes/assumptions/6.md). A scope in force stays (R629). -/
def execTapReset (s : State) : Host.Outcome State Fault Refusal := .next { s with tap := {} }

end Sys2Proof.Machine
end

