-- ==== Sys2Proof/Machine/Power.lean ====
section
/-! DEFINITION. Thermal trips, the hub's own protection, the stack thermal policy, and the package budget arbiter
(R603–R613). What an edge and a cutoff do here is called by Edge.lean. -/

namespace Sys2Proof.Machine

/-! ## Trips (R604) -/

/-- A comparator trips: every tile clock stops, until the next hub cold reset. -/
def execPwrThermtrip (s : State) : Host.Outcome State Fault Refusal :=
  .next (({ s with power := { s.power with trip := true } } : State).ev Ev.pwrThermtrip)

/-! ## Sensors (R603) -/

/-- Sensors, of which the first 64 are the plots'. -/
def sensorCount : Nat := 88

/-- A reading in force, in units of 0.25 °C. -/
def State.sensor (s : State) (i : Nat) : Int := signed 16 (s.rdField .pwrSensors (16 * i + 15) (16 * i))

/-- A sensor read at a cutoff. One that gives no valid reading twice in a row reads PWR_TJ_CRIT; until then it keeps its last
reading. -/
def State.readSensor (s : State) (i : Nat) (r : Option Int) : State :=
  let n := s.power.missed.get i 0
  match r with
  | some v =>
    let s : State := { s with power := { s.power with missed := s.power.missed.erase i } }
    s.wrField .pwrSensors (16 * i + 15) (16 * i) (twos 16 v)
  | none =>
    let s : State := { s with power := { s.power with missed := s.power.missed.set i (n + 1) } }
    if n = 0 then s
    else
      let s := s.wrField .pwrSensors (16 * i + 15) (16 * i) (4 * s.rd .pwrTjCrit)
      if n = 1 then s.ev Ev.pwrSensorFail none (Config.detail [i]) else s

/-- Every sensor is read at a cutoff, and PWR_TJ is the highest reading. -/
def State.readSensors (s : State) (rs : List (Option Int)) : State :=
  let s := s.each (List.range sensorCount) (fun s i => s.readSensor i (rs.getD i none))
  let top := (List.range sensorCount).foldl (fun (m : Int) i => max m (s.sensor i)) (s.sensor 0)
  s.wr .pwrTj (twos 32 top)

/-- PWR_TJ in units of 0.25 °C. -/
def State.tj (s : State) : Int := signed 32 (s.rd .pwrTj)

/-! ## Hub protection (R605, R606) -/

/-- A threshold in °C as a reading. -/
def State.hotAt (s : State) : Int := 4 * (s.rd .pwrTjHigh : Int)
def State.coolAt (s : State) : Int := 4 * ((s.rd .pwrTjHigh : Int) - s.rd .pwrTjHyst)
def State.critAt (s : State) : Int := 4 * (s.rd .pwrTjCrit : Int)
def State.critOff (s : State) : Int := 4 * ((s.rd .pwrTjCrit : Int) - s.rd .pwrTjHyst)

/-- The limit in effect of a partition and the fabric duty in effect: the lowest and the highest that a row sets. -/
def Power.limit (x : Power) (p : Nat) : Nat := min (x.tempMhz.get p 1300) (x.drawMhz.get p 1300)
def Power.duty (x : Power) : Nat := max x.tempDuty x.drawDuty

/-- PWR_TJ_CRIT holds after this cutoff. -/
def State.critHolds (s : State) : Bool :=
  decide (s.critAt ≤ s.tj) || (s.power.crit && decide (s.critOff < s.tj))

/-- The limit that the plot sensors of a partition set (first row). -/
def State.tempLimit (s : State) (p : Nat) : Nat :=
  let ts := (s.plotsOf p).map s.sensor
  let now := s.power.tempMhz.get p 1300
  if s.critHolds then 600
  else if ts.any (fun t => decide (s.hotAt ≤ t)) then max 600 (s.power.limit p - 100)
  else if ts.all (fun t => decide (t ≤ s.coolAt)) then min 1300 (now + 50)
  else now

/-- The duty that the other sensors set (second row). -/
def State.tempLevel (s : State) : Nat :=
  let ts := ((List.range sensorCount).drop 64).map s.sensor
  if s.critHolds then 4
  else if ts.any (fun t => decide (s.hotAt ≤ t)) then min 4 (s.power.duty + 1)
  else if ts.all (fun t => decide (t ≤ s.coolAt)) then s.power.tempDuty - 1
  else s.power.tempDuty

/-- What the draw of the closed beat sets (last row): the limits, the duty, and the beats below 95 % of the reserve. -/
def State.drawProtect (s : State) : Power :=
  let x := s.power
  let draw := s.rd .pwrHubDraw
  let reserve := 8 * s.rd .pwrHubReserve
  let calm := if 100 * draw < 95 * reserve then x.calm + 1 else 0
  if reserve < draw then
    if (List.range 32).all (fun p => x.limit p == 600) then { x with calm, drawDuty := min 4 (x.duty + 1) }
    else
      let m : AMap Nat := (List.range 32).foldl (fun (m : AMap Nat) p =>
        if 600 < x.limit p then AMap.put m p (max 600 (x.limit p - 50)) 1300 else m) x.drawMhz
      { x with calm, drawMhz := m }
  else if calm < s.rd .pwrReleaseBeats then { x with calm }
  else if 0 < x.drawDuty then { x with calm, drawDuty := x.drawDuty - 1 }
  else
    let m : AMap Nat := (List.range 32).foldl (fun (m : AMap Nat) p => AMap.put m p (min 1300 (m.get p 1300 + 50)) 1300) x.drawMhz
    { x with calm, drawMhz := m }

/-- The hub's protection at an edge, from the readings of the last cutoff and the draw of the closed beat. -/
def State.protect (s : State) : State :=
  let d := s.drawProtect
  let temp : AMap Nat := (List.range 32).foldl (fun (m : AMap Nat) p => AMap.put m p (s.tempLimit p) 1300) []
  let duty := s.tempLevel
  let t : State := { s with power := { d with tempMhz := temp, tempDuty := duty, crit := s.critHolds } }
  let t := t.each (List.range 32) (fun t p => t.wr .pwrLimitMhz (t.power.limit p) 0 p)
  let t := t.wr .pwrFabricDuty t.power.duty
  let t := if s.critAt ≤ s.tj then t.ev Ev.pwrTjCrit else t
  if 8 * s.rd .pwrHubReserve < s.rd .pwrHubDraw then t.ev Ev.pwrHubOver else t

/-! ## Decisions on hot stacks (R607, R608) -/

/-- A stack whose last reading is hot, or that is throttled. -/
def State.asks (s : State) (h : Nat) : Bool :=
  decide ((s.rd .hbmTempHigh : Int) ≤ signed 32 (s.rd .hbmTemp 0 h)) || s.rd .hbmThrottleLevel 0 h != 0

/-- What PWR_THERM_REQ says of a stack. -/
def State.thermWord (s : State) (h : Nat) : Nat :=
  s.rd .hbmTemp 0 h % 256 * 2 ^ 16 + s.rd .hbmThrottleLevel 0 h % 4 * 2 ^ 14 + s.rd .hbmRefreshRate 0 h % 2 * 2 ^ 13
    + (if s.rd .hbmStackState 0 h = 3 then 2 ^ 12 else 0)

/-- In host mode the hub asks for a decision at an edge while a stack is hot. -/
def State.askHost (s : State) : State :=
  let hot := s.rd .pwrThermMode = 1 ∧ (List.range 8).any s.asks
  let n := s.beat.number.toNat
  if hot then
    let v := n * 2 ^ 208 + (List.range 8).foldl (fun a h => a + s.thermWord h * 2 ^ (24 * h)) 0
    ({ s with power := { s.power with asked := some n } } : State).wr .pwrThermReq v
  else { s with power := { s.power with asked := none } }

/-- A stack's part of the decision for the beat that has just opened, where one stands with VALID set. -/
def State.decided (s : State) (h : Nat) : Option Nat :=
  match s.power.decision with
  | some v =>
    let b := field v (8 * h + 7) (8 * h)
    if field v 127 80 = s.beat.number.toNat ∧ b.testBit 7 then some b else none
  | none => none

/-- A decision was asked for the beat that has just opened, and none has come. -/
def State.decisionMissed (s : State) : Bool :=
  match s.power.asked with
  | some n => n + 1 == s.beat.number.toNat && (match s.power.decision with
    | some v => field v 127 80 != s.beat.number.toNat
    | none => true)
  | none => false

/-- PWR_THERM_DECIDE, in time for beat n + 1 and with its fields in range. -/
def State.thermDecideOk (s : State) (v : Nat) : Bool :=
  field v 127 80 == s.beat.number.toNat + 1 && !s.beat.cutoff && field v 79 64 == 0
    && (List.range 8).all (fun h => decide (field v (8 * h + 5) (8 * h + 2) ≤ 8))

def State.pwrThermDecide (s : State) (role : Role) (v : Nat) : Answer :=
  if !mayWrite [.r, .r, .b, .r, .n] role then s.refuse stDenied
  else if !s.thermDecideOk v then s.refuse stRange
  else (stOk, ({ s with power := { s.power with decision := some v } } : State).wr .pwrThermDecide v)

def execPwrThermDecide (role : Role) (v : Nat) (s : State) : Host.Outcome State Fault Refusal :=
  .next (State.answered (s.pwrThermDecide role v))

/-! ## The package budget (R609–R613) -/

def State.sitePwr (s : State) (k : Nat) : SitePwr := s.power.sites.get k {}

def State.setSitePwr (s : State) (k : Nat) (x : SitePwr) : State :=
  { s with power := { s.power with sites := s.power.sites.put k x {} } }

/-- A site in use. -/
def State.siteUsed (s : State) (k : Nat) : Bool := s.rd .uciLinkState k == lsUp || s.rd .uciLinkState k == lsDegraded

/-- PWR_MAX of a chiplet's CAP, in 1/8 W. -/
def State.pwrMax (s : State) (k : Nat) : Nat := 8 * s.rdField .uciCap 45 30 k

/-- The request of a site, and its floor, in 1/8 W. A site under penalty requests its floor. -/
def State.siteReq (s : State) (k : Nat) : Nat := min ((s.sitePwr k).request.getD (s.pwrMax k)) (s.pwrMax k)
def State.siteFloor (s : State) (min' k : Nat) : Nat := min (8 * min') (s.siteReq k)

/-- A PWR message of the hub: KIND, beat and budget. -/
def State.pwrSend (s : State) (k kind watts : Nat) : State :=
  s.sbxRequest k sbxPwr (kind * 2 ^ 120 + s.beat.number.toNat % 2 ^ 32 * 2 ^ 88 + watts % 2 ^ 16 * 2 ^ 72)

def pwrOffer : Nat := 1
def pwrReport : Nat := 2
def pwrRevoke : Nat := 3
def pwrRevokeAck : Nat := 4

/-- A chiplet revoked to its floor at once (R612). -/
def State.revokeSite (s : State) (k : Nat) : State :=
  let x := s.sitePwr k
  if x.revoked ∨ x.unsupported ∨ !s.siteUsed k then s
  else
    let b := min (s.rd .pwrSiteBudget 0 k) (s.siteFloor (s.rd .pwrSiteMin 0 k) k)
    let s := (s.setSitePwr k { x with revoked := true, waiting := true }).wr .pwrSiteBudget b 0 k
    s.pwrSend k pwrRevoke b

/-- The value of an entry in the beat that follows: a written one waits for the edge. -/
def State.coming (s : State) (r : Reg) (sub : Nat := 0) : Nat := s.dict.shadow.get (r.key 0 sub) (s.rd r 0 sub)

/-- A request, its floor and its share, by which a site is allocated its budget. -/
structure Claimed where
  site : Nat
  req : Nat
  low : Nat
  deriving DecidableEq, Repr

/-- The budgets of the sites that take part: floors first, then what is left by the excess of each request (R611). -/
def shareOut (avail : Int) (cs : List Claimed) : List (Nat × Nat) :=
  let floors := cs.foldl (fun n c => n + c.low) 0
  let excess := cs.foldl (fun n c => n + (c.req - c.low)) 0
  let a := avail.toNat
  if a < floors then cs.map (fun c => (c.site, c.low * a / floors))
  else
    let rest := a - floors
    cs.map (fun c => (c.site, c.low + (if excess ≤ rest then c.req - c.low else (c.req - c.low) * rest / excess)))

/-- The sum of the floors exceeds what is available. -/
def sharesShort (avail : Int) (cs : List Claimed) : Bool := decide (avail < (cs.foldl (fun n c => n + c.low) 0 : Nat))

/-- A site's books at a cutoff: one not in use loses its budget, and a report that has not come is taken as the budget and
PWR_MAX (R610, R614). -/
def State.closeBooks (s : State) (k : Nat) : State :=
  let x := s.sitePwr k
  if !s.siteUsed k then (s.setSitePwr k {}).wr .pwrSiteBudget 0 0 k
  else if x.reported then s
  else (s.setSitePwr k { x with request := some (s.pwrMax k), isOver := false }).wr .pwrSiteDraw x.before 0 k

/-- The allocation for the coming beat (R611). -/
def State.allocate (s : State) : State :=
  let s := s.each (List.range 8) State.closeBooks
  let used := (List.range 8).filter s.siteUsed
  let apart := used.filter (fun k => (s.sitePwr k).unsupported)
  let avail : Int := 8 * ((s.coming .pwrPkgBudget : Int) - s.coming .pwrHubReserve) - (apart.foldl (fun n k => n + s.pwrMax k) 0 : Nat)
  let cs := (used.filter (fun k => !(s.sitePwr k).unsupported)).map (fun k =>
    let low := s.siteFloor (s.coming .pwrSiteMin k) k
    let c : Claimed := { site := k, req := if 0 < (s.sitePwr k).penalty then low else s.siteReq k, low }
    c)
  let out := shareOut avail cs ++ apart.map (fun k => (k, s.pwrMax k))
  let s := s.each out (fun s (e : Nat × Nat) =>
    let x := s.sitePwr e.1
    s.setSitePwr e.1 { x with next := e.2, penalty := x.penalty - 1 })
  let s := if sharesShort avail cs then s.ev Ev.pwrBudgetShort else s
  if s.critHolds then s.each (List.range 8) State.revokeSite else s

/-- The offers of an edge (R610, R612): `lowered` says that the edge applies a lower package budget. -/
def State.offers (s : State) (lowered : Bool) : State :=
  s.each ((List.range 8).filter s.siteUsed) (fun s k =>
    let x := s.sitePwr k
    let old := s.rd .pwrSiteBudget 0 k
    let s := s.setSitePwr k { x with before := old, reported := false }
    if s.power.crit ∨ (lowered ∧ x.next < old) then s.revokeSite k
    else
      let s := (s.setSitePwr k { x with before := old, reported := false, revoked := false }).wr .pwrSiteBudget x.next 0 k
      s.pwrSend k pwrOffer x.next)

/-- A REPORT on the beat before (R610, R613). -/
def State.pwrReported (s : State) (k payload : Nat) : State :=
  let x := s.sitePwr k
  let draw := field payload 87 72
  let isOver := decide (x.before < draw)
  let late := s.beat.cutoff || field payload 119 88 + 1 != s.beat.number.toNat % 2 ^ 32
  if field payload 127 120 ≠ pwrReport ∨ late ∨ x.reported then s
  else
    let s := s.wr .pwrSiteDraw draw 0 k
    let y := { x with reported := true, isOver, request := some (field payload 71 56) }
    if isOver ∧ x.isOver then
      (s.setSitePwr k { y with penalty := s.rd .pwrPenaltyBeats }).ev (Ev.pwrChipletOver k)
    else s.setSitePwr k y

def execSbxPwrReport (k txn payload : Nat) (s : State) : Host.Outcome State Fault Refusal :=
  .next (if s.sbxBusy false then s.sbxAnswer k sbxPwr txn 2 else (s.sbxAnswer k sbxPwr txn 0).pwrReported k payload)

/-- A REVOKE is acknowledged (R612). -/
def execSbxPwrRevokeAck (k txn payload : Nat) (s : State) : Host.Outcome State Fault Refusal :=
  .next (if s.sbxBusy false then s.sbxAnswer k sbxPwr txn 2
    else
      let s := s.sbxAnswer k sbxPwr txn 0
      if field payload 127 120 = pwrRevokeAck then s.setSitePwr k { s.sitePwr k with waiting := false } else s)

/-- PWR_REVOKE_TIME passes without it. -/
def execPwrRevokeTimeout (k : Nat) (s : State) : Host.Outcome State Fault Refusal :=
  .next (if (s.sitePwr k).waiting then (s.setSitePwr k { s.sitePwr k with waiting := false }).ev (Ev.pwrRevokeMiss k) else s)

end Sys2Proof.Machine
end

