-- ==== Sys2Proof/Machine/Recorder.lean ====
section
/-! DEFINITION. The commands of Owl and of Squirrel, but for triage. -/

namespace Sys2Proof.Machine

/-! ## Owl -/

/-- A detector's event reaches Owl: counted or raised, latched, escalated, reacted to, recorded
(R545–R553). A code of no source is no event, and nothing happens. -/
def execFaultEvent (code : Nat) (ptn : Option Nat) (detail sev : Nat) (s : State) : Host.Outcome State Fault Refusal :=
  .next (s.report { code, ptn, detail, sev := Severity.ofCode sev })

/-- W ends before the N-th event: the count returns to zero without a raise (R548). -/
def execOwlCountWindowExpiry (code : Nat) (s : State) : Host.Outcome State Fault Refusal :=
  .next { s with owl := { s.owl with windows := s.owl.windows.erase code } }

/-- A write that acknowledges a latch must carry its CODE in [63:48] and its BEAT in [47:0] (R552). -/
def ackMatches (l : Option Latch) (v : Word) : Bool :=
  match l with
  | none => false
  | some l => decide ((v.extractLsb' 48 16).toNat = l.code % 65536) && decide (v.extractLsb' 0 48 = l.beat)

/-- OWL_ACK (R552): the tenant is refused once LEVEL is above CONTAINED, a mismatch is refused with
RANGE, a match clears the latch. Access nnbbb (R562). -/
def State.owlAck (s : State) (role : Role) (p : Nat) (v : Word) : Answer :=
  if role = .vendor ∨ role = .integrator then s.refuse stDenied
  else
    let l := s.owl.latches.find p
    if role = .tenant ∧ (l.map (fun l => decide (2 ≤ l.level.rank))).getD false then s.refuse stDenied
    else if ackMatches l v then (stOk, (s.wr .owlAck v.toNat 0 p).clearLatch p)
    else s.refuse stRange

/-- OWL_HUB_ACK (R552), by the operator or the security officer. -/
def State.owlHubAck (s : State) (role : Role) (v : Word) : Answer :=
  if role ≠ .operator ∧ role ≠ .security then s.refuse stDenied
  else if ackMatches (s.owl.latches.find hubLatch) v then (stOk, (s.wr .owlHubAck v.toNat).clearLatch hubLatch)
  else s.refuse stRange

def execOwlAck (role : Role) (p : Nat) (v : Word) (s : State) : Host.Outcome State Fault Refusal :=
  .next (State.answered (s.owlAck role p v))

def execOwlHubAck (role : Role) (v : Word) (s : State) : Host.Outcome State Fault Refusal :=
  .next (State.answered (s.owlHubAck role v))

/-! ## Squirrel -/

/-- SQL_FLUSH: writing 1 starts a flush and returns PENDING, other values are refused with RANGE
(R571, R577: access nwwwn). -/
def State.sqlFlush (s : State) (role : Role) (v : Nat) : Answer :=
  if role = .vendor ∨ role = .tenant then s.refuse stDenied
  else if v ≠ 1 then s.refuse stRange
  else (stPending, s.startFlush)

def execSqlFlush (role : Role) (v : Nat) (s : State) : Host.Outcome State Fault Refusal :=
  .next (State.answered (s.sqlFlush role v))

/-- The flush ends: with the buffer empty, or at the record whose read-back failed twice, which leaves it
and the later ones buffered, SQL_STATE FAILED and SQL_STORE_FAIL reported (R571, R573). -/
def execSqlFlushDone (failed : Option Nat) (s : State) : Host.Outcome State Fault Refusal :=
  .next (if s.sql.flushing then
      match failed with
      | none => s.endFlush.sqlSettle
      | some i =>
        let t := s.writeOut (s.sql.buffer.take i)
        let t := { t with sql := { t.sql with buffer := t.sql.buffer.drop i, flushing := false } }
        ((t.wr .sqlBuffered (s.sql.buffer.length - i)).wr .sqlState storeFailed).ev Ev.sqlStoreFail
    else s)

/-- SQL_FLUSH_DEADLINE passes after SQL_FILL without a write of SQL_FLUSH in host mode: no flush, and
SQL_FLUSH_MISS is reported (R572). -/
def execSqlFlushDeadlineExpiry (s : State) : Host.Outcome State Fault Refusal :=
  .next (if s.rd .sqlFlushMode = 1 ∧ s.sql.fillRaised ∧ ¬ s.sql.flushing then s.ev Ev.sqlFlushMiss else s)

/-- A bucket gains one token each PERIOD, up to BURST (R566). -/
def execSqlTokenRefill (code : Nat) (s : State) : Host.Outcome State Fault Refusal :=
  .next (let b := s.bucket code
    if b.period ≠ 0 ∧ b.tokens < b.burst then s.setBucket code { b with tokens := b.tokens + 1 } else s)

/-- A store command is taken: PENDING; outside its conditions LOCKED (R575); while another runs BUSY
(notes/assumptions/9.md). -/
def State.storeCmd (s : State) (c : StoreCmd) (ok : Bool) : Answer :=
  if ¬ ok then s.refuse stLocked
  else if s.sql.cmd.isSome then s.refuse stBusy
  else (stPending, { s with sql := { s.sql with cmd := some c } })

/-- Roles and states of ERASE_CIRC (R575). -/
def State.mayEraseCirc (s : State) (role : Role) : Bool :=
  match role with
  | .security => s.lc == lcField
  | .integrator => s.lc == lcAssembly || s.lc == lcProvisioned
  | .vendor => s.lc == lcReturned
  | _ => false

def State.mayEraseFirst (s : State) (role : Role) : Bool := role == .vendor && s.lc == lcReturned

def State.mayFormat (s : State) (role : Role) : Bool :=
  (role == .integrator || role == .security) && (s.rd .sqlState == storeForeign || s.rd .sqlState == storeFailed)

def execSqlStoreEraseCirc (role : Role) (s : State) : Host.Outcome State Fault Refusal :=
  .next (State.answered (s.storeCmd .eraseCirc (s.mayEraseCirc role)))

def execSqlStoreEraseFirst (role : Role) (s : State) : Host.Outcome State Fault Refusal :=
  .next (State.answered (s.storeCmd .eraseFirst (s.mayEraseFirst role)))

def execSqlStoreFormat (role : Role) (s : State) : Host.Outcome State Fault Refusal :=
  .next (State.answered (s.storeCmd .format (s.mayFormat role)))

/-- EXT of a START record (R564): kind of start, result, halt, elapsed µs. -/
def State.startExt (s : State) : Nat :=
  s.rd .pdxLastStart * 2 ^ 120 + s.rd .pdxBringupResult * 2 ^ 112 + s.rd .pdxBringupHalt * 2 ^ 96
    + s.rd .pdxBringupElapsed / 1000 % 2 ^ 32 * 2 ^ 64

/-- The effect of a store command (R575). -/
def State.finishStore (s : State) (c : StoreCmd) : State :=
  match c with
  | .eraseCirc =>
    let keep := (s.store.circ.where (fun _ r => s.store.carries r)).map (·.2)
    let t := { s with store := { s.store with circ := [], head := 0 } }
    let t := { t with store := { t.store with
        circ := keep.zipIdx.map (fun (e : Record × Nat) => (e.2, e.1)), head := keep.length % circSlots } }
    ((t.storeRecord (t.newRecord .start 0 .corrected none false false 0 t.startExt)).bump .sqlSeq).drawn
  | .eraseFirst => { s with store := { s.store with first := [] } }
  | .format =>
    { s with store := { s.store with unitId := some (s.rd .lcsUnitId), first := [], circ := [], head := 0 } }.wr .sqlState storeReady

/-- A store command ends; it waits while a flush runs (R576). -/
def execSqlStoreCmdDone (s : State) : Host.Outcome State Fault Refusal :=
  .next (match s.sql.cmd with
    | some c => if s.sql.flushing then s else
        { (s.finishStore c) with sql := { (s.finishStore c).sql with cmd := none } }
    | none => s)

end Sys2Proof.Machine
end

