-- ==== Sys2Proof/Machine/Slot.lean ====
section
/-! DEFINITION. The host link and the module slot: presence, insertion, removal and loss of the host, and the resets of its
functions (R472–R474, R486, R489–R493). -/

namespace Sys2Proof.Machine

/-! ## The slot register (R489) -/

def slotEmpty : Nat := 0
def slotPowering : Nat := 1
def slotPowered : Nat := 2
def slotRemovePending : Nat := 3
def slotPoweringOff : Nat := 4
def slotFault : Nat := 5

/-- Indicators: off, on, blink. -/
def indOff : Nat := 0
def indOn : Nat := 1
def indBlink : Nat := 2

def State.slotState (s : State) : Nat := s.rdField .hepSlot 23 21
def State.setSlot (s : State) (st : Nat) : State := s.wrField .hepSlot 23 21 st
/-- HOST_PRSNT_N, HOST_PG1 and HOST_PG2 as debounced, and BUTTON. -/
def State.slotBit (s : State) (i : Nat) : Bool := (s.rd .hepSlot).testBit i
def State.setSlotBit (s : State) (i : Nat) (on : Bool) : State := s.wrField .hepSlot i i (if on then 1 else 0)
def State.attnInd (s : State) (v : Nat) : State := s.wrField .hepSlot 15 14 v
def State.pwrInd (s : State) (v : Nat) : State := s.wrField .hepSlot 13 12 v

def slotPresent : Nat := 20
def slotPg1 : Nat := 19
def slotPg2 : Nat := 18
def slotButton : Nat := 17

/-- The controller runs from the start of controller firmware onward, and the PCIe block is up from then on (R522). -/
def State.slotRuns (s : State) : Bool := decide (3 ≤ s.rd .pdxBringupStep)

def State.slotPower (s : State) (en1 en2 : Bool) : State := { s with hep := { s.hep with en1, en2 } }

/-! ## The link and its functions -/

/-- The answers of a set of functions to requests already issued are discarded when they come. -/
def State.hostDrop (s : State) (mine : Nat → Bool) : State :=
  { s with
    hep := { s.hep with queue := s.hep.queue.where (fun p _ => !mine p) }
    noc := { s.noc with trackers := s.noc.trackers.mapVal (fun _ (k : Tracker) =>
      if k.entry = .host ∧ mine k.lab.ptn then { k with timedOut := true } else k) } }

/-- The mailbox of a function loses its frames in reassembly and its response; a request being served completes (R515). -/
def State.boxDrop (s : State) (fn : Nat) : State :=
  let box : Mailbox := s.hep.boxes.get fn {}
  let ep : DictEp := if fn = 0 then .pf0 else .vf (fn - 1)
  { s with
    hep := { s.hep with boxes := s.hep.boxes.put fn { box with busy := false, done := false, rest := [], buffer := [], rlen := 0 } {} }
    dict := { s.dict with frames := s.dict.frames.filter (fun a => a.ep != ep) } }

/-- What a reset of any function clears (R486): its MSI-X table with its pending bits, its header, its mailbox. -/
def State.fnReset (s : State) (fn : Nat) : State :=
  let s := s.boxDrop fn
  { s with hep := { s.hep with
      msixTab := s.hep.msixTab.where (fun k _ => k / 2048 != fn)
      msixPend := s.hep.msixPend.where (fun k _ => k / 2048 != fn)
      fnMask := s.hep.fnMask.erase fn
      header := s.hep.header.where (fun k _ => k / 16 != fn) } }

/-- A Function Level Reset of a partition's VF (R486). -/
def State.vfFlr (s : State) (p : Nat) : State :=
  let s := (s.hostDrop (· == p)).fnReset (p + 1)
  { s with hep := { s.hep with
      wtt := s.hep.wtt.where (fun k _ => k / 1024 != p)
      slots := s.hep.slots.where (fun k _ => k / 128 != p)
      refused := s.hep.refused.erase p } }

/-- A Function Level Reset of PF0 (R486). -/
def State.pfFlr (s : State) : State :=
  let s := (s.exportEnd xpAborted).fnReset 0
  { s with hep := { s.hep with vfEnable := false } }

/-- Every function is reset. -/
def State.allFlr (s : State) : State := (s.each (List.range 32) State.vfFlr).pfFlr

/-- The link goes down: nothing more is issued, answers are discarded, and pending messages are discarded and counted (R485, R492,
R515). -/
def State.linkDown (s : State) : State :=
  let s := (s.exportEnd xpLinkLost).hostDrop (fun _ => true)
  let s := s.each (List.range 33) State.boxDrop
  let s := s.bump .hepIntrDiscarded 0 0 s.hep.msixPend.length
  let s : State := { s with hep := { s.hep with msixPend := [], l2 := false } }
  s.wr .hepLinkState 0

/-- A surprise loss (R492). A removal that was pending is over. -/
def State.surpriseLoss (s : State) : State :=
  if s.rd .hepLinkState = 0 then s
  else
    let s := ((s.linkDown).bump .hepSurpriseLosses).ev Ev.hepSurprise
    let s : State := { s with hep := { s.hep with acked := false, waited := false } }
    if s.slotState = slotRemovePending then s.setSlot slotPowered else s

/-- The link goes down: the end of an orderly removal after REMOVE_ACK (R491), else a surprise loss. -/
def State.linkLost (s : State) : State :=
  if s.slotState = slotRemovePending ∧ s.hep.acked then
    if s.rd .hepLinkState = 0 then s
    else
      let s := ((s.linkDown).bump .hepOrderlyRemovals).slotPower false false
      let s := (s.pwrInd indOff).setSlot (if s.slotBit slotPresent then slotPoweringOff else slotEmpty)
      { s with hep := { s.hep with acked := false, waited := false } }
  else s.surpriseLoss

/-- The host link comes up, with its rate and width (R490). -/
def State.linkIsUp (s : State) (rate width : Nat) : State :=
  if ¬ s.slotRuns ∨ s.hep.perst then s
  else
    let s := (s.wr .hepLinkState linkUp).wr .hepLinkRate (width % 256 * 256 + rate % 256)
    if s.slotState = slotPowered then s.pwrInd indOn else s

/-- HOST_PERST_N asserts: every function is reset and the link goes down (R486). -/
def State.perstAssert (s : State) : State :=
  let s := s.linkLost.allFlr
  ({ s with hep := { s.hep with perst := true } } : State).wr .hepLinkState 0

/-- HOST_PERST_N deasserts: the link trains (R474). -/
def State.perstDeassert (s : State) : State :=
  let s : State := { s with hep := { s.hep with perst := false } }
  if s.slotRuns ∧ s.rd .hepLinkState = 0 then s.wr .hepLinkState 1 else s

/-! ## Insertion (R490) -/

def State.prsntAssert (s : State) : State :=
  if ¬ s.slotRuns ∨ s.slotBit slotPresent then s
  else
    let s := (s.setSlotBit slotPresent true).attnInd indOff
    if s.slotState = slotEmpty then ((s.setSlot slotPowering).pwrInd indBlink).slotPower true false else s

def State.pg1Assert (s : State) : State :=
  if ¬ s.slotRuns then s
  else
    let s := s.setSlotBit slotPg1 true
    if s.slotState = slotPowering ∧ s.hep.en1 then s.slotPower true true else s

def State.pg2Assert (s : State) : State :=
  if ¬ s.slotRuns then s
  else
    let s := s.setSlotBit slotPg2 true
    if s.slotState = slotPowering ∧ s.hep.en2 then s.setSlot slotPowered else s

def State.pgTimeout (s : State) : State :=
  if s.slotState = slotPowering then (((s.slotPower false false).setSlot slotFault).attnInd indOn).ev Ev.hepSlotFault else s

/-! ## Removal (R491) -/

/-- Back to POWERED. -/
def State.removeEnds (s : State) : State :=
  let s : State := { s with hep := { s.hep with acked := false, waited := false } }
  (s.setSlot slotPowered).pwrInd indOn

def State.attnPress (s : State) : State :=
  let st := s.slotState
  if ¬ s.slotRuns ∨ st = slotPowering then s
  else
    let s := s.setSlotBit slotButton true
    if st = slotPowered then
      let s : State := { s with hep := { s.hep with acked := false, waited := false } }
      ((s.setSlot slotRemovePending).pwrInd indBlink).msix 0 2
    else if st = slotRemovePending ∧ ¬ s.hep.waited then s.removeEnds
    else s

def State.removeCancel (s : State) : State := if s.slotState = slotRemovePending ∧ ¬ s.hep.waited then s.removeEnds else s

/-- Five seconds have passed and REMOVE_ACK has come: a running export ends. -/
def State.removeGo (s : State) : State := if s.hep.acked ∧ s.hep.waited then s.exportEnd xpLinkLost else s

def State.removeAck (s : State) : State :=
  if s.slotState = slotRemovePending then ({ s with hep := { s.hep with acked := true } } : State).removeGo else s

def State.removeWaitEnd (s : State) : State :=
  if s.slotState = slotRemovePending then ({ s with hep := { s.hep with waited := true } } : State).removeGo else s

def State.removeMiss (s : State) : State :=
  if s.slotState = slotRemovePending ∧ ¬ s.hep.acked then ((s.removeEnds).attnInd indOn).ev Ev.hepRemoveMiss else s

/-- Presence deasserts: power goes off; a link still in use is lost (R490–R492). -/
def State.prsntDeassert (s : State) : State :=
  if ¬ s.slotRuns ∨ !s.slotBit slotPresent then s
  else
    let st := s.slotState
    let s := s.setSlotBit slotPresent false
    if st = slotPoweringOff ∨ st = slotFault ∨ st = slotEmpty then s.setSlot slotEmpty
    else if st = slotRemovePending ∧ s.hep.acked then s.linkLost
    else (((s.surpriseLoss.slotPower false false).pwrInd indOff).attnInd indOn).setSlot slotEmpty

/-- A write of the slot register: BUTTON clears, REMOVE_ACK and CANCEL act, ATTN_IND is set. -/
def State.slotWrite (s : State) (v : Nat) : State :=
  let s := if v.testBit slotButton then s.setSlotBit slotButton false else s
  let s := s.attnInd (field v 15 14)
  let s := if v.testBit 16 then s.removeAck else s
  if v.testBit 11 then s.removeCancel else s

/-- The stable level of an input (R489). -/
def State.debounced (s : State) (pin : SlotPin) (level : Bool) : State :=
  match pin, level with
  | .prsnt, true => s.prsntAssert
  | .prsnt, false => s.prsntDeassert
  | .attn, true => s.attnPress
  | .attn, false => s
  | .pg1, true => s.pg1Assert
  | .pg2, true => s.pg2Assert
  | .pg1, false => if s.slotRuns then s.setSlotBit slotPg1 false else s
  | .pg2, false => if s.slotRuns then s.setSlotBit slotPg2 false else s

/-! ## The commands -/

def execPcieLinkUp (rate width : Nat) (s : State) : Host.Outcome State Fault Refusal := .next (s.linkIsUp rate width)
def execHostLinkDown (s : State) : Host.Outcome State Fault Refusal := .next s.linkLost
def execSurpriseLoss (s : State) : Host.Outcome State Fault Refusal := .next s.surpriseLoss
def execHostPerst (s : State) : Host.Outcome State Fault Refusal := .next s.perstAssert
def execHostPerstDeassert (s : State) : Host.Outcome State Fault Refusal := .next s.perstDeassert

/-- PME_Turn_Off: acknowledged, and the link goes to L2 (R472). -/
def execPmeTurnOff (s : State) : Host.Outcome State Fault Refusal :=
  .next (if s.rd .hepLinkState = linkUp then ({ s with hep := { s.hep with l2 := true } } : State).emit .pmeAck else s)

def execVfFlr (p : Nat) (s : State) : Host.Outcome State Fault Refusal := .next (s.vfFlr p)
def execPfFlr (s : State) : Host.Outcome State Fault Refusal := .next s.pfFlr
def execDebounceExpiry (pin : SlotPin) (level : Bool) (s : State) : Host.Outcome State Fault Refusal := .next (s.debounced pin level)
def execHostPrsntAssert (s : State) : Host.Outcome State Fault Refusal := .next s.prsntAssert
def execHostPg1Assert (s : State) : Host.Outcome State Fault Refusal := .next s.pg1Assert
def execHostPg2Assert (s : State) : Host.Outcome State Fault Refusal := .next s.pg2Assert
def execHostPgTimeout (s : State) : Host.Outcome State Fault Refusal := .next s.pgTimeout
def execHostAttnPress (s : State) : Host.Outcome State Fault Refusal := .next s.attnPress
def execHostRemoveAck (s : State) : Host.Outcome State Fault Refusal := .next s.removeAck
def execHostRemoveCancel (s : State) : Host.Outcome State Fault Refusal := .next s.removeCancel
def execHostRemoveWaitEnd (s : State) : Host.Outcome State Fault Refusal := .next s.removeWaitEnd
def execHepRemoveDeadlineExpiry (s : State) : Host.Outcome State Fault Refusal := .next s.removeMiss
def execHostPrsntDeassert (s : State) : Host.Outcome State Fault Refusal := .next s.prsntDeassert

end Sys2Proof.Machine
end

