-- ==== Sys2Proof/Machine/SelfTest.lean ====
section
/-! DEFINITION. Tests outside the start: tile BIST, package interconnect runs and the burning of repair maps (R582–R590). -/

namespace Sys2Proof.Machine

/-! ## Tile BIST (R582) -/

/-- A run in progress. -/
def State.tileRun (s : State) : Bool := s.rd .bstTileState == 1

def State.tileRunWrite (s : State) (role : Role) (v : Nat) : Answer :=
  if !mayWrite [.b, .b, .b, .n, .n] role then s.refuse stDenied
  else if 2 ^ 64 ≤ v then s.refuse stType
  else if s.tileRun ∨ (bitsOf v 64).any (fun i => (s.plotOwner i).isSome) then s.refuse stRunning
  else
    let ts := (bitsOf v 64).flatMap plotTiles
    let t : State := { s with
      test := { s.test with tiles := v }
      heldTiles := ts.foldl (fun (m : AMap Unit) t => m.set t ()) s.heldTiles }
    (stPending, (t.wr .bstTileRun v).wr .bstTileState 1)

/-- Tiles zeroed and unconfigured, with empty row caches, and released. -/
def State.freshTiles (s : State) (ts : List Nat) : State :=
  let s := (s.emptyTiles ts).zeroPads ts
  { s with
    tile := { s.tile with rows := s.tile.rows.where (fun k _ => !ts.contains (k / 128)) }
    heldTiles := s.heldTiles.where (fun t _ => !ts.contains t) }

def State.tileRunDone (s : State) (fails : List Nat) : State :=
  if !s.tileRun then s
  else
    let ts := (bitsOf s.test.tiles 64).flatMap plotTiles
    let bad := (fails.filter (fun t => ts.contains t && !(s.rd .tilFailed).testBit t)).eraseDups
    let s := (s.each bad (fun s t => s.failTile none t)).freshTiles ts
    let s : State := { s with test := { s.test with tiles := 0 } }
    (s.wr .bstTileState (if bad.isEmpty then 2 else 3)).wr .bstTileFails bad.length

/-! ## Stacks (R241, R587) -/

/-- A stack's training ends with a result: 0 and 1 serve, 2 is FAILED, 3 is ABSENT. -/
def State.trainStack (s : State) (h : Nat) (f : StackFound) : State :=
  let s := if f.result < 2 then s.wr .hbmTemp (twos 32 f.temp) 0 h else s
  let s := s.wr .hbmTrainResult (f.result % 256 + f.lanes % 256 * 2 ^ 8 + f.pch % 256 * 2 ^ 16) 0 h
  let present := s.rd .hbmStacksPresent
  if f.result < 2 then (s.wr .hbmStackState stackReady 0 h).wr .hbmStacksPresent (setBit present h)
  else (s.wr .hbmStackState (if f.result = 2 then 1 else 0) 0 h).wr .hbmStacksPresent (clearBit present h)

/-- A stack's contents are lost: its bytes are as bytes that nothing has written, the hub reserve among them. -/
def State.wipeStack (s : State) (h : Nat) : State :=
  { s with
    mem := AMap.where s.mem (fun a _ => stackOf a != h)
    poison := s.poison.where (fun u _ => stackOf (32 * u) != h) }

/-! ## Interconnect runs (R586, R587) -/

/-- Every populated group of a site is held in TRAINING. -/
def State.holdTraining (s : State) (k : Nat) : State :=
  let x := s.site k
  if s.rd .uciLinkState k = lsAbsent then s
  else
    let gs := x.groups.map (fun g => if g = GroupState.none then GroupState.none else .training)
    (s.setSite k { x with groups := gs }).wr .uciLinkState lsTraining k

def State.icGo (s : State) (role : Role) (v : Nat) : Answer :=
  let sel := s.rd .bstIcSel
  let u := field sel 14 12
  let lc := s.lc
  if !mayWrite [.w, .w, .w, .n, .n] role then s.refuse stDenied
  else if 256 ≤ v then s.refuse stType
  else if v ≠ 1 then s.refuse stRange
  else if s.test.ic.isSome ∨ (!sel.testBit 15 && s.rd .uciBind u != 0) then s.refuse stRunning
  else if sel.testBit 15 ∧ ¬ (lc = lcAssembly ∨ lc = lcProvisioned ∨ lc = lcReturned) then s.refuse stLocked
  else
    let t := if sel.testBit 15 then s.stackOut u else s.holdTraining u
    let t : State := { t with test := { t.test with ic := some sel } }
    (stPending, (t.wr .bstIcState 1).emit (.pattern sel (s.rd .bstIcCtrl)))

/-- A site trains again on its run maps after a run; its chiplet was not reset, and its capabilities stand. -/
def State.trainAgain (s : State) (k : Nat) (rate : Option Nat) (down : Nat) : State :=
  if s.rd .uciLinkState k = lsAbsent then s
  else
    let t := s.train k rate down
    if t.rd .uciLinkState k ≠ lsTraining then t
    else if t.rd .uciAttestState k = atFailed ∨ t.rd .uciProtocol k = 0 then t.wr .uciLinkState lsHeld k
    else (t.wr .uciLinkState lsUp k).settleLink k

/-- A run ends. -/
def State.icDone (s : State) (result errors : Nat) (rate : Option Nat) (down : Nat) (found : StackFound) : State :=
  match s.test.ic with
  | none => s
  | some sel =>
    let u := field sel 14 12
    let t : State := { s with test := { s.test with ic := none } }
    let t := ((t.wr .bstIcResult result).wr .bstIcErrors errors).wr .bstIcState (if result % 2 ^ 256 = 0 then 2 else 3)
    if sel.testBit 15 then (t.wipeStack u).trainStack u found else t.trainAgain u rate down

/-! ## Repair maps (R277, R590) -/

/-- Used entries of a direction fill from D0 upward in ascending lane order. -/
def lanesFill : List Nat → Bool
  | [] => true
  | [a] => a == 0x7F || decide (a < 64)
  | a :: b :: r => (if a = 0x7F then b == 0x7F else decide (a < 64) && (b == 0x7F || decide (a < b))) && lanesFill (b :: r)

/-- The layout and fill order of R277. -/
def mapOk (m : Nat) : Bool :=
  lanesFill [field m 63 57, field m 56 50, field m 49 43, field m 42 36]
  && lanesFill [field m 35 29, field m 28 22, field m 21 15, field m 14 8] && field m 2 0 == 0

/-- A blank word decodes as a map with no repairs. -/
def uciBlank : Nat := 0xFFFFFFFFFFFFFF00

/-- The map that OTP holds for a module; one that breaks R277 is taken with DISABLED set. -/
def Otp.map (o : Otp) (k m : Nat) : Nat :=
  let w := o.uci.get (16 * k + m) 0 ^^^ uciBlank
  if mapOk w then w else setBit w 3

/-- A word of which `n` bits are burned, from bit 0 upward. -/
def burnt (w n : Nat) : Nat := ((bitsOf w 64).take n).foldl setBit 0

def State.uciBurn (s : State) (role : Role) (v bits : Nat) : Answer :=
  let k := field v 127 120
  let m := field v 119 112
  let map := field v 63 0
  let word := s.life.otp.uci.get (16 * k + m) 0
  if !mayWrite [.n, .w, .n, .n, .n] role then s.refuse stDenied
  else if 2 ^ 128 ≤ v then s.refuse stType
  else if 8 ≤ k ∨ 16 ≤ m ∨ field v 111 64 ≠ 0 ∨ !mapOk map then s.refuse stRange
  else if s.lc ≠ lcAssembly ∨ s.startup.pwrFail ∨ word ≠ 0 then s.refuse stLocked
  else
    let o := s.life.otp
    (stPending, s.setOtp { o with uci := o.uci.put (16 * k + m) (burnt (map ^^^ uciBlank) bits) 0 })

/-! ## The commands -/

def execBstTileRun (role : Role) (v : Nat) (s : State) : Host.Outcome State Fault Refusal := .next (State.answered (s.tileRunWrite role v))

def execBstTileRunDone (fails : List Nat) (s : State) : Host.Outcome State Fault Refusal := .next (s.tileRunDone fails)

def execBstIcGo (role : Role) (v : Nat) (s : State) : Host.Outcome State Fault Refusal := .next (State.answered (s.icGo role v))

def execBstIcDone (result errors : Nat) (rate : Option Nat) (down : Nat) (found : StackFound) (s : State) : Host.Outcome State Fault Refusal :=
  .next (s.icDone result errors rate down found)

def execBstUciBurn (role : Role) (v bits : Nat) (s : State) : Host.Outcome State Fault Refusal := .next (State.answered (s.uciBurn role v bits))

end Sys2Proof.Machine
end

