-- ==== Sys2Proof/Machine/Topology.lean ====
section
/-! DEFINITION. The expected topology record and the comparison of step 10 (R529–R534). -/

namespace Sys2Proof.Machine

/-! ## The record (R529–R532) -/

/-- Bytes of the record from an offset, little-endian. -/
def TopoRecord.at (r : TopoRecord) (o n : Nat) : Nat := leNat ((r.bytes.drop o).take n)

/-- Length of a record. -/
def topoLen : Nat := 5808

/-- The conditions of R529. -/
def State.topoAccepts (s : State) (r : TopoRecord) : Bool :=
  r.bytes.length == topoLen && TopoRecord.at r 0 2 == 1 && TopoRecord.at r 2 2 == topoLen
    && r.root == s.rd .pdxIntegratorRoot && s.rd .pdxIntegratorRoot != 0 && r.sigOk
    && (TopoRecord.at r 8 8 == 0 || TopoRecord.at r 8 8 == s.rd .lcsUnitId)

/-- Offsets of the entries of a site, a stack and a port. -/
def topoSite (k : Nat) : Nat := 0x40 + 32 * k
def topoStack (h : Nat) : Nat := 0x140 + 8 * h
def topoPort (e : Nat) : Nat := 0x180 + 4 * e

/-- Reserved fields are zero, and values lie in their ranges (R531, R532). -/
def TopoRecord.inRange (r : TopoRecord) : Bool :=
  let small (o top : Nat) : Bool := decide (TopoRecord.at r o 1 ≤ top)
  small 0x10 1 && small 0x11 8 && decide (TopoRecord.at r 0x12 2 ≤ 2304) && small 0x14 16 && small 0x15 4
    && TopoRecord.at r 0x16 42 == 0 && TopoRecord.at r 0x16AD 3 == 0
    && (List.range 8).all (fun k =>
      let o := topoSite k
      small o 2 && small (o + 1) 2 && decide (1 ≤ TopoRecord.at r (o + 2) 1) && small (o + 2) 16 && small (o + 3) 2 && small (o + 4) 3
        && small (o + 6) 1 && TopoRecord.at r (o + 12) 20 == 0)
    && (List.range 8).all (fun h => small (topoStack h) 2 && small (topoStack h + 1) 2 && TopoRecord.at r (topoStack h + 2) 6 == 0)
    && (List.range 16).all (fun e =>
      small (topoPort e) 2 && small (topoPort e + 1) 2 && small (topoPort e + 2) 1 && TopoRecord.at r (topoPort e + 3) 1 == 0)

/-! ## What was found (R533) -/

/-- A chiplet answers at a site. -/
def State.siteAnswers (s : State) (k : Nat) : Bool := s.rd .uciLinkState k != lsAbsent && s.rd .uciLinkState k != lsDown

/-- Bits of the protocol that a site negotiated, as PROTO codes them. -/
def State.protoBits (s : State) (k : Nat) : Nat :=
  if s.rd .uciProtocol k = protoHtl then 1 else if s.rd .uciProtocol k = protoCxl then 2 else 0

def State.stacksTrained (s : State) : Nat := ((List.range 8).filter (fun h => s.stackUp h)).length
def State.tilesWorking (s : State) : Nat := 2304 - popCount (s.rd .tilFailed) 2304
def State.portOn (s : State) (e : Nat) : Bool := decide (2 ≤ s.rd .soxPortState 0 e)
def State.portsTrained (s : State) : Nat := ((List.range 16).filter (fun e => s.portOn e)).length

def State.foundSite (s : State) (k : Nat) : List Byte :=
  if !s.siteAnswers k then toLe 32 0
  else toLe 1 1 ++ toLe 1 0 ++ toLe 1 (popCount (s.rd .uciModules k) 16) ++ toLe 1 (s.rd .uciRateEffective k) ++ toLe 1 (s.protoBits k)
    ++ toLe 1 (s.rd .uciHtlLevel k) ++ toLe 1 (if s.rd .uciAttestState k = atAttested then 1 else 0) ++ toLe 1 (s.rdField .uciCap 95 88 k)
    ++ toLe 2 (s.rdField .uciCap 127 112 k) ++ toLe 2 (s.rdField .uciCap 111 96 k) ++ toLe 20 0

/-- PDX_TOPO_FOUND: the units found, in the layout of bytes 0x000–0x1BF of a record. -/
def State.topoFound (s : State) : List Byte :=
  toLe 2 1 ++ toLe 2 topoLen ++ toLe 4 0 ++ toLe 8 (s.rd .lcsUnitId) ++ toLe 1 0 ++ toLe 1 s.stacksTrained ++ toLe 2 s.tilesWorking
    ++ toLe 1 s.portsTrained ++ toLe 1 (s.rd .hbmRate) ++ toLe 42 0
    ++ (List.range 8).flatMap s.foundSite
    ++ (List.range 8).flatMap (fun h => toLe 8 (if s.stackUp h then 1 else 0))
    ++ (List.range 16).flatMap (fun e => toLe 2 (if s.portOn e then 1 else 0) ++ toLe 2 (if s.rd .soxPortState 0 e = 3 then 1 else 0))

/-! ## The comparison (R533) -/

def State.siteMismatch (s : State) (r : TopoRecord) (k : Nat) : Bool :=
  let o := topoSite k
  let want := TopoRecord.at r o 1
  let absent := s.rd .uciLinkState k == lsAbsent
  if want = 0 then s.siteAnswers k
  else if absent then want == 1
  else
    let st := s.rd .uciLinkState k
    (st != lsUp && st != lsDegraded) || decide (popCount (s.rd .uciModules k) 16 < TopoRecord.at r (o + 2) 1)
      || decide (s.rd .uciRateEffective k < TopoRecord.at r (o + 3) 1)
      || s.protoBits k &&& TopoRecord.at r (o + 4) 1 == 0
      || decide (s.rd .uciHtlLevel k < TopoRecord.at r (o + 5) 1)
      || s.rdField .uciCap 127 112 k != TopoRecord.at r (o + 8) 2
      || (TopoRecord.at r (o + 10) 2 != 0 && s.rdField .uciCap 111 96 k != TopoRecord.at r (o + 10) 2)
      || decide (s.rdField .uciCap 95 88 k < TopoRecord.at r (o + 7) 1)
      || (TopoRecord.at r (o + 6) 1 == 1 && s.rd .uciAttestState k != atAttested)

def State.stackMismatch (s : State) (r : TopoRecord) (h : Nat) : Bool :=
  let want := TopoRecord.at r (topoStack h) 1
  (want == 1 && !s.stackUp h) || (want == 0 && s.rd .hbmStackState 0 h != 0)

def State.portMismatch (s : State) (r : TopoRecord) (e : Nat) : Bool :=
  let want := TopoRecord.at r (topoPort e) 1
  let slow := TopoRecord.at r (topoPort e + 2) 1 == 0 && s.rd .soxPortState 0 e == 3
  (want == 1 && (!s.portOn e || slow)) || (want == 0 && s.portOn e)

/-- PDX_TOPO_MISMATCH. -/
def State.topoMismatch (s : State) (r : TopoRecord) : Nat :=
  let bit (i : Nat) (b : Bool) : Nat := if b then 2 ^ i else 0
  (List.range 8).foldl (fun v k => v + bit k (s.siteMismatch r k)) 0
    + (List.range 8).foldl (fun v h => v + bit (8 + h) (s.stackMismatch r h)) 0
    + (List.range 16).foldl (fun v e => v + bit (16 + e) (s.portMismatch r e)) 0
    + bit 32 (decide (s.stacksTrained < TopoRecord.at r 0x11 1)) + bit 33 (decide (s.tilesWorking < TopoRecord.at r 0x12 2))
    + bit 34 (decide (s.portsTrained < TopoRecord.at r 0x14 1)) + bit 35 (decide (s.rd .hbmRate < TopoRecord.at r 0x15 1))

/-- A mismatch of this bit halts. -/
def TopoRecord.halts (r : TopoRecord) (i : Nat) : Bool :=
  let own := if i < 8 then TopoRecord.at r (topoSite i + 1) 1 else if i < 16 then TopoRecord.at r (topoStack (i - 8) + 1) 1
    else if i < 32 then TopoRecord.at r (topoPort (i - 16) + 1) 1 else 0
  own == 1 || (own == 0 && TopoRecord.at r 0x10 1 == 0)

/-- A mismatched unit is taken out of service. -/
def State.topoOut (s : State) (i : Nat) : State :=
  if i < 8 then (if s.rd .uciLinkState i = lsAbsent then s else s.wr .uciLinkState lsHeld i)
  else if i < 16 then
    if s.rd .hbmStackState 0 (i - 8) = 0 then s
    else (s.wr .hbmStackState 1 0 (i - 8)).wr .hbmStacksPresent (clearBit (s.rd .hbmStacksPresent) (i - 8))
  else if i < 32 then (s.wr .soxPortRate 2 0 (i - 16)).wr .soxPortState 0 0 (i - 16)
  else s

/-- PDX_TOPO_STATE. -/
def topoNone : Nat := 0
def topoMatch : Nat := 1
def topoDegraded : Nat := 2
def topoHalt : Nat := 3
def topoBad : Nat := 4

/-- The record read at step 4. -/
def State.topoRead (s : State) (r : Option TopoRecord) : State :=
  match r with
  | none => s
  | some r =>
    if !s.topoAccepts r then s
    else if !TopoRecord.inRange r then (s.wr .pdxTopoState topoBad).ev Ev.topoRecordBad
    else s.wr .pdxTopoRecord (leNat r.bytes)

/-- PDX_BRINGUP_RESULT. -/
def startRunning : Nat := 0
def startReady : Nat := 1
def startDegraded : Nat := 2
def startHalted : Nat := 3

/-- Step 10: the result of the start. `weak` says that it can be DEGRADED at best (R525). -/
def State.compare (s : State) (r : Option TopoRecord) (weak : Bool) : State × Nat :=
  let s := s.wr .pdxTopoFound (leNat s.topoFound)
  let ok := if weak then startDegraded else startReady
  match r with
  | some r =>
    if s.rd .pdxTopoRecord = 0 then (s, if s.lc = lcField then startDegraded else ok)
    else
      let m := s.topoMismatch r
      let bad := bitsOf m 40
      let s := (s.wr .pdxTopoMismatch m).each bad State.topoOut
      if bad.any (TopoRecord.halts r) then (s.wr .pdxTopoState topoHalt, startHalted)
      else if bad.isEmpty then (s.wr .pdxTopoState topoMatch, ok)
      else (s.wr .pdxTopoState topoDegraded, startDegraded)
  | none => (s, if s.lc = lcField then startDegraded else ok)

end Sys2Proof.Machine
end

