-- ==== Sys2Proof/Machine/Start.lean ====
section
/-! DEFINITION. Starts and hub resets: the sequence of bring-up, its limits and its halts, READY, the entry into a hub reset and
what survives it, power and its failure, partial reset, and triage (R520–R540, R557–R559, R598, R601, R602, R625). -/

namespace Sys2Proof.Machine

/-! ## Kinds and steps (R520, R522) -/

def kindPowerOn : Nat := 0
def kindCold : Nat := 1
def kindWarmFull : Nat := 2
def kindWarmFast : Nat := 3

/-- A start is in progress. -/
def State.starting (s : State) : Bool :=
  s.startup.powered && s.rd .pdxBringupResult == startRunning && s.rd .pdxReady == 0 && !s.startup.pinLow && s.startup.reset.isNone
    && !s.startup.pwrFail

/-- PDX_BRINGUP_STEP, with the time at which the start stands: a free value, since the model has no clock. -/
def State.atStep (s : State) (step : Nat) : State := ((s.wr .pdxBringupStep step).wr .pdxBringupElapsed s.free.toNat).drawn

/-- A start halts (R528). The code of a cause that is no event is stated nowhere: it is free. -/
def State.haltStart (s : State) (step : Nat) (code : Option Nat) : State :=
  let s := s.atStep step
  let v := code.getD (s.free.toNat % 65536)
  let s : State := { s.drawn with owl := { s.owl with alive := false, faultN := true } }
  let s := (s.wr .pdxBringupResult startHalted).wr .pdxBringupHalt v
  (s.log .start s.startExt).startFlush

/-- A start halts with an event. -/
def State.haltEvent (s : State) (step code : Nat) (detail : Nat := 0) : State := (s.ev code none detail).haltStart step (some code)

/-! ## Step 2: life cycle (R458, R463, R464) -/

/-- A record completes the partial mark of an OTP. -/
def Otp.completes (o : Otp) (r : LcRecord) : Bool :=
  let c := (o.decode).state
  LcRecord.kind r == 1 && LcRecord.at r 8 8 == o.unitId && LcRecord.src r == c && (LcRecord.dst r == c + 1 || LcRecord.dst r == lcScrapped)
    && (match o.signers r with
      | some want => LcRecord.rootsOk r want && LcRecord.signed r
      | none => false)

/-- The OTP after an interrupted transition is completed. -/
def Life.completed (l : Life) : Otp :=
  if (l.otp.decode).part then
    match l.slot with
    | some r => if l.otp.completes r then l.otp.burn (LcRecord.dst r) 80 else l.otp
    | none => l.otp
  else l.otp

/-- The life cycle decoded. -/
def State.lcStart (s : State) : State :=
  let o := s.life.completed
  let s : State := { s with life := { s.life with otp := o, erasing := none, done := false, opened := false } }
  let st := (o.decode).state
  let s := ((s.wr .lcsState st).wr .lcsUnitId o.unitId).wr .lcsSvn o.version
  let s := s.wr .lcsOwnerDigest (if st < lcField then 0 else o.owner)
  ((s.wr .lcsPufSlot (if o.pufA = 2 then 0 else if o.pufB = 2 then 1 else 2)).showMarks).newNonce

/-! ## What a hub reset keeps (R17, R235, R536–R538) -/

/-- The entries of apply class RESET. -/
def resetItems : List (Reg × Nat × Nat) :=
  [(.beatPeriod, 0, 0), (.beatEpoch, 0, 0), (.beatSyncSrc, 0, 0), (.hbmRate, 0, 0), (.hbmHubReserve, 0, 0), (.hbmSpareGranules, 0, 0),
   (.soxPkgId, 0, 0), (.soxEncap, 0, 0), (.soxEthertype, 0, 0), (.soxUdpPort, 0, 0), (.soxPairMode, 0, 0), (.soxMirrorQueueMib, 0, 0),
   (.secMctpEid, 0, 0), (.pdxMgmtAddr6, 0, 0), (.pdxMgmtAddr4, 0, 0), (.pdxMgmtPort, 0, 0), (.bstNextStart, 0, 0), (.pwrPrereadyW, 0, 0)]
  ++ (List.range 8).flatMap (fun k => [(Reg.uciRate, k, 0), (Reg.uciProtoAllow, k, 0), (Reg.uciRepairMode, k, 0)])
  ++ (List.range 16).flatMap (fun e => [(Reg.soxIpv6Prefix, 0, e), (Reg.soxPortRate, 0, e), (Reg.soxVlan, 0, e)])

/-- Registers that count over the unit's life. -/
def lifeKeys : List Nat :=
  (List.range 8).flatMap (fun h => [Reg.hbmOffline.key 0 h, Reg.hbmPprHard.key 0 h, Reg.hbmPprLeft.key 0 h]) ++ [Reg.sqlSeq.key 0 0]

/-- Registers that a warm reset keeps: what the links and the stacks did not lose, and the slot. -/
def warmKeys : List Nat :=
  [Reg.hepSlot.key 0 0, Reg.hepLinkState.key 0 0, Reg.hepLinkRate.key 0 0, Reg.hbmStacksPresent.key 0 0, Reg.pdxStarts.key 0 0,
   Reg.sqlBuffered.key 0 0]
  ++ (List.range 8).flatMap (fun h => [Reg.hbmStackState.key 0 h, Reg.hbmTrainResult.key 0 h, Reg.hbmTemp.key 0 h, Reg.hbmPprPending.key 0 h])
  ++ (List.range 16).map (fun e => Reg.soxPortState.key 0 e)

/-- Registers that a cold reset keeps besides: the inputs of the slot as debounced. -/
def coldKeys : List Nat := [Reg.hepSlot.key 0 0, Reg.pdxStarts.key 0 0]

/-- Registers that the fast path keeps besides: the run maps and the tile repairs. -/
def fastKeys : List Nat :=
  [Reg.tilSpareMap.key 0 0, Reg.tilFailed.key 0 0]
  ++ (List.range 8).flatMap (fun k => Reg.uciRateEffective.key k 0 :: Reg.uciModules.key k 0 :: Reg.uciLinkState.key k 0
    :: (List.range 16).map (fun m => Reg.uciRepairMap.key k m))

/-- The registers after a reset of a kind. -/
def State.keptRegs (s : State) (kind : Nat) : AMap Nat :=
  let resets := resetItems.map (fun (x : Reg × Nat × Nat) => x.1.key x.2.1 x.2.2)
  let keys := if kind = kindPowerOn then [] else resets ++ lifeKeys ++ (if kind = kindCold then coldKeys else warmKeys)
    ++ (if kind = kindWarmFast then fastKeys else [])
  let sec := if 2 ≤ kind ∧ (s.rd .secState = seError ∨ s.rd .secState = seZeroised) then [Reg.secState.key 0 0] else []
  s.regs.where (fun k _ => (keys ++ sec ++ (if kind = kindPowerOn then lifeKeys else [])).contains k)

/-- RESET-class values that waited for a reset. -/
def State.applyStored (s : State) (stored : AMap Nat) : State :=
  s.each resetItems (fun s (x : Reg × Nat × Nat) =>
    match stored.find (x.1.key x.2.1 x.2.2) with
    | some v => s.wr x.1 v x.2.1 x.2.2
    | none => s)

/-- Granules that have been retired, which stay offline. -/
def State.offlineGrans (s : State) : AMap Hgt := (s.jay.hgt.where (fun _ e => e.state == .offline)).mapVal (fun _ (_ : Hgt) => { state := .offline })

/-- The next SEQ: after the highest that the store holds. -/
def Store.nextSeq (st : Store) : Nat := (st.circ ++ st.first).foldl (fun n (e : Nat × Record) => max n (e.2.seq + 1)) 0

/-- The endpoint after a reset: its slot's outputs and the level of PERST_N stay, and a warm reset keeps the header of PF0. -/
def State.keptHep (s : State) (warm : Bool) : Hep :=
  let base : Hep := { perst := s.hep.perst, en1 := s.hep.en1, en2 := s.hep.en2 }
  if warm then { base with header := s.hep.header.where (fun k _ => k / 16 == 0), acked := s.hep.acked, waited := s.hep.waited } else base

/-- A site after a reset: on the fast path with its modules as they were, its groups to be trained. -/
def State.keptSites (s : State) : AMap Site :=
  s.sites.mapVal (fun _ (x : Site) =>
    let y : Site := { populated := x.populated, disabled := x.disabled }
    y)

/-- The state in which a start begins. -/
def State.beginStart (s : State) (kind cause : Nat) : State :=
  let warm := decide (2 ≤ kind)
  let fast := kind == kindWarmFast
  let off : AMap Hgt := if warm then s.offlineGrans else []
  let seq := if s.rd .sqlState = storeReady then s.store.nextSeq else s.rd .sqlSeq
  let n := if kind = kindPowerOn then 0 else s.rd .pdxStarts
  let t : State := {
    pending := s.pending, sent := s.sent, fresh := s.fresh, mem := s.mem, poison := s.poison
    store := s.store, life := s.life, regs := s.keptRegs kind
    tap := { s.tap with stack := none }
    owl := { alive := false, slowPath := s.owl.slowPath }
    sql := { buffer := if warm then s.sql.buffer else [], boot := s.sql.boot + 1 }
    hbm := { repaired := s.hbm.repaired, used := s.hbm.used, perBank := s.hbm.perBank, waiting := if warm then s.hbm.waiting else [] }
    jay := { hgt := off }
    tile := { spareBad := s.tile.spareBad }
    sites := if fast then s.keptSites else []
    hep := s.keptHep warm
    startup := { powered := true, pinLow := s.startup.pinLow, fast }
    power := { trip := warm && s.power.trip } }
  let t := (t.applyStored s.dict.stored).lcStart
  let t := ((t.wr .pdxLastStart kind).wr .pdxResetCause cause).wr .pdxStarts (n + 1)
  let t := t.each (List.range 8) (fun t k => t.wr .uciRepairPending (2 ^ 1024 - 1) k)
  let t := ((t.wr .ptnCtxRunning 0xFF).wr .soxPtpPort 0xFF).wr .sqlSeq seq
  let t := t.each (List.range 32) (fun t p => t.wr .ptnCtxRunning 0xFF p)
  t.wr .pdxBringupStep (if warm then 1 else 0)

/-! ## Steps 3 to 5 -/

/-- Step 3: the root key, the identity keys and the hub memory key, in the states that derive them (R429, R434, R455). -/
def State.deriveKeys (s : State) : State :=
  let lc := s.lc
  if lc = lcProvisioned ∨ lc = lcField ∨ lc = lcReturned then
    let s := (s.drawKey slotDevid).drawKey slotAlias
    let s := ({ s with sec := { s.sec with root := some s.draw256 } } : State).drawn 4
    ({ s with sec := { s.sec with hubKey := some s.draw256 } } : State).drawn 4
  else s

/-- The security engine after its self-tests. One that has failed or was zeroised stays so until a cold reset (R452, R453). -/
def State.seStart (s : State) (f : Findings) : State :=
  let s : State := { s with sec := { s.sec with seFw := f.seFw } }
  let s := (s.wr .secFwVersion f.seVersion).wr .secApproved 1
  if s.rd .secState = seError ∨ s.rd .secState = seZeroised then s
  else ((s.wr .secState seOperational).deriveKeys.wr .secDevidDigest s.draw256).drawn 4

/-- Step 4: the role-key block and the store's headers are read (R503, R570). -/
def State.ctlStart (s : State) (f : Findings) : State :=
  let s : State := { s with sec := { s.sec with ctlFw := f.ctlFw } }
  let s := ((s.wr .pdxCtrlFwVersion f.ctlVersion).wr .pdxIntegratorRoot s.life.integrator).wr .pdxOperatorRoot s.life.operator
  let s := if f.roleOk then s else ((s.wr .pdxIntegratorRoot 0).wr .pdxOperatorRoot 0).ev Ev.pdxRolekeyBad
  let s := if !f.storeOk then (s.wr .sqlState storeFailed).ev Ev.sqlStoreFail
    else match s.store.unitId with
      | none => ({ s with store := { unitId := some (s.rd .lcsUnitId) } } : State).wr .sqlState storeReady
      | some u => if u = s.rd .lcsUnitId then s.wr .sqlState storeReady else (s.wr .sqlState storeForeign).ev Ev.sqlStoreForeign
  s.topoRead f.topo

/-- A block's BIST result (R579): both signatures equal its goldens. -/
def Otp.bistOk (o : Otp) (f : BlockFound) : Bool :=
  f.lbist == o.golden.getD (2 * f.block) 0 && f.mbist == o.golden.getD (2 * f.block + 1) 0

/-- Tile repairs that OTP holds (R99). -/
def State.otpTiles (s : State) : State :=
  let v := (List.range 48).foldl (fun a y => a + s.life.otp.tileRepair.get y 0xFF % 256 * 256 ^ y) 0
  s.wr .tilSpareMap v

/-- A core that fails at step 5 is repaired from its row's unused and tested spare, or marked failed (R524). -/
def State.repairTile (s : State) (t : Nat) : State :=
  let y := tileY t
  let byte := s.rdField .tilSpareMap (8 * y + 7) (8 * y)
  if byte = 0xFF ∧ (s.tile.spareBad.find y).isNone then s.wrField .tilSpareMap (8 * y + 7) (8 * y) (tileX t)
  else s.failTile none t

/-- Step 5: the blocks that run, and the first other than the tiles that fails (R524, R580). -/
def State.bist (s : State) (f : Findings) : State × Option Nat :=
  let runs (b : Nat) : Bool := (s.rd .bstNextStart).testBit b
  let s := s.otpTiles
  let s := s.each (f.blocks.filter (fun b => runs b.block && decide (b.block < 10))) (fun s b =>
    let ok := if b.block = 0 then f.tiles.isEmpty && f.spares.isEmpty else s.life.otp.bistOk b
    ((s.wr .bstResult (if ok then 1 else 2) 0 b.block).wr .bstLbistSig b.lbist 0 b.block).wr .bstMbistSig b.mbist 0 b.block)
  let s := if runs 0 then
      let bad := (f.tiles.filter (· < 2304)).eraseDups
      let rows : AMap Unit := f.spares.foldl (fun (m : AMap Unit) y => m.set (y % 48) ()) []
      let s : State := { s with tile := { s.tile with spareBad := rows } }
      (s.each bad State.repairTile).wr .bstTileFails bad.length
    else s
  (s, ((f.blocks.filter (fun b => b.block ≠ 0 && runs b.block && decide (b.block < 10) && !s.life.otp.bistOk b)).head?).map (fun b => b.block))

/-! ## Step 6: the interconnect (R279–R281) -/

/-- The map with which a module is to run: what the test proposes, or the OTP map. -/
def SiteFound.map (x : SiteFound) (o : Otp) (k m : Nat) : Nat := x.maps.getD m (o.map k m)

/-- A module that cannot run: more failures than spares, or DISABLED in its map. -/
def SiteFound.dead (x : SiteFound) (o : Otp) (k m : Nat) : Bool :=
  x.disabled.testBit m || (o.map k m).testBit 3 || !mapOk (SiteFound.map x o k m) || (SiteFound.map x o k m).testBit 3

/-- A site's test on a cold or full warm start: run maps, disabled modules, and proposals that wait for the host. -/
def State.siteTest (s : State) (k : Nat) (x : SiteFound) : State :=
  let o := s.life.otp
  let pop := bitsOf x.populated 16
  let dead := pop.filter (SiteFound.dead x o k)
  let new := pop.filter (fun m => !dead.contains m && SiteFound.map x o k m != o.map k m)
  let host := s.rd .uciRepairMode k = 1
  let y : Site := { populated := x.populated % 65536, disabled := dead.foldl setBit 0, pause := host && !new.isEmpty
                    proposed := if host then new.foldl setBit 0 else 0 }
  let s := s.setSite k y
  let s := s.each (List.range 16) (fun s m => s.wr .uciRepairMap (o.map k m) k m)
  let s := s.each new (fun s m =>
    let map := SiteFound.map x o k m
    if host then s.wrField .uciRepairPending (64 * m + 63) (64 * m) map k
    else (s.wr .uciRepairMap map k m).log .linkRepair (k * 2 ^ 125 + m * 2 ^ 121 + map * 2 ^ 57))
  let s := s.each dead (fun s m => s.ev (Ev.uciModuleDisabled k) none (Config.detail [m]))
  if x.populated % 65536 = 0 then s.wr .uciLinkState lsAbsent k
  else if host ∧ !new.isEmpty then s.wr .uciLinkState lsTraining k
  else s.trainFirst k x.rate x.down

/-- Training on the run maps that a fast path kept, at the rate in use. -/
def State.siteFast (s : State) (k : Nat) (x : SiteFound) : State :=
  if s.rd .uciLinkState k = lsAbsent then s
  else s.trainFirst k (x.rate.map (fun _ => s.rd .uciRateEffective k)) x.down

/-! ## Step 7: the stacks (R235, R241, R525) -/

/-- Rows on the pending list, rebuilt from the records: soft repairs without a later hard one. -/
def Store.pendingRows (st : Store) : List Nat :=
  (st.circ.filter (fun e => e.2.kind == .repairSoft && st.carries e.2)).map (fun (e : Nat × Record) =>
    rowNo (field e.2.ext 127 125) (field e.2.ext 124 119) (field e.2.ext 118 113) (field e.2.ext 112 99))

/-- Granules retired, rebuilt from the records. -/
def Store.retiredGrans (st : Store) : List Nat :=
  (st.circ.filter (fun e => e.2.kind == .retire)).map (fun (e : Nat × Record) => field e.2.ext 127 109)

/-- The pending list and the offline granules of a start. The second part says that the records were lost. -/
def State.readRecords (s : State) (f : Findings) : State × Bool :=
  let kind := s.rd .pdxLastStart
  if kind = kindWarmFast then (s, false)
  else if s.rd .sqlState ≠ storeReady ∨ !f.storeOk then
    let t : State := { s with hbm := { s.hbm with waiting := [] }, jay := { s.jay with hgt := [] } }
    (t.ev Ev.bringupRecordsLost, true)
  else if kind = kindWarmFull then (s, false)
  else
    let t : State := { s with
      hbm := { s.hbm with waiting := s.store.pendingRows.eraseDups }
      jay := { s.jay with hgt := s.store.retiredGrans.foldl (fun (m : AMap Hgt) g => m.set g { state := .offline }) [] } }
    (t, false)

/-- A row of the pending list turned into a hard repair. -/
def State.hardRepair (s : State) (k : Nat) : State :=
  if !s.stackUp (rowStack k) then s
  else
    let s : State := { s with hbm := { s.hbm with waiting := s.hbm.waiting.erase k, repaired := s.hbm.repaired.set k () } }
    let s := (s.bump .hbmPprHard 0 (rowStack k)).emit (.repair (rowStack k) (rowPch k) (rowBank k) (k % 16384) true)
    s.log .repairHard (repairExt k) true

/-- Spare granules of a stack that are not offline. -/
def State.sparesLeft (s : State) (h : Nat) : Nat :=
  let n := s.rd .hbmSpareGranules
  n - (s.jay.hgt.where (fun g e => g / 65536 == h && e.state == .offline && decide (65536 - n ≤ g % 65536))).length

/-- A stack at step 7. One in CATTRIP stays so through a warm reset (R230); the fast path only wakes it. -/
def State.stackStart (s : State) (h : Nat) (x : StackFound) : State :=
  let late := s.startup.lateStacks.testBit h
  let st := s.rd .hbmStackState 0 h
  let warm := decide (2 ≤ s.rd .pdxLastStart)
  let s := if late then s.trainStack h { x with result := 2 }
    else if warm ∧ st = stackCattrip then s
    else if s.startup.fast then (if st = stackQuiesced ∨ st = stackReady then
        (s.wr .hbmStackState stackReady 0 h).wr .hbmStacksPresent (setBit (s.rd .hbmStacksPresent) h) else s)
    else s.trainStack h x
  s.wr .hbmSpareFree (s.sparesLeft h) 0 h

def State.stacksStart (s : State) (f : Findings) : State :=
  let s := s.each (List.range 8) (fun s h => s.stackStart h (f.stackFinds.getD h { result := 3, lanes := 0, pch := 0xFF, temp := 0 }))
  let s := s.each s.hbm.waiting State.hardRepair
  s.each (List.range 8) (fun s h => s.wr .hbmPprPending ((s.hbm.waiting.filter (fun k => rowStack k == h)).length) 0 h)

/-! ## Steps 8 and 9 -/

/-- Step 8 at a site: CAP, negotiation and attestation (R288–R291). -/
def State.siteAttest (s : State) (k : Nat) (x : SiteFound) : State :=
  if s.rd .uciLinkState k ≠ lsTraining then s
  else
    let n := negotiate (s.rd .uciProtoAllow k) x.cap
    let s := ((s.wr .uciCap x.cap k).wr .uciProtocol n.1 k).wr .uciHtlLevel n.2 k
    let s := if n.1 = 0 then (s.wr .uciLinkState lsHeld k).ev (Ev.uciLevel k) else (s.wr .uciLinkState lsUp k).settleLink k
    let st := if s.startup.lateSpdm.testBit k then atFailed else x.attest % 4
    let s := s.setSite k { s.site k with alg := x.alg, chain := x.chain, meas := x.meas }
    let s := s.wr .uciAttestState st k
    if st = atFailed then (s.wr .uciLinkState lsHeld k).ev (Ev.uciAttestFail k) else s

/-- Step 9 at a port (R351): at most the rate that it is set to. -/
def State.portStart (s : State) (e found : Nat) : State :=
  let rate := s.rd .soxPortRate 0 e
  if s.startup.fast then (if s.startup.latePorts.testBit e ∨ rate = 2 then s.wr .soxPortState 0 0 e else s)
  else if rate = 2 ∨ s.startup.latePorts.testBit e ∨ found < 2 then s.wr .soxPortState 0 0 e
  else s.wr .soxPortState (if rate = 1 then 3 else min 3 found) 0 e

/-! ## READY (R527) -/

/-- What READY gives the egress tables (R368) and the clocks (R104). -/
def State.readyRegs (s : State) : State :=
  let s := s.each (List.range 16) (fun s e => s.wr .soxEgressTable ((List.range 8).foldl (fun v k => v + 2 ^ 31 * 2 ^ (32 * k)) 0) 0 e)
  s.each (List.range 32) (fun s p => s.wr .tilCclkEffective (s.clockTarget p) 0 p)

/-- The role of a hub at READY: UNPAIRED until its HELLO (R372). -/
def State.ready (s : State) (result : Nat) : State :=
  let s := (s.atStep 10).wr .pdxBringupResult result
  let s := ((s.readyRegs.wr .pdxReady 1).wr .beatRounds s.beatRounds).wr .lcsPending 0xFF
  let s : State := { s with
    beat := { rounds := s.beatRounds }
    owl := { s.owl with alive := true, slowPath := s.startup.fast && s.owl.slowPath } }
  ((s.log .start s.startExt).emit .readiness).drawn

/-! ## The start (R522–R525, R536) -/

/-- Steps 7 to 10 and the end. -/
def State.fromStep7 (s : State) (f : Findings) : State :=
  let nowhere : SiteFound := { populated := 0, disabled := 0, maps := [], rate := none, down := 0, cap := 0, attest := 0, alg := 0, chain := 0, meas := 0 }
  let r := s.readRecords f
  let s := r.1.stacksStart f
  let s := s.each (List.range 8) (fun s k => s.siteAttest k (f.sites.getD k nowhere))
  let s := s.each (List.range 16) (fun s e => s.portStart e (f.ports.getD e 0))
  if s.owl.fatalHub then s.haltStart 9 ((s.owl.latches.find hubLatch).map (fun l => l.code))
  else
    let c := s.compare f.topo r.2
    if c.2 = startHalted then c.1.haltStart 9 none else c.1.ready c.2

/-- Step 6, after which a pause may keep the start waiting (R280). -/
def State.step6 (s : State) (f : Findings) : State :=
  let s := s.each (List.range 8) (fun s k =>
    match f.sites[k]? with
    | some x =>
      let x := if s.startup.lateSites.testBit k then { x with rate := none } else x
      if s.startup.fast then s.siteFast k x else s.siteTest k x
    | none => s)
  if (List.range 8).any (fun k => (s.site k).pause) then
    ({ s with startup := { s.startup with paused := true } } : State).wr .pdxBringupStep 5
  else s.fromStep7 f

/-- A start runs to its end, to a halt or to a pause. -/
def State.bringUp (s : State) (f : Findings) : State :=
  if ¬ s.starting then s
  else if s.startup.paused then (if (List.range 8).any (fun k => (s.site k).pause) then s else s.fromStep7 f)
  else
    let s := if f.otpOk then s else ((s.setOtp { s.life.otp with bad := true })).lcStart
    if s.lc = lcScrapped ∨ s.lc = lcLocked then s.haltStart 1 none
    else if ¬ f.selftest then (s.wr .secState seError).haltEvent 2 Ev.secSelftestFail
    else if ¬ f.seOk ∨ field f.seVersion 31 0 < s.rd .lcsSvn then s.haltStart 2 none
    else
      let s := s.seStart f
      if ¬ f.ctlOk ∨ field f.ctlVersion 31 0 < s.rd .lcsSvn then s.haltStart 3 none
      else
        let s := s.ctlStart f
        if s.startup.fast then s.step6 f
        else
          let b := s.bist f
          match b.2 with
          | some n => b.1.haltEvent 4 (Ev.bstFail n) (Config.detail [n])
          | none => b.1.step6 f

/-- A step exceeds its limit (R523): a step of 1–5 or 10 halts the start, a unit of 6–9 is given its failed state. -/
def State.stepTimeout (s : State) (step mask : Nat) : State :=
  if ¬ s.starting ∨ step = 0 ∨ 10 < step then s
  else
    let x := s.startup
    match step with
    | 6 => ({ s with startup := { x with lateSites := x.lateSites ||| mask } } : State).wr .pdxBringupStep 6
    | 7 => ({ s with startup := { x with lateStacks := x.lateStacks ||| mask } } : State).wr .pdxBringupStep 7
    | 8 => ({ s with startup := { x with lateSpdm := x.lateSpdm ||| mask } } : State).wr .pdxBringupStep 8
    | 9 => ({ s with startup := { x with latePorts := x.latePorts ||| mask } } : State).wr .pdxBringupStep 9
    | _ => s.haltEvent (step - 1) Ev.bringupTimeout

/-! ## Entering a hub reset (R535, R537) -/

/-- Requests of the host in progress are answered Completer Abort. -/
def State.hostAbort (s : State) : State :=
  let reads := (s.noc.trackers.where (fun _ k => k.entry == .host && k.op.reads && !k.timedOut)).map (fun (e : Nat × Tracker) => e.2.lab.ptn)
  let waiting := s.hep.queue.flatMap (fun (e : Nat × List HostReq) => (e.2.filter (fun r => r.data.isNone)).map (fun _ => e.1))
  let s := s.each (reads ++ waiting) (fun s p => s.emit (.completion (p + 1) cplCa []))
  s.hostDrop (fun _ => true)

/-- Chiplets of sites in use are reset. -/
def State.assertAll (s : State) : State := s.each ((List.range 8).filter s.siteUsed) (fun s k => s.sbxReset k rstAssert)

/-- CTRL RESET on every open connection. -/
def State.resetOpen (s : State) : State :=
  s.each (s.sox.conns.where (fun n c => n != 0 && c.st == .open)) (fun s (e : Nat × Conn) =>
    s.sendCtl e.1 e.2 2 sftCtrl (ctrlExt ctrlReset e.1 0) [])

/-- A transition whose erasure runs fails (R470). -/
def State.lcAbort (s : State) : State :=
  match s.life.erasing with
  | some r => ({ s with life := { s.life with erasing := none } } : State).lcFail r lcErase
  | none => s

/-- A hub reset is commanded. One that is pending already becomes a cold one where this one is. -/
def State.hubReset (s : State) (cold fault : Bool) (cause : Nat) : State :=
  match s.startup.reset with
  | some r => { s with startup := { s.startup with reset := some { r with cold := r.cold || cold } } }
  | none =>
    let s : State := { s with startup := { s.startup with reset := some { cold, fault, cause } } }
    let s := (s.stopWork (fun _ => true)).abortSites (fun _ => true)
    let s := ((s.hostAbort).resetOpen).assertAll
    let s := (s.exportEnd xpAborted).lcAbort
    (s.each (List.range 8) State.restStack).startFlush

/-- The fast path is taken (R535). -/
def State.fastPath (s : State) (r : HubReset) : Bool :=
  s.rd .pdxWarmFast == 1 && !r.fault && (s.rd .pdxBringupResult == startReady || s.rd .pdxBringupResult == startDegraded)
    && !s.owl.slowPath && !s.startup.pwrFail

/-- The reset takes effect 1 ms after its command. What Squirrel had buffered has been written. -/
def State.resetEffect (s : State) : State :=
  match s.startup.reset with
  | none => s
  | some r =>
    let s := if s.rd .sqlState = storeReady then s.endFlush else s
    let kind := if r.cold then kindCold else if s.fastPath r then kindWarmFast else kindWarmFull
    let pf0 := s.hep.header.where (fun k _ => k / 16 == 0)
    let flr := s.allFlr
    let s : State := if r.cold then s.linkDown else { flr with hep := { flr.hep with header := pf0 } }
    s.beginStart kind r.cause

/-! ## The commands of starts and resets -/

/-- VIN_MAIN enters its range. -/
def execPowerOn (s : State) : Host.Outcome State Fault Refusal :=
  .next (if s.startup.powered then s else s.beginStart kindPowerOn 0)

/-- VIN_MAIN leaves its range (R598): only OTP, the slots of the boot device and the record store keep their contents. -/
def execPowerRemoved (s : State) : Host.Outcome State Fault Refusal :=
  let t : State := {
    pending := s.pending, sent := s.sent, fresh := s.fresh, store := s.store
    life := { otp := s.life.otp, slot := s.life.slot, integrator := s.life.integrator, operator := s.life.operator }
    regs := s.regs.where (fun k _ => lifeKeys.contains k)
    hbm := { repaired := s.hbm.repaired, used := s.hbm.used, perBank := s.hbm.perBank }
    owl := { alive := false }
    sql := { boot := s.sql.boot }
    hep := { perst := s.hep.perst }
    tile := { spareBad := s.tile.spareBad }
    startup := { powered := false, pinLow := s.startup.pinLow } }
  .next t

def execBringupTimeout (step mask : Nat) (s : State) : Host.Outcome State Fault Refusal := .next (s.stepTimeout step mask)

def execBringupReady (f : Findings) (s : State) : Host.Outcome State Fault Refusal := .next (s.bringUp f)

/-- PDX_HUB_RESET, from the start of controller firmware on (R520). -/
def State.hubResetWrite (s : State) (role : Role) (v : Nat) : Answer :=
  if !mayWrite [.n, .w, .w, .w, .n] role then s.refuse stDenied
  else if v ≠ 1 ∧ v ≠ 2 then s.refuse stRange
  else if s.rd .pdxBringupStep < 3 then s.refuse stBusy
  else (stPending, s.hubReset (v == 2) false 0)

def execPdxHubResetWarm (role : Role) (s : State) : Host.Outcome State Fault Refusal := .next (State.answered (s.hubResetWrite role 1))
def execPdxHubResetCold (role : Role) (s : State) : Host.Outcome State Fault Refusal := .next (State.answered (s.hubResetWrite role 2))

/-- HUB_RESET_N is asserted for over 1 µs. -/
def execHubResetPin (s : State) : Host.Outcome State Fault Refusal :=
  .next (if ¬ s.startup.powered then { s with startup := { s.startup with pinLow := true } }
    else ({ s with startup := { s.startup with pinLow := true } } : State).hubReset true false 0)

def execHubResetEffect (s : State) : Host.Outcome State Fault Refusal := .next s.resetEffect

/-- HUB_RESET_N returns high: the start goes on once the reset has taken effect. -/
def execHubResetRelease (s : State) : Host.Outcome State Fault Refusal :=
  .next { s with startup := { s.startup with pinLow := false } }

/-! ## Power failure (R543, R601, R602) -/

/-- A power failure: the event starts the safe states, Squirrel starts its flush, no fuse bit starts from now on, and a start halts. -/
def State.powerFail (s : State) (code : Nat) : State :=
  let started := s.starting
  let s : State := { s with startup := { s.startup with pwrFail := true } }
  let s := (s.ev code).startFlush
  if started then s.haltStart (s.rd .pdxBringupStep) (some code) else s

def execPwrFailAssert (s : State) : Host.Outcome State Fault Refusal := .next (s.powerFail Ev.pwrFail)

/-- VIN_MAIN stays below 1.70 V for 2 µs without PWR_FAIL_N. -/
def execPwrBrownout (s : State) : Host.Outcome State Fault Refusal :=
  .next (if s.startup.pwrFail then s else s.powerFail Ev.pwrBrownout)

/-! ## Partial reset (R540) -/

/-- The partition of a plot is HALTED or being reset. -/
def State.plotIdle (s : State) (q : Nat) : Bool :=
  match s.plotOwner q with
  | some p => [ptnHalted, ptnResetting, ptnScrubbing, ptnDissolving].contains (s.ptnState p)
  | none => true

def State.partialWrite (s : State) (role : Role) (v : Nat) : Answer :=
  if !mayWrite [.n, .n, .w, .n, .n] role then s.refuse stDenied
  else if 2 ^ 64 ≤ v then s.refuse stType
  else if (bitsOf v 64).any (fun q => !s.plotIdle q) then s.refuse stRunning
  else
    let ts := (bitsOf v 64).flatMap plotTiles
    let t : State := { s with
      test := { s.test with partial' := s.test.partial' ||| v }
      heldTiles := ts.foldl (fun (m : AMap Unit) t => m.set t ()) s.heldTiles }
    (stPending, (t.emptyTiles ts).zeroPads ts)

def execPdxPartialReset (role : Role) (v : Nat) (s : State) : Host.Outcome State Fault Refusal :=
  .next (State.answered (s.partialWrite role v))

/-- The tiles are released unconfigured; those of a partition that is being reset stay held by it. -/
def execPartialResetRelease (s : State) : Host.Outcome State Fault Refusal :=
  let qs := bitsOf s.test.partial' 64
  let held := (qs.filter (fun q => match s.plotOwner q with
    | some p => s.ptnState p != ptnHalted
    | none => false)).flatMap plotTiles
  let t := ({ s with test := { s.test with partial' := 0 } } : State).freshTiles (qs.flatMap plotTiles)
  .next { t with heldTiles := held.foldl (fun (m : AMap Unit) t => m.set t ()) t.heldTiles }

/-! ## Triage (R557, R558) -/

/-- Sources whose instance is a site, and the source whose instance is a port. -/
def siteSource (code : Nat) : Bool := code / 4096 == 6 || (code / 16 == 0xE07) || (code / 16 == 0xE08)
def portSource (code : Nat) : Bool := code / 16 == 0x801
def tileSource (code : Nat) : Bool := code / 4096 == 2 || code / 16 == 0xF0A

/-- An action is valid for a raise. -/
def actionValid (t : Triage) (a : TriageAction) : Bool :=
  match a with
  | .none => true
  | .retry => t.sev == .contained && (siteSource t.code || portSource t.code)
  | .offline => t.sev == .contained && (siteSource t.code || portSource t.code || tileSource t.code)
  | .ptnWarm => (t.sev == .contained || t.sev == .fatalPartition) && decide (t.latch < 32)
  | .ptnFull => (t.sev == .contained || t.sev == .fatalPartition) && decide (t.latch < 32)
  | .dissolve => (t.sev == .contained || t.sev == .fatalPartition) && decide (t.latch < 32)
  | .hubWarm => true
  | .hubCold => true

/-- A port trains again. -/
def State.retrainPort (s : State) (e : Nat) : State := if s.rd .soxPortRate 0 e = 2 then s else s.portChange e 1

/-- The effect of an action. -/
def State.triageAct (s : State) (t : Triage) (a : TriageAction) : State :=
  let i := t.code % 16
  if !actionValid t a then s
  else
    match a with
    | .none => s
    | .retry => if siteSource t.code then s.startReset (i % 8) else s.retrainPort i
    | .offline =>
      if siteSource t.code then (s.setSite (i % 8) { s.site (i % 8) with offline := true }).wr .uciLinkState lsHeld (i % 8)
      else if portSource t.code then (s.wr .soxPortRate 2 0 i).portChange i 0
      else
        let n := Config.detailTile t.detail % 2304
        s.wr .tilFailed (setBit (s.rd .tilFailed) n)
    | .ptnWarm => (s.cmdWarmReset .operator t.latch 0).2
    | .ptnFull => (s.cmdFullReset .operator t.latch 0).2
    | .dissolve => (s.cmdDissolve .operator t.latch 0).2
    | .hubWarm => s.hubReset false true t.code
    | .hubCold => s.hubReset true true t.code

/-- Triage of a raise ends. -/
def State.triageEnd (s : State) (t : Triage) : State := { s with owl := { s.owl with triage := s.owl.triage.filter (· != t) } }

/-- The action that a code of R549 names. -/
def TriageAction.ofCode : Nat → TriageAction
  | 1 => .retry
  | 2 => .offline
  | 3 => .ptnWarm
  | 4 => .ptnFull
  | 5 => .dissolve
  | 6 => .hubWarm
  | 7 => .hubCold
  | _ => .none

/-- OWL_TRIAGE_DECIDE. In hardware mode no raise awaits a decision. -/
def State.triageDecide (s : State) (role : Role) (v : Nat) : Answer :=
  let latch := if v.testBit 106 then hubLatch else field v 111 107
  let a := TriageAction.ofCode (field v 105 103)
  if !mayWrite [.n, .n, .b, .b, .n] role then s.refuse stDenied
  else if 2 ^ 128 ≤ v then s.refuse stType
  else
    match s.owl.triage.find? (fun t => t.code == field v 127 112 && t.latch == latch && t.beat.toNat == field v 102 55) with
    | none => s.refuse stRange
    | some t =>
      if s.rd .owlTriageMode ≠ 1 ∨ field v 54 0 ≠ 0 ∨ !actionValid t a then s.refuse stRange
      else (stOk, ((s.wr .owlTriageDecide v).triageEnd t).triageAct t a)

def execOwlTriageDecide (role : Role) (v : Nat) (s : State) : Host.Outcome State Fault Refusal :=
  .next (State.answered (s.triageDecide role v))

/-- OWL_TRIAGE_HOLD passes in hardware mode: the source's ACTION is applied, after the flush of a fatal raise. -/
def execOwlTriageHoldExpiry (latch : Nat) (s : State) : Host.Outcome State Fault Refusal :=
  .next (match s.owl.triage.find? (fun t => t.latch == latch) with
    | none => s
    | some t =>
      if s.rd .owlTriageMode ≠ 0 ∨ (t.sev.fatal ∧ s.sql.flushing) then s
      else
        match sourceOf t.code with
        | some x => (s.triageEnd t).triageAct t (s.srcCfg x).action
        | none => s.triageEnd t)

/-- No decision within OWL_TRIAGE_DEADLINE: the unit stays in its safe state. -/
def execOwlTriageMiss (latch : Nat) (s : State) : Host.Outcome State Fault Refusal :=
  .next (match s.owl.triage.find? (fun t => t.latch == latch) with
    | none => s
    | some t => if s.rd .owlTriageMode ≠ 1 then s else (s.triageEnd t).ev Ev.owlTriageMiss)

end Sys2Proof.Machine
end

