-- ==== Sys2Proof/Machine/DictTable.lean ====
section
/-! DEFINITION. The entry tables of the dictionary (R495): each entry's place, type, access string, apply class, whether the table gives
it a default, and the range of its values. One list for each chapter of the spec. -/

namespace Sys2Proof.Machine

/-- The types of values (R497). -/
inductive DType where
  | u8 | u16 | u32 | u64 | i32 | f32 | bool | enum
  | bits (n : Nat)
  | bytes (n : Nat)
  | str (n : Nat)
  | timeNs | beats
  deriving DecidableEq, Repr

/-- How an entry's index runs: one index, one in each partition block, one in each site block, or a run of one for each partition. -/
inductive DScope where
  | plain | block | site | run
  deriving DecidableEq, Repr

/-- Apply classes (R17); an entry that has none is read-only (R495). -/
inductive Apply where
  | none | live | beat | idle | reset | onSeal
  deriving DecidableEq, Repr

/-- The values that an entry takes, apart from checks that join it with others: any of its type, those between two, the multiples of
a step between two, signed ones between two, those listed, or those with none of some bits set. -/
inductive DRange where
  | any
  | span (lo hi : Nat)
  | step (lo hi n : Nat)
  | ints (lo hi : Int)
  | oneOf (l : List Nat)
  | clear (mask : Nat)
  deriving DecidableEq, Repr

/-- An entry: its register, its sub-indices and whether they name partitions, and its columns in the spec's table. -/
structure DEntry where
  reg : Reg
  scope : DScope
  subs : Nat
  subPtn : Bool
  ty : DType
  acc : List Acc
  apply : Apply
  dflt : Bool
  range : DRange := .any
  deriving DecidableEq, Repr

/-- Entries of 02_beat.md, BEAT_PERIOD onward. -/
def dictBeatA : List DEntry :=
  [⟨.beatPeriod, .plain, 1, false, .timeNs, [.r, .r, .b, .r, .r], .reset, true, .step 8000 8000000 400⟩,
   ⟨.beatNumber, .plain, 1, false, .u64, [.r, .r, .r, .r, .r], .none, false, .any⟩,
   ⟨.beatEpoch, .plain, 1, false, .u64, [.r, .r, .b, .r, .r], .reset, true, .any⟩,
   ⟨.beatSyncSrc, .plain, 1, false, .enum, [.r, .r, .b, .r, .r], .reset, true, .span 0 2⟩,
   ⟨.beatAlignState, .plain, 1, false, .enum, [.r, .r, .r, .r, .r], .none, false, .any⟩,
   ⟨.beatOffset, .plain, 1, false, .i32, [.r, .r, .r, .r, .r], .none, false, .any⟩,
   ⟨.beatHoldover, .plain, 1, false, .timeNs, [.r, .r, .b, .r, .r], .live, true, .span 0 10000000000⟩,
   ⟨.beatLockEdges, .plain, 1, false, .u8, [.r, .r, .b, .r, .r], .live, true, .span 4 255⟩,
   ⟨.beatTrimMax, .plain, 1, false, .u8, [.r, .r, .b, .r, .r], .live, true, .span 0 2⟩,
   ⟨.beatTodSeconds, .plain, 1, false, .u64, [.r, .r, .b, .r, .r], .live, true, .any⟩,
   ⟨.beatPpsOut, .plain, 1, false, .bool, [.r, .r, .b, .r, .r], .live, true, .any⟩,
   ⟨.beatRounds, .plain, 1, false, .u32, [.r, .r, .r, .r, .r], .none, false, .any⟩,
   ⟨.beatTimingMode, .plain, 32, true, .enum, [.r, .r, .b, .r, .r], .onSeal, true, .span 0 1⟩,
   ⟨.beatOverruns, .plain, 32, true, .u32, [.r, .r, .r, .r, .r], .none, true, .any⟩,
   ⟨.beatLostSlots, .plain, 32, true, .u64, [.r, .r, .r, .r, .r], .none, true, .any⟩,
   ⟨.beatHubOverruns, .plain, 1, false, .u32, [.r, .r, .r, .r, .n], .none, true, .any⟩,
   ⟨.beatStretchActive, .plain, 1, false, .u32, [.r, .r, .r, .r, .n], .none, true, .any⟩,
   ⟨.beatStretchGrants, .plain, 1, false, .u64, [.r, .r, .r, .r, .n], .none, true, .any⟩,
   ⟨.beatAlignLosses, .plain, 1, false, .u32, [.r, .r, .r, .r, .r], .none, true, .any⟩,
   ⟨.beatSkipped, .plain, 1, false, .u64, [.r, .r, .r, .r, .r], .none, true, .any⟩]

/-- Entries of 03_tile_fabric.md, TIL_SPARE_MAP onward. -/
def dictTileFabricA : List DEntry :=
  [⟨.tilSpareMap, .plain, 1, false, .bytes 48, [.r, .r, .r, .r, .n], .none, false, .any⟩,
   ⟨.tilFailed, .plain, 1, false, .bits 2304, [.r, .r, .r, .r, .n], .none, false, .any⟩,
   ⟨.tilCclkMhz, .plain, 32, true, .u16, [.r, .r, .b, .r, .b], .beat, true, .step 600 1300 50⟩,
   ⟨.tilCclkCapMhz, .plain, 32, true, .u16, [.r, .r, .b, .r, .r], .beat, true, .step 600 1300 50⟩,
   ⟨.tilCclkEffective, .plain, 32, true, .u16, [.r, .r, .r, .r, .r], .none, false, .any⟩,
   ⟨.tilRowcacheKib, .plain, 32, true, .u8, [.r, .r, .b, .r, .b], .onSeal, true, .oneOf [0, 8, 16, 24, 32]⟩,
   ⟨.tilColbufKib, .plain, 32, true, .u8, [.r, .r, .b, .r, .b], .onSeal, true, .oneOf [0, 8, 16, 24, 32]⟩,
   ⟨.tilAcceptDegraded, .plain, 32, true, .bool, [.r, .r, .b, .r, .r], .onSeal, true, .any⟩,
   ⟨.tilPatrolEn, .plain, 1, false, .bool, [.r, .r, .b, .r, .n], .live, true, .any⟩,
   ⟨.tilCeCount, .plain, 32, true, .u32, [.r, .r, .r, .r, .r], .none, true, .any⟩,
   ⟨.tilUeCount, .plain, 32, true, .u32, [.r, .r, .r, .r, .r], .none, true, .any⟩,
   ⟨.tilHalts, .plain, 32, true, .u64, [.r, .r, .r, .r, .r], .none, true, .any⟩]

/-- Entries of 04_tile_arithmetic.md, ARI_MX_SCALE_MODE onward. -/
def dictTileArithmeticA : List DEntry :=
  [⟨.ariMxScaleMode, .plain, 32, true, .enum, [.r, .r, .b, .r, .b], .beat, true, .span 0 1⟩,
   ⟨.ariConvRefused, .plain, 32, true, .u32, [.r, .r, .r, .r, .r], .none, true, .any⟩,
   ⟨.ariSrKey, .run, 16, false, .u64, [.n, .n, .n, .n, .b], .beat, false, .any⟩,
   ⟨.ariSrEpoch, .run, 16, false, .u64, [.n, .n, .n, .n, .b], .beat, true, .span 0 70368744177663⟩]

/-- Entries of 05_tile_programs.md, TIL_WQ_CFG onward. -/
def dictTileProgramsA : List DEntry :=
  [⟨.tilWqCfg, .run, 64, false, .bytes 32, [.n, .n, .r, .n, .b], .idle, true, .any⟩,
   ⟨.tilSaveBase, .plain, 32, true, .u64, [.n, .n, .r, .n, .b], .onSeal, true, .any⟩,
   ⟨.tilSvcCfg, .plain, 32, true, .bits 16, [.n, .n, .r, .n, .b], .beat, true, .clear 0xFF00⟩,
   ⟨.tilSvcPlots, .plain, 32, true, .bits 64, [.n, .n, .r, .n, .b], .beat, true, .any⟩,
   ⟨.tilSvcTimeout, .plain, 32, true, .beats, [.n, .n, .r, .n, .b], .live, true, .span 1 65535⟩,
   ⟨.tilCkptPlan, .plain, 32, true, .u64, [.n, .n, .r, .n, .b], .beat, true, .any⟩,
   ⟨.tilCkptPeriod, .plain, 32, true, .beats, [.n, .n, .r, .n, .b], .beat, true, .any⟩,
   ⟨.tilWqDescriptors, .plain, 32, true, .u64, [.r, .r, .r, .r, .r], .none, true, .any⟩,
   ⟨.tilSvcRequests, .plain, 32, true, .u64, [.r, .r, .r, .r, .r], .none, true, .any⟩,
   ⟨.tilSvcBusy, .plain, 32, true, .u32, [.r, .r, .r, .r, .r], .none, true, .any⟩,
   ⟨.tilCkptDone, .plain, 32, true, .u32, [.r, .r, .r, .r, .r], .none, true, .any⟩,
   ⟨.tilCkptFailed, .plain, 32, true, .u32, [.r, .r, .r, .r, .r], .none, true, .any⟩,
   ⟨.tilTableReg, .run, 16, false, .bytes 32, [.n, .n, .r, .n, .b], .beat, true, .clear 0x3FF⟩]

/-- Entries of 06_fabric_network.md, NOC_RSP_TIMEOUT onward. -/
def dictFabricNetworkA : List DEntry :=
  [⟨.nocRspTimeout, .plain, 1, false, .timeNs, [.r, .r, .b, .r, .n], .live, true, .span 10000 10000000⟩,
   ⟨.nocDatCe, .plain, 1, false, .u64, [.r, .r, .r, .r, .n], .none, true, .any⟩,
   ⟨.nocDatUe, .plain, 1, false, .u32, [.r, .r, .r, .r, .n], .none, true, .any⟩,
   ⟨.nocParityErr, .plain, 1, false, .u32, [.r, .r, .r, .r, .n], .none, true, .any⟩,
   ⟨.nocTimeouts, .plain, 32, true, .u32, [.r, .r, .r, .r, .r], .none, true, .any⟩,
   ⟨.nocBridgeDiscards, .plain, 1, false, .u64, [.r, .r, .r, .r, .n], .none, true, .any⟩,
   ⟨.nocCutFlits, .plain, 4, false, .u64, [.r, .r, .r, .r, .n], .none, true, .any⟩,
   ⟨.nocPtnCutFlits, .plain, 32, true, .u64, [.r, .r, .r, .r, .r], .none, true, .any⟩]

/-- Entries of 07_bandwidth_regulation.md, QOS_STAGE_SEL onward. -/
def dictBandwidthRegulationA : List DEntry :=
  [⟨.qosStageSel, .plain, 1, false, .u16, [.r, .r, .b, .r, .n], .live, true, .any⟩,
   ⟨.qosStageTable, .plain, 1, false, .bytes 512, [.r, .r, .b, .r, .n], .live, false, .any⟩,
   ⟨.qosActiveTable, .plain, 1, false, .bytes 512, [.r, .r, .r, .r, .n], .none, false, .any⟩,
   ⟨.qosCommit, .plain, 1, false, .u8, [.r, .r, .b, .r, .n], .live, true, .any⟩,
   ⟨.qosCommitStatus, .plain, 1, false, .enum, [.r, .r, .r, .r, .n], .none, true, .any⟩,
   ⟨.qosCommitFault, .plain, 1, false, .u64, [.r, .r, .r, .r, .n], .none, true, .any⟩,
   ⟨.qosCommitBeat, .plain, 1, false, .u64, [.r, .r, .r, .r, .n], .none, true, .any⟩,
   ⟨.qosThrBulk, .plain, 1, false, .u16, [.r, .r, .b, .r, .n], .live, true, .span 1024 8191⟩,
   ⟨.qosThrBg, .plain, 1, false, .u16, [.r, .r, .b, .r, .n], .live, true, .span 0 8191⟩,
   ⟨.qosHyst, .plain, 1, false, .u16, [.r, .r, .b, .r, .n], .live, true, .span 0 1023⟩,
   ⟨.qosAge, .plain, 1, false, .u8, [.r, .r, .b, .r, .n], .live, true, .span 1 255⟩,
   ⟨.qosPtnShare, .plain, 32, true, .bytes 16, [.r, .r, .r, .r, .r], .none, false, .any⟩,
   ⟨.qosPtnHeld, .plain, 32, true, .u64, [.r, .r, .r, .r, .r], .none, true, .any⟩,
   ⟨.qosPtnBorrowed, .plain, 32, true, .u64, [.r, .r, .r, .r, .r], .none, true, .any⟩,
   ⟨.qosPtnRetries, .plain, 32, true, .u64, [.r, .r, .r, .r, .r], .none, true, .any⟩,
   ⟨.qosSysDemoted, .plain, 32, true, .u32, [.r, .r, .r, .r, .r], .none, true, .any⟩,
   ⟨.qosPtnAged, .plain, 32, true, .u64, [.r, .r, .r, .r, .r], .none, true, .any⟩,
   ⟨.qosHaLevel, .plain, 8, false, .u16, [.r, .r, .r, .r, .n], .none, false, .any⟩,
   ⟨.qosHaLevelMax, .plain, 8, false, .u16, [.r, .r, .r, .r, .n], .none, true, .any⟩]

/-- Entries of 08_memory.md, HBM_RATE onward. -/
def dictMemoryA : List DEntry :=
  [⟨.hbmRate, .plain, 1, false, .enum, [.r, .b, .r, .r, .n], .reset, true, .span 0 4⟩,
   ⟨.hbmStacksPresent, .plain, 1, false, .bits 8, [.r, .r, .r, .r, .r], .none, false, .any⟩,
   ⟨.hbmStackState, .plain, 8, false, .enum, [.r, .r, .r, .r, .r], .none, false, .any⟩,
   ⟨.hbmTrainResult, .plain, 8, false, .u32, [.r, .r, .r, .r, .n], .none, false, .any⟩,
   ⟨.hbmTemp, .plain, 8, false, .i32, [.r, .r, .r, .r, .r], .none, false, .any⟩,
   ⟨.hbmThrottleLevel, .plain, 8, false, .u8, [.r, .r, .r, .r, .r], .none, true, .any⟩,
   ⟨.hbmRefreshRate, .plain, 8, false, .enum, [.r, .r, .r, .r, .r], .none, true, .any⟩,
   ⟨.hbmTempHigh, .plain, 1, false, .u8, [.r, .b, .b, .r, .n], .beat, true, .span 60 95⟩,
   ⟨.hbmTempThrottle, .plain, 1, false, .u8, [.r, .b, .b, .r, .n], .beat, true, .any⟩,
   ⟨.hbmTempCrit, .plain, 1, false, .u8, [.r, .b, .b, .r, .n], .beat, true, .span 0 105⟩,
   ⟨.hbmTempHyst, .plain, 1, false, .u8, [.r, .b, .b, .r, .n], .beat, true, .span 1 10⟩,
   ⟨.hbmResumeBeats, .plain, 1, false, .beats, [.r, .b, .b, .r, .n], .live, true, .span 1 65535⟩,
   ⟨.hbmHubReserve, .plain, 1, false, .u16, [.r, .b, .b, .r, .n], .reset, true, .span 16 1024⟩,
   ⟨.hbmSpareGranules, .plain, 1, false, .u16, [.r, .b, .b, .r, .n], .reset, true, .span 0 256⟩,
   ⟨.hbmSpareFree, .plain, 8, false, .u16, [.r, .r, .r, .r, .n], .none, false, .any⟩,
   ⟨.hbmOffline, .plain, 8, false, .u32, [.r, .r, .r, .r, .n], .none, false, .any⟩,
   ⟨.hbmPprLeft, .plain, 8, false, .u32, [.r, .r, .r, .r, .n], .none, false, .any⟩,
   ⟨.hbmPprSoft, .plain, 8, false, .u32, [.r, .r, .r, .r, .n], .none, true, .any⟩,
   ⟨.hbmPprHard, .plain, 8, false, .u32, [.r, .r, .r, .r, .n], .none, false, .any⟩,
   ⟨.hbmPprPending, .plain, 8, false, .u32, [.r, .r, .r, .r, .n], .none, false, .any⟩]

/-- Entries of 08_memory.md, HBM_ROW_CE_LIMIT onward. -/
def dictMemoryB : List DEntry :=
  [⟨.hbmRowCeLimit, .plain, 1, false, .u8, [.r, .r, .b, .r, .n], .live, true, .span 1 255⟩,
   ⟨.hbmRowCeWindow, .plain, 1, false, .timeNs, [.r, .r, .b, .r, .n], .live, true, .span 1000000000 18446744073709551615⟩,
   ⟨.hbmPatrolHours, .plain, 1, false, .u16, [.r, .r, .b, .r, .n], .live, true, .span 0 720⟩,
   ⟨.hbmLineCode, .plain, 32, true, .enum, [.r, .r, .b, .r, .b], .onSeal, true, .span 0 1⟩,
   ⟨.hbmCeCount, .plain, 32, true, .u64, [.r, .r, .r, .r, .r], .none, true, .any⟩,
   ⟨.hbmUeCount, .plain, 32, true, .u32, [.r, .r, .r, .r, .r], .none, true, .any⟩,
   ⟨.hbmReadBytes, .plain, 8, false, .u64, [.r, .r, .r, .r, .n], .none, true, .any⟩,
   ⟨.hbmWriteBytes, .plain, 8, false, .u64, [.r, .r, .r, .r, .n], .none, true, .any⟩,
   ⟨.hbmActivates, .plain, 8, false, .u64, [.r, .r, .r, .r, .n], .none, true, .any⟩]

/-- Entries of 09_placement.md, JAY_BEAT_BUDGET onward. -/
def dictPlacementA : List DEntry :=
  [⟨.jayBeatBudget, .plain, 1, false, .u8, [.r, .r, .b, .r, .n], .beat, true, .span 1 24⟩,
   ⟨.jayStackBudget, .plain, 1, false, .u8, [.r, .r, .b, .r, .n], .beat, true, .span 1 8⟩,
   ⟨.jayMode, .plain, 32, true, .enum, [.r, .r, .b, .r, .b], .beat, true, .span 0 1⟩,
   ⟨.jayMissMode, .plain, 32, true, .enum, [.r, .r, .b, .r, .b], .beat, true, .span 0 1⟩,
   ⟨.jayMissDeadline, .plain, 1, false, .timeNs, [.r, .r, .b, .r, .n], .live, true, .span 1000 100000⟩,
   ⟨.jayHostDeadline, .plain, 1, false, .beats, [.r, .r, .b, .r, .n], .live, true, .span 1 1000⟩,
   ⟨.jayHeatSampleLog2, .plain, 1, false, .u8, [.r, .r, .b, .r, .n], .live, true, .span 0 15⟩,
   ⟨.jayDecay, .plain, 1, false, .u8, [.r, .r, .b, .r, .n], .live, true, .span 1 4⟩,
   ⟨.jayMoveMin, .plain, 1, false, .u8, [.r, .r, .b, .r, .n], .live, true, .span 1 15⟩,
   ⟨.jayMoveMargin, .plain, 1, false, .u8, [.r, .r, .b, .r, .n], .live, true, .span 1 15⟩,
   ⟨.jayMoveHold, .plain, 1, false, .beats, [.r, .r, .b, .r, .n], .live, true, .span 0 65535⟩,
   ⟨.jayCopyPasses, .plain, 1, false, .u8, [.r, .r, .b, .r, .n], .live, true, .span 1 4⟩,
   ⟨.jayLockMax, .plain, 1, false, .timeNs, [.r, .r, .b, .r, .n], .live, true, .span 1000 50000⟩,
   ⟨.jayRowHot, .plain, 1, false, .u16, [.r, .r, .b, .r, .n], .live, true, .span 1 65535⟩,
   ⟨.jayRowFills, .plain, 1, false, .u16, [.r, .r, .b, .r, .n], .live, true, .span 0 4096⟩,
   ⟨.jayOwnerSel, .plain, 1, false, .u16, [.r, .r, .b, .r, .n], .live, true, .any⟩,
   ⟨.jayOwnerMap, .plain, 1, false, .bytes 256, [.r, .r, .r, .r, .n], .none, false, .any⟩,
   ⟨.jayHeatDropped, .plain, 1, false, .u64, [.r, .r, .r, .r, .n], .none, true, .any⟩,
   ⟨.jayPtnRange, .plain, 32, true, .u64, [.r, .r, .b, .r, .r], .onSeal, true, .clear 0xFFF80000FFF00000⟩,
   ⟨.jayCmd, .plain, 32, true, .bytes 32, [.n, .n, .b, .n, .b], .live, true, .any⟩]

/-- Entries of 09_placement.md, JAY_CMD_RESULT onward. -/
def dictPlacementB : List DEntry :=
  [⟨.jayCmdResult, .plain, 32, true, .u32, [.n, .n, .r, .n, .r], .none, true, .any⟩,
   ⟨.jayMissPending, .plain, 32, true, .bytes 256, [.n, .n, .r, .n, .r], .none, false, .any⟩,
   ⟨.jayMissVector, .plain, 32, true, .u16, [.n, .n, .b, .n, .b], .live, true, .span 0 511⟩,
   ⟨.jayCandidates, .plain, 32, true, .bytes 256, [.n, .n, .r, .n, .r], .none, false, .any⟩,
   ⟨.jayEntrySel, .plain, 32, true, .u32, [.n, .n, .n, .n, .b], .live, true, .any⟩,
   ⟨.jayEntry, .plain, 32, true, .bytes 16, [.n, .n, .n, .n, .r], .none, false, .any⟩,
   ⟨.jayPool, .plain, 32, true, .u32, [.r, .r, .r, .r, .r], .none, false, .any⟩,
   ⟨.jayMapped, .plain, 32, true, .u32, [.r, .r, .r, .r, .r], .none, false, .any⟩,
   ⟨.jayMigrations, .plain, 32, true, .u64, [.r, .r, .r, .r, .r], .none, true, .any⟩,
   ⟨.jayMigCancelled, .plain, 32, true, .u32, [.r, .r, .r, .r, .r], .none, true, .any⟩,
   ⟨.jayMigAbandoned, .plain, 32, true, .u32, [.r, .r, .r, .r, .r], .none, true, .any⟩,
   ⟨.jayXlateRefused, .plain, 32, true, .u32, [.r, .r, .r, .r, .r], .none, true, .any⟩,
   ⟨.jayRowHits, .plain, 32, true, .u64, [.r, .r, .r, .r, .r], .none, true, .any⟩]

/-- Entries of 10_chiplet_sites.md, UCI_RATE onward. -/
def dictChipletSitesA : List DEntry :=
  [⟨.uciRate, .site, 1, false, .enum, [.r, .b, .r, .r, .n], .reset, true, .span 0 2⟩,
   ⟨.uciProtoAllow, .site, 1, false, .bits 2, [.r, .b, .b, .r, .n], .reset, true, .any⟩,
   ⟨.uciRepairMode, .site, 1, false, .enum, [.r, .b, .b, .r, .n], .reset, true, .span 0 1⟩,
   ⟨.uciRepairDeadline, .site, 1, false, .timeNs, [.r, .b, .b, .r, .n], .live, true, .span 1000000 10000000000⟩,
   ⟨.uciRepairPending, .site, 1, false, .bytes 128, [.r, .r, .r, .r, .n], .none, false, .any⟩,
   ⟨.uciRepairAccept, .site, 1, false, .bits 16, [.r, .b, .b, .r, .n], .live, true, .any⟩,
   ⟨.uciRepairMap, .site, 16, false, .u64, [.r, .r, .r, .r, .n], .none, false, .any⟩,
   ⟨.uciRepairOtp, .site, 16, false, .u64, [.r, .r, .r, .r, .n], .none, false, .any⟩,
   ⟨.uciLinkState, .site, 1, false, .enum, [.r, .r, .r, .r, .r], .none, false, .any⟩,
   ⟨.uciModules, .site, 1, false, .bits 16, [.r, .r, .r, .r, .r], .none, false, .any⟩,
   ⟨.uciRateEffective, .site, 1, false, .enum, [.r, .r, .r, .r, .r], .none, false, .any⟩,
   ⟨.uciProtocol, .site, 1, false, .enum, [.r, .r, .r, .r, .r], .none, false, .any⟩,
   ⟨.uciCap, .site, 1, false, .bytes 16, [.r, .r, .r, .r, .r], .none, false, .any⟩,
   ⟨.uciHtlLevel, .site, 1, false, .u8, [.r, .r, .r, .r, .r], .none, false, .any⟩,
   ⟨.uciAttestState, .site, 1, false, .enum, [.r, .r, .r, .r, .r], .none, true, .any⟩,
   ⟨.uciBind, .site, 1, false, .bits 32, [.r, .r, .b, .r, .r], .idle, true, .any⟩,
   ⟨.uciAcceptUnattested, .site, 32, true, .bool, [.r, .r, .r, .b, .b], .onSeal, true, .any⟩,
   ⟨.uciCohRole, .site, 32, true, .enum, [.r, .r, .r, .r, .r], .none, true, .any⟩,
   ⟨.uciResetCmd, .site, 1, false, .enum, [.r, .r, .b, .r, .n], .live, true, .any⟩,
   ⟨.uciQuiesceTime, .site, 1, false, .timeNs, [.r, .r, .b, .r, .n], .live, true, .span 10000 10000000⟩]

/-- Entries of 10_chiplet_sites.md, UCI_RETRIES onward. -/
def dictChipletSitesB : List DEntry :=
  [⟨.uciRetries, .site, 1, false, .u64, [.r, .r, .r, .r, .n], .none, true, .any⟩,
   ⟨.uciRetrains, .site, 1, false, .u32, [.r, .r, .r, .r, .n], .none, true, .any⟩,
   ⟨.uciModulesLost, .site, 1, false, .u32, [.r, .r, .r, .r, .n], .none, true, .any⟩,
   ⟨.uciLosses, .site, 1, false, .u32, [.r, .r, .r, .r, .n], .none, true, .any⟩,
   ⟨.uciResets, .site, 1, false, .u32, [.r, .r, .r, .r, .n], .none, true, .any⟩]

/-- Entries of 11_hub_transaction_layer.md, HTL_REFUSED onward. -/
def dictHubTransactionLayerA : List DEntry :=
  [⟨.htlRefused, .site, 11, false, .u64, [.r, .r, .r, .r, .n], .none, true, .any⟩,
   ⟨.htlPtnLevel, .site, 32, true, .u8, [.r, .r, .r, .r, .r], .none, true, .any⟩,
   ⟨.htlHdrParity, .site, 1, false, .u32, [.r, .r, .r, .r, .n], .none, true, .any⟩,
   ⟨.htlStashDropped, .site, 1, false, .u64, [.r, .r, .r, .r, .n], .none, true, .any⟩]

/-- Entries of 12_coherence.md, COH_PTN_LEVEL onward. -/
def dictCoherenceA : List DEntry :=
  [⟨.cohPtnLevel, .plain, 32, true, .enum, [.r, .r, .b, .r, .b], .onSeal, true, .span 1 2⟩,
   ⟨.cohSfWays, .plain, 32, true, .u8, [.r, .r, .b, .r, .r], .onSeal, true, .span 0 14⟩,
   ⟨.cohSnpTimeout, .plain, 1, false, .timeNs, [.r, .r, .b, .r, .n], .live, true, .span 5000 1000000⟩,
   ⟨.cohDomainState, .plain, 32, true, .enum, [.r, .r, .r, .r, .r], .none, false, .any⟩,
   ⟨.cohSfEntries, .plain, 32, true, .u32, [.r, .r, .r, .r, .r], .none, true, .any⟩,
   ⟨.cohSnoops, .plain, 32, true, .u64, [.r, .r, .r, .r, .r], .none, true, .any⟩,
   ⟨.cohCapRecalls, .plain, 32, true, .u64, [.r, .r, .r, .r, .r], .none, true, .any⟩,
   ⟨.cohStaleWb, .plain, 32, true, .u64, [.r, .r, .r, .r, .r], .none, true, .any⟩,
   ⟨.cohTakedowns, .plain, 32, true, .u32, [.r, .r, .r, .r, .r], .none, true, .any⟩,
   ⟨.cohLastError, .plain, 32, true, .u64, [.r, .r, .r, .r, .r], .none, true, .any⟩,
   ⟨.cohSfUsed, .plain, 8, false, .u32, [.r, .r, .r, .r, .n], .none, true, .any⟩]

/-- Entries of 13_scale_out.md, SOX_PKG_ID onward. -/
def dictScaleOutA : List DEntry :=
  [⟨.soxPkgId, .plain, 1, false, .u32, [.r, .r, .b, .r, .r], .reset, true, .span 0 131071⟩,
   ⟨.soxEncap, .plain, 1, false, .enum, [.r, .r, .b, .r, .n], .reset, true, .span 0 1⟩,
   ⟨.soxEthertype, .plain, 1, false, .u16, [.r, .r, .b, .r, .n], .reset, true, .any⟩,
   ⟨.soxUdpPort, .plain, 1, false, .u16, [.r, .r, .b, .r, .n], .reset, true, .any⟩,
   ⟨.soxIpv6Prefix, .plain, 16, false, .bytes 8, [.r, .r, .b, .r, .n], .reset, true, .any⟩,
   ⟨.soxPortRate, .plain, 16, false, .enum, [.r, .r, .b, .r, .n], .reset, true, .span 0 2⟩,
   ⟨.soxPortState, .plain, 16, false, .enum, [.r, .r, .r, .r, .r], .none, false, .any⟩,
   ⟨.soxVlan, .plain, 16, false, .u16, [.r, .r, .b, .r, .n], .reset, true, .span 0 4094⟩,
   ⟨.soxPtpEn, .plain, 1, false, .bits 16, [.r, .r, .b, .r, .n], .live, true, .any⟩,
   ⟨.soxPtpDomain, .plain, 1, false, .u8, [.r, .r, .b, .r, .n], .live, true, .any⟩,
   ⟨.soxPtpLogSync, .plain, 1, false, .i32, [.r, .r, .b, .r, .n], .live, true, .ints (-7) 0⟩,
   ⟨.soxPtpAsym, .plain, 16, false, .i32, [.r, .r, .b, .r, .n], .live, true, .ints (-1000) 1000⟩,
   ⟨.soxPtpPort, .plain, 1, false, .u8, [.r, .r, .r, .r, .r], .none, false, .any⟩,
   ⟨.soxEcn, .plain, 1, false, .bool, [.r, .r, .b, .r, .n], .live, true, .any⟩,
   ⟨.soxCcStart, .plain, 1, false, .u32, [.r, .r, .b, .r, .n], .live, true, .span 100 800000⟩,
   ⟨.soxCcAi, .plain, 1, false, .u32, [.r, .r, .b, .r, .n], .live, true, .span 10 100000⟩,
   ⟨.soxCcPeriod, .plain, 1, false, .timeNs, [.r, .r, .b, .r, .n], .live, true, .span 1000 100000⟩,
   ⟨.soxCcRttTarget, .plain, 1, false, .timeNs, [.r, .r, .b, .r, .n], .live, true, .span 2000 1000000⟩,
   ⟨.soxRtoMin, .plain, 1, false, .timeNs, [.r, .r, .b, .r, .n], .live, true, .span 10000 10000000⟩,
   ⟨.soxWindow, .plain, 1, false, .u16, [.r, .r, .b, .r, .n], .live, true, .span 16 4096⟩]

/-- Entries of 13_scale_out.md, SOX_CONN_IDLE onward. -/
def dictScaleOutB : List DEntry :=
  [⟨.soxConnIdle, .plain, 1, false, .timeNs, [.r, .r, .b, .r, .n], .live, true, .span 1000000 60000000000⟩,
   ⟨.soxPtnConnMax, .plain, 32, true, .u16, [.r, .r, .b, .r, .r], .onSeal, true, .span 1 16384⟩,
   ⟨.soxEgressTable, .plain, 16, false, .bytes 512, [.r, .r, .b, .r, .n], .beat, false, .any⟩,
   ⟨.soxMgmtEn, .plain, 1, false, .bool, [.r, .r, .b, .r, .n], .live, true, .any⟩,
   ⟨.soxMgmtRate, .plain, 1, false, .u16, [.r, .r, .b, .r, .n], .live, true, .span 1 4096⟩,
   ⟨.soxPairMode, .plain, 1, false, .enum, [.r, .r, .b, .r, .n], .reset, true, .span 0 2⟩,
   ⟨.soxPairRole, .plain, 1, false, .enum, [.r, .r, .r, .r, .r], .none, false, .any⟩,
   ⟨.soxPairFmt, .plain, 1, false, .u8, [.r, .r, .r, .r, .r], .none, true, .any⟩,
   ⟨.soxPairQuorum, .plain, 1, false, .u8, [.r, .r, .b, .r, .n], .live, true, .span 1 16⟩,
   ⟨.soxJournalMax, .plain, 1, false, .u32, [.r, .r, .b, .r, .n], .beat, true, .span 65536 16777216⟩,
   ⟨.soxCommittedBeat, .plain, 1, false, .u64, [.r, .r, .r, .r, .r], .none, false, .any⟩,
   ⟨.soxPairRefused, .plain, 1, false, .u8, [.r, .r, .r, .r, .r], .none, true, .any⟩,
   ⟨.soxMirror, .plain, 32, true, .bool, [.r, .r, .b, .r, .r], .onSeal, true, .any⟩,
   ⟨.soxMirrorQueueMib, .plain, 1, false, .u16, [.r, .r, .b, .r, .n], .reset, true, .span 8 1024⟩,
   ⟨.soxDropped, .plain, 16, false, .bytes 48, [.r, .r, .r, .r, .n], .none, true, .any⟩,
   ⟨.soxRetx, .plain, 32, true, .u64, [.r, .r, .r, .r, .r], .none, true, .any⟩,
   ⟨.soxCnpRx, .plain, 32, true, .u64, [.r, .r, .r, .r, .r], .none, true, .any⟩,
   ⟨.soxConnFailed, .plain, 32, true, .u32, [.r, .r, .r, .r, .r], .none, true, .any⟩,
   ⟨.soxTakeovers, .plain, 1, false, .u32, [.r, .r, .r, .r, .n], .none, true, .any⟩]

/-- Entries of 14_collectives_sync.md, COL_SYNC_MAP onward. -/
def dictCollectivesSyncA : List DEntry :=
  [⟨.colSyncMap, .plain, 32, true, .bytes 32, [.r, .r, .b, .r, .r], .onSeal, true, .any⟩,
   ⟨.colWaitLimit, .plain, 1, false, .timeNs, [.r, .r, .b, .r, .n], .live, true, .span 1000 10000000⟩,
   ⟨.colSchedMode, .plain, 32, true, .enum, [.r, .r, .b, .r, .b], .beat, true, .span 0 1⟩,
   ⟨.colLevelNs, .plain, 1, false, .timeNs, [.r, .r, .b, .r, .n], .live, true, .span 200 20000⟩,
   ⟨.colGrantMargin, .plain, 1, false, .timeNs, [.r, .r, .b, .r, .n], .live, true, .span 0 100000⟩,
   ⟨.colFormTimeout, .plain, 1, false, .timeNs, [.r, .r, .b, .r, .n], .live, true, .span 1000000 10000000000⟩,
   ⟨.colRingCfg, .plain, 32, true, .bytes 32, [.n, .n, .r, .n, .b], .idle, true, .any⟩,
   ⟨.colGroup, .run, 16, false, .bytes 32, [.n, .n, .r, .n, .b], .idle, true, .any⟩,
   ⟨.colGroupState, .run, 16, false, .u16, [.n, .n, .r, .n, .r], .none, true, .any⟩,
   ⟨.colCompleted, .plain, 32, true, .u64, [.r, .r, .r, .r, .r], .none, true, .any⟩,
   ⟨.colAborted, .plain, 32, true, .u32, [.r, .r, .r, .r, .r], .none, true, .any⟩,
   ⟨.colStretched, .plain, 32, true, .u32, [.r, .r, .r, .r, .r], .none, true, .any⟩,
   ⟨.colWaitFull, .plain, 32, true, .u64, [.r, .r, .r, .r, .r], .none, true, .any⟩,
   ⟨.colSyncErrors, .plain, 32, true, .u32, [.r, .r, .r, .r, .r], .none, true, .any⟩,
   ⟨.colRedirect, .plain, 1, false, .bits 8, [.r, .r, .r, .r, .r], .none, true, .any⟩]

/-- Entries of 15_partitions.md, PTN_STATE onward. -/
def dictPartitionsA : List DEntry :=
  [⟨.ptnState, .block, 1, false, .enum, [.r, .r, .r, .r, .r], .none, true, .any⟩,
   ⟨.ptnCmd, .block, 1, false, .u16, [.n, .n, .b, .b, .b], .live, true, .any⟩,
   ⟨.ptnPlots, .block, 1, false, .bits 64, [.r, .r, .b, .r, .r], .idle, true, .any⟩,
   ⟨.ptnGranules, .block, 1, false, .bytes 32, [.r, .r, .b, .r, .r], .idle, true, .any⟩,
   ⟨.ptnCmdFault, .block, 1, false, .u16, [.r, .r, .r, .r, .r], .none, true, .any⟩,
   ⟨.ptnSealReq, .block, 1, false, .bits 2, [.r, .r, .r, .r, .r], .none, true, .any⟩,
   ⟨.ptnSealBeat, .block, 1, false, .u64, [.r, .r, .r, .r, .r], .none, true, .any⟩,
   ⟨.ptnCtxCount, .block, 1, false, .u8, [.r, .r, .b, .r, .b], .onSeal, true, .span 1 16⟩,
   ⟨.ptnCtxSchedMode, .block, 1, false, .enum, [.r, .r, .b, .r, .b], .beat, true, .span 0 1⟩,
   ⟨.ptnCtxEnable, .block, 1, false, .bits 16, [.n, .n, .b, .n, .b], .live, true, .any⟩,
   ⟨.ptnCtxQuantum, .block, 1, false, .beats, [.n, .n, .b, .n, .b], .beat, true, .span 1 65535⟩,
   ⟨.ptnCtxNext, .block, 1, false, .u64, [.n, .n, .b, .n, .b], .live, true, .any⟩,
   ⟨.ptnCtxDeadline, .block, 1, false, .beats, [.r, .r, .b, .r, .r], .live, true, .span 1 1000⟩,
   ⟨.ptnSchedVector, .block, 1, false, .u16, [.n, .n, .b, .n, .b], .live, true, .span 0 511⟩,
   ⟨.ptnCtxRunning, .block, 1, false, .u8, [.r, .r, .r, .r, .r], .none, true, .any⟩,
   ⟨.ptnSwitchBound, .block, 1, false, .timeNs, [.r, .r, .r, .r, .r], .none, true, .any⟩,
   ⟨.ptnSwitches, .block, 1, false, .u64, [.r, .r, .r, .r, .r], .none, true, .any⟩,
   ⟨.ptnPostBase, .block, 1, false, .u64, [.n, .n, .b, .n, .b], .onSeal, true, .any⟩,
   ⟨.ptnIntrMap, .block, 32, false, .bytes 128, [.n, .n, .r, .n, .b], .live, true, .any⟩,
   ⟨.ptnIntrPend, .block, 1, false, .bytes 64, [.n, .n, .r, .n, .r], .none, true, .any⟩]

/-- Entries of 15_partitions.md, PTN_FAULT_VECTOR onward. -/
def dictPartitionsB : List DEntry :=
  [⟨.ptnFaultVector, .block, 1, false, .u16, [.n, .n, .b, .n, .b], .live, true, .span 0 511⟩,
   ⟨.ptnIntrDropped, .block, 1, false, .u32, [.r, .r, .r, .r, .r], .none, true, .any⟩,
   ⟨.ptnWindow, .block, 8, false, .bytes 16, [.n, .n, .r, .n, .b], .onSeal, true, .any⟩,
   ⟨.ptnExport, .block, 8, false, .bytes 16, [.n, .n, .r, .n, .b], .onSeal, true, .any⟩,
   ⟨.ptnWindowState, .block, 1, false, .bits 16, [.n, .n, .r, .n, .r], .none, true, .any⟩,
   ⟨.ptnResets, .block, 1, false, .bytes 32, [.r, .r, .r, .r, .r], .none, true, .any⟩,
   ⟨.ptnScrubLeft, .block, 1, false, .u32, [.r, .r, .r, .r, .r], .none, true, .any⟩]

/-- Entries of 16_security.md, SEC_STATE onward. -/
def dictSecurityA : List DEntry :=
  [⟨.secState, .plain, 1, false, .enum, [.r, .r, .r, .r, .r], .none, false, .any⟩,
   ⟨.secApproved, .plain, 1, false, .bool, [.r, .r, .r, .r, .r], .none, false, .any⟩,
   ⟨.secFwVersion, .plain, 1, false, .u64, [.r, .r, .r, .r, .r], .none, false, .any⟩,
   ⟨.secDevidDigest, .plain, 1, false, .bytes 64, [.r, .r, .r, .r, .r], .none, false, .any⟩,
   ⟨.secZeroise, .plain, 1, false, .u8, [.n, .n, .n, .w, .n], .live, true, .any⟩,
   ⟨.secSelftest, .plain, 1, false, .u8, [.n, .n, .n, .w, .n], .live, true, .any⟩,
   ⟨.secKatPeriod, .plain, 1, false, .timeNs, [.r, .r, .r, .b, .n], .live, true, .span 10000000 3600000000000⟩,
   ⟨.secMctpEid, .plain, 1, false, .u8, [.r, .b, .b, .r, .n], .reset, true, .span 8 191⟩,
   ⟨.secPakDigest, .plain, 32, true, .bytes 64, [.r, .r, .r, .r, .r], .none, false, .any⟩,
   ⟨.secKeyDeliver, .plain, 32, true, .bytes 2384, [.n, .n, .n, .n, .w], .live, false, .any⟩,
   ⟨.secKeyStatus, .plain, 32, true, .u64, [.n, .n, .n, .n, .r], .none, true, .any⟩,
   ⟨.secImport, .plain, 32, true, .bytes 32, [.n, .n, .n, .n, .b], .idle, true, .any⟩,
   ⟨.secImportResult, .plain, 32, true, .u64, [.n, .n, .n, .n, .r], .none, true, .any⟩,
   ⟨.secRotate, .plain, 32, true, .u8, [.n, .n, .n, .w, .b], .live, true, .any⟩,
   ⟨.secRotateState, .plain, 32, true, .enum, [.r, .r, .r, .r, .r], .none, true, .any⟩,
   ⟨.secMemKgen, .plain, 32, true, .u8, [.r, .r, .r, .r, .r], .none, true, .any⟩,
   ⟨.secFkGrace, .plain, 32, true, .beats, [.n, .n, .n, .n, .b], .live, true, .span 1 65535⟩,
   ⟨.secChipletPolicy, .plain, 32, true, .bytes 512, [.r, .r, .r, .r, .b], .onSeal, true, .any⟩,
   ⟨.secTenantKey, .plain, 32, true, .bytes 1984, [.r, .r, .r, .r, .b], .onSeal, true, .any⟩,
   ⟨.secDebugNonce, .plain, 32, true, .bytes 16, [.r, .r, .r, .r, .r], .none, false, .any⟩]

/-- Entries of 16_security.md, SEC_DEBUG_GRANT onward. -/
def dictSecurityB : List DEntry :=
  [⟨.secDebugGrant, .plain, 32, true, .bytes 3584, [.n, .n, .w, .n, .n], .live, false, .any⟩,
   ⟨.secDebugState, .plain, 32, true, .u32, [.r, .r, .r, .r, .b], .live, true, .any⟩,
   ⟨.secDebugCmd, .plain, 32, true, .bytes 32, [.n, .n, .b, .n, .n], .live, true, .any⟩,
   ⟨.secDebugData, .plain, 32, true, .bytes 256, [.n, .n, .b, .n, .n], .live, false, .any⟩,
   ⟨.secMacFails, .plain, 32, true, .u32, [.r, .r, .r, .r, .r], .none, true, .any⟩,
   ⟨.secRevocations, .plain, 32, true, .u32, [.r, .r, .r, .r, .r], .none, true, .any⟩]

/-- Entries of 17_lifecycle.md, LCS_STATE onward. -/
def dictLifecycleA : List DEntry :=
  [⟨.lcsState, .plain, 1, false, .enum, [.r, .r, .r, .r, .r], .none, false, .any⟩,
   ⟨.lcsMarks, .plain, 1, false, .bytes 10, [.r, .r, .r, .r, .n], .none, false, .any⟩,
   ⟨.lcsPending, .plain, 1, false, .enum, [.r, .r, .r, .r, .n], .none, true, .any⟩,
   ⟨.lcsUnitId, .plain, 1, false, .u64, [.r, .r, .r, .r, .r], .none, false, .any⟩,
   ⟨.lcsNonce, .plain, 1, false, .bytes 16, [.r, .r, .n, .r, .n], .none, false, .any⟩,
   ⟨.lcsTransition, .plain, 1, false, .bytes 10848, [.w, .w, .n, .w, .n], .live, false, .any⟩,
   ⟨.lcsTransitionStatus, .plain, 1, false, .u32, [.r, .r, .n, .r, .n], .none, true, .any⟩,
   ⟨.lcsToken, .plain, 1, false, .bytes 10848, [.w, .n, .n, .n, .n], .live, false, .any⟩,
   ⟨.lcsDebugScope, .plain, 1, false, .bits 32, [.r, .r, .r, .r, .n], .none, true, .any⟩,
   ⟨.lcsSvn, .plain, 1, false, .u8, [.r, .r, .r, .r, .r], .none, false, .any⟩,
   ⟨.lcsSvnCommit, .plain, 1, false, .u8, [.w, .n, .n, .w, .n], .live, true, .any⟩,
   ⟨.lcsBscanEn, .plain, 1, false, .bool, [.n, .n, .n, .b, .n], .live, true, .any⟩,
   ⟨.lcsOwnerDigest, .plain, 1, false, .bytes 64, [.r, .r, .r, .r, .r], .none, false, .any⟩,
   ⟨.lcsPufSlot, .plain, 1, false, .enum, [.r, .r, .n, .r, .n], .none, false, .any⟩]

/-- Entries of 18_host_endpoint.md, HEP_LINK_STATE onward. -/
def dictHostEndpointA : List DEntry :=
  [⟨.hepLinkState, .plain, 1, false, .enum, [.r, .r, .r, .r, .r], .none, false, .any⟩,
   ⟨.hepLinkRate, .plain, 1, false, .u16, [.r, .r, .r, .r, .r], .none, false, .any⟩,
   ⟨.hepHostState, .plain, 1, false, .enum, [.r, .r, .r, .r, .r], .none, false, .any⟩,
   ⟨.hepSlot, .plain, 1, false, .bits 32, [.r, .r, .b, .r, .n], .live, true, .any⟩,
   ⟨.hepDebounce, .plain, 1, false, .timeNs, [.r, .b, .b, .r, .n], .live, true, .span 1000000 100000000⟩,
   ⟨.hepRemoveDeadline, .plain, 1, false, .timeNs, [.r, .r, .b, .r, .n], .live, true, .span 5000000000 300000000000⟩,
   ⟨.hepCplBound, .plain, 1, false, .timeNs, [.r, .r, .r, .r, .r], .none, false, .any⟩,
   ⟨.hepHostCkpt, .plain, 32, true, .bool, [.r, .r, .r, .r, .b], .onSeal, true, .any⟩,
   ⟨.hepWttMisses, .plain, 32, true, .u32, [.r, .r, .r, .r, .r], .none, true, .any⟩,
   ⟨.hepRefused, .plain, 32, true, .u64, [.r, .r, .r, .r, .r], .none, true, .any⟩,
   ⟨.hepSurpriseLosses, .plain, 1, false, .u32, [.r, .r, .r, .r, .n], .none, true, .any⟩,
   ⟨.hepIntrDiscarded, .plain, 1, false, .u64, [.r, .r, .r, .r, .n], .none, true, .any⟩,
   ⟨.hepOrderlyRemovals, .plain, 1, false, .u32, [.r, .r, .r, .r, .n], .none, true, .any⟩]

/-- Entries of 19_parameter_dictionary.md, PDX_VENDOR_ID onward. -/
def dictParameterDictionaryA : List DEntry :=
  [⟨.pdxVendorId, .plain, 1, false, .u16, [.r, .r, .r, .r, .r], .none, true, .any⟩,
   ⟨.pdxDeviceIds, .plain, 1, false, .u32, [.r, .r, .r, .r, .r], .none, true, .any⟩,
   ⟨.pdxPart, .plain, 1, false, .str 16, [.r, .r, .r, .r, .r], .none, true, .any⟩,
   ⟨.pdxStepping, .plain, 1, false, .u8, [.r, .r, .r, .r, .r], .none, true, .any⟩,
   ⟨.pdxGradeMhz, .plain, 1, false, .u16, [.r, .r, .r, .r, .r], .none, true, .any⟩,
   ⟨.pdxHtlLevels, .plain, 1, false, .u8, [.r, .r, .r, .r, .r], .none, true, .any⟩,
   ⟨.pdxCtrlFwVersion, .plain, 1, false, .u64, [.r, .r, .r, .r, .r], .none, false, .any⟩,
   ⟨.pdxDictVersion, .plain, 1, false, .u16, [.r, .r, .r, .r, .r], .none, true, .any⟩,
   ⟨.pdxReady, .plain, 1, false, .bool, [.r, .r, .r, .r, .r], .none, true, .any⟩,
   ⟨.pdxBringupStep, .plain, 1, false, .enum, [.r, .r, .r, .r, .r], .none, false, .any⟩,
   ⟨.pdxBringupResult, .plain, 1, false, .enum, [.r, .r, .r, .r, .r], .none, true, .any⟩,
   ⟨.pdxBringupElapsed, .plain, 1, false, .timeNs, [.r, .r, .r, .r, .r], .none, false, .any⟩,
   ⟨.pdxBringupHalt, .plain, 1, false, .u16, [.r, .r, .r, .r, .r], .none, true, .any⟩,
   ⟨.pdxIntegratorRoot, .plain, 1, false, .bytes 64, [.b, .r, .r, .b, .n], .live, true, .any⟩,
   ⟨.pdxOperatorRoot, .plain, 1, false, .bytes 64, [.r, .r, .r, .b, .n], .live, true, .any⟩,
   ⟨.pdxMgmtAddr6, .plain, 1, false, .bytes 16, [.r, .b, .b, .r, .n], .reset, true, .any⟩,
   ⟨.pdxMgmtAddr4, .plain, 1, false, .u32, [.r, .b, .b, .r, .n], .reset, true, .any⟩,
   ⟨.pdxMgmtPort, .plain, 1, false, .u16, [.r, .b, .b, .r, .n], .reset, true, .any⟩,
   ⟨.pdxSessionIdle, .plain, 1, false, .timeNs, [.r, .r, .b, .b, .n], .live, true, .span 1000000000 86400000000000⟩,
   ⟨.pdxSessions, .plain, 1, false, .bytes 64, [.r, .r, .r, .r, .n], .none, false, .any⟩]

/-- Entries of 19_parameter_dictionary.md, PDX_AUTH_FAILS onward. -/
def dictParameterDictionaryB : List DEntry :=
  [⟨.pdxAuthFails, .plain, 1, false, .u32, [.r, .r, .r, .r, .n], .none, true, .any⟩,
   ⟨.pdxTenantRoot, .block, 1, false, .bytes 64, [.r, .r, .b, .r, .r], .onSeal, true, .any⟩]

/-- Entries of 20_bring_up.md, PDX_HUB_RESET onward. -/
def dictBringUpA : List DEntry :=
  [⟨.pdxHubReset, .plain, 1, false, .enum, [.n, .w, .w, .w, .n], .live, false, .any⟩,
   ⟨.pdxPartialReset, .plain, 1, false, .bits 64, [.n, .n, .w, .n, .n], .live, false, .any⟩,
   ⟨.pdxWarmFast, .plain, 1, false, .bool, [.r, .b, .b, .r, .n], .live, true, .any⟩,
   ⟨.pdxLastStart, .plain, 1, false, .enum, [.r, .r, .r, .r, .r], .none, false, .any⟩,
   ⟨.pdxResetCause, .plain, 1, false, .u16, [.r, .r, .r, .r, .n], .none, false, .any⟩,
   ⟨.pdxTopoRecord, .plain, 1, false, .bytes 5808, [.r, .r, .r, .r, .n], .none, false, .any⟩,
   ⟨.pdxTopoState, .plain, 1, false, .enum, [.r, .r, .r, .r, .r], .none, false, .any⟩,
   ⟨.pdxTopoFound, .plain, 1, false, .bytes 448, [.r, .r, .r, .r, .n], .none, false, .any⟩,
   ⟨.pdxTopoMismatch, .plain, 1, false, .bits 40, [.r, .r, .r, .r, .n], .none, true, .any⟩,
   ⟨.pdxStarts, .plain, 1, false, .u32, [.r, .r, .r, .r, .n], .none, true, .any⟩]

/-- Entries of 21_faults.md, OWL_SRC_SEL onward. -/
def dictFaultsA : List DEntry :=
  [⟨.owlSrcSel, .plain, 1, false, .u16, [.r, .b, .b, .r, .n], .live, true, .any⟩,
   ⟨.owlSrcCfg, .plain, 1, false, .u64, [.r, .b, .b, .r, .n], .live, true, .any⟩,
   ⟨.owlTriageMode, .plain, 1, false, .enum, [.r, .r, .b, .r, .n], .live, true, .span 0 1⟩,
   ⟨.owlTriageDeadline, .plain, 1, false, .timeNs, [.r, .r, .b, .r, .n], .live, true, .span 1000000 3600000000000⟩,
   ⟨.owlTriageHold, .plain, 1, false, .timeNs, [.r, .r, .b, .r, .n], .live, true, .span 0 60000000000⟩,
   ⟨.owlTriageDecide, .plain, 1, false, .bytes 16, [.n, .n, .b, .b, .n], .live, true, .any⟩,
   ⟨.owlLatch, .plain, 32, true, .bytes 16, [.r, .r, .r, .r, .r], .none, true, .any⟩,
   ⟨.owlHubLatch, .plain, 1, false, .bytes 16, [.r, .r, .r, .r, .n], .none, true, .any⟩,
   ⟨.owlAck, .plain, 32, true, .u64, [.n, .n, .b, .b, .b], .live, true, .any⟩,
   ⟨.owlHubAck, .plain, 1, false, .u64, [.n, .n, .b, .b, .n], .live, true, .any⟩,
   ⟨.owlCounts, .plain, 1, false, .bytes 32, [.r, .r, .r, .r, .n], .none, true, .any⟩,
   ⟨.owlPtnCounts, .plain, 32, true, .bytes 32, [.r, .r, .r, .r, .r], .none, true, .any⟩,
   ⟨.owlEscalations, .plain, 1, false, .u32, [.r, .r, .r, .r, .n], .none, true, .any⟩,
   ⟨.owlSignals, .plain, 1, false, .bits 2, [.r, .r, .r, .r, .r], .none, false, .any⟩]

/-- Entries of 22_event_recorder.md, SQL_FLUSH_MODE onward. -/
def dictEventRecorderA : List DEntry :=
  [⟨.sqlFlushMode, .plain, 1, false, .enum, [.r, .r, .b, .r, .n], .live, true, .span 0 1⟩,
   ⟨.sqlFlush, .plain, 1, false, .u8, [.n, .w, .w, .w, .n], .live, true, .any⟩,
   ⟨.sqlFillMark, .plain, 1, false, .u16, [.r, .r, .b, .r, .n], .live, true, .span 64 960⟩,
   ⟨.sqlFlushDeadline, .plain, 1, false, .timeNs, [.r, .r, .b, .r, .n], .live, true, .span 1000000 1000000000⟩,
   ⟨.sqlState, .plain, 1, false, .enum, [.r, .r, .r, .r, .n], .none, false, .any⟩,
   ⟨.sqlBuffered, .plain, 1, false, .u16, [.r, .r, .r, .r, .n], .none, true, .any⟩,
   ⟨.sqlSeq, .plain, 1, false, .u64, [.r, .r, .r, .r, .r], .none, false, .any⟩,
   ⟨.sqlStoreCmd, .plain, 1, false, .enum, [.w, .w, .n, .w, .n], .live, true, .any⟩,
   ⟨.sqlCodeSel, .plain, 1, false, .u16, [.r, .r, .b, .r, .n], .live, true, .any⟩,
   ⟨.sqlCodeCfg, .plain, 1, false, .u32, [.r, .r, .b, .r, .n], .live, true, .any⟩,
   ⟨.sqlCodeSuppressed, .plain, 1, false, .u32, [.r, .r, .r, .r, .n], .none, true, .any⟩,
   ⟨.sqlReadSel, .plain, 1, false, .u64, [.r, .r, .b, .b, .n], .live, true, .clear 0x7FFFFFFFFFFF0000⟩,
   ⟨.sqlRead, .plain, 1, false, .bytes 1024, [.r, .r, .r, .r, .n], .none, false, .any⟩,
   ⟨.sqlPtnSel, .plain, 32, true, .u64, [.n, .n, .n, .n, .b], .live, true, .clear 0xFFFFFF0000000000⟩,
   ⟨.sqlPtnRead, .plain, 32, true, .bytes 1024, [.n, .n, .n, .n, .r], .none, false, .any⟩,
   ⟨.sqlDropped, .plain, 1, false, .u32, [.r, .r, .r, .r, .n], .none, true, .any⟩,
   ⟨.sqlFlushes, .plain, 1, false, .u32, [.r, .r, .r, .r, .n], .none, true, .any⟩]

/-- Entries of 23_test.md, BST_TILE_RUN onward. -/
def dictTestA : List DEntry :=
  [⟨.bstTileRun, .plain, 1, false, .bits 64, [.b, .b, .b, .n, .n], .live, true, .any⟩,
   ⟨.bstTileState, .plain, 1, false, .enum, [.r, .r, .r, .r, .n], .none, true, .any⟩,
   ⟨.bstNextStart, .plain, 1, false, .bits 16, [.r, .b, .b, .r, .n], .reset, true, .any⟩,
   ⟨.bstResult, .plain, 10, false, .enum, [.r, .r, .r, .r, .n], .none, true, .any⟩,
   ⟨.bstLbistSig, .plain, 10, false, .u64, [.r, .r, .r, .r, .n], .none, true, .any⟩,
   ⟨.bstMbistSig, .plain, 10, false, .u64, [.r, .r, .r, .r, .n], .none, true, .any⟩,
   ⟨.bstTileFails, .plain, 1, false, .u16, [.r, .r, .r, .r, .n], .none, true, .any⟩,
   ⟨.bstIcSel, .plain, 1, false, .u16, [.b, .b, .b, .n, .n], .live, true, .any⟩,
   ⟨.bstIcCtrl, .plain, 1, false, .u32, [.b, .b, .b, .n, .n], .live, true, .any⟩,
   ⟨.bstIcGo, .plain, 1, false, .u8, [.w, .w, .w, .n, .n], .live, true, .any⟩,
   ⟨.bstIcState, .plain, 1, false, .enum, [.r, .r, .r, .n, .n], .none, true, .any⟩,
   ⟨.bstIcResult, .plain, 1, false, .bytes 32, [.r, .r, .r, .n, .n], .none, true, .any⟩,
   ⟨.bstIcErrors, .plain, 1, false, .u64, [.r, .r, .r, .n, .n], .none, true, .any⟩,
   ⟨.bstUciBurn, .plain, 1, false, .bytes 16, [.n, .w, .n, .n, .n], .live, false, .any⟩]

/-- Entries of 24_power_thermal.md, PWR_PKG_BUDGET onward. -/
def dictPowerThermalA : List DEntry :=
  [⟨.pwrPkgBudget, .plain, 1, false, .u16, [.r, .b, .b, .r, .n], .beat, true, .span 500 20000⟩,
   ⟨.pwrHubReserve, .plain, 1, false, .u16, [.r, .b, .b, .r, .n], .beat, true, .span 400 820⟩,
   ⟨.pwrSiteMin, .plain, 8, false, .u16, [.r, .b, .b, .r, .n], .beat, true, .span 0 2000⟩,
   ⟨.pwrPrereadyW, .plain, 1, false, .u16, [.r, .b, .r, .r, .n], .reset, true, .span 10 200⟩,
   ⟨.pwrRevokeTime, .plain, 1, false, .timeNs, [.r, .b, .r, .r, .n], .live, true, .span 5000 1000000⟩,
   ⟨.pwrPenaltyBeats, .plain, 1, false, .beats, [.r, .r, .b, .r, .n], .live, true, .span 1 65535⟩,
   ⟨.pwrSiteBudget, .plain, 8, false, .u16, [.r, .r, .r, .r, .n], .none, true, .any⟩,
   ⟨.pwrSiteDraw, .plain, 8, false, .u16, [.r, .r, .r, .r, .n], .none, true, .any⟩,
   ⟨.pwrThermMode, .plain, 1, false, .enum, [.r, .r, .b, .r, .n], .beat, true, .span 0 1⟩,
   ⟨.pwrThermReq, .plain, 1, false, .bytes 32, [.r, .r, .r, .r, .n], .none, true, .any⟩,
   ⟨.pwrThermDecide, .plain, 1, false, .bytes 16, [.r, .r, .b, .r, .n], .live, true, .any⟩,
   ⟨.pwrDrainGranules, .plain, 1, false, .u8, [.r, .r, .b, .r, .n], .live, true, .span 1 8⟩,
   ⟨.pwrTjHigh, .plain, 1, false, .u8, [.r, .b, .b, .r, .n], .beat, true, .span 70 100⟩,
   ⟨.pwrTjCrit, .plain, 1, false, .u8, [.r, .b, .b, .r, .n], .beat, true, .span 0 105⟩,
   ⟨.pwrTjHyst, .plain, 1, false, .u8, [.r, .b, .b, .r, .n], .beat, true, .span 1 10⟩,
   ⟨.pwrReleaseBeats, .plain, 1, false, .beats, [.r, .r, .b, .r, .n], .live, true, .span 1 65535⟩,
   ⟨.pwrTj, .plain, 1, false, .i32, [.r, .r, .r, .r, .r], .none, false, .any⟩,
   ⟨.pwrSensors, .plain, 1, false, .bytes 176, [.r, .r, .r, .r, .n], .none, false, .any⟩,
   ⟨.pwrHubDraw, .plain, 1, false, .u32, [.r, .r, .r, .r, .r], .none, false, .any⟩,
   ⟨.pwrVinMv, .plain, 1, false, .u16, [.r, .r, .r, .r, .n], .none, false, .any⟩]

/-- Entries of 24_power_thermal.md, PWR_FABRIC_DUTY onward. -/
def dictPowerThermalB : List DEntry :=
  [⟨.pwrFabricDuty, .plain, 1, false, .u8, [.r, .r, .r, .r, .r], .none, true, .any⟩,
   ⟨.pwrLimitMhz, .plain, 32, true, .u16, [.r, .r, .r, .r, .r], .none, true, .any⟩]

/-- The dictionary. -/
def dictTable : List DEntry :=
  dictBeatA
    ++ dictTileFabricA
    ++ dictTileArithmeticA
    ++ dictTileProgramsA
    ++ dictFabricNetworkA
    ++ dictBandwidthRegulationA
    ++ dictMemoryA
    ++ dictMemoryB
    ++ dictPlacementA
    ++ dictPlacementB
    ++ dictChipletSitesA
    ++ dictChipletSitesB
    ++ dictHubTransactionLayerA
    ++ dictCoherenceA
    ++ dictScaleOutA
    ++ dictScaleOutB
    ++ dictCollectivesSyncA
    ++ dictPartitionsA
    ++ dictPartitionsB
    ++ dictSecurityA
    ++ dictSecurityB
    ++ dictLifecycleA
    ++ dictHostEndpointA
    ++ dictParameterDictionaryA
    ++ dictParameterDictionaryB
    ++ dictBringUpA
    ++ dictFaultsA
    ++ dictEventRecorderA
    ++ dictTestA
    ++ dictPowerThermalA
    ++ dictPowerThermalB

end Sys2Proof.Machine
end

