-- ==== Sys2Proof/Machine/Views.lean ====
section
/-! DEFINITION. What the dictionary's entries read as: their registers, and the values that the hub makes from its state when they are
read. -/

namespace Sys2Proof.Machine

/-! ## Entries by index (R495) -/

/-- An entry found: its row, its member and its sub-index. -/
structure DTarget where
  e : DEntry
  u : Nat
  sub : Nat
  deriving DecidableEq, Repr

def DTarget.key (t : DTarget) : Nat := t.e.reg.key t.u t.sub

/-- Members of an entry: index blocks. -/
def DEntry.members (e : DEntry) : Nat :=
  match e.scope with
  | .plain => 1
  | .block => 32
  | .site => 8
  | .run => 32

/-- The member of an entry that an index names. -/
def DEntry.member (e : DEntry) (index : Nat) : Option Nat :=
  let d := index - e.reg.idx
  let st := max 1 e.reg.stride
  if e.reg.idx ≤ index ∧ d % st = 0 ∧ d / st < e.members then some (d / st) else none

/-- HTL_REFUSED has a sub-index 0xFF besides (R323). -/
def DEntry.hasSub (e : DEntry) (sub : Nat) : Bool := decide (sub < e.subs) || (e.reg == Reg.htlRefused && sub == 0xFF)

/-- The entry of an index and sub-index. -/
def dictFind (index sub : Nat) : Option DTarget :=
  (dictTable.filterMap (fun e =>
    match e.member index with
    | some u => if e.hasSub sub then some { e, u, sub } else none
    | none => none)).head?

/-- The partition that an entry names (R495). -/
def DTarget.ptn (t : DTarget) : Option Nat :=
  match t.e.scope with
  | .block => some t.u
  | .run => some t.u
  | _ => if t.e.subPtn then some t.sub else none

/-- The site of a per-site entry. -/
def DTarget.site (t : DTarget) : Option Nat := if t.e.scope = .site then some t.u else none

/-! ## Values (R497) -/

/-- Type code, and n of BITS, BYTES and STR. -/
def DType.code : DType → Nat × Nat
  | .u8 => (1, 0)
  | .u16 => (2, 0)
  | .u32 => (3, 0)
  | .u64 => (4, 0)
  | .i32 => (5, 0)
  | .f32 => (6, 0)
  | .bool => (7, 0)
  | .enum => (8, 0)
  | .bits n => (9, n)
  | .bytes n => (10, n)
  | .str n => (11, n)
  | .timeNs => (12, 0)
  | .beats => (13, 0)

/-- Bytes of a value. -/
def DType.size : DType → Nat
  | .u8 => 1
  | .u16 => 2
  | .u32 => 4
  | .u64 => 8
  | .i32 => 4
  | .f32 => 4
  | .bool => 1
  | .enum => 1
  | .bits n => (n + 7) / 8
  | .bytes n => n
  | .str n => n
  | .timeNs => 8
  | .beats => 4

/-- Length and encoding of a written value. -/
def DType.encodes (t : DType) (b : List Byte) : Bool :=
  match t with
  | .bool => b.length == 1 && decide (leNat b < 2)
  | .str n => decide (b.length ≤ n) && b.all (fun c => decide (0x20 ≤ c.toNat) && decide (c.toNat < 0x7F))
  | t => b.length == t.size

/-- The bytes of a value as it is read. -/
def DType.bytesOf (t : DType) (v : Nat) : List Byte :=
  match t with
  | .str n => (toLe n v).filter (fun c => c != 0)
  | t => toLe t.size v

/-- Values in the entry's own range. -/
def DRange.holds (r : DRange) (v : Nat) : Bool :=
  match r with
  | .any => true
  | .span lo hi => decide (lo ≤ v) && decide (v ≤ hi)
  | .step lo hi n => decide (lo ≤ v) && decide (v ≤ hi) && v % n == 0
  | .ints lo hi => decide (lo ≤ signed 32 v) && decide (signed 32 v ≤ hi)
  | .oneOf l => l.contains v
  | .clear m => v &&& m == 0

/-- BITS(n): no bit at or above n. -/
def DType.fits (t : DType) (v : Nat) : Bool :=
  match t with
  | .bits n => decide (v < 2 ^ n)
  | _ => true

/-! ## Values made when they are read -/

/-- Words of a size, little-endian in a row. -/
def packWords (bytes : Nat) (l : List Nat) : Nat := leNat (l.flatMap (toLe bytes))

def MState.code : MState → Nat
  | .idle => 0
  | .declared => 1
  | .copy => 2
  | .locked => 3
  | .forward => 4

def HgtState.code : HgtState → Nat
  | .free => 0
  | .pool => 1
  | .mapped => 2
  | .locked => 3
  | .forward => 4
  | .offline => 5
  | .reserve => 6
  | .spare => 7

/-- A directory entry's 128 bits (R244). -/
def DirEntry.word (e : DirEntry) : Nat :=
  let heat := (e.heat.zipIdx).foldl (fun a (x : Nat × Nat) => a + x.1 % 16 * 16 ^ x.2) 0
  bit 127 e.valid + e.owner % 32 * 2 ^ 122 + e.hgran % 2 ^ 19 * 2 ^ 103 + e.tgran % 2 ^ 19 * 2 ^ 84 + e.sfmt % 256 * 2 ^ 76
    + e.kgen % 4 * 2 ^ 74 + e.mstate.code * 2 ^ 71 + bit 70 e.pin + bit 69 e.hintEn + e.hintStack % 8 * 2 ^ 66 + bit 65 e.rowrep
    + heat * 2 ^ 32 + e.lastMove.toNat * 2 ^ 16
where
  bit (i : Nat) (b : Bool) : Nat := if b then 2 ^ i else 0

/-- A candidate as JAY_CANDIDATES shows it. -/
def Candidate.word (c : Candidate) : Nat := c.gran % 2 ^ 28 + c.target % 16 * 2 ^ 28 + c.site % 16 * 2 ^ 32 + c.score % 32 * 2 ^ 36

/-- PPA granules of a partition that are mapped. -/
def State.mappedCount (s : State) (p : Nat) : Nat :=
  (s.jay.dir.where (fun k e => decide (s.dbase p ≤ k) && decide (k < s.dbase p + s.dlen p) && e.valid)).length

def State.poolCount (s : State) (p : Nat) : Nat := (s.jay.hgt.where (fun _ e => e.state == .pool && e.owner == p)).length

/-- The configuration word of a source (R549). -/
def SrcCfg.word (c : SrcCfg) : Nat :=
  let act := match c.action with
    | .none => 0
    | .retry => 1
    | .offline => 2
    | .ptnWarm => 3
    | .ptnFull => 4
    | .dissolve => 5
    | .hubWarm => 6
    | .hubCold => 7
  (if c.count then 2 ^ 63 else 0) + c.sev.rank * 2 ^ 61 + act * 2 ^ 58 + c.n % 65536 * 2 ^ 42 + c.w % 2 ^ 32

/-- The store with what is buffered read as if already flushed (R574). -/
def State.readStore (s : State) : Store := if s.rd .sqlState = storeReady then (s.writeOut s.sql.buffer).store else s.store

/-- SQL_READ: 16 records from the selected slot; an empty slot reads as zeros. -/
def State.sqlReadView (s : State) : Nat :=
  let sel := s.rd .sqlReadSel
  let st := s.readStore
  let area := if sel.testBit 63 then st.first else st.circ
  leNat ((List.range 16).flatMap (fun i =>
    match area.find (sel % 65536 + i) with
    | some r => r.bytes
    | none => toLe 64 0))

/-- SQL_PTN_READ: the next 16 records of a partition at or above the selected SEQ. -/
def State.sqlPtnReadView (s : State) (p : Nat) : Nat :=
  let st := s.readStore
  let low := max (field (s.rd .sqlPtnSel 0 p) 39 0) (s.sql.formedSeq.get p 0)
  let rs := (st.first ++ st.circ).filter (fun (e : Nat × Record) => e.2.ptn == some p && decide (low ≤ e.2.seq))
  let seqs : AMap Record := rs.foldl (fun (m : AMap Record) (e : Nat × Record) => m.set e.2.seq e.2) []
  leNat ((seqs.take 16).flatMap (fun (e : Nat × Record) => e.2.bytes))

def Role.code : Role → Nat
  | .vendor => 0
  | .integrator => 1
  | .operator => 2
  | .security => 3
  | .tenant => 4

/-- PDX_SESSIONS: bit 7 open, bits [2:0] role. -/
def State.sessionsView (s : State) : Nat :=
  s.dict.sessions.foldl (fun a (e : Nat × Session) => a + (128 + Role.code e.2.role) * 256 ^ (e.1 % 64)) 0

/-- T_C of R484 in ns. -/
def State.cplBound (s : State) : Nat :=
  2 * s.rd .nocRspTimeout + max (s.rd .jayMissDeadline) (s.rd .jayLockMax) + s.rd .beatPeriod + 10000

/-- The value that an entry reads as (R18). PWR_VIN_MV is a measurement: a free value. -/
def State.view (s : State) (t : DTarget) : Nat :=
  let r := t.e.reg
  let p := t.sub
  if r = Reg.beatNumber then s.beat.number.toNat
  else if r = Reg.qosStageTable then tableBytes (s.stagedWord (s.rd .qosStageSel))
  else if r = Reg.qosActiveTable then tableBytes (s.slotWord (s.rd .qosStageSel))
  else if r = Reg.qosPtnShare then
    packWords 1 ((List.range 8).map (fun h => s.slotsOwned (selHa h) p) ++ (List.range 8).map (fun k => s.slotsOwned (selLink k) p))
  else if r = Reg.jayOwnerMap then
    packWords 1 ((List.range 256).map (fun i =>
      let hg := 256 * s.rd .jayOwnerSel + i
      if hg < 524288 then (s.hgt hg).state.code * 32 + (if (s.hgt hg).state = .free then 0 else (s.hgt hg).owner % 32) else s.free.toNat % 256))
  else if r = Reg.jayMissPending then packWords 4 (((s.jay.misses.get p []).take 64).map (fun m => 2 ^ 31 + m.gran % 2 ^ 28))
  else if r = Reg.jayCandidates then
    match s.jay.posting.find p with
    | some x => packWords 8 ((x.cands.take 32).map Candidate.word)
    | none => 0
  else if r = Reg.jayEntry then
    (if s.rd .jayEntrySel 0 p < s.dlen p then (s.dirEntry p (s.rd .jayEntrySel 0 p)).word else 0)
  else if r = Reg.jayPool then s.poolCount p
  else if r = Reg.jayMapped then s.mappedCount p
  else if r = Reg.cohSfEntries then (s.regionsOf p).length
  else if r = Reg.cohSfUsed then (s.coh.regions.where (fun k _ => haOfLine (k * 32) == p)).length
  else if r = Reg.uciRepairOtp then s.life.otp.map t.u p
  else if r = Reg.colRedirect then s.jay.redirect.foldl setBit 0
  else if r = Reg.hepHostState then (if s.beat.hostSeen then 1 else 0)
  else if r = Reg.hepCplBound then s.cplBound
  else if r = Reg.owlSrcCfg then
    match sourceOf (s.rd .owlSrcSel) with
    | some x => (s.srcCfg x).word
    | none => s.free.toNat
  else if r = Reg.owlLatch then latchBits (s.owl.latches.find p)
  else if r = Reg.owlHubLatch then latchBits (s.owl.latches.find hubLatch)
  else if r = Reg.owlSignals then (if s.owl.alive then 1 else 0) + (if s.owl.faultN then 2 else 0)
  else if r = Reg.sqlCodeCfg then (s.bucket (s.rd .sqlCodeSel)).burst * 65536 + (s.bucket (s.rd .sqlCodeSel)).period
  else if r = Reg.sqlCodeSuppressed then (s.bucket (s.rd .sqlCodeSel)).suppressed
  else if r = Reg.sqlRead then s.sqlReadView
  else if r = Reg.sqlPtnRead then s.sqlPtnReadView p
  else if r = Reg.pdxSessions then s.sessionsView
  else if r = Reg.pwrVinMv then s.free.toNat % 65536
  else s.rd r t.u t.sub

/-- The default that the table gives, as its rule yields it (R511). -/
def State.dictDefault (s : State) (t : DTarget) : Option Nat :=
  if !t.e.dflt then none
  else if t.e.reg = Reg.owlSrcCfg then (sourceOf (s.rd .owlSrcSel)).map (fun x => x.cfg.word)
  else some (t.e.reg.dfltAt t.sub)

/-- A value stored and not yet applied: the one that comes last (R510, R516). -/
def State.dictPending (s : State) (t : DTarget) : Option Nat :=
  match s.dict.later.find t.key with
  | some v => some v
  | none =>
    match s.dict.shadow.find t.key with
    | some v => some v
    | none => s.dict.stored.find t.key

end Sys2Proof.Machine
end

