-- ==== Sys2Proof/Machine/Dict.lean ====
section
/-! DEFINITION. Writes of the dictionary's entries: the checks of R508 in their order, the ranges that join several entries, the
entries with an operation of their own, and the apply classes (R17, R496–R497, R507–R512). -/

namespace Sys2Proof.Machine

/-- Who asks: the role of the session, its partition, and its number, where a session asks. -/
structure Actor where
  role : Role
  ptn : Nat
  session : Option Nat := none
  deriving DecidableEq, Repr

/-! ## Readiness and scope (R508, R509, R513) -/

/-- Controller firmware runs: the dictionary is served (R513). -/
def State.dictRuns (s : State) : Bool := s.startup.powered && s.slotRuns

/-- An index that is answered before READY. -/
def earlyIndex (i : Nat) : Bool :=
  (decide (0x1000 ≤ i) && decide (i ≤ 0x12FF))
    || (i / 0x800 == 8 && [0x04, 0x05, 0x06].contains (i % 0x100))

/-- Step 1 of R508. -/
def State.indexReady (s : State) (i : Nat) : Bool := s.rd .pdxReady == 1 || earlyIndex i

/-- What anonymous frames may read (R456, R513). -/
def anonymousIndex (i : Nat) : Bool :=
  (decide (0x1000 ≤ i) && decide (i < 0x1080)) || (decide (0x1200 ≤ i) && decide (i ≤ 0x12FF)) || i == 0x1100 || i == 0x1103

/-- A tenant's scope (R300, R509). -/
def State.inScope (s : State) (a : Actor) (t : DTarget) : Bool :=
  a.role != .tenant ||
    (match t.ptn, t.site with
    | some q, _ => q == a.ptn
    | none, some k => (s.rd .uciBind k).testBit a.ptn
    | none, none => true)

/-! ## Values that join several entries (R508) -/

/-- The value that a joint check uses for an entry: the frame's own, else a pending one, else the one in effect. -/
def State.joint (s : State) (o : AMap Nat) (r : Reg) (u sub : Nat) : Nat :=
  let k := r.key u sub
  match o.find k with
  | some v => v
  | none =>
    match s.dict.later.find k with
    | some v => v
    | none =>
      match s.dict.shadow.find k with
      | some v => v
      | none => s.dict.stored.get k (s.rd r u sub)

/-- A run of directory entries fits and meets no other formed partition's (R243). -/
def State.dirRunFree (s : State) (p v : Nat) : Bool :=
  let b := field v 50 32
  let n := field v 19 0
  decide (b + n ≤ Config.dirEntries)
    && (List.range 32).all (fun q => q == p || !s.formed q || !decide (b < s.dbase q + s.dlen q) || !decide (s.dbase q < b + n))

/-- An entry of PTN_WINDOW or PTN_EXPORT (R410). -/
def State.windowFits (s : State) (o : AMap Nat) (p v : Nat) (exports : Bool) : Bool :=
  let w := windowOf v
  field v 48 0 == 0 && (!exports || w.imGran == 0)
    && (!w.valid || (decide (1 ≤ w.count) && (exports || decide (field (s.joint o .jayPtnRange 0 p) 19 0 ≤ w.imGran))))

/-- Entries of PTN_INTR_MAP (R416). -/
def State.intrMapFits (s : State) (p v : Nat) : Bool :=
  (List.range 16).all (fun i =>
    let w := field v (64 * i + 63) (64 * i)
    let m := vecMapOf w
    let k := field m.target 2 0
    field w 55 32 == 0
      && (m.kind != 2 || ((s.rd .uciBind k).testBit p && (s.rd .uciCap k).testBit 29))
      && (m.kind != 3 || s.ownsObj p (field m.target 15 0)))

/-- The configuration of a source that OWL_SRC_CFG takes (R549). -/
def srcCfgOf (v : Nat) : SrcCfg :=
  { count := v.testBit 63, sev := .ofCode (field v 62 61), action := .ofCode (field v 60 58), n := field v 57 42, w := field v 31 0 }

def State.srcCfgFits (s : State) (v : Nat) : Bool :=
  match sourceOf (s.rd .owlSrcSel) with
  | none => false
  | some x =>
    let c := srcCfgOf v
    decide (x.sev.rank ≤ c.sev.rank) && decide (c.sev.rank ≤ x.ceiling.rank) && (!c.count || !x.sev.fatal) && c.n != 0 && c.w != 0
      && field v 41 32 == 0

/-- Joint and laid-out ranges, with the value itself among the frame's (R205, R242, R411, R610, R615). -/
def State.jointOk (s : State) (o : AMap Nat) (t : DTarget) (v : Nat) : Bool :=
  let r := t.e.reg
  let o := o.set t.key v
  let j (r : Reg) (u sub : Nat) : Nat := s.joint o r u sub
  if r = Reg.nocRspTimeout ∨ r = Reg.cohSnpTimeout then decide (j .cohSnpTimeout 0 0 < j .nocRspTimeout 0 0)
  else if r = Reg.qosThrBulk ∨ r = Reg.qosThrBg then decide (j .qosThrBulk 0 0 < j .qosThrBg 0 0)
  else if r = Reg.hbmTempHigh ∨ r = Reg.hbmTempThrottle ∨ r = Reg.hbmTempCrit then
    decide (j .hbmTempHigh 0 0 < j .hbmTempThrottle 0 0) && decide (j .hbmTempThrottle 0 0 < j .hbmTempCrit 0 0)
  else if r = Reg.pwrTjHigh ∨ r = Reg.pwrTjCrit then decide (j .pwrTjHigh 0 0 < j .pwrTjCrit 0 0)
  else if r = Reg.pwrPkgBudget ∨ r = Reg.pwrHubReserve ∨ r = Reg.pwrSiteMin then
    decide ((List.range 8).foldl (fun a k => a + j .pwrSiteMin 0 k) (j .pwrHubReserve 0 0) ≤ j .pwrPkgBudget 0 0)
  else if r = Reg.jayPtnRange then s.dirRunFree t.sub v
  else if r = Reg.ptnCtxEnable then decide (v < 2 ^ j .ptnCtxCount t.u 0)
  else if r = Reg.tilSvcCfg then decide (field v 1 0 < 3) && decide (field v 3 2 < 3)
  else if r = Reg.tilSvcPlots then (bitsOf v 64).all (fun q => s.plotOwner q == some t.sub)
  else if r = Reg.ptnWindow then s.windowFits o t.u v false
  else if r = Reg.ptnExport then s.windowFits o t.u v true
  else if r = Reg.ptnIntrMap then s.intrMapFits t.u v
  else if r = Reg.qosStageSel then selValid v
  else if r = Reg.owlSrcSel then (sourceOf v).isSome
  else if r = Reg.owlSrcCfg then s.srcCfgFits v
  else if r = Reg.sqlCodeCfg then field v 31 24 == 0 && field v 23 16 != 0
  else if r = Reg.bstIcSel then field v 11 5 == 0 && (v.testBit 15 || decide (field v 4 0 < 16))
  else if r = Reg.bstIcCtrl then decide (field v 31 29 < 6) && decide (field v 28 27 < 3) && decide (field v 26 24 < 5) && field v 23 0 != 0
  else if r = Reg.hepSlot then field v 31 24 == 0 && field v 10 0 == 0
  else true

/-! ## Entries with an effect of their own -/

/-- MASK cleared: held interrupts are delivered (R417). -/
def State.releaseMasked (s : State) (p sub : Nat) : State :=
  s.each ((List.range 16).map (fun i => 16 * sub + i)) (fun s v =>
    if (s.rd .ptnIntrPend p).testBit v ∧ ¬ (s.vecMap p v).mask then (s.wr .ptnIntrPend (clearBit (s.rd .ptnIntrPend p) v) p).raiseVector p v else s)

/-- A root is changed: the sessions that it admitted end, but for the writer's own (R506, R516). -/
def State.rootChanged (s : State) (role : Role) (ptn : Option Nat) (old new : Nat) (keep : Option Nat) : State :=
  if old = new then s
  else s.endSessions (fun x => x.role == role && x.key == old && (ptn.isNone || ptn == some x.ptn) && some x.number != keep)

/-- The roots of the role-key block (R503, R519). -/
def State.rootWrite (s : State) (a : Actor) (operator : Bool) (v : Nat) : Answer :=
  if operator then
    if s.lc ≠ lcField then s.refuse stLocked
    else
      let t : State := { s with life := { s.life with operator := v } }
      (stOk, (t.wr .pdxOperatorRoot v).rootChanged .operator none (s.rd .pdxOperatorRoot) v a.session)
  else if ¬ (a.role = .vendor ∧ s.lc < lcField ∨ a.role = .security ∧ s.lc = lcField) then s.refuse stLocked
  else
    let t : State := { s with life := { s.life with integrator := v } }
    (stOk, (t.wr .pdxIntegratorRoot v).rootChanged .integrator none (s.rd .pdxIntegratorRoot) v a.session)

/-- The staged copy of the selected table (R195). -/
def State.stageWrite (s : State) (v : Nat) : Answer :=
  if s.rd .qosCommitStatus = commitChecking ∨ s.rd .qosCommitStatus = commitPassed then s.refuse stBusy
  else
    let sel := s.rd .qosStageSel
    let m := (List.range 128).foldl (fun (m : AMap Nat) k =>
      m.put (128 * sel + k) (field v (32 * k + 31) (32 * k)) (s.slotWord sel k)) s.qos.staged
    (stOk, { s with qos := { s.qos with staged := m } })

/-- JAY_CMD (R256, R257). -/
def State.jayWrite (s : State) (p v : Nat) : Answer :=
  let op := field v 255 248
  let g := field v 247 220
  let st := field v 219 216
  let fmt := field v 215 208
  let value := v.testBit 207
  if field v 206 0 ≠ 0 ∨ op = 0 ∨ 8 < op ∨ 8 < st then s.refuse stRange
  else
    let s := s.wr .jayCmd v 0 p
    (stOk,
      match op with
      | 1 => s.jayMap p g st fmt
      | 2 => s.jayUnmap p g
      | 3 => s.jaySetFmt p g fmt
      | 4 => s.jayPin p g value
      | 5 => s.jayHint p g st
      | 6 => s.jayRowrep p g value
      | 7 => s.jayMove p g st
      | _ => s.jayAck p g)

/-- PTN_CMD (R407). -/
def State.ptnCmdWrite (s : State) (role : Role) (p v : Nat) : Answer :=
  let low := v % 256
  match v / 256 with
  | 1 => s.cmdForm role p low
  | 2 => s.cmdSeal role p low
  | 3 => s.cmdContextReset role p low
  | 4 => s.cmdWarmReset role p low
  | 5 => s.cmdFullReset role p low
  | 6 => s.cmdDissolve role p low
  | _ => s.refuse stRange

/-- SQL_STORE_CMD (R575). -/
def State.storeWrite (s : State) (role : Role) (v : Nat) : Answer :=
  match v with
  | 1 => s.storeCmd .eraseCirc (s.mayEraseCirc role)
  | 2 => s.storeCmd .eraseFirst (s.mayEraseFirst role)
  | 3 => s.storeCmd .format (s.mayFormat role)
  | _ => s.refuse stRange

/-- The bucket of the selected code (R566): a bucket starts full. -/
def State.codeWrite (s : State) (v : Nat) : State :=
  let c := s.rd .sqlCodeSel
  s.setBucket c { s.bucket c with burst := field v 23 16, period := field v 15 0, tokens := field v 23 16 }

/-- The configuration of the selected source, whose open count starts anew (R559). -/
def State.srcWrite (s : State) (v : Nat) : State :=
  let k := s.rd .owlSrcSel / 16
  { s with owl := { s.owl with cfg := s.owl.cfg.set k (srcCfgOf v), windows := s.owl.windows.where (fun c _ => c / 16 != k) } }

/-- A transition record or token as a value: its bytes, and what the check of its signers finds. -/
def lcRecordOf (b : List Byte) (aux : List Nat) : LcRecord :=
  { bytes := b, root1 := aux.getD 0 0, root2 := aux.getD 1 0, sig1 := aux.getD 2 0 == 1, sig2 := aux.getD 3 0 == 1 }

def burnOf (aux : List Nat) : Burn := { flashOk := aux.getD 4 0 == 1, pufOk := aux.getD 5 0 == 1, bits := aux.getD 6 0 }

/-- An outcome that an entry's own command takes as an operand: absent, or one more than the number. -/
def auxOpt (aux : List Nat) (i : Nat) : Option Nat := match aux.getD i 0 with
  | 0 => none
  | n + 1 => some n

/-- Entries whose write is an operation with a command of its own: its answer. -/
def State.ownWrite (s : State) (a : Actor) (t : DTarget) (b : List Byte) (aux : List Nat) : Option Answer :=
  let r := t.e.reg
  let v := leNat b
  let role := a.role
  let p := t.sub
  if r = Reg.tilWqCfg then some (s.wqCfgWrite role t.u p v)
  else if r = Reg.qosStageTable then some (s.stageWrite v)
  else if r = Reg.qosCommit then some (s.qosCommit role v)
  else if r = Reg.jayCmd then some (s.jayWrite p v)
  else if r = Reg.uciRepairAccept then some (s.uciRepairAccept role t.u v (auxOpt aux 0) (aux.getD 1 0))
  else if r = Reg.uciBind then some (s.uciBindWrite role t.u v)
  else if r = Reg.uciResetCmd then some (s.uciResetCmd role t.u v)
  else if r = Reg.soxEgressTable then some (s.egressWrite role p v)
  else if r = Reg.colSyncMap then some (s.syncMapWrite role p v)
  else if r = Reg.colRingCfg then some (s.ringCfgWrite role p v)
  else if r = Reg.colGroup then some (if v.testBit 185 then s.formGroup t.u p v else s.dissolveGroup t.u p v)
  else if r = Reg.ptnCmd then some (s.ptnCmdWrite role t.u v)
  else if r = Reg.ptnCtxNext then some (s.ctxNextWrite role t.u v)
  else if r = Reg.secZeroise then some (s.zeroiseWrite role v)
  else if r = Reg.secSelftest then some (s.selftestWrite role v (aux.getD 0 0 == 1))
  else if r = Reg.secKeyDeliver then some (s.deliverKey role p b (auxOpt aux 0))
  else if r = Reg.secImport then some (s.importWrite role p v)
  else if r = Reg.secRotate then some (s.rotateWrite role p v)
  else if r = Reg.secDebugGrant then some (s.grantWrite role p b (aux.getD 0 0 == 1))
  else if r = Reg.secDebugState then some (s.debugStateWrite role p v)
  else if r = Reg.secDebugCmd then some (s.debugCmd role p v)
  else if r = Reg.lcsTransition then some (s.transitionWrite role (lcRecordOf b aux) (burnOf aux))
  else if r = Reg.lcsToken then some (s.tokenWrite role (lcRecordOf b aux))
  else if r = Reg.lcsSvnCommit then some (s.svnCommit role v)
  else if r = Reg.lcsBscanEn then some (s.bscanWrite role v)
  else if r = Reg.hepSlot then some (if s.jointOk [] t v then (stOk, s.slotWrite v) else s.refuse stRange)
  else if r = Reg.pdxIntegratorRoot then some (s.rootWrite a false v)
  else if r = Reg.pdxOperatorRoot then some (s.rootWrite a true v)
  else if r = Reg.pdxHubReset then some (s.hubResetWrite role v)
  else if r = Reg.pdxPartialReset then some (s.partialWrite role v)
  else if r = Reg.owlTriageDecide then some (s.triageDecide role v)
  else if r = Reg.owlAck then some (s.owlAck role p (BitVec.ofNat 64 v))
  else if r = Reg.owlHubAck then some (s.owlHubAck role (BitVec.ofNat 64 v))
  else if r = Reg.sqlFlush then some (s.sqlFlush role v)
  else if r = Reg.sqlStoreCmd then some (s.storeWrite role v)
  else if r = Reg.bstTileRun then some (s.tileRunWrite role v)
  else if r = Reg.bstIcGo then some (s.icGo role v)
  else if r = Reg.bstUciBurn then some (s.uciBurn role v (aux.getD 0 0))
  else if r = Reg.pwrThermDecide then some (s.pwrThermDecide role v)
  else none

/-! ## The apply classes (R17) -/

/-- A write that takes effect now, with what follows from it. -/
def State.liveWrite (s : State) (a : Actor) (t : DTarget) (v : Nat) : State :=
  let r := t.e.reg
  if r = Reg.owlSrcCfg then s.srcWrite v
  else if r = Reg.sqlCodeCfg then s.codeWrite v
  else
    let u := s.wr r v t.u t.sub
    if r = Reg.ptnIntrMap then u.releaseMasked t.u t.sub
    else if r = Reg.pdxTenantRoot then u.rootChanged .tenant (some t.u) (s.rd .pdxTenantRoot t.u) v a.session
    else u

/-- A write by its entry's apply class. The two IDLE entries without a command of their own configure a partition's formation, whose
block is idle only in FREE. -/
def State.applyWrite (s : State) (a : Actor) (t : DTarget) (v : Nat) : Answer :=
  match t.e.apply with
  | .none => s.refuse stDenied
  | .live => (stOk, s.liveWrite a t v)
  | .beat => (stPending, s.holdBeat t.e.reg v t.u t.sub)
  | .idle => if s.ptnState (t.ptn.getD 0) = ptnFree then (stOk, s.wr t.e.reg v t.u t.sub) else s.refuse stRunning
  | .reset => (stPending, { s with dict := { s.dict with stored := s.dict.stored.set t.key (v % 2 ^ t.e.reg.bits) } })
  | .onSeal => if s.isSealed (t.ptn.getD 0) then s.refuse stLocked else (stOk, s.liveWrite a t v)

/-- The write of one item: the checks of R508 in order, then its effect. `o` are the values of the frame's other items. -/
def State.itemWrite (s : State) (o : AMap Nat) (a : Actor) (index sub : Nat) (b : List Byte) (aux : List Nat) : Answer :=
  if !s.indexReady index then s.refuse stBusy
  else
    match dictFind index sub with
    | none => s.refuse stNotFound
    | some t =>
      if !mayWrite t.e.acc a.role || !s.inScope a t then s.refuse stDenied
      else if !t.e.ty.encodes b then s.refuse stType
      else if !t.e.ty.fits (leNat b) then s.refuse stRange
      else
        match s.ownWrite a t b aux with
        | some r => r
        | none =>
          if !t.e.range.holds (leNat b) || !s.jointOk o t (leNat b) then s.refuse stRange
          else s.applyWrite a t (leNat b)

/-! ## Reading -/

/-- The checks of R508 for a read; `a` none is an anonymous frame. -/
def State.itemGate (s : State) (a : Option Actor) (index sub : Nat) (may : Acc → Bool) : Except Nat DTarget :=
  if !s.indexReady index then .error stBusy
  else
    match dictFind index sub with
    | none => .error stNotFound
    | some t =>
      match a with
      | none => if anonymousIndex index then .ok t else .error stDenied
      | some x =>
        if !may (accOf t.e.acc x.role) || !s.inScope x t then .error stDenied
        else if t.e.reg = Reg.sqlRead ∧ x.role = .vendor ∧ ¬ (s.lc = lcWafer ∨ s.lc = lcAssembly ∨ s.lc = lcReturned) then .error stLocked
        else .ok t

end Sys2Proof.Machine
end

