-- ==== Sys2Proof/Machine/Frames.lean ====
section
/-! DEFINITION. Frames of the dictionary: units in reassembly, mailboxes, sessions, the kinds of request, and their answers (R498–R506,
R510–R516). -/

namespace Sys2Proof.Machine

/-! ## Reassembly (R498) -/

/-- The head of a unit. -/
structure Segment where
  msg : Nat
  seg : Nat
  last : Bool
  next : Bool
  len : Nat
  deriving DecidableEq, Repr

def segmentOf (b : List Byte) : Segment :=
  let v := leNat (b.take 8)
  { msg := field v 63 48, seg := field v 47 43, last := v.testBit 42, next := v.testBit 41, len := field v 40 27 }

def segmentHead (msg seg : Nat) (last : Bool) (len : Nat) : List Byte :=
  toLe 8 (msg % 65536 * 2 ^ 48 + seg % 32 * 2 ^ 43 + (if last then 2 ^ 42 else 0) + len % 16384 * 2 ^ 27)

def State.setFrames (s : State) (l : List Assembly) : State := { s with dict := { s.dict with frames := l } }

def sameFrame (ep : DictEp) (msg : Nat) (a : Assembly) : Bool := a.ep == ep && a.msg == msg

/-- A unit joins its frame. The second part says that the frame is complete. -/
def State.unitRx (s : State) (ep : DictEp) (unit : List Byte) : State × Bool :=
  let h := segmentOf unit
  let d := unit.drop 8
  let rest := s.dict.frames.filter (fun a => !sameFrame ep h.msg a)
  let old := s.dict.frames.find? (sameFrame ep h.msg)
  if unit.length < 8 ∨ d.length ≠ h.len then (s, false)
  else
    match old with
    | none =>
      if h.seg ≠ 0 ∨ 16384 < h.len then (s, false)
      else if h.last then (s, true)
      else if 4 ≤ (s.dict.frames.filter (fun a => a.ep == ep)).length then (s, false)
      else (s.setFrames (s.dict.frames ++ [{ ep, msg := h.msg, next := 1, data := d }]), false)
    | some a =>
      if h.seg ≠ a.next ∨ 16384 < a.data.length + h.len then (s.setFrames rest, false)
      else if h.last then (s.setFrames rest, true)
      else (s.setFrames (s.dict.frames.map (fun x => if sameFrame ep h.msg x then { x with next := x.next + 1, data := x.data ++ d } else x)), false)

/-! ## Mailboxes (R514, R515) -/

/-- Function of a mailbox. -/
def epFn : DictEp → Option Nat
  | .pf0 => some 0
  | .vf p => some (p + 1)
  | _ => none

def State.box (s : State) (fn : Nat) : Mailbox := s.hep.boxes.get fn {}
def State.setBox (s : State) (fn : Nat) (b : Mailbox) : State := { s with hep := { s.hep with boxes := s.hep.boxes.put fn b {} } }

/-- A response unit is in the buffer: DONE, with the interrupt that INT_EN asks for. -/
def State.boxDone (s : State) (fn : Nat) (unit : List Byte) : State :=
  let b := s.box fn
  let s := s.setBox fn { b with busy := false, done := true, buffer := unit, rlen := unit.length }
  if b.ctl.testBit 57 then (if fn = 0 then s.msix 0 0 else s.raiseVector (fn - 1) (field b.ctl 56 48)) else s

/-- The units of a response frame. -/
def unitsOfFrame (msg : Nat) : Nat → Nat → List Byte → List (List Byte)
  | 0, _, _ => []
  | n + 1, seg, d =>
    if d.length ≤ 4024 then [segmentHead msg seg true d.length ++ d]
    else (segmentHead msg seg false 4024 ++ d.take 4024) :: unitsOfFrame msg n (seg + 1) (d.drop 4024)

/-- A response placed in the mailbox in which its request is being served: its first unit, the others waiting. -/
def State.boxPlace (s : State) (fn : Nat) (frame : List Byte) : State :=
  let b := s.box fn
  if !b.busy then s
  else
    match unitsOfFrame b.msg 32 0 frame with
    | u :: r => (s.setBox fn { b with rest := r }).boxDone fn u
    | [] => s

/-- A request that is dropped unanswered leaves its mailbox free. -/
def State.boxFree (s : State) (ep : DictEp) : State :=
  match epFn ep with
  | some fn => s.setBox fn { s.box fn with busy := false }
  | none => s

/-- GO (R514, R515): the unit in the buffer is submitted, or the next unit of a response is fetched. -/
def State.boxGo (s : State) (fn v : Nat) : State :=
  let b := s.box fn
  let ep : DictEp := if fn = 0 then .pf0 else .vf (fn - 1)
  if b.busy then s.setBox fn { b with overrun := true }
  else
    let n := field v 12 0
    let b := { b with ctl := setField (setField 0 57 57 (field v 57 57)) 56 48 (if fn = 0 then 0 else field v 56 48) + n }
    let s := s.setBox fn b
    if n < 8 ∨ 4032 < n then s
    else
      let unit := (b.buffer ++ List.replicate 4032 0).take n
      let h := segmentOf unit
      if h.next then
        match b.rest with
        | u :: r => if h.msg = b.msg then (s.setBox fn { b with rest := r }).boxDone fn u else s
        | [] => s
      else
        let s := s.setBox fn { b with rest := [], msg := h.msg }
        let r := s.unitRx ep unit
        if r.2 then r.1.setBox fn { r.1.box fn with busy := true }
        else if h.last then r.1
        else r.1.boxDone fn (segmentHead h.msg h.seg false 0)

/-! ## Answers (R499, R505) -/

/-- FLAGS of a response. -/
def State.respFlags (s : State) : Nat := (if s.rd .secApproved = 1 then 1 else 0) + (if s.rd .pdxReady = 1 then 2 else 0)

/-- The frame of a response: its header, its body, and in a session the encrypted body and its tag. -/
def frameBytes (session seq kind flags status beat count secret : Nat) (body : List Byte) : List Byte :=
  let head := toLe 1 1 ++ toLe 1 kind ++ toLe 1 flags ++ toLe 1 status ++ toLe 4 session ++ toLe 8 seq ++ toLe 8 beat
    ++ toLe 2 count ++ toLe 2 0 ++ toLe 4 body.length
  if session = 0 then head ++ body
  else
    head ++ body.zipIdx.map (fun (e : Byte × Nat) => e.1 ^^^ Config.keyStream secret seq session e.2)
      ++ toLe 16 (Config.chunkTag [secret, session, seq, leNat head, leNat body])

/-- A response sent on the transport of its request. -/
def State.respondAs (s : State) (ep : DictEp) (session seq kind flags status beat count secret : Nat) (body : List Byte) : State :=
  let s := s.emit (.dict ep session seq kind flags status beat body)
  match epFn ep with
  | some fn => s.boxPlace fn (frameBytes session seq kind flags status beat count secret body)
  | none => s

/-- An anonymous response. -/
def State.respond (s : State) (ep : DictEp) (seq kind status count : Nat) (body : List Byte) : State :=
  s.respondAs ep 0 seq kind s.respFlags status s.beat.number.toNat count 0 body

/-! ## Items (R500, R501, R510–R512) -/

structure ItemAnswer where
  status : Nat
  ty : Nat := 0
  value : List Byte := []
  pending : Bool := false
  notApplied : Bool := false
  deriving DecidableEq, Repr

/-- The record of an item. -/
def ItemAnswer.record (x : ItemAnswer) (i : DictItem) : List Byte :=
  toLe 2 i.index ++ toLe 1 i.sub ++ toLe 1 x.status ++ toLe 2 x.value.length ++ toLe 1 x.ty
    ++ toLe 1 ((if x.pending then 1 else 0) + (if x.notApplied then 2 else 0))
    ++ x.value ++ List.replicate ((8 - x.value.length % 8) % 8) 0

def typeOfItem (i : DictItem) : Nat := match dictFind i.index i.sub with
  | some t => t.e.ty.code.1
  | none => 0

/-- A value answered with its type. -/
def valueAnswer (t : DTarget) (v : Nat) (pending : Bool) : ItemAnswer :=
  { status := stOk, ty := t.e.ty.code.1, value := t.e.ty.bytesOf v, pending }

def refusedItem (i : DictItem) (st : Nat) : ItemAnswer := { status := st, ty := typeOfItem i }

/-- READ, READ_PENDING, READ_DEFAULT. -/
def State.itemRead' (s : State) (kind : Nat) (a : Option Actor) (i : DictItem) : ItemAnswer :=
  match s.itemGate a i.index i.sub Acc.reads with
  | .error st => refusedItem i st
  | .ok t =>
    if kind = 4 then
      match s.dictPending t with
      | some v => valueAnswer t v true
      | none => valueAnswer t (s.view t) false
    else if kind = 5 then
      match s.dictDefault t with
      | some v => valueAnswer t v false
      | none => refusedItem i stRange
    else valueAnswer t (s.view t) false

def accLetter : Acc → Nat
  | .n => 0x6E
  | .r => 0x72
  | .w => 0x77
  | .b => 0x62

/-- DESCRIBE: type code, n, and the access string. -/
def State.itemDescribe (s : State) (a : Option Actor) (i : DictItem) : ItemAnswer :=
  match s.itemGate a i.index i.sub (fun x => x != .n) with
  | .error st => refusedItem i st
  | .ok t =>
    { status := stOk, ty := t.e.ty.code.1
      value := toLe 1 t.e.ty.code.1 ++ toLe 2 t.e.ty.code.2 ++ t.e.acc.map (fun x => BitVec.ofNat 8 (accLetter x)) }

/-- The answer of a write: PENDING carries the beat at whose edge a BEAT-class value applies, otherwise 0 (R507). -/
def State.writeAnswer (s : State) (i : DictItem) (st : Nat) : ItemAnswer :=
  let v := match dictFind i.index i.sub with
    | some t => if t.e.apply = .beat then s.edgeBeat else 0
    | none => 0
  { status := st, ty := typeOfItem i, value := if st = stPending then toLe 8 v else [] }

/-- One written item. An anonymous frame writes nothing. -/
def State.itemSet (s : State) (o : AMap Nat) (a : Option Actor) (i : DictItem) : ItemAnswer × State :=
  match a with
  | none =>
    (refusedItem i (if !s.indexReady i.index then stBusy else if (dictFind i.index i.sub).isNone then stNotFound else stDenied), s)
  | some x =>
    let r := s.itemWrite o x i.index i.sub i.value i.aux
    (s.writeAnswer i r.1, r.2)

/-- RESET_DEFAULT of an item: its default written as WRITE would. -/
def State.itemReset (s : State) (a : Option Actor) (i : DictItem) : ItemAnswer × State :=
  match s.itemGate a i.index i.sub Acc.writes with
  | .error st => (refusedItem i st, s)
  | .ok t =>
    match s.dictDefault t with
    | none => (refusedItem i stRange, s)
    | some v => s.itemSet [] a { i with value := t.e.ty.bytesOf v }

/-- Items served one after the other. -/
def itemsInOrder (f : State → DictItem → ItemAnswer × State) : State → List DictItem → List ItemAnswer × State
  | s, [] => ([], s)
  | s, i :: l =>
    let r := f s i
    let q := itemsInOrder f r.2 l
    (r.1 :: q.1, q.2)

def accepted (st : Nat) : Bool := st == stOk || st == stPending

/-- The values of a frame, by register key, but for one item. -/
def othersOf (l : List DictItem) (i : DictItem) : AMap Nat :=
  l.foldl (fun (m : AMap Nat) x =>
    if x.index = i.index ∧ x.sub = i.sub then m
    else match dictFind x.index x.sub with
      | some t => if t.e.ty.encodes x.value then m.set t.key (leNat x.value) else m
      | none => m) []

/-- Classes of the entries that a frame names. -/
def classesOf (l : List DictItem) : List Apply := (l.filterMap (fun i => (dictFind i.index i.sub).map (fun t => t.e.apply))).eraseDups

/-- ATOMIC (R512): all items or none. -/
def State.atomic (s : State) (a : Option Actor) (l : List DictItem) : Nat × List ItemAnswer × State :=
  let cs := classesOf l
  let names := l.map (fun i => (i.index, i.sub))
  if 1 < cs.length ∨ cs.any (fun c => c == .none || c == .reset) ∨ names.eraseDups.length ≠ names.length then
    (stRange, l.map (fun i => refusedItem i stRange), s)
  else
    let sts := l.map (fun i => (s.itemSet (othersOf l i) a i).1.status)
    match sts.find? (fun st => !accepted st) with
    | some st =>
      (st, (l.zip sts).map (fun (x : DictItem × Nat) =>
        if accepted x.2 then { status := stOk, ty := typeOfItem x.1, notApplied := true } else refusedItem x.1 x.2), s)
    | none =>
      let r := itemsInOrder (fun t i => t.itemSet (othersOf l i) a i) s l
      (stOk, r.1, r.2)

/-! ## Frames (R501, R505, R513) -/

/-- How many items a kind takes. -/
def kindItems (kind n : Nat) : Bool :=
  if kind = 3 then decide (2 ≤ n) && decide (n ≤ 32)
  else if 1 ≤ kind ∧ kind ≤ 7 then decide (1 ≤ n) && decide (n ≤ 64)
  else n == 0

/-- SCRAPPED and LOCKED (R456). -/
def State.dead (s : State) : Bool := s.lc == lcScrapped || s.lc == lcLocked

/-- The items of a frame: frame status, their answers, and the state after. -/
def State.serveItems (s : State) (kind : Nat) (a : Option Actor) (l : List DictItem) : Nat × List ItemAnswer × State :=
  if kind = 2 then
    let r := itemsInOrder (fun t i => t.itemSet [] a i) s l
    (stOk, r.1, r.2)
  else if kind = 3 then s.atomic a l
  else if kind = 6 then
    let r := itemsInOrder (fun t i => t.itemReset a i) s l
    (stOk, r.1, r.2)
  else if kind = 7 then (stOk, l.map (s.itemDescribe a), s)
  else (stOk, l.map (s.itemRead' kind a), s.drawn)

def recordsOf (xs : List ItemAnswer) (l : List DictItem) : List Byte :=
  (xs.zip l).flatMap (fun (e : ItemAnswer × DictItem) => e.1.record e.2)

/-- A transport that reaches the dictionary (R369, R502). -/
def State.epUp (s : State) (ep : DictEp) : Bool :=
  match ep with
  | .pf0 => s.rd .hepLinkState == linkUp
  | .vf p => s.rd .hepLinkState == linkUp && decide (p < 32)
  | .mgmt => true
  | .mctp => true
  | .sox e _ => s.rd .soxMgmtEn == 1 && s.rd .pdxReady == 1 && s.portUp e && !s.owl.fatalHub

/-- The beat's allowance of management requests (R369): one more is counted, or the request is answered BUSY. -/
def State.mgmtTake (s : State) (ep : DictEp) : Bool × State :=
  match ep with
  | .sox _ _ =>
    if s.rd .soxMgmtRate ≤ s.sox.mgmt then (false, s) else (true, { s with sox := { s.sox with mgmt := s.sox.mgmt + 1 } })
  | _ => (true, s)

/-- A frame dropped under R505: the sixteenth in a session ends it. -/
def State.authDrop (s : State) (ep : DictEp) (slot : Option (Nat × Session)) : State :=
  let s := (s.bump .pdxAuthFails).boxFree ep
  match slot with
  | none => s
  | some (k, x) =>
    if x.fails + 1 < 16 then { s with dict := { s.dict with sessions := s.dict.sessions.set k { x with fails := x.fails + 1 } } }
    else ({ s with dict := { s.dict with sessions := s.dict.sessions.erase k } } : State).ev Ev.pdxAuthFail

/-- The session of a number on its transport. -/
def State.sessionOn (s : State) (n : Nat) (ep : DictEp) : Option (Nat × Session) :=
  s.dict.sessions.find? (fun (e : Nat × Session) => e.2.number == n && e.2.ep == ep)

/-- A frame of no session: what R513 lets it do. -/
def State.serveAnonymous (s : State) (kind : Nat) (r : DictReq) : State :=
  if s.dead then
    if kind ≠ 1 then s.respond r.ep r.seq kind stLocked 0 []
    else
      let xs := r.items.map (fun i => if anonymousIndex i.index then s.itemRead' 1 none i else refusedItem i stLocked)
      s.respond r.ep r.seq kind stOk r.items.length (recordsOf xs r.items)
  else if !r.formOk || !kindItems kind r.items.length then s.respond r.ep r.seq kind stType 0 []
  else if kind = 10 then s.respond r.ep r.seq kind stDenied 0 []
  else
    let q := s.serveItems kind none r.items
    q.2.2.respond r.ep r.seq kind q.1 r.items.length (recordsOf q.2.1 r.items)

/-- The answer of a session's request, kept for a repeat. Zeroisation meanwhile ends every session: the answer is anonymous (R516). -/
def State.sessionAnswer (s : State) (x : Session) (kind : Nat) (r : DictReq) (st count : Nat) (body : List Byte) : State :=
  match s.dict.sessions.find? (fun (e : Nat × Session) => e.2.number == x.number) with
  | none => if s.rd .secState = seZeroised then s.respond r.ep r.seq kind stAuth 0 [] else
    s.respondAs r.ep x.number r.seq kind s.respFlags st s.beat.number.toNat count x.secret body
  | some (k, y) =>
    let fl := s.respFlags
    let b := s.beat.number.toNat
    let y : Session := { y with seq := r.seq, tag := r.tag, lastHead := [kind, fl, st, b, count], last := body }
    let t : State := { s with dict := { s.dict with sessions := s.dict.sessions.set k y } }
    t.respondAs r.ep x.number r.seq kind fl st b count x.secret body

/-- A new request of a session. -/
def State.serveNew (s : State) (kind : Nat) (r : DictReq) (x : Session) : State :=
  let a : Actor := { role := x.role, ptn := x.ptn, session := some x.number }
  if s.dead then s.sessionAnswer x kind r stLocked 0 []
  else if !r.formOk || !kindItems kind r.items.length then s.sessionAnswer x kind r stType 0 []
  else if kind = 10 then
    let t := s.endSessions (fun y => y.number == x.number)
    t.respondAs r.ep x.number r.seq kind s.respFlags stOk s.beat.number.toNat 0 x.secret []
  else
    let q := s.serveItems kind (some a) r.items
    q.2.2.sessionAnswer x kind r q.1 r.items.length (recordsOf q.2.1 r.items)

/-- A frame of a session (R505). -/
def State.serveSession (s : State) (kind : Nat) (r : DictReq) : State :=
  match s.sessionOn r.session r.ep with
  | none => s.authDrop r.ep (s.dict.sessions.find? (fun (e : Nat × Session) => e.2.number == r.session))
  | some (k, x) =>
    if !x.proven || !r.tagOk then s.authDrop r.ep (some (k, x))
    else
      match x.lastHead with
      | [kd, fl, st, b, count] =>
        if r.seq = x.seq ∧ r.tag = x.tag then s.respondAs r.ep x.number r.seq kd fl st b count x.secret x.last
        else if r.seq ≤ x.seq then s.authDrop r.ep (some (k, x))
        else State.serveNew s kind r x
      | _ => State.serveNew s kind r x
/-- A request frame complete. A request beyond the management channel's rate is answered BUSY with SEQ unchanged (R369, R516). -/
def State.serve (s : State) (kind : Nat) (r : DictReq) : State :=
  if !s.dictRuns || !s.epUp r.ep then s
  else
    let m := s.mgmtTake r.ep
    if !m.1 then s.respond r.ep r.seq kind stBusy 0 []
    else if r.session = 0 then m.2.serveAnonymous kind r
    else m.2.serveSession kind r

/-! ## Sessions (R502–R504, R506) -/

def Role.ofCode : Nat → Option Role
  | 0 => some .vendor
  | 1 => some .integrator
  | 2 => some .operator
  | 3 => some .security
  | 4 => some .tenant
  | _ => none

/-- Roles that may open a session on a transport (R502). -/
def roleOn (ep : DictEp) (x : Role) (p : Nat) : Bool :=
  match ep with
  | .pf0 => x != .tenant
  | .vf q => x == .tenant && p == q
  | .mgmt => true
  | .mctp => x == .integrator || x == .operator || x == .security
  | .sox _ _ => x == .operator || x == .security || x == .tenant

/-- The root that admits a role in the life-cycle state in force (R503). -/
def State.roleRoot (s : State) (x : Role) (p : Nat) : Option Nat :=
  let lc := s.lc
  match x with
  | .vendor =>
    if lc = lcWafer ∨ lc = lcAssembly then some s.life.otp.vtest
    else if lc = lcProvisioned then some s.life.otp.vroot
    else if lc = lcReturned then some s.life.otp.vrma
    else none
  | .integrator => if lc = lcAssembly ∨ lc = lcProvisioned ∨ lc = lcField then some (s.rd .pdxIntegratorRoot) else none
  | .operator => if lc = lcField then some (s.rd .pdxOperatorRoot) else none
  | .security => if lc = lcField then some (s.rd .lcsOwnerDigest) else none
  | .tenant => if lc = lcField ∧ s.formed p then some (s.rd .pdxTenantRoot p) else none

/-- The limits of R506 leave room. -/
def State.sessionRoom (s : State) (x : Role) (p : Nat) : Bool :=
  let mine := (s.dict.sessions.filter (fun (e : Nat × Session) => e.2.role == x && (x != .tenant || e.2.ptn == p))).length
  decide (s.dict.sessions.length < 64) && decide (mine < (if x = .tenant then 4 else 8))

/-- Bytes whose values the surroundings of the model decide: keys, ciphertexts and signatures. -/
def State.freeBytes (s : State) (n : Nat) : List Byte := (List.range n).map (fun i => (Config.freeWord (s.fresh + i)).setWidth 8)

/-- SESSION_OPEN (R504): a session is held, unproven. -/
def State.sessionOpen (s : State) (r : OpenReq) : State :=
  if !s.dictRuns || !s.epUp r.ep then s
  else
    let m := s.mgmtTake r.ep
    let s := m.2
    let no (st : Nat) : State := s.respond r.ep 0 8 st 0 []
    if !m.1 then no stBusy
    else if s.dead then no stLocked
    else
      match Role.ofCode r.role with
      | none => no stRange
      | some x =>
        if x = .tenant ∧ 32 ≤ r.ptn then no stRange
        else if !roleOn r.ep x r.ptn then no stDenied
        else if (s.roleRoot x r.ptn).isNone then no stLocked
        else if !s.seUp || !s.sessionRoom x r.ptn then no stBusy
        else
          let n := s.dict.opened + 1
          let y : Session := { number := n, role := x, ptn := r.ptn, ep := r.ep, key := r.root, secret := s.draw256 }
          let k := s.dict.sessions.free 64 0
          let s : State := { s with dict := { s.dict with sessions := s.dict.sessions.set k y, opened := n } }
          let s := s.drawn 4
          let body := toLe 4 n ++ s.freeBytes 4989
          (s.drawn 4989).respond r.ep 0 8 stOk 0 body

/-- SESSION_PROVE: the role key meets R503 and both signatures verify. -/
def State.sessionProve (s : State) (ep : DictEp) (n : Nat) (sigOk : Bool) : State :=
  if !s.dictRuns || !s.epUp ep then s
  else
    let m := s.mgmtTake ep
    let s := m.2
    let say (s : State) (st : Nat) : State := s.respond ep 0 9 st 0 []
    if !m.1 then say s stBusy
    else if s.dead then say s stLocked
    else
      match s.sessionOn n ep with
      | none => say s stAuth
      | some (k, x) =>
        if sigOk ∧ x.key ≠ 0 ∧ s.roleRoot x.role x.ptn = some x.key ∧ ¬ x.proven then
          say { s with dict := { s.dict with sessions := s.dict.sessions.set k { x with proven := true } } } stOk
        else say s stAuth

/-- SPDM (R501): always anonymous; the responder's answer is the body. -/
def State.dictSpdm (s : State) (ep : DictEp) (seq dest : Nat) (req : SpdmReq) : State :=
  if !s.dictRuns || !s.epUp ep then s
  else
    let m := s.mgmtTake ep
    let s := m.2
    if !m.1 then s.respond ep seq 11 stBusy 0 []
    else if s.dead then s.respond ep seq 11 stLocked 0 []
    else if !s.seUp then s.respond ep seq 11 stBusy 0 []
    else if !s.hasEndpoint dest then s.respond ep seq 11 stNotFound 0 []
    else (s.spdm dest req).respond ep seq 11 stOk 0 []

/-! ## The commands -/

/-- A unit arrives and joins its frame. A complete frame is served by the command of its KIND. -/
def execDictUnitRx (ep : DictEp) (unit : List Byte) (s : State) : Host.Outcome State Fault Refusal :=
  .next (if s.dictRuns && s.epUp ep then (s.unitRx ep unit).1 else s)

def execDictReassemblyTimeout (ep : DictEp) (msg : Nat) (s : State) : Host.Outcome State Fault Refusal :=
  .next (s.setFrames (s.dict.frames.filter (fun a => !sameFrame ep msg a)))

def execDictRead (r : DictReq) (s : State) : Host.Outcome State Fault Refusal := .next (s.serve 1 r)
def execDictWrite (r : DictReq) (s : State) : Host.Outcome State Fault Refusal := .next (s.serve 2 r)
def execDictAtomic (r : DictReq) (s : State) : Host.Outcome State Fault Refusal := .next (s.serve 3 r)
def execDictReadPending (r : DictReq) (s : State) : Host.Outcome State Fault Refusal := .next (s.serve 4 r)
def execDictReadDefault (r : DictReq) (s : State) : Host.Outcome State Fault Refusal := .next (s.serve 5 r)
def execDictResetDefault (r : DictReq) (s : State) : Host.Outcome State Fault Refusal := .next (s.serve 6 r)
def execDictDescribe (r : DictReq) (s : State) : Host.Outcome State Fault Refusal := .next (s.serve 7 r)
def execDictSessionOpen (r : OpenReq) (s : State) : Host.Outcome State Fault Refusal := .next (s.sessionOpen r)
def execDictSessionProve (ep : DictEp) (n : Nat) (sigOk : Bool) (s : State) : Host.Outcome State Fault Refusal :=
  .next (s.sessionProve ep n sigOk)
def execDictSessionClose (r : DictReq) (s : State) : Host.Outcome State Fault Refusal := .next (s.serve 10 r)
def execDictSpdm (ep : DictEp) (seq dest : Nat) (req : SpdmReq) (s : State) : Host.Outcome State Fault Refusal :=
  .next (s.dictSpdm ep seq dest req)

/-- A session not proven within 1 s of its OPEN is discarded (R504). -/
def execSessionProveTimeout (n : Nat) (s : State) : Host.Outcome State Fault Refusal :=
  .next (s.endSessions (fun x => x.number == n && !x.proven))

/-- PDX_SESSION_IDLE passes without a request (R506). -/
def execSessionIdleExpiry (n : Nat) (s : State) : Host.Outcome State Fault Refusal := .next (s.endSessions (fun x => x.number == n))

/-- A write of the integrator's root, or of the operator's (R503, R519). -/
def execRoleRootWrite (role : Role) (operator : Bool) (v : Nat) (s : State) : Host.Outcome State Fault Refusal :=
  .next (State.answered (s.itemWrite [] { role, ptn := 0 } (if operator then 0x1081 else 0x1080) 0 (toLe 64 v) []))

/-- A management packet (R369): its PSN carries the SEQ of its frame. -/
def execSftMgmt (f : Frame) (kind : Nat) (r : DictReq) (s : State) : Host.Outcome State Fault Refusal :=
  .next (s.frame12 f (fun s => s.serve kind { r with ep := .sox f.port f.srcPkg, seq := f.psn, tagOk := r.tagOk && f.tagOk }))

end Sys2Proof.Machine
end

