-- ==== Sys2Proof/Machine/SyncOps.lean ====
section
/-! DEFINITION. The operations on synchronization objects, one for each row (R381). -/

namespace Sys2Proof.Machine

/-! ## The operations -/

/-- READ: the value (R381). -/
def State.syncReadOp (s : State) (src : SyncSrc) (obj : Nat) : State :=
  s.syncOp src obj allKinds false (fun s => s.syncDone src (s.obj obj).value)

/-- INIT: kind and value set, every waiter of the object EXPIRED, the old value answered. A BARRIER
with TARGET 0 or COUNT not below TARGET is an operand error (R381). -/
def State.syncInitOp (s : State) (src : SyncSrc) (obj : Nat) (a b : Word) : State :=
  s.syncOp src obj allKinds (kindOf b == .barrier && !decide (barCount a < barTarget a))
    (fun s => ((s.expireWaiters (fun w => w.obj == obj)).setObj obj ⟨kindOf b, a⟩).syncDone src (s.obj obj).value)

/-- ADD: value + A mod 2^64, the old value answered (R381). -/
def State.syncAddOp (s : State) (src : SyncSrc) (obj : Nat) (a : Word) : State :=
  s.syncOp src obj [.counter] false (fun s => s.syncSet src obj ((s.obj obj).value + a) (s.obj obj).value)

/-- CAS: if the value is A it becomes B; the old value answered (R381). -/
def State.syncCasOp (s : State) (src : SyncSrc) (obj : Nat) (a b : Word) : State :=
  s.syncOp src obj [.counter, .event] false (fun s =>
    s.syncSet src obj (if (s.obj obj).value = a then b else (s.obj obj).value) (s.obj obj).value)

/-- SWAP: value A, the old value answered (R381). -/
def State.syncSwapOp (s : State) (src : SyncSrc) (obj : Nat) (a : Word) : State :=
  s.syncOp src obj [.counter, .event] false (fun s => s.syncSet src obj a (s.obj obj).value)

/-- WAIT_GE: waits until value ≥ A, unsigned (R381). -/
def State.syncWaitGeOp (s : State) (src : SyncSrc) (obj : Nat) (a : Word) : State :=
  s.syncOp src obj [.counter] false (fun s => s.syncWait src obj (.ge a))

/-- ACQUIRE: waits until value ≥ A, then takes A units; A = 0 is an operand error (R381). -/
def State.syncAcquireOp (s : State) (src : SyncSrc) (obj : Nat) (a : Word) : State :=
  s.syncOp src obj [.semaphore] (a == 0) (fun s => s.syncWait src obj (.acquire a))

/-- RELEASE: min(value + A, 2^64 − 1), answered before its waiters take their units (R381). -/
def State.syncReleaseOp (s : State) (src : SyncSrc) (obj : Nat) (a : Word) : State :=
  s.syncOp src obj [.semaphore] (a == 0) (fun s =>
    s.syncSet src obj (semAdd (s.obj obj).value a) (semAdd (s.obj obj).value a))

/-- ARRIVE: one arrival, the old value answered (R381). -/
def State.syncArriveOp (s : State) (src : SyncSrc) (obj : Nat) : State :=
  s.syncOp src obj [.barrier] false (fun s => s.syncSet src obj (barArrive (s.obj obj).value) (s.obj obj).value)

/-- ARRIVE_WAIT: one arrival, then a wait until GEN differs from its value before it (R381). -/
def State.syncArriveWaitOp (s : State) (src : SyncSrc) (obj : Nat) : State :=
  s.syncOp src obj [.barrier] false (fun s =>
    (s.settleObj obj { s.obj obj with value := barArrive (s.obj obj).value }).syncWait src obj
      (.genNot (barGen (s.obj obj).value)))

/-- BAR_WAIT: waits until GEN ≠ A[31:0] (R381). -/
def State.syncBarWaitOp (s : State) (src : SyncSrc) (obj : Nat) (a : Word) : State :=
  s.syncOp src obj [.barrier] false (fun s => s.syncWait src obj (.genNot (barGen a)))

/-- SET: value or A, the old value answered (R381). -/
def State.syncSetOp (s : State) (src : SyncSrc) (obj : Nat) (a : Word) : State :=
  s.syncOp src obj [.event] false (fun s => s.syncSet src obj ((s.obj obj).value ||| a) (s.obj obj).value)

/-- CLEAR: value and not A, the old value answered (R381). -/
def State.syncClearOp (s : State) (src : SyncSrc) (obj : Nat) (a : Word) : State :=
  s.syncOp src obj [.event] false (fun s => s.syncSet src obj ((s.obj obj).value &&& ~~~ a) (s.obj obj).value)

/-- WAIT_ANY: waits until (value and A) ≠ 0; with B[0] it clears those flags (R381). -/
def State.syncWaitAnyOp (s : State) (src : SyncSrc) (obj : Nat) (a b : Word) : State :=
  s.syncOp src obj [.event] false (fun s => s.syncWait src obj (.any a (b.getLsbD 0)))

/-- WAIT_ALL: waits until (value and A) = A; with B[0] it clears A (R381). -/
def State.syncWaitAllOp (s : State) (src : SyncSrc) (obj : Nat) (a b : Word) : State :=
  s.syncOp src obj [.event] false (fun s => s.syncWait src obj (.all a (b.getLsbD 0)))

/-- The operation of a code (R381): an object outside the partition comes before a reserved code (R384). -/
def State.syncByCode (s : State) (src : SyncSrc) (opx obj : Nat) (a b : Word) : State :=
  match opx with
  | 0 => s.syncReadOp src obj
  | 1 => s.syncInitOp src obj a b
  | 2 => s.syncAddOp src obj a
  | 3 => s.syncCasOp src obj a b
  | 4 => s.syncSwapOp src obj a
  | 5 => s.syncWaitGeOp src obj a
  | 6 => s.syncAcquireOp src obj a
  | 7 => s.syncReleaseOp src obj a
  | 8 => s.syncArriveOp src obj
  | 9 => s.syncArriveWaitOp src obj
  | 10 => s.syncBarWaitOp src obj a
  | 11 => s.syncSetOp src obj a
  | 12 => s.syncClearOp src obj a
  | 13 => s.syncWaitAnyOp src obj a b
  | 14 => s.syncWaitAllOp src obj a b
  | _ => s.syncRefuse src (if s.ownsObj src.lab.ptn obj then reasonOpx else reasonRange)

/-! ## The commands -/

def execSyncRead (src : SyncSrc) (obj : Nat) (s : State) : Host.Outcome State Fault Refusal := .next (State.settleSites (s.syncReadOp src obj))
def execSyncInit (src : SyncSrc) (obj : Nat) (a b : Word) (s : State) : Host.Outcome State Fault Refusal := .next (State.settleSites (s.syncInitOp src obj a b))
def execSyncAdd (src : SyncSrc) (obj : Nat) (a : Word) (s : State) : Host.Outcome State Fault Refusal := .next (State.settleSites (s.syncAddOp src obj a))
def execSyncCas (src : SyncSrc) (obj : Nat) (a b : Word) (s : State) : Host.Outcome State Fault Refusal := .next (State.settleSites (s.syncCasOp src obj a b))
def execSyncSwap (src : SyncSrc) (obj : Nat) (a : Word) (s : State) : Host.Outcome State Fault Refusal := .next (State.settleSites (s.syncSwapOp src obj a))
def execSyncWaitGe (src : SyncSrc) (obj : Nat) (a : Word) (s : State) : Host.Outcome State Fault Refusal := .next (State.settleSites (s.syncWaitGeOp src obj a))
def execSyncAcquire (src : SyncSrc) (obj : Nat) (a : Word) (s : State) : Host.Outcome State Fault Refusal := .next (State.settleSites (s.syncAcquireOp src obj a))
def execSyncRelease (src : SyncSrc) (obj : Nat) (a : Word) (s : State) : Host.Outcome State Fault Refusal := .next (State.settleSites (s.syncReleaseOp src obj a))
def execSyncArrive (src : SyncSrc) (obj : Nat) (s : State) : Host.Outcome State Fault Refusal := .next (State.settleSites (s.syncArriveOp src obj))
def execSyncArriveWait (src : SyncSrc) (obj : Nat) (s : State) : Host.Outcome State Fault Refusal := .next (State.settleSites (s.syncArriveWaitOp src obj))
def execSyncBarWait (src : SyncSrc) (obj : Nat) (a : Word) (s : State) : Host.Outcome State Fault Refusal := .next (State.settleSites (s.syncBarWaitOp src obj a))
def execSyncSet (src : SyncSrc) (obj : Nat) (a : Word) (s : State) : Host.Outcome State Fault Refusal := .next (State.settleSites (s.syncSetOp src obj a))
def execSyncClear (src : SyncSrc) (obj : Nat) (a : Word) (s : State) : Host.Outcome State Fault Refusal := .next (State.settleSites (s.syncClearOp src obj a))
def execSyncWaitAny (src : SyncSrc) (obj : Nat) (a b : Word) (s : State) : Host.Outcome State Fault Refusal := .next (State.settleSites (s.syncWaitAnyOp src obj a b))
def execSyncWaitAll (src : SyncSrc) (obj : Nat) (a b : Word) (s : State) : Host.Outcome State Fault Refusal := .next (State.settleSites (s.syncWaitAllOp src obj a b))

/-- COL_WAIT_LIMIT passes after the arrival of waiter `id` of a bank: it is answered EXPIRED (R383). -/
def execSyncWaitExpiry (bank id : Nat) (s : State) : Host.Outcome State Fault Refusal :=
  .next (match s.waiterAt bank id with
    | some w => (s.expireOne w).settleSites
    | none => s)

end Sys2Proof.Machine
end

