-- ==== Sys2Proof/Machine/HostPort.lean ====
section
/-! DEFINITION. The host's requests: the base address registers of PF0 and of the VFs, configuration space, the sync window, the
mailboxes, and the operator's checkpoint export (R473–R481, R483, R485, R487, R488, R514), and writes of registers that have no command
of their own (R17). -/

namespace Sys2Proof.Machine

/-! ## Words of a register block -/

/-- Part of an aligned 8 B word that an access covers. -/
structure WordPart where
  off : Nat
  raw : Nat
  mask : Nat
  deriving DecidableEq, Repr

/-- The words that `n` bytes at an offset cover, with the bits that a write of `v` brings. -/
def wordParts (off n v : Nat) : List WordPart :=
  let m := (2 ^ (8 * n) - 1) * 2 ^ (8 * (off % 8))
  let r := v % 2 ^ (8 * n) * 2 ^ (8 * (off % 8))
  (List.range ((off % 8 + n + 7) / 8)).map (fun i =>
    { off := off / 8 * 8 + 8 * i, raw := r / 2 ^ (64 * i) % 2 ^ 64, mask := m / 2 ^ (64 * i) % 2 ^ 64 })

/-- A word after a write: of the bits that may be written, those that the access covers change. -/
def WordPart.merge (w : WordPart) (old may : Nat) : Nat :=
  let m := w.mask &&& may
  (old - (old &&& m)) + (w.raw &&& m)

/-- Bytes of a block read word by word. -/
def bytesFrom (f : Nat → Nat) (off n : Nat) : List Byte :=
  (((List.range ((off % 8 + n + 7) / 8)).flatMap (fun i => toLe 8 (f (off / 8 * 8 + 8 * i)))).drop (off % 8)).take n

/-- Bits [msb:lsb] as a mask. -/
def bitMask (msb lsb : Nat) : Nat := (2 ^ (msb + 1 - lsb) - 1) * 2 ^ lsb

/-! ## Mailboxes (R514, R515) -/

def State.boxWord (s : State) (fn o : Nat) : Nat :=
  let b := s.box fn
  if o = 0 then b.ctl
  else if o = 8 then (if b.busy then 2 ^ 63 else 0) + (if b.done then 2 ^ 62 else 0) + (if b.overrun then 2 ^ 61 else 0) + b.rlen % 8192
  else if 0x40 ≤ o then leNat ((b.buffer.drop (o - 0x40)).take 8)
  else 0

def State.boxPut (s : State) (fn : Nat) (w : WordPart) (o : Nat) : State :=
  let b := s.box fn
  if o = 0 then
    let v := w.merge b.ctl (bitMask 57 (if fn = 0 then 57 else 48) + bitMask 12 0)
    if w.raw.testBit 63 then s.boxGo fn v else s.setBox fn { b with ctl := v }
  else if o = 8 then
    s.setBox fn { b with done := b.done && !w.raw.testBit 62, overrun := b.overrun && !w.raw.testBit 61 }
  else if 0x40 ≤ o ∧ ¬ b.busy then
    let all := b.buffer ++ List.replicate (4032 - b.buffer.length) 0
    s.setBox fn { b with buffer := all.take (o - 0x40) ++ toLe 8 (w.merge (s.boxWord fn o) (2 ^ 64 - 1)) ++ all.drop (o - 0x38) }
  else s

/-! ## MSI-X (R473, R485) -/

/-- Messages pending under no mask any longer are sent. -/
def State.msixFlush (s : State) (fn : Nat) : State :=
  let go := (s.hep.msixPend.where (fun k _ =>
    k / 2048 == fn && (s.hep.fnMask.find fn).isNone && !(s.hep.msixTab.get k msixReset).testBit 96)).keys
  s.each go (fun s k => ({ s with hep := { s.hep with msixPend := s.hep.msixPend.erase k } } : State).msix fn (k % 2048))

/-- A word of the table: address, or data with vector control. -/
def State.msixWord (s : State) (fn x : Nat) : Nat :=
  s.hep.msixTab.get (2048 * fn + x / 16) msixReset / 2 ^ (64 * (x / 8 % 2)) % 2 ^ 64

def State.msixPut (s : State) (fn : Nat) (w : WordPart) (x : Nat) : State :=
  let k := 2048 * fn + x / 16
  let old := s.hep.msixTab.get k msixReset
  let hi := 64 * (x / 8 % 2)
  let v := w.merge (s.msixWord fn x) (if hi = 0 then 2 ^ 64 - 4 else 2 ^ 33 - 1)
  let t : State := { s with hep := { s.hep with msixTab := s.hep.msixTab.put k (setField old (hi + 63) hi v) msixReset } }
  t.msixFlush fn

/-- 64 pending bits. -/
def State.pbaWord (s : State) (fn i : Nat) : Nat :=
  (List.range 64).foldl (fun a j => if (s.hep.msixPend.find (2048 * fn + 64 * i + j)).isSome then a + 2 ^ j else a) 0

/-! ## VF BAR0 (R476–R478) -/

/-- The groups of R481. -/
inductive BarGroup where
  | status | control | reserved
  deriving DecidableEq, Repr

def vfGroup (o : Nat) : BarGroup :=
  if o < 0x10 then .status
  else if o < 0x18 then .control
  else if o < 0x100 then .reserved
  else if o < 0x308 then .control
  else if o < 0x1000 then .reserved
  else if o < 0x2000 then .status
  else if o < 0x4000 then .control
  else if o < 0x10000 then .reserved
  else if o < 0x18100 then .status
  else if o < 0x80000 then .reserved
  else if o < 0x100000 then .control
  else .reserved

/-- The size rule of R476. -/
def vfSizeOk (o n : Nat) : Bool :=
  (n == 8 || (n == 4 && !(o / 8 == 1 || o / 8 == 2 || decide (0x80000 ≤ o)))) && o % n == 0

/-- TIL_PTN_STATUS (R105). -/
def State.ptnStatusWord (s : State) (p : Nat) : Nat :=
  let ts := s.tilesOf p
  (if (s.tile.seen.get p 0).testBit 1 then 2 ^ 63 else 0) + (if (s.tile.seen.get p 0).testBit 0 then 2 ^ 62 else 0)
    + s.rd .tilCclkEffective 0 p / 50 % 32 * 2 ^ 48 + (ts.filter (fun t => (s.rd .tilFailed).testBit t)).length % 65536 * 2 ^ 32
    + (ts.map (fun t => (s.strandsOf t).length)).sum % 2 ^ 21

/-- HEP_VF_STATUS (R477). -/
def State.vfStatusWord (s : State) (p : Nat) : Nat :=
  let r := s.hep.refused.get p 0
  (if s.ptnState p = ptnSealed then 2 ^ 63 else 0) + (if r.testBit 8 then 2 ^ 62 else 0) + r % 256 * 2 ^ 48 + s.beat.number.toNat % 2 ^ 48

/-- A doorbell (R143, R388). -/
def doorbellWord (err active : Bool) (cplHead head tail : Nat) : Nat :=
  (if err then 2 ^ 63 else 0) + (if active then 2 ^ 62 else 0) + cplHead % 2 ^ 17 * 2 ^ 34 + head % 2 ^ 17 * 2 ^ 17 + tail % 2 ^ 17

def State.wqWord (s : State) (p q : Nat) : Nat :=
  let w := s.wq p q
  doorbellWord w.err (!w.descs.isEmpty) w.cplHead w.head w.tail

def State.ringWord (s : State) (p : Nat) : Nat :=
  let w := s.ring p
  doorbellWord w.err ((List.range 16).any (fun g => (s.group p g).coll.isSome)) w.cplHead w.head w.tail

/-- A word of a slot of the sync window (R478). -/
def State.slotWordOf (s : State) (p o : Nat) : Nat :=
  let x := s.hep.slots.get (128 * p + o / 4096) {}
  match o % 4096 with
  | 0x00 => x.opa
  | 0x08 => x.opb
  | 0x10 => x.ctl
  | 0x18 => x.result
  | 0x20 => x.reason
  | _ => 0

def State.vfWord (s : State) (p o : Nat) : Nat :=
  if o = 0 then s.ptnStatusWord p
  else if o = 8 then s.vfStatusWord p
  else if o < 0x100 then 0
  else if o < 0x300 then s.wqWord p ((o - 0x100) / 8)
  else if o = 0x300 then s.ringWord p
  else if o < 0x1000 then 0
  else if o < 0x2000 then s.boxWord (p + 1) (o - 0x1000)
  else if o < 0x4000 then s.hep.wtt.get (1024 * p + (o - 0x2000) / 8) 0
  else if o < 0x10000 then 0
  else if o < 0x18000 then s.msixWord (p + 1) (o - 0x10000)
  else if o < 0x18100 then s.pbaWord (p + 1) ((o - 0x18000) / 8)
  else if o < 0x80000 then 0
  else if o < 0x100000 then s.slotWordOf p (o - 0x80000)
  else 0

/-- A write of a queue's doorbell: CPL_HEAD, TAIL, ABORT (R143–R145). -/
def State.wqPut (s : State) (p q : Nat) (w : WordPart) : State :=
  let v := w.merge (s.wqWord p q) (bitMask 50 34 + bitMask 16 0)
  let s := if w.mask / 2 ^ 34 = 0 then s else s.setWq p q { s.wq p q with cplHead := field v 50 34 }
  let s := if w.mask % 2 ^ 17 = 0 then s else s.wqTail p q (field v 16 0)
  if w.raw.testBit 61 then s.wqAbort p q else s

/-- A write of the ring's doorbell (R388). -/
def State.ringPut (s : State) (p : Nat) (w : WordPart) : State :=
  let v := w.merge (s.ringWord p) (bitMask 50 34 + bitMask 16 0)
  let s := s.ringTail p (field v 16 0) (field v 50 34)
  if w.raw.testBit 61 then s.ringAbort p else s

/-- A write of a word of a slot; that of +0x10 performs the operation, in class SYS, without waiting (R478). -/
def State.slotPut (s : State) (p : Nat) (w : WordPart) (o : Nat) : State :=
  let k := 128 * p + o / 4096
  let x := s.hep.slots.get k {}
  let put (y : SyncSlot) : State := { s with hep := { s.hep with slots := s.hep.slots.put k y {} } }
  match o % 4096 with
  | 0x00 => put { x with opa := w.merge x.opa (2 ^ 64 - 1) }
  | 0x08 => put { x with opb := w.merge x.opb (2 ^ 64 - 1) }
  | 0x10 =>
    let v := w.merge x.ctl (2 ^ 21 - 1)
    ((put { x with ctl := v }).syncByCode { entry := .host, lab := { ptn := p, ctx := 0, cls := clsSys }, tag := o / 4096 }
      (field v 20 16) (field v 15 0) (BitVec.ofNat 64 x.opa) (BitVec.ofNat 64 x.opb)).settleSites
  | _ => s

def State.vfPut (s : State) (p : Nat) (w : WordPart) : State :=
  let o := w.off
  if o = 0 then
    let old := s.tile.seen.get p 0
    let a := if w.raw.testBit 63 then clearBit old 1 else old
    let b := if w.raw.testBit 62 then clearBit a 0 else a
    let t : State := { s with tile := { s.tile with seen := s.tile.seen.put p b 0 } }
    if w.raw.testBit 61 then t.abortAll p else t
  else if o = 8 then
    if w.raw.testBit 62 then { s with hep := { s.hep with refused := s.hep.refused.put p (s.hep.refused.get p 0 % 256) 0 } } else s
  else if o = 0x10 then s.raiseVector p (w.raw % 512)
  else if o < 0x100 then s
  else if o < 0x300 then s.wqPut p ((o - 0x100) / 8) w
  else if o = 0x300 then s.ringPut p w
  else if o < 0x1000 then s
  else if o < 0x2000 then s.boxPut (p + 1) w (o - 0x1000)
  else if o < 0x4000 then
    let k := 1024 * p + (o - 0x2000) / 8
    { s with hep := { s.hep with wtt := s.hep.wtt.put k (w.merge (s.hep.wtt.get k 0) (bitMask 63 53 + bitMask 47 20)) 0 } }
  else if o < 0x10000 then s
  else if o < 0x18000 then s.msixPut (p + 1) w (o - 0x10000)
  else if o < 0x80000 then s
  else if o < 0x100000 then s.slotPut p w (o - 0x80000)
  else s

/-! ## PF0 BAR0 (R475, R487) -/

/-- HEP_PF_STATUS. -/
def State.pfStatusWord (s : State) : Nat :=
  (if s.beat.hostSeen then 2 ^ 63 else 0) + s.rd .hepLinkState % 4 * 2 ^ 61 + s.rdField .hepLinkRate 15 8 % 32 * 2 ^ 56
    + s.rdField .hepLinkRate 7 0 % 16 * 2 ^ 52 + s.beat.number.toNat % 2 ^ 48

def State.exportWord (s : State) (o : Nat) : Nat :=
  let x := s.hep.exp
  match o with
  | 0x00 => x.hostAddr
  | 0x08 => x.what
  | 0x10 => x.label
  | 0x20 => (if x.busy then xpBusy else x.status) % 256 * 2 ^ 56 + x.written % 65536 * 2 ^ 40
  | _ => 0

def State.setExport (s : State) (x : Export) : State := { s with hep := { s.hep with exp := x } }

/-- GO (R488): the conditions in their order; a run draws its SALT. -/
def State.exportGo (s : State) : State :=
  let x := s.hep.exp
  let p := field x.what 63 59
  let no (st : Nat) : State := s.setExport { x with status := st, written := 0, busy := false }
  if x.status = xpRunning then s.setExport { x with busy := true }
  else if s.rd .hepHostCkpt 0 p ≠ 1 then no xpNotEnabled
  else if s.ptnState p ≠ ptnSealed then no xpNotSealed
  else if (s.keySlot (slotCkpt p)).isNone then no xpNoKey
  else
    (s.setExport { x with
      status := xpRunning, written := 0, busy := false, runAddr := x.hostAddr, run := x.what, runLabel := x.label
      salt := s.draw128 }).drawn 2

def State.exportPut (s : State) (w : WordPart) (o : Nat) : State :=
  let x := s.hep.exp
  match o with
  | 0x00 => s.setExport { x with hostAddr := w.merge x.hostAddr (2 ^ 64 - 4096) }
  | 0x08 => s.setExport { x with what := w.merge x.what (bitMask 63 15) }
  | 0x10 => s.setExport { x with label := w.merge x.label (2 ^ 64 - 1) }
  | 0x18 => if w.raw.testBit 0 then s.exportGo else s
  | _ => s

def State.pfWord (s : State) (o : Nat) : Nat :=
  if o = 0 then s.pfStatusWord
  else if o < 0x1000 then 0
  else if o < 0x2000 then s.boxWord 0 (o - 0x1000)
  else if o < 0x2400 then s.msixWord 0 (o - 0x2000)
  else if o = 0x2400 then s.pbaWord 0 0
  else if o < 0x10000 then 0
  else if o < 0x10040 then s.exportWord (o - 0x10000)
  else 0

def State.pfPut (s : State) (w : WordPart) : State :=
  let o := w.off
  if o < 0x1000 then s
  else if o < 0x2000 then s.boxPut 0 w (o - 0x1000)
  else if o < 0x2400 then s.msixPut 0 w (o - 0x2000)
  else if o < 0x10000 then s
  else if o < 0x10040 then s.exportPut w (o - 0x10000)
  else s

/-! ## Memory requests -/

def cplOk : Nat := 0

/-- New requests meet CA: a hub reset is being carried out (R537). -/
def State.hostCa (s : State) : Bool := s.startup.reset.isSome

/-- A BAR0 access of a VF whose turn has come (R481, R555). -/
def State.vfAccess (s : State) (p : Nat) (r : HostReq) : State :=
  let read := r.data.isNone
  let g := vfGroup r.off
  let st := s.ptnState p
  if s.owl.fatalHub then (if read then s.emit (.completion (p + 1) cplCa []) else s)
  else if g = .reserved then (if read then s.emit (.completion (p + 1) cplOk (List.replicate r.len 0)) else s)
  else if !vfSizeOk r.off r.len then s.hostRefuse p 1 read
  else if st = ptnFree then s.hostRefuse p 2 read
  else if g = .control ∧ (st = ptnFormed ∨ st = ptnSealing) then s.hostRefuse p 3 read
  else if g = .control ∧ st ≠ ptnSealed then s.hostRefuse p 4 read
  else
    match r.data with
    | none => s.emit (.completion (p + 1) cplOk (bytesFrom (s.vfWord p) r.off r.len))
    | some d => s.each (wordParts r.off r.len (leNat d)) (fun s w => s.vfPut p w)

/-- The requests at the head of a function's queue whose turn has come; a BAR0 access waits until every earlier write of its function is
acknowledged (R483). -/
def State.hostTurns : Nat → State → Nat → State
  | 0, s, _ => s
  | f + 1, s, p =>
    let s := State.hostPump s.entryFuel s p
    match s.hep.queue.get p [] with
    | [] => s
    | r :: rest =>
      if r.bar2 ∨ ¬ (s.hostOut p).isEmpty ∨ (s.col.paused.find p).isSome then s
      else
        let t : State := { s with hep := { s.hep with queue := s.hep.queue.put p rest [] } }
        State.hostTurns f (t.vfAccess p r) p

/-- Every function's turns. -/
def State.hostTurnsAll (s : State) : State :=
  s.each (List.range 32) (fun s p => State.hostTurns ((s.hep.queue.get p []).length + 1) s p)

/-- A memory request of the host to a VF (R474, R482, R537). -/
def State.hostArrive (s : State) (p : Nat) (r : HostReq) : State :=
  let read := r.data.isNone
  if s.rd .hepLinkState ≠ linkUp ∨ 32 ≤ p then s
  else if s.hostCa then (if read then s.emit (.completion (p + 1) cplCa []) else s)
  else if s.rd .pdxReady ≠ 1 then (if read then s.emit (.completion (p + 1) cplUr []) else s)
  else
    let l := s.hep.queue.get p [] ++ [r]
    let t : State := { s with hep := { s.hep with queue := s.hep.queue.put p l [] } }
    State.hostTurns (l.length + 1) t p

/-- Offsets of PF0 BAR0 that are served after a FATAL-HUB (R555). -/
def pfServed (o : Nat) : Bool := decide (o < 8) || (decide (0x1000 ≤ o) && decide (o < 0x2408))

/-- A memory request of the host to PF0 BAR0. -/
def State.pfArrive (s : State) (off n : Nat) (data : Option Nat) : State :=
  let read := data.isNone
  if s.rd .hepLinkState ≠ linkUp then s
  else if s.hostCa ∨ (s.owl.fatalHub ∧ ¬ pfServed off) then (if read then s.emit (.completion 0 cplCa []) else s)
  else if s.rd .pdxReady ≠ 1 then (if read then s.emit (.completion 0 cplUr []) else s)
  else
    match data with
    | none => s.emit (.completion 0 cplOk (bytesFrom s.pfWord off n))
    | some v => s.each (wordParts off n v) (fun s w => s.pfPut w)

/-- A BAR0 write of function `fn`. -/
def State.bar0Write (s : State) (fn off n v : Nat) : State :=
  if fn = 0 then s.pfArrive off n (some v)
  else s.hostArrive (fn - 1) { bar2 := false, off, data := some (toLe n v), len := n, ep := false }

/-! ## Configuration space (R473–R475, R489) -/

/-- Registers of a header (R538), by 16 × function + register. -/
def headerKey (fn i : Nat) : Nat := 16 * fn + i

/-- A BAR word as it reads: PF0 BAR0 is a 64 MiB 64-bit non-prefetchable BAR, and every other one reads as zero. -/
def barWord (fn i v : Nat) : Nat :=
  if fn ≠ 0 then 0
  else if i = 0 then v % 2 ^ 32 / 2 ^ 26 * 2 ^ 26 + 4
  else if i = 1 then v % 2 ^ 32
  else 0

def State.cfgRead (s : State) (fn : Nat) (reg : CfgReg) : List Byte :=
  match reg with
  | .ids => toLe 2 (s.rd .pdxVendorId) ++ toLe 2 (if fn = 0 then s.rdField .pdxDeviceIds 31 16 else s.rdField .pdxDeviceIds 15 0)
  | .serial => toLe 8 (s.rd .lcsUnitId)
  | .vfEnable => toLe 4 (if fn = 0 ∧ s.hep.vfEnable then 1 else 0)
  | .fnMask => toLe 4 (if (s.hep.fnMask.find fn).isSome then 1 else 0)
  | .slot => toLe 4 (if fn = 0 then s.rd .hepSlot else 0)
  | .command => toLe 4 (s.hep.header.get (headerKey fn 0) 0)
  | .bus => toLe 4 (s.hep.header.get (headerKey fn 1) 0)
  | .bar i => toLe 4 (barWord fn i (s.hep.header.get (headerKey fn (2 + i)) 0))
  | .other _ => toLe 4 s.free.toNat

def State.setHeader (s : State) (k v : Nat) : State := { s with hep := { s.hep with header := s.hep.header.put k v 0 } }

def State.cfgWrite (s : State) (fn : Nat) (reg : CfgReg) (v : Nat) : State :=
  match reg with
  | .ids => s
  | .serial => s
  | .vfEnable => if fn = 0 then { s with hep := { s.hep with vfEnable := v.testBit 0 } } else s
  | .fnMask =>
    if v.testBit 0 then { s with hep := { s.hep with fnMask := s.hep.fnMask.set fn () } }
    else ({ s with hep := { s.hep with fnMask := s.hep.fnMask.erase fn } } : State).msixFlush fn
  | .slot => if fn = 0 then s.slotWrite (v % 2 ^ 32) else s
  | .command => s.setHeader (headerKey fn 0) (v % 2 ^ 16)
  | .bus => s.setHeader (headerKey fn 1) (v % 2 ^ 8)
  | .bar i => if i < 2 then s.setHeader (headerKey fn (2 + i)) (v % 2 ^ 32) else s
  | .other _ => s

/-- A configuration request: Configuration Request Retry Status until READY (R474). -/
def State.cfgRequest (s : State) (fn : Nat) (reg : CfgReg) (w : Option Nat) : State :=
  if s.rd .hepLinkState ≠ linkUp then s
  else if s.rd .pdxReady ≠ 1 then s.emit (.completion fn 3 [])
  else if 32 < fn then s.emit (.completion fn cplUr [])
  else
    match w with
    | none => (s.emit (.completion fn cplOk (s.cfgRead fn reg))).drawn
    | some v => (s.cfgWrite fn reg v).emit (.completion fn cplOk [])

/-! ## The checkpoint export (R488) -/

/-- What chiplets answer to the snoops of an export: lines held in E, M or O by their PPA, with data. -/
def overlaySnoops (ppa : Nat) (snooped : List SnoopedLine) (d : List Byte) : List Byte :=
  snooped.foldl (fun (d : List Byte) (x : SnoopedLine) =>
    if x.ppa % 64 = 0 ∧ ppa ≤ x.ppa ∧ x.ppa + 64 ≤ ppa + d.length ∧ x.data.length = 64 then
      d.take (x.ppa - ppa) ++ x.data ++ d.drop (x.ppa - ppa + 64)
    else d) d

/-- A chiplet holds a line in E, M or O. -/
def State.lineHeldDirty (s : State) (p ppa : Nat) : Bool :=
  match s.place p ppa with
  | some x =>
    let st := (s.lineF (lineOf x.hpa)).st
    st == .e || st == .m || st == .o
  | none => false

/-- The granules of a run, one chunk record each, until one is refused by translation. -/
def State.exportRun : Nat → State → List SnoopedLine → State
  | 0, s, _ => s.exportEnd xpDone
  | f + 1, s, sn =>
    let x := s.hep.exp
    let p := x.ptn
    let ppa := (field x.run 58 31 + x.written) * Config.granule
    match s.keySlot (slotCkpt p), s.readSpan p ppa Config.granule with
    | some k, some (d, _) =>
      let h := chunkHeader 2 k.keyId (field x.runLabel 63 32) (field x.runLabel 31 0) x.written ppa x.salt
      let held := sn.filter (fun (l : SnoopedLine) => s.lineHeldDirty p l.ppa)
      let r := chunkRecord k.material x.salt h x.written (overlaySnoops ppa held d)
      let t := (s.emit (.hostWrite (x.runAddr + x.written * 0x100080) r)).setExport { x with written := x.written + 1 }
      State.exportRun f t sn
    | _, _ => s.exportEnd xpXlate

/-! ## The commands -/

/-- A write of HEP_INTR_RAISE (R477). -/
def execHepIntrRaise (p v : Nat) (s : State) : Host.Outcome State Fault Refusal := .next (s.bar0Write (p + 1) 0x10 8 (v % 512))

def execHostConfigRequest (fn : Nat) (reg : CfgReg) (w : Option Nat) (s : State) : Host.Outcome State Fault Refusal :=
  .next (s.cfgRequest fn reg w)

def execHostBar2Write (p off : Nat) (data : List Byte) (ep : Bool) (s : State) : Host.Outcome State Fault Refusal :=
  .next (s.hostArrive p { bar2 := true, off, data := some data, len := data.length, ep })

def execHostBar2Read (p off n : Nat) (s : State) : Host.Outcome State Fault Refusal :=
  .next (s.hostArrive p { bar2 := true, off, data := none, len := n, ep := false })

def execHostBar0Read (fn off n : Nat) (s : State) : Host.Outcome State Fault Refusal :=
  .next (if fn = 0 then s.pfArrive off n none else s.hostArrive (fn - 1) { bar2 := false, off, data := none, len := n, ep := false })

/-- A write of the operation word of a slot (R478). -/
def execHostSyncSlotWrite (p slot v : Nat) (s : State) : Host.Outcome State Fault Refusal :=
  .next (if slot < 128 then s.bar0Write (p + 1) (0x80010 + 0x1000 * slot) 8 v else s)

/-- A write of a mailbox's control word with GO (R514). -/
def execHostMailboxGo (fn v : Nat) (s : State) : Host.Outcome State Fault Refusal :=
  .next (s.bar0Write fn 0x1000 8 (setBit (v % 2 ^ 64) 63))

/-- A write of GO in the export block. -/
def execCkptExportGo (s : State) : Host.Outcome State Fault Refusal := .next (s.bar0Write 0 0x10018 8 1)

/-- The run reads, seals and writes its granules, and ends (R488). -/
def execCkptExportDone (snooped : List SnoopedLine) (s : State) : Host.Outcome State Fault Refusal :=
  .next (if s.hep.exp.status = xpRunning then State.exportRun (field s.hep.exp.run 30 15) s snooped else s)

/-- A write to an entry or register that has no row of its own (R17). -/
def State.registerWrite (s : State) (w : RegWrite) : State :=
  match w with
  | .entry role ptn index sub value =>
    if s.dictRuns then State.answered (s.itemWrite [] { role, ptn } index sub value []) else s
  | .pf0 off n v => s.bar0Write 0 off n v
  | .vf p off n v => s.bar0Write (p + 1) off n v

def execRegisterWrite (w : RegWrite) (s : State) : Host.Outcome State Fault Refusal := .next (s.registerWrite w)

end Sys2Proof.Machine
end

