-- ==== Sys2Proof/Machine/Pairing.lean ====
section
/-! DEFINITION. Pairs of packages: HELLO, the journal and mirror writes, heartbeats and takeover (R371–R377). -/

namespace Sys2Proof.Machine

/-! ## Identity and messages -/

def State.pair (s : State) : Pair := s.sox.pair
def State.setPair (s : State) (x : Pair) : State := { s with sox := { s.sox with pair := x } }

/-- The partner's package ID. -/
def State.partnerPkg (s : State) : Nat := if s.heldPkg % 2 = 0 then s.heldPkg + 1 else s.heldPkg - 1

/-- A packet between the members, on a port. -/
def State.pairFrame (s : State) (e type psn ext : Nat) (payload : List Byte) : State :=
  s.sendSft ({ port := e, type, dstPkg := s.partnerPkg, srcPtn := 0, dstPtn := 0, conn := 0, psn, kgen := 0, ctx := 0, cls := clsSys
               eom := false, ext, payload })

/-- REVISION of the hub's CAP (R288). -/
def hubRevision : Nat := 0xB0

/-- CTRL HELLO on every plane (R372). -/
def State.sendHello (s : State) : State :=
  let d := toLe 1 hubRevision ++ toLe 1 (s.rd .soxPairFmt) ++ toLe 1 (s.rd .soxPairRole) ++ toLe 8 (s.rd .beatPeriod) ++ toLe 8 (s.rd .beatEpoch)
  s.each s.portsUp (fun s e => s.pairFrame e sftCtrl 0 (ctrlExt ctrlHello 0 0) d)

def State.setRole (s : State) (role : Nat) : State := (s.wr .soxPairRole role).remeasureAll

/-- The pair link ends, and its key with it (R377). -/
def State.endPairLink (s : State) : State := (s.dropConn 0).destroyKey slotPair

/-- Both members are UNPAIRED after a refusal, which holds until a hub reset (R372). -/
def State.unpair (s : State) (reason : Nat) : State :=
  ((s.endPairLink.setRole pairUnpaired).wr .soxPairRefused reason).ev Ev.soxPairRefused none (Config.detail [reason])

/-- REASON codes of a refused pairing (R372, R442). -/
def pairStepping : Nat := 4
def pairFormat : Nat := 5
def pairBeat : Nat := 6
def pairOwner : Nat := 7

/-- The reason for which a HELLO is refused; 0 for none. -/
def State.helloReason (s : State) (rev fmt period epoch : Nat) (ownerOk : Bool) : Nat :=
  if rev ≠ hubRevision then pairStepping
  else if fmt ≠ s.rd .soxPairFmt then pairFormat
  else if period ≠ s.rd .beatPeriod ∨ epoch ≠ s.rd .beatEpoch then pairBeat
  else if !ownerOk then pairOwner
  else 0

/-- The role that a member takes when it pairs: it joins a running member as STANDBY (R375); at the first start A is ACTIVE (R371). -/
def State.pairedRole (s : State) (other : Nat) : Nat :=
  let mine := s.rd .soxPairRole
  if mine = pairActive ∨ mine = pairSolo then pairActive
  else if other = pairActive ∨ other = pairSolo then pairStandby
  else if other = pairStandby then pairActive
  else if s.rd .soxPairMode = 1 then pairActive else pairStandby

/-- A pairing HELLO. A member answers the first one with its own; further copies change nothing. -/
def State.helloRx (s : State) (f : Frame) (rev fmt role period epoch : Nat) (ownerOk : Bool) : State :=
  if s.rd .soxPairMode = 0 ∨ s.rd .soxPairRole = pairFenced ∨ s.rd .soxPairRefused ≠ 0 ∨ (s.conn 0).isSome then s
  else if f.srcPkg / 2 ≠ s.rd .soxPkgId / 2 then s.dropIsolation f
  else
    let r := s.helloReason rev fmt period epoch ownerOk
    if r ≠ 0 then (s.pairFrame f.port sftCtrl 0 (ctrlExt ctrlRefuse 0 r) []).unpair r
    else
      let c : Conn := { ptn := 0, pkg := f.srcPkg, rptn := 0, st := .open, window := s.rd .soxWindow }
      let t := (s.setRole (s.pairedRole role)).setConn 0 c
      let t := t.drawKey slotPair
      (t.setPair { t.pair with
        hello := true, heard := s.beat.number.toNat + 1, missed := 0, base := [], committed := [], journal := [], rxJournal := [], received := []
        mirrors := 0, mirrorsSent := 0, lagReported := false, rekey := false }).sendHello

/-! ## What is journalled (R373) -/

/-- Bytes that hold a value. -/
def bytesFor (v : Nat) : Nat := if v = 0 then 0 else Nat.log2 v / 8 + 1

/-- A register in a partition's block: its place in the block, and its value. -/
def regEntry (place v : Nat) : List Byte := toLe 3 place ++ toLe 2 (bytesFor v) ++ toLe (bytesFor v) v

/-- The registers of the configuration block of a partition. -/
def inBlock (p k : Nat) : Bool := decide (0x2000 + 0x40 * p ≤ k / 256) && decide (k / 256 < 0x2040 + 0x40 * p)

def State.ptnBlock (s : State) (p : Nat) : List Byte :=
  toLe 8 (s.rd .ptnPlots p) ++ (s.regs.where (fun k _ => inBlock p k)).flatMap (fun (e : Nat × Nat) => regEntry (e.1 - (0x2000 + 0x40 * p) * 256) e.2)

/-- A key slot as its plain bytes. -/
def KeySlot.bytes (x : KeySlot) : List Byte :=
  toLe 32 x.material ++ toLe 4 x.keyId ++ toLe 1 x.gen ++ toLe 8 x.switchBeat ++ toLe 4 x.flags
    ++ x.terms.flatMap (fun (t : PolicyTerm) => toLe 2 t.index ++ toLe 1 t.op ++ toLe 64 t.value)

def termsOf : Nat → List Byte → List PolicyTerm
  | 0, _ => []
  | n + 1, b =>
    if b.length < 67 then []
    else { index := leNat (b.take 2), op := leNat ((b.drop 2).take 1), value := leNat ((b.drop 3).take 64) } :: termsOf n (b.drop 67)

def keySlotOf (b : List Byte) : KeySlot :=
  { material := leNat (b.take 32), keyId := leNat ((b.drop 32).take 4), gen := leNat ((b.drop 36).take 1)
    switchBeat := leNat ((b.drop 37).take 8), flags := leNat ((b.drop 45).take 4), terms := termsOf b.length (b.drop 49) }

/-- A home granule entry's 48 bits (R245). -/
def Hgt.word (e : Hgt) : Nat :=
  e.state.code * 2 ^ 45 + e.owner % 32 * 2 ^ 40 + e.kgen % 4 * 2 ^ 38 + (if e.mac then 2 ^ 37 else 0) + (if e.rowrep then 2 ^ 36 else 0)
    + (if e.rlive then 2 ^ 35 else 0) + e.sample.toNat * 2 ^ 19 + e.fwd % 2 ^ 19

def hgtOfWord (v : Nat) : Hgt :=
  { state := ([.free, .pool, .mapped, .locked, .forward, .offline, .reserve, .spare] : List HgtState).getD (field v 47 45) .free
    owner := field v 44 40, kgen := field v 39 38, mac := v.testBit 37, rowrep := v.testBit 36, rlive := v.testBit 35
    sample := BitVec.ofNat 16 (field v 34 19), fwd := field v 18 0 }

def dirOfWord (v : Nat) : DirEntry :=
  { valid := v.testBit 127, owner := field v 126 122, hgran := field v 121 103, tgran := field v 102 84, sfmt := field v 83 76
    kgen := field v 75 74, mstate := ([.idle, .declared, .copy, .locked, .forward] : List MState).getD (field v 73 71) .idle
    pin := v.testBit 70, hintEn := v.testBit 69, hintStack := field v 68 66, rowrep := v.testBit 65
    heat := (List.range 8).map (fun k => field v (4 * k + 35) (4 * k + 32)), lastMove := BitVec.ofNat 16 (field v 31 16) }

/-- Parameters that are journalled: those that some role writes, but for those of a hub reset and of a partition's block. -/
def journalled (k : Nat) : Bool :=
  !(decide (0x2000 ≤ k / 256) && decide (k / 256 < 0x2800)) &&
    (match dictFind (k / 256) (k % 256) with
     | some t => t.e.acc.any Acc.writes && t.e.apply != .reset && t.e.apply != .none
     | none => false)

/-- Slots that travel in the journal: neither the hub's nor SCRUB (R442). -/
def keyJournalled (k : Nat) : Bool := decide (k < 512) && k % 16 != 14

/-- The journalled items as they stand. -/
def State.jItems (s : State) : List JEntry :=
  let item (kind key : Nat) (content : List Byte) : JEntry := { kind, key, content }
  s.jay.dir.map (fun (e : Nat × DirEntry) => item 1 e.1 (toLe 16 e.2.word))
    ++ s.jay.hgt.map (fun (e : Nat × Hgt) => item 2 e.1 (toLe 6 e.2.word))
    ++ s.sync.objs.map (fun (e : Nat × SyncObj) => item 3 e.1 (toLe 8 e.2.value.toNat))
    ++ ((List.range 32).filter s.formed).map (fun p => item 4 p (s.ptnBlock p))
    ++ (s.sec.slots.where (fun k _ => keyJournalled k)).map (fun (e : Nat × KeySlot) => item 5 e.1 e.2.bytes)
    ++ (s.qos.active.map (fun (e : Nat × Nat) => e.1 / 128)).eraseDups.map (fun sel => item 6 sel (toLe 512 (tableBytes (s.slotWord sel))))
    ++ (s.regs.where (fun k _ => journalled k)).map (fun (e : Nat × Nat) => item 7 e.1 (toLe (bytesFor e.2) e.2))
    ++ (s.sox.conns.where (fun n c => n != 0 && (c.st == .open || c.st == .closing))).map (fun (e : Nat × Conn) =>
      item 8 e.1 (toLe 4 e.2.pkg ++ toLe 1 e.2.ptn ++ toLe 1 e.2.rptn ++ toLe 4 e.2.peer))

/-- Where an item is kept. -/
def JEntry.place (e : JEntry) : Nat := e.kind * 2 ^ 40 + e.key

/-- Items changed since the last journal; one that is gone has no content. -/
def jDiff (base : AMap (List Byte)) (items : List JEntry) : List JEntry :=
  items.filter (fun e => base.find e.place != some e.content)
    ++ (base.filter (fun (b : Nat × List Byte) => !items.any (fun e => e.place == b.1))).map (fun (b : Nat × List Byte) =>
      { kind := b.1 / 2 ^ 40, key := b.1 % 2 ^ 40, content := [] })

/-- A key slot in sealed form under the PAIR key, or a sealed form opened (R442). -/
def State.sealKey (s : State) (beat slot : Nat) (b : List Byte) : List Byte :=
  let m := ((s.keySlot slotPair).map KeySlot.material).getD 0
  b.zipIdx.map (fun (e : Byte × Nat) => e.1 ^^^ Config.keyStream m beat slot e.2)

def State.sealEntry (s : State) (beat : Nat) (e : JEntry) : JEntry :=
  if e.kind = 5 ∧ ¬ e.content.isEmpty then
    let m := ((s.keySlot slotPair).map KeySlot.material).getD 0
    { e with content := s.sealKey beat e.key e.content ++ toLe 16 (Config.chunkTag [m, beat, e.key, s.rd .soxPairFmt, leNat e.content]) }
  else e

def JEntry.bytes (e : JEntry) : List Byte :=
  toLe 8 (e.kind % 256 * 2 ^ 56 + e.content.length % 65536 * 2 ^ 40 + e.key % 2 ^ 40) ++ e.content

/-- The oldest entries that a budget in bytes takes, and the others. -/
def takeBudget : Nat → List (Nat × JEntry) → List JEntry × List (Nat × JEntry)
  | _, [] => ([], [])
  | n, e :: l =>
    if e.2.bytes.length ≤ n then
      let r := takeBudget (n - e.2.bytes.length) l
      (e.2 :: r.1, r.2)
    else ([], e :: l)

/-! ## The ACTIVE member (R373, R374) -/

/-- Mirror writes sent under the window of the pair link. -/
def State.mirrorDrain (s : State) (c : Conn) : State :=
  let room := c.window - c.unacked.length - c.queue.length
  let go := s.pair.mirrorq.take room
  let t := s.setPair { s.pair with mirrorq := s.pair.mirrorq.drop room, mirrorsSent := s.pair.mirrorsSent + go.length }
  let ks := go.map (fun (w : MirrorW) =>
    ({ type := sftMirror, lab := { ptn := w.ptn, ctx := 0, cls := 4 }, eom := true, ext := w.hpa % 2 ^ 64 * 2 ^ 36, payload := w.data } : Packet))
  State.pumpConn (ks.length + c.queue.length) (t.setConn 0 { c with queue := c.queue ++ ks }) 0

/-- The journal of the beat that closes, and what the budget sends of it. -/
def State.journalEdge (s : State) : State :=
  match s.conn 0 with
  | none => s
  | some c =>
    if s.rd .soxPairRole ≠ pairActive then s
    else
      let n := s.beat.number.toNat
      let s := s.mirrorDrain c
      let x := s.pair
      let items := s.jItems
      let es := (jDiff x.base items).map (s.sealEntry n)
      let fin : JEntry := { kind := 9, key := n, content := toLe 8 es.length ++ toLe 8 x.mirrorsSent }
      let q := takeBudget (s.rd .soxJournalMax) (x.journal ++ (es ++ [fin]).map (fun e => (n, e)))
      let lag := decide (8 < n - ((q.2.head?).map Prod.fst).getD n)
      let base := items.foldl (fun (m : AMap (List Byte)) e => m.set e.place e.content) []
      let s := s.setPair { x with base, journal := q.2, mirrorsSent := 0, lagReported := lag }
      let s := if lag ∧ ¬ x.lagReported then s.ev Ev.soxJournalLag else s
      let d := q.1.flatMap JEntry.bytes
      if d.isEmpty then s else s.sendMsg 0 sftJournal { ptn := 0, ctx := 0, cls := clsSys } d

/-! ## The STANDBY (R374) -/

/-- The entries that a journal's bytes hold whole, and the rest. -/
def parseJournal : Nat → List Byte → List JEntry × List Byte
  | 0, b => ([], b)
  | f + 1, b =>
    let h := leNat (b.take 8)
    let len := field h 55 40
    if b.length < 8 + len then ([], b)
    else
      let r := parseJournal f (b.drop (8 + len))
      ({ kind := field h 63 56, key := field h 39 0, content := (b.drop 8).take len } :: r.1, r.2)

/-- An entry kept: the state of the committed beat. -/
def State.commitEntry (s : State) (beat : Nat) (m : AMap (List Byte)) (e : JEntry) : AMap (List Byte) :=
  if e.kind = 9 then m
  else if e.content.isEmpty then m.erase e.place
  else if e.kind = 5 then m.set e.place (s.sealKey beat e.key (e.content.take (e.content.length - 16)))
  else m.set e.place e.content

/-- Beats whose entries and MIRROR packets have all arrived are committed, each acknowledged with HELLO_ACK. -/
def State.commitBeats : Nat → State → State
  | 0, s => s
  | f + 1, s =>
    let x := s.pair
    match x.received.find? (fun e => e.kind == 9) with
    | none => s
    | some fin =>
      let k := leNat ((fin.content.drop 8).take 8)
      if x.mirrors < k then s
      else
        let now := x.received.takeWhile (fun e => e.kind != 9)
        let s := s.setPair { x with
          committed := now.foldl (s.commitEntry fin.key) x.committed
          received := x.received.drop (now.length + 1), mirrors := x.mirrors - k }
        let s := s.wr .soxCommittedBeat fin.key
        State.commitBeats f (match s.conn 0 with
          | some c => s.sendCtl 0 c 2 sftCtrl (ctrlExt ctrlHelloAck 0 0) (toLe 8 fin.key)
          | none => s)

/-- The journal's bytes that have come are parsed. -/
def State.journalIn (s : State) : State :=
  let x := s.pair
  let r := parseJournal (x.rxJournal.length + 1) x.rxJournal
  let l := x.received ++ r.1
  State.commitBeats l.length (s.setPair { x with received := l, rxJournal := r.2 })

/-! ## Takeover (R375) -/

/-- The registers of a partition's block set. -/
def State.setBlock : Nat → State → Nat → List Byte → State
  | 0, s, _, _ => s
  | f + 1, s, p, b =>
    let len := leNat ((b.drop 3).take 2)
    if b.length < 5 + len then s
    else
      let k := (0x2000 + 0x40 * p) * 256 + leNat (b.take 3)
      let v := leNat ((b.drop 5).take len)
      let s := match dictFind (k / 256) (k % 256) with
        | some t => s.wr t.e.reg v t.u t.sub
        | none => s
      State.setBlock f s p (b.drop (5 + len))

/-- An item of the committed beat put into its place; a connection is answered RESET. -/
def State.install (s : State) (place : Nat) (d : List Byte) : State :=
  let key := place % 2 ^ 40
  match place / 2 ^ 40 with
  | 1 => { s with jay := { s.jay with dir := s.jay.dir.put key (dirOfWord (leNat d)) {} } }
  | 2 => s.setHgt key (hgtOfWord (leNat d))
  | 3 => s.setObj key { s.obj key with value := BitVec.ofNat 64 (leNat d) }
  | 4 =>
    let plots := bitsOf (leNat (d.take 8)) 64
    let t : State := { s with plots := plots.foldl (fun (m : AMap Nat) x => m.set x key) s.plots }
    State.setBlock d.length t key (d.drop 8)
  | 5 => s.setKey key (keySlotOf d)
  | 6 =>
    let act := (List.range 128).foldl (fun (m : AMap Nat) i =>
      m.put (128 * key + i) (leNat ((d.drop (4 * i)).take 4)) (slotReset key i)) s.qos.active
    { s with qos := { s.qos with active := act } }
  | 7 => match dictFind (key / 256) (key % 256) with
    | some t => s.wr t.e.reg (leNat d) t.u t.sub
    | none => s
  | 8 =>
    match s.portsUp.head? with
    | some e => s.sendSft (
      { port := e, type := sftCtrl, dstPkg := leNat (d.take 4), srcPtn := leNat ((d.drop 4).take 1), dstPtn := leNat ((d.drop 5).take 1)
        conn := leNat ((d.drop 6).take 4), psn := 0, kgen := s.sendGen (leNat ((d.drop 4).take 1)), ctx := 0, cls := clsSys, eom := false
        ext := ctrlExt ctrlReset 0 0, payload := [] })
    | none => s
  | _ => s

/-- A member has its quorum of ports. -/
def State.quorum (s : State) : Bool := decide (s.rd .soxPairQuorum ≤ s.portsUp.length)

/-- The STANDBY takes over with the state of the committed beat. -/
def State.takeOver (s : State) : State :=
  let l := s.pair.committed
  let s := s.endPairLink.setRole pairActive
  let s := s.each s.portsUp (fun s e => s.emit (.announce e s.heldPkg))
  let s := s.each l (fun s (e : Nat × List Byte) => s.install e.1 e.2)
  let s := s.each ((List.range 32).filter s.formed) (fun s p => s.resetPtn p (if s.rd .soxMirror 0 p = 1 then .warm else .full) true)
  ((s.setPair { s.pair with committed := [], received := [], rxJournal := [] }).bump .soxTakeovers).ev Ev.soxTakeover

/-- The reaction to the third consecutive missed beat. -/
def State.heartbeatMiss (s : State) : State :=
  let role := s.rd .soxPairRole
  if (role ≠ pairActive ∧ role ≠ pairStandby) ∨ s.pair.missed < 3 ∨ (s.conn 0).isNone then s
  else if ¬ s.quorum then (s.setRole pairFenced).ev Ev.soxFenced
  else if role = pairStandby then s.takeOver
  else s.endPairLink.setRole pairSolo

/-! ## Heartbeats and edges -/

/-- HEARTBEAT on every usable plane (R375, R377), with the number of the beat. -/
def State.sendHeartbeats (s : State) (beat : Nat) : State :=
  match s.conn 0 with
  | none => s
  | some _ =>
    s.each s.portsUp (fun s e =>
      match s.conn 0 with
      | some c =>
        let q := c.takePsn 3
        (s.setConn 0 q.2).pairFrame e sftHeartbeat q.1 0 (toLe 8 beat)
      | none => s)

/-- The beat that closes is missed if no HEARTBEAT of it has come. -/
def State.countMissed (s : State) : State :=
  if (s.conn 0).isNone then s
  else s.setPair { s.pair with missed := if s.beat.number.toNat < s.pair.heard then 0 else s.pair.missed + 1 }

/-- Every space restarts at 0 under the new keys (R377). -/
def State.restartSpaces (s : State) : State :=
  match s.conn 0 with
  | some c =>
    if s.pair.rekey ∧ c.unacked.isEmpty ∧ c.held.isEmpty then
      let t := s.setConn 0 { c with psn := [0, 0, 0, 0], rx := 0, owed := 0 }
      (t.setPair { t.pair with rekey := false }).drawKey slotPair
    else s
  | none => s

/-- What a pair's member does at an edge: missed beats, the journal, HELLO after the first edge in LOCKED. -/
def State.pairEdge (s : State) : State :=
  if s.rd .soxPairMode = 0 then s
  else
    let s := s.countMissed.journalEdge.restartSpaces
    if s.rd .beatAlignState = alignLocked ∧ ¬ s.pair.hello ∧ s.rd .soxPairRefused = 0 then (s.setPair { s.pair with hello := true }).sendHello else s

/-! ## The commands -/

/-- REFUSE: of an OPEN, or of pairing. -/
def execSftCtrlRefuse (f : Frame) (s : State) : Host.Outcome State Fault Refusal :=
  .next (if !isCtrl f ctrlRefuse then s
    else if f.conn = 0 ∧ pairStepping ≤ field f.ext 67 60 then
      s.frame12 f (fun s =>
        if s.rd .soxPairMode = 0 ∨ s.rd .soxPairRefused ≠ 0 ∨ f.srcPkg ≠ s.partnerPkg then s else s.unpair (field f.ext 67 60))
    else s.ctrlRefused f)

def execSftCtrlHello (f : Frame) (rev fmt role period epoch : Nat) (ownerOk : Bool) (s : State) : Host.Outcome State Fault Refusal :=
  .next (if isCtrl f ctrlHello then s.frame12 f (fun s => s.helloRx f rev fmt role period epoch ownerOk) else s)

def execSftCtrlHelloAck (f : Frame) (s : State) : Host.Outcome State Fault Refusal :=
  .next (if isCtrl f ctrlHelloAck then
      s.frameOn f (fun s _ => if s.rd .soxPairRole = pairActive then s.wr .soxCommittedBeat (leNat (f.payload.take 8)) else s)
    else s)

def execSftJournal (f : Frame) (s : State) : Host.Outcome State Fault Refusal :=
  .next (if f.type = sftJournal then
      s.frameOn f (fun s c => if s.rd .soxPairRole = pairStandby then (s.rxOrdered 0 c f).journalIn else s)
    else s)

def execSftMirror (f : Frame) (s : State) : Host.Outcome State Fault Refusal :=
  .next (if f.type = sftMirror then
      s.frameOn f (fun s c => if s.rd .soxPairRole = pairStandby then (s.rxOrdered 0 c f).journalIn else s)
    else s)

def execSftHeartbeat (f : Frame) (s : State) : Host.Outcome State Fault Refusal :=
  .next (if f.type = sftHeartbeat then
      s.frameOn f (fun s _ => s.setPair { s.pair with heard := max s.pair.heard (leNat (f.payload.take 8) + 1) })
    else s)

def execPairHeartbeatMiss (s : State) : Host.Outcome State Fault Refusal := .next s.heartbeatMiss

/-- A space of the pair link has reached 2^48 − 2^16 (R377). -/
def execPairRekey (s : State) : Host.Outcome State Fault Refusal :=
  .next (match s.conn 0 with
    | some c =>
      if c.psn.any (fun v => decide (2 ^ 48 - 2 ^ 16 ≤ v)) ∧ ¬ s.pair.rekey then
        (s.setPair { s.pair with rekey := true }).sendHello.restartSpaces
      else s
    | none => s)

end Sys2Proof.Machine
end

