-- ==== Sys2Proof/Machine/Edge.lean ====
section
/-! DEFINITION. The beat's edge and its cutoff: what every block does at them, in the order of R57 and R31, and the thermal
reactions of the stacks (R226–R229, R401, R607, R608). -/

namespace Sys2Proof.Machine

/-! ## Overruns (R54, R55) -/

def kindCode : DeclKind → Nat
  | .tileWork _ _ => 0
  | .switch _ => 1
  | .step _ _ => 2
  | .snapshot _ => 3
  | .migration _ => 4
  | .thermal => 5

/-- The group whose step in progress is an item. -/
def State.groupOfItem (s : State) (p id : Nat) : Option Nat :=
  (List.range 16).find? (fun g => match (s.group p g).coll with
    | some c => c.item == some id
    | none => false)

/-- Counted and reported. -/
def State.overrunEvent (s : State) (i : Item) : State :=
  let d := Config.detail [kindCode i.decl.kind, i.decl.ctx, s.beat.number.toNat, i.id]
  match i.decl.ptn with
  | some p => (s.bump .beatOverruns 0 p).ev Ev.beatOverrun (some p) d
  | none => (s.bump .beatHubOverruns).ev Ev.beatOverrun none d

/-- A step or a snapshot that overruns fails. -/
def State.overrunStep (s : State) (p id : Nat) : State :=
  match s.groupOfItem p id with
  | some g => (s.raiseAbort p g csOverrun 0).collEnd p g
  | none => s

/-- What an overrun does to its work. -/
def State.overrunAct (s : State) (i : Item) : State :=
  match i.decl.kind, i.decl.ptn with
  | .tileWork q idx, some p =>
    if i.decl.abort then
      match (s.wq p q).descs.find? (fun d => d.idx == idx) with
      | some d => s.abortDesc p q true d
      | none => s
    else s.mapDesc p q idx (fun d => { d with overrun := true })
  | .step _ _, some p => s.overrunStep p i.id
  | .snapshot _, some p => s.overrunStep p i.id
  | .migration src, _ => s.cancelMigs (fun m => m.src == src)
  | _, _ => s

def State.overrun (s : State) (i : Item) : State := (s.overrunEvent i).overrunAct i

/-- The items of the closing beat: overruns are raised, and a stretched step's item goes on to the next edge. -/
def State.closeItems (s : State) : State :=
  let late := s.beat.items.filter (fun i => !i.done && decide (i.edges ≤ 1))
  let kept := (s.beat.items.filter (fun i => !i.done && decide (1 < i.edges))).map (fun i => { i with edges := 1 })
  let t := s.each late State.overrun
  { t with beat := { t.beat with items := kept } }

/-! ## Lost slots (R32, R56, R283) -/

/-- The shares of link slots that retrains of a site cost, rounded down. -/
def State.closeShares (s : State) (k : Nat) : State :=
  let x := s.site k
  let u := popCount (s.rd .uciModules k) 16
  let t := if u = 0 then s
    else s.each x.lostShares (fun s (e : Nat × Nat) => if e.2 / u = 0 then s else s.loseSlots e.1 (e.2 / u))
  if x.lostShares.isEmpty then s else t.setSite k { x with lostShares := [] }

def State.reportLost (s : State) : State :=
  let s := s.each (List.range 8) State.closeShares
  let l := s.beat.lost
  let t : State := { s with beat := { s.beat with lost := [] } }
  t.each l (fun t (e : Nat × Nat) =>
    if e.2 = 0 then t else t.ev Ev.beatSlotLoss (some e.1) (Config.detail [s.beat.number.toNat, e.2]))

/-! ## The beat number and BEAT-class items (R43, R48, R59) -/

/-- The number of the beat that the edge opens. -/
def State.nextNumber (s : State) : BitVec 48 :=
  let n := s.comingBeat
  if n < 2 ^ 48 then BitVec.ofNat 48 n else Config.beatEnd

def State.advance (s : State) : State :=
  { s with beat := { s.beat with number := s.nextNumber, round := 0, cutoff := false } }

/-- The counts of stochastic words of a partition's tiles start again (R123). -/
def State.clearSeq (s : State) (p : Nat) : State :=
  let ts := s.tilesOf p
  { s with tile := { s.tile with seq := s.tile.seq.where (fun t _ => !ts.contains t) } }

/-- A BEAT-class value takes effect. -/
def State.applyItem (s : State) (e : Nat × Nat) : State :=
  match dictFind (e.1 / 256) (e.1 % 256) with
  | some t =>
    let s := s.wr t.e.reg e.2 t.u t.sub
    if t.e.reg = Reg.ariSrKey ∨ t.e.reg = Reg.ariSrEpoch then s.clearSeq t.u else s
  | none => s

/-- A waiting value applies at this edge: a key or an epoch only where its context runs in the beat that opens (R139). -/
def State.appliesNow (s : State) (k : Nat) : Bool :=
  match dictFind (k / 256) (k % 256) with
  | some t => (t.e.reg != Reg.ariSrKey && t.e.reg != Reg.ariSrEpoch) || (s.ptnState t.u == ptnSealed && s.ctxNext t.u == t.sub)
  | none => true

/-- Every BEAT-class value that waits for this edge; those written after the cutoff wait for the next, and the keys and epochs
of contexts that do not run for an edge at which they do. -/
def State.applyItems (s : State) : State :=
  let waits := s.dict.shadow.where (fun k _ => !s.appliesNow k)
  let t : State := { s with dict := { s.dict with
      shadow := s.dict.later.foldl (fun m (e : Nat × Nat) => AMap.set m e.1 e.2) waits, later := [] } }
  t.each (s.dict.shadow.where (fun k _ => s.appliesNow k)) State.applyItem

/-- The edge applies a lower package budget (R612). -/
def State.budgetFalls (s : State) : Bool := decide (s.coming .pwrPkgBudget < s.rd .pwrPkgBudget)

/-! ## Stacks (R226–R229, R401, R607, R608) -/

/-- Refresh doubled by a reading, or back at the base rate. -/
def State.refreshEdge (s : State) (h : Nat) (r : Int) : State :=
  let hi : Int := s.rd .hbmTempHigh
  if hi ≤ r then s.wr .hbmRefreshRate 1 0 h
  else if r ≤ hi - s.rd .hbmTempHyst then s.wr .hbmRefreshRate 0 0 h
  else s

/-- The throttle level after a reading, under the hardware policy. -/
def State.levelAfter (s : State) (h : Nat) (r : Option Int) : Nat :=
  let now := s.rd .hbmThrottleLevel 0 h
  let at' : Int := s.rd .hbmTempThrottle
  match r with
  | some r => if at' ≤ r then min 3 (now + 1) else if r ≤ at' - s.rd .hbmTempHyst then now - 1 else now
  | none => now

/-- The host's decision for a stack at this edge, while its reading is below the critical threshold. -/
def State.hostSays (s : State) (h : Nat) (r : Option Int) : Option Nat :=
  let hot : Bool := match r with
    | some r => decide ((s.rd .hbmTempCrit : Int) ≤ r)
    | none => false
  if s.rd .pwrThermMode = 1 ∧ !hot then s.decided h else none

/-- Throttle, drain and stretches of a stack. -/
def State.throttleEdge (s : State) (h : Nat) (r : Option Int) : State :=
  let said := s.hostSays h r
  let level := match said with
    | some b => b % 4
    | none => s.levelAfter h r
  let drain := match said with
    | some b => field b 5 2
    | none => if 1 ≤ level then s.rd .pwrDrainGranules else 0
  let on : Bool := match said with
    | some b => b.testBit 6
    | none => true
  let t := s.wr .hbmThrottleLevel level 0 h
  { t with
    jay := { t.jay with drains := t.jay.drains.put h drain 0 }
    power := { t.power with stretch := if on then setBit (clearBit t.power.stretch h) h else clearBit t.power.stretch h } }

/-- A stack run at speed ends when its stack becomes critical (R594). -/
def State.endRunOn (s : State) (h : Nat) : State :=
  match s.test.ic with
  | some sel => if sel.testBit 15 ∧ field sel 14 12 = h ∧ field (s.rd .bstIcCtrl) 28 27 = 2 then s.abortPattern else s
  | none => s

/-- A critical reading quiesces a stack in service; the steps that it serves abort. -/
def State.critEdge (s : State) (h : Nat) : State :=
  let s := (s.endRunOn h).setTemp h { s.temp h with cool := 0 }
  if s.stackUp h then (s.quiesce h).thermalAbort h else s

/-- A quiesced stack resumes after enough cool readings (R227, R229). -/
def State.coolEdge (s : State) (h : Nat) (r : Int) : State :=
  if s.rd .hbmStackState 0 h ≠ stackQuiesced ∨ !(s.rd .hbmStacksPresent).testBit h then s
  else
    let x := s.temp h
    let n := if r ≤ (s.rd .hbmTempCrit : Int) - s.rd .hbmTempHyst then x.cool + 1 else 0
    if s.rd .hbmResumeBeats ≤ n then (s.setTemp h { x with cool := 0, resuming := true }).emit (.selfRefresh h false)
    else s.setTemp h { x with cool := n }

/-- A stack's thermal reactions at an edge. During the recalibration of a resume none acts. -/
def State.stackEdge (s : State) (h : Nat) : State :=
  let x := s.temp h
  if x.off ∨ x.resuming then s
  else
    let s := s.setTemp h { x with reading := none }
    let s := match x.reading with
      | some r => s.refreshEdge h r
      | none => s
    let s := s.throttleEdge h x.reading
    match x.reading with
    | some r => if (s.rd .hbmTempCrit : Int) ≤ r then s.critEdge h else s.coolEdge h r
    | none => s

/-- Redirects in force (R402): stacks throttled or quiesced. -/
def State.redirectEdge (s : State) : State :=
  { s with jay := { s.jay with redirect := (List.range 8).filter (fun h =>
      decide (1 ≤ s.rd .hbmThrottleLevel 0 h) || s.rd .hbmStackState 0 h == stackQuiesced) } }

/-- Every stack's reactions, and what they ask of the host. -/
def State.thermalEdge (s : State) : State :=
  let s := (s.each (List.range 8) State.stackEdge).redirectEdge
  let s := if s.decisionMissed then s.ev Ev.pwrThermMiss else s
  s.askHost

/-! ## Jay (R253, R258, R266) -/

def decay (k c : Nat) : Nat := c - (c + 2 ^ k - 1) / 2 ^ k

def State.heatDecay (s : State) : State :=
  let k := s.rd .jayDecay
  let dir : AMap DirEntry := (s.jay.dir.mapVal (fun _ (e : DirEntry) => { e with heat := e.heat.map (decay k) })).where (fun _ e => e != {})
  { s with jay := { s.jay with dir } }

/-- A declared migration whose item was cancelled at this edge does not start. -/
def State.migLives (s : State) (i : Item) : Bool :=
  match i.decl.kind with
  | .migration src => (s.migOf src).isSome
  | _ => true

/-! ## Admitted items start (R57) -/

/-- A switch begins: a context switched in again takes the next EPOCH, unless a write of EPOCH applied at this edge (R123, R413). -/
def State.switchStart (s : State) (p dst id : Nat) (written : Bool) : State :=
  let again := (s.ptn p).saved.contains dst
  let s := s.beginSwitch p dst (some id)
  if again then
    let s := if written then s else s.wr .ariSrEpoch (s.rd .ariSrEpoch p dst + 1) p dst
    s.clearSeq p
  else s

/-- An admitted item starts. `keys` are the registers written at this edge. -/
def State.startItem (keys : List Nat) (s : State) (i : Item) : State :=
  match i.decl.kind, i.decl.ptn with
  | .switch dst, some p => s.switchStart p dst i.id (keys.contains (Reg.ariSrEpoch.key p dst))
  | .tileWork q idx, some p => s.mapDesc p q idx (fun d => { d with open' := true })
  | .migration src, _ => s.startMig src
  | _, _ => s

/-! ## Stretches (R60, R61) -/

/-- A group's stretch at the edge that opens beat `now`. -/
def State.stretchEdge (s : State) (p g : Nat) : State :=
  let now := s.beat.number.toNat
  let x := s.group p g
  match x.grant with
  | some e =>
    if e = now + 1 + s.beat.skip then s.extendStep p g
    else if e < now then s.setColGroup p g { x with grant := none, calm := 1 }
    else s
  | none =>
    if x.run = 0 then s
    else if 7 ≤ x.calm then s.setColGroup p g { x with run := 0, calm := 0 }
    else s.setColGroup p g { x with calm := x.calm + 1 }

/-- Groups whose step is stretched into the beat that opens. -/
def State.stretchedGroups (s : State) : Nat :=
  (s.beat.items.filter (fun i => isStep i.decl && s.col.groups.any (fun (e : Nat × Group) =>
    e.2.grant == some s.beat.number.toNat && (match e.2.coll with
      | some c => c.item == some i.id
      | none => false)))).length

/-! ## Strands, connections, services, sites -/

/-- Strands that wait for the edge (R92). -/
def State.wakeEdge (s : State) : State :=
  { s with tile := { s.tile with strands := s.tile.strands.mapVal (fun k (x : Strand) =>
      if x.st = .waitMem ∧ x.limit = none then x.complete (stageOf (s.stageWord (k / 512) x.stage)) else x) } }

/-- FAILED connections are CLOSED (R370). -/
def State.dropFailed (s : State) : State :=
  s.each ((s.sox.conns.where (fun _ c => c.st == .failed)).keys) State.dropConn

/-- A probe on each plane that stopped being usable for a connection (R363): a copy of a packet not acknowledged. -/
def State.probe (s : State) (n : Nat) : State :=
  match s.conn n with
  | none => s
  | some c =>
    let planes := c.bad.filter s.portUp
    s.each (planes.zip c.unacked) (fun s (e : Nat × Nat × Unacked) =>
      match s.conn n with
      | some c =>
        let u := { e.2.2 with plane := e.1 }
        (s.setConn n { c with unacked := c.unacked.set e.2.1 u }).wirePacket c e.1 e.2.1 u.kgen u.pkt
      | none => s)

/-- Runs of the checkpoint service that a policy ended (R438). -/
def State.endCkpts (s : State) : State :=
  s.each s.ckpt (fun s (e : Nat × Ckpt) => if e.2.ends = 0 then s else s.ckptEnd e.1 e.2 false)

def State.soxEdge (s : State) : State :=
  let s := s.dropFailed
  let s := s.each s.sox.conns.keys State.probe
  let s := s.sendHeartbeats s.beat.number.toNat
  { s with sox := { s.sox with mgmt := 0 } }

/-- The host is present: the link is up and the slot holds a module (R38). -/
def State.seeHost (s : State) : State :=
  { s with beat := { s.beat with hostSeen := s.rd .hepLinkState == linkUp && s.slotBit slotPresent } }

/-! ## The edge -/

/-- Thermal reactions, then guarantees, then migrations, as R31 ranks them. -/
def State.startItems (s : State) (keys : List Nat) : State :=
  let l := s.beat.admitted
  let s : State := { s with beat := { s.beat with items := s.beat.items ++ l.filter s.migLives, admitted := [] } }
  let s := s.each (List.range 32) State.ptnEdge
  let s := s.each (List.range 32) State.rotateEdge
  let moves (i : Item) : Bool := match i.decl.kind with
    | .migration _ => true
    | _ => false
  let s := s.each (l.filter (fun i => !moves i)) (State.startItem keys)
  let s := s.each (List.range 32) State.schedule
  let s := s.each s.col.groups.keys (fun s k => s.collAdmit (k / 16) (k % 16))
  s.each (l.filter (fun i => moves i && s.migLives i)) (State.startItem keys)

/-- What follows the start of the items. -/
def State.edgeRest (s : State) (lowered : Bool) : State :=
  let s := s.each s.col.groups.keys (fun s k => s.stretchEdge (k / 16) (k % 16))
  let s := s.wr .beatStretchActive s.stretchedGroups
  let s := s.wakeEdge
  let s := (s.each (List.range 32) State.grantBeat).each (List.range 32) State.grantStart
  let s := (s.protect.clockEdge).offers lowered
  let s := s.heatDecay
  let s := s.each (List.range 8) State.rowFills
  let s := s.each ((List.range 32).filter s.hostAssisted) State.postCandidates
  let s := (s.each (List.range 32) State.svcDrain).endCkpts
  let s := (s.settleResets.settleSites).each (List.range 8) State.htlUnfence
  ((s.soxEdge.seeHost).hostTurnsAll).remeasureAll

/-- After a FATAL-HUB the beat goes on counting, and nothing starts (R555). -/
def State.edgeSafe (s : State) (offset : Option Int) : State :=
  let s := s.advance.applyItems.align offset
  { s with beat := { s.beat with items := [], admitted := [] } }

/-- An edge: the offset measured at its cycle 0, and the draw of the beat that it closes (R45, R57, R606). -/
def State.edge (s : State) (offset : Option Int) (draw : Nat) : State :=
  if s.rd .pdxReady ≠ 1 then s
  else
    let s := s.wr .pwrHubDraw draw
    if s.owl.fatalHub then s.edgeSafe offset
    else
      let s := (s.closeItems.reportLost).pairEdge
      let lowered := s.budgetFalls
      let keys := s.dict.shadow.keys
      let s := (s.advance.applyTables.applyItems).align offset
      ((s.thermalEdge).startItems keys).edgeRest lowered

/-! ## The cutoff -/

/-- The last temperature reading of a stack's beat (R226). -/
def State.readStack (s : State) (h : Nat) (r : Option Int) : State :=
  let x := s.temp h
  let here := s.stackUp h ∨ s.rd .hbmStackState 0 h = stackQuiesced
  if ¬ here ∨ x.off then s
  else
    match r with
    | some v => (s.setTemp h { x with missed := 0, reading := some v }).wr .hbmTemp (twos 32 v) 0 h
    | none =>
      if x.missed = 0 then s.setTemp h { x with missed := 1, reading := none }
      else
        let c := s.rd .hbmTempCrit
        let s := (s.setTemp h { x with missed := x.missed + 1, reading := some (c : Int) }).wr .hbmTemp c 0 h
        if x.missed = 1 then s.ev (Ev.hbmTempUnread h) else s

/-- Migrations declared and refused do not start. -/
def State.dropRefused (s : State) : State :=
  let waits (m : Mig) : Bool := m.phase == .declared && !s.beat.admitted.any (fun i => i.id == m.item) && !s.beat.decls.any (fun d => d.id == m.item)
  s.each (s.jay.migs.filter waits) (fun s m => s.cancelMig m .jayMigCancelled)

/-- The cutoff of a beat (R57). -/
def State.cut (s : State) (temps sensors : List (Option Int)) : State :=
  if s.beat.cutoff ∨ s.rd .pdxReady ≠ 1 then s
  else if s.owl.fatalHub then { s with beat := { s.beat with cutoff := true } }
  else
    let gs := s.col.groups.keys
    let s := s.each gs (fun s k => (s.collArm (k / 16) (k % 16)).collEnd (k / 16) (k % 16))
    let s := s.admitAll
    let s := s.each gs (fun s k => (s.collRefused (k / 16) (k % 16)).collEnd (k / 16) (k % 16))
    let s := s.dropRefused
    let s := s.each (List.range 8) (fun s h => s.readStack h (temps.getD h none))
    let s := (s.readSensors sensors).allocate
    { s with qos := { s.qos with ready := s.qos.shadow.isSome } }

/-! ## The commands -/

def execBeatEdge (offset : Option Int) (draw : Nat) (s : State) : Host.Outcome State Fault Refusal := .next (s.edge offset draw)

def execCutoff (temps sensors : List (Option Int)) (s : State) : Host.Outcome State Fault Refusal := .next (s.cut temps sensors)

/-- The stack's catastrophic-temperature output asserts (R230). Steps that it serves abort (R401). -/
def execHbmCattrip (h : Nat) (s : State) : Host.Outcome State Fault Refusal :=
  .next (if s.stackUp h then (s.cattrip h).thermalAbort h else s.cattrip h)

end Sys2Proof.Machine
end

