-- ==== Sys2Proof/Machine/Pins.lean ====
section
/-! DEFINITION. Events at pins: the reference clocks, Neighbour Discovery at a port, and the I3C address (R350, R621–R624). -/

namespace Sys2Proof.Machine

/-- REFCLK_SOX leaves ±100 ppm, or stops, for 2 µs after step 1 of a start (R621). -/
def execPinSoxclkLoss (s : State) : Host.Outcome State Fault Refusal :=
  .next (if 1 ≤ s.rd .pdxBringupStep then s.ev Ev.pinSoxclkLoss else s)

/-- REFCLK_HOST is lost for 2 µs while the link is up: a surprise loss (R622, R492). -/
def execPinHostclkLoss (s : State) : Host.Outcome State Fault Refusal :=
  .next (if s.rd .hepLinkState = linkUp then (s.ev Ev.pinHostclkLoss).surpriseLoss else s)

/-- An IPv6 address is a port's: the prefix of its plane and a package ID that the hub answers (R353, R371). -/
def State.ownAddr (s : State) (e a : Nat) : Bool := s.rd .soxIpv6Prefix 0 e == a / 2 ^ 64 && s.answersPkg (a % 2 ^ 64)

/-- A Neighbour Solicitation for the port's own address is answered; any other frame of its kind is dropped (R350). -/
def execNeighbourSolicitationRx (e target : Nat) (s : State) : Host.Outcome State Fault Refusal :=
  .next (if s.owl.fatalHub ∨ 16 ≤ e ∨ s.rd .soxPortState 0 e < 2 then s
    else if s.ownAddr e target then s.emit (.neighbour e)
    else s.bumpWord .soxDropped 1 0 e)

/-- SETDASA or ENTDAA gives the hub its dynamic address (R624). -/
def execI3cDynamicAddress (a : Nat) (s : State) : Host.Outcome State Fault Refusal :=
  .next ({ s with startup := { s.startup with i3c := some a } }.emit (.i3cAddress a))

end Sys2Proof.Machine
end

