-- ==== Sys2Proof/Machine/Dispatch.lean ====
section
/-! DEFINITION. One arm per command: the direct call of its meaning. -/

namespace Sys2Proof.Machine

/-- The effect of a command on everything but the queue. -/
def exec (i : Instr) (s : State) : Host.Outcome State Fault Refusal :=
  match i with
  | .beatEdge offset draw => Sys2Proof.Machine.execBeatEdge offset draw s
  | .cutoff temps sensors => Sys2Proof.Machine.execCutoff temps sensors s
  | .beatHoldoverExpiry => Sys2Proof.Machine.execBeatHoldoverExpiry s
  | .ptpSyncLapse => Sys2Proof.Machine.execPtpSyncLapse s
  | .ppsPulseMissed => Sys2Proof.Machine.execPpsPulseMissed s
  | .ppsInEdge => Sys2Proof.Machine.execPpsInEdge s
  | .ppsOutPulse => Sys2Proof.Machine.execPpsOutPulse s
  | .declare d => Sys2Proof.Machine.execDeclare d s
  | .itemCompletion id => Sys2Proof.Machine.execItemCompletion id s
  | .slotBegin res slot cands => Sys2Proof.Machine.execSlotBegin res slot cands s
  | .sysWindow cands => Sys2Proof.Machine.execSysWindow cands s
  | .refreshRound h => Sys2Proof.Machine.execRefreshRound h s
  | .nop t n e => Sys2Proof.Machine.execNop t n e s
  | .scalarAdd t n e => Sys2Proof.Machine.execScalarAdd t n e s
  | .scalarSub t n e => Sys2Proof.Machine.execScalarSub t n e s
  | .scalarAnd t n e => Sys2Proof.Machine.execScalarAnd t n e s
  | .scalarOr t n e => Sys2Proof.Machine.execScalarOr t n e s
  | .scalarXor t n e => Sys2Proof.Machine.execScalarXor t n e s
  | .scalarShl t n e => Sys2Proof.Machine.execScalarShl t n e s
  | .scalarShr t n e => Sys2Proof.Machine.execScalarShr t n e s
  | .scalarMul t n e => Sys2Proof.Machine.execScalarMul t n e s
  | .scalarMin t n e => Sys2Proof.Machine.execScalarMin t n e s
  | .scalarMax t n e => Sys2Proof.Machine.execScalarMax t n e s
  | .scalarCmp t n e => Sys2Proof.Machine.execScalarCmp t n e s
  | .scalarMov t n e => Sys2Proof.Machine.execScalarMov t n e s
  | .scalarMovi t n e => Sys2Proof.Machine.execScalarMovi t n e s
  | .scalarLd t n e => Sys2Proof.Machine.execScalarLd t n e s
  | .scalarSt t n e => Sys2Proof.Machine.execScalarSt t n e s
  | .vecAdd t n e => Sys2Proof.Machine.execVecAdd t n e s
  | .vecSub t n e => Sys2Proof.Machine.execVecSub t n e s
  | .vecMul t n e => Sys2Proof.Machine.execVecMul t n e s
  | .vecFma t n e => Sys2Proof.Machine.execVecFma t n e s
  | .vecMax t n e => Sys2Proof.Machine.execVecMax t n e s
  | .vecMin t n e => Sys2Proof.Machine.execVecMin t n e s
  | .vecAbs t n e => Sys2Proof.Machine.execVecAbs t n e s
  | .vecNeg t n e => Sys2Proof.Machine.execVecNeg t n e s
  | .vecCvt t n e => Sys2Proof.Machine.execVecCvt t n e s
  | .vecSelect t n e => Sys2Proof.Machine.execVecSelect t n e s
  | .vecCmplt t n e => Sys2Proof.Machine.execVecCmplt t n e s
  | .vecRsqrt t n e => Sys2Proof.Machine.execVecRsqrt t n e s
  | .vecRcp t n e => Sys2Proof.Machine.execVecRcp t n e s
  | .vecExp2 t n e => Sys2Proof.Machine.execVecExp2 t n e s
  | .redSum t n e => Sys2Proof.Machine.execRedSum t n e s
  | .redMax t n e => Sys2Proof.Machine.execRedMax t n e s
  | .redMin t n e => Sys2Proof.Machine.execRedMin t n e s
  | .redArgmax t n e => Sys2Proof.Machine.execRedArgmax t n e s
  | .redSort64 t n e => Sys2Proof.Machine.execRedSort64 t n e s
  | .redTopkMerge t n e => Sys2Proof.Machine.execRedTopkMerge t n e s
  | .redPrefix t n e => Sys2Proof.Machine.execRedPrefix t n e s
  | .redSegsum t n e => Sys2Proof.Machine.execRedSegsum t n e s
  | .gatherRead t n e => Sys2Proof.Machine.execGatherRead t n e s
  | .scatterWrite t n e => Sys2Proof.Machine.execScatterWrite t n e s
  | .scatterStash t n e => Sys2Proof.Machine.execScatterStash t n e s
  | .scatterReduceAdd t n e => Sys2Proof.Machine.execScatterReduceAdd t n e s
  | .scatterReduceMax t n e => Sys2Proof.Machine.execScatterReduceMax t n e s
  | .syncStage t n e => Sys2Proof.Machine.execSyncStage t n e s
  | .waitPending t n e => Sys2Proof.Machine.execWaitPending t n e s
  | .waitEdge t n e => Sys2Proof.Machine.execWaitEdge t n e s
  | .sendStage t n e => Sys2Proof.Machine.execSendStage t n e s
  | .yieldStage t n e => Sys2Proof.Machine.execYieldStage t n e s
  | .endStage t n e => Sys2Proof.Machine.execEndStage t n e s
  | .gatherResponse t id data poison rowHit => Sys2Proof.Machine.execGatherResponse t id data poison rowHit s
  | .syncReply t n result reason => Sys2Proof.Machine.execSyncReply t n result reason s
  | .tilAbortAll p => Sys2Proof.Machine.execTilAbortAll p s
  | .patrolScrubVisit t bank row err => Sys2Proof.Machine.execPatrolScrubVisit t bank row err s
  | .islandVoltageReady island => Sys2Proof.Machine.execIslandVoltageReady island s
  | .wqCfgWrite role p q v => Sys2Proof.Machine.execWqCfgWrite role p q v s
  | .wqTailWrite p q tail => Sys2Proof.Machine.execWqTailWrite p q tail s
  | .wqCplHeadWrite p q head => Sys2Proof.Machine.execWqCplHeadWrite p q head s
  | .wqAbort p q => Sys2Proof.Machine.execWqAbort p q s
  | .descriptorFetch p q => Sys2Proof.Machine.execDescriptorFetch p q s
  | .funcNop p q => Sys2Proof.Machine.execFuncNop p q s
  | .funcLoad p q => Sys2Proof.Machine.execFuncLoad p q s
  | .funcRun p q => Sys2Proof.Machine.execFuncRun p q s
  | .funcEmbBag p q item => Sys2Proof.Machine.execFuncEmbBag p q item s
  | .funcUpdate p q item => Sys2Proof.Machine.execFuncUpdate p q item s
  | .funcReduce p q item => Sys2Proof.Machine.execFuncReduce p q item s
  | .funcTopk p q item => Sys2Proof.Machine.execFuncTopk p q item s
  | .funcSegReduce p q item => Sys2Proof.Machine.execFuncSegReduce p q item s
  | .funcSort p q item => Sys2Proof.Machine.execFuncSort p q item s
  | .funcPack p q item => Sys2Proof.Machine.execFuncPack p q item s
  | .funcCheckpoint p q => Sys2Proof.Machine.execFuncCheckpoint p q s
  | .itemDispatch p q => Sys2Proof.Machine.execItemDispatch p q s
  | .descriptorComplete p q => Sys2Proof.Machine.execDescriptorComplete p q s
  | .svcLookup p conn table reqId rows => Sys2Proof.Machine.execSvcLookup p conn table reqId rows s
  | .svcLookupBag p conn table reqId rows => Sys2Proof.Machine.execSvcLookupBag p conn table reqId rows s
  | .svcUpdate p conn table reqId rows grads => Sys2Proof.Machine.execSvcUpdate p conn table reqId rows grads s
  | .svcTimeout p reqId => Sys2Proof.Machine.execSvcTimeout p reqId s
  | .ckptPeriodRun p => Sys2Proof.Machine.execCkptPeriodRun p s
  | .ckptChunkAck p idx accepted => Sys2Proof.Machine.execCkptChunkAck p idx accepted s
  | .ckptChunkTimeout p idx => Sys2Proof.Machine.execCkptChunkTimeout p idx s
  | .routerFlitArrival x y f => Sys2Proof.Machine.execRouterFlitArrival x y f s
  | .flitEject x y port f => Sys2Proof.Machine.execFlitEject x y port f s
  | .ingressReq port ch r => Sys2Proof.Machine.execIngressReq port ch r s
  | .retryRx id => Sys2Proof.Machine.execRetryRx id s
  | .nocRspTimeout id => Sys2Proof.Machine.execNocRspTimeout id s
  | .qosLevelSample h => Sys2Proof.Machine.execQosLevelSample h s
  | .qosLevelWord inj h => Sys2Proof.Machine.execQosLevelWord inj h s
  | .requestAged p id => Sys2Proof.Machine.execRequestAged p id s
  | .qosCommit role v => Sys2Proof.Machine.execQosCommit role v s
  | .qosCommitCheckDone => Sys2Proof.Machine.execQosCommitCheckDone s
  | .homeRdShared h r ue => Sys2Proof.Machine.execHomeRdShared h r ue s
  | .homeRdUnique h r ue => Sys2Proof.Machine.execHomeRdUnique h r ue s
  | .homeClaim h r ue => Sys2Proof.Machine.execHomeClaim h r ue s
  | .homeEvict h r ue => Sys2Proof.Machine.execHomeEvict h r ue s
  | .homeWb h r ue => Sys2Proof.Machine.execHomeWb h r ue s
  | .homeWrite h stash r es ue => Sys2Proof.Machine.execHomeWrite h stash r es ue s
  | .homeWrRed h r es ue => Sys2Proof.Machine.execHomeWrRed h r es ue s
  | .homeRdNa h r ue => Sys2Proof.Machine.execHomeRdNa h r ue s
  | .gack h line => Sys2Proof.Machine.execGack h line s
  | .homeSnoopAnswer h agent txid ptn hasData st data poison ue => Sys2Proof.Machine.execHomeSnoopAnswer h agent txid ptn hasData st data poison ue s
  | .cohSnpTimeout h txid ue => Sys2Proof.Machine.execCohSnpTimeout h txid ue s
  | .takedownWalkEnd p => Sys2Proof.Machine.execTakedownWalkEnd p s
  | .stackReadData h id es => Sys2Proof.Machine.execStackReadData h id es s
  | .softRepair h pch bank row lost => Sys2Proof.Machine.execSoftRepair h pch bank row lost s
  | .granuleRetire hg => Sys2Proof.Machine.execGranuleRetire hg s
  | .stackRecalDone h => Sys2Proof.Machine.execStackRecalDone h s
  | .hbmCattrip h => Sys2Proof.Machine.execHbmCattrip h s
  | .memoryPatrol h hpa err => Sys2Proof.Machine.execMemoryPatrol h hpa err s
  | .hbmRecal h => Sys2Proof.Machine.execHbmRecal h s
  | .sliceLookup e p g entryUE => Sys2Proof.Machine.execSliceLookup e p g entryUE s
  | .xlateAnswer e p g => Sys2Proof.Machine.execXlateAnswer e p g s
  | .jayMissTimeout p g => Sys2Proof.Machine.execJayMissTimeout p g s
  | .granuleInvalidate e p g => Sys2Proof.Machine.execGranuleInvalidate e p g s
  | .invalidationAck e p g => Sys2Proof.Machine.execInvalidationAck e p g s
  | .heatIncrement h => Sys2Proof.Machine.execHeatIncrement h s
  | .jayPlacementPass => Sys2Proof.Machine.execJayPlacementPass s
  | .jayCmdMap p g stack sfmt => Sys2Proof.Machine.execJayCmdMap p g stack sfmt s
  | .jayCmdUnmap p g => Sys2Proof.Machine.execJayCmdUnmap p g s
  | .jayCmdSetFmt p g sfmt => Sys2Proof.Machine.execJayCmdSetFmt p g sfmt s
  | .jayCmdPin p g value => Sys2Proof.Machine.execJayCmdPin p g value s
  | .jayCmdHint p g stack => Sys2Proof.Machine.execJayCmdHint p g stack s
  | .jayCmdRowrep p g value => Sys2Proof.Machine.execJayCmdRowrep p g value s
  | .jayCmdMove p g stack => Sys2Proof.Machine.execJayCmdMove p g stack s
  | .jayCmdAck p g => Sys2Proof.Machine.execJayCmdAck p g s
  | .jayHostMiss p => Sys2Proof.Machine.execJayHostMiss p s
  | .migrationPassDone src es => Sys2Proof.Machine.execMigrationPassDone src es s
  | .migrationRemap src es => Sys2Proof.Machine.execMigrationRemap src es s
  | .migrationDone src => Sys2Proof.Machine.execMigrationDone src s
  | .migrationAbandon src => Sys2Proof.Machine.execMigrationAbandon src s
  | .rowFillAck t p block => Sys2Proof.Machine.execRowFillAck t p block s
  | .replicaGather t r e => Sys2Proof.Machine.execReplicaGather t r e s
  | .uciRepairAccept role k mask rate down => Sys2Proof.Machine.execUciRepairAccept role k mask rate down s
  | .uciRepairDeadlineExpiry k rate down => Sys2Proof.Machine.execUciRepairDeadlineExpiry k rate down s
  | .uciCrcRetry k lg => Sys2Proof.Machine.execUciCrcRetry k lg s
  | .uciRetrain k lg => Sys2Proof.Machine.execUciRetrain k lg s
  | .uciRetrainDone k lg ok worst => Sys2Proof.Machine.execUciRetrainDone k lg ok worst s
  | .fwdClockLoss k m => Sys2Proof.Machine.execFwdClockLoss k m s
  | .sbxCap k txn cap => Sys2Proof.Machine.execSbxCap k txn cap s
  | .sbxSpdmResponse k res => Sys2Proof.Machine.execSbxSpdmResponse k res s
  | .sbxRstQuiesced k => Sys2Proof.Machine.execSbxRstQuiesced k s
  | .sbxRstRequest k txn => Sys2Proof.Machine.execSbxRstRequest k txn s
  | .sbxRstReady k rate down => Sys2Proof.Machine.execSbxRstReady k rate down s
  | .sbxErr k txn payload => Sys2Proof.Machine.execSbxErr k txn payload s
  | .sbxTimeout k txn => Sys2Proof.Machine.execSbxTimeout k txn s
  | .uciResetCmdReset role k => Sys2Proof.Machine.execUciResetCmdReset role k s
  | .uciResetCmdAttest role k => Sys2Proof.Machine.execUciResetCmdAttest role k s
  | .uciQuiesceTimeout k => Sys2Proof.Machine.execUciQuiesceTimeout k s
  | .sidebandPoll k => Sys2Proof.Machine.execSidebandPoll k s
  | .uciBindWrite role k mask => Sys2Proof.Machine.execUciBindWrite role k mask s
  | .htlRdShared k lg hdr data => Sys2Proof.Machine.execHtlRdShared k lg hdr data s
  | .htlRdUnique k lg hdr data => Sys2Proof.Machine.execHtlRdUnique k lg hdr data s
  | .htlClaim k lg hdr data => Sys2Proof.Machine.execHtlClaim k lg hdr data s
  | .htlEvict k lg hdr data => Sys2Proof.Machine.execHtlEvict k lg hdr data s
  | .htlRdNa k lg hdr data => Sys2Proof.Machine.execHtlRdNa k lg hdr data s
  | .htlIntr k lg hdr data => Sys2Proof.Machine.execHtlIntr k lg hdr data s
  | .htlAbort k lg hdr data => Sys2Proof.Machine.execHtlAbort k lg hdr data s
  | .htlWb k lg hdr data => Sys2Proof.Machine.execHtlWb k lg hdr data s
  | .htlWrNs k lg hdr data => Sys2Proof.Machine.execHtlWrNs k lg hdr data s
  | .htlWrStash k lg hdr data => Sys2Proof.Machine.execHtlWrStash k lg hdr data s
  | .htlWrRed k lg hdr data => Sys2Proof.Machine.execHtlWrRed k lg hdr data s
  | .htlGatherDesc k lg hdr data => Sys2Proof.Machine.execHtlGatherDesc k lg hdr data s
  | .htlSync k lg hdr data => Sys2Proof.Machine.execHtlSync k lg hdr data s
  | .htlSnpAck k lg hdr data => Sys2Proof.Machine.execHtlSnpAck k lg hdr data s
  | .htlSnpData k lg hdr data => Sys2Proof.Machine.execHtlSnpData k lg hdr data s
  | .htlCreditReturn k slot => Sys2Proof.Machine.execHtlCreditReturn k slot s
  | .cxlMessage k m tag ppa len data poison => Sys2Proof.Machine.execCxlMessage k m tag ppa len data poison s
  | .soxPortChange e st => Sys2Proof.Machine.execSoxPortChange e st s
  | .soxOtherFrame e => Sys2Proof.Machine.execSoxOtherFrame e s
  | .ptpSyncRx e domain twoStep missed => Sys2Proof.Machine.execPtpSyncRx e domain twoStep missed s
  | .ptpAnnounceRx e rank => Sys2Proof.Machine.execPtpAnnounceRx e rank s
  | .sftData f => Sys2Proof.Machine.execSftData f s
  | .sftAck f rttHigh => Sys2Proof.Machine.execSftAck f rttHigh s
  | .sftCnp f due => Sys2Proof.Machine.execSftCnp f due s
  | .sftCtrlOpen f => Sys2Proof.Machine.execSftCtrlOpen f s
  | .sftCtrlOpenAck f => Sys2Proof.Machine.execSftCtrlOpenAck f s
  | .sftCtrlRefuse f => Sys2Proof.Machine.execSftCtrlRefuse f s
  | .sftCtrlClose f => Sys2Proof.Machine.execSftCtrlClose f s
  | .sftCtrlCloseAck f => Sys2Proof.Machine.execSftCtrlCloseAck f s
  | .sftCtrlReset f => Sys2Proof.Machine.execSftCtrlReset f s
  | .sftCtrlHello f rev fmt role period epoch ownerOk => Sys2Proof.Machine.execSftCtrlHello f rev fmt role period epoch ownerOk s
  | .sftCtrlHelloAck f => Sys2Proof.Machine.execSftCtrlHelloAck f s
  | .sftMgmt f kind r => Sys2Proof.Machine.execSftMgmt f kind r s
  | .sftJournal f => Sys2Proof.Machine.execSftJournal f s
  | .sftMirror f => Sys2Proof.Machine.execSftMirror f s
  | .sftHeartbeat f => Sys2Proof.Machine.execSftHeartbeat f s
  | .sftFault f => Sys2Proof.Machine.execSftFault f s
  | .connOpenRequest p pkg rptn => Sys2Proof.Machine.execConnOpenRequest p pkg rptn s
  | .connOpenRetry c => Sys2Proof.Machine.execConnOpenRetry c s
  | .connIdleExpiry c => Sys2Proof.Machine.execConnIdleExpiry c s
  | .connPsnLimit c => Sys2Proof.Machine.execConnPsnLimit c s
  | .connCloseTimeout c => Sys2Proof.Machine.execConnCloseTimeout c s
  | .sftAckTimer c => Sys2Proof.Machine.execSftAckTimer c s
  | .sftRtoExpiry c psn => Sys2Proof.Machine.execSftRtoExpiry c psn s
  | .ccPeriodExpiry c plane => Sys2Proof.Machine.execCcPeriodExpiry c plane s
  | .soxEgressTableWrite role e v => Sys2Proof.Machine.execSoxEgressTableWrite role e v s
  | .pairHeartbeatMiss => Sys2Proof.Machine.execPairHeartbeatMiss s
  | .pairRekey => Sys2Proof.Machine.execPairRekey s
  | .syncRead src obj => Sys2Proof.Machine.execSyncRead src obj s
  | .syncInit src obj a b => Sys2Proof.Machine.execSyncInit src obj a b s
  | .syncAdd src obj a => Sys2Proof.Machine.execSyncAdd src obj a s
  | .syncCas src obj a b => Sys2Proof.Machine.execSyncCas src obj a b s
  | .syncSwap src obj a => Sys2Proof.Machine.execSyncSwap src obj a s
  | .syncWaitGe src obj a => Sys2Proof.Machine.execSyncWaitGe src obj a s
  | .syncAcquire src obj a => Sys2Proof.Machine.execSyncAcquire src obj a s
  | .syncRelease src obj a => Sys2Proof.Machine.execSyncRelease src obj a s
  | .syncArrive src obj => Sys2Proof.Machine.execSyncArrive src obj s
  | .syncArriveWait src obj => Sys2Proof.Machine.execSyncArriveWait src obj s
  | .syncBarWait src obj a => Sys2Proof.Machine.execSyncBarWait src obj a s
  | .syncSet src obj a => Sys2Proof.Machine.execSyncSet src obj a s
  | .syncClear src obj a => Sys2Proof.Machine.execSyncClear src obj a s
  | .syncWaitAny src obj a b => Sys2Proof.Machine.execSyncWaitAny src obj a b s
  | .syncWaitAll src obj a b => Sys2Proof.Machine.execSyncWaitAll src obj a b s
  | .syncWaitExpiry bank id => Sys2Proof.Machine.execSyncWaitExpiry bank id s
  | .colSyncMapWrite role p v => Sys2Proof.Machine.execColSyncMapWrite role p v s
  | .colGroupForm p g v => Sys2Proof.Machine.execColGroupForm p g v s
  | .colGroupDissolve p g v => Sys2Proof.Machine.execColGroupDissolve p g v s
  | .colFormTimeout p g => Sys2Proof.Machine.execColFormTimeout p g s
  | .colDbTailWrite p tail cplHead => Sys2Proof.Machine.execColDbTailWrite p tail cplHead s
  | .colDbAbort p => Sys2Proof.Machine.execColDbAbort p s
  | .collAllreduce p => Sys2Proof.Machine.execCollAllreduce p s
  | .collReduceScatter p => Sys2Proof.Machine.execCollReduceScatter p s
  | .collAllgather p => Sys2Proof.Machine.execCollAllgather p s
  | .collBroadcast p => Sys2Proof.Machine.execCollBroadcast p s
  | .collBarrier p => Sys2Proof.Machine.execCollBarrier p s
  | .collSnapshot p => Sys2Proof.Machine.execCollSnapshot p s
  | .collGlobalReset p => Sys2Proof.Machine.execCollGlobalReset p s
  | .collStepComplete p g => Sys2Proof.Machine.execCollStepComplete p g s
  | .snapshotDrainEnd p => Sys2Proof.Machine.execSnapshotDrainEnd p s
  | .collMsgForm c payload => Sys2Proof.Machine.execCollMsgForm c payload s
  | .collMsgFormed c payload => Sys2Proof.Machine.execCollMsgFormed c payload s
  | .collMsgRefuse c payload => Sys2Proof.Machine.execCollMsgRefuse c payload s
  | .collMsgUp c payload => Sys2Proof.Machine.execCollMsgUp c payload s
  | .collMsgDown c payload => Sys2Proof.Machine.execCollMsgDown c payload s
  | .collMsgStretchReq c payload => Sys2Proof.Machine.execCollMsgStretchReq c payload s
  | .collMsgStretchGrant c payload => Sys2Proof.Machine.execCollMsgStretchGrant c payload s
  | .collMsgAbort c payload => Sys2Proof.Machine.execCollMsgAbort c payload s
  | .collMsgReset c payload => Sys2Proof.Machine.execCollMsgReset c payload s
  | .stretchCheckPoint p g => Sys2Proof.Machine.execStretchCheckPoint p g s
  | .ptnCmdForm role p low => Sys2Proof.Machine.execPtnCmdForm role p low s
  | .ptnCmdSeal role p low => Sys2Proof.Machine.execPtnCmdSeal role p low s
  | .sealWriteDone p => Sys2Proof.Machine.execSealWriteDone p s
  | .ptnCmdContextReset role p low => Sys2Proof.Machine.execPtnCmdContextReset role p low s
  | .ptnCmdWarmReset role p low => Sys2Proof.Machine.execPtnCmdWarmReset role p low s
  | .ptnCmdFullReset role p low => Sys2Proof.Machine.execPtnCmdFullReset role p low s
  | .ptnCmdDissolve role p low => Sys2Proof.Machine.execPtnCmdDissolve role p low s
  | .resetDrainEnd p => Sys2Proof.Machine.execResetDrainEnd p s
  | .badgerScrubDone p fails => Sys2Proof.Machine.execBadgerScrubDone p fails s
  | .tileSaveDone p t => Sys2Proof.Machine.execTileSaveDone p t s
  | .tileRestoreDone p t => Sys2Proof.Machine.execTileRestoreDone p t s
  | .ptnCtxNextWrite role p v => Sys2Proof.Machine.execPtnCtxNextWrite role p v s
  | .ptnSchedMiss p => Sys2Proof.Machine.execPtnSchedMiss p s
  | .interruptRaise p v => Sys2Proof.Machine.execInterruptRaise p v s
  | .hepIntrRaise p v => Sys2Proof.Machine.execHepIntrRaise p v s
  | .secKeyDeliver role p blob key => Sys2Proof.Machine.execSecKeyDeliver role p blob key s
  | .secImport role p v => Sys2Proof.Machine.execSecImport role p v s
  | .importDone p n => Sys2Proof.Machine.execImportDone p n s
  | .secRotate role p v => Sys2Proof.Machine.execSecRotate role p v s
  | .fabricKeyRetire p => Sys2Proof.Machine.execFabricKeyRetire p s
  | .spdmRequest ep req => Sys2Proof.Machine.execSpdmRequest ep req s
  | .secDebugGrant role p body sigOk => Sys2Proof.Machine.execSecDebugGrant role p body sigOk s
  | .debugGrantExpiry p => Sys2Proof.Machine.execDebugGrantExpiry p s
  | .secDebugStateWrite role p v => Sys2Proof.Machine.execSecDebugStateWrite role p v s
  | .secDebugCmd role p v => Sys2Proof.Machine.execSecDebugCmd role p v s
  | .secZeroise role v => Sys2Proof.Machine.execSecZeroise role v s
  | .seSensorTrip => Sys2Proof.Machine.execSeSensorTrip s
  | .secSelftest role v pass => Sys2Proof.Machine.execSecSelftest role v pass s
  | .secKatPeriodExpiry pass => Sys2Proof.Machine.execSecKatPeriodExpiry pass s
  | .lcsTransition role r burn => Sys2Proof.Machine.execLcsTransition role r burn s
  | .lcsEraseDone verified burn => Sys2Proof.Machine.execLcsEraseDone verified burn s
  | .lcsToken role r => Sys2Proof.Machine.execLcsToken role r s
  | .lcsSvnCommit role v => Sys2Proof.Machine.execLcsSvnCommit role v s
  | .lcsBscanEnWrite role v => Sys2Proof.Machine.execLcsBscanEnWrite role v s
  | .tapBypass => Sys2Proof.Machine.execTapBypass s
  | .tapIdcode => Sys2Proof.Machine.execTapIdcode s
  | .tapSamplePreload => Sys2Proof.Machine.execTapSamplePreload s
  | .tapExtest => Sys2Proof.Machine.execTapExtest s
  | .tapIeee1500 reg => Sys2Proof.Machine.execTapIeee1500 reg s
  | .tapLcToken r burn => Sys2Proof.Machine.execTapLcToken r burn s
  | .tapLcStatus => Sys2Proof.Machine.execTapLcStatus s
  | .tapIntscan => Sys2Proof.Machine.execTapIntscan s
  | .tapMbistAcc => Sys2Proof.Machine.execTapMbistAcc s
  | .tapReset => Sys2Proof.Machine.execTapReset s
  | .pcieLinkUp rate width => Sys2Proof.Machine.execPcieLinkUp rate width s
  | .hostConfigRequest fn reg w => Sys2Proof.Machine.execHostConfigRequest fn reg w s
  | .hostBar2Write p off data ep => Sys2Proof.Machine.execHostBar2Write p off data ep s
  | .hostBar2Read p off n => Sys2Proof.Machine.execHostBar2Read p off n s
  | .hostBar0Read fn off n => Sys2Proof.Machine.execHostBar0Read fn off n s
  | .hostSyncSlotWrite p slot v => Sys2Proof.Machine.execHostSyncSlotWrite p slot v s
  | .hostMailboxGo fn v => Sys2Proof.Machine.execHostMailboxGo fn v s
  | .vfFlr p => Sys2Proof.Machine.execVfFlr p s
  | .pfFlr => Sys2Proof.Machine.execPfFlr s
  | .hostPerst => Sys2Proof.Machine.execHostPerst s
  | .ckptExportGo => Sys2Proof.Machine.execCkptExportGo s
  | .ckptExportDone snooped => Sys2Proof.Machine.execCkptExportDone snooped s
  | .debounceExpiry pin level => Sys2Proof.Machine.execDebounceExpiry pin level s
  | .hostPrsntAssert => Sys2Proof.Machine.execHostPrsntAssert s
  | .hostPg1Assert => Sys2Proof.Machine.execHostPg1Assert s
  | .hostPg2Assert => Sys2Proof.Machine.execHostPg2Assert s
  | .hostPgTimeout => Sys2Proof.Machine.execHostPgTimeout s
  | .hostAttnPress => Sys2Proof.Machine.execHostAttnPress s
  | .hostRemoveAck => Sys2Proof.Machine.execHostRemoveAck s
  | .hostRemoveCancel => Sys2Proof.Machine.execHostRemoveCancel s
  | .hostRemoveWaitEnd => Sys2Proof.Machine.execHostRemoveWaitEnd s
  | .hepRemoveDeadlineExpiry => Sys2Proof.Machine.execHepRemoveDeadlineExpiry s
  | .surpriseLoss => Sys2Proof.Machine.execSurpriseLoss s
  | .hostPrsntDeassert => Sys2Proof.Machine.execHostPrsntDeassert s
  | .dictUnitRx ep unit => Sys2Proof.Machine.execDictUnitRx ep unit s
  | .dictReassemblyTimeout ep msg => Sys2Proof.Machine.execDictReassemblyTimeout ep msg s
  | .dictRead r => Sys2Proof.Machine.execDictRead r s
  | .dictWrite r => Sys2Proof.Machine.execDictWrite r s
  | .dictAtomic r => Sys2Proof.Machine.execDictAtomic r s
  | .dictReadPending r => Sys2Proof.Machine.execDictReadPending r s
  | .dictReadDefault r => Sys2Proof.Machine.execDictReadDefault r s
  | .dictResetDefault r => Sys2Proof.Machine.execDictResetDefault r s
  | .dictDescribe r => Sys2Proof.Machine.execDictDescribe r s
  | .dictSessionOpen r => Sys2Proof.Machine.execDictSessionOpen r s
  | .dictSessionProve ep n sigOk => Sys2Proof.Machine.execDictSessionProve ep n sigOk s
  | .dictSessionClose r => Sys2Proof.Machine.execDictSessionClose r s
  | .dictSpdm ep seq dest req => Sys2Proof.Machine.execDictSpdm ep seq dest req s
  | .sessionProveTimeout n => Sys2Proof.Machine.execSessionProveTimeout n s
  | .sessionIdleExpiry n => Sys2Proof.Machine.execSessionIdleExpiry n s
  | .roleRootWrite role operator v => Sys2Proof.Machine.execRoleRootWrite role operator v s
  | .registerWrite w => Sys2Proof.Machine.execRegisterWrite w s
  | .powerOn => Sys2Proof.Machine.execPowerOn s
  | .bringupTimeout step mask => Sys2Proof.Machine.execBringupTimeout step mask s
  | .bringupReady f => Sys2Proof.Machine.execBringupReady f s
  | .pdxHubResetWarm role => Sys2Proof.Machine.execPdxHubResetWarm role s
  | .pdxHubResetCold role => Sys2Proof.Machine.execPdxHubResetCold role s
  | .hubResetPin => Sys2Proof.Machine.execHubResetPin s
  | .hubResetEffect => Sys2Proof.Machine.execHubResetEffect s
  | .pdxPartialReset role v => Sys2Proof.Machine.execPdxPartialReset role v s
  | .partialResetRelease => Sys2Proof.Machine.execPartialResetRelease s
  | .faultEvent code ptn detail sev => Sys2Proof.Machine.execFaultEvent code ptn detail sev s
  | .owlCountWindowExpiry code => Sys2Proof.Machine.execOwlCountWindowExpiry code s
  | .owlAck role p v => Sys2Proof.Machine.execOwlAck role p v s
  | .owlHubAck role v => Sys2Proof.Machine.execOwlHubAck role v s
  | .owlTriageDecide role v => Sys2Proof.Machine.execOwlTriageDecide role v s
  | .owlTriageHoldExpiry latch => Sys2Proof.Machine.execOwlTriageHoldExpiry latch s
  | .owlTriageMiss latch => Sys2Proof.Machine.execOwlTriageMiss latch s
  | .sqlFlush role v => Sys2Proof.Machine.execSqlFlush role v s
  | .sqlFlushDone failed => Sys2Proof.Machine.execSqlFlushDone failed s
  | .sqlFlushDeadlineExpiry => Sys2Proof.Machine.execSqlFlushDeadlineExpiry s
  | .sqlTokenRefill code => Sys2Proof.Machine.execSqlTokenRefill code s
  | .sqlStoreEraseCirc role => Sys2Proof.Machine.execSqlStoreEraseCirc role s
  | .sqlStoreEraseFirst role => Sys2Proof.Machine.execSqlStoreEraseFirst role s
  | .sqlStoreFormat role => Sys2Proof.Machine.execSqlStoreFormat role s
  | .sqlStoreCmdDone => Sys2Proof.Machine.execSqlStoreCmdDone s
  | .bstTileRun role v => Sys2Proof.Machine.execBstTileRun role v s
  | .bstTileRunDone fails => Sys2Proof.Machine.execBstTileRunDone fails s
  | .bstIcGo role v => Sys2Proof.Machine.execBstIcGo role v s
  | .bstIcDone result errors rate down found => Sys2Proof.Machine.execBstIcDone result errors rate down found s
  | .bstUciBurn role v bits => Sys2Proof.Machine.execBstUciBurn role v bits s
  | .pwrFailAssert => Sys2Proof.Machine.execPwrFailAssert s
  | .pwrBrownout => Sys2Proof.Machine.execPwrBrownout s
  | .pwrThermtrip => Sys2Proof.Machine.execPwrThermtrip s
  | .pwrThermDecide role v => Sys2Proof.Machine.execPwrThermDecide role v s
  | .sbxPwrReport k txn payload => Sys2Proof.Machine.execSbxPwrReport k txn payload s
  | .sbxPwrRevokeAck k txn payload => Sys2Proof.Machine.execSbxPwrRevokeAck k txn payload s
  | .pwrRevokeTimeout k => Sys2Proof.Machine.execPwrRevokeTimeout k s
  | .pinSoxclkLoss => Sys2Proof.Machine.execPinSoxclkLoss s
  | .pinHostclkLoss => Sys2Proof.Machine.execPinHostclkLoss s
  | .sbxOtherMessage k ver cls txn resp status => Sys2Proof.Machine.execSbxOtherMessage k ver cls txn resp status s
  | .ptpDelayRespRx e domain delay => Sys2Proof.Machine.execPtpDelayRespRx e domain delay s
  | .ptpFollowUpRx e domain => Sys2Proof.Machine.execPtpFollowUpRx e domain s
  | .neighbourSolicitationRx e target => Sys2Proof.Machine.execNeighbourSolicitationRx e target s
  | .hostLinkDown => Sys2Proof.Machine.execHostLinkDown s
  | .hostPerstDeassert => Sys2Proof.Machine.execHostPerstDeassert s
  | .pmeTurnOff => Sys2Proof.Machine.execPmeTurnOff s
  | .i3cDynamicAddress a => Sys2Proof.Machine.execI3cDynamicAddress a s
  | .hubResetRelease => Sys2Proof.Machine.execHubResetRelease s
  | .powerRemoved => Sys2Proof.Machine.execPowerRemoved s

end Sys2Proof.Machine
end

