-- ==== Sys2Proof/Safety.lean ====
section
/-! DEFINITION. What claims about runs are stated in: the canonical form of the memory and of the register file, the states a run
reaches, a run without a stop, and what a stage does where it meets an error in a tile memory. -/

namespace Sys2Proof.Machine

/-- The register file in its canonical form: places strictly rising. -/
abbrev Regs.wf (m : AMap Nat) : Bool := AMap.sorted m

/-- A state that `n` steps reach. -/
inductive Reaches : Nat → State → State → Prop where
  | zero (s : State) : Reaches 0 s s
  | succ {n : Nat} {s t u : State} : Reaches n s t → step t = .next u → Reaches (n + 1) s u

/-- A run of `n` steps meets no fault and no refusal. -/
def Runs (n : Nat) (s : State) : Prop := ∃ t, Reaches n s t

/-- What a stage's command `c` does when its stage `i` issues and meets an error in a tile memory (R97). -/
def State.StageMeets (s : State) (c : TileErr → Instr) (t n : Nat) (i : Issue) : Prop :=
  exec (c .cfgUe) s = .next (s.cfgLost i.p t)
  ∧ exec (c .stateUe) s = .next ((s.haltStrand t n haltEcc).tileUe i.p t Ev.tilStateUe)
  ∧ exec (c .cfgCe) s = exec (c .clean) (s.tileCe i.p t Ev.tilCfgCe)
  ∧ exec (c .stateCe) s = exec (c .clean) (s.tileCe i.p t Ev.tilStateCe)
  ∧ (i.g.readsPad = true → exec (c .sramUe) s = .next ((s.issued t n i.g).haltAt i.p t n haltEcc)
      ∧ exec (c .sramCe) s = exec (c .clean) (s.tileCe i.p t Ev.tilSramCe))
  ∧ (i.g.readsPad = false → exec (c .sramUe) s = exec (c .clean) s ∧ exec (c .sramCe) s = exec (c .clean) s)

end Sys2Proof.Machine
end

