-- ==== Sys2Proof/Certificates/Slice0/Obligations.lean ====
section
/-! DEFINITION. The statements for the provers: each is a property of the model that the rules of spec/ call for. A docstring names the rules and,
where a clause rests on a choice of the model, the entry of the assumption log. -/

open Sys2Proof Sys2Proof.Machine

/-! ## The queue -/

/-- A step runs the command at the front of the queue on the state whose queue is the rest. On an empty queue the block idles: the model's choice,
notes/assumptions/13.md. -/
def Obligations.StepRunsFront : Prop :=
  (∀ (c : Instr) (rest : List Instr) (s : State), s.pending = c :: rest → step s = exec c { s with pending := rest })
  ∧ (∀ s : State, s.pending = [] → step s = .next s)

/-- No command stops the block: whatever a command and a state, there is a next state. As many steps as there are commands waiting empty the queue. -/
def Obligations.EveryCommandAnswers : Prop :=
  (∀ (c : Instr) (s : State), ∃ t, exec c s = .next t)
  ∧ (∀ s : State, ∃ t, Reaches s.pending.length s t ∧ t.pending = [])

/-- A command leaves the queue as it is, takes back nothing that was sent, and draws free values only forward. -/
def Obligations.CommandsKeepTheRecord : Prop :=  ∀ (c : Instr) (s t : State), exec c s = .next t → t.pending = s.pending ∧ s.sent <+: t.sent ∧ s.fresh ≤ t.fresh

/-- The memory and the register file keep their canonical form under every step, from every state that has it. -/
def Obligations.CanonicalFormKept : Prop :=  ∀ s t : State, Memory.wf s.mem = true → Regs.wf s.regs = true → step s = .next t → Memory.wf t.mem = true ∧ Regs.wf t.regs = true

/-- The reset state has the canonical form. At READY (R527) PDX_READY reads 1 and the result READY or DEGRADED, the beat number is 0, every partition
is FREE, ALIVE runs, and the slot tables are those of R198: of each memory-command table slots 0 to 7 are HUB and the others FREE, and of each
stack-port table too; every other table is FREE. -/
def Obligations.ResetState : Prop :=
  (Memory.wf State.reset.mem = true ∧ Regs.wf State.reset.regs = true)
  ∧ (State.reset.rd .pdxReady = 1 ∧ (State.reset.rd .pdxBringupResult = startReady ∨ State.reset.rd .pdxBringupResult = startDegraded)
     ∧ State.reset.beat.number = 0 ∧ (∀ p, p < 32 → State.reset.rd .ptnState p = ptnFree) ∧ State.reset.owl.alive = true
     ∧ State.reset.owl.faultN = false
     ∧ ∀ sel slot, selKind sel < 6 → slot < 128 →
         (slotEntryOf (State.reset.slotWord sel slot)).kind = (if slot < 8 ∧ (selKind sel = 0 ∨ selKind sel = 4) then 2 else 0))

/-! ## The beat (R40–R62) -/

/-- What comes to Woodpecker between edges (R46, R50, R55): each changes the one thing that its rule names. A declaration (R52, R53): FULL where its
owner already holds 64 (a partition) or 256 (the hub); else LATE where it comes at or after the cutoff, or for a beat that has passed, with policy
REFUSE; else it is taken and pending. The edge and the cutoff (R43, R45, R53, R57, R59): an edge of a running hub closes the items and the lost slots
of its beat, raises the number by one and by what a realignment skips, makes the tables and BEAT-class values active, aligns, and only then starts
what was admitted; the cutoff reads every stack and sensor after admission has closed; a second cutoff in a beat changes nothing. -/
def Obligations.BeatsPass : Prop :=
  ((∀ s : State, s.rd .beatAlignState = alignHoldover →
      exec .beatHoldoverExpiry s = .next { s with beat := { s.beat with holdoverDone := true } })
    ∧ (∀ s : State, s.rd .beatSyncSrc = srcPtp → exec .ptpSyncLapse s = .next { s with beat := { s.beat with lapse := true } })
    ∧ (∀ s : State, s.rd .beatSyncSrc = srcPps → exec .ppsPulseMissed s = .next { s with beat := { s.beat with lapse := true } })
    ∧ (∀ s : State, s.rd .beatSyncSrc = srcPps →
      exec .ppsInEdge s = .next { s with beat := { s.beat with ptpSeconds := s.rd .beatTodSeconds } })
    ∧ (∀ s : State, s.rd .beatPpsOut = 1 → s.rd .beatAlignState = alignLocked ∨ s.rd .beatAlignState = alignHoldover →
      exec .ppsOutPulse s = .next { s with sent := s.sent ++ [.ppsPulse] })
    ∧ (∀ s : State, s.rd .beatPpsOut ≠ 1 ∨ (s.rd .beatAlignState ≠ alignLocked ∧ s.rd .beatAlignState ≠ alignHoldover) →
      exec .ppsOutPulse s = .next s)
    ∧ ∀ (s : State) (id : Nat), ∃ t, exec (.itemCompletion id) s = .next t ∧ { t with beat := s.beat } = s
        ∧ { t.beat with items := s.beat.items } = s.beat ∧ (∀ i ∈ t.beat.items, i.id = id → i.done = true)
        ∧ t.beat.items.map (fun i => i.id) = s.beat.items.map (fun i => i.id))
  ∧ (∀ (d : Declaration) (s : State), ∃ t, exec (.declare d) s = .next t ∧ t.beat.nextId = s.beat.nextId + 1 ∧ t.mem = s.mem ∧ t.regs = s.regs
       ∧ (declLimit d.ptn ≤ s.pendingOf d.ptn →
           t.sent = s.sent ++ [.declRefused s.beat.nextId declFull] ∧ t.beat.decls = s.beat.decls)
       ∧ (s.pendingOf d.ptn < declLimit d.ptn → d.target = none → s.beat.cutoff = true → d.defer = false →
           t.sent = s.sent ++ [.declRefused s.beat.nextId declLate] ∧ t.beat.decls = s.beat.decls)
       ∧ (∀ b, s.pendingOf d.ptn < declLimit d.ptn → d.target = some b → b.toNat ≤ s.beat.number.toNat → d.defer = false →
           t.sent = s.sent ++ [.declRefused s.beat.nextId declLate] ∧ t.beat.decls = s.beat.decls)
       ∧ (s.pendingOf d.ptn < declLimit d.ptn → d.target = none → s.beat.cutoff = false →
           t.sent = s.sent ++ [.declTaken s.beat.nextId]
           ∧ t.beat.decls = s.beat.decls ++ [{ id := s.beat.nextId, decl := d, late := false }]))
  ∧ ((∀ (s : State) (offset : Option Int) (draw : Nat), s.rd .pdxReady = 1 → s.owl.fatalHub = false → ∃ u : State,
       u = (((((s.wr .pwrHubDraw draw).closeItems.reportLost).pairEdge).advance).applyTables).applyItems
       ∧ exec (.beatEdge offset draw) s = .next (((u.align offset).thermalEdge.startItems
           (((s.wr .pwrHubDraw draw).closeItems.reportLost).pairEdge).dict.shadow.keys).edgeRest
           (((s.wr .pwrHubDraw draw).closeItems.reportLost).pairEdge).budgetFalls))
     ∧ (∀ s : State, s.beat.number.toNat + 1 + s.beat.skip < 2 ^ 48 →
         s.advance.beat.number.toNat = s.beat.number.toNat + 1 + s.beat.skip ∧ s.advance.beat.cutoff = false ∧ s.advance.beat.round = 0)
     ∧ (∀ (s : State) (offset : Option Int) (draw : Nat), s.rd .pdxReady = 1 → s.owl.fatalHub = true → ∃ u : State,
         u = ((s.wr .pwrHubDraw draw).advance.applyItems).align offset
         ∧ exec (.beatEdge offset draw) s = .next { u with beat := { u.beat with items := [], admitted := [] } })
     ∧ (∀ (s : State) (temps sensors : List (Option Int)), s.rd .pdxReady = 1 → s.owl.fatalHub = false → s.beat.cutoff = false →
         s.col.groups = [] → s.jay.migs = [] → ∃ u : State,
         u = ((s.admitAll.each (List.range 8) (fun s h => s.readStack h (temps.getD h none))).readSensors sensors).allocate
         ∧ exec (.cutoff temps sensors) s = .next { u with qos := { u.qos with ready := u.qos.shadow.isSome } })
     ∧ (∀ (s : State) (temps sensors : List (Option Int)), s.beat.cutoff = true → exec (.cutoff temps sensors) s = .next s))

/-- Admission (R54, R255): of the declarations that are due, no more migrations are admitted for an edge than the beat's budget, whatever was
declared; and admission closes. No two switches of one partition are admitted for one edge (R54: DUPLICATE). -/
def Obligations.AdmissionWithinLimits : Prop :=
  (∀ s : State, s.migrationsAdmitted ≤ s.beatBudget → s.admitAll.migrationsAdmitted ≤ s.beatBudget ∧ s.admitAll.beat.cutoff = true)
  ∧ (∀ s : State, s.beat.admitted = [] → s.beat.items = [] →
       ∀ p, (s.admitAll.beat.admitted.filter (fun i => i.decl.ptn == some p && (match i.decl.kind with
         | .switch _ => true
         | _ => false))).length ≤ 1)

/-! ## Regulation (R188–R205) -/

/-- A slot at its first cycle (R32, R66, R199, R228): one that a thermal or fault reaction blocks is lost to the partition that owns it; a partition's
or the hub's own eligible requests are served in it, in the order of R199; a sealed partition's idle slot is not lent, so nothing changes; a free slot
without a borrower stays idle. The SYS window, the feedback and promotion by age (R41, R193, R199, R201, R202): a window without a candidate ends the
round, and in the first round of a beat sends its marker to every HTL site in use; a sample publishes the level word of the occupancy; an injector
acts on the word that reaches it; a request is counted once as aged. Committing tables (R195, R368): a 1 written by the operator starts the check; a
check that finds a fault leaves every table and names the fault; one that finds none puts the staged set in the shadow copies; the egress table of a
port is held for the next edge. Another role is refused with DENIED, another value with RANGE, and a commit while a check runs or a set waits with
BUSY. -/
def Obligations.SlotsServed : Prop :=
  ((∀ (s : State) (res slot p : Nat) (cs : List Cand), s.slotBlocked res = true → s.slotOwner res slot = .ptn p →
      exec (.slotBegin res slot cs) s = .next (s.loseSlots p 1))
    ∧ (∀ (s : State) (res slot p : Nat) (cs : List Cand), s.slotBlocked res = false → s.slotOwner res slot = .ptn p →
        s.servable res (some p) cs ≠ [] → selKind res ≠ 0 → ∃ t, exec (.slotBegin res slot cs) s = .next t
          ∧ t.sent = s.sent ++ [.slotServed res slot (some p) ((s.servable res (some p) cs).map (fun c => c.id))]
          ∧ t.regs = s.regs ∧ t.mem = s.mem ∧ t.held = s.held)
    ∧ (∀ (s : State) (res slot : Nat) (cs : List Cand), s.slotBlocked res = false → s.slotOwner res slot = .hub →
        s.servable res none cs ≠ [] → selKind res = 0 → ∃ t, exec (.slotBegin res slot cs) s = .next t
          ∧ t.sent = s.sent ++ [.slotServed res slot none ((s.servable res none cs).map (fun c => c.id))]
          ∧ t.held = s.held ++ (s.servable res none cs).map (fun c => (selNum res, c.id, none)) ∧ t.regs = s.regs ∧ t.mem = s.mem)
    ∧ (∀ (s : State) (res slot p : Nat) (cs : List Cand), s.slotBlocked res = false → s.slotOwner res slot = .ptn p →
        s.sealedMode p = true → s.servable res (some p) cs = [] → exec (.slotBegin res slot cs) s = .next s)
    ∧ ∀ (s : State) (res slot : Nat) (cs : List Cand), s.slotBlocked res = false → s.slotOwner res slot = .free →
        s.borrowers res cs = [] → exec (.slotBegin res slot cs) s = .next s)
  ∧ ((∀ s : State, ∃ t, exec (.sysWindow []) s = .next t
         ∧ t.sent = s.sent ++ (if s.beat.round = 0 then s.markerSites.map (fun k => .beatMarker k s.beat.number) else []) ∧ t.mem = s.mem ∧ t.regs = s.regs
         ∧ t.beat = { s.beat with round := s.beat.round + 1, total := s.beat.total + 1 } ∧ t.qos = { s.qos with latBorrows := [] })
     ∧ (∀ (s : State) (h : Nat), ∃ t, exec (.qosLevelSample h) s = .next t ∧ t.sent = s.sent ++ [.levelWord h (s.levelWord h)]
         ∧ t.qos.levels.get h 0 = s.levelWord h ∧ t.held = s.held ∧ t.mem = s.mem)
     ∧ (∀ (s : State) (inj h : Nat), ∃ t, exec (.qosLevelWord inj h) s = .next t ∧ t.qos.holds.get (8 * inj + h) 0 = s.qos.levels.get h 0
         ∧ { t with qos := { t.qos with holds := s.qos.holds } } = s)
     ∧ ∀ (s : State) (p id : Nat), s.qos.aged.find id = none → s.rd .qosPtnAged 0 p + 1 < 2 ^ 64 → ∃ t,
         exec (.requestAged p id) s = .next t ∧ t.rd .qosPtnAged 0 p = s.rd .qosPtnAged 0 p + 1 ∧ (t.qos.aged.find id).isSome
         ∧ t.mem = s.mem ∧ t.sent = s.sent)
  ∧ ((∀ s : State, s.rd .qosCommitStatus ≠ commitChecking → s.rd .qosCommitStatus ≠ commitPassed → ∃ t,
         exec (.qosCommit .operator 1) s = .next t ∧ t.rd .qosCommitStatus = commitChecking ∧ t.sent = s.sent ++ [.status stPending 0]
         ∧ t.qos = s.qos ∧ t.mem = s.mem)
     ∧ (∀ (s : State) (role : Role) (v : Nat), role ≠ .operator → exec (.qosCommit role v) s = .next (s.emit (.status stDenied 0)))
     ∧ (∀ (s : State) (v : Nat), v ≠ 1 → exec (.qosCommit .operator v) s = .next (s.emit (.status stRange 0)))
     ∧ (∀ s : State, s.rd .qosCommitStatus = commitChecking → exec (.qosCommit .operator 1) s = .next (s.emit (.status stBusy 0)))
     ∧ (∀ s : State, s.rd .qosCommitStatus = commitChecking → ∃ t, exec .qosCommitCheckDone s = .next t ∧ t.qos.active = s.qos.active
         ∧ match s.feasibility with
           | some f => t.rd .qosCommitStatus = commitFailed ∧ t.qos = s.qos
               ∧ t.rd .qosCommitFault = (f.1 * 2 ^ 24 + f.2.1 * 2 ^ 16 + f.2.2 * 2 ^ 8) % 2 ^ 64
           | none => t.rd .qosCommitStatus = commitPassed ∧ t.qos.shadow = some s.qos.staged)
     ∧ ∀ (s : State) (e v : Nat), e < 16 → (∀ k, k < 128 → egressEntryOk (field v (32 * k + 31) (32 * k)) = true) →
         8 ≤ ((List.range 128).filter (fun k => (slotEntryOf (field v (32 * k + 31) (32 * k))).kind == 2)).length →
         exec (.soxEgressTableWrite .operator e v) s = .next (State.answered (stPending, s.holdBeat .soxEgressTable v 0 e)))

/-- What a slot of a partition serves depends on that partition's requests alone (R64): requests of others, in whatever number, place and class,
change nothing of it. A home agent serves a partition in sealed mode no more requests than its entitlement leaves room for (R200). -/
def Obligations.SlotsIsolate : Prop :=
  (∀ (s : State) (res p : Nat) (cs cs' : List Cand), cs.filter (fun c => c.ptn == some p) = cs'.filter (fun c => c.ptn == some p) →
      s.servable res (some p) cs = s.servable res (some p) cs')
  ∧ (∀ (s : State) (h p : Nat) (cs : List Cand), s.sealedMode p = true → h < 8 →
       s.heldBy h (some p) + (s.servable (selHa h) (some p) cs).length ≤ max (s.entitlement h p) (s.heldBy h (some p)))

/-- A set of tables passes the check exactly where no table has a fault (R195, R196); a table without one holds no reserved value, keeps the runs of
sealed partitions at 8 slots or more, and gives the hub its slots (conditions 1, 3 and 8). -/
def Obligations.CheckedTablesAreSound : Prop :=  (∀ s : State, s.feasibility = none ↔ ∀ sel ∈ allTables, s.tableFault s.allClaims s.allArrivals s.namedPtns sel = none)
  ∧ ∀ (s : State) (all : List Claim) (arr : List (Nat × Nat)) (named : List Nat) (sel : Nat), s.tableFault all arr named sel = none →
    s.hubOk sel = true ∧ ∀ k, k < 128 →
      entryWellFormed sel (slotEntryOf (s.stagedWord sel k)) = true
      ∧ s.runOk sel (s.stagedTable sel) k (slotEntryOf (s.stagedWord sel k)) = true

/-! ## Tiles and strands (R70–R105) -/

/-- R110: INT32 and INT8 are two's complement; an MXINT8 element k has the value k × 2^−6, and −128 reads as −2; what the hub writes as an MXINT8
element lies in −127 to 127; a block's scale s multiplies by 2^(s − 127), and 0xFF is NaN. -/
def Obligations.MxNumbers : Prop :=  (∀ v : Nat, expandElem fmtInt32 fmtInt32 v = .i (signed 32 v) ∧ expandElem fmtInt8 fmtInt8 v = .i (signed 8 v))
  ∧ (∀ n : Int, (-(2 ^ 31) ≤ n → n < 2 ^ 31 → ∀ sat r, signed 32 (narrowElem fmtInt32 sat r (.i n)) = n)
      ∧ (-128 ≤ n → n < 128 → ∀ sat r, signed 8 (narrowElem fmtInt8 sat r (.i n)) = n))
  ∧ (∀ v : Nat, elemVal 11 v = .fin (decide (signed 8 v < 0)) (signed 8 v).natAbs (-6)) ∧ elemVal 11 0x80 = .fin true 128 (-6)
  ∧ (∀ (r : Rnd) (x : Fp), -127 ≤ signed 8 (narrowMx 11 r x) ∧ signed 8 (narrowMx 11 r x) ≤ 127)
  ∧ ∀ (c : Nat) (b : List Byte) (s i : Nat), i < 32 →
      (s = 0xFF → (expandBlock c b s)[i]? = some (.f .nan))
      ∧ (s ≤ 254 → (expandBlock c b s)[i]? = some (.f (scaled (elemVal c (elemAt (leNat b) (elemBits c) i)) ((s : Int) - 127))))

/-- Scalar stages (R82): DST is the value of the operation on the two sources and ZF and NF are set from it, whether DST is a register, an aligned
place of the program area or none; a source or a destination that the tile cannot reach halts the strand. CMP sets the flags alone, MOVI takes AUX, LD
and MOV take one source, ST sets no flag, NOP does nothing; each goes on to the next stage. Reduction stages (R84, R128): SUM is the pairwise tree's
sum, MAX and MIN the best element, PREFIX and SEGSUM the sums from the segment's start, TOPK_MERGE the best 64 of both sorted lists in order, SORT64
the keys in descending order with their values, ARGMAX the index of the largest, the lowest at a tie. -/
def Obligations.ScalarAndReductionStages : Prop :=
  ((∀ e ∈ ([(.scalarAdd, 0x00, fun a b => a + b), (.scalarSub, 0x01, fun a b => a - b), (.scalarAnd, 0x02, fun a b => a &&& b),
        (.scalarOr, 0x03, fun a b => a ||| b), (.scalarXor, 0x04, fun a b => a ^^^ b), (.scalarShl, 0x05, fun a b => a <<< (b.toNat % 64)),
        (.scalarShr, 0x06, fun a b => a >>> (b.toNat % 64)), (.scalarMul, 0x07, fun a b => a * b),
        (.scalarMin, 0x08, fun a b => if b.toInt < a.toInt then b else a), (.scalarMax, 0x09, fun a b => if a.toInt < b.toInt then b else a),
        (.scalarMov, 0x0B, fun a _ => a)] : List ((Nat → Nat → TileErr → Instr) × Nat × (Word → Word → Word))),
      ∀ (s : State) (t n : Nat) (i : Issue), s.issues t n 1 e.2.1 = some i →
        (∀ a b, s.readWord i.p t n i.x i.g.src0 = .ok a → s.readWord i.p t n i.x i.g.src1 = .ok b →
          (i.g.dst.space = 1 → exec (e.1 t n .clean) s = .next ((s.issued t n i.g).setStrand t n
            (((i.x.flags (e.2.2 a b)).setReg i.g.dst.reg (e.2.2 a b)).complete i.g)))
          ∧ (i.g.dst.space = 0 → exec (e.1 t n .clean) s = .next ((s.issued t n i.g).setStrand t n ((i.x.flags (e.2.2 a b)).complete i.g)))
          ∧ (i.g.dst.space ≠ 0 → i.g.dst.space ≠ 1 → s.operandAddr t n i.x i.g.dst % 8 = 0 →
              s.operandAddr t n i.x i.g.dst + 8 ≤ s.programBytes i.p →
              exec (e.1 t n .clean) s = .next ((((s.issued t n i.g).padWrite t (s.programBanks i.p) (s.operandAddr t n i.x i.g.dst)
                (toLe 8 (e.2.2 a b).toNat))).setStrand t n ((i.x.flags (e.2.2 a b)).complete i.g)))
          ∧ (i.g.dst.space ≠ 0 → i.g.dst.space ≠ 1 → s.operandAddr t n i.x i.g.dst % 8 ≠ 0 →
              exec (e.1 t n .clean) s = .next ((s.issued t n i.g).haltAt i.p t n haltAlign)))
        ∧ ∀ c, s.readWord i.p t n i.x i.g.src0 = .error c → exec (e.1 t n .clean) s = .next ((s.issued t n i.g).haltAt i.p t n c))
    ∧ (∀ (s : State) (t n : Nat) (i : Issue) (a b : Word), s.issues t n 1 0x0A = some i → s.readWord i.p t n i.x i.g.src0 = .ok a →
        s.readWord i.p t n i.x i.g.src1 = .ok b →
        exec (.scalarCmp t n .clean) s = .next ((s.issued t n i.g).setStrand t n
          ({ i.x with zf := decide (a = b), nf := decide (a.toInt < b.toInt) }.complete i.g)))
    ∧ (∀ (s : State) (t n : Nat) (i : Issue), s.issues t n 1 0x0C = some i → i.g.dst.space = 1 →
        exec (.scalarMovi t n .clean) s = .next ((s.issued t n i.g).setStrand t n
          (((i.x.flags (BitVec.ofNat 64 i.g.aux)).setReg i.g.dst.reg (BitVec.ofNat 64 i.g.aux)).complete i.g)))
    ∧ (∀ (s : State) (t n : Nat) (i : Issue) (v : Word), s.issues t n 1 0x0D = some i → i.g.dst.space = 1 →
        s.readWord i.p t n i.x i.g.src0 = .ok v →
        exec (.scalarLd t n .clean) s = .next ((s.issued t n i.g).setStrand t n (((i.x.flags v).setReg i.g.dst.reg v).complete i.g)))
    ∧ (∀ (s : State) (t n : Nat) (i : Issue) (v : Word), s.issues t n 1 0x0E = some i → i.g.dst.space ≠ 0 → i.g.dst.space ≠ 1 →
        s.readWord i.p t n i.x i.g.src0 = .ok v → s.operandAddr t n i.x i.g.dst % 8 = 0 →
        s.operandAddr t n i.x i.g.dst + 8 ≤ s.programBytes i.p →
        exec (.scalarSt t n .clean) s = .next (((s.issued t n i.g).padWrite t (s.programBanks i.p) (s.operandAddr t n i.x i.g.dst)
          (toLe 8 v.toNat)).setStrand t n (i.x.complete i.g)))
    ∧ ∀ (s : State) (t n : Nat) (i : Issue), s.issues t n 0 0 = some i →
        exec (.nop t n .clean) s = .next ((s.issued t n i.g).setStrand t n (i.x.complete i.g)))
  ∧ ((∀ e ∈ ([(.redSum, 0x00, fun i l => [treeSum (valAdd i.g.sat) treeDepth l]), (.redMax, 0x01, fun _ l => [valBest valMax l]),
         (.redMin, 0x02, fun _ l => [valBest valMin l]), (.redPrefix, 0x06, fun i l => segSums (valAdd i.g.sat) [] l),
         (.redSegsum, 0x07, fun i l => segSums (valAdd i.g.sat) (((List.range i.g.count).filter
           (fun k => (i.x.reg (i.g.aux % 8)).toNat.testBit k)).map (fun k => k * laneFactor i.g.src0.fmt)) l)] :
         List ((Nat → Nat → TileErr → Instr) × Nat × (Issue → List Val → List Val))),
       ∀ (s : State) (t n : Nat) (i : Issue) (a : List Val) (w : Effect), s.issues t n 3 e.2.1 = some i →
         s.readVals i.p t n i.x i.g.src0 (redFmt i.g) (i.g.count * laneFactor i.g.src0.fmt) = .ok a →
         s.writeVals t n i (e.2.2 i a) = .ok w → exec (e.1 t n .clean) s = .next (s.stageDone t n i (.ok w)))
     ∧ (∀ (s : State) (t n : Nat) (i : Issue) (a : List Val) (w : Effect), s.issues t n 3 0x03 = some i →
         s.readVals i.p t n i.x i.g.src0 (redFmt i.g) (i.g.count * laneFactor i.g.src0.fmt) = .ok a →
         s.writeOperand i.p t n i.x i.g.dst (toLe 4 (argMax a)) = .ok w → exec (.redArgmax t n .clean) s = .next (s.stageDone t n i (.ok w)))
     ∧ (∀ (l : List Val) (m : Val), (∀ v ∈ l, ∃ x, v = Val.f x) ∨ (∀ v ∈ l, ∃ x, v = Val.i x) → l[argMax l]? = some m →
         (∀ v ∈ l, keyLt m v = false) ∧ ∀ v ∈ l.take (argMax l), keyLt v m = true)
     ∧ (∀ (s : State) (t n : Nat) (i : Issue) (a : List Val) (b : List Byte) (w : Effect) (l : List (Val × Nat)), s.issues t n 3 0x04 = some i →
         s.readVals i.p t n i.x i.g.src0 (redFmt i.g) 64 = .ok a →
         s.readOperand i.p t n i.x i.g.src1 (64 * elemBits i.g.src1.fmt / 8) = .ok b →
         l = sortDesc (a.zip ((List.range 64).map (elemAt (leNat b) (elemBits i.g.src1.fmt)))) →
         s.writeOperand i.p t n i.x i.g.dst (operandBytes i.g.dst.fmt i.g.sat false (fun _ => .nearest) (l.map (fun e => e.1))
           ++ packElems (elemBits i.g.src1.fmt) (8 * elemBits i.g.src1.fmt) (l.map (fun e => e.2))) = .ok w →
         exec (.redSort64 t n .clean) s = .next (s.stageDone t n i (.ok w)))
     ∧ (∀ (l : List (Val × Nat)), (∀ v ∈ l, ∃ x, v.1 = Val.f x) ∨ (∀ v ∈ l, ∃ x, v.1 = Val.i x) →
         (sortDesc l).Perm l ∧ (sortDesc l).Pairwise (fun x y => keyLt x.1 y.1 = false))
     ∧ ∀ (s : State) (t n : Nat) (i : Issue) (a b : List Val) (w : Effect), s.issues t n 3 0x05 = some i →
         s.readVals i.p t n i.x i.g.src0 (redFmt i.g) 64 = .ok a → s.readVals i.p t n i.x i.g.src1 (redFmt i.g) 64 = .ok b →
         s.writeVals t n i (((sortDesc ((a ++ b).map (fun v => (v, ())))).take 64).map (fun e => e.1)) = .ok w →
         exec (.redTopkMerge t n .clean) s = .next (s.stageDone t n i (.ok w)))

/-- Two-source vector stages and one-source ones (R83, R125, R126): DST receives, element by element, the operation on the elements of the sources,
narrowed to DST's format; FMA adds to DST, SELECT takes each lane by its mask bit, CMPLT writes the mask of the lanes where SRC0 is less, CVT changes
the format alone. -/
def Obligations.VectorStages : Prop :=  (∀ e ∈ ([(.vecAdd, 0x00, valAdd), (.vecSub, 0x01, valSub), (.vecMul, 0x02, fun _ => valMul), (.vecMax, 0x04, fun _ => valMax),
      (.vecMin, 0x05, fun _ => valMin)] : List ((Nat → Nat → TileErr → Instr) × Nat × (Bool → Val → Val → Val))),
    ∀ (s : State) (t n : Nat) (i : Issue) (a b : List Val) (w : Effect), s.issues t n 2 e.2.1 = some i →
      s.readVals i.p t n i.x i.g.src0 (evalFmt [i.g.src0, i.g.src1, i.g.dst]) (i.g.count * laneFactor i.g.dst.fmt) = .ok a →
      s.readVals i.p t n i.x i.g.src1 (evalFmt [i.g.src0, i.g.src1, i.g.dst]) (i.g.count * laneFactor i.g.dst.fmt) = .ok b →
      s.writeVals t n i (List.zipWith (e.2.2 i.g.sat) a b) = .ok w → exec (e.1 t n .clean) s = .next (s.stageDone t n i (.ok w)))
  ∧ (∀ e ∈ ([(.vecRsqrt, 0x0B, fpRsqrt), (.vecRcp, 0x0C, fpRcp), (.vecExp2, 0x0D, fpExp2)] :
      List ((Nat → Nat → TileErr → Instr) × Nat × (Fp → Fp))),
    ∀ (s : State) (t n : Nat) (i : Issue) (a : List Val) (w : Effect), s.issues t n 2 e.2.1 = some i →
      s.readVals i.p t n i.x i.g.src0 fmtFp32 (i.g.count * laneFactor i.g.dst.fmt) = .ok a →
      s.writeVals t n i (a.map (fun v => .f (e.2.2 (valFp v)))) = .ok w → exec (e.1 t n .clean) s = .next (s.stageDone t n i (.ok w)))
  ∧ (∀ e ∈ ([(.vecAbs, 0x06, false), (.vecNeg, 0x07, true)] : List ((Nat → Nat → TileErr → Instr) × Nat × Bool)),
    ∀ (s : State) (t n : Nat) (i : Issue) (a : List Fp) (w : Effect), s.issues t n 2 e.2.1 = some i →
      s.readVals i.p t n i.x i.g.src0 (evalFmt [i.g.src0, i.g.dst]) (i.g.count * laneFactor i.g.dst.fmt) = .ok (a.map Val.f) →
      s.writeVals t n i (a.map (fun v => .f (if e.2.2 then v.neg else v.abs))) = .ok w →
      exec (e.1 t n .clean) s = .next ((s.stageDone t n i (.ok w)).drawn 256))
  ∧ (∀ (s : State) (t n f r : Nat) (i : Issue) (a b c : List Val) (w : Effect), s.issues t n 2 0x03 = some i →
      f = (if i.g.src0.space = 1 then laneFactor i.g.src1.fmt else laneFactor i.g.src0.fmt) → r = f / max 1 (laneFactor i.g.dst.fmt) →
      s.readVals i.p t n i.x i.g.src0 (evalFmt [i.g.src0, i.g.src1, i.g.dst]) (i.g.count * f) = .ok a →
      s.readVals i.p t n i.x i.g.src1 (evalFmt [i.g.src0, i.g.src1, i.g.dst]) (i.g.count * f) = .ok b →
      s.readVals i.p t n i.x i.g.dst (evalFmt [i.g.src0, i.g.src1, i.g.dst]) (i.g.count * laneFactor i.g.dst.fmt) = .ok c →
      s.writeVals t n i (c.zipIdx.map (fun v => valDot i.g.sat (((a.zip b).drop (r * v.2)).take r) v.1)) = .ok w →
      exec (.vecFma t n .clean) s = .next (s.stageDone t n i (.ok w)))
  ∧ (∀ (s : State) (t n : Nat) (i : Issue) (a : List Val) (w : Effect), s.issues t n 2 0x08 = some i → i.g.src0.space ≠ 1 →
      laneFactor i.g.src0.fmt = laneFactor i.g.dst.fmt →
      s.readVals i.p t n i.x i.g.src0 (evalFmt [i.g.src0, i.g.dst]) (i.g.count * laneFactor i.g.dst.fmt) = .ok a →
      s.writeVals t n i a = .ok w → exec (.vecCvt t n .clean) s = .next (s.stageDone t n i (.ok w)))
  ∧ (∀ (s : State) (t n k : Nat) (i : Issue) (a : List Val) (w : Effect), s.issues t n 2 0x08 = some i → i.g.src0.space ≠ 1 →
      laneFactor i.g.dst.fmt < laneFactor i.g.src0.fmt → k = i.g.count * laneFactor i.g.dst.fmt →
      s.readVals i.p t n i.x i.g.src0 (evalFmt [i.g.src0, i.g.dst]) (i.g.count * laneFactor i.g.src0.fmt) = .ok a →
      s.writeVals t n i ((a.drop (i.g.aux % 4 * k)).take k) = .ok w → exec (.vecCvt t n .clean) s = .next (s.stageDone t n i (.ok w)))
  ∧ (∀ (s : State) (t n k : Nat) (i : Issue) (a : List Val) (w : Effect), s.issues t n 2 0x08 = some i → i.g.src0.space ≠ 1 →
      0 < i.g.count → laneFactor i.g.src0.fmt < laneFactor i.g.dst.fmt → isMx i.g.dst.fmt = false →
      s.readVals i.p t n i.x i.g.src0 (evalFmt [i.g.src0, i.g.dst]) (i.g.count * laneFactor i.g.src0.fmt) = .ok a →
      k = i.g.count * laneFactor i.g.src0.fmt * elemBits i.g.dst.fmt / 8 →
      s.writeOperand i.p t n i.x { i.g.dst with off := i.g.dst.off + i.g.aux % 4 * k } ((operandBytes i.g.dst.fmt i.g.sat (s.fit i.p)
        (s.rounder i.p t i.g i.g.dst.fmt) a).take k) = .ok w → exec (.vecCvt t n .clean) s = .next (s.stageDone t n i (.ok w)))
  ∧ (∀ (s : State) (t n : Nat) (i : Issue) (a b : List Val) (w : Effect), s.issues t n 2 0x09 = some i →
      s.readVals i.p t n i.x i.g.src0 (evalFmt [i.g.src0, i.g.src1, i.g.dst]) (i.g.count * laneFactor i.g.dst.fmt) = .ok a →
      s.readVals i.p t n i.x i.g.src1 (evalFmt [i.g.src0, i.g.src1, i.g.dst]) (i.g.count * laneFactor i.g.dst.fmt) = .ok b →
      s.writeVals t n i ((a.zip b).zipIdx.map (fun v =>
        if (i.x.reg (i.g.aux % 8)).toNat.testBit (v.2 / max 1 (laneFactor i.g.dst.fmt)) then v.1.1 else v.1.2)) = .ok w →
      exec (.vecSelect t n .clean) s = .next (s.stageDone t n i (.ok w)))
  ∧ ∀ (s : State) (t n : Nat) (i : Issue) (a b : List Val), s.issues t n 2 0x0A = some i →
      s.readVals i.p t n i.x i.g.src0 (evalFmt [i.g.src0, i.g.src1]) i.g.count = .ok a →
      s.readVals i.p t n i.x i.g.src1 (evalFmt [i.g.src0, i.g.src1]) i.g.count = .ok b → a.length = b.length → a.length ≤ 64 → ∃ m : Word,
      exec (.vecCmplt t n .clean) s = .next ((s.issued t n i.g).setStrand t n ((i.x.setReg i.g.dst.reg m).complete i.g))
      ∧ ∀ k, k < 64 → m.getLsbD k = ((a.zip b)[k]?.elim false (fun v => valLt v.1 v.2))

/-- Memory stages (R85, R86, R89, R92, R94): an aligned extent whose bytes the tile can hold is issued as a read, a write, a stash or a reduction of
one request for each 256 B that it touches, PENDING rises by their number and the strand goes on; with too few trackers free the strand waits; a
misaligned extent, or bytes outside the program area, halt it. SEND writes the destination tile's program area, and halts with ISOLATION outside the
partition. -/
def Obligations.MemoryStages : Prop :=  (∀ (s : State) (t n a len d : Nat) (i : Issue), s.issues t n 4 0 = some i →
      a = (i.x.reg i.g.src0.reg).toNat + i.g.src0.off → len = (field i.g.aux 63 60 + 1) * 32 →
      (a % 32 = 0 → s.convBreaks i.p a len i.g.dst.fmt = false →
        (s.issued t n i.g).programRange i.p t n i.x i.g.dst (delivered (s.sfmtAt i.p a) i.g.dst.fmt len) = .ok d →
        ((split256 a len).length ≤ s.freeTrackers t → exec (.gatherRead t n .clean) s = .next ((s.issued t n i.g).issueParts t n i a len
          { newRequest (.tile t) (s.tileLabel i.p i.x.queue) .rdNa n a len [] with
            dst := d, dfmt := i.g.dst.fmt, fmt := i.g.dst.fmt
            rnd := if i.g.stoch then s.rndWords i.p t (s.tile.seq.get t 0) (laneFactor i.g.dst.fmt) else [], sat := i.g.sat }))
        ∧ (s.freeTrackers t < (split256 a len).length → exec (.gatherRead t n .clean) s = .next ((s.issued t n i.g).waitCredit t n i)))
      ∧ (a % 32 ≠ 0 → exec (.gatherRead t n .clean) s = .next ((s.issued t n i.g).haltAt i.p t n haltAlign)))
  ∧ (∀ e ∈ ([(.scatterWrite, 0, .write), (.scatterStash, 1, .stash), (.scatterReduceAdd, 2, .reduce), (.scatterReduceMax, 3, .reduce)] :
      List ((Nat → Nat → TileErr → Instr) × Nat × ReqOp)),
    ∀ (s : State) (t n a len : Nat) (i : Issue) (d : List Byte), s.issues t n 5 e.2.1 = some i →
      a = (i.x.reg i.g.src0.reg).toNat + i.g.src0.off → len = (field i.g.aux 63 60 + 1) * 32 →
      (a % 32 = 0 → (e.2.2 ≠ .reduce → s.convBreaks i.p a len i.g.src1.fmt = false) →
        (s.issued t n i.g).readOperand i.p t n i.x i.g.src1 (delivered ((s.sfmtAt i.p a).map (fun c =>
          if e.2.2 = .reduce ∧ c / 16 = 0 then i.g.src1.fmt * 16 else c)) i.g.src1.fmt len) = .ok d →
        ((split256 a len).length ≤ s.freeTrackers t → exec (e.1 t n .clean) s = .next ((s.issued t n i.g).issueParts t n i a len
          { newRequest (.tile t) (s.tileLabel i.p i.x.queue) e.2.2 n a len d with
            fmt := i.g.src1.fmt, opx := if e.2.1 = 3 then 1 else 0, obj := if e.2.2 = .stash then field i.g.aux 58 56 else 0
            rnd := if i.g.stoch then s.rndWords i.p t (s.tile.seq.get t 0) (laneFactor i.g.src1.fmt) else [], sat := i.g.sat }))
        ∧ (s.freeTrackers t < (split256 a len).length → exec (e.1 t n .clean) s = .next ((s.issued t n i.g).waitCredit t n i)))
      ∧ (a % 32 ≠ 0 → exec (e.1 t n .clean) s = .next ((s.issued t n i.g).haltAt i.p t n haltAlign)))
  ∧ (∀ a len, 0 < len → len ≤ 256 →
      (∀ e ∈ split256 a len, 0 < e.2 ∧ (a + e.1) / 256 = (a + e.1 + e.2 - 1) / 256)
      ∧ ((split256 a len).map (fun e => e.2)).sum = len
      ∧ (split256 a len).length = (if a / 256 = (a + len - 1) / 256 then 1 else 2))
  ∧ ∀ (s : State) (t n v dest len : Nat) (i : Issue) (d : List Byte), s.issues t n 8 0 = some i →
      v = (i.x.reg i.g.dst.reg).toNat → dest = tileAt (field v 13 8) (field v 5 0) → len = (field i.g.aux 63 60 + 1) * 32 →
      (s.issued t n i.g).readOperand i.p t n i.x i.g.src1 len = .ok d →
      (field v 13 8 < 48 → field v 5 0 < 48 → s.tileOwner dest = some i.p → s.freeTrackers t ≠ 0 →
        field v 33 16 + len ≤ s.programBytes i.p →
        exec (.sendStage t n .clean) s = .next (((s.issued t n i.g).padWrite dest (s.programBanks i.p) (field v 33 16) d).setStrand t n (i.x.complete i.g)))
      ∧ (s.tileOwner dest ≠ some i.p →
        exec (.sendStage t n .clean) s = .next (((s.issued t n i.g).haltAt i.p t n haltIsolation).ev Ev.tilIsolation (some i.p) (Config.detail [t, dest])))

/-- SYNC, WAIT, YIELD and END (R87, R88, R91, R93, R95, R151): a SYNC asks the bank of an object of the partition and waits, and halts with SYNC for
another object; WAIT completes when PENDING is at most its limit; YIELD puts the strand behind the others; END frees the strand and counts its item as
done in its descriptor. A bank's reply goes to DST, ZF tells EXPIRED, and a refusal halts. Errors in tile memories (R94, R97, R105): a stage of any
unit that meets a corrected error runs, after the error is counted and reported; an uncorrectable error halts its strand with ECC, in the scratchpad
only where the stage reads it, and one in the configuration store halts every strand of the tile, which then refuses dispatch. A strand that does not
issue meets none. What comes to a tile from outside its strands (R74, R95, R97, R104): data or an acknowledgement lands in the program area, frees its
tracker and lowers PENDING; poison halts the strand; the patrol scrubber counts and reports a corrected error once seen and marks an uncorrectable
word bad; an island's risen voltage serves its target. -/
def Obligations.ControlStages : Prop :=
  ((∀ (s : State) (t n obj : Nat) (x : Strand) (i : Issue), s.strand t n = some x →
        s.issues t n 6 (stageOf (s.stageWord t x.stage)).op = some i → obj = (i.x.reg i.g.src0.reg).toNat →
        (s.ownsObj i.p obj = true → exec (.syncStage t n .clean) s = .next (((s.issued t n i.g).setStrand t n { i.x with st := .waitSync }).emit
          (.request 0x15 { id := n, entry := .tile t, lab := s.tileLabel i.p i.x.queue, kgen := 0, hpa := 0, pgran := 0, len := 32, agent := 0
                           fmt := 0, opx := i.g.op, obj, data := toLe 8 (i.x.reg i.g.src1.reg).toNat ++ toLe 8 i.g.aux, poison := 0 })))
        ∧ (s.ownsObj i.p obj = false → exec (.syncStage t n .clean) s = .next ((s.issued t n i.g).haltAt i.p t n haltSync)))
    ∧ (∀ (s : State) (t n p result reason : Nat) (x : Strand), s.strand t n = some x → s.tileOwner t = some p → x.st = .waitSync →
        (reason < 2 → (stageOf (s.stageWord t x.stage)).dst.space = 1 → exec (.syncReply t n result reason) s = .next (s.setStrand t n
          ({ x.setReg (stageOf (s.stageWord t x.stage)).dst.reg (BitVec.ofNat 64 result) with zf := reason == reasonExpired }.complete
            (stageOf (s.stageWord t x.stage)))))
        ∧ (2 ≤ reason → exec (.syncReply t n result reason) s = .next (s.haltAt p t n haltSync)))
    ∧ (∀ (s : State) (t n : Nat) (i : Issue), s.issues t n 7 0 = some i →
        (i.x.pending ≤ i.g.aux % 256 → exec (.waitPending t n .clean) s = .next ((s.issued t n i.g).setStrand t n (i.x.complete i.g)))
        ∧ (i.g.aux % 256 < i.x.pending → exec (.waitPending t n .clean) s = .next
            ((s.issued t n i.g).setStrand t n { i.x with st := .waitMem, limit := some (i.g.aux % 256) })))
    ∧ (∀ (s : State) (t n : Nat) (i : Issue), s.issues t n 7 1 = some i →
        exec (.waitEdge t n .clean) s = .next ((s.issued t n i.g).setStrand t n { i.x with st := .waitMem, limit := none }))
    ∧ (∀ (s : State) (t n : Nat) (i : Issue), s.issues t n 9 0 = some i → ∃ u : State, exec (.yieldStage t n .clean) s = .next u
        ∧ { u with tile := s.tile } = s ∧ u.strand t n = some (i.x.complete i.g) ∧ ∃ l, u.tile.yielded.get t [] = l ++ [n])
    ∧ (∀ (s : State) (t n : Nat) (i : Issue), s.issues t n 10 0 = some i → ∃ u : State, exec (.endStage t n .clean) s = .next u
        ∧ u.strand t n = none ∧ u.mem = s.mem ∧ u.regs = s.regs
        ∧ (u.wq i.p i.x.queue).descs = (s.wq i.p i.x.queue).descs.map (fun d => if d.idx = i.x.desc then d.count i.x.item 0 else d))
    ∧ (∀ (s : State) (p : Nat), exec (.tilAbortAll p) s = .next (s.each (s.tilesOf p) (fun s t =>
        s.each (s.strandsOf t) (fun s e => s.haltStrand t e.1 haltAbort)))))
  ∧ ((∀ c ∈ ([(.nop, 0, 0), (.scalarAdd, 1, 0x00), (.scalarSub, 1, 0x01), (.scalarAnd, 1, 0x02), (.scalarOr, 1, 0x03), (.scalarXor, 1, 0x04),
         (.scalarShl, 1, 0x05), (.scalarShr, 1, 0x06), (.scalarMul, 1, 0x07), (.scalarMin, 1, 0x08), (.scalarMax, 1, 0x09),
         (.scalarCmp, 1, 0x0A), (.scalarMov, 1, 0x0B), (.scalarMovi, 1, 0x0C), (.scalarLd, 1, 0x0D), (.scalarSt, 1, 0x0E), (.vecAdd, 2, 0x00),
         (.vecSub, 2, 0x01), (.vecMul, 2, 0x02), (.vecFma, 2, 0x03), (.vecMax, 2, 0x04), (.vecMin, 2, 0x05), (.vecAbs, 2, 0x06),
         (.vecNeg, 2, 0x07), (.vecCvt, 2, 0x08), (.vecSelect, 2, 0x09), (.vecCmplt, 2, 0x0A), (.vecRsqrt, 2, 0x0B), (.vecRcp, 2, 0x0C),
         (.vecExp2, 2, 0x0D), (.redSum, 3, 0x00), (.redMax, 3, 0x01), (.redMin, 3, 0x02), (.redArgmax, 3, 3), (.redSort64, 3, 4),
         (.redTopkMerge, 3, 5), (.redPrefix, 3, 0x06), (.redSegsum, 3, 0x07), (.gatherRead, 4, 0), (.scatterWrite, 5, 0), (.scatterStash, 5, 1),
         (.scatterReduceAdd, 5, 2), (.scatterReduceMax, 5, 3), (.waitPending, 7, 0), (.waitEdge, 7, 1), (.sendStage, 8, 0), (.yieldStage, 9, 0),
         (.endStage, 10, 0)] : List ((Nat → Nat → TileErr → Instr) × Nat × Nat)),
       ∀ (s : State) (t n : Nat),
         (s.issues t n c.2.1 c.2.2 = none → ∀ e, e ≠ .clean → exec (c.1 t n e) s = .next s)
         ∧ ∀ i, s.issues t n c.2.1 c.2.2 = some i → s.StageMeets (c.1 t n) t n i)
     ∧ (∀ (s : State) (t n : Nat) (i : Issue) (x : Strand), s.strand t n = some x →
         s.issues t n 6 (stageOf (s.stageWord t x.stage)).op = some i → s.StageMeets (.syncStage t n) t n i)
     ∧ (∀ (s : State) (p t : Nat), (s.cfgLost p t).tile.refuse.find t = some ())
     ∧ ∀ (s : State) (p t ev : Nat), s.rd .tilUeCount 0 p + 1 < 2 ^ 32 → (s.tileUe p t ev).rd .tilUeCount 0 p = s.rd .tilUeCount 0 p + 1
         ∧ (s.tileUe p t ev).tile.seen.get p 0 = s.tile.seen.get p 0 ||| 2 ∧ (s.tileUe p t ev).mem = s.mem)
  ∧ ((∀ (s : State) (t id : Nat) (k : Tracker) (data : List Byte) (hit : Bool), s.noc.trackers.find id = some k → k.entry = .tile t →
         k.phase = .out → k.landed = false → k.timedOut = false →
         (k.op = .rdNa → converts k.sfmt k.fmt = false → exec (.gatherResponse t id data false hit) s =
           .next (((s.land t k (k.dst + k.base) data hit).tileDone t id k).credited t))
         ∧ (k.op = .write → exec (.gatherResponse t id data false hit) s = .next ((s.tileDone t id k).credited t))
         ∧ exec (.gatherResponse t id data true hit) s = .next (((s.haltStrand t k.tag haltPoison).tileDone t id k).credited t))
     ∧ (∀ (s : State) (t : Nat) (k : Tracker) (p a : Nat) (x : Strand) (bs : List Byte) (hit : Bool), s.tileOwner t = some p →
         s.strand t k.tag = some x → x.st ≠ .halted →
         s.land t k a bs hit = (s.padWrite t (s.programBanks p) a bs).setStrand t k.tag { x with rch := hit })
     ∧ (∀ (s : State) (t p bank row : Nat), s.rd .tilPatrolEn ≠ 0 → s.tileOwner t = some p → s.rd .tilCeCount 0 p + 1 < 2 ^ 32 → ∃ u,
         exec (.patrolScrubVisit t bank row 1) s = .next u ∧ u.rd .tilCeCount 0 p = s.rd .tilCeCount 0 p + 1
         ∧ u.tile.seen.get p 0 = s.tile.seen.get p 0 ||| 1 ∧ u.tile.bad = s.tile.bad ∧ u.mem = s.mem)
     ∧ (∀ (s : State) (t bank row : Nat), s.rd .tilPatrolEn ≠ 0 → (t, bank, row) ∉ s.tile.bad →
         exec (.patrolScrubVisit t bank row 2) s = .next { s with tile := { s.tile with bad := s.tile.bad ++ [(t, bank, row)] } })
     ∧ (∀ (s : State) (t bank row : Nat), exec (.patrolScrubVisit t bank row 0) s = .next s)
     ∧ ∀ (s : State) (i : Nat), s.startup.pwrFail = false → i < 16 → ∃ u, exec (.islandVoltageReady i) s = .next u
         ∧ u.islandMhz i = max (s.islandMhz i) (s.islandTarget i) ∧ (∀ j, j ≠ i → u.islandMhz j = s.islandMhz j)
         ∧ { u with tile := s.tile } = s)

/-- Where no word of the tile is uncorrectable, a scalar, vector or reduction stage of a strand leaves every other strand of every tile as it is, and
every tile's program area but its own (R70, R91). -/
def Obligations.StagesStayInTheirTile : Prop :=  ∀ c ∈ ([.scalarAdd, .scalarSub, .scalarAnd, .scalarOr, .scalarXor, .scalarShl, .scalarShr, .scalarMul, .scalarMin, .scalarMax, .scalarCmp,
      .scalarMov, .scalarMovi, .scalarLd, .scalarSt, .nop, .vecAdd, .vecSub, .vecMul, .vecFma, .vecMax, .vecMin, .vecAbs, .vecNeg, .vecCvt,
      .vecSelect, .vecCmplt, .vecRsqrt, .vecRcp, .vecExp2, .redSum, .redMax, .redMin, .redArgmax, .redSort64, .redTopkMerge, .redPrefix,
      .redSegsum] : List (Nat → Nat → TileErr → Instr)),
    ∀ (s u : State) (t n : Nat), (∀ w ∈ s.tile.bad, w.1 ≠ t) → exec (c t n .clean) s = .next u →
      (∀ k, k ≠ strandKey t n → u.tile.strands.find k = s.tile.strands.find k)
      ∧ (∀ t', t' ≠ t → u.tile.pad.get t' [] = s.tile.pad.get t' []) ∧ u.mem = s.mem ∧ u.tile.cfg = s.tile.cfg ∧ u.noc = s.noc

/-! ## Work queues, functions and services (R141–R162) -/

/-- Work queues (R142–R145): a well-formed configuration of an idle queue by the operator or the tenant is stored, and enabling a queue resets its
counts; TAIL moves unless it would pass a full ring, which stops the queue with TIL_WQ_ERR; CPL_HEAD is stored; ABORT cancels every unread descriptor
and aborts every descriptor in progress. The hub reads the descriptor at HEAD (R144, R146–R149, R152): a descriptor that breaks a rule of its function
is in its queue with the status of its fault, a good one without a status, a declared one with its declaration; an unreadable one stops the queue. -/
def Obligations.WorkQueues : Prop :=
  ((∀ (s : State) (role : Role) (p q v : Nat), p < 32 → q < 64 → (role = .operator ∨ role = .tenant) → field v 85 0 = 0 → v < 2 ^ 256 →
        (∀ i ∈ bitsOf (wqCfgOf v).plots 64, s.plotOwner i = some p) → (wqCfgOf v).cls < 5 → 4 ≤ (wqCfgOf v).log2 → (wqCfgOf v).log2 ≤ 16 →
        ((wqCfgOf v).submit = true → (s.rd .uciBind (wqCfgOf v).site).testBit p = true) → s.wqIdle p q = true → ∃ t,
        exec (.wqCfgWrite role p q v) s = .next t ∧ t.rd .tilWqCfg p q = v ∧ t.sent = s.sent ++ [.status stOk 0] ∧ t.mem = s.mem
        ∧ ((wqCfgOf v).enable = true → (s.wqCfg p q).enable = false → (t.wq p q).tail = 0 ∧ (t.wq p q).head = 0 ∧ (t.wq p q).err = false))
    ∧ (∀ (s : State) (role : Role) (p q v : Nat), p < 32 → q < 64 → role = .vendor ∨ role = .integrator →
        exec (.wqCfgWrite role p q v) s = .next (s.emit (.status stDenied 0)))
    ∧ (∀ (s : State) (p q tail : Nat), (s.wqCfg p q).submit = false →
        (overflows (s.wqCfg p q) (s.wq p q) (tail % wqCount) = false →
          exec (.wqTailWrite p q tail) s = .next (s.setWq p q { s.wq p q with tail := tail % wqCount }))
        ∧ (overflows (s.wqCfg p q) (s.wq p q) (tail % wqCount) = true → exec (.wqTailWrite p q tail) s =
            .next ((s.setWq p q { s.wq p q with err := true }).ev Ev.tilWqErr (some p) (Config.detail [q]))))
    ∧ (∀ (s : State) (p q head : Nat), exec (.wqCplHeadWrite p q head) s = .next (s.setWq p q { s.wq p q with cplHead := head % wqCount }))
    ∧ (∀ (s : State) (p q : Nat) (w : Wq), ∃ t : State, t = s.setWq p q w ∧ t.wq p q = w
        ∧ (∀ p' q', 64 * p' + q' ≠ 64 * p + q → t.wq p' q' = s.wq p' q') ∧ { t with wqs := s.wqs } = s)
    ∧ ∀ (s : State) (p q : Nat), (s.wq p q).descs = [] → ∃ t, exec (.wqAbort p q) s = .next t ∧ (t.wq p q).head = (s.wq p q).tail
        ∧ (t.wq p q).descs.map (fun d => (d.idx, d.status)) = (List.range (((s.wq p q).tail + wqCount - (s.wq p q).head) % wqCount)).map
            (fun i => (((s.wq p q).head + i) % wqCount, some dsCancelled))
        ∧ t.mem = s.mem ∧ t.regs = s.regs ∧ t.tile = s.tile)
  ∧ ((∀ (s : State) (p q : Nat) (b : List Byte) (ws : List Nat), s.ptnState p = ptnSealed → (s.wqCfg p q).enable = true → (s.wq p q).err = false →
         (s.wq p q).head ≠ (s.wq p q).tail → (s.wq p q).descs = [] →
         s.readPpa p ((s.wqCfg p q).ring + 64 * ((s.wq p q).head % 2 ^ (s.wqCfg p q).log2)) 64 = some (b, false) →
         ws = (List.range 8).map (fun i => leNat ((b.drop (8 * i)).take 8)) → (ws.getD 0 0).testBit 55 = false → ∃ t d,
         exec (.descriptorFetch p q) s = .next t ∧ t = s.setWq p q { s.wq p q with head := ((s.wq p q).head + 1) % wqCount, descs := [d] }
         ∧ d.idx = (s.wq p q).head ∧ d.words = ws ∧ d.started = false ∧ d.done = 0 ∧ d.failed = 0 ∧ d.firstFail = noFail
         ∧ d.status = (if s.descStatus p ws = dsOk then none else some (s.descStatus p ws)))
     ∧ (∀ (s : State) (p q : Nat) (b : List Byte), s.ptnState p = ptnSealed → (s.wqCfg p q).enable = true → (s.wq p q).err = false →
         (s.wq p q).head ≠ (s.wq p q).tail → (s.wq p q).descs = [] →
         s.readPpa p ((s.wqCfg p q).ring + 64 * ((s.wq p q).head % 2 ^ (s.wqCfg p q).log2)) 64 = some (b, true) →
         exec (.descriptorFetch p q) s = .next ((s.setWq p q { s.wq p q with err := true }).ev Ev.tilWqErr (some p) (Config.detail [q])))
     ∧ (∀ (s : State) (p : Nat) (ws : List Nat), field (ws.getD 0 0) 50 48 ≠ 0 ∨ 0x31 ≤ field (ws.getD 0 0) 63 56 → s.descStatus p ws = dsBadFunc)
     ∧ ∀ (s : State) (p : Nat) (ws : List Nat), field (ws.getD 0 0) 63 56 = fnRun → field (ws.getD 0 0) 50 48 = 0 →
         s.descStatus p ws = (if field (ws.getD 1 0) 31 0 = 0 ∨ 16777216 < field (ws.getD 1 0) 31 0 then dsBadParam else dsOk))

/-- The functions (R148, R149, R153, R154): NOP is done once it is the oldest; LOAD puts a checked image in every tile of the dispatch set, or in
none; RUN starts where its configuration is loaded, and each of its items becomes one READY strand on the tile with most room; an item of a stock
function is counted once, OK or failed with its code; CHECKPOINT begins a run of the service. -/
def Obligations.FunctionsRun : Prop :=  (∀ (s : State) (p q : Nat) (d : Desc), s.currentDesc p q = some (d, []) → d.func = fnNop → d.mayStart [] = true →
      exec (.funcNop p q) s = .next (s.mapDesc p q d.idx (fun d => { d with started := true, status := some dsOk })))
  ∧ (∀ (s : State) (p q : Nat) (d : Desc) (b : List Desc) (img : List Byte), s.currentDesc p q = some (d, b) → d.func = fnLoad →
      d.mayStart b = true → s.mayDispatch p q = true → s.quiet (s.dispatchSet p q) = true →
      s.readSpan p (d.params.getD 0 0) 0x4000 = some (img, false) →
      (configOk (s.programBytes p / 64) (sparseOf img) = true → ∃ t, exec (.funcLoad p q) s = .next t
        ∧ (∀ k ∈ s.dispatchSet p q, t.tile.cfg.find k = some (sparseOf img) ∧ t.tile.cfgId.find k = some (field (d.params.getD 1 0) 15 0))
        ∧ (∀ k, k ∉ s.dispatchSet p q → t.tile.cfg.find k = s.tile.cfg.find k) ∧ t.mem = s.mem ∧ t.regs = s.regs)
      ∧ (configOk (s.programBytes p / 64) (sparseOf img) = false → ∃ t, exec (.funcLoad p q) s = .next t ∧ t.tile = s.tile
        ∧ { t with wqs := s.wqs } = s))
  ∧ (∀ (s : State) (p q : Nat) (d : Desc) (b : List Desc), s.currentDesc p q = some (d, b) → d.func = fnRun → d.started = false →
      d.mayStart b = true → s.mayDispatch p q = true →
      exec (.funcRun p q) s = .next (s.mapDesc p q d.idx (fun d' => if ∀ t ∈ s.dispatchSet p q, s.tile.cfgId.find t = some (field (d.params.getD 2 0) 15 0)
        then { d' with started := true } else { d' with started := true, status := some dsNoConfig })))
  ∧ (∀ (s : State) (p q t : Nat) (d : Desc) (b : List Desc), s.currentDesc p q = some (d, b) → d.func = fnRun → d.started = true →
      s.mayDispatch p q = true → s.bestTile ((s.dispatchSet p q).filter (fun k => !(s.waitedTiles p).contains k)) = some t →
      exec (.itemDispatch p q) s = .next ((s.startStrand t q d (s.slotPpa p q d.idx)).mapDesc p q d.idx (fun d => { d with next := d.next + 1 })))
  ∧ (∀ (s : State) (t q slot n : Nat) (d : Desc), n < 512 → s.strand t n = none → (∀ m, m < n → (s.strand t m).isSome) → ∃ x,
      (s.startStrand t q d slot).strand t n = some x ∧ x.st = .ready ∧ x.stage = field (s.graphHeader t) 63 58 ∧ x.item = d.next
      ∧ x.reg 0 = BitVec.ofNat 64 (d.params.getD 0 0 + d.next * d.params.getD 1 0) ∧ x.reg 1 = BitVec.ofNat 64 slot
      ∧ (∀ r, 2 ≤ r → x.reg r = 0) ∧ { s.startStrand t q d slot with tile := s.tile } = s)
  ∧ (∀ e ∈ ([(.funcEmbBag, 0x10), (.funcUpdate, 0x11), (.funcReduce, 0x12), (.funcTopk, 0x13), (.funcSegReduce, 0x14), (.funcSort, 0x15),
      (.funcPack, 0x16)] : List ((Nat → Nat → Nat → Instr) × Nat)),
    ∀ (s : State) (p q i : Nat) (d : Desc) (b : List Desc) (r : Nat × State), s.currentDesc p q = some (d, b) → d.func = e.2 →
      d.mayStart b = true → s.mayDispatch p q = true → d.next = i → s.stockLoaded e.2 (s.dispatchSet p q) = true →
      r = s.runItem { ptn := p, ctx := (s.wqCfg p q).ctx, cls := (s.wqCfg p q).cls } (queueTag p q) (geomOf (d.params.getD 1 0)).site
        (s.itemOf p e.2 d.params i) →
      exec (e.1 p q i) s = .next (r.2.mapDesc p q d.idx (fun d => { d.count i r.1 with started := true, next := i + 1 })))
  ∧ (∀ (d : Desc) (i c : Nat), (d.count i c).done + (d.count i c).failed = d.done + d.failed + 1 ∧ (c = 0 → (d.count i c).failed = d.failed)
      ∧ (c ≠ 0 → (d.count i c).firstFail = min d.firstFail i))
  ∧ ∀ (s : State) (p q : Nat) (d : Desc) (b : List Desc), s.currentDesc p q = some (d, b) → d.func = fnCheckpoint → d.started = false →
      d.mayStart b = true → s.ckpt.find p = none → s.ptnState p = ptnSealed →
      exec (.funcCheckpoint p q) s = .next ((s.mapDesc p q d.idx (fun d => { d with started := true })).ckptStart p (d.params.getD 0 0) (some (q, d.idx)))

/-- Completion (R141, R151, R152, R155): the first descriptor that has ended leaves its queue once no write of the queue is on its way, its declared
item is complete, and its record of 32 bytes, with the PHASE of its pass through the ring, is written at its place in the completion ring and counted;
until then the queue does not change. The table and checkpoint services (R158–R162): a request of a working service is served, one of a service that
waits for its context is held, and answered BUSY with 1,024 held or after its time; a request for no table, an index outside it or a bag out of order
is answered with its code; a checkpoint period begins a run, a chunk's acknowledgement lets the next one go, a refused or a lost chunk ends the run as
failed. -/
def Obligations.DescriptorsComplete : Prop :=
  ((∀ (s : State) (p q a : Nat) (d : Desc), (s.wq p q).descs.find? Desc.ended = some d → s.queueWrites p q = false → d.decl = none →
        a = (s.wqCfg p q).cpl + 32 * (d.idx % 2 ^ (s.wqCfg p q).log2) → s.spanWritable p a 32 = true →
        exec (.descriptorComplete p q) s = .next (((((s.setWq p q { s.wq p q with descs := (s.wq p q).descs.filter (fun x => x.idx != d.idx) }).hubWrite
          { ptn := p, ctx := (s.wqCfg p q).ctx, cls := (s.wqCfg p q).cls } 0 .write 0 0 0 a (toLe 32 (d.record (s.wqCfg p q) s.beat.number))).bump
            .tilWqDescriptors 0 p)).wqInterrupt p q d))
    ∧ (∀ (s : State) (p q : Nat), s.queueWrites p q = true → exec (.descriptorComplete p q) s = .next s)
    ∧ (∀ (d : Desc) (c : WqCfg) (beat : BitVec 48) (st : Nat), d.status = none → d.failed = 0 → d.done < 2 ^ 32 → d.firstFail = noFail → d.failCode = 0 →
        st = d.record c beat → field st 255 255 = (if d.idx / 2 ^ c.log2 % 2 = 0 then 1 else 0) ∧ field st 247 240 = dsOk
        ∧ field st 191 160 = field (d.words.getD 1 0) 63 32 ∧ field st 159 128 = d.done ∧ field st 127 96 = 0 ∧ field st 47 0 = beat.toNat)
    ∧ ∀ (s : State) (p q : Nat) (d : Desc), (s.wqCfg p q).coalesce = 0 → d.int = false →
        s.wqInterrupt p q d = s.setWq p q { s.wq p q with uncounted := (s.wq p q).uncounted + 1 })
  ∧ ((∀ e ∈ ([(1, .svcLookup), (2, .svcLookupBag)] : List (Nat × (Nat → Nat → Nat → Nat → List Nat → Instr))),
       ∀ (s : State) (p conn table id : Nat) (rows : List Nat) (r : SvcReq),
         r = { conn, op := e.1, table, reqId := id, rows, grads := [], beat := s.beat.number } → s.tableService p = true →
         (s.svcWorks p = true → exec (e.2 p conn table id rows) s = .next (s.svcServe p r))
         ∧ (s.svcWorks p = false → (s.svc.get p []).length < 1024 →
             exec (e.2 p conn table id rows) s = .next { s with svc := s.svc.put p (s.svc.get p [] ++ [r]) [] })
         ∧ (s.svcWorks p = false → 1024 ≤ (s.svc.get p []).length → exec (e.2 p conn table id rows) s = .next (s.svcReply p r svBusy [])))
     ∧ (∀ (s : State) (p conn table id : Nat) (rows grads : List Nat), s.tableService p = true → s.svcWorks p = true →
         exec (.svcUpdate p conn table id rows grads) s =
           .next (s.svcServe p { conn, op := 3, table, reqId := id, rows, grads, beat := s.beat.number }))
     ∧ (∀ (s : State) (p : Nat) (r : SvcReq), (tableOf (s.rd .tilTableReg p r.table)).valid = false → s.svcServe p r = s.svcReply p r svNoTable [])
     ∧ (∀ (s : State) (p i : Nat) (r : SvcReq), r.table < 64 → (tableOf (s.rd .tilTableReg p r.table)).valid = true → r.rows.length ≤ 256 →
         i ∈ r.rows → (tableOf (s.rd .tilTableReg p r.table)).rows ≤ i → s.svcServe p r = s.svcReply p r svIndex [])
     ∧ (∀ (s : State) (p id : Nat) (r : SvcReq), (s.svc.get p []).find? (fun r => r.reqId == id) = some r →
         exec (.svcTimeout p id) s = .next (({ s with svc := s.svc.put p ((s.svc.get p []).filter (· != r)) [] } : State).svcReply p r svBusy []))
     ∧ (∀ (s : State) (p : Nat), s.ckptService p = true → s.rd .tilCkptPeriod 0 p ≠ 0 → s.ckpt.find p = none → s.ptnState p = ptnSealed →
         exec (.ckptPeriodRun p) s = .next (s.ckptStart p (s.rd .tilCkptPlan 0 p) none))
     ∧ (∀ (s : State) (p idx : Nat) (c : Ckpt), s.ckpt.find p = some c → idx ∈ c.unacked →
         exec (.ckptChunkAck p idx true) s =
           .next (State.ckptPump 66 { s with ckpt := s.ckpt.set p { c with unacked := c.unacked.filter (· != idx) } } p)
         ∧ exec (.ckptChunkAck p idx false) s = .next (s.ckptEnd p c false)
         ∧ exec (.ckptChunkTimeout p idx) s = .next (s.ckptEnd p c false))
     ∧ (∀ (s : State) (p idx : Nat) (c : Ckpt) (b : Bool), s.ckpt.find p = some c → idx ∉ c.unacked →
         exec (.ckptChunkAck p idx b) s = .next s ∧ exec (.ckptChunkTimeout p idx) s = .next s)
     ∧ ∀ (s : State) (p : Nat) (c : Ckpt), c.desc = none →
         s.ckptEnd p c false = (({ s with ckpt := s.ckpt.erase p } : State).bump .tilCkptFailed 0 p).ev Ev.tilCkptFail (some p) (Config.detail [c.stream, c.seq]))

/-! ## The fabric network (R164–R187) -/

/-- Flits (R168, R169, R180, R184, R185): a router passes a well-formed flit on in X first, then in Y, then to DPORT, and discards one with a wrong
tag parity or a destination that does not exist, counted and reported, with the rest of its packet; an ejecting endpoint delivers a flit that its
check finds clean, corrects a byte, poisons what it cannot correct, and discards a control flit of wrong parity; a held tile's bridge takes flits for
its tile. Ingress, retries and time limits (R176, R186, R189, R374): a request enters its partition's queue of 32 at its port, at a stack's port in
class STD where it arrives in class SYS and is not the hub's own; with a full queue, or a write with a full mirror queue, a scheduled one is recorded
as a retry and dropped, and any other waits; a retry has its request issued again under its tracker; a tracker whose time passes completes with poison
and keeps its number. -/
def Obligations.FlitsTravel : Prop :=
  ((∀ (s : State) (x y : Nat) (f : Flit), s.noc.dropping.find (packetKey f) = none → f.net ≠ .dat → tagParityOk f = true → tagDx f.tag < 48 →
        tagDy f.tag < 48 → tagVc f.tag ≠ 3 → endpointAt (tagDx f.tag) (tagDy f.tag) (tagDport f.tag) = true →
        exec (.routerFlitArrival x y f) s = .next (s.emit (.flitOut x y (if x < tagDx f.tag then 2 else if tagDx f.tag < x then 4
          else if y < tagDy f.tag then 3 else if tagDy f.tag < y then 1 else tagDport f.tag) f)))
    ∧ (∀ (s : State) (x y : Nat) (f : Flit), s.noc.dropping.find (packetKey f) = none → tagLast f.tag = true →
        (tagParityOk f = false ∨ 48 ≤ tagDx f.tag ∨ 48 ≤ tagDy f.tag ∨ tagVc f.tag = 3 ∨
          endpointAt (tagDx f.tag) (tagDy f.tag) (tagDport f.tag) = false) →
        exec (.routerFlitArrival x y f) s = .next ((({ s with noc := { s.noc with dropping := s.noc.dropping.erase (packetKey f) } } :
          State).bump .nocParityErr).ev Ev.nocTagParity))
    ∧ (∀ (s : State) (x y : Nat) (f : Flit), s.noc.dropping.find (packetKey f) = some () → tagLast f.tag = false →
        exec (.routerFlitArrival x y f) s = .next s)
    ∧ (∀ (s : State) (x y port : Nat) (f : Flit), (port = 0 → s.tileHeld (tileAt x y) = false) →
        (f.net ≠ .dat → payloadParityOk f = true →
          exec (.flitEject x y port f) s = .next (s.emit (.flitTaken x y port f (tagPoison f.tag))))
        ∧ (f.net ≠ .dat → payloadParityOk f = false → exec (.flitEject x y port f) s = .next ((s.bump .nocParityErr).ev Ev.nocCtlParity))
        ∧ (f.net = .dat → checkWord (codeWord f) = .clean →
            exec (.flitEject x y port f) s = .next (s.emit (.flitTaken x y port f (tagPoison f.tag))))
        ∧ (f.net = .dat → checkWord (codeWord f) = .bad → exec (.flitEject x y port f) s =
            .next (((s.bump .nocDatUe).ev Ev.nocDatUe f.ptn).emit (.flitTaken x y port f true))))
    ∧ ∀ (s : State) (x y : Nat) (f : Flit), s.tileHeld (tileAt x y) = true →
        (f.net = .snp → exec (.flitEject x y 0 f) s = .next (s.emit (.bridgeAck x y f)))
        ∧ (f.net = .dat ∨ f.net = .rsp → exec (.flitEject x y 0 f) s = .next (s.bump .nocBridgeDiscards)))
  ∧ ((∀ (s : State) (port : Nat) (ch : Chan) (r : HomeReq), (s.ingressQueue port r.lab.ptn).length < 32 →
         (r.data = [] ∨ s.mirrorFull r.lab.ptn = false) → (r.lab.cls ≠ 7 ∨ selKind port ≠ 4 ∨ r.entry = .hub) → ∃ t,
         exec (.ingressReq port ch r) s = .next t ∧ t.ingressQueue port r.lab.ptn = s.ingressQueue port r.lab.ptn ++ [r]
         ∧ (∀ a b, 32 * a + b ≠ 32 * port + r.lab.ptn → t.ingressQueue a b = s.ingressQueue a b) ∧ { t with noc := s.noc } = s)
     ∧ (∀ (s : State) (port : Nat) (ch : Chan) (r : HomeReq), (s.ingressQueue port r.lab.ptn).length < 32 →
         (r.data = [] ∨ s.mirrorFull r.lab.ptn = false) → r.lab.cls = 7 → selKind port = 4 → r.entry ≠ .hub → ∃ t,
         exec (.ingressReq port ch r) s = .next t ∧ t.ingressQueue port r.lab.ptn = s.ingressQueue port r.lab.ptn ++ [{ r with lab := { r.lab with cls := 2 } }]
         ∧ { t with noc := s.noc } = s.bump .qosSysDemoted 0 r.lab.ptn)
     ∧ (∀ (s : State) (port : Nat) (r : HomeReq), 32 ≤ (s.ingressQueue port r.lab.ptn).length ∨ (r.data ≠ [] ∧ s.mirrorFull r.lab.ptn = true) → ∃ t,
         exec (.ingressReq port .sch r) s = .next t ∧ t.sent = s.sent ++ [.retry port r.id] ∧ t.noc.ingress = s.noc.ingress
         ∧ t.noc.retries.get port [] = s.noc.retries.get port [] ++ [(r.lab.ptn, r.id)] ∧ t.mem = s.mem)
     ∧ (∀ (s : State) (port : Nat) (ch : Chan) (r : HomeReq), 32 ≤ (s.ingressQueue port r.lab.ptn).length ∨ (r.data ≠ [] ∧ s.mirrorFull r.lab.ptn = true) →
         ch ≠ .sch →
         exec (.ingressReq port ch r) s = .next s)
     ∧ (∀ (s : State) (id : Nat) (k : Tracker), s.noc.trackers.find id = some k → ∃ t, exec (.retryRx id) s = .next t
         ∧ t.sent = s.sent ++ [.reissue id] ∧ t.noc.trackers.find id = some { k with retried := true } ∧ t.mem = s.mem ∧ t.regs = s.regs
         ∧ ∀ port e, e ∈ t.noc.retries.get port [] → e.2 ≠ id)
     ∧ (∀ (s : State) (id p : Nat) (k : Tracker), s.noc.trackers.find id = some k → k.timedOut = false → k.landed = false → k.phase = .out → k.ptn = some p →
         exec (.nocRspTimeout id) s = .next ((((s.timeOut id k).bump .nocTimeouts 0 p).settleEntry
           ((s.timeOut id k).bump .nocTimeouts 0 p).entryFuel k.entry).ev Ev.nocRspTimeout (some p)))
     ∧ (∀ (s : State) (id : Nat) (k : Tracker), s.noc.trackers.find id = some k → k.timedOut = true → exec (.nocRspTimeout id) s = .next s)
     ∧ ∀ (s : State) (id : Nat) (k : Tracker), k.entry = .engine 0 → ∃ x, (s.timeOut id k).noc.trackers.find id = some x ∧ x.timedOut = true)

/-- The DAT check code (R184): in a clean code word of 136 bytes, an error in one byte is found at its place and with what was added. -/
def Obligations.ByteErrorsAreFound : Prop :=  ∀ (u : List Byte) (i e : Nat) (b : Byte), u.length = 136 → checkWord u = .clean → u[i]? = some b → 0 < e → e < 256 →
    checkWord (u.set i (b ^^^ BitVec.ofNat 8 e)) = .byte i e

/-! ## Home agents and coherence (R242–R348) -/

/-- A request that the home granule table serves enters the ordering point of its stack under the next number, after its access is counted for
placement (R333, R337); WB and EVICT act at once; a request of another partition, or under a key of another generation, is answered with poison and
reported (R246), and one for a granule that has moved is forwarded. An uncorrectable error in the line's filter entry takes the partition's domain
down, or is the hub's (R347); a read-modify-write whose old data is uncorrectable stores its unit poisoned and completes with poison (R215). -/
def Obligations.HomeOrders : Prop :=  (∀ e ∈ ([((fun h r => .homeRdShared h r 0), .rdShared), ((fun h r => .homeRdUnique h r 0), .rdUnique), ((fun h r => .homeClaim h r 0), .claim),
      ((fun h r => .homeRdNa h r 0), .rdNa), ((fun h r => .homeWrRed h r [] 0), .reduce), ((fun h r => .homeWrite h false r [] 0), .write),
      ((fun h r => .homeWrite h true r [] 0), .stash), ((fun h r => .homeWb h r 0), .wb), ((fun h r => .homeEvict h r 0), .evict)] :
      List ((Nat → HomeReq → Instr) × ReqOp)),
    ∀ (s u v : State) (h : Nat) (r : HomeReq) (t : Txn), s.stackUp h = true → stackOf r.hpa = h → s.rd .secState ≠ seZeroised →
      (s.hgtCheck r = .serve ∨ s.hgtCheck r = .wait →
        u = (if e.2.reads then (s.sampleHeat (granOf r.hpa) r).countRow r.hpa else s.sampleHeat (granOf r.hpa) r) →
        (e.2.line = true → u.domainLost r.lab.ptn = false) →
        t = { n := u.coh.nextTxn, h, op := e.2, req := r, lines := linesOf r.hpa r.len } →
        v = { u with coh := { u.coh with nextTxn := u.coh.nextTxn + 1, txns := u.coh.txns ++ [t] } } →
        exec (e.1 h r) s = .next (if e.2 = .wb ∨ e.2 = .evict then (v.wbEvict t).pumped else v.pumped))
      ∧ (s.hgtCheck r = .stale →
        exec (e.1 h r) s = .next ((s.poisonAnswer h e.2 r hsOk).ev Ev.jayStaleHpa (some r.lab.ptn)))
      ∧ (s.hgtCheck r = .staleKey →
        exec (e.1 h r) s = .next ((s.poisonAnswer h e.2 r hsOk).ev Ev.jayKgenStale (some r.lab.ptn)))
      ∧ (∀ hg, s.hgtCheck r = .forward hg → e.2.reads = false →
        exec (e.1 h r) s = .next ((s.sampleHeat (granOf r.hpa) r).emit (.forward e.2.code
          { r with hpa := hg * Config.granule + r.hpa % Config.granule }))))
  ∧ (∀ (s : State) (r : HomeReq), r.entry ≠ .hub →
      ((s.hgt (granOf r.hpa)).owner ≠ r.lab.ptn → s.hgtCheck r = .stale)
      ∧ ((s.hgt (granOf r.hpa)).owner = r.lab.ptn → (s.hgt (granOf r.hpa)).state = .locked → s.hgtCheck r = .wait)
      ∧ ((s.hgt (granOf r.hpa)).owner = r.lab.ptn → (s.hgt (granOf r.hpa)).state = .forward →
          s.hgtCheck r = .forward (s.hgt (granOf r.hpa)).fwd)
      ∧ ((s.hgt (granOf r.hpa)).owner = r.lab.ptn → (s.hgt (granOf r.hpa)).state = .mapped →
          (r.kgen = (s.hgt (granOf r.hpa)).kgen → s.hgtCheck r = .serve)
          ∧ (r.kgen ≠ (s.hgt (granOf r.hpa)).kgen → r.kgen ≠ ((s.hgt (granOf r.hpa)).kgen + 3) % 4 → s.hgtCheck r = .staleKey)))
  ∧ (∀ (s : State) (t : Txn), s.windowed t.req.hpa = false →
      (t.op = .evict → s.recorded (lineOf t.req.hpa) (agentNo t.req) ≠ .m → s.recorded (lineOf t.req.hpa) (agentNo t.req) ≠ .o →
        s.wbEvict t = (s.removeHolder (lineOf t.req.hpa) (agentNo t.req)).endTxn t hsOk 0 [] 0)
      ∧ (t.op = .wb → s.recorded (lineOf t.req.hpa) (agentNo t.req) = .i ∨ s.recorded (lineOf t.req.hpa) (agentNo t.req) = .s →
        s.wbEvict t = (s.bump .cohStaleWb 0 t.req.lab.ptn).endTxn t hsOk 0 [] 0)
      ∧ (t.op = .wb → s.recorded (lineOf t.req.hpa) (agentNo t.req) = .m →
        s.wbEvict t = ((s.storeMasked (lineOf t.req.hpa * 64) t.req.data t.req.poison).removeHolder (lineOf t.req.hpa) (agentNo t.req)).completeTxn
          { t with phase := .rlive, got := [lineOf t.req.hpa], lines := [] }))
  ∧ (∀ (s : State) (h : Nat) (r : HomeReq) (x : Region) (es : List ReadErr), s.regionAt (regionOfLine (lineOf r.hpa)) = some x →
      exec (.homeWrRed h r es 2) s = .next (s.ev Ev.cohSfUe none)
      ∧ exec (.homeRdShared h r 1) s = .next ((s.takedown x.ptn 6 0 (lineOf r.hpa)).pumped.homeServe h .rdShared r []))
  ∧ (∀ (s : State) (t : Txn) (l : Nat), t.errs = [] ∨ t.taken.isSome = true → s.rmwPoison t l = (s, t))
  ∧ ∀ (s : State) (t : Txn) (l x i : Nat), x = t.req.hpa / 32 * 32 + 32 * i → x / 64 = l → t.errs = [.uncorrectable i] → t.taken = none →
      t.op = .reduce → s.unit t.req.hpa = 32 → s.unit x = 32 → s.granOwner (granOf x) = none → s.unitPoisoned 32 (x / 32 * 32) = false →
      (s.rmwPoison t l).1.unitPoisoned 32 (x / 32 * 32) = true ∧ (i < t.req.len / 32 → (s.rmwPoison t l).2.poison.testBit i = true)

/-- The table of R333 and R335: which holders a request to a line snoops, and with which snoop. Snoop answers and the takedown of a domain (R338,
R340, R341, R346–R348): GACK ends its grant; an answer that the table of R341 permits is taken off the list, its data goes to memory or to its
requester, and the holder's state is recorded; an answer that it does not permit, one that no snoop awaits, or none within the time takes the domain
down, with its cause, agent and line recorded and counted; the walk's end frees the partition's entries and the domain reads DOWN. -/
def Obligations.LinesAreSnooped : Prop :=
  (∀ (s : State) (t : Txn) (l a : Nat) (x : Region), t.lines = [l] → a = agentNo t.req → s.regionAt (regionOfLine l) = some x →
      s.windowed t.req.hpa = false →
      (t.op = .rdShared → s.recorded l a ≠ .m → s.recorded l a ≠ .o →
        ((s.lineF l).st = .i ∨ (s.lineF l).st = .s ∨ s.recorded l a = .e → s.serveLine t = s.await { t with reading := true } [] .shared)
        ∧ ((s.lineF l).st = .e ∨ (s.lineF l).st = .m → s.recorded l a ≠ .e →
            s.serveLine t = s.await { t with reading := true } [x.agentOf (s.lineF l).own] .shared)
        ∧ ((s.lineF l).st = .o → s.recorded l a ≠ .e → s.serveLine t = s.await { t with reading := false } [x.agentOf (s.lineF l).own] .shared))
      ∧ (t.op = .rdUnique → s.recorded l a ≠ .m → s.recorded l a ≠ .o →
          s.serveLine t = s.await { t with reading := (s.lineF l).st != .o } ((s.holders l).filter (· != a)) .inv)
      ∧ (t.op = .claim → s.recorded l a = .s ∨ s.recorded l a = .o ∨ s.recorded l a = .e →
          s.serveLine t = s.await t ((s.holders l).filter (· != a)) .inv)
      ∧ (t.op = .claim → s.recorded l a = .i →
          s.serveLine t = s.await { t with op := .rdUnique, reading := (s.lineF l).st != .o } ((s.holders l).filter (· != a)) .inv)
      ∧ (t.op = .claim ∨ t.op = .rdShared ∨ t.op = .rdUnique → s.recorded l a = .m → s.serveLine t = s.takedown t.req.lab.ptn 3 a l)
      ∧ (t.op = .write ∨ t.op = .stash ∨ t.op = .reduce → s.serveLine t = s.await t (s.holders l) .inv)
      ∧ (t.op = .rdNa → t.req.opx ≠ 1 → s.serveLine t = s.await t [] .na))
  ∧ ((∀ (s : State) (h l : Nat) (t : Txn), s.coh.txns.find? (fun t => t.h == h && t.phase == .grant && t.lines.head? == some l) = some t →
         exec (.gack h l) s = .next (s.dropTxn t).pumped)
     ∧ (∀ (s : State) (h agent txid p stc : Nat) (n : Snoop) (hasData poison : Bool) (data : List Byte),
         s.coh.snoops.find? (fun n => n.h == h && n.txid == txid && n.agent == agent) = some n →
         (∀ st, LineState.ofCode stc = some st → permitted n.kind n.recd (s.rd .cohPtnLevel 0 n.ptn == 1) hasData st = true →
           n.kind ≠ .na → n.kind ≠ .hint → exec (.homeSnoopAnswer h agent txid p hasData stc data poison 0) s =
             .next (((((({ s with coh := { s.coh with snoops := s.coh.snoops.erase n } } : State).answerData n hasData st data poison)).recordAnswer
               n.line agent st).answerTo n (if hasData then some (data, poison) else none)).pumped.settleResets))
         ∧ (∀ st, LineState.ofCode stc = some st → permitted n.kind n.recd (s.rd .cohPtnLevel 0 n.ptn == 1) hasData st = false →
           exec (.homeSnoopAnswer h agent txid p hasData stc data poison 0) s = .next (s.takedown n.ptn 1 agent n.line).pumped.settleResets)
         ∧ exec (.homeSnoopAnswer h agent txid p hasData stc data poison 1) s = .next (s.takedown n.ptn 6 agent n.line).pumped.settleResets
         ∧ exec (.homeSnoopAnswer h agent txid p hasData stc data poison 2) s = .next (s.ev Ev.cohSfUe none).settleResets)
     ∧ (∀ (s : State) (h agent txid p stc : Nat) (hasData poison : Bool) (data : List Byte) (ue : Nat),
         s.coh.snoops.find? (fun n => n.h == h && n.txid == txid && n.agent == agent) = none →
         s.coh.reserved.any (fun r => r.1 == h && r.2.1 == txid && r.2.2.1 == agent) = false →
         exec (.homeSnoopAnswer h agent txid p hasData stc data poison ue) s = .next (s.takedown p 2 agent 0).pumped.settleResets)
     ∧ (∀ (s : State) (h txid : Nat) (n : Snoop), s.coh.snoops.find? (fun n => n.h == h && n.txid == txid) = some n → s.ptnState n.ptn ≠ ptnResetting →
         exec (.cohSnpTimeout h txid 0) s = .next (((s.orphan (fun m => m == n)).takedown n.ptn 4 n.agent n.line).pumped.settleResets))
     ∧ (∀ (s : State) (p cause agent l : Nat), s.domainLost p = true → s.takedown p cause agent l = s)
     ∧ (∀ (s : State) (p : Nat), s.coh.walking.find p = some () → exec (.takedownWalkEnd p) s =
         .next (((({ s with coh := { s.coh with walking := s.coh.walking.erase p, regions := s.coh.regions.where (fun _ x => x.ptn != p) } } :
           State).wr .cohDomainState domainDown 0 p)).pumped))
     ∧ (∀ (s : State) (p : Nat), s.coh.walking.find p = none → exec (.takedownWalkEnd p) s = .next s)
     ∧ ∀ (kind : SnpKind) (recd st : LineState) (lvl d : Bool), permitted kind recd lvl d st = true →
         (kind = .inv → st = .i) ∧ (recd = .m ∨ recd = .o → kind ≠ .hint → d = true) ∧ (lvl = true → recd ≠ .o → st ≠ .o))

/-- The snoop filter (R329, R333): an exclusive grant leaves its requester the only holder, in the granted state; a shared grant adds it; an agent
that is removed holds the line no longer, and no other holder is lost. -/
def Obligations.GrantsAreRecorded : Prop :=  (∀ (s : State) (l a : Nat) (x : Region) (st : LineState), s.regionAt (regionOfLine l) = some x → (x.slots.map (fun e => e.1)).Nodup →
      (x.slotOf a).isSome ∨ x.freeSlot.isSome → st = .e ∨ st = .m → ∃ t, s.grantLine l a st = t ∧ t.holders l = [a] ∧ t.recorded l a = st
      ∧ { t with coh := s.coh } = s)
  ∧ (∀ (s : State) (l a : Nat) (x : Region), s.regionAt (regionOfLine l) = some x → (x.slots.map (fun e => e.1)).Nodup →
      (∀ e ∈ x.slots, e.1 < 8) → (x.slotOf a).isSome ∨ x.freeSlot.isSome → a ∈ (s.grantLine l a .s).holders l)
  ∧ ∀ (s : State) (l a : Nat) (x : Region), s.regionAt (regionOfLine l) = some x → (x.slots.map (fun e => e.1)).Nodup →
      (x.slots.map (fun e => e.2)).Nodup → (∀ i ∈ (s.lineF l).pres, ∃ b, (i, b) ∈ x.slots) →
      ∀ b, b ∈ (s.removeHolder l a).holders l ↔ b ∈ s.holders l ∧ b ≠ a

/-! ## Stacks and placement (R206–R270) -/

/-- Read data, repair and retirement (R214, R231–R236): a stack's data completes the read that waits for it, and its bytes are counted; an
uncorrectable error poisons its unit, counts and reports, a corrected one counts and reports; a suspect row is repaired once, its lost columns
poisoned, and recorded, or has its granule retired where its bank has no repair resource left; a reserve granule retires at once. Refresh,
recalibration, patrol and catastrophic temperature (R224, R230, R239, R241): a round refreshes 8 banks at the base rate and 16 at the doubled one; a
stack that resumed serves at throttle level 3; the patrol counts what it reads and reports what it finds; a catastrophic stack is out of service, its
requests are answered with poison, and the event is reported. A replica tile serves a gather of a block that its row cache holds, and forwards one of
a block that it does not hold, or whose row has an uncorrectable error (R97, R267). -/
def Obligations.StacksReadAndRepair : Prop :=
  ((∀ (s : State) (h id : Nat) (t : Txn), s.coh.txns.find? (fun t => t.h == h && t.req.id == id && t.reading) = some t → t.phase = .read →
        exec (.stackReadData h id []) s =
          .next ((((s.countRead t.req.hpa t.req.len).setTxn { t with reading := false, poison := t.poison }).completeTxn
            { t with reading := false, poison := t.poison }).pumped))
    ∧ (∀ (s : State) (h id : Nat) (es : List ReadErr), s.coh.txns.find? (fun t => t.h == h && t.req.id == id && t.reading) = none →
        exec (.stackReadData h id es) s = .next s)
    ∧ (∀ (s : State) (a i : Nat), s.unit (a + 32 * i) = 32 → s.granOwner (granOf (a + 32 * i)) = none →
        s.unitPoisoned 32 ((a + 32 * i) / 32 * 32) = false →
        s.readErr a true (.uncorrectable i) = ((s.ev (Ev.hbmUe (stackOf (a + 32 * i))) none (hpaDetail (a + 32 * i))).trackRow
          (rowAt (a + 32 * i)) true, [(a + 32 * i) / 32 * 32])
        ∧ s.readErr a true (.corrected i) = ((s.ev (Ev.hbmCe (stackOf (a + 32 * i))) none (hpaDetail (a + 32 * i))).trackRow
          (rowAt (a + 32 * i)) false, []))
    ∧ (∀ (s : State) (h pch bank row : Nat), rowNo h pch bank row ∈ s.hbm.suspect → s.stackUp h = true →
        s.migOf (rowGran (rowNo h pch bank row)) = none → (s.hgt (rowGran (rowNo h pch bank row))).state ≠ .locked →
        s.bankLeft (rowNo h pch bank row) = true → ∃ t : State,
        exec (.softRepair h pch bank row []) s = .next (((t.emit (.repair h pch bank row false)).log .repairSoft
          (repairExt (rowNo h pch bank row)) true).denySlots (rowNo h pch bank row))
        ∧ t = ((({ s with hbm := { s.hbm with suspect := s.hbm.suspect.erase (rowNo h pch bank row)
                                              repaired := s.hbm.repaired.set (rowNo h pch bank row) ()
                                              waiting := s.hbm.waiting ++ [rowNo h pch bank row] } } : State).useRepair
                (rowNo h pch bank row)).bump .hbmPprSoft 0 h).bump .hbmPprPending 0 h)
    ∧ (∀ (s : State) (h pch bank row : Nat) (lost : List Nat), rowNo h pch bank row ∈ s.hbm.suspect → s.stackUp h = true →
        s.migOf (rowGran (rowNo h pch bank row)) = none → (s.hgt (rowGran (rowNo h pch bank row))).state ≠ .locked →
        s.bankLeft (rowNo h pch bank row) = false → ∃ t, exec (.softRepair h pch bank row lost) s = .next t
        ∧ t.hbm.suspect = s.hbm.suspect.erase (rowNo h pch bank row) ∧ rowGran (rowNo h pch bank row) ∈ t.jay.retire ∧ t.mem = s.mem
        ∧ t.regs = s.regs ∧ t.sent = s.sent)
    ∧ (∀ (s : State) (h pch bank row : Nat) (lost : List Nat), rowNo h pch bank row ∉ s.hbm.suspect →
        exec (.softRepair h pch bank row lost) s = .next s)
    ∧ ∀ (s : State) (hg : Nat), hg ∈ s.jay.retire → (s.hgt hg).state = .free ∨ (s.hgt hg).state = .reserve →
        exec (.granuleRetire hg) s = .next ((s.setHgt hg { state := .offline }).retired hg (2 ^ 19 - 1)))
  ∧ ((∀ (s : State) (h : Nat), s.stackUp h = true →
         (s.rd .hbmRefreshRate 0 h = 0 → exec (.refreshRound h) s = .next (s.emit (.refresh h (8 * (s.beat.total % 8)) 8)))
         ∧ (s.rd .hbmRefreshRate 0 h ≠ 0 → exec (.refreshRound h) s = .next (s.emit (.refresh h (16 * (s.beat.total % 4)) 16)))
         ∧ exec (.hbmRecal h) s = .next (s.emit (.recalibrate h)))
     ∧ (∀ (s : State) (h hpa : Nat) (e : Option ReadErr), s.stackUp h = false → exec (.refreshRound h) s = .next s
         ∧ exec (.hbmRecal h) s = .next s ∧ exec (.memoryPatrol h hpa e) s = .next s)
     ∧ (∀ (s : State) (h : Nat), (s.temp h).resuming = true → ∃ t, exec (.stackRecalDone h) s = .next t
         ∧ t.rd .hbmStackState 0 h = stackReady ∧ t.rd .hbmThrottleLevel 0 h = 3 ∧ (t.temp h).resuming = false ∧ t.mem = s.mem
         ∧ t.sent = s.sent)
     ∧ (∀ (s : State) (h hpa : Nat) (e : ReadErr), s.stackUp h = true → stackOf hpa = h → s.rd .hbmPatrolHours ≠ 0 →
         exec (.memoryPatrol h hpa none) s = .next (s.countRead hpa 32)
         ∧ exec (.memoryPatrol h hpa (some e)) s = .next ((s.countRead hpa 32).readErr (hpa / 32 * 32) false e).1)
     ∧ (∀ (s : State) (h : Nat), h < 8 → s.rd .hbmStackState 0 h = stackReady → s.jay.migs = [] → ∃ t : State,
         exec (.hbmCattrip h) s = .next (((t.poisonAll h).ev (Ev.hbmCattrip h)).thermalAbort h) ∧ t.rd .hbmStackState 0 h = stackCattrip
         ∧ t.rd .hbmStacksPresent = clearBit (s.rd .hbmStacksPresent) h % 2 ^ 8 ∧ t.coh = s.coh ∧ t.mem = s.mem)
     ∧ (∀ (s : State) (t : Nat) (r : HomeReq) (x : RowBlock), s.tile.rows.find (128 * t + s.rowSlot r.lab.ptn
           ((r.pgran * Config.granule + r.hpa % Config.granule) / 256)) = some x → x.ptn = r.lab.ptn →
         x.block = (r.pgran * Config.granule + r.hpa % Config.granule) / 256 →
         exec (.replicaGather t r .clean) s = .next (((s.bump .jayRowHits 0 r.lab.ptn).emit (.rowHit t r.id ((x.data.drop (r.hpa % 256)).take r.len))).answerReq
           r.id hsOk 0 ((x.data.drop (r.hpa % 256)).take r.len) 0)
         ∧ exec (.replicaGather t r .sramUe) s = .next ((({ s with tile := { s.tile with rows := s.tile.rows.erase (128 * t + s.rowSlot r.lab.ptn
             ((r.pgran * Config.granule + r.hpa % Config.granule) / 256)) } } : State).tileUe r.lab.ptn t Ev.tilRowcacheUe).emit (.forward 5 r))
         ∧ exec (.replicaGather t r .sramCe) s = exec (.replicaGather t r .clean) (s.tileCe r.lab.ptn t Ev.tilSramCe))
     ∧ ∀ (s : State) (t : Nat) (r : HomeReq) (e : TileErr), s.tile.rows.find (128 * t + s.rowSlot r.lab.ptn
           ((r.pgran * Config.granule + r.hpa % Config.granule) / 256)) = none → exec (.replicaGather t r e) s = .next (s.emit (.forward 5 r)))

/-- Lookups (R248–R251): outside the directory's length a lookup is refused; a valid entry is answered with its translation, one that is locked waits;
an unmapped granule of a partition in hardware mode is mapped on a granule of its pool, or refused where none is left; in host mode the miss is
recorded; an answer fills the cache of its entry point. Migrations (R254–R266): the pass plans retirements, drains, orders, sweeps and hot granules in
that order; a copy pass ends in a further pass over the dirty blocks or in the lock; the remap, once every region is recalled, carries the bytes to
the target, and the directory and the home granule table name it; the source is free when every receiver has acknowledged; an abandoned lock leaves
the granule mapped at its place; a full heat buffer's oldest count reaches its slice; a fill is acknowledged. -/
def Obligations.GranulesTranslateAndMigrate : Prop :=
  ((∀ (s : State) (e : Entry) (p g : Nat) (ue : Bool), s.dlen p ≤ g → ∃ t, exec (.sliceLookup e p g ue) s = .next t
        ∧ t.sent = s.sent ++ [.xlate e p g none] ∧ t.jay.answers = s.jay.answers ++ [(e, p, g, none)] ∧ t.jay.dir = s.jay.dir
        ∧ t.jay.hgt = s.jay.hgt ∧ t.mem = s.mem)
    ∧ (∀ (s : State) (e : Entry) (p g : Nat), g < s.dlen p → (s.dirEntry p g).valid = true → (s.dirEntry p g).mstate ≠ .locked → ∃ t,
        exec (.sliceLookup e p g false) s = .next t ∧ t.sent = s.sent ++ [.xlate e p g (some (s.dirEntry p g).hgran)]
        ∧ (∃ x : XEntry, t.jay.answers = s.jay.answers ++ [(e, p, g, some x)] ∧ x.hgran = (s.dirEntry p g).hgran ∧ x.sfmt = (s.dirEntry p g).sfmt
            ∧ x.kgen = (s.dirEntry p g).kgen) ∧ { t with sent := s.sent, jay := s.jay } = s)
    ∧ (∀ (s : State) (e : Entry) (p g : Nat), g < s.dlen p → (s.dirEntry p g).valid = true → (s.dirEntry p g).mstate = .locked →
        exec (.sliceLookup e p g false) s = .next { s with jay := { s.jay with lockWait := s.jay.lockWait ++ [(e, p, g)] } })
    ∧ (∀ (s : State) (e : Entry) (p g hg : Nat), g < s.dlen p → (s.dirEntry p g).valid = false → s.rd .jayMissMode 0 p = 0 →
        s.takePool p (stackOrder (siteOf e)) = some hg → ∃ t, exec (.sliceLookup e p g false) s = .next t
        ∧ (s.mapGranule p g hg 0).jay.hgt = t.jay.hgt ∧ (s.mapGranule p g hg 0).jay.dir = t.jay.dir ∧ (t.hgt hg).state = .mapped
        ∧ (t.dirEntry p g).valid = true ∧ (t.dirEntry p g).hgran = hg ∧ t.mem = s.mem)
    ∧ (∀ (s : State) (e : Entry) (p g : Nat), g < s.dlen p → (s.dirEntry p g).valid = false → s.rd .jayMissMode 0 p = 0 →
        s.takePool p (stackOrder (siteOf e)) = none → exec (.sliceLookup e p g false) s = .next (s.sliceRefuse e p g))
    ∧ (∀ (s : State) (e : Entry) (p g : Nat), g < s.dlen p → (s.dirEntry p g).valid = false → s.rd .jayMissMode 0 p ≠ 0 →
        exec (.sliceLookup e p g false) s = .next (s.recordMiss e p g))
    ∧ (∀ (s : State) (k p g : Nat) (a : Entry × Nat × Nat × Option XEntry), s.jay.answers.find? (fun a => a.1 == .site k && a.2.1 == p && a.2.2.1 == g) = some a →
        a.2.2.2 = none → exec (.xlateAnswer (.site k) p g) s = .next (({ s with jay := { s.jay with answers := s.jay.answers.erase a } } : State).each
          (({ s with jay := { s.jay with answers := s.jay.answers.erase a } } : State).waitingFor (.site k) p g)
          (fun s id => (s.bump .htlRefused k hsXlate).answerReq id hsXlate 0 [] 0)))
    ∧ ∀ (s : State) (p g : Nat), (s.jay.misses.get p []).find? (fun m => m.gran == g) = none → exec (.jayMissTimeout p g) s = .next s)
  ∧ ((∀ s : State, s.jay.retire = [] → s.jay.drains = [] → s.jay.moves = [] → s.jay.sweeps = [] →
         exec .jayPlacementPass s = .next (s.each s.hotPlans State.plan1))
     ∧ (∀ (s : State) (src : Nat) (m : Mig), s.migOf src = some m → m.phase = .copy → 0 < m.pass →
         (m.pass + 1 < s.rd .jayCopyPasses → m.dirty ≠ [] → exec (.migrationPassDone src []) s = .next ((s.countCopy m
           (256 * m.dirty.length)).setMig { m with pass := m.pass + 1, dirty := [], bad := m.bad.filter (fun u => !m.dirty.contains (u / 256)) }))
         ∧ (s.rd .jayCopyPasses ≤ m.pass + 1 ∨ m.dirty = [] → exec (.migrationPassDone src []) s = .next (s.lockMig { m with pass := m.pass + 1 })))
     ∧ (∀ (s : State) (m : Mig) (i : Nat), s.unit (m.src * Config.granule + 32 * i) = 32 → s.granOwner (granOf (m.src * Config.granule + 32 * i)) = none →
         s.unitPoisoned 32 ((m.src * Config.granule + 32 * i) / 32 * 32) = false →
         (s.copyErrs m [.uncorrectable i]).2 = { m with bad := m.bad ++ [(m.src * Config.granule + 32 * i) / 32 * 32 - m.src * Config.granule] })
     ∧ (∀ (s : State) (src dst k : Nat), src ≠ dst → Memory.wf s.mem = true → k < Config.granule →
         AMap.get (s.carry src dst).mem (dst * Config.granule + k) 0 = AMap.get s.mem (src * Config.granule + k) 0)
     ∧ (∀ (s : State) (src dst a : Nat), Memory.wf s.mem = true → a / Config.granule ≠ dst → AMap.get (s.carry src dst).mem a 0 = AMap.get s.mem a 0)
     ∧ (∀ (s : State) (src : Nat) (m : Mig), s.migOf src = some m → m.phase ≠ .locked → exec (.migrationRemap src []) s = .next s)
     ∧ (∀ (s : State) (src : Nat) (m : Mig), s.migOf src = some m → m.phase = .locked → s.coh.regions = [] → s.coh.txns = [] → m.gran = none →
         m.kind ≠ .retire → ∃ t u : State, u = (s.countCopy m (256 * m.dirty.length)).carry src m.dst ∧ exec (.migrationRemap src []) s = .next t
         ∧ t.mem = u.mem ∧ (t.migOf src) = none)
     ∧ (∀ (s : State) (src : Nat) (m : Mig), s.migOf src = some m → m.phase = .locked →
         exec (.migrationAbandon src) s = .next (s.cancelMig m .jayMigAbandoned))
     ∧ (∀ (s : State) (src : Nat) (m : Mig) (i : Inval), s.migOf src = some m → s.jay.inval.find? (fun i => i.source == some src) = some i →
         i.waiting ≠ [] → exec (.migrationDone src) s = .next s)
     ∧ (∀ (s : State) (src : Nat) (m : Mig) (i : Inval), s.migOf src = some m → s.jay.inval.find? (fun i => i.source == some src) = some i →
         i.waiting = [] → s.jay.queued = [] → m.kind ≠ .retire → ∃ t, exec (.migrationDone src) s = .next t ∧ t.migOf src = none
         ∧ (t.dirEntry m.ptn i.gran).mstate = .idle ∧ t.mem = s.mem ∧ t.regs = s.regs)
     ∧ (∀ (s : State) (h : Nat) (x : HeatInc) (r : List HeatInc), s.jay.heatBuf.get h [] = x :: r → ∃ t, exec (.heatIncrement h) s = .next t
         ∧ t.jay.heatBuf.get h [] = r ∧ (t.jay.dir.get x.entry {}).heat = addHeat (s.jay.dir.get x.entry {}).heat x.site x.count
         ∧ { t with jay := s.jay } = s)
     ∧ (∀ (l : List Nat) (k n : Nat), (∀ i v, l[i]? = some v → (addHeat l k n)[i]? = some (if i = k then min 15 (v + n) else v)))
     ∧ ∀ (s : State) (t p block : Nat), exec (.rowFillAck t p block) s = .next (({ s with jay := { s.jay with
         fills := s.jay.fills.filter (fun f => !(f.tile == t && f.ptn == p && f.block == block)) } } : State).pumped))

/-- A granule's invalidation and a partition's commands (R251, R257, R258): a receiver drops its translation and acknowledges once nothing of the
granule is in flight; the last acknowledgement ends the invalidation and writes its code. MAP, UNMAP, SETFMT, PIN, HINT, ROWREP, MOVE and ACK take
effect on a granule within the directory's length and in the state that they ask, and leave their code else. -/
def Obligations.PlacementCommands : Prop :=  (∀ (s : State) (e : Entry) (p g : Nat) (i : Inval), s.jay.inval.find? (fun i => i.ptn == p && i.gran == g && i.waiting.contains e) = some i →
      i.xlate = true → (∀ t, e ≠ .tile t) → (s.cacheDrop e p g).drained e p g = true →
      exec (.granuleInvalidate e p g) s = .next ((s.cacheDrop e p g).emit (.invalAck e p g)) ∧ (s.cacheDrop e p g).cacheFind e p g = none)
  ∧ (∀ (s : State) (e : Entry) (p g c : Nat) (i : Inval), s.jay.inval.find? (fun i => i.ptn == p && i.gran == g && i.waiting.contains e) = some i →
      i.waiting = [e] → i.source = none → i.code = some c → i.rows = false →
      exec (.invalidationAck e p g) s = .next (({ s with jay := { s.jay with inval := s.jay.inval.erase i } } : State).jayResult p c))
  ∧ (∀ c ∈ ([(fun p g => .jayCmdMap p g 8 0), .jayCmdUnmap, (fun p g => .jayCmdSetFmt p g 0), (fun p g => .jayCmdPin p g true),
      (fun p g => .jayCmdHint p g 0), (fun p g => .jayCmdRowrep p g true), (fun p g => .jayCmdMove p g 0), .jayCmdAck] : List (Nat → Nat → Instr)),
    ∀ (s : State) (p g : Nat), s.dlen p ≤ g → exec (c p g) s = .next (s.jayResult p jcOutOfRange))
  ∧ (∀ (s : State) (p code : Nat), code < 256 → s.rdField .jayCmdResult 23 0 0 p + 1 < 2 ^ 24 →
      (s.jayResult p code).rdField .jayCmdResult 31 24 0 p = code
      ∧ (s.jayResult p code).rdField .jayCmdResult 23 0 0 p = s.rdField .jayCmdResult 23 0 0 p + 1)
  ∧ (∀ (s : State) (p g stack sfmt hg : Nat), g < s.dlen p → (s.dirEntry p g).valid = false → stack < 8 → s.takePool p [stack] = some hg →
      exec (.jayCmdMap p g stack sfmt) s = .next (((s.mapGranule p g hg sfmt).answerMiss p g).jayResult p jcDone))
  ∧ (∀ (s : State) (p g stack sfmt : Nat), g < s.dlen p → (s.dirEntry p g).valid = true →
      exec (.jayCmdMap p g stack sfmt) s = .next (s.jayResult p jcAlreadyMapped))
  ∧ (∀ (s : State) (p g sfmt : Nat), g < s.dlen p → (s.dirEntry p g).valid = true →
      ((s.dirEntry p g).mstate = .idle → exec (.jayCmdUnmap p g) s = .next (s.unmapNow p g (some jcDone))
        ∧ exec (.jayCmdSetFmt p g sfmt) s = .next (s.setFmtNow p g sfmt (some jcDone)))
      ∧ ((s.dirEntry p g).mstate ≠ .idle → ∃ t, exec (.jayCmdUnmap p g) s = .next t ∧ t.jay.queued = s.jay.queued ++ [.unmap p g]
        ∧ t.jay.dir = s.jay.dir))
  ∧ (∀ (s : State) (p g : Nat), ((s.unmapNow p g (some jcDone)).dirEntry p g).valid = false
      ∧ ((s.unmapNow p g (some jcDone)).hgt (s.dirEntry p g).hgran).state = .pool ∧ (s.unmapNow p g (some jcDone)).mem = s.mem)
  ∧ (∀ (s : State) (p g stack : Nat) (v : Bool), g < s.dlen p → (s.dirEntry p g).valid = true → stack < 8 →
      exec (.jayCmdPin p g v) s = .next ((s.setDir p g { s.dirEntry p g with pin := v }).jayResult p jcDone)
      ∧ exec (.jayCmdHint p g stack) s = .next ((s.setDir p g { s.dirEntry p g with hintEn := true, hintStack := stack }).jayResult p jcDone)
      ∧ exec (.jayCmdRowrep p g v) s = .next (((s.setDir p g { s.dirEntry p g with rowrep := v }).setHgt (s.dirEntry p g).hgran
          { s.hgt (s.dirEntry p g).hgran with rowrep := v }).invalidate p g (((s.setDir p g { s.dirEntry p g with rowrep := v }).setHgt
            (s.dirEntry p g).hgran { s.hgt (s.dirEntry p g).hgran with rowrep := v }).receivers p) true (!v) (some jcDone) [] none))
  ∧ (∀ (s : State) (p g stack : Nat), g < s.dlen p → s.hostAssisted p = false → exec (.jayCmdMove p g stack) s = .next (s.jayResult p jcMode)
      ∧ exec (.jayCmdAck p g) s = .next (s.jayResult p jcMode))
  ∧ (∀ (s : State) (p g stack : Nat) (x : Posting), g < s.dlen p → s.hostAssisted p = true →
      ((s.dirEntry p g).valid = true → (s.jay.moves.filter (fun m => m.1 == p)).length < 64 → ∃ t, exec (.jayCmdMove p g stack) s = .next t
        ∧ t.jay.moves = s.jay.moves ++ [(p, g, stack)] ∧ t.jay.dir = s.jay.dir ∧ t.mem = s.mem)
      ∧ (s.jay.posting.find p = some x → ∃ t, exec (.jayCmdAck p g) s = .next t ∧ t.jay.posting.find p = some { x with beats := [] }
        ∧ t.jay.dir = s.jay.dir ∧ t.mem = s.mem))
  ∧ ∀ (s : State) (p : Nat) (x : Posting) (b : BitVec 48) (r : List (BitVec 48)), s.jay.posting.find p = some x → x.beats = b :: r →
      b.toNat + s.rd .jayHostDeadline ≤ s.beat.number.toNat → ∃ t, exec (.jayHostMiss p) s = .next t
      ∧ t.jay.posting.find p = some { x with beats := r } ∧ { t with jay := (s.ev Ev.jayHostMiss (some p)).jay } = s.ev Ev.jayHostMiss (some p)

/-! ## Chiplet sites and the hub transaction layer (R271–R322) -/

/-- Link groups (R280, R282, R283): a retry is counted, and the 1,001st within 1 ms reported; a failed retry retrains its group; a good retrain brings
it UP, a first bad one starts another, a second disables the worst module and narrows the group; a module that loses its clock is disabled; the pause
of the start ends by acceptance or by its deadline. Binding and resets of a site (R291, R292, R296): a binding to partitions none of which is sealed,
which its chiplet may serve, is stored; one that names a sealed partition is refused with RUNNING; the operator's reset begins an orderly reset, its
attestation the exchange, and either is refused while a reset runs. Sideband messages (R285–R297): a CAP message is stored, answered and agreed upon,
and attestation begins; a step of the exchange leads to the next and the last to ATTESTED; a refusal fails it; QUIESCED lets the reset go on, a
request begins one, READY releases and trains; ERR is answered and reported; a request without a response goes out three times and ends with TIMEOUT;
the sideband of a site that is asked for READY is polled; another version and a reserved class are answered so. -/
def Obligations.SitesTrainAndAttest : Prop :=
  ((∀ (s : State) (k g : Nat), ((s.site k).retries.get g []).length < 1000 → ∃ t, exec (.uciCrcRetry k g) s = .next t
        ∧ t.regs = (s.bump .uciRetries k).regs ∧ t.sent = s.sent ∧ t.mem = s.mem ∧ s.beat.number ∈ (t.site k).retries.get g []
        ∧ (∀ j, j ≠ k → t.site j = s.site j))
    ∧ (∀ (s : State) (k g : Nat), 1000 ≤ ((s.site k).retries.get g []).length → (∀ b ∈ (s.site k).retries.get g [], b = s.beat.number) →
        0 < s.beatsPerMs → exec (.uciCrcRetry k g) s = .next (((s.bump .uciRetries k).setSite k { s.site k with
          retries := (s.site k).retries.erase g }).ev (Ev.uciRetryRate k) none (Config.detail [g])))
    ∧ (∀ (s : State) (k g : Nat), (s.site k).group g = .up → exec (.uciRetrain k g) s =
        .next ((((s.setGroup k g .training).bump .uciRetrains k)).ev (Ev.uciRetrain k) none (Config.detail [g])))
    ∧ (∀ (s : State) (k g w : Nat) (ok : Bool), (s.site k).group g ≠ .training → exec (.uciRetrainDone k g ok w) s = .next s)
    ∧ (∀ (s : State) (k g w : Nat), (s.site k).group g = .training →
        (exec (.uciRetrainDone k g true w) s = .next (((s.setSite k { s.site k with
          fails := (s.site k).fails.zipIdx.map (fun e => if e.2 = g then 0 else e.1)
          narrowed := (s.site k).narrowed.zipIdx.map (fun e => if e.2 = g then false else e.1) }).setGroup k g .up).settleLink k))
        ∧ ((s.site k).narrowed.getD g false = true → exec (.uciRetrainDone k g false w) s = .next (s.groupDown k g))
        ∧ ((s.site k).narrowed.getD g false = false → (s.site k).fails.getD g 0 ≠ 0 →
            (groupSet (s.site k).populated (s.site k).disabled g).testBit (w % 4) = true →
            exec (.uciRetrainDone k g false w) s = .next ((s.disableModule k (4 * g + w % 4)).narrow k g)))
    ∧ (∀ (s : State) (k m : Nat), (s.site k).populated.testBit m = true → (s.site k).disabled.testBit m = false →
        ((s.site k).group (m / 4)).inUse = false → exec (.fwdClockLoss k m) s = .next ((s.disableModule k m).settleLink k))
    ∧ (∀ (s : State) (k m : Nat), (s.site k).disabled.testBit m = true → exec (.fwdClockLoss k m) s = .next s)
    ∧ (∀ (s : State) (k mask down : Nat) (rate : Option Nat), (s.site k).pause = true →
        exec (.uciRepairAccept .operator k mask rate down) s = .next (State.answered (stOk, (s.wr .uciRepairAccept mask k).endPause k mask rate down))
        ∧ exec (.uciRepairDeadlineExpiry k rate down) s = .next ((s.ev (Ev.uciRepairMiss k)).endPause k 0 rate down))
    ∧ ∀ (s : State) (k mask down : Nat) (rate : Option Nat), (s.site k).pause = false →
        exec (.uciRepairAccept .operator k mask rate down) s = .next (s.emit (.status stDenied 0))
        ∧ exec (.uciRepairDeadlineExpiry k rate down) s = .next s)
  ∧ ((∀ (s : State) (k p : Nat), p < 32 → s.rd .uciBind k = 0 → s.isSealed p = false → s.testedSite k = false → s.admits p k = true → ∃ t,
         exec (.uciBindWrite .operator k (2 ^ p)) s = .next t ∧ t.rd .uciBind k = 2 ^ p ∧ t.sent = s.sent ++ [.status stOk 0] ∧ t.mem = s.mem)
     ∧ (∀ (s : State) (k mask p : Nat), p < 32 → mask.testBit p = true → s.isSealed p = true →
         exec (.uciBindWrite .operator k mask) s = .next (s.emit (.status stRunning 0)))
     ∧ (∀ (s : State) (k mask : Nat) (role : Role), role ≠ .operator → exec (.uciBindWrite role k mask) s = .next (s.emit (.status stDenied 0)))
     ∧ (∀ (s : State) (k : Nat), (s.site k).reset ≠ .none →
         exec (.uciResetCmdReset .operator k) s = .next (s.emit (.status stBusy 0))
         ∧ exec (.uciResetCmdAttest .operator k) s = .next (s.emit (.status stBusy 0)))
     ∧ ∀ (s : State) (k : Nat), (s.site k).reset = .none → s.rd .uciLinkState k ≠ lsAbsent →
         exec (.uciResetCmdReset .operator k) s = .next (State.answered (stOk, (s.wr .uciResetCmd 1 k).startReset k))
         ∧ (s.sealedBound k = [] → exec (.uciResetCmdAttest .operator k) s = .next (State.answered (stOk, (s.wr .uciResetCmd 2 k).startAttest k)))
         ∧ (s.sealedBound k ≠ [] → exec (.uciResetCmdAttest .operator k) s = .next (s.emit (.status stLocked 0))))
  ∧ ((∀ (s : State) (k txn cap : Nat), s.owl.fatalHub = false → exec (.sbxCap k txn cap) s = .next (s.capRx k txn cap))
     ∧ (∀ (s : State) (k txn cap : Nat), s.rd .uciLinkState k ≠ lsAbsent → s.rd .uciLinkState k ≠ lsDown →
         (negotiate (s.rd .uciProtoAllow k) cap).1 ≠ 0 → s.rd .uciLinkState k = lsUp → ∃ t : State, s.capRx k txn cap = t.startAttest k
         ∧ t.rd .uciCap k = cap % 2 ^ 128 ∧ t.rd .uciProtocol k = (negotiate (s.rd .uciProtoAllow k) cap).1
         ∧ t.rd .uciHtlLevel k = (negotiate (s.rd .uciProtoAllow k) cap).2 ∧ t.sent = s.sent ++ [.sbx k sbxCap true txn 0 (s.wr .uciCap cap k).hubCap])
     ∧ (∀ (s : State) (k : Nat), (s.site k).spdm ≠ 0 →
         exec (.sbxSpdmResponse k .unsupported) s = .next ((s.sbxEnd k sbxSpdm).attestEnd k atUnattested)
         ∧ exec (.sbxSpdmResponse k .bad) s = .next ((s.sbxEnd k sbxSpdm).attestEnd k atFailed))
     ∧ (∀ (s : State) (k : Nat) (r : SpdmResult), (s.site k).spdm = 0 → exec (.sbxSpdmResponse k r) s = .next s)
     ∧ (∀ (s : State) (k : Nat), (s.site k).reset = .quiescing →
         exec (.sbxRstQuiesced k) s = .next ((s.setSite k { s.site k with quiesced := true }).settleReset k))
     ∧ (∀ (s : State) (k txn : Nat), s.owl.fatalHub = false → s.rd .pdxReady = 1 →
         exec (.sbxRstRequest k txn) s = .next ((s.emit (.sbx k sbxRst true txn 0 0)).startReset k))
     ∧ (∀ (s : State) (k : Nat) (rate : Option Nat) (down : Nat), (s.site k).polling = true → exec (.sbxRstReady k rate down) s =
         .next (((s.setSite k { s.site k with reset := .none, quiesced := false }).sbxReset k rstRelease).train k rate down))
     ∧ (∀ (s : State) (k txn payload : Nat), s.owl.fatalHub = false → s.rd .pdxReady = 1 → field payload 63 56 = 0 →
         exec (.sbxErr k txn payload) s = .next ((s.emit (.sbx k 5 true txn 0 0)).report
           { code := Ev.uciChipletErr k, detail := Config.detail [payload], sev := .corrected }))
     ∧ (∀ (s : State) (k txn : Nat) (r : SbxReq), (s.site k).sbx.find txn = some r → s.owl.fatalHub = false →
         (r.attempts < 3 → ∃ t, exec (.sbxTimeout k txn) s = .next t ∧ t.sent = s.sent ++ [.sbx k r.cls false txn 0 r.payload]
           ∧ (t.site k).sbx.find txn = some { r with attempts := r.attempts + 1 } ∧ t.mem = s.mem ∧ t.regs = s.regs)
         ∧ (3 ≤ r.attempts → r.cls ≠ sbxSpdm → exec (.sbxTimeout k txn) s =
             .next ((s.setSite k { s.site k with sbx := (s.site k).sbx.erase txn }).ev (Ev.uciSbTimeout k)))
         ∧ (3 ≤ r.attempts → r.cls = sbxSpdm → exec (.sbxTimeout k txn) s =
             .next (((s.setSite k { s.site k with sbx := (s.site k).sbx.erase txn }).ev (Ev.uciSbTimeout k)).attestEnd k atFailed)))
     ∧ (∀ (s : State) (k : Nat), (s.site k).reset = .none → (s.site k).polling = true → exec (.sidebandPoll k) s = .next (s.emit (.sbxPoll k)))
     ∧ (∀ (s : State) (k : Nat), (s.site k).reset = .quiescing → (s.site k).quiesced = false → (s.site k).lost = false →
         exec (.uciQuiesceTimeout k) s = .next (((s.ev (Ev.uciQuiesceTimeout k)).sbxReset k rstAssert).loseChiplet k))
     ∧ ∀ (s : State) (k cls txn st ver : Nat), s.owl.fatalHub = false → s.rd .pdxReady = 1 →
         (ver ≠ 1 → exec (.sbxOtherMessage k ver cls txn false st) s = .next (s.emit (.sbx k cls true txn 3 0)))
         ∧ (5 < cls → exec (.sbxOtherMessage k 1 cls txn false st) s = .next (s.emit (.sbx k cls true txn 1 0))))

/-- Messages of the hub transaction layer (R304–R318): every opcode of a link group that is UP, with good header parity, is checked; one that passes
is carried into the fabric, one that fails is refused with its status, and operations held for a fence go on; a parity error is counted and reported
and the message has no effect, and a message outside an UP group is discarded and counted. Credits and CXL (R303, R313, R321, R322): a credit-return
entry that is not valid changes nothing, and returned snoop credits free as many of the chiplet's; a CXL message that passes the checks is carried in
as the request of R321, a snoop response is answered to its home, and a message that fails is refused in the form of its protocol. -/
def Obligations.HtlMessages : Prop :=
  ((∀ e ∈ ([(.htlRdShared, oRdShared), (.htlRdUnique, oRdUnique), (.htlClaim, oClaim), (.htlEvict, oEvict), (.htlRdNa, oRdNa), (.htlIntr, oIntr),
        (.htlAbort, oAbort), (.htlWb, oWb), (.htlWrNs, oWrNs), (.htlWrStash, oWrStash), (.htlWrRed, oWrRed), (.htlGatherDesc, oGatherDesc),
        (.htlSync, oSync), (.htlSnpAck, oSnpAck), (.htlSnpData, oSnpData)] : List ((Nat → Nat → Nat → List Byte → Instr) × Nat)),
      ∀ (s : State) (k lg v : Nat) (data : List Byte), k < 8 → s.owl.fatalHub = false → v < 2 ^ 128 →
        (s.takesMessages k lg = true → hparOk v = true → field v 125 120 = e.2 →
          (s.htlCheck k v = hsOk → exec (e.1 k lg v data) s = .next ((s.htlInject k v data).htlUnfence k))
          ∧ (s.htlCheck k v ≠ hsOk → exec (e.1 k lg v data) s = .next ((s.htlRefuse k (htlHdr v) (s.htlCheck k v)).htlUnfence k)))
        ∧ (s.takesMessages k lg = true → hparOk v = false →
          exec (e.1 k lg v data) s = .next ((s.bump .htlHdrParity k).ev (Ev.htlHdrParity k)))
        ∧ (s.takesMessages k lg = false → exec (e.1 k lg v data) s = .next (s.bump .htlRefused k 255)))
    ∧ (∀ (s : State) (k v p : Nat), p = field v 119 115 → (s.rd .uciBind k).testBit p = false → s.htlCheck k v ≠ hsOk)
    ∧ (∀ (s : State) (k v p : Nat), p = field v 119 115 → s.ptnState p ≠ ptnSealed → isAnswerOp (field v 125 120) = false →
        s.htlCheck k v ≠ hsOk)
    ∧ (∀ (s : State) (k v p : Nat), p = field v 119 115 → isLineOp (field v 125 120) = true → s.rd .uciCohRole k p ≠ roleCoherent →
        s.htlCheck k v ≠ hsOk)
    ∧ (∀ (s : State) (k v : Nat), opInfo (field v 125 120) = none → s.htlCheck k v = hsBadField)
    ∧ (∀ (s : State) (k v : Nat) (data : List Byte), (htlHdr v).op = oSnpAck → s.htlInject k v data =
        s.emit (.snpAnswer k (field v 103 91) (field v 119 115) (field v 82 80) [] (field v 15 8 % 4)))
    ∧ (∀ (s : State) (k v : Nat) (data : List Byte), (htlHdr v).op = oRdUnique → (htlHdr v).lab.cls ≠ 7 → s.htlInject k v data =
        s.issue (htlTracker k (htlHdr v) (data.take (htlHdr v).len) ((htlHdr v).poison % 2 ^ ((htlHdr v).len / 32))) (htlHdr v).fence)
    ∧ ∀ (s : State) (k st : Nat) (h : HtlHdr), st ≠ hsIsolation → st ≠ hsConv → ((s.site k).granted.find h.lab.ptn).isSome = false →
        s.htlRefuse k h st = (s.bump .htlRefused k st).emit (.htl k opCmp h.lab h.och h.tag st 0 0 true 0 []))
  ∧ ((∀ (s : State) (k slot : Nat), (∀ j, j < 8 → slot.testBit (16 * j + 15) = false) → exec (.htlCreditReturn k slot) s = .next s)
     ∧ (∀ (s : State) (k e : Nat), e.testBit 15 = true → field e 14 13 = 1 → (s.site k).snpq.get (field e 12 8 % 16) [] = [] → ∃ t,
         s.creditEntry k e = t ∧ (t.site k).snpUsed.get (field e 12 8 % 16) 0 = (s.site k).snpUsed.get (field e 12 8 % 16) 0 - field e 7 0
         ∧ t.sent = s.sent ∧ t.mem = s.mem ∧ t.regs = s.regs)
     ∧ (∀ (s : State) (k tag ppa len : Nat) (m : CxlMsg) (data : List Byte), k < 8 → s.owl.fatalHub = false → s.rd .uciProtocol k = protoCxl →
         s.rd .uciLinkState k = lsUp → (∀ x d, m ≠ .snoopRsp x d) →
         (s.cxlCheck k m tag ppa len = hsOk → ∃ t : Tracker, exec (.cxlMessage k m tag ppa len data false) s = .next (s.issue t false)
           ∧ t.entry = .site k ∧ t.op = reqOpOf (cxlOp m) ∧ t.ppa = ppa ∧ t.len = len ∧ t.tag = tag ∧ t.lab = s.cxlLabel k ∧ t.data = data.take len)
         ∧ (s.cxlCheck k m tag ppa len ≠ hsOk → s.cxlCheck k m tag ppa len ≠ hsIsolation →
             exec (.cxlMessage k m tag ppa len data false) s = .next ((s.bump .htlRefused k (s.cxlCheck k m tag ppa len)).emit
               (.cxl k tag (cxlIo m || (decide (cxlOp m < 0x10) && !cxlMem m)) [] (decide (cxlOp m < 0x10))))))
     ∧ (∀ (s : State) (k tag ppa len x : Nat) (d : Bool) (data : List Byte), k < 8 → s.owl.fatalHub = false → s.rd .uciProtocol k = protoCxl →
         s.rd .uciLinkState k = lsUp → s.cxlCheck k (.snoopRsp x d) tag ppa len = hsOk →
         exec (.cxlMessage k (.snoopRsp x d) tag ppa len data false) s = .next (s.emit (.snpAnswer k tag (s.cxlLabel k).ptn x data 0)))
     ∧ ∀ (s : State) (k tag ppa len : Nat) (m : CxlMsg) (data : List Byte) (poison : Bool), s.owl.fatalHub = false → s.rd .uciProtocol k ≠ protoCxl →
         exec (.cxlMessage k m tag ppa len data poison) s = .next (s.bump .htlRefused k 255))

/-! ## Scale-out (R350–R378) -/

/-- Ports and time (R350, R351, R354, R355): a port's change of state is stored and reported with the state, its own state again changes nothing; a
frame of another kind is dropped and counted; an announcement, a Sync, a Follow_Up and a Delay_Resp of the domain on a port that runs PTP are
recorded, and SOX_PTP_PORT names the best port; on another port they have no effect. The checks of a frame (R359): after a FATAL-HUB nothing is
received; before READY a frame is dropped and counted; a frame that fails check 1, 2, 3 or 4 is dropped and counted under its reason, and reported
from check 3 on; none of them has another effect. Data in order (R358, R363, R364, R367): the next packet of a connection is delivered, an old one is
acknowledged again and not delivered, one too far ahead is dropped; an ACK frees what it names; a congestion notification is counted and cuts the rate
of its plane; after 1 µs an owed ACK goes out; a packet whose time passes is sent again, and the eighth timeout in a row fails the connection; a
period without a signal raises the rate. -/
def Obligations.FramesAndPackets : Prop :=
  ((∀ (s : State) (e st : Nat), e < 16 → st ≤ 3 → s.rd .soxPortState 0 e ≠ st →
        exec (.soxPortChange e st) s = .next ((s.wr .soxPortState st 0 e).ev (Ev.soxPortChange e) none (Config.detail [st]))
        ∧ (s.wr .soxPortState st 0 e).rd .soxPortState 0 e = st)
    ∧ (∀ (s : State) (e : Nat), exec (.soxPortChange e (s.rd .soxPortState 0 e)) s = .next s)
    ∧ (∀ (s : State) (e : Nat), exec (.soxOtherFrame e) s = .next (s.bumpWord .soxDropped 1 0 (e % 16)))
    ∧ (∀ (s : State) (e d rank missed delay : Nat) (two : Bool), s.ptpOn e d = true → ∃ t u v w : State,
        exec (.ptpSyncRx e d two missed) s = .next (t.emit (.ptpDelayReq e)) ∧ exec (.ptpAnnounceRx e rank) s = .next u
        ∧ exec (.ptpFollowUpRx e d) s = .next v ∧ exec (.ptpDelayRespRx e d delay) s = .next w
        ∧ t.sox.ptp = s.sox.ptp.mapVal (fun i p => if i = e then { p with twoStep := two, missed := false } else { p with missed := missed.testBit i })
        ∧ (u.sox.ptp.find e).map (fun p => p.rank) = some rank
        ∧ v.sox.ptp = s.sox.ptp.mapVal (fun i p => if i = e then { p with twoStep := false } else p)
        ∧ w.sox.ptp = s.sox.ptp.mapVal (fun i p => if i = e then { p with delay } else p)
        ∧ ∀ x ∈ [t, u, v, w], x.mem = s.mem ∧ x.sox.conns = s.sox.conns ∧ x.rd .soxPtpPort = x.bestPort % 2 ^ 8)
    ∧ (∀ (s : State) (e d missed delay : Nat) (two : Bool), s.ptpOn e d = false → exec (.ptpSyncRx e d two missed) s = .next s
        ∧ exec (.ptpFollowUpRx e d) s = .next s ∧ exec (.ptpDelayRespRx e d delay) s = .next s)
    ∧ (∀ s : State, (s.sox.ptp.all (fun e => !(s.rd .soxPtpEn).testBit e.1 || e.2.missed)) = true → s.bestPort = 0xFF)
    ∧ (∀ (s : State) (e v : Nat), e < 16 → (∃ k, k < 128 ∧ egressEntryOk (field v (32 * k + 31) (32 * k)) = false) →
        exec (.soxEgressTableWrite .operator e v) s = .next (s.emit (.status stRange 0)))
    ∧ ∀ (s : State) (e v : Nat), 16 ≤ e → exec (.soxEgressTableWrite .operator e v) s = .next (s.emit (.status stNotFound 0)))
  ∧ ((∀ (s : State) (f : Frame) (k : State → State), s.owl.fatalHub = true → s.frame12 f k = s)
     ∧ (∀ (s : State) (f : Frame) (k : State → State), s.owl.fatalHub = false → s.rd .pdxReady = 0 → s.frame12 f k = s.dropFrame f.port dropNoConn)
     ∧ (∀ (s : State) (f : Frame), s.owl.fatalHub = false → s.rd .pdxReady = 1 → s.startup.reset = none →
         ((f.format = false ∨ f.ver ≠ 1 ∨ f.cls = 5 ∨ f.cls = 6) → ∀ k, s.frame12 f k = s.dropFrame f.port dropFormat)
         ∧ (f.format = true → f.ver = 1 → f.cls ≠ 5 → f.cls ≠ 6 →
             (s.answersPkg f.dstPkg = false → ∀ k, s.frame12 f k = s.dropFrame f.port dropPkg)
             ∧ (s.answersPkg f.dstPkg = true → (∀ k, s.frame12 f k = k s)
               ∧ (s.frameConn f = none → ∀ k, s.frameOn f k = s.dropIsolation f)
               ∧ ∀ c, s.frameConn f = some c → (s.frameTag f c = false → ∀ k, s.frameOn f k = s.dropAuth f)
                   ∧ (s.frameTag f c = true → ∀ k, s.frameOn f k = k s c))))
     ∧ (∀ (s : State) (f : Frame) (c : Conn), f.tagOk = false → s.frameTag f c = false)
     ∧ (∀ (s : State) (f : Frame) (c : Conn), f.conn ≠ 0 → s.frameConn f = some c → c.pkg = f.srcPkg ∧ c.rptn = f.srcPtn ∧ c.ptn = f.dstPtn)
     ∧ ∀ (s : State) (e r : Nat), ∃ t, s.dropFrame e r = t ∧ { t with regs := s.regs } = s)
  ∧ ((∀ (s : State) (f : Frame) (c : Conn), f.type = sftData ∨ f.type = sftColl ∨ f.type = sftSvc ∨ f.type = sftCkpt →
         (∀ k, s.frameOn f k = k s c) → c.st = .open ∨ c.st = .closing → exec (.sftData f) s = .next (s.rxOrdered f.conn c f))
     ∧ (∀ (s : State) (f : Frame) (c : Conn), f.psn < c.rx → s.rxOrdered f.conn c f = s.sendAck f.conn c)
     ∧ (∀ (s : State) (f : Frame) (c : Conn), c.rx + 4096 ≤ f.psn → c.held.find f.psn = none → s.rxOrdered f.conn c f = s.dropFrame f.port dropPsn)
     ∧ (∀ (s : State) (f : Frame) (c : Conn), s.conn f.conn = some c → f.psn = c.rx → c.held = [] → f.type = sftData → f.cls ≠ 7 → f.ce = false →
         c.owed < 15 → ∃ t, s.rxOrdered f.conn c f = t
         ∧ t.sent = s.sent ++ [.delivered f.conn sftData { ptn := f.dstPtn, ctx := f.ctx, cls := f.cls } f.ext f.eom f.payload]
         ∧ (t.conn f.conn).map (fun c => (c.rx, c.owed)) = some (c.rx + 1, c.owed + 1) ∧ t.mem = s.mem ∧ t.regs = s.regs)
     ∧ (∀ (s : State) (f : Frame) (c : Conn), f.type = sftAck → (∀ k, s.frameOn f k = k s c) →
         exec (.sftAck f false) s = .next (s.ackRx f.conn c f.ext))
     ∧ (∀ ext psn, psn < field ext 99 52 → acked ext psn = true)
     ∧ (∀ ext psn, field ext 99 52 + 32 < psn → acked ext psn = false)
     ∧ (∀ (s : State) (f : Frame) (c : Conn), f.type = sftCnp → (∀ k, s.frameOn f k = k s c) →
         exec (.sftCnp f false) s = .next (s.bump .soxCnpRx 0 c.ptn)
         ∧ exec (.sftCnp f true) s = .next ((s.bump .soxCnpRx 0 c.ptn).ccSignal f.conn c (field f.ext 99 96)))
     ∧ (∀ (s : State) (n e : Nat) (c : Conn), ∃ d, (s.ccSignal n c e).conn n = some d ∧ (d.cc.get e (s.ccOf c e)).signalled = true
         ∧ (d.cc.get e (s.ccOf c e)).alpha = 15 / 16 * (s.ccOf c e).alpha + 1 / 16
         ∧ (d.cc.get e (s.ccOf c e)).rate = max 100 ((s.ccOf c e).rate * (1 - (15 / 16 * (s.ccOf c e).alpha + 1 / 16) / 2)))
     ∧ (∀ (s : State) (n e : Nat) (c : Conn), s.conn n = some c → (s.ccOf c e).signalled = false → ∃ t d, exec (.ccPeriodExpiry n e) s = .next t
         ∧ t.conn n = some d ∧ (d.cc.get e (s.ccOf c e)).alpha = 15 / 16 * (s.ccOf c e).alpha
         ∧ (d.cc.get e (s.ccOf c e)).rate = min (s.lineRate e) ((s.ccOf c e).rate + (s.rd .soxCcAi : Rat)) ∧ { t with sox := s.sox } = s)
     ∧ (∀ (s : State) (n : Nat) (c : Conn), s.conn n = some c → (0 < c.owed → exec (.sftAckTimer n) s = .next (s.sendAck n c))
         ∧ (c.owed = 0 → exec (.sftAckTimer n) s = .next s))
     ∧ (∀ (s : State) (n psn : Nat) (c : Conn) (u : Unacked), s.conn n = some c → c.unacked.find psn = some u → n ≠ 0 → 7 ≤ c.timeouts →
         ∃ d, exec (.sftRtoExpiry n psn) s = .next (s.failConn n d).settleGroups ∧ d.timeouts = c.timeouts + 1 ∧ d.unacked = c.unacked)
     ∧ ∀ (s : State) (n psn : Nat) (c : Conn), s.conn n = some c → c.unacked.find psn = none → exec (.sftRtoExpiry n psn) s = .next s.settleGroups)

/-- Connections (R360–R362, R370): an OPEN without a key, in a partition that is not sealed or without room is refused with its reason, and one that
may be is answered OPEN_ACK; OPEN_ACK opens an OPENING connection; CLOSE is answered and closes; CLOSE_ACK closes a CLOSING one; RESET fails, a fault
notice closes with PEER_FAULT; an OPEN is sent again and given up after eight; an idle connection and one near the end of its PSNs close. -/
def Obligations.ConnectionsOpenAndClose : Prop :=  (∀ (s : State) (f : Frame), isCtrl f ctrlOpen = true → (∀ k, s.frame12 f k = k s) → exec (.sftCtrlOpen f) s = .next (s.openRx f))
  ∧ (∀ (s : State) (f : Frame), s.fabricKeys f.dstPtn = [] → s.openRx f = s.refuseOpen f 1)
  ∧ (∀ (s : State) (f : Frame), (s.fabricKeys f.dstPtn).any (fun k => k.keyId == leNat (f.payload.take 4)) = true → f.tagOk = true →
      (s.ptnState f.dstPtn ≠ ptnSealed → s.openRx f = s.refuseOpen f 2)
      ∧ (s.ptnState f.dstPtn = ptnSealed → s.connOf f.dstPtn f.srcPkg f.srcPtn = none →
          (s.connRoom f.dstPtn = false → s.openRx f = s.refuseOpen f 3)
          ∧ (s.connRoom f.dstPtn = true → s.openRx f = s.sendOpenAck s.freeConn
              { ptn := f.dstPtn, pkg := f.srcPkg, rptn := f.srcPtn, st := .open, peer := field f.ext 91 68, window := s.rd .soxWindow })))
  ∧ (∀ (s : State) (f : Frame) (c : Conn), isCtrl f ctrlOpenAck = true → (∀ k, s.frameOn f k = k s c) → c.st = .opening → c.queue = [] →
      exec (.sftCtrlOpenAck f) s = .next (s.setConn f.conn { c with st := .open, peer := field f.ext 91 68 }))
  ∧ (∀ (s : State) (f : Frame) (c : Conn), isCtrl f ctrlClose = true → (∀ k, s.frameOn f k = k s c) → exec (.sftCtrlClose f) s =
      .next (((s.sendCtl f.conn c 2 sftCtrl (ctrlExt ctrlCloseAck f.conn 0) []).closeConn f.conn c msgNoConn)).settleGroups)
  ∧ (∀ (s : State) (f : Frame) (c : Conn), isCtrl f ctrlCloseAck = true → (∀ k, s.frameOn f k = k s c) →
      (c.st = .closing → exec (.sftCtrlCloseAck f) s = .next (s.closeConn f.conn c msgNoConn).settleGroups)
      ∧ (c.st ≠ .closing → exec (.sftCtrlCloseAck f) s = .next s.settleGroups))
  ∧ (∀ (s : State) (f : Frame) (c : Conn), isCtrl f ctrlReset = true → (∀ k, s.frameOn f k = k s c) → c.st = .open → f.conn ≠ 0 →
      exec (.sftCtrlReset f) s = .next (s.failConn f.conn c).settleGroups)
  ∧ (∀ (s : State) (f : Frame) (c : Conn), f.type = sftFault → (∀ k, s.frameOn f k = k s c) → c.st = .open → exec (.sftFault f) s =
      .next ((((s.endMsgs f.conn c msgPeerFault).setConn f.conn { c with st := .closing, queue := [], unacked := [] }).settleClose f.conn).faultGroups
        f.conn).settleGroups)
  ∧ (∀ (s : State) (f : Frame) (c : Conn), isCtrl f ctrlRefuse = true → f.conn ≠ 0 → (∀ k, s.frameOn f k = k s c) → c.st = .opening →
      exec (.sftCtrlRefuse f) s = .next (s.closeConn f.conn c msgNoConn).settleGroups)
  ∧ (∀ (s : State) (n : Nat) (c : Conn) (st : Nat), (s.closeConn n c st).conn n = none ∧ (s.closeConn n c st).mem = s.mem)
  ∧ (∀ (s : State) (p pkg rptn : Nat), s.ptnState p = ptnSealed → s.connOf p pkg rptn = none → s.connRoom p = true → s.fabricKeys p ≠ [] →
      exec (.connOpenRequest p pkg rptn) s = .next (s.sendOpen s.freeConn { ptn := p, pkg, rptn, st := .opening, window := s.rd .soxWindow }))
  ∧ (∀ (s : State) (n : Nat) (c : Conn), s.conn n = some c → c.st = .opening →
      (c.tries < 8 → exec (.connOpenRetry n) s = .next (s.sendOpen n c).settleGroups)
      ∧ (8 ≤ c.tries → exec (.connOpenRetry n) s = .next (s.closeConn n c msgNoConn).settleGroups))
  ∧ (∀ (s : State) (n : Nat) (c : Conn), s.conn n = some c → c.st = .open → n ≠ 0 →
      exec (.connIdleExpiry n) s = .next ((s.setConn n { c with st := .closing }).settleClose n)
      ∧ ((∃ v ∈ c.psn, 2 ^ 48 - 2 ^ 16 ≤ v) → exec (.connPsnLimit n) s = .next ((s.setConn n { c with st := .closing }).settleClose n)))
  ∧ ∀ (s : State) (n : Nat) (c : Conn), s.conn n = some c → c.st = .closing →
      exec (.connCloseTimeout n) s = .next (s.closeConn n c msgNoConn).settleGroups

/-- Pairs (R371–R377): a HELLO whose revision, format, beat and owner agree pairs the hub, in the role of R372, with a link key drawn and a HELLO
sent; one that does not is refused with its reason; a heartbeat is heard, HELLO_ACK names the committed beat to the ACTIVE member, journals and
mirrors reach the STANDBY alone; the third missed beat makes a STANDBY take over, an ACTIVE member SOLO, and a member without its quorum FENCED; the
link is rekeyed near the end of a PSN space. -/
def Obligations.PairsTakeOver : Prop :=  (∀ (s : State) (f : Frame) (rev fmt role period epoch : Nat) (ok : Bool), isCtrl f ctrlHello = true → (∀ k, s.frame12 f k = k s) →
      s.rd .soxPairMode ≠ 0 → s.rd .soxPairRole ≠ pairFenced → s.rd .soxPairRefused = 0 → s.conn 0 = none → f.srcPkg / 2 = s.rd .soxPkgId / 2 →
      (s.helloReason rev fmt period epoch ok ≠ 0 → exec (.sftCtrlHello f rev fmt role period epoch ok) s = .next
        ((s.pairFrame f.port sftCtrl 0 (ctrlExt ctrlRefuse 0 (s.helloReason rev fmt period epoch ok)) []).unpair
          (s.helloReason rev fmt period epoch ok)))
      ∧ (s.helloReason rev fmt period epoch ok = 0 → ∃ t : State, exec (.sftCtrlHello f rev fmt role period epoch ok) s = .next t.sendHello
        ∧ t.sox.pair.heard = s.beat.number.toNat + 1 ∧ t.sox.pair.missed = 0 ∧ t.sox.pair.hello = true ∧ t.mem = s.mem))
  ∧ (∀ (s : State) (f : Frame) (c : Conn), isCtrl f ctrlHelloAck = true → f.conn = 0 → (∀ k, s.frameOn f k = k s c) →
      (s.rd .soxPairRole = pairActive → exec (.sftCtrlHelloAck f) s = .next (s.wr .soxCommittedBeat (leNat (f.payload.take 8))))
      ∧ (s.rd .soxPairRole ≠ pairActive → exec (.sftCtrlHelloAck f) s = .next s))
  ∧ (∀ (s : State) (f : Frame) (c : Conn), f.conn = 0 → (∀ k, s.frameOn f k = k s c) →
      (f.type = sftJournal → s.rd .soxPairRole = pairStandby → exec (.sftJournal f) s = .next (s.rxOrdered 0 c f).journalIn)
      ∧ (f.type = sftMirror → s.rd .soxPairRole = pairStandby → exec (.sftMirror f) s = .next (s.rxOrdered 0 c f).journalIn)
      ∧ (s.rd .soxPairRole ≠ pairStandby → exec (.sftJournal f) s = .next s ∧ exec (.sftMirror f) s = .next s)
      ∧ (f.type = sftHeartbeat → exec (.sftHeartbeat f) s =
          .next { s with sox := { s.sox with pair := { s.sox.pair with heard := max s.sox.pair.heard (leNat (f.payload.take 8) + 1) } } }))
  ∧ (∀ (s : State) (c : Conn), s.conn 0 = some c → 3 ≤ s.sox.pair.missed →
      (s.rd .soxPairRole = pairStandby → s.quorum = true → exec .pairHeartbeatMiss s = .next s.takeOver)
      ∧ (s.rd .soxPairRole = pairActive → s.quorum = true → exec .pairHeartbeatMiss s = .next (s.endPairLink.setRole pairSolo))
      ∧ (s.rd .soxPairRole = pairActive ∨ s.rd .soxPairRole = pairStandby → s.quorum = false →
          exec .pairHeartbeatMiss s = .next ((s.setRole pairFenced).ev Ev.soxFenced)))
  ∧ (∀ s : State, s.sox.pair.missed < 3 → exec .pairHeartbeatMiss s = .next s)
  ∧ (∀ (s : State) (c : Conn), s.conn 0 = some c → (∃ v ∈ c.psn, 2 ^ 48 - 2 ^ 16 ≤ v) → s.sox.pair.rekey = false → exec .pairRekey s =
      .next ({ s with sox := { s.sox with pair := { s.sox.pair with rekey := true } } } : State).sendHello.restartSpaces)
  ∧ ∀ (s : State) (id : Nat), s.rd .soxPairMode ≠ 0 → s.rd .soxPairRole = pairFenced → s.answersPkg id = false

/-! ## Synchronisation and collectives (R379–R403) -/

/-- Operations on objects (R379, R381, R384): on an object of the partition, of a kind that the operation allows, each changes the value as R381 says,
serves the object's waiters and answers the value it names; a wait that R383 does not let wait answers EXPIRED; an object outside the partition,
another kind and a bad operand are refused with their reason, in that order, and change no object. -/
def Obligations.SyncOperations : Prop :=  (∀ (s : State) (src : SyncSrc) (n : Nat) (o : SyncObj) (a b : Word), s.ownsObj src.lab.ptn n = true → s.obj n = o →
      (∀ e ∈ ([(.syncAdd src n a, [.counter], o.value + a), (.syncCas src n a b, [.counter, .event], if o.value = a then b else o.value),
          (.syncSwap src n a, [.counter, .event], a), (.syncArrive src n, [.barrier], barArrive o.value),
          (.syncSet src n a, [.event], o.value ||| a), (.syncClear src n a, [.event], o.value &&& ~~~ a)] : List (Instr × List SyncKind × Word)),
        (o.kind ∈ e.2.1 → exec e.1 s = .next (((s.settleObj n { o with value := e.2.2 }).syncSend src o.value reasonDone)).settleSites)
        ∧ (o.kind ∉ e.2.1 → exec e.1 s = .next (s.syncRefuse src reasonKind).settleSites))
      ∧ (∀ e ∈ ([(.syncWaitGe src n a, .counter, .ge a), (.syncBarWait src n a, .barrier, .genNot (barGen a)),
          (.syncWaitAny src n a b, .event, .any a (b.getLsbD 0)), (.syncWaitAll src n a b, .event, .all a (b.getLsbD 0))] :
          List (Instr × SyncKind × WaitCond)),
        (o.kind = e.2.1 → exec e.1 s = .next (s.syncWait src n e.2.2).settleSites)
        ∧ (o.kind ≠ e.2.1 → exec e.1 s = .next (s.syncRefuse src reasonKind).settleSites))
      ∧ exec (.syncRead src n) s = .next (s.syncSend src o.value reasonDone).settleSites
      ∧ (o.kind = .semaphore → a ≠ 0 → exec (.syncAcquire src n a) s = .next (s.syncWait src n (.acquire a)).settleSites
          ∧ exec (.syncRelease src n a) s = .next (((s.settleObj n { o with value := semAdd o.value a }).syncSend src
              (semAdd o.value a) reasonDone)).settleSites)
      ∧ (o.kind = .semaphore → a = 0 → exec (.syncAcquire src n a) s = .next (s.syncRefuse src reasonOperand).settleSites
          ∧ exec (.syncRelease src n a) s = .next (s.syncRefuse src reasonOperand).settleSites)
      ∧ (o.kind = .barrier → exec (.syncArriveWait src n) s = .next ((s.settleObj n { o with value := barArrive o.value }).syncWait src n
          (.genNot (barGen o.value))).settleSites)
      ∧ ((kindOf b = .barrier → barCount a < barTarget a) → exec (.syncInit src n a b) s = .next ((((s.expireWaiters (fun w => w.obj == n)).setObj n
          ⟨kindOf b, a⟩).syncSend src o.value reasonDone)).settleSites)
      ∧ (kindOf b = .barrier → barTarget a ≤ barCount a → exec (.syncInit src n a b) s = .next (s.syncRefuse src reasonOperand).settleSites))
  ∧ (∀ (s : State) (src : SyncSrc) (n : Nat) (a b : Word), s.ownsObj src.lab.ptn n = false →
      ∀ c ∈ ([.syncRead src n, .syncInit src n a b, .syncAdd src n a, .syncCas src n a b, .syncSwap src n a, .syncWaitGe src n a,
          .syncAcquire src n a, .syncRelease src n a, .syncArrive src n, .syncArriveWait src n, .syncBarWait src n a, .syncSet src n a,
          .syncClear src n a, .syncWaitAny src n a b, .syncWaitAll src n a b] : List Instr),
        exec c s = .next (s.syncRefuse src reasonRange).settleSites)
  ∧ (∀ (s : State) (src : SyncSrc) (n : Nat) (c : WaitCond), c.isAcquire = false →
      (c.holds (s.obj n).value = true → s.syncWait src n c =
        (s.settleObj n { s.obj n with value := c.take (s.obj n).value }).syncSend src (s.obj n).value reasonDone)
      ∧ (c.holds (s.obj n).value = false → src.entry = .host → s.syncWait src n c = s.syncSend src (s.obj n).value reasonExpired)
      ∧ (c.holds (s.obj n).value = false → src.entry ≠ .host → 128 ≤ s.waitersIn src.lab.ptn (bankOfObj n) →
          s.syncWait src n c = (s.bump .colWaitFull 0 src.lab.ptn).syncSend src (s.obj n).value reasonExpired)
      ∧ (c.holds (s.obj n).value = false → src.entry ≠ .host → s.waitersIn src.lab.ptn (bankOfObj n) < 128 →
          s.syncWait src n c = { s with sync := { s.sync with waiters := s.sync.waiters ++ [⟨n, src, c⟩] } }))
  ∧ (∀ (s : State) (bank id : Nat) (w : Waiter), s.waiterAt bank id = some w →
      exec (.syncWaitExpiry bank id) s = .next (s.expireOne w).settleSites)
  ∧ (∀ (s : State) (src : SyncSrc) (r : Nat), ∃ t, s.syncRefuse src r = t ∧ t.sync = s.sync ∧ t.mem = s.mem)
  ∧ (∀ v : Word, (barCount v + 1 = barTarget v → barGen (barArrive v) = barGen v + 1 ∧ barCount (barArrive v) = 0)
      ∧ (barCount v + 1 ≠ barTarget v → barGen (barArrive v) = barGen v ∧ barCount (barArrive v) = barCount v + 1)
      ∧ barTarget (barArrive v) = barTarget v)
  ∧ ∀ v a : Word, (semAdd v a).toNat = min (v.toNat + a.toNat) (2 ^ 64 - 1)

/-- Waiters (R383): units of a semaphore go to its waiters strictly in arrival order, and what is left waiting could not be served; flags and counters
wake every waiter whose condition holds, whatever came before it, and none that waits on another object. -/
def Obligations.WaitersInOrder : Prop :=  (∀ (n : Nat) (v : Word) (l : List Waiter), (∀ w ∈ l, w.obj = n → ∃ a, w.cond = .acquire a) → ∃ k : Nat,
      (serve n v false l).out.map (fun x => x.src) = ((l.filter (fun w => w.obj == n)).take k).map (fun w => w.src)
      ∧ (serve n v false l).left.filter (fun w => w.obj == n) = (l.filter (fun w => w.obj == n)).drop k
      ∧ ∀ w, ((l.filter (fun w => w.obj == n)).drop k).head? = some w → w.cond.holds (serve n v false l).value = false)
  ∧ (∀ (n : Nat) (v : Word) (l : List Waiter),
      ((∀ w ∈ l, w.obj = n → ∃ a, w.cond = .ge a) ∨ (∀ w ∈ l, w.obj = n → ∃ a c, w.cond = .any a c ∨ w.cond = .all a c)) →
      ∀ w ∈ (serve n v false l).left, w.obj = n → w.cond.holds (serve n v false l).value = false)
  ∧ ∀ (n : Nat) (v : Word) (b : Bool) (l : List Waiter),
      (serve n v b l).left.filter (fun w => w.obj != n) = l.filter (fun w => w.obj != n)

/-- Groups (R379, R386): a write of COL_SYNC_MAP by a role that may is stored where no run passes the bank or overlaps another formed partition's and
the partition is not sealed, and the objects that it adds are COUNTER 0; a write of COL_GROUP with VALID 1 is refused or forms the group, which is
REFUSED with FULL or SELF where R386 says so; with VALID 0 it dissolves it; a FORMING group is REFUSED on a timeout, READY on FORMED and REFUSED on
REFUSE from its parent, both passed on to its children; a child's report is kept and looked at. -/
def Obligations.GroupsForm : Prop :=  (∀ (s : State) (p v : Nat), p < 32 → s.syncMapOk p v = true → s.isSealed p = false → ∃ t, exec (.colSyncMapWrite .operator p v) s = .next t
      ∧ t.rd .colSyncMap 0 p = v % 2 ^ 256 ∧ (∀ n, n ∈ t.objsOf p → n ∉ s.objsOf p → t.obj n = { kind := .counter, value := 0 })
      ∧ (∀ n, n ∉ t.objsOf p → t.obj n = s.obj n) ∧ t.sync.waiters = s.sync.waiters ∧ t.sent = s.sent ++ [.status stOk 0] ∧ t.mem = s.mem)
  ∧ (∀ (s : State) (p v : Nat), p < 32 → s.syncMapOk p v = false → ∀ r, r = .operator →
      exec (.colSyncMapWrite r p v) s = .next (s.emit (.status stRange 0)))
  ∧ (∀ (s : State) (p g v : Nat), p < 32 → g < 16 → s.groupState p g ≠ grpForming → (s.group p g).coll = none →
      (((groupCfgOf v).valid = false ∧ field v 71 0 = 0) →
        ∃ t, exec (.colGroupDissolve p g v) s = .next t ∧ t.groupState p g = grpNone ∧ t.group p g = {} ∧ t.sent = s.sent ++ [.status stOk 0])
      ∧ ((groupCfgOf v).valid = true ∧ (groupCfgOf v).me < (groupCfgOf v).n ∧ (groupCfgOf v).n ≤ 65536 ∧ field v 71 0 = 0 →
        (256 ≤ ((s.wr .colGroup v p g).setColGroup p g {}).engineGroups (groupCfgOf v).engine p g → ∃ t, exec (.colGroupForm p g v) s = .next t
            ∧ t.groupState p g = grpRefused ∧ t.rdField .colGroupState 15 8 p g = refFull ∧ t.sent = s.sent ++ [.status stOk 0])
        ∧ ∀ u : State, u = ((s.wr .colGroup v p g).setColGroup p g {}).setGroupState p g grpForming 0 →
            ((s.wr .colGroup v p g).setColGroup p g {}).engineGroups (groupCfgOf v).engine p g < 256 → u.words4 p (groupCfgOf v).list (groupCfgOf v).n = none → ∃ t,
              exec (.colGroupForm p g v) s = .next t ∧ t.groupState p g = grpRefused ∧ t.rdField .colGroupState 15 8 p g = refSelf ∧ t.mem = s.mem))
  ∧ (∀ (s : State) (p g v : Nat), 32 ≤ p ∨ 16 ≤ g → exec (.colGroupForm p g v) s = .next (s.emit (.status stNotFound 0))
      ∧ exec (.colGroupDissolve p g v) s = .next (s.emit (.status stNotFound 0)))
  ∧ (∀ (s : State) (p g : Nat), (s.groupState p g = grpForming → exec (.colFormTimeout p g) s = .next (s.setGroupState p g grpRefused refTimeout))
      ∧ (s.groupState p g ≠ grpForming → exec (.colFormTimeout p g) s = .next s))
  ∧ (∀ (s : State) (c : Nat) (b : List Byte) (m : CollMsg), s.groupState m.ptn m.g = grpForming → s.parentIn m.ptn m.g 0 = some m.src →
      (s.collMsg c kindFormed b = some m → exec (.collMsgFormed c b) s = .next ((s.setGroupState m.ptn m.g grpReady 0).each
          (s.childrenIn m.ptn m.g 0) (fun s i => s.sendColl m.ptn m.g i kindFormed 0 0 0 [])))
      ∧ (s.collMsg c kindRefuse b = some m → exec (.collMsgRefuse c b) s = .next ((s.setGroupState m.ptn m.g grpRefused m.status).each
          (s.childrenIn m.ptn m.g 0) (fun s i => s.sendColl m.ptn m.g i kindRefuse 0 0 m.status []))))
  ∧ ∀ (s : State) (c : Nat) (b : List Byte) (x : Conn), s.conn c = some x → c ≠ 0 → field (leNat (b.take 16)) 127 120 = kindForm →
      (∀ g, g < 16 → (s.groupCfg x.ptn g).gid ≠ field (leNat (b.take 16)) 119 88) → ∃ t, exec (.collMsgForm c b) s = .next t
      ∧ { t with col := s.col } = s ∧ ∃ r ∈ t.col.reports, r.ptn = x.ptn ∧ r.gid = field (leNat (b.take 16)) 119 88 ∧ r.pkg = x.pkg
        ∧ r.rptn = x.rptn ∧ r.vals = formValsOf (b.drop 16)

/-- The tree of R387: with the relative index r = (i − ROOT) mod N, the children of r are q × r + 1 to q × r + q where these are below N, and its
parent is (r − 1) div q; member j is a child of member i exactly where i is the parent of j, and only the root has no parent; the depth is the
smallest d with (q^(d+1) − 1) / (q − 1) ≥ N; a group's tree for control and reductions, and its root, are those of member 0. -/
def Obligations.TreesAreConsistent : Prop :=  (∀ q n root r : Nat, 2 ≤ q → root < n → r < n →
    treeChildren q n root ((r + root) % n) = (((List.range q).map (fun j => q * r + 1 + j)).filter (fun x => decide (x < n))).map (fun x => (x + root) % n)
    ∧ treeParent q n root ((r + root) % n) = if r = 0 then none else some (((r - 1) / q + root) % n))
  ∧ (∀ q n root i : Nat, 2 ≤ q → root < n → i < n →
    (∀ j, j < n → (j ∈ treeChildren q n root i ↔ treeParent q n root j = some i))
    ∧ (treeParent q n root i = none ↔ i = root) ∧ (treeChildren q n root i).length ≤ q ∧ ∀ j ∈ treeChildren q n root i, j < n)
  ∧ (∀ q n : Nat, 2 ≤ q → n ≤ (q ^ (depthFrom q n n 0 + 1) - 1) / (q - 1)
      ∧ ∀ d, d < depthFrom q n n 0 → (q ^ (d + 1) - 1) / (q - 1) < n)
  ∧ (∀ (s : State) (p g : Nat), (s.group p g).parents = [] →
      s.groupDepth p g = depthFrom (s.groupCfg p g).radix (s.groupCfg p g).n (s.groupCfg p g).n 0
      ∧ ∀ root, s.parentIn p g root = treeParent (s.groupCfg p g).radix (s.groupCfg p g).n root (s.groupCfg p g).me
        ∧ s.childrenIn p g root = treeChildren (s.groupCfg p g).radix (s.groupCfg p g).n root (s.groupCfg p g).me)
  ∧ ∀ q n : Nat, treeParent q n 0 0 = none

/-- Collectives (R388–R400): the ring's doorbell moves TAIL or, beyond the ring's room, stops it; ABORT moves HEAD to TAIL; the descriptor at HEAD is
read by the row that names its OP, refused where its group is not READY or a condition is broken, begun where it is not; step data goes to the step,
or with other fields aborts; an abort from a neighbour ends the collective with its status, which stands; a granted stretch names an edge for every
member below; a check point asks for one where a hot stack serves the step. -/
def Obligations.CollectivesRun : Prop :=  (∀ (s : State) (p tail head : Nat) (x : Ring), x = s.ring p →
      ((tail % wqCount + wqCount - head % wqCount) % wqCount ≤ 2 ^ (s.ringCfg p).log2 → ∃ t, exec (.colDbTailWrite p tail head) s = .next t
        ∧ t.ring p = { x with tail := tail % wqCount, cplHead := head % wqCount } ∧ { t with col := s.col } = s)
      ∧ (2 ^ (s.ringCfg p).log2 < (tail % wqCount + wqCount - head % wqCount) % wqCount → ∃ t, exec (.colDbTailWrite p tail head) s = .next t
        ∧ (t.ring p).err = true ∧ (t.ring p).tail = x.tail ∧ (t.ring p).head = x.head ∧ t.mem = s.mem))
  ∧ (∀ (s : State) (p : Nat), (∀ g, g < 16 → (s.group p g).coll = none) → ∃ l : List Coll, exec (.colDbAbort p) s = .next
      (((s.drawn wqCount).setRing p { s.ring p with head := (s.ring p).tail, ended := (s.ring p).ended ++ l }).ringEnd p)
      ∧ l.length = ((s.ring p).tail + wqCount - (s.ring p).head) % wqCount ∧ ∀ c ∈ l, c.status = some csCancelled)
  ∧ (∀ (s : State) (p : Nat) (c : Coll), s.ringHead p = some c → ∀ e ∈ ([(.collAllreduce p, 1), (.collReduceScatter p, 2), (.collAllgather p, 3),
      (.collBroadcast p, 4), (.collBarrier p, 5), (.collSnapshot p, 6)] : List (Instr × Nat)), c.op = e.2 → (s.group p c.grp).coll = none →
      ∃ u : State, u = s.setRing p { s.ring p with head := ((s.ring p).head + 1) % wqCount }
      ∧ (u.groupState p c.grp = grpReady → c.bad (u.groupCfg p c.grp) = false → exec e.1 s = .next (u.collBegin p c.grp c))
      ∧ (u.groupState p c.grp ≠ grpReady → exec e.1 s = .next ((u.setRing p { u.ring p with ended := (u.ring p).ended ++
          [{ c with status := some csNoGroup }] }).ringEnd p))
      ∧ (u.groupState p c.grp = grpReady → c.bad (u.groupCfg p c.grp) = true → exec e.1 s = .next ((u.setRing p { u.ring p with ended :=
          (u.ring p).ended ++ [{ c with status := some csBadDesc }] }).ringEnd p)))
  ∧ (∀ (s : State) (p : Nat) (c : Coll), s.ringHead p = some c → c.op = 7 → (s.group p c.grp).coll = none → ∀ u : State,
      u = s.setRing p { s.ring p with head := ((s.ring p).head + 1) % wqCount } → u.groupState p c.grp = grpReady →
      c.bad (u.groupCfg p c.grp) = false → exec (.collGlobalReset p) s = .next (u.globalBegin p c.grp c))
  ∧ (∀ (s : State) (p g : Nat) (c : Coll), (s.group p g).coll = some c → c.status = none → c.phase = .writing → c.op ≠ 6 →
      s.collBusy p g = false → c.step + 1 < c.steps → ∃ t : State, exec (.collStepComplete p g) s = .next (t.collEnd p g)
      ∧ (∃ d, (t.group p g).coll = some d ∧ d.step = c.step + 1 ∧ d.phase = .none ∧ d.item = none ∧ d.status = none) ∧ t.mem = s.mem)
  ∧ (∀ (s : State) (p g : Nat) (c : Coll), (∀ h, h < g → (s.group p h).coll = none) → g < 16 → (s.group p g).coll = some c → c.phase = .drain →
      c.status = none → (s.ptnDrained p = false → exec (.snapshotDrainEnd p) s = .next s)
      ∧ (s.ptnDrained p = true → exec (.snapshotDrainEnd p) s = .next ((s.collWrite p g c.dst
          ((s.objsOf p).flatMap (fun n => toLe 8 (s.obj n).value.toNat)) 0 0).collRead p g c)))
  ∧ (∀ (s : State) (n : Nat) (b : List Byte) (m : CollMsg) (c : Coll), (s.group m.ptn m.g).coll = some c → c.status = none →
      (s.collMsg n kindUp b = some m → m.src ∈ s.childrenIn m.ptn m.g 0 →
        ((bodyOf m.body).1 ≠ c.fields → exec (.collMsgUp n b) s = .next ((s.raiseAbort m.ptn m.g csMismatch 0).collEnd m.ptn m.g))
        ∧ ((bodyOf m.body).1 = c.fields → c.item = none → exec (.collMsgUp n b) s = .next (State.collPump 4 (s.setColl m.ptn m.g (some { c with
            up := c.up ++ [{ step := m.step, index := m.src, beat := m.beat, data := (bodyOf m.body).2.2, poison := (bodyOf m.body).2.1 }] })) m.ptn m.g)))
      ∧ (s.collMsg n kindDown b = some m → s.parentIn m.ptn m.g c.root = some m.src → (bodyOf m.body).1 = c.fields → c.item = none →
          exec (.collMsgDown n b) s = .next (State.collPump 4 (s.setColl m.ptn m.g (some { c with
            down := some { step := m.step, index := m.src, beat := m.beat, data := (bodyOf m.body).2.2, poison := (bodyOf m.body).2.1 } })) m.ptn m.g))
      ∧ (s.collMsg n kindAbort b = some m → exec (.collMsgAbort n b) s = .next ((s.abortColl m.ptn m.g m.status (some m.src)
          (leNat (m.body.take 4)) (leNat ((m.body.drop 4).take 4)) (leNat ((m.body.drop 8).take 4))).collEnd m.ptn m.g)))
  ∧ (∀ (s : State) (p g st i pkg code : Nat) (from? : Option Nat) (c : Coll), (s.group p g).coll = some c →
      (c.status.isSome = true → s.abortColl p g st from? i pkg code = s)
      ∧ (c.status = none → c.op ≠ 6 → ∃ u : State, s.abortColl p g st from? i pkg code = u.each ((s.neighbours p g).filter (fun i => some i != from?))
            (fun s j => s.sendColl p g j kindAbort c.beat c.step st (abortBody i pkg code))
          ∧ (u.group p g).coll.map (fun d => (d.status, d.failed, d.firstFail, d.failCode, d.step)) = some (some st, i, pkg, code, c.step)
          ∧ u.mem = s.mem ∧ u.regs = s.regs ∧ u.sent = s.sent))
  ∧ (∀ (s : State) (n : Nat) (b : List Byte) (m : CollMsg), s.collMsg n kindReset b = some m → s.parentIn m.ptn m.g 0 = some m.src →
      (s.groupCfg m.ptn m.g).resetOk = true → exec (.collMsgReset n b) s = .next (s.globalReset m.ptn m.g m.status))
  ∧ (∀ (s : State) (n : Nat) (b : List Byte) (m : CollMsg), s.collMsg n kindStretchReq b = some m → m.src ∈ s.childrenIn m.ptn m.g 0 →
      exec (.collMsgStretchReq n b) s = .next (s.requestStretch m.ptn m.g))
  ∧ (∀ (s : State) (n : Nat) (b : List Byte) (m : CollMsg), s.collMsg n kindStretchGrant b = some m → s.parentIn m.ptn m.g 0 = some m.src →
      s.childrenIn m.ptn m.g 0 = [] →
      (m.beat ≤ s.beat.number.toNat →
        exec (.collMsgStretchGrant n b) s = .next ((s.raiseAbort m.ptn m.g csOverrun 0).collEnd m.ptn m.g))
      ∧ (s.beat.number.toNat < m.beat → m.beat ≠ s.beat.number.toNat + 1 + s.beat.skip → ∃ t, exec (.collMsgStretchGrant n b) s = .next t
          ∧ (t.group m.ptn m.g).grant = some m.beat ∧ t.beat = s.beat ∧ t.mem = s.mem))
  ∧ (∀ (s : State) (p g : Nat), (s.group p g).coll.isNone ∨ 8 ≤ (s.group p g).run → s.decideStretch p g = s)
  ∧ ∀ (s : State) (p g : Nat), (s.wantsStretch p g = true → exec (.stretchCheckPoint p g) s = .next (s.requestStretch p g))
      ∧ (s.wantsStretch p g = false → exec (.stretchCheckPoint p g) s = .next s)
      ∧ ((∀ h, h < 8 → s.stackHot h = false) → s.wantsStretch p g = false)

/-! ## Partitions (R405–R425) -/

/-- PTN_CMD (R407–R409): a command for a partition that does not exist, from a role not listed, with a reserved bit or in a state that does not accept
it is refused with NOT_FOUND, DENIED, RANGE or BUSY, in that order, with no effect; FORM that passes the checks of R408 makes the partition FORMED
with its plots, and one that does not leaves its reason; SEAL waits for the second of its two roles, and then leaves the reason of the first check of
R409 that fails or goes to SEALING; the end of the writing is taken when nothing is left to recall. Resets (R419–R423): in a state that accepts it a
reset begins and its partition is RESETTING; during one, a stronger kind takes over from the current step and one that is no stronger is refused; the
drain's end counts once nothing is outstanding, and empties and holds the tiles; the scrub's end waits for the edge that makes the partition SEALED or
FREE. -/
def Obligations.PartitionsLive : Prop :=
  ((∀ e ∈ ([(Instr.ptnCmdForm, [.operator], [ptnFree]), (Instr.ptnCmdSeal, [.operator, .tenant], [ptnFormed]),
        (Instr.ptnCmdContextReset, [.operator, .tenant], [ptnSealed]), (Instr.ptnCmdWarmReset, [.operator, .tenant], [ptnSealed, ptnHalted]),
        (Instr.ptnCmdFullReset, [.operator, .tenant], [ptnSealed, ptnHalted, ptnResetting]),
        (Instr.ptnCmdDissolve, [.operator, .security], [ptnFormed, ptnSealing, ptnSealed, ptnHalted, ptnResetting, ptnScrubbing, ptnDissolving])] :
        List ((Role → Nat → Nat → Instr) × List Role × List Nat)), ∀ (s : State) (r : Role) (p low : Nat),
        (32 ≤ p → exec (e.1 r p low) s = .next (s.emit (.status stNotFound 0)))
        ∧ (p < 32 → r ∉ e.2.1 → exec (e.1 r p low) s = .next (s.emit (.status stDenied 0)))
        ∧ (p < 32 → r ∈ e.2.1 → (field low 3 1 ≠ 0 ∨ 256 ≤ low) → exec (e.1 r p low) s = .next (s.emit (.status stRange 0)))
        ∧ (p < 32 → r ∈ e.2.1 → field low 3 1 = 0 → low < 256 → s.ptnState p ≤ 7 → s.ptnState p ∉ e.2.2 →
            exec (e.1 r p low) s = .next (s.emit (.status stBusy 0))))
    ∧ (∀ (s : State) (p low : Nat), p < 32 → field low 3 1 = 0 → low < 256 → s.ptnState p = ptnFree → s.owl.fatalHub = false → s.life.erasing = none →
        (s.formOk p = true → ∃ t, exec (.ptnCmdForm .operator p low) s = .next t ∧ t.ptnState p = ptnFormed ∧ t.rd .ptnSealReq p = 0
          ∧ (∀ i, i < 64 → (s.rd .ptnPlots p).testBit i = true → t.plots.find i = some p)
          ∧ (∀ i, (s.rd .ptnPlots p).testBit i = false → t.plots.find i = s.plots.find i)
          ∧ (∀ h, h < 8 → t.jay.reserved.get (8 * p + h) 0 = s.ptnGranules p h) ∧ t.sent = s.sent ++ [.status stPending 0] ∧ t.mem = s.mem)
        ∧ (s.formOk p = false → ∃ t, exec (.ptnCmdForm .operator p low) s = .next t ∧ t.rdField .ptnCmdFault 15 8 p = 1
          ∧ t.ptnState p = ptnFree ∧ t.sent = s.sent ++ [.status stRange 0] ∧ t.plots = s.plots ∧ t.jay = s.jay ∧ t.mem = s.mem))
    ∧ (∀ (s : State) (p low : Nat), p < 32 → field low 3 1 = 0 → low < 256 → s.ptnState p = ptnFormed → s.owl.fatalHub = false → s.life.erasing = none →
        (s.rd .ptnSealReq p = 0 → exec (.ptnCmdSeal .operator p low) s = .next ((s.wr .ptnSealReq 1 p).emit (.status stPending 0))
          ∧ exec (.ptnCmdSeal .tenant p low) s = .next ((s.wr .ptnSealReq 2 p).emit (.status stPending 0)))
        ∧ (s.rd .ptnSealReq p = 1 → s.sealFault p ≠ 0 → ∃ t, exec (.ptnCmdSeal .tenant p low) s = .next t ∧ t.ptnState p = ptnFormed
          ∧ t.rdField .ptnCmdFault 15 8 p = 2 ∧ t.rdField .ptnCmdFault 7 0 p = s.sealFault p % 256 ∧ t.rd .ptnSealReq p = 0
          ∧ t.sent = s.sent ++ [.status stRange 0] ∧ { t with regs := s.regs, sent := s.sent } = s)
        ∧ (s.rd .ptnSealReq p = 1 → s.sealFault p = 0 → ∃ t : State, exec (.ptnCmdSeal .tenant p low) s = .next (t.emit (.status stPending 0))
          ∧ t.ptnState p = ptnSealing ∧ (t.ptn p).writing = true))
    ∧ (∀ (s : State) (p : Nat), (s.ptnState p ≠ ptnSealing ∨ (s.ptn p).writing = false ∨ s.waysClear p = false → exec (.sealWriteDone p) s = .next s)
        ∧ (s.ptnState p = ptnSealing → (s.ptn p).writing = true → s.waysClear p = true → ∃ t, exec (.sealWriteDone p) s = .next t
          ∧ (t.ptn p).writing = false ∧ (t.ptn p).atEdge = some ptnSealed))
    ∧ ∀ (s : State) (p : Nat), (s.ptn p).atEdge = some ptnSealed → (s.ptn p).reset = none → (s.ptn p).ctxReset = none → s.sitesOf p = [] → p < 32 →
        ∃ u : State, s.ptnEdge p = u.openWindows p ∧ u.ptnState p = ptnSealed ∧ u.rd .cohDomainState 0 p = domainUp
        ∧ u.rd .ptnCtxRunning p = (bitsOf (s.rd .ptnCtxEnable p) 16).headD 0 ∧ u.rd .ptnSealBeat p = s.beat.number.toNat)
  ∧ ((∀ (s : State) (p low : Nat), p < 32 → field low 3 1 = 0 → low < 256 → s.owl.fatalHub = false → s.life.erasing = none →
         (s.ptnState p = ptnSealed → (s.ptn p).reset = none →
           exec (.ptnCmdContextReset .operator p low) s = .next ((s.contextReset p (field low 7 4)).emit (.status stPending 0))
           ∧ exec (.ptnCmdWarmReset .operator p low) s = .next ((s.startPtnReset p .warm (low.testBit 0)).emit (.status stPending 0))
           ∧ exec (.ptnCmdFullReset .operator p low) s = .next ((s.startPtnReset p .full true).emit (.status stPending 0))
           ∧ exec (.ptnCmdDissolve .security p low) s = .next ((s.startPtnReset p .dissolve true).emit (.status stPending 0)))
         ∧ (s.ptnState p = ptnResetting → (s.ptn p).reset = some .warm →
           exec (.ptnCmdFullReset .operator p low) s = .next ((s.setPtn p { s.ptn p with reset := some .full }).emit (.status stPending 0)))
         ∧ (s.ptnState p = ptnResetting → (s.ptn p).reset = some .full →
           exec (.ptnCmdFullReset .operator p low) s = .next (s.emit (.status stBusy 0))
           ∧ exec (.ptnCmdDissolve .operator p low) s = .next ((s.setPtn p { s.ptn p with reset := some .dissolve }).emit (.status stPending 0)))
         ∧ (s.ptnState p = ptnScrubbing → (s.ptn p).reset = some .full → exec (.ptnCmdDissolve .operator p low) s =
             .next (((s.setPtn p { s.ptn p with reset := some .dissolve }).setPtnState p ptnDissolving).emit (.status stPending 0)))
         ∧ ((s.ptn p).reset = some .dissolve → s.ptnState p ≠ ptnFree → exec (.ptnCmdDissolve .operator p low) s = .next (s.emit (.status stBusy 0))))
     ∧ (∀ (s : State) (p : Nat) (k : ResetKind), p < 32 → ∃ t, s.startPtnReset p k false = t ∧ t.ptnState p = ptnResetting
         ∧ t.rd .ptnCtxRunning p = ctxNone ∧ (t.ptn p).reset = some k ∧ (t.ptn p).drained = false ∧ (t.ptn p).switch = none
         ∧ (∀ d ∈ t.beat.decls, d.decl.ptn ≠ some p) ∧ (∀ d ∈ t.beat.admitted, d.decl.ptn ≠ some p) ∧ (∀ d ∈ t.beat.items, d.decl.ptn ≠ some p)
         ∧ t.ckpt.find p = none ∧ t.svc.find p = none)
     ∧ (∀ (s : State) (p : Nat), ((s.ptn p).reset = none ∨ s.ptnState p ≠ ptnResetting ∨ (s.ptn p).drained = true ∨ s.resetDrained p = false →
           exec (.resetDrainEnd p) s = .next s)
         ∧ ((s.ptn p).reset = some .dissolve → s.ptnState p = ptnResetting → (s.ptn p).drained = false → s.resetDrained p = true → ∃ t,
           exec (.resetDrainEnd p) s = .next t ∧ (t.ptn p).drained = true ∧ (t.ptn p).saved = [] ∧ (t.ptn p).links = []
           ∧ (∀ x ∈ s.tilesOf p, (t.heldTiles.find x).isSome = true) ∧ t.mem = s.mem ∧ t.sent = s.sent))
     ∧ ∀ (s : State) (p : Nat) (fails : List Nat), ((s.ptnState p ≠ ptnScrubbing ∧ s.ptnState p ≠ ptnDissolving) ∨ (s.ptn p).atEdge.isSome →
           exec (.badgerScrubDone p fails) s = .next s)
         ∧ ((s.ptn p).atEdge = none → s.ptnState p = ptnScrubbing →
           ∃ t, exec (.badgerScrubDone p fails) s = .next t ∧ (t.ptn p).atEdge = some ptnSealed)
         ∧ ((s.ptn p).atEdge = none → s.ptnState p = ptnDissolving → ∃ t, exec (.badgerScrubDone p fails) s = .next t ∧ (t.ptn p).atEdge = some ptnFree
           ∧ t.rd .ptnSealReq p = 0 ∧ (∀ i, t.plots.find i ≠ some p) ∧ t.col.rings.find p = none ∧ t.coh.ways.find p = none))

/-- A partition's memory does not outlive its scrub (R420, R424): when Badger ends, every byte of every granule that the partition owned reads zero,
and no other byte of memory has changed. -/
def Obligations.ScrubbedMemoryIsZero : Prop :=  ∀ (s t : State) (p : Nat), s.ptnState p = ptnScrubbing ∨ s.ptnState p = ptnDissolving → (s.ptn p).atEdge = none → s.ownChiplets p = [] →
    exec (.badgerScrubDone p []) s = .next t → ∀ a, t.byte a = if a / Config.granule ∈ s.granulesOf p then 0 else s.byte a

/-- Contexts and vectors (R411–R413, R415–R418): PTN_CTX_NEXT declares a switch or is refused; a miss reports and gives a quantum; a tile's save and
restore count only in a switch and only for a tile that is at that step, and the last restore makes the incoming context run; a raised vector is
dropped and counted, held while masked, posted while its context does not run, or delivered by its kind. -/
def Obligations.ContextsAndVectors : Prop :=  (∀ (s : State) (p v : Nat), p < 32 → (field v 63 52 ≠ 0 ∨ (s.rd .ptnCtxEnable p).testBit (field v 51 48) = false
      ∨ field v 47 0 ≤ s.beat.number.toNat ∨ s.switching p = true ∨ (s.beat.cutoff = true ∧ field v 47 0 = s.beat.number.toNat + 1 + s.beat.skip)) →
      exec (.ptnCtxNextWrite .operator p v) s = .next (s.emit (.status stRange 0)))
  ∧ (∀ (s : State) (p v : Nat), p < 32 → field v 63 52 = 0 → (s.rd .ptnCtxEnable p).testBit (field v 51 48) = true → s.switching p = false →
      s.beat.number.toNat < field v 47 0 → s.beat.cutoff = false → exec (.ptnCtxNextWrite .operator p v) s =
        .next ((((s.wr .ptnCtxNext v p).setPtn p { s.ptn p with asked := none }).declare
          (switchDecl p (field v 51 48) (some (BitVec.ofNat 48 (field v 47 0))))).emit (.status stOk 0)))
  ∧ (∀ (s : State) (p : Nat), (∀ b, (s.ptn p).asked = some b → b.toNat + s.rd .ptnCtxDeadline p ≤ s.beat.number.toNat → exec (.ptnSchedMiss p) s =
        .next ((s.setPtn p { s.ptn p with asked := none, since := s.beat.number }).ev Ev.ptnSchedMiss (some p)))
      ∧ ((s.ptn p).asked = none → exec (.ptnSchedMiss p) s = .next s))
  ∧ (∀ (s : State) (p t : Nat), (s.ptn p).switch = none → exec (.tileSaveDone p t) s = .next s ∧ exec (.tileRestoreDone p t) s = .next s)
  ∧ (∀ (s : State) (p t : Nat) (w : Switch), (s.ptn p).switch = some w → t ∈ w.saving → s.tileIdle t = true → w.src = none →
      ∃ u, exec (.tileSaveDone p t) s = .next u ∧ (u.ptn p).switch = some { w with saving := w.saving.filter (· != t), restoring := w.restoring ++ [t] }
      ∧ (∀ n, n < 512 → u.tile.strands.find (512 * t + n) = none) ∧ u.tile.cfg.find t = none ∧ u.mem = s.mem ∧ u.regs = s.regs)
  ∧ (∀ (s : State) (p t : Nat) (w : Switch), p < 32 → (s.ptn p).switch = some w → t ∈ w.restoring → w.dst ∉ (s.ptn p).saved → w.saving = [] →
      (∀ x ∈ w.restoring, x = t) → w.dst < 16 → ∃ u : State, exec (.tileRestoreDone p t) s = .next (u.deliverPosts p w.dst)
      ∧ u.rd .ptnCtxRunning p = w.dst ∧ (u.ptn p).switch = none ∧ (u.ptn p).since = s.beat.number ∧ u.mem = s.mem ∧ u.tile = s.tile)
  ∧ (∀ (s : State) (p v : Nat), ((s.vecMap p v).kind = 0 → exec (.interruptRaise p v) s = .next (s.bump .ptnIntrDropped p))
      ∧ ((s.vecMap p v).kind ≠ 0 → (s.vecMap p v).mask = true →
          exec (.interruptRaise p v) s = .next (s.wr .ptnIntrPend (setBit (s.rd .ptnIntrPend p) v) p))
      ∧ ((s.vecMap p v).kind ≠ 0 → (s.vecMap p v).mask = false → (s.vecMap p v).bound = true → s.rd .ptnCtxRunning p ≠ (s.vecMap p v).ctx →
          exec (.interruptRaise p v) s = .next (s.post p (s.vecMap p v).ctx v))
      ∧ ((s.vecMap p v).mask = false → ((s.vecMap p v).bound = false ∨ s.rd .ptnCtxRunning p = (s.vecMap p v).ctx) → s.owl.fatalHub = false →
          ((s.vecMap p v).kind = 1 → exec (.interruptRaise p v) s = .next (s.msix (p + 1) (field (s.vecMap p v).target 10 0)))
          ∧ (s.ptnState p ≠ ptnHalted → (s.vecMap p v).kind = 2 → exec (.interruptRaise p v) s =
              .next (s.intrToChiplet (field (s.vecMap p v).target 2 0) p (field (s.vecMap p v).target 31 16)))
          ∧ (s.ptnState p ≠ ptnHalted → (s.vecMap p v).kind = 3 → exec (.interruptRaise p v) s =
              .next (s.setFlags p (field (s.vecMap p v).target 15 0) (BitVec.ofNat 64 (2 ^ field (s.vecMap p v).target 21 16))))
          ∧ (s.ptnState p = ptnHalted → 2 ≤ (s.vecMap p v).kind → exec (.interruptRaise p v) s = .next s)))
  ∧ ∀ (s : State) (p v : Nat), exec (.hepIntrRaise p v) s = .next (s.bar0Write (p + 1) 0x10 8 (v % 512))

/-! ## The security engine and the life cycle (R426–R471, R591–R593) -/

/-- Keys (R432, R436–R444): a delivery is LOADED exactly where the partition is sealed, the blob is well formed and fits, names the PAK, unwraps and
meets its policy; only then is its slot set, and in every case SEC_KEY_STATUS holds the outcome; an import without a key ends with NO_KEY, one whose
key was destroyed with POLICY, and one that runs out of readable records with XLATE; a rotation starts in a sealed partition without one, and is BUSY
else; the older fabric key is destroyed after its grace with nothing unacknowledged under it. Evidence, debug and zeroisation (R445–R453): an endpoint
that exists answers SPDM while the engine is operational, and ERROR to what it does not have; a grant that verifies waits for the coming edge, one
that does not is AUTH, and the nonce is drawn anew; the tenant ends its grant, and the last beat does; a debug command outside a grant's scope is
DENIED; zeroisation leaves no key; a failed self-test zeroises. -/
def Obligations.KeysAndEvidence : Prop :=
  ((∀ (s : State) (p : Nat) (b : Blob) (key : Option Nat), s.deliveryStatus p b key = keyLoaded ↔
        (s.ptnState p = ptnSealed ∧ b.wellFormed = true ∧ s.genFits p b = true ∧ b.pak = s.rd .secPakDigest 0 p ∧ key.isSome = true
          ∧ (s.keySlot (slotPak p)).isSome = true ∧ s.policyHolds p b.flags b.terms = true))
    ∧ (∀ (s : State) (r : Role) (p : Nat) (d : List Byte) (key : Option Nat), r ≠ .tenant →
        exec (.secKeyDeliver r p d key) s = .next (s.emit (.status stDenied 0)))
    ∧ (∀ (s : State) (p : Nat) (d : List Byte) (key : Option Nat), d.length = 2384 → ∃ u : State,
        exec (.secKeyDeliver .tenant p d key) s = .next ((u.wr .secKeyStatus (s.deliveryStatus p (blobOf d) key * 2 ^ 56
          + s.blobSlot p (blobOf d) % 16 * 2 ^ 48 + (blobOf d).keyId) 0 p).emit (.status stOk 0))
        ∧ (s.deliveryStatus p (blobOf d) key ≠ keyLoaded → u = s)
        ∧ (s.deliveryStatus p (blobOf d) key = keyLoaded → ∃ v : State, u = v.remeasure p ∧ { v with sec := s.sec } = s
            ∧ (v.keySlot (s.blobSlot p (blobOf d))).map (fun x => (some x.material, x.keyId, x.flags)) = some (key, (blobOf d).keyId, (blobOf d).flags)
            ∧ ∀ k, k ≠ s.blobSlot p (blobOf d) → v.keySlot k = s.keySlot k))
    ∧ (∀ (s : State) (p v : Nat), v < 2 ^ 256 → field v 215 208 = 0 → field v 207 160 % Config.granule = 0 → field v 159 144 ≠ 0 → field v 143 140 = 8 →
        field v 138 0 = 0 → s.sec.imports.find p = none →
        ((s.wr .secImport v 0 p).keySlot (slotCkpt p) = none →
          exec (.secImport .tenant p v) s = .next (((s.wr .secImport v 0 p).importResult p impNoKey 0 0).emit (.status stOk 0)))
        ∧ ∀ key, (s.wr .secImport v 0 p).keySlot (slotCkpt p) = some key → ∃ t, exec (.secImport .tenant p v) s = .next t
          ∧ (t.sec.imports.find p).map (fun i => (i.src, i.dst, i.count, i.slot, i.key, i.revoked)) =
              some (field v 255 208, field v 207 160, field v 159 144, slotCkpt p, key, false)
          ∧ t.sent = s.sent ++ [.status stOk 0] ∧ t.mem = s.mem)
    ∧ (∀ (s : State) (p n : Nat), s.sec.imports.find p = none → exec (.importDone p n) s = .next s)
    ∧ (∀ (s : State) (p n : Nat) (i : Import), s.sec.imports.find p = some i →
        (i.revoked = true → exec (.importDone p 0) s =
          .next (({ s with sec := { s.sec with imports := s.sec.imports.erase p } } : State).importResult p impPolicy 0 0))
        ∧ (i.revoked = false → 0 < i.count → (∀ k, k < i.count → s.readSpan p (i.src + k * chunkBytes) chunkBytes = none) → exec (.importDone p n) s =
          .next (({ s with sec := { s.sec with imports := s.sec.imports.erase p } } : State).importResult p impXlate 0 0))
        ∧ (∀ c, c = s.importChunk p i 0 → i.revoked = false → i.count = 1 → exec (.importDone p n) s =
          .next (({ c.2 with sec := { c.2.sec with imports := c.2.sec.imports.erase p } } : State).importResult p c.1 (if c.1 = impOk then 1 else 0) 0)))
    ∧ (∀ (s : State) (p v : Nat), (s.ptnState p = ptnSealed → s.rd .secRotateState 0 p = rotIdle → ∃ t, exec (.secRotate .tenant p 1) s = .next t
          ∧ (t.sec.rotate.find p).isSome = true ∧ t.sent = s.sent ++ [.status stOk 0] ∧ t.sec.slots = s.sec.slots ∧ t.mem = s.mem)
        ∧ (v < 256 → v ≠ 1 ∨ s.ptnState p ≠ ptnSealed ∨ s.rd .secRotateState 0 p ≠ rotIdle →
          exec (.secRotate .security p v) s = .next (s.emit (.status stBusy 0)))
        ∧ exec (.secRotate .operator p v) s = .next (s.emit (.status stDenied 0)))
    ∧ (∀ (s : State) (p : Nat) (a b : KeySlot), s.keySlot (slotFabric p 0) = some a → s.keySlot (slotFabric p 1) = some b → b.gen = (a.gen + 1) % 4 →
        (s.beat.number.toNat < b.switchBeat + s.rd .secFkGrace 0 p → exec (.fabricKeyRetire p) s = .next s)
        ∧ (b.switchBeat + s.rd .secFkGrace 0 p ≤ s.beat.number.toNat → s.sox.conns = [] →
          exec (.fabricKeyRetire p) s = .next ((s.destroyKey (slotFabric p 0)).remeasure p)))
    ∧ ∀ (s : State) (p : Nat), s.keySlot (slotFabric p 0) = none ∨ s.keySlot (slotFabric p 1) = none → exec (.fabricKeyRetire p) s = .next s)
  ∧ ((∀ (s : State) (ep : Nat) (q : SpdmReq), (s.hasEndpoint ep = false ∨ s.seUp = false ∨ s.lc = lcScrapped ∨ s.lc = lcLocked →
           exec (.spdmRequest ep q) s = .next s)
         ∧ (s.hasEndpoint ep = true → s.seUp = true → s.lc ≠ lcScrapped → s.lc ≠ lcLocked →
             exec (.spdmRequest ep .getVersion) s = .next (s.emit (.spdm ep 0x84 0 s.beat.number.toNat [[0x13]]))
             ∧ (∀ nonce, exec (.spdmRequest ep (.challenge nonce)) s =
                 .next (s.emit (.spdm ep 0x83 nonce s.beat.number.toNat [[Config.digest (s.chainOf ep)]])))
             ∧ (∀ i nonce b, i ≠ 0 → i ≠ 0xFF → s.block ep i = some b →
                 exec (.spdmRequest ep (.getMeasurements i nonce)) s = .next (s.emit (.spdm ep 0xE0 nonce s.beat.number.toNat [b])))
             ∧ (∀ i nonce, i ≠ 0 → i ≠ 0xFF → s.block ep i = none →
                 exec (.spdmRequest ep (.getMeasurements i nonce)) s = .next (s.emit (.spdm ep spdmError 0 s.beat.number.toNat [])))
             ∧ ∀ c, exec (.spdmRequest ep (.other c)) s = .next (s.emit (.spdm ep spdmError 0 s.beat.number.toNat []))))
     ∧ (∀ (s : State) (p : Nat) (b : List Byte) (ok : Bool), b.length = 3584 → ∃ t : State, ∃ st, exec (.secDebugGrant .operator p b ok) s =
           .next (t.emit (.status st 0)) ∧ t.rd .secDebugNonce 0 p = s.draw128 % 2 ^ 128 ∧ t.sec.grants = s.sec.grants
         ∧ (ok = true → s.rd .secTenantKey 0 p ≠ 0 → s.grantFits p b = true → st = stPending
             ∧ (t.sec.nextGrants.find p).map (fun g => (g.scope, g.beats)) = some (bytesAt b 2 2, bytesAt b 4 4))
         ∧ (ok = false ∨ s.rd .secTenantKey 0 p = 0 ∨ s.grantFits p b = false → st = stAuth ∧ t.sec.nextGrants = s.sec.nextGrants))
     ∧ (∀ (s : State) (p v : Nat), exec (.secDebugStateWrite .tenant p 0) s = .next ((s.grantEnd p).emit (.status stOk 0))
         ∧ exec (.secDebugStateWrite .operator p v) s = .next (s.emit (.status stDenied 0))
         ∧ (s.rd .secDebugState 0 p ≤ 1 → exec (.debugGrantExpiry p) s = .next (s.grantEnd p))
         ∧ (1 < s.rd .secDebugState 0 p → exec (.debugGrantExpiry p) s = .next s)
         ∧ (s.sec.grants.find p = none → s.grantEnd p = s))
     ∧ (∀ (s : State) (p v : Nat), v < 2 ^ 256 → field v 207 199 + 1 ≤ 256 → field v 195 0 = 0 → field v 197 196 = 0 → v.testBit 198 = false →
         (s.sec.grants.find p = none → exec (.secDebugCmd .operator p v) s = .next (s.emit (.status stDenied 0)))
         ∧ (∀ g, s.sec.grants.find p = some g → g.scope.testBit 0 = false → exec (.secDebugCmd .operator p v) s = .next (s.emit (.status stDenied 0)))
         ∧ (∀ g, s.sec.grants.find p = some g → g.scope.testBit 0 = true → s.readSpan p (field v 255 208) (field v 207 199 + 1) = none →
             exec (.secDebugCmd .operator p v) s = .next (s.emit (.status stRange 0)))
         ∧ (∀ g, s.sec.grants.find p = some g → g.scope.testBit 0 = true → (s.readSpan p (field v 255 208) (field v 207 199 + 1)).isSome = true →
             ∃ t u : State, exec (.secDebugCmd .operator p v) s = .next (t.sqlSettle.emit (.status stOk 0)) ∧ t = u.debugRead p (field v 255 208)
               (field v 207 199 + 1) ∧ u.mem = s.mem ∧ u = (s.wr .secDebugCmd v 0 p).record .debugAccess (some p) false
                 (field v 255 208 * 2 ^ 80 + (field v 207 199 + 1 - 1) * 2 ^ 71 + 0 + 0 * 2 ^ 68)))
     ∧ (∀ s : State, exec .seSensorTrip s = .next s.zeroise ∧ exec (.secZeroise .security 0x5A) s = .next (s.zeroise.emit (.status stOk 0))
         ∧ exec (.secZeroise .operator 0x5A) s = .next (s.emit (.status stDenied 0)) ∧ exec (.secKatPeriodExpiry true) s = .next s
         ∧ exec (.secKatPeriodExpiry false) s = .next (((s.wr .secState seError).zeroise).ev Ev.secSelftestFail)
         ∧ (s.seUp = true → exec (.secSelftest .security 1 true) s = .next (s.emit (.status stPending 0))
           ∧ exec (.secSelftest .security 1 false) s = .next ((((s.wr .secState seError).zeroise).ev Ev.secSelftestFail).emit (.status stPending 0)))
         ∧ (s.seUp = false → ∀ ok, exec (.secSelftest .security 1 ok) s = .next (s.emit (.status stLocked 0))))
     ∧ ∀ s : State, ∃ u : State, s.zeroise = ((u.ev Ev.secZeroised).remeasureAll).endSessions (fun _ => true) ∧ u.sec.slots = [] ∧ u.sec.root = none
         ∧ u.sec.hubKey = none ∧ u.rd .secState = seZeroised ∧ u.mem = s.mem ∧ ∀ k, u.keySlot k = none)

/-- A tenant's key outlives no change that breaks its policy (R438): what a new evaluation finds that no longer holds is destroyed, and a partition
whose keys all hold keeps them; a destroyed slot holds no key. -/
def Obligations.PoliciesEnforced : Prop :=  (∀ (s : State) (p : Nat), (∀ k ∈ tenantSlots p, ∀ x, s.keySlot k = some x → s.policyHolds p x.flags x.terms = true) → s.remeasure p = s)
  ∧ (∀ (s : State) (p j : Nat) (x : KeySlot), j < 8 → s.keySlot (slotContent p j) = some x → s.policyHolds p x.flags x.terms = false →
      (∀ k ∈ tenantSlots p, k ≠ slotContent p j → s.keySlot k = none ∧ (s.revoke p (slotContent p j)).keySlot k = none) → s.remeasure p = s.revoke p (slotContent p j))
  ∧ (∀ (s : State) (k : Nat), (s.destroyKey k).keySlot k = none ∧ (∀ j, j ≠ k → (s.destroyKey k).keySlot j = s.keySlot j)
      ∧ (s.destroyKey k).mem = s.mem)
  ∧ ∀ (s : State) (p k : Nat), ∃ u : State, s.revoke p k = u.ev Ev.secPolicyRevoked (some p) (Config.detail [k]) ∧ u.keySlot k = none
      ∧ (∀ i, u.sec.imports.find p = some i → i.slot = k → i.revoked = true) ∧ u.mem = s.mem

/-- Transitions and tokens (R459–R470): a record from a role that may not is DENIED, in a dead state LOCKED, and BUSY while another runs or waits for
its reset; one that fails a check fails with the first reason, under a new nonce; one out of FIELD dissolves every partition and waits for its
erasure, which fails where anything is left and empties memory where not; any other runs through its burn, after which LCS_PENDING holds its target
and LCS_STATE stays; a token opens its scopes; SVN and boundary scan follow R468 and R469. -/
def Obligations.LifeCycleMoves : Prop :=  (∀ (s : State) (role : Role) (r : LcRecord) (b : Burn), (role = .operator ∨ role = .tenant →
        exec (.lcsTransition role r b) s = .next (s.emit (.status stDenied 0)))
      ∧ (role = .vendor ∨ role = .integrator ∨ role = .security → r.bytes.length = 10848 →
          (s.lc = lcScrapped ∨ s.lc = lcLocked → exec (.lcsTransition role r b) s = .next (s.emit (.status stLocked 0)))
          ∧ (s.lc ≠ lcScrapped → s.lc ≠ lcLocked → s.lcBusy = true → exec (.lcsTransition role r b) s = .next (s.emit (.status stBusy 0)))
          ∧ (s.lc ≠ lcScrapped → s.lc ≠ lcLocked → s.lcBusy = false →
              (s.lcCheck r [1] ≠ 0 → exec (.lcsTransition role r b) s =
                .next ((s.newNonce.lcFail r (s.lcCheck r [1])).emit (.status stPending 0)))
              ∧ (s.lcCheck r [1] = 0 → LcRecord.erases r = true → ∃ t : State, exec (.lcsTransition role r b) s = .next (t.emit (.status stPending 0))
                  ∧ t.life.erasing = some r)
              ∧ (s.lcCheck r [1] = 0 → LcRecord.erases r = false → LcRecord.zeroises r = false → exec (.lcsTransition role r b) s =
                .next (((s.newNonce.lcStatus lcChecking 0).burnTransition r b).emit (.status stPending 0)))
              ∧ (s.lcCheck r [1] = 0 → LcRecord.erases r = false → LcRecord.zeroises r = true → exec (.lcsTransition role r b) s =
                .next (((((s.newNonce.lcStatus lcChecking 0).lcStatus lcErasing 0).zeroise).burnTransition r b).emit (.status stPending 0))))))
  ∧ (∀ (s : State) (r : LcRecord), (LcRecord.formatOk r = false → s.lcCheck r [1] = lcFormat)
      ∧ (LcRecord.formatOk r = true → LcRecord.kind r = 1 →
          (LcRecord.at r 8 8 ≠ s.life.otp.unitId → s.lcCheck r [1] = lcUnit)
          ∧ (LcRecord.at r 8 8 = s.life.otp.unitId → LcRecord.src r ≠ s.lc → s.lcCheck r [1] = lcStateBad)
          ∧ (LcRecord.at r 8 8 = s.life.otp.unitId → LcRecord.src r = s.lc → s.life.otp.signers r = none → s.lcCheck r [1] = lcStateBad)
          ∧ ∀ w, LcRecord.at r 8 8 = s.life.otp.unitId → LcRecord.src r = s.lc → s.life.otp.signers r = some w →
              (LcRecord.at r 0x10 16 ≠ s.rd .lcsNonce → s.lcCheck r [1] = lcNonceBad)
              ∧ (LcRecord.at r 0x10 16 = s.rd .lcsNonce → LcRecord.rootsOk r w = false → s.lcCheck r [1] = lcRootBad)
              ∧ (LcRecord.at r 0x10 16 = s.rd .lcsNonce → LcRecord.rootsOk r w = true → LcRecord.signed r = false → s.lcCheck r [1] = lcSignature)
              ∧ (LcRecord.at r 0x10 16 = s.rd .lcsNonce → LcRecord.rootsOk r w = true → LcRecord.signed r = true → s.lcCheck r [1] = 0)))
  ∧ (∀ (s : State) (r : LcRecord) (b : Burn), LcRecord.src r = lcWafer → LcRecord.dst r = lcAssembly →
      (b.flashOk = false → s.burnTransition r b = ({ s with life := { s.life with erasing := none } } : State).lcFail r lcFlash)
      ∧ (b.flashOk = true → s.startup.pwrFail = false → (s.life.otp.burn lcAssembly b.bits).reached lcAssembly = true → ∃ u : State,
          s.burnTransition r b = u.lcRecord r ∧ u.rd .lcsPending = lcAssembly ∧ u.rd .lcsTransitionStatus = lcDone * 2 ^ 24 ∧ u.life.done = true
          ∧ u.life.otp = s.life.otp.burn lcAssembly b.bits ∧ u.rd .lcsState = s.rd .lcsState ∧ u.mem = s.mem))
  ∧ (∀ (s : State) (ok : Bool) (b : Burn), (s.life.erasing = none → exec (.lcsEraseDone ok b) s = .next s)
      ∧ ∀ r, s.life.erasing = some r →
          (ok = false ∨ (∃ p, p < 32 ∧ s.formed p = true) ∨ s.owl.fatalHub = true ∨ s.seUp = false → exec (.lcsEraseDone ok b) s =
            .next (({ s with life := { s.life with erasing := none } } : State).lcFail r lcErase))
          ∧ (ok = true → (∀ p, p < 32 → s.formed p = false) → s.owl.fatalHub = false → s.seUp = true → exec (.lcsEraseDone ok b) s =
            .next (({ s with mem := [], poison := [] } : State).zeroise.burnTransition r b)))
  ∧ (∀ (s : State) (r : LcRecord), r.bytes.length = 10848 → s.lc ≠ lcScrapped → s.lc ≠ lcLocked → s.lcBusy = false →
      (s.lcCheck r [2, 3] ≠ 0 → exec (.lcsToken .vendor r) s =
        .next ((s.newNonce.lcStatus lcFailed (s.lcCheck r [2, 3])).emit (.status stAuth 0)))
      ∧ (s.lcCheck r [2, 3] = 0 → ∃ t, exec (.lcsToken .vendor r) s = .next t ∧ t.life.opened = true
        ∧ t.rd .lcsDebugScope = (s.newNonce.rd .lcsDebugScope ||| LcRecord.scope r) % 2 ^ 32 ∧ t.sent = s.sent ++ [.status stOk 0] ∧ t.sec = s.sec))
  ∧ (∀ (s : State) (v : Nat), v < 256 → s.lc = lcField → s.startup.pwrFail = false →
      (v ≤ s.rd .lcsSvn ∨ s.rdField .secFwVersion 31 0 < v ∨ 64 < v → exec (.lcsSvnCommit .security v) s = .next (s.emit (.status stRange 0)))
      ∧ (s.rd .lcsSvn < v → v ≤ s.rdField .secFwVersion 31 0 → v ≤ 64 → ∃ u : State, exec (.lcsSvnCommit .security v) s =
          .next (u.remeasureAll.emit (.status stOk 0)) ∧ u.life.otp.svn = 2 ^ v - 1 ∧ u.rd .lcsSvn = v ∧ svnOk u.life.otp.svn = true)
      ∧ exec (.lcsSvnCommit .vendor v) s = .next (s.emit (.status stLocked 0)))
  ∧ ∀ (s : State) (v : Nat), v ≤ 1 → (s.lc = lcField → exec (.lcsBscanEnWrite .security v) s = .next ((s.wr .lcsBscanEn v).emit (.status stOk 0)))
      ∧ (s.lc ≠ lcField → exec (.lcsBscanEnWrite .security v) s = .next (s.emit (.status stLocked 0)))
      ∧ exec (.lcsBscanEnWrite .operator v) s = .next (s.emit (.status stDenied 0))

/-- Burning marks (R458, R464): wherever power is lost, from a decodable OTP the bits burnt so far decode to a state, never to LOCKED, that is not
before the old one, and not past the target; a burn of one step moves at most one state on. -/
def Obligations.InterruptedBurnDecodes : Prop :=  ∀ (o : Otp) (dst n : Nat), o.marks.length = 5 → o.decode.state ≠ lcLocked →
    (o.burn dst n).decode.state ≠ lcLocked ∧ o.decode.state ≤ (o.burn dst n).decode.state
    ∧ (dst ≠ lcScrapped → (o.burn dst n).decode.state ≤ o.decode.state + 1)
    ∧ (16 ≤ n → dst ≠ lcScrapped → o.decode.state < 5 → (o.burn dst n).decode.state = o.decode.state + 1)

/-- The TAP (R468, R591–R593): an instruction that the life-cycle state does not admit selects BYPASS and does nothing more; IDCODE and LC_STATUS
shift out their values; EXTEST in FIELD zeroises; the stack wrapper takes its stack out of service; a scan of an opened scope zeroises and leaves
READY; a record shifted into LC_TOKEN runs as the same record written; IDCODE, BYPASS and LC_STATUS are always admitted. -/
def Obligations.TapInstructions : Prop :=  (∀ (s : State) (g : Nat) (r : LcRecord) (b : Burn), ∀ e ∈ ([(.tapBypass, .bypass), (.tapIdcode, .idcode), (.tapSamplePreload, .sample),
      (.tapExtest, .extest), (.tapIeee1500 g, .ieee1500), (.tapLcToken r b, .lcToken), (.tapLcStatus, .lcStatus), (.tapIntscan, .intscan),
      (.tapMbistAcc, .mbistAcc)] : List (Instr × TapIr)), s.tapAdmits e.2 = false →
      exec e.1 s = .next { s with tap := { s.tap with ir := .bypass } })
  ∧ (∀ s : State, s.tapAdmits .idcode = true ∧ s.tapAdmits .bypass = true ∧ s.tapAdmits .lcStatus = true
      ∧ exec .tapBypass s = .next { s with tap := { s.tap with ir := .bypass } }
      ∧ exec .tapIdcode s = .next (({ s with tap := { s.tap with ir := .idcode } } : State).emit (.tdo 0x153489CF))
      ∧ exec .tapLcStatus s = .next (({ s with tap := { s.tap with ir := .lcStatus } } : State).emit
          (.tdo (s.lc % 16 + s.rd .lcsPending % 16 * 16)))
      ∧ exec .tapReset s = .next { s with tap := { ir := .idcode } })
  ∧ (∀ s : State, s.tapAdmits .sample = true → exec .tapSamplePreload s = .next { s with tap := { s.tap with ir := .sample } })
  ∧ (∀ s : State, s.tapAdmits .extest = true → ∃ u : State, u = { s with tap := { s.tap with ir := .extest } }
      ∧ (s.lc = lcField → exec .tapExtest s = .next u.zeroise) ∧ (s.lc ≠ lcField → exec .tapExtest s = .next u))
  ∧ (∀ (s : State) (g : Nat), s.tapAdmits .ieee1500 = true → ∃ t, exec (.tapIeee1500 g) s = .next t ∧ t.tap.ir = .ieee1500 ∧ t.tap.stack = some (g % 8))
  ∧ (∀ (s : State) (r : LcRecord) (b : Burn), s.tapAdmits .lcToken = true → ∃ u : State, u = { s with tap := { s.tap with ir := .lcToken } }
      ∧ (u.lcBusy = true → exec (.tapLcToken r b) s = .next u) ∧ (u.lcBusy = false → LcRecord.kind r = 1 → exec (.tapLcToken r b) s = .next (u.transition r b))
      ∧ (u.lcBusy = false → LcRecord.kind r ≠ 1 → exec (.tapLcToken r b) s = .next (u.token r).2))
  ∧ (∀ s : State, ∀ e ∈ ([(.tapIntscan, .intscan), (.tapMbistAcc, .mbistAcc)] : List (Instr × TapIr)), s.tapAdmits e.2 = true →
      (s.life.opened = false → exec e.1 s = .next { s with tap := { s.tap with ir := e.2 } })
      ∧ (s.life.opened = true → ∃ t : State, exec e.1 s = .next (t.zeroise.wr .pdxReady 0) ∧ t.life.opened = false ∧ t.tap.ir = e.2
          ∧ (t.zeroise.wr .pdxReady 0).rd .pdxReady = 0))
  ∧ ∀ (s : State) (i : TapIr), (s.lc = lcScrapped ∨ s.lc = lcLocked → s.tapAdmits i = true → i = .idcode ∨ i = .bypass ∨ i = .lcStatus)
      ∧ (s.lc = lcField → i = .intscan ∨ i = .mbistAcc ∨ i = .lcToken ∨ i = .ieee1500 → s.tapAdmits i = false)

/-! ## The host (R472–R493) -/

/-- Host requests (R474, R475, R481–R488): configuration requests before READY get Retry Status, later their register; with the link down nothing is
answered, before READY a read is Unsupported Request, during a hub reset it is Completer Abort; PF0's registers are read and written at once; a
request to a VF takes its turn behind its function's queue; reserved offsets read zero, and a refused access is refused with its code of R481; a write
of GO, of a mailbox or of a slot's operation is the write of its register; the export starts under R488's conditions. -/
def Obligations.HostRequests : Prop :=  (∀ (s : State) (fn : Nat) (reg : CfgReg) (w : Option Nat), (s.rd .hepLinkState ≠ linkUp → exec (.hostConfigRequest fn reg w) s = .next s)
      ∧ (s.rd .hepLinkState = linkUp → s.rd .pdxReady ≠ 1 → exec (.hostConfigRequest fn reg w) s = .next (s.emit (.completion fn 3 [])))
      ∧ (s.rd .hepLinkState = linkUp → s.rd .pdxReady = 1 → fn ≤ 32 →
          exec (.hostConfigRequest fn reg none) s = .next ((s.emit (.completion fn 0 (s.cfgRead fn reg))).drawn)
          ∧ ∀ v, exec (.hostConfigRequest fn reg (some v)) s = .next ((s.cfgWrite fn reg v).emit (.completion fn 0 []))))
  ∧ (∀ (s : State) (fn off n : Nat), s.rd .hepLinkState ≠ linkUp → exec (.hostBar0Read fn off n) s = .next s)
  ∧ (∀ (s : State) (fn off n : Nat), fn ≤ 32 → s.rd .hepLinkState = linkUp → s.startup.reset = none → s.rd .pdxReady ≠ 1 → s.owl.fatalHub = false →
      exec (.hostBar0Read fn off n) s = .next (s.emit (.completion fn cplUr [])))
  ∧ (∀ (s : State) (fn off n : Nat), fn ≤ 32 → s.rd .hepLinkState = linkUp → s.startup.reset.isSome = true →
      exec (.hostBar0Read fn off n) s = .next (s.emit (.completion fn cplCa [])))
  ∧ (∀ (s : State) (off n : Nat), s.rd .hepLinkState = linkUp → s.startup.reset = none → s.rd .pdxReady = 1 → s.owl.fatalHub = false →
      exec (.hostBar0Read 0 off n) s = .next (s.emit (.completion 0 0 (bytesFrom s.pfWord off n))))
  ∧ (∀ (s : State) (p : Nat) (r : HostReq), p < 32 → s.rd .hepLinkState = linkUp → s.startup.reset = none → s.rd .pdxReady = 1 → s.hep.queue.find p = none →
      s.hostOut p = [] → s.col.paused.find p = none → r.bar2 = false →
      s.hostArrive p r = State.hostTurns 1 (s.vfAccess p r) p
      ∧ (∀ t : State, t.hep.queue.find p = none → State.hostTurns 1 t p = t)
      ∧ (r.data = none → s.owl.fatalHub = true → s.vfAccess p r = s.emit (.completion (p + 1) cplCa []))
      ∧ (s.owl.fatalHub = false → vfGroup r.off = .reserved → r.data = none → s.vfAccess p r = s.emit (.completion (p + 1) 0 (List.replicate r.len 0)))
      ∧ (s.owl.fatalHub = false → vfGroup r.off ≠ .reserved →
          (vfSizeOk r.off r.len = false → s.vfAccess p r = s.hostRefuse p 1 r.data.isNone)
          ∧ (vfSizeOk r.off r.len = true → s.ptnState p = ptnFree → s.vfAccess p r = s.hostRefuse p 2 r.data.isNone)
          ∧ (vfSizeOk r.off r.len = true → vfGroup r.off = .control → s.ptnState p = ptnFormed ∨ s.ptnState p = ptnSealing →
              s.vfAccess p r = s.hostRefuse p 3 r.data.isNone)
          ∧ (vfSizeOk r.off r.len = true → vfGroup r.off = .control → 4 ≤ s.ptnState p → s.vfAccess p r = s.hostRefuse p 4 r.data.isNone)
          ∧ (vfSizeOk r.off r.len = true → s.ptnState p = ptnSealed → r.data = none →
              s.vfAccess p r = s.emit (.completion (p + 1) 0 (bytesFrom (s.vfWord p) r.off r.len)))))
  ∧ (∀ (s : State) (p off n : Nat) (d : List Byte) (ep : Bool), p < 32 → s.rd .hepLinkState = linkUp → s.startup.reset = none → s.rd .pdxReady = 1 →
      ∀ e ∈ ([(.hostBar2Read p off n, { bar2 := true, off, data := none, len := n, ep := false }),
          (.hostBar2Write p off d ep, { bar2 := true, off, data := some d, len := d.length, ep }),
          (.hostBar0Read (p + 1) off n, { bar2 := false, off, data := none, len := n, ep := false })] : List (Instr × HostReq)), exec e.1 s =
        .next (State.hostTurns ((s.hep.queue.get p [] ++ [e.2]).length + 1)
          { s with hep := { s.hep with queue := s.hep.queue.put p (s.hep.queue.get p [] ++ [e.2]) [] } } p))
  ∧ (∀ (s : State) (p fn slot v : Nat), p < 32 → slot < 128 →
      exec (.hostSyncSlotWrite p slot v) s = exec (.registerWrite (.vf p (0x80010 + 0x1000 * slot) 8 v)) s
      ∧ exec (.hostMailboxGo fn v) s = .next (s.bar0Write fn 0x1000 8 (setBit (v % 2 ^ 64) 63))
      ∧ exec .ckptExportGo s = exec (.registerWrite (.pf0 0x10018 8 1)) s
      ∧ exec (.registerWrite (.vf p slot 8 v)) s = .next (s.bar0Write (p + 1) slot 8 v))
  ∧ (∀ (s : State), s.rd .hepLinkState = linkUp → s.startup.reset = none → s.rd .pdxReady = 1 → s.owl.fatalHub = false →
      exec .ckptExportGo s = .next s.exportGo)
  ∧ (∀ (s : State) (p : Nat), p = field s.hep.exp.what 63 59 →
      (s.hep.exp.status = xpRunning → s.exportGo.hep.exp = { s.hep.exp with busy := true })
      ∧ (s.hep.exp.status ≠ xpRunning → s.rd .hepHostCkpt 0 p ≠ 1 → s.exportGo.hep.exp.status = xpNotEnabled)
      ∧ (s.hep.exp.status ≠ xpRunning → s.rd .hepHostCkpt 0 p = 1 → s.ptnState p ≠ ptnSealed → s.exportGo.hep.exp.status = xpNotSealed)
      ∧ (s.hep.exp.status ≠ xpRunning → s.rd .hepHostCkpt 0 p = 1 → s.ptnState p = ptnSealed → s.keySlot (slotCkpt p) = none →
          s.exportGo.hep.exp.status = xpNoKey)
      ∧ (s.hep.exp.status ≠ xpRunning → s.rd .hepHostCkpt 0 p = 1 → s.ptnState p = ptnSealed → (s.keySlot (slotCkpt p)).isSome = true →
          s.exportGo.hep.exp.status = xpRunning ∧ s.exportGo.hep.exp.run = s.hep.exp.what ∧ s.exportGo.hep.exp.written = 0
          ∧ s.exportGo.fresh = s.fresh + 2))
  ∧ (∀ (s : State) (l : List SnoopedLine), (s.hep.exp.status ≠ xpRunning → exec (.ckptExportDone l) s = .next s)
      ∧ (s.hep.exp.status = xpRunning → exec (.ckptExportDone l) s = .next (State.exportRun (field s.hep.exp.run 30 15) s l))
      ∧ (s.hep.exp.status = xpRunning → field s.hep.exp.run 30 15 ≠ 0 → s.keySlot (slotCkpt s.hep.exp.ptn) = none →
          exec (.ckptExportDone l) s = .next (s.exportEnd xpXlate)))
  ∧ ∀ (s : State) (off n v : Nat) (d : List Byte) (role : Role) (p i sub : Nat),
      (s.dictRuns = false → exec (.registerWrite (.entry role p i sub d)) s = .next s)
      ∧ (s.rd .hepLinkState = linkUp → s.startup.reset = none → s.rd .pdxReady = 1 → s.owl.fatalHub = false → off < 0x1000 → off + n ≤ 0x1000 →
          exec (.registerWrite (.pf0 off n v)) s = .next s)

/-- A Function Level Reset of a VF touches only what R486 names: the VF's window table, sync slots, refusal, vectors and header are cleared, its
requests in the station discarded, and the partition's own state, memory and every register stay; one of PF0 also clears VF Enable and ends a running
export. -/
def Obligations.FunctionResets : Prop :=  (∀ (s : State) (p : Nat), ∃ t, exec (.vfFlr p) s = .next t ∧ t.mem = s.mem ∧ t.regs = s.regs ∧ t.ptns = s.ptns ∧ t.wqs = s.wqs ∧ t.tile = s.tile
      ∧ t.sync = s.sync ∧ t.jay = s.jay ∧ t.sent = s.sent
      ∧ (∀ k, k / 1024 = p → t.hep.wtt.find k = none) ∧ (∀ k, k / 1024 ≠ p → t.hep.wtt.find k = s.hep.wtt.find k)
      ∧ (∀ k, k / 128 = p → t.hep.slots.find k = none) ∧ (∀ k, k / 128 ≠ p → t.hep.slots.find k = s.hep.slots.find k)
      ∧ t.hep.refused.find p = none ∧ t.hep.queue.find p = none ∧ (∀ q, q ≠ p → t.hep.queue.find q = s.hep.queue.find q)
      ∧ (∀ k, k / 2048 = p + 1 → t.hep.msixTab.find k = none ∧ t.hep.msixPend.find k = none)
      ∧ (∀ k, k / 2048 ≠ p + 1 → t.hep.msixTab.find k = s.hep.msixTab.find k) ∧ t.hep.vfEnable = s.hep.vfEnable ∧ t.hep.exp = s.hep.exp)
  ∧ ∀ s : State, ∃ t, exec .pfFlr s = .next t ∧ t.hep.vfEnable = false ∧ t.mem = s.mem ∧ t.ptns = s.ptns ∧ t.hep.wtt = s.hep.wtt
      ∧ t.hep.slots = s.hep.slots ∧ (∀ k, k / 2048 = 0 → t.hep.msixTab.find k = none) ∧ t.hep.exp.status ≠ xpRunning

/-- The slot and the link (R486, R489–R492, R622): insertion goes EMPTY, POWERING, POWERED with its enables; a missed power-good is a FAULT; a press
asks for removal and a second one, CANCEL or the deadline gives it up; after REMOVE_ACK the loss of the link is orderly, else a surprise loss, which
is counted and reported; HOST_PERST_N resets every function and takes the link down. -/
def Obligations.SlotAndLink : Prop :=  (∀ s u : State, s.slotRuns = true → s.slotBit slotPresent = false → u = (s.setSlotBit slotPresent true).attnInd indOff →
      (u.slotState = slotEmpty → exec .hostPrsntAssert s = .next (((u.setSlot slotPowering).pwrInd indBlink).slotPower true false))
      ∧ (u.slotState ≠ slotEmpty → exec .hostPrsntAssert s = .next u) ∧ u.slotState = s.slotState)
  ∧ (∀ s : State, s.slotRuns = false → ∀ c ∈ ([.hostPrsntAssert, .hostPg1Assert, .hostPg2Assert, .hostAttnPress, .hostPrsntDeassert] : List Instr),
      exec c s = .next s)
  ∧ (∀ s : State, s.slotRuns = true → ∃ u v : State, u = s.setSlotBit slotPg1 true ∧ v = s.setSlotBit slotPg2 true
      ∧ (u.slotState = slotPowering → u.hep.en1 = true → exec .hostPg1Assert s = .next (u.slotPower true true))
      ∧ (u.slotState ≠ slotPowering → exec .hostPg1Assert s = .next u)
      ∧ (v.slotState = slotPowering → v.hep.en2 = true → exec .hostPg2Assert s = .next (v.setSlot slotPowered))
      ∧ (v.slotState ≠ slotPowering → exec .hostPg2Assert s = .next v))
  ∧ (∀ s : State, (s.slotState = slotPowering → exec .hostPgTimeout s =
        .next ((((s.slotPower false false).setSlot slotFault).attnInd indOn).ev Ev.hepSlotFault))
      ∧ (s.slotState ≠ slotPowering → exec .hostPgTimeout s = .next s))
  ∧ (∀ s : State, s.slotRuns = true → (s.slotState = slotPowering → exec .hostAttnPress s = .next s)
      ∧ ∀ u : State, u = s.setSlotBit slotButton true → (s.slotState = slotPowered → ∃ v : State, exec .hostAttnPress s = .next (v.msix 0 2)
            ∧ v = (({ u with hep := { u.hep with acked := false, waited := false } } : State).setSlot slotRemovePending).pwrInd indBlink)
        ∧ (s.slotState = slotRemovePending → u.hep.waited = false → exec .hostAttnPress s = .next u.removeEnds))
  ∧ (∀ s : State, (s.slotState = slotRemovePending → s.hep.waited = false → exec .hostRemoveCancel s = .next s.removeEnds)
      ∧ (s.slotState ≠ slotRemovePending → ∀ c ∈ ([.hostRemoveCancel, .hostRemoveAck, .hostRemoveWaitEnd, .hepRemoveDeadlineExpiry] : List Instr),
          exec c s = .next s)
      ∧ (s.slotState = slotRemovePending →
          (s.hep.waited = false → exec .hostRemoveAck s = .next { s with hep := { s.hep with acked := true } })
          ∧ (s.hep.waited = true →
              exec .hostRemoveAck s = .next (({ s with hep := { s.hep with acked := true } } : State).exportEnd xpLinkLost))
          ∧ (s.hep.acked = false → exec .hostRemoveWaitEnd s = .next { s with hep := { s.hep with waited := true } }
              ∧ exec .hepRemoveDeadlineExpiry s = .next (((s.removeEnds).attnInd indOn).ev Ev.hepRemoveMiss))
          ∧ (s.hep.acked = true → exec .hepRemoveDeadlineExpiry s = .next s)))
  ∧ (∀ s : State, (s.rd .hepLinkState = 0 → exec .surpriseLoss s = .next s)
      ∧ (s.rd .hepLinkState ≠ 0 → s.slotState ≠ slotRemovePending → exec .hostLinkDown s = exec .surpriseLoss s)
      ∧ (s.slotState = slotRemovePending → s.hep.acked = false → exec .hostLinkDown s = exec .surpriseLoss s)
      ∧ (s.rd .hepLinkState ≠ 0 → ∃ u : State, u = ((s.linkDown).bump .hepSurpriseLosses).ev Ev.hepSurprise
          ∧ ∃ v : State, v = { u with hep := { u.hep with acked := false, waited := false } }
          ∧ (v.slotState ≠ slotRemovePending → exec .surpriseLoss s = .next v)
          ∧ (v.slotState = slotRemovePending → exec .surpriseLoss s = .next (v.setSlot slotPowered)))
      ∧ (s.slotState = slotRemovePending → s.hep.acked = true → s.rd .hepLinkState ≠ 0 → ∃ t : State, exec .hostLinkDown s = .next t
          ∧ t.hep.acked = false ∧ t.hep.en1 = false ∧ t.hep.en2 = false ∧ t.mem = s.mem ∧ t.ptns = s.ptns))
  ∧ (∀ s : State, s.linkDown.rd .hepLinkState = 0 ∧ s.linkDown.hep.queue = [] ∧ s.linkDown.hep.msixPend = [] ∧ s.linkDown.mem = s.mem)
  ∧ (∀ s : State, ∃ t, exec .hostPerst s = .next t ∧ t.rd .hepLinkState = 0 ∧ t.hep.perst = true)
  ∧ (∀ s : State, ∃ u : State, u = { s with hep := { s.hep with perst := false } }
      ∧ (s.slotRuns = true → s.rd .hepLinkState = 0 → exec .hostPerstDeassert s = .next (u.wr .hepLinkState 1))
      ∧ (s.slotRuns = false ∨ s.rd .hepLinkState ≠ 0 → exec .hostPerstDeassert s = .next u))
  ∧ (∀ (s : State) (rate width : Nat), (s.slotRuns = false ∨ s.hep.perst = true → exec (.pcieLinkUp rate width) s = .next s)
      ∧ (s.slotRuns = true → s.hep.perst = false → ∃ u : State, u = (s.wr .hepLinkState linkUp).wr .hepLinkRate (width % 256 * 256 + rate % 256)
          ∧ (u.slotState = slotPowered → exec (.pcieLinkUp rate width) s = .next (u.pwrInd indOn))
          ∧ (u.slotState ≠ slotPowered → exec (.pcieLinkUp rate width) s = .next u)))
  ∧ (∀ s : State, (s.rd .hepLinkState = linkUp →
        exec .pmeTurnOff s = .next (({ s with hep := { s.hep with l2 := true } } : State).emit .pmeAck)
        ∧ exec .pinHostclkLoss s = .next (s.ev Ev.pinHostclkLoss).surpriseLoss)
      ∧ (s.rd .hepLinkState ≠ linkUp → exec .pmeTurnOff s = .next s ∧ exec .pinHostclkLoss s = .next s)
      ∧ (1 ≤ s.rd .pdxBringupStep → exec .pinSoxclkLoss s = .next (s.ev Ev.pinSoxclkLoss))
      ∧ (s.rd .pdxBringupStep = 0 → exec .pinSoxclkLoss s = .next s))
  ∧ (∀ s : State, exec (.debounceExpiry .prsnt true) s = exec .hostPrsntAssert s ∧ exec (.debounceExpiry .prsnt false) s = exec .hostPrsntDeassert s
      ∧ exec (.debounceExpiry .attn true) s = exec .hostAttnPress s ∧ exec (.debounceExpiry .attn false) s = .next s
      ∧ exec (.debounceExpiry .pg1 true) s = exec .hostPg1Assert s ∧ exec (.debounceExpiry .pg2 true) s = exec .hostPg2Assert s
      ∧ (s.slotRuns = true → exec (.debounceExpiry .pg1 false) s = .next (s.setSlotBit slotPg1 false)
          ∧ exec (.debounceExpiry .pg2 false) s = .next (s.setSlotBit slotPg2 false)))
  ∧ (∀ s : State, s.slotRuns = true → s.slotBit slotPresent = true → (s.slotState = slotFault ∨ s.slotState = slotPoweringOff →
        exec .hostPrsntDeassert s = .next ((s.setSlotBit slotPresent false).setSlot slotEmpty))
      ∧ (s.slotState = slotPowered → exec .hostPrsntDeassert s = .next
          (((((s.setSlotBit slotPresent false).surpriseLoss.slotPower false false).pwrInd indOff).attnInd indOn).setSlot slotEmpty)))
  ∧ ∀ (s : State) (e target a : Nat), (s.owl.fatalHub = true ∨ 16 ≤ e ∨ s.rd .soxPortState 0 e < 2 → exec (.neighbourSolicitationRx e target) s = .next s)
      ∧ (s.owl.fatalHub = false → e < 16 → 2 ≤ s.rd .soxPortState 0 e →
          (s.ownAddr e target = true → exec (.neighbourSolicitationRx e target) s = .next (s.emit (.neighbour e)))
          ∧ (s.ownAddr e target = false → exec (.neighbourSolicitationRx e target) s = .next (s.bumpWord .soxDropped 1 0 e)))
      ∧ exec (.i3cDynamicAddress a) s = .next (({ s with startup := { s.startup with i3c := some a } } : State).emit (.i3cAddress a))

/-! ## The dictionary (R494–R516) -/

/-- The checks of a written item (R507, R508), in their order: an index that is not answered yet is BUSY, an entry that does not exist NOT_FOUND, a
role or scope that may not DENIED, an encoding of another length TYPE, a value out of its type's range RANGE; then an entry's own operation, or its
range and joint conditions, and its apply class: LIVE now, BEAT for an edge, RESET stored, IDLE and SEAL only while idle or not sealed. -/
def Obligations.ItemsChecked : Prop :=  (∀ (s : State) (o : AMap Nat) (a : Actor) (i sub : Nat) (b : List Byte) (x : List Nat),
      (s.indexReady i = false → s.itemWrite o a i sub b x = (stBusy, s))
      ∧ (s.indexReady i = true → dictFind i sub = none → s.itemWrite o a i sub b x = (stNotFound, s))
      ∧ ∀ t, s.indexReady i = true → dictFind i sub = some t →
          (mayWrite t.e.acc a.role = false ∨ s.inScope a t = false → s.itemWrite o a i sub b x = (stDenied, s))
          ∧ (mayWrite t.e.acc a.role = true → s.inScope a t = true →
              (t.e.ty.encodes b = false → s.itemWrite o a i sub b x = (stType, s))
              ∧ (t.e.ty.encodes b = true → t.e.ty.fits (leNat b) = false → s.itemWrite o a i sub b x = (stRange, s))
              ∧ (t.e.ty.encodes b = true → t.e.ty.fits (leNat b) = true →
                  (∀ r, s.ownWrite a t b x = some r → s.itemWrite o a i sub b x = r)
                  ∧ (s.ownWrite a t b x = none → (t.e.range.holds (leNat b) = false ∨ s.jointOk o t (leNat b) = false →
                        s.itemWrite o a i sub b x = (stRange, s))
                      ∧ (t.e.range.holds (leNat b) = true → s.jointOk o t (leNat b) = true →
                        s.itemWrite o a i sub b x = s.applyWrite a t (leNat b))))))
  ∧ (∀ (s : State) (a : Actor) (t : DTarget) (v : Nat), (t.e.apply = .live → s.applyWrite a t v = (stOk, s.liveWrite a t v))
      ∧ (t.e.apply = .beat → s.beat.cutoff = false → s.applyWrite a t v =
          (stPending, { s with dict := { s.dict with shadow := s.dict.shadow.set t.key (v % 2 ^ t.e.reg.bits) } }))
      ∧ (t.e.apply = .beat → s.beat.cutoff = true → s.applyWrite a t v =
          (stPending, { s with dict := { s.dict with later := s.dict.later.set t.key (v % 2 ^ t.e.reg.bits) } }))
      ∧ (t.e.apply = .reset → s.applyWrite a t v =
          (stPending, { s with dict := { s.dict with stored := s.dict.stored.set t.key (v % 2 ^ t.e.reg.bits) } }))
      ∧ (t.e.apply = .idle → s.ptnState (t.ptn.getD 0) ≠ ptnFree → s.applyWrite a t v = (stRunning, s))
      ∧ (t.e.apply = .onSeal → s.isSealed (t.ptn.getD 0) = true → s.applyWrite a t v = (stLocked, s))
      ∧ (t.e.apply = .none → s.applyWrite a t v = (stDenied, s)))
  ∧ (∀ (s : State) (role : Role) (p i sub : Nat) (b : List Byte), s.dictRuns = true →
      exec (.registerWrite (.entry role p i sub b)) s = .next (State.answered (s.itemWrite [] { role, ptn := p } i sub b [])))
  ∧ ∀ (s : State) (role : Role) (v : Nat), (role = .vendor ∧ s.lc < lcField ∨ role = .security ∧ s.lc = lcField) →
      exec (.roleRootWrite role false v) s = .next (State.answered (s.itemWrite [] { role, ptn := 0 } 0x1080 0 (toLe 64 v) []))
      ∧ exec (.roleRootWrite role true v) s = .next (State.answered (s.itemWrite [] { role, ptn := 0 } 0x1081 0 (toLe 64 v) []))

/-- All or none (R512), and no effect of a refused item: an entry without an operation of its own is written only where the answer is OK or PENDING,
and an ATOMIC frame whose answer is not OK leaves the state as it was. -/
def Obligations.RefusedItemsChangeNothing : Prop :=  (∀ (s : State) (o : AMap Nat) (a : Actor) (i sub : Nat) (b : List Byte) (x : List Nat) (t : DTarget), dictFind i sub = some t →
      s.ownWrite a t b x = none → (s.itemWrite o a i sub b x).1 ≠ stOk → (s.itemWrite o a i sub b x).1 ≠ stPending →
      (s.itemWrite o a i sub b x).2 = s)
  ∧ (∀ (s : State) (a : Option Actor) (l : List DictItem), (s.atomic a l).1 ≠ stOk → (s.atomic a l).2.2 = s)
  ∧ (∀ (s : State) (a : Option Actor) (l : List DictItem), (s.atomic a l).1 = stOk → ∀ i ∈ l,
      accepted (s.itemSet (othersOf l i) a i).1.status = true)
  ∧ ∀ (s : State) (a : Option Actor) (kind : Nat) (l : List DictItem), kind ≠ 2 → kind ≠ 3 → kind ≠ 6 →
      ∃ n, (s.serveItems kind a l).2.2 = s.drawn n

/-- Frames (R498–R505, R513–R516): a unit joins its frame in order or ends it; a frame of no session may only do what R513 allows; one of a session
with a tag that fails, of no session or out of sequence is dropped and counted, the last one served is answered again without a second effect, and a
new one is served for its role; nothing is served before firmware runs or on a transport that is down. Sessions (R502–R506): an OPEN by a role that
may, with a root and room, is answered OK and holds one unproven session; PROVE by the root's key proves it, else AUTH; an unproven session ends after
its second, an idle one after its time, and nothing else of the dictionary does. -/
def Obligations.FramesAndSessions : Prop :=
  ((∀ (s : State) (r : DictReq), ∀ e ∈ ([(.dictRead r, 1), (.dictWrite r, 2), (.dictAtomic r, 3), (.dictReadPending r, 4), (.dictReadDefault r, 5),
        (.dictResetDefault r, 6), (.dictDescribe r, 7), (.dictSessionClose r, 10)] : List (Instr × Nat)),
        (s.dictRuns = false ∨ s.epUp r.ep = false → exec e.1 s = .next s)
        ∧ (s.dictRuns = true → s.epUp r.ep = true → r.ep = .pf0 ∨ r.ep = .mgmt ∨ r.ep = .mctp ∨ (∃ p, r.ep = .vf p) →
            (r.session = 0 → exec e.1 s = .next (s.serveAnonymous e.2 r)) ∧ (r.session ≠ 0 → exec e.1 s = .next (s.serveSession e.2 r))))
    ∧ (∀ (s : State) (kind : Nat) (r : DictReq), s.dead = false →
        (r.formOk = false ∨ kindItems kind r.items.length = false → s.serveAnonymous kind r = s.respond r.ep r.seq kind stType 0 [])
        ∧ (r.formOk = true → r.items = [] → s.serveAnonymous 10 r = s.respond r.ep r.seq 10 stDenied 0 [])
        ∧ (r.formOk = true → kindItems 1 r.items.length = true → s.serveAnonymous 1 r =
            s.drawn.respond r.ep r.seq 1 stOk r.items.length (recordsOf (r.items.map (s.itemRead' 1 none)) r.items)))
    ∧ (∀ (s : State) (i : DictItem) (t : DTarget), s.indexReady i.index = true → dictFind i.index i.sub = some t →
        (anonymousIndex i.index = false → s.itemRead' 1 none i = refusedItem i stDenied)
        ∧ (anonymousIndex i.index = true → s.itemRead' 1 none i = valueAnswer t (s.view t) false)
        ∧ s.itemSet [] none i = (refusedItem i stDenied, s))
    ∧ (∀ (s : State) (kind : Nat) (r : DictReq), s.sessionOn r.session r.ep = none → s.serveSession kind r =
        s.authDrop r.ep (s.dict.sessions.find? (fun e => e.2.number == r.session)))
    ∧ (∀ (s : State) (kind k : Nat) (r : DictReq) (x : Session), s.sessionOn r.session r.ep = some (k, x) →
        (x.proven = false ∨ r.tagOk = false → s.serveSession kind r = s.authDrop r.ep (some (k, x)))
        ∧ (x.proven = true → r.tagOk = true →
            (x.lastHead = [] → s.serveSession kind r = s.serveNew kind r x)
            ∧ ∀ kd fl st b c, x.lastHead = [kd, fl, st, b, c] →
                (r.seq = x.seq → r.tag = x.tag → s.serveSession kind r = s.respondAs r.ep x.number r.seq kd fl st b c x.secret x.last)
                ∧ (r.seq ≤ x.seq → ¬ (r.seq = x.seq ∧ r.tag = x.tag) → s.serveSession kind r = s.authDrop r.ep (some (k, x)))
                ∧ (x.seq < r.seq → s.serveSession kind r = s.serveNew kind r x)))
    ∧ (∀ (s : State) (k : Nat) (x : Session), x.fails + 1 < 16 → ∃ t, s.authDrop .mgmt (some (k, x)) = t
        ∧ t.dict.sessions = s.dict.sessions.set k { x with fails := x.fails + 1 } ∧ t.sent = s.sent ∧ t.mem = s.mem)
    ∧ (∀ (s : State) (ep : DictEp) (u : List Byte), (s.dictRuns = false ∨ s.epUp ep = false → exec (.dictUnitRx ep u) s = .next s)
        ∧ (s.dictRuns = true → s.epUp ep = true →
            (u.length < 8 ∨ (u.drop 8).length ≠ (segmentOf u).len → exec (.dictUnitRx ep u) s = .next s)
            ∧ ((u.drop 8).length = (segmentOf u).len → 8 ≤ u.length → s.dict.frames = [] → (segmentOf u).seg = 0 → (segmentOf u).len ≤ 16384 →
                (segmentOf u).last = false → exec (.dictUnitRx ep u) s = .next { s with dict := { s.dict with
                  frames := [{ ep, msg := (segmentOf u).msg, next := 1, data := u.drop 8 }] } })))
    ∧ (∀ (s : State) (ep : DictEp) (msg : Nat), ∃ t, exec (.dictReassemblyTimeout ep msg) s = .next t ∧ { t with dict := s.dict } = s
        ∧ (∀ a ∈ t.dict.frames, ¬ (a.ep = ep ∧ a.msg = msg)) ∧ ∀ a ∈ s.dict.frames, ¬ (a.ep = ep ∧ a.msg = msg) → a ∈ t.dict.frames)
    ∧ ∀ (s : State) (f : Frame) (kind : Nat) (r : DictReq), (∀ k, s.frame12 f k = k s) → exec (.sftMgmt f kind r) s =
        .next (s.serve kind { r with ep := .sox f.port f.srcPkg, seq := f.psn, tagOk := r.tagOk && f.tagOk }))
  ∧ ((∀ (s : State) (r : OpenReq), s.dictRuns = true → r.ep = .mgmt ∨ r.ep = .mctp → s.dead = false →
         (Role.ofCode r.role = none → exec (.dictSessionOpen r) s = .next (s.respond r.ep 0 8 stRange 0 []))
         ∧ ∀ x, Role.ofCode r.role = some x →
             (x = .tenant → 32 ≤ r.ptn → exec (.dictSessionOpen r) s = .next (s.respond r.ep 0 8 stRange 0 []))
             ∧ ((x = .tenant → r.ptn < 32) →
                 (roleOn r.ep x r.ptn = false → exec (.dictSessionOpen r) s = .next (s.respond r.ep 0 8 stDenied 0 []))
                 ∧ (roleOn r.ep x r.ptn = true → s.roleRoot x r.ptn = none → exec (.dictSessionOpen r) s = .next (s.respond r.ep 0 8 stLocked 0 []))
                 ∧ (roleOn r.ep x r.ptn = true → (s.roleRoot x r.ptn).isSome = true → s.seUp = false ∨ s.sessionRoom x r.ptn = false →
                     exec (.dictSessionOpen r) s = .next (s.respond r.ep 0 8 stBusy 0 []))
                 ∧ (roleOn r.ep x r.ptn = true → (s.roleRoot x r.ptn).isSome = true → s.seUp = true → s.sessionRoom x r.ptn = true →
                     ∃ t y k, exec (.dictSessionOpen r) s = .next t ∧ t.dict.sessions = s.dict.sessions.set k y ∧ y.number = s.dict.opened + 1
                     ∧ y.role = x ∧ y.ptn = r.ptn ∧ y.ep = r.ep ∧ y.key = r.root ∧ y.proven = false ∧ t.dict.opened = s.dict.opened + 1
                     ∧ t.mem = s.mem ∧ t.regs = s.regs)))
     ∧ (∀ (s : State) (ep : DictEp) (n : Nat) (ok : Bool), s.dictRuns = true → ep = .mgmt ∨ ep = .mctp → s.dead = false →
         (s.sessionOn n ep = none → exec (.dictSessionProve ep n ok) s = .next (s.respond ep 0 9 stAuth 0 []))
         ∧ ∀ k x, s.sessionOn n ep = some (k, x) →
             (ok = true → x.key ≠ 0 → s.roleRoot x.role x.ptn = some x.key → x.proven = false → exec (.dictSessionProve ep n ok) s = .next
               (({ s with dict := { s.dict with sessions := s.dict.sessions.set k { x with proven := true } } } : State).respond ep 0 9 stOk 0 []))
             ∧ (ok = false ∨ x.key = 0 ∨ s.roleRoot x.role x.ptn ≠ some x.key ∨ x.proven = true →
               exec (.dictSessionProve ep n ok) s = .next (s.respond ep 0 9 stAuth 0 [])))
     ∧ (∀ (s : State) (n : Nat), ∃ t u, exec (.sessionProveTimeout n) s = .next t ∧ exec (.sessionIdleExpiry n) s = .next u
         ∧ { t with dict := s.dict } = s ∧ { u with dict := s.dict } = s ∧ { t.dict with sessions := s.dict.sessions } = s.dict
         ∧ t.dict.sessions = s.dict.sessions.where (fun _ x => !(x.number == n && !x.proven))
         ∧ u.dict.sessions = s.dict.sessions.where (fun _ x => !(x.number == n)))
     ∧ ∀ (s : State) (ep : DictEp) (seq dest : Nat) (q : SpdmReq), s.dictRuns = true → ep = .mgmt ∨ ep = .mctp →
         (s.dead = true → exec (.dictSpdm ep seq dest q) s = .next (s.respond ep seq 11 stLocked 0 []))
         ∧ (s.dead = false → s.seUp = false → exec (.dictSpdm ep seq dest q) s = .next (s.respond ep seq 11 stBusy 0 []))
         ∧ (s.dead = false → s.seUp = true → s.hasEndpoint dest = false → exec (.dictSpdm ep seq dest q) s = .next (s.respond ep seq 11 stNotFound 0 []))
         ∧ (s.dead = false → s.seUp = true → s.hasEndpoint dest = true →
             exec (.dictSpdm ep seq dest q) s = .next ((s.spdm dest q).respond ep seq 11 stOk 0 [])))

/-- R509: a tenant's session of partition pp reaches the entries that name pp, those that name no partition, and the per-site ones under R300, each as
far as the T letter of its access string permits; every other entry answers DENIED, to a read as to a write. -/
def Obligations.TenantScope : Prop :=  ∀ (s : State) (a : Actor) (i : DictItem) (t : DTarget), a.role = .tenant → s.indexReady i.index = true → dictFind i.index i.sub = some t →
    ((∃ q, t.ptn = some q ∧ q ≠ a.ptn) ∨ (t.ptn = none ∧ ∃ k, t.site = some k ∧ (s.rd .uciBind k).testBit a.ptn = false) →
      s.itemRead' 1 (some a) i = refusedItem i stDenied ∧ ∀ o b x, s.itemWrite o a i.index i.sub b x = (stDenied, s))
    ∧ (t.ptn = some a.ptn ∨ (t.ptn = none ∧ ∀ k, t.site = some k → (s.rd .uciBind k).testBit a.ptn = true) →
      ((accOf t.e.acc .tenant).reads = true → s.itemRead' 1 (some a) i = valueAnswer t (s.view t) false)
      ∧ ((accOf t.e.acc .tenant).reads = false → s.itemRead' 1 (some a) i = refusedItem i stDenied)
      ∧ ((accOf t.e.acc .tenant).writes = false → ∀ o b x, s.itemWrite o a i.index i.sub b x = (stDenied, s))
      ∧ ((accOf t.e.acc .tenant).writes = true → ∀ o b x, t.e.ty.encodes b = true → t.e.ty.fits (leNat b) = true →
          (∀ r, s.ownWrite a t b x = some r → s.itemWrite o a i.index i.sub b x = r)
          ∧ (s.ownWrite a t b x = none → t.e.range.holds (leNat b) = true → s.jointOk o t (leNat b) = true →
              s.itemWrite o a i.index i.sub b x = s.applyWrite a t (leNat b))))

/-! ## Starts, resets and power (R517–R543, R594–R615) -/

/-- Starts (R520, R522–R525, R528): VIN_MAIN in range begins a power-on where the unit had no power; a step of 1–5 or 10 over its limit halts with
BRINGUP_TIMEOUT, one of 6–9 marks its units; what is found halts the start with its step and cause, or takes it through its steps; a pause of R280 is
waited for; a halt sets HALTED, its code, FAULT_N and no ALIVE, writes a START record and flushes. Hub resets (R520, R535–R538, R543, R598):
PDX_HUB_RESET is for the integrator, operator and security officer, BUSY before controller firmware, and answers PENDING; a reset that is pending can
only become cold; its effect begins a start of its kind, which keeps what R17 and R536 name and no partition; HUB_RESET_N commands a cold one and
holds the start while it is low; without power only OTP, the boot slots and the store stay. -/
def Obligations.StartsAndResets : Prop :=
  ((∀ s : State, (s.startup.powered = true → exec .powerOn s = .next s)
        ∧ (s.startup.powered = false → exec .powerOn s = .next (s.beginStart kindPowerOn 0)))
    ∧ (∀ (s : State) (step mask : Nat),
        (s.starting = false ∨ step = 0 ∨ 10 < step → exec (.bringupTimeout step mask) s = .next s)
        ∧ (s.starting = true →
            ((1 ≤ step ∧ step ≤ 5) ∨ step = 10 → exec (.bringupTimeout step mask) s = .next (s.haltEvent (step - 1) Ev.bringupTimeout))
            ∧ exec (.bringupTimeout 6 mask) s = .next (({ s with startup := { s.startup with
                lateSites := s.startup.lateSites ||| mask } } : State).wr .pdxBringupStep 6)
            ∧ exec (.bringupTimeout 7 mask) s = .next (({ s with startup := { s.startup with
                lateStacks := s.startup.lateStacks ||| mask } } : State).wr .pdxBringupStep 7)
            ∧ exec (.bringupTimeout 8 mask) s = .next (({ s with startup := { s.startup with
                lateSpdm := s.startup.lateSpdm ||| mask } } : State).wr .pdxBringupStep 8)
            ∧ exec (.bringupTimeout 9 mask) s = .next (({ s with startup := { s.startup with
                latePorts := s.startup.latePorts ||| mask } } : State).wr .pdxBringupStep 9)))
    ∧ (∀ (s : State) (f : Findings), (s.starting = false → exec (.bringupReady f) s = .next s)
        ∧ (s.starting = true → s.startup.paused = true → ((List.range 8).any (fun k => (s.site k).pause) = true → exec (.bringupReady f) s = .next s)
            ∧ ((List.range 8).any (fun k => (s.site k).pause) = false → exec (.bringupReady f) s = .next (s.fromStep7 f)))
        ∧ (s.starting = true → s.startup.paused = false → f.otpOk = true →
            (s.lc = lcScrapped ∨ s.lc = lcLocked → exec (.bringupReady f) s = .next (s.haltStart 1 none))
            ∧ (s.lc ≠ lcScrapped → s.lc ≠ lcLocked →
                (f.selftest = false → exec (.bringupReady f) s = .next ((s.wr .secState seError).haltEvent 2 Ev.secSelftestFail))
                ∧ (f.selftest = true → f.seOk = false ∨ field f.seVersion 31 0 < s.rd .lcsSvn →
                    exec (.bringupReady f) s = .next (s.haltStart 2 none))
                ∧ (f.selftest = true → f.seOk = true → s.rd .lcsSvn ≤ field f.seVersion 31 0 → ∃ u, u = s.seStart f
                    ∧ (f.ctlOk = false ∨ field f.ctlVersion 31 0 < u.rd .lcsSvn → exec (.bringupReady f) s = .next (u.haltStart 3 none))
                    ∧ (f.ctlOk = true → u.rd .lcsSvn ≤ field f.ctlVersion 31 0 → ∃ v, v = u.ctlStart f
                        ∧ (v.startup.fast = true → exec (.bringupReady f) s = .next (v.step6 f))
                        ∧ (v.startup.fast = false → (∀ n, (v.bist f).2 = some n →
                              exec (.bringupReady f) s = .next ((v.bist f).1.haltEvent 4 (Ev.bstFail n) (Config.detail [n])))
                            ∧ ((v.bist f).2 = none → exec (.bringupReady f) s = .next ((v.bist f).1.step6 f))))))))
    ∧ (∀ (s : State) (step c : Nat), ∃ u : State, u.owl.alive = false ∧ u.owl.faultN = true ∧ u.mem = s.mem
        ∧ s.haltStart step (some c) =
          ((((u.wr .pdxBringupResult startHalted).wr .pdxBringupHalt c)).log .start
            ((u.wr .pdxBringupResult startHalted).wr .pdxBringupHalt c).startExt).startFlush)
    ∧ ∀ (s : State) (result : Nat), ∃ u : State, s.ready result = ((u.log .start u.startExt).emit .readiness).drawn ∧ u.rd .pdxReady = 1
        ∧ u.owl.alive = true ∧ u.beat.number = 0 ∧ u.mem = s.mem ∧ u.ptns = s.ptns)
  ∧ ((∀ (s : State) (role : Role), ∀ e ∈ ([(.pdxHubResetWarm role, false), (.pdxHubResetCold role, true)] : List (Instr × Bool)),
         (role = .vendor ∨ role = .tenant → exec e.1 s = .next (s.emit (.status stDenied 0)))
         ∧ (role = .integrator ∨ role = .operator ∨ role = .security →
             (s.rd .pdxBringupStep < 3 → exec e.1 s = .next (s.emit (.status stBusy 0)))
             ∧ (3 ≤ s.rd .pdxBringupStep → exec e.1 s = .next ((s.hubReset e.2 false 0).emit (.status stPending 0)))))
     ∧ (∀ (s : State) (cold fault : Bool) (cause : Nat), (s.startup.reset = none → ∃ u : State,
           u = (({ s with startup := { s.startup with reset := some { cold, fault, cause } } } : State).stopWork (fun _ => true)).abortSites (fun _ => true)
           ∧ ∃ v : State, v = (((u.hostAbort).resetOpen).assertAll.exportEnd xpAborted).lcAbort
           ∧ s.hubReset cold fault cause = (v.each (List.range 8) State.restStack).startFlush)
         ∧ ∀ r, s.startup.reset = some r → ∃ u : State, s.hubReset cold fault cause = u ∧ u.startup.reset = some { r with cold := r.cold || cold }
             ∧ u.mem = s.mem ∧ u.regs = s.regs ∧ u.sent = s.sent)
     ∧ (∀ s : State, (s.startup.powered = false →
           exec .hubResetPin s = .next { s with startup := { s.startup with pinLow := true } })
         ∧ (s.startup.powered = true →
           exec .hubResetPin s = .next (({ s with startup := { s.startup with pinLow := true } } : State).hubReset true false 0))
         ∧ exec .hubResetRelease s = .next { s with startup := { s.startup with pinLow := false } })
     ∧ (∀ s : State, (s.startup.reset = none → exec .hubResetEffect s = .next s)
         ∧ ∀ r, s.startup.reset = some r → ∃ u : State, u = (if s.rd .sqlState = storeReady then s.endFlush else s)
             ∧ (r.cold = true → exec .hubResetEffect s = .next (u.linkDown.beginStart kindCold r.cause))
             ∧ (r.cold = false → ∃ v : State, v.hep.vfEnable = false
                 ∧ v = { u.allFlr with hep := { u.allFlr.hep with header := u.hep.header.where (fun k _ => k / 16 == 0) } }
                 ∧ (u.fastPath r = true → exec .hubResetEffect s = .next (v.beginStart kindWarmFast r.cause))
                 ∧ (u.fastPath r = false → exec .hubResetEffect s = .next (v.beginStart kindWarmFull r.cause))))
     ∧ (∀ (s : State) (r : HubReset), s.fastPath r = true → s.rd .pdxWarmFast = 1 ∧ r.fault = false ∧ s.owl.slowPath = false ∧ s.startup.pwrFail = false
         ∧ (s.rd .pdxBringupResult = startReady ∨ s.rd .pdxBringupResult = startDegraded))
     ∧ (∀ (s : State) (kind cause : Nat), kind < 4 → ∃ t : State, s.beginStart kind cause = t ∧ t.rd .pdxLastStart = kind ∧ t.rd .pdxReady = 0
         ∧ t.ptns = [] ∧ t.wqs = [] ∧ t.owl.latches = [] ∧ t.owl.triage = [] ∧ t.owl.alive = false ∧ t.startup.powered = true ∧ t.startup.reset = none
         ∧ t.store = s.store ∧ t.hbm.repaired = s.hbm.repaired ∧ (kind ≤ 1 → t.hbm.waiting = [] ∧ t.jay.hgt = [])
         ∧ (2 ≤ kind → t.hbm.waiting = s.hbm.waiting ∧ t.jay.hgt = s.offlineGrans))
     ∧ ∀ s : State, ∃ t, exec .powerRemoved s = .next t ∧ t.life.otp = s.life.otp ∧ t.life.slot = s.life.slot ∧ t.store = s.store ∧ t.mem = [] ∧ t.poison = []
         ∧ t.sql.buffer = [] ∧ t.sec = {} ∧ t.ptns = [] ∧ t.startup.powered = false ∧ t.owl.alive = false ∧ t.rd .pdxReady = 0)

/-- Power failure, partial reset, heat and the package budget (R540, R601, R602, R604, R608, R610–R613): a failure raises its event, starts the flush
and halts a start; a partial reset needs plots whose partition is at rest, empties their tiles and holds them until their release; a trip is held; a
thermal decision must be for beat n + 1 and in time; a report is judged by its beat's budget, and the second over it in a row is a penalty. -/
def Obligations.PowerAndHeat : Prop :=  (∀ s : State, (s.startup.pwrFail = true → exec .pwrBrownout s = .next s)
      ∧ (s.startup.pwrFail = false → exec .pwrBrownout s = .next (s.powerFail Ev.pwrBrownout))
      ∧ ∃ u : State, u = (({ s with startup := { s.startup with pwrFail := true } } : State).ev Ev.pwrFail).startFlush
        ∧ (s.starting = false → exec .pwrFailAssert s = .next u)
        ∧ (s.starting = true → exec .pwrFailAssert s = .next (u.haltStart (u.rd .pdxBringupStep) (some Ev.pwrFail))))
  ∧ (∀ (s : State) (role : Role) (v : Nat), (role ≠ .operator → exec (.pdxPartialReset role v) s = .next (s.emit (.status stDenied 0)))
      ∧ (2 ^ 64 ≤ v → exec (.pdxPartialReset .operator v) s = .next (s.emit (.status stType 0)))
      ∧ (v < 2 ^ 64 →
          ((∃ q ∈ bitsOf v 64, s.plotIdle q = false) → exec (.pdxPartialReset .operator v) s = .next (s.emit (.status stRunning 0)))
          ∧ ((∀ q ∈ bitsOf v 64, s.plotIdle q = true) → ∃ t u : State,
              u = (t.emptyTiles ((bitsOf v 64).flatMap plotTiles)).zeroPads ((bitsOf v 64).flatMap plotTiles)
              ∧ t.test.partial' = s.test.partial' ||| v ∧ (∀ q ∈ bitsOf v 64, ∀ i ∈ plotTiles q, (t.heldTiles.find i).isSome = true)
              ∧ t.mem = s.mem ∧ t.regs = s.regs ∧ t.ptns = s.ptns ∧ exec (.pdxPartialReset .operator v) s = .next (u.emit (.status stPending 0)))))
  ∧ (∀ (s : State) (q p : Nat), (s.plotOwner q = none → s.plotIdle q = true)
      ∧ (s.plotOwner q = some p → (s.plotIdle q = true ↔
          s.ptnState p = ptnHalted ∨ s.ptnState p = ptnResetting ∨ s.ptnState p = ptnScrubbing ∨ s.ptnState p = ptnDissolving)))
  ∧ (∀ s : State, ∃ t, exec .partialResetRelease s = .next t ∧ t.test.partial' = 0 ∧ t.regs = s.regs ∧ t.ptns = s.ptns ∧ t.sent = s.sent)
  ∧ (∀ s : State, ∃ u : State, u.power.trip = true ∧ u.mem = s.mem ∧ u.regs = s.regs ∧ exec .pwrThermtrip s = .next (u.ev Ev.pwrThermtrip))
  ∧ (∀ (s : State) (role : Role) (v : Nat), (role ≠ .operator → exec (.pwrThermDecide role v) s = .next (s.emit (.status stDenied 0)))
      ∧ (field v 127 80 ≠ s.beat.number.toNat + 1 ∨ s.beat.cutoff = true ∨ (∃ h, h < 8 ∧ 8 < field v (8 * h + 5) (8 * h + 2)) →
          exec (.pwrThermDecide .operator v) s = .next (s.emit (.status stRange 0)))
      ∧ (s.thermDecideOk v = true → ∃ t : State, exec (.pwrThermDecide .operator v) s = .next (t.emit (.status stOk 0))
          ∧ t.power.decision = some v ∧ t.mem = s.mem ∧ t.ptns = s.ptns))
  ∧ (∀ (s : State) (k txn payload : Nat), (s.sbxBusy false = true →
        exec (.sbxPwrReport k txn payload) s = .next (s.sbxAnswer k sbxPwr txn 2)
        ∧ exec (.sbxPwrRevokeAck k txn payload) s = .next (s.sbxAnswer k sbxPwr txn 2))
      ∧ (s.sbxBusy false = false → ∃ u : State, u = s.sbxAnswer k sbxPwr txn 0
          ∧ exec (.sbxPwrReport k txn payload) s = .next (u.pwrReported k payload)
          ∧ (field payload 127 120 = pwrRevokeAck →
              exec (.sbxPwrRevokeAck k txn payload) s = .next (u.setSitePwr k { u.sitePwr k with waiting := false }))
          ∧ (field payload 127 120 ≠ pwrRevokeAck → exec (.sbxPwrRevokeAck k txn payload) s = .next u))
      ∧ ((s.sitePwr k).waiting = false → exec (.pwrRevokeTimeout k) s = .next s)
      ∧ ((s.sitePwr k).waiting = true → exec (.pwrRevokeTimeout k) s = .next
          ((s.setSitePwr k { s.sitePwr k with waiting := false }).ev (Ev.pwrRevokeMiss k))))
  ∧ ∀ (s : State) (k payload : Nat), s.beat.cutoff = false → field payload 119 88 + 1 = s.beat.number.toNat % 2 ^ 32 →
      field payload 127 120 = pwrReport → (s.sitePwr k).reported = false → ∃ (u : State) (y : SitePwr), u = s.wr .pwrSiteDraw (field payload 87 72) 0 k
      ∧ y.reported = true ∧ y.request = some (field payload 71 56) ∧ (y.isOver = true ↔ (s.sitePwr k).before < field payload 87 72)
      ∧ ((s.sitePwr k).isOver = false ∨ field payload 87 72 ≤ (s.sitePwr k).before → s.pwrReported k payload = u.setSitePwr k y)
      ∧ ((s.sitePwr k).isOver = true → (s.sitePwr k).before < field payload 87 72 →
          s.pwrReported k payload = (u.setSitePwr k { y with penalty := u.rd .pwrPenaltyBeats }).ev (Ev.pwrChipletOver k))

/-- R611, R613: what the cutoff allocates never exceeds what is available, no site receives more than it requests, where the floors fit every site
receives its floor at least, and where the requests fit every one is met. -/
def Obligations.BudgetsShared : Prop :=  ∀ (avail : Nat) (cs : List Claimed), (∀ c ∈ cs, c.low ≤ c.req) →
    ((shareOut avail cs).map (fun e => e.2)).sum ≤ avail
    ∧ (shareOut avail cs).length = cs.length
    ∧ ∀ (i : Nat) (c : Claimed), cs[i]? = some c → ∃ b, (shareOut avail cs)[i]? = some (c.site, b) ∧ b ≤ c.req
      ∧ ((cs.map (fun c => c.low)).sum ≤ avail → c.low ≤ b)
      ∧ ((cs.map (fun c => c.req)).sum ≤ avail → b = c.req)
      ∧ ∀ d ∈ cs, d.req = c.req → d.low = c.low → (d.site, b) ∈ shareOut avail cs

/-! ## Faults, records and tests (R545–R590) -/

/-- Events (R548–R551, R553): an event of no source does nothing; one that count mode does not pass is recorded unraised; one that passes is raised at
the latch of its formed partition, else of the hub, escalating where it equals LEVEL, never FATAL-PARTITION at the hub latch; a FATAL-HUB at a
partition's latch is raised at the hub latch too; a count returns to zero when its window ends; and a raise fills an empty latch, or only marks it. -/
def Obligations.EventsRaised : Prop :=  (∀ (s : State) (code detail sev : Nat) (ptn : Option Nat),
      (sourceOf code = none → exec (.faultEvent code ptn detail sev) s = .next s.sqlSettle)
      ∧ ∀ x, sourceOf code = some x → ∃ (c : SrcCfg) (v : Severity) (k : Bool × AMap Nat) (u : State) (latch : Nat),
          c = s.srcCfg x ∧ v = c.sev.max (Severity.ofCode sev) ∧ k = (if c.count then countEvent s.owl.windows code c.n else (true, s.owl.windows))
          ∧ u.owl.windows = k.2 ∧ u.owl.latches = s.owl.latches ∧ u.ptns = s.ptns ∧ u.regs = s.regs ∧ u.mem = s.mem
          ∧ (∀ p, ptn = some p → latch = if s.formed p then p else hubLatch) ∧ (ptn = none → latch = hubLatch)
          ∧ (k.1 = false → exec (.faultEvent code ptn detail sev) s = .next (u.recordEvent code v ptn false detail).sqlSettle)
          ∧ (k.1 = true → ∃ r : State × Severity, r = u.raiseAt x latch code v c.count detail
              ∧ (r.2.fatal = false → exec (.faultEvent code ptn detail sev) s = .next (r.1.recordEvent code r.2 ptn true detail).sqlSettle)
              ∧ (r.2.fatal = true → (r.2 ≠ .fatalHub ∨ latch = hubLatch →
                    exec (.faultEvent code ptn detail sev) s = .next (r.1.recordEvent code r.2 ptn true detail).startFlush.sqlSettle)
                ∧ (r.2 = .fatalHub → latch ≠ hubLatch → exec (.faultEvent code ptn detail sev) s = .next
                    ((r.1.raiseAt x hubLatch code .fatalHub c.count (setField detail 51 47 latch)).1.recordEvent code
                      r.2 ptn true detail).startFlush.sqlSettle))))
  ∧ (∀ (w : AMap Nat) (code n : Nat), (n ≤ w.get code 0 + 1 → (countEvent w code n).1 = true ∧ (countEvent w code n).2.find code = none)
      ∧ (w.get code 0 + 1 < n → (countEvent w code n).1 = false ∧ (countEvent w code n).2.find code = some (w.get code 0 + 1))
      ∧ ∀ d, d ≠ code → (countEvent w code n).2.find d = w.find d)
  ∧ (∀ (s : State) (code : Nat), ∃ t, exec (.owlCountWindowExpiry code) s = .next t ∧ t.owl.windows.find code = none
      ∧ (∀ d, d ≠ code → t.owl.windows.find d = s.owl.windows.find d) ∧ t.owl.latches = s.owl.latches ∧ t.regs = s.regs ∧ t.sql = s.sql
      ∧ t.mem = s.mem ∧ t.sent = s.sent)
  ∧ (∀ (v ceiling : Severity) (l : Option Latch),
      (∀ x, l = some x → v = x.level → v.rank < ceiling.rank → raiseSev v ceiling l false = (true, v.up))
      ∧ (l = none ∨ (∃ x, l = some x ∧ v ≠ x.level) ∨ v = ceiling → raiseSev v ceiling l false = (false, v))
      ∧ (raiseSev v ceiling l true).2 ≠ .fatalPartition)
  ∧ ∀ (code detail : Nat) (v : Severity) (esc cnt : Bool) (b : BitVec 48),
      latchAfter none code v esc cnt b detail = { code, fsev := v, level := v, ovf := false, esc, cnt, beat := b, detail := detail % 2 ^ 52 }
      ∧ ∀ l, ∃ m, latchAfter (some l) code v esc cnt b detail = m ∧ m.code = l.code ∧ m.fsev = l.fsev ∧ m.beat = l.beat ∧ m.detail = l.detail
        ∧ m.cnt = l.cnt ∧ m.ovf = true ∧ m.esc = (l.esc || esc) ∧ m.level = l.level.max v

/-- R550, R551 over whole events: whatever an event does, a latch that held an event still holds the same first event, and its LEVEL never falls. -/
def Obligations.LatchesOnlyRise : Prop :=  ∀ (s : State) (code detail sev : Nat) (ptn : Option Nat) (k : Nat) (l : Latch), s.owl.latches.find k = some l →
    ∃ t m, exec (.faultEvent code ptn detail sev) s = .next t ∧ t.owl.latches.find k = some m ∧ m.code = l.code ∧ m.fsev = l.fsev ∧ m.cnt = l.cnt
      ∧ m.beat = l.beat ∧ m.detail = l.detail ∧ l.level.rank ≤ m.level.rank ∧ (l.ovf = true → m.ovf = true) ∧ (l.esc = true → m.esc = true)

/-- Acknowledgements and triage (R552, R557–R559): only a write with the latch's CODE and BEAT clears it, the tenant's only up to CONTAINED; a host's
decision must match a raise that waits and name a valid action; hardware applies the source's action after its hold and the flush of a fatal raise, a
host that is late is reported; and an action is what the table of R557 says. -/
def Obligations.LatchesAndTriage : Prop :=  (∀ (s : State) (role : Role) (p : Nat) (v : Word),
      (role = .vendor ∨ role = .integrator → exec (.owlAck role p v) s = .next (s.emit (.status stDenied 0)))
      ∧ (∀ l, s.owl.latches.find p = some l → role = .tenant → 2 ≤ l.level.rank → exec (.owlAck role p v) s = .next (s.emit (.status stDenied 0)))
      ∧ (role = .operator ∨ role = .security → ackMatches (s.owl.latches.find p) v = false →
          exec (.owlAck role p v) s = .next (s.emit (.status stRange 0)))
      ∧ (∀ l, s.owl.latches.find p = some l → (v.extractLsb' 48 16).toNat = l.code % 65536 → v.extractLsb' 0 48 = l.beat →
          role = .operator ∨ role = .security ∨ (role = .tenant ∧ l.level.rank < 2) →
          ∃ t : State, exec (.owlAck role p v) s = .next (t.emit (.status stOk 0)) ∧ t.owl.latches.find p = none
          ∧ (∀ q, q ≠ p → t.owl.latches.find q = s.owl.latches.find q) ∧ t.owl.triage = s.owl.triage ∧ t.ptns = s.ptns ∧ t.mem = s.mem))
  ∧ (∀ (s : State) (role : Role) (v : Word),
      (role ≠ .operator → role ≠ .security → exec (.owlHubAck role v) s = .next (s.emit (.status stDenied 0)))
      ∧ (role = .operator ∨ role = .security →
          (ackMatches (s.owl.latches.find hubLatch) v = false → exec (.owlHubAck role v) s = .next (s.emit (.status stRange 0)))
          ∧ (ackMatches (s.owl.latches.find hubLatch) v = true → ∃ t : State, exec (.owlHubAck role v) s = .next (t.emit (.status stOk 0))
              ∧ t.owl.latches.find hubLatch = none ∧ (∀ q, q ≠ hubLatch → t.owl.latches.find q = s.owl.latches.find q)
              ∧ t.owl.triage = s.owl.triage ∧ t.ptns = s.ptns)))
  ∧ (∀ (s : State) (role : Role) (v : Nat), (role ≠ .operator → role ≠ .security → exec (.owlTriageDecide role v) s = .next (s.emit (.status stDenied 0)))
      ∧ (role = .operator ∨ role = .security → v < 2 ^ 128 →
          (∃ latch, latch = (if v.testBit 106 then hubLatch else field v 111 107)
            ∧ ((∀ t ∈ s.owl.triage, ¬ (t.code = field v 127 112 ∧ t.latch = latch ∧ t.beat.toNat = field v 102 55)) →
                exec (.owlTriageDecide role v) s = .next (s.emit (.status stRange 0)))
            ∧ ∀ t, s.owl.triage.find? (fun t => t.code == field v 127 112 && t.latch == latch && t.beat.toNat == field v 102 55) = some t →
              ∃ a, a = TriageAction.ofCode (field v 105 103)
              ∧ (s.rd .owlTriageMode ≠ 1 ∨ actionValid t a = false → exec (.owlTriageDecide role v) s = .next (s.emit (.status stRange 0)))
              ∧ (s.rd .owlTriageMode = 1 → field v 54 0 = 0 → actionValid t a = true → exec (.owlTriageDecide role v) s = .next
                  ((((s.wr .owlTriageDecide v).triageEnd t).triageAct t a).emit (.status stOk 0))))))
  ∧ (∀ (s : State) (latch : Nat), (s.owl.triage.find? (fun t => t.latch == latch) = none →
        exec (.owlTriageHoldExpiry latch) s = .next s ∧ exec (.owlTriageMiss latch) s = .next s)
      ∧ ∀ t, s.owl.triage.find? (fun t => t.latch == latch) = some t →
          (s.rd .owlTriageMode ≠ 0 ∨ (t.sev.fatal = true ∧ s.sql.flushing = true) → exec (.owlTriageHoldExpiry latch) s = .next s)
          ∧ (s.rd .owlTriageMode = 0 → t.sev.fatal = false ∨ s.sql.flushing = false → ∀ x, sourceOf t.code = some x →
              exec (.owlTriageHoldExpiry latch) s = .next ((s.triageEnd t).triageAct t (s.srcCfg x).action))
          ∧ (s.rd .owlTriageMode ≠ 1 → exec (.owlTriageMiss latch) s = .next s)
          ∧ (s.rd .owlTriageMode = 1 → exec (.owlTriageMiss latch) s = .next ((s.triageEnd t).ev Ev.owlTriageMiss)))
  ∧ (∀ (s : State) (t : Triage), s.triageAct t .none = s ∧ (∀ a, actionValid t a = false → s.triageAct t a = s)
      ∧ s.triageAct t .hubWarm = s.hubReset false true t.code ∧ s.triageAct t .hubCold = s.hubReset true true t.code
      ∧ (t.latch < 32 → t.sev = .contained ∨ t.sev = .fatalPartition → s.triageAct t .ptnWarm = (s.cmdWarmReset .operator t.latch 0).2
          ∧ s.triageAct t .ptnFull = (s.cmdFullReset .operator t.latch 0).2 ∧ s.triageAct t .dissolve = (s.cmdDissolve .operator t.latch 0).2)
      ∧ (t.sev = .contained → siteSource t.code = true → s.triageAct t .retry = s.startReset (t.code % 16 % 8)
          ∧ ∃ u : State, (u.site (t.code % 16 % 8)).offline = true ∧ s.triageAct t .offline = u.wr .uciLinkState lsHeld (t.code % 16 % 8)))
  ∧ ∀ (t : Triage), (t.sev = .fatalPartition ∨ t.sev = .fatalHub → actionValid t .retry = false ∧ actionValid t .offline = false)
      ∧ (t.sev = .fatalHub ∨ 32 ≤ t.latch → actionValid t .ptnWarm = false ∧ actionValid t .ptnFull = false ∧ actionValid t .dissolve = false)

/-- Flushes and the store (R566, R567, R571–R576): SQL_FLUSH starts a flush; its end writes every buffered record and empties the buffer, or stops at
the record whose read-back failed twice; a host that let the mark pass is reported; buckets refill up to BURST; a store command needs its role and
state, one at a time, and waits for a flush; and a flush that starts leaves no suppressed count behind. -/
def Obligations.RecordsFlushed : Prop :=  (∀ (s : State) (role : Role) (v : Nat), (role = .vendor ∨ role = .tenant → exec (.sqlFlush role v) s = .next (s.emit (.status stDenied 0)))
      ∧ (role = .integrator ∨ role = .operator ∨ role = .security →
          (v ≠ 1 → exec (.sqlFlush role v) s = .next (s.emit (.status stRange 0)))
          ∧ exec (.sqlFlush role 1) s = .next (s.startFlush.emit (.status stPending 0))))
  ∧ (∀ (s : State) (failed : Option Nat), (s.sql.flushing = false → exec (.sqlFlushDone failed) s = .next s)
      ∧ (s.sql.flushing = true → exec (.sqlFlushDone none) s = .next s.endFlush.sqlSettle
          ∧ ∀ i, i ≤ s.sql.buffer.length → ∃ u : State, u.sql.buffer = s.sql.buffer.drop i ∧ u.sql.flushing = false
              ∧ u.store = (s.writeOut (s.sql.buffer.take i)).store ∧ u.mem = s.mem
              ∧ exec (.sqlFlushDone (some i)) s =
                .next (((u.wr .sqlBuffered (s.sql.buffer.length - i)).wr .sqlState storeFailed).ev Ev.sqlStoreFail)))
  ∧ (∀ s : State, s.endFlush.sql.buffer = [] ∧ s.endFlush.sql.flushing = false ∧ s.endFlush.rd .sqlBuffered = 0
      ∧ s.endFlush.store = (s.writeOut s.sql.buffer).store ∧ s.endFlush.mem = s.mem)
  ∧ (∀ s : State, (s.rd .sqlFlushMode = 1 → s.sql.fillRaised = true → s.sql.flushing = false →
        exec .sqlFlushDeadlineExpiry s = .next (s.ev Ev.sqlFlushMiss))
      ∧ (s.rd .sqlFlushMode ≠ 1 ∨ s.sql.fillRaised = false ∨ s.sql.flushing = true → exec .sqlFlushDeadlineExpiry s = .next s))
  ∧ (∀ (s : State) (code : Nat), ∃ t, exec (.sqlTokenRefill code) s = .next t ∧ t.mem = s.mem ∧ t.regs = s.regs ∧ t.sql.buffer = s.sql.buffer
      ∧ (∀ c, c / 16 ≠ code / 16 → t.bucket c = s.bucket c)
      ∧ ((s.bucket code).period = 0 ∨ (s.bucket code).burst ≤ (s.bucket code).tokens → t = s)
      ∧ ((s.bucket code).period ≠ 0 → (s.bucket code).tokens < (s.bucket code).burst →
          t.bucket code = { s.bucket code with tokens := (s.bucket code).tokens + 1 }))
  ∧ (∀ (s : State) (role : Role), ∀ e ∈ ([(.sqlStoreEraseCirc role, .eraseCirc, s.mayEraseCirc role), (.sqlStoreEraseFirst role, .eraseFirst,
        s.mayEraseFirst role), (.sqlStoreFormat role, .format, s.mayFormat role)] : List (Instr × StoreCmd × Bool)),
      (e.2.2 = false → exec e.1 s = .next (s.emit (.status stLocked 0)))
      ∧ (e.2.2 = true → (s.sql.cmd.isSome = true → exec e.1 s = .next (s.emit (.status stBusy 0)))
          ∧ (s.sql.cmd = none → ∃ t : State, exec e.1 s = .next (t.emit (.status stPending 0)) ∧ t.sql.cmd = some e.2.1 ∧ t.store = s.store
              ∧ t.regs = s.regs ∧ t.mem = s.mem)))
  ∧ (∀ s : State, (s.mayEraseCirc .security = true ↔ s.lc = lcField) ∧ (s.mayEraseCirc .integrator = true ↔ s.lc = lcAssembly ∨ s.lc = lcProvisioned)
      ∧ (s.mayEraseCirc .vendor = true ↔ s.lc = lcReturned) ∧ s.mayEraseCirc .operator = false ∧ s.mayEraseCirc .tenant = false
      ∧ ∀ role, (s.mayEraseFirst role = true ↔ role = .vendor ∧ s.lc = lcReturned)
        ∧ (s.mayFormat role = true ↔ (role = .integrator ∨ role = .security) ∧ (s.rd .sqlState = storeForeign ∨ s.rd .sqlState = storeFailed)))
  ∧ (∀ s : State, (s.sql.cmd = none ∨ s.sql.flushing = true → exec .sqlStoreCmdDone s = .next s)
      ∧ ∀ c, s.sql.cmd = some c → s.sql.flushing = false → ∃ t, exec .sqlStoreCmdDone s = .next t ∧ t.sql.cmd = none ∧ t.mem = s.mem
          ∧ (c = .eraseFirst → t.store = { s.store with first := [] })
          ∧ (c = .format → t.store.first = [] ∧ t.store.circ = [] ∧ t.store.unitId = some (s.rd .lcsUnitId) ∧ t.rd .sqlState = storeReady)
          ∧ (c = .eraseCirc → t.store = (s.finishStore .eraseCirc).store ∧ t.store.unitId = s.store.unitId))
  ∧ ∀ s : State, (s.rd .sqlState ≠ storeReady ∨ s.sql.flushing = true → s.startFlush = s)
      ∧ (s.rd .sqlState = storeReady → s.sql.flushing = false → s.startFlush.sql.flushing = true
          ∧ ∀ code, (s.startFlush.bucket code).suppressed = 0 ∧ (s.startFlush.bucket code).tokens = (s.bucket code).tokens)

/-- Tests (R582, R586, R587, R590): a tile run needs plots that no partition holds, shows itself running, and ends with the cores that failed marked
and counted and its plots released; an interconnect run needs its role, state and an idle unit, and shows its result; a burn of a repair map is the
integrator's in ASSEMBLY, of a blank word, and OTP holds the map XOR 0xFFFF_FFFF_FFFF_FF00. -/
def Obligations.TestsRun : Prop :=  (∀ (s : State) (role : Role) (v : Nat), (role = .security ∨ role = .tenant → exec (.bstTileRun role v) s = .next (s.emit (.status stDenied 0)))
      ∧ (role = .vendor ∨ role = .integrator ∨ role = .operator → v < 2 ^ 64 →
          (s.tileRun = true ∨ (∃ i ∈ bitsOf v 64, (s.plotOwner i).isSome = true) →
            exec (.bstTileRun role v) s = .next (s.emit (.status stRunning 0)))
          ∧ (s.tileRun = false → (∀ i ∈ bitsOf v 64, s.plotOwner i = none) → ∃ t : State, exec (.bstTileRun role v) s =
              .next (((t.wr .bstTileRun v).wr .bstTileState 1).emit (.status stPending 0))
              ∧ t.test.tiles = v ∧ t.regs = s.regs ∧ t.ptns = s.ptns ∧ t.mem = s.mem
              ∧ ∀ i ∈ bitsOf v 64, ∀ j ∈ plotTiles i, (t.heldTiles.find j).isSome = true)))
  ∧ (∀ (s : State) (fails : List Nat), (s.tileRun = false → exec (.bstTileRunDone fails) s = .next s)
      ∧ (s.tileRun = true → ∃ (ts bad : List Nat) (u : State), ts = (bitsOf s.test.tiles 64).flatMap plotTiles
          ∧ (∀ j, j ∈ bad ↔ j ∈ fails ∧ j ∈ ts ∧ (s.rd .tilFailed).testBit j = false) ∧ bad.Nodup ∧ u.test.tiles = 0
          ∧ u.tile = ((s.each bad (fun s t => s.failTile none t)).freshTiles ts).tile
          ∧ exec (.bstTileRunDone fails) s = .next ((u.wr .bstTileState (if bad = [] then 2 else 3)).wr .bstTileFails bad.length)))
  ∧ (∀ (s : State) (role : Role) (v : Nat), (role = .security ∨ role = .tenant → exec (.bstIcGo role v) s = .next (s.emit (.status stDenied 0)))
      ∧ (role = .vendor ∨ role = .integrator ∨ role = .operator →
          (v < 256 → v ≠ 1 → exec (.bstIcGo role v) s = .next (s.emit (.status stRange 0)))
          ∧ (s.test.ic.isSome = true → exec (.bstIcGo role 1) s = .next (s.emit (.status stRunning 0)))
          ∧ ((s.rd .bstIcSel).testBit 15 = false → s.rd .uciBind (field (s.rd .bstIcSel) 14 12) ≠ 0 →
              exec (.bstIcGo role 1) s = .next (s.emit (.status stRunning 0)))
          ∧ (s.test.ic = none → (s.rd .bstIcSel).testBit 15 = true → s.lc ≠ lcAssembly → s.lc ≠ lcProvisioned → s.lc ≠ lcReturned →
              exec (.bstIcGo role 1) s = .next (s.emit (.status stLocked 0)))
          ∧ (s.test.ic = none → ∀ u : State, ((s.rd .bstIcSel).testBit 15 = true ∧ (s.lc = lcAssembly ∨ s.lc = lcProvisioned ∨ s.lc = lcReturned)
                ∧ u = s.stackOut (field (s.rd .bstIcSel) 14 12)) ∨ ((s.rd .bstIcSel).testBit 15 = false
                ∧ s.rd .uciBind (field (s.rd .bstIcSel) 14 12) = 0 ∧ u = s.holdTraining (field (s.rd .bstIcSel) 14 12)) →
              ∃ t : State, t.test.ic = some (s.rd .bstIcSel) ∧ t.regs = u.regs ∧ t.sent = u.sent ∧ t.mem = u.mem ∧ ∃ w : State, w = t.wr .bstIcState 1
              ∧ exec (.bstIcGo role 1) s = .next ((w.emit (.pattern (s.rd .bstIcSel) (s.rd .bstIcCtrl))).emit (.status stPending 0)))))
  ∧ (∀ (s : State) (result errors down : Nat) (rate : Option Nat) (found : StackFound),
      (s.test.ic = none → exec (.bstIcDone result errors rate down found) s = .next s)
      ∧ ∀ sel, s.test.ic = some sel → ∃ t u : State, t.test.ic = none ∧ t.regs = s.regs ∧ t.mem = s.mem
          ∧ u = ((t.wr .bstIcResult result).wr .bstIcErrors errors).wr .bstIcState (if result % 2 ^ 256 = 0 then 2 else 3)
          ∧ (sel.testBit 15 = false → exec (.bstIcDone result errors rate down found) s = .next (u.trainAgain (field sel 14 12) rate down))
          ∧ (sel.testBit 15 = true → exec (.bstIcDone result errors rate down found) s =
              .next ((u.wipeStack (field sel 14 12)).trainStack (field sel 14 12) found)))
  ∧ (∀ (s : State) (role : Role) (v bits : Nat), (role ≠ .integrator → exec (.bstUciBurn role v bits) s = .next (s.emit (.status stDenied 0)))
      ∧ (v < 2 ^ 128 → 8 ≤ field v 127 120 ∨ 16 ≤ field v 119 112 ∨ mapOk (field v 63 0) = false →
          exec (.bstUciBurn .integrator v bits) s = .next (s.emit (.status stRange 0)))
      ∧ (v < 2 ^ 128 → field v 127 120 < 8 → field v 119 112 < 16 → field v 111 64 = 0 → mapOk (field v 63 0) = true →
          (s.lc ≠ lcAssembly ∨ s.startup.pwrFail = true ∨ s.life.otp.uci.get (16 * field v 127 120 + field v 119 112) 0 ≠ 0 →
            exec (.bstUciBurn .integrator v bits) s = .next (s.emit (.status stLocked 0)))
          ∧ (s.lc = lcAssembly → s.startup.pwrFail = false → s.life.otp.uci.get (16 * field v 127 120 + field v 119 112) 0 = 0 → ∃ t : State,
              exec (.bstUciBurn .integrator v bits) s = .next (t.emit (.status stPending 0)) ∧ t.regs = s.regs ∧ t.mem = s.mem
              ∧ t.life.otp.uci.get (16 * field v 127 120 + field v 119 112) 0 = burnt (field v 63 0 ^^^ 0xFFFFFFFFFFFFFF00) bits
              ∧ (64 ≤ bits → t.life.otp.map (field v 127 120) (field v 119 112) = field v 63 0))))
  ∧ ∀ (o : Otp) (k m : Nat), o.uci.get (16 * k + m) 0 = 0 → o.map k m = uciBlank
end

