-- ==== Sys2Proof/Laws/Exec.lean ====
section
/-! SUPPORT. What each command runs: one equation for each arm of `exec`. -/

namespace Sys2Proof.Machine

variable (s : State)

theorem exec_beatEdge (offset : Option Int) (draw : Nat) : exec (.beatEdge offset draw) s = execBeatEdge offset draw s := rfl
theorem exec_cutoff (temps : List (Option Int)) (sensors : List (Option Int)) : exec (.cutoff temps sensors) s = execCutoff temps sensors s := rfl
theorem exec_beatHoldoverExpiry : exec .beatHoldoverExpiry s = execBeatHoldoverExpiry s := rfl
theorem exec_ptpSyncLapse : exec .ptpSyncLapse s = execPtpSyncLapse s := rfl
theorem exec_ppsPulseMissed : exec .ppsPulseMissed s = execPpsPulseMissed s := rfl
theorem exec_ppsInEdge : exec .ppsInEdge s = execPpsInEdge s := rfl
theorem exec_ppsOutPulse : exec .ppsOutPulse s = execPpsOutPulse s := rfl
theorem exec_declare (d : Declaration) : exec (.declare d) s = execDeclare d s := rfl
theorem exec_itemCompletion (id : Nat) : exec (.itemCompletion id) s = execItemCompletion id s := rfl
theorem exec_slotBegin (res : Nat) (slot : Nat) (cands : List Cand) : exec (.slotBegin res slot cands) s = execSlotBegin res slot cands s := rfl
theorem exec_sysWindow (cands : List Cand) : exec (.sysWindow cands) s = execSysWindow cands s := rfl
theorem exec_refreshRound (h : Nat) : exec (.refreshRound h) s = execRefreshRound h s := rfl
theorem exec_nop (t : Nat) (n : Nat) (e : TileErr) : exec (.nop t n e) s = execNop t n e s := rfl
theorem exec_scalarAdd (t : Nat) (n : Nat) (e : TileErr) : exec (.scalarAdd t n e) s = execScalarAdd t n e s := rfl
theorem exec_scalarSub (t : Nat) (n : Nat) (e : TileErr) : exec (.scalarSub t n e) s = execScalarSub t n e s := rfl
theorem exec_scalarAnd (t : Nat) (n : Nat) (e : TileErr) : exec (.scalarAnd t n e) s = execScalarAnd t n e s := rfl
theorem exec_scalarOr (t : Nat) (n : Nat) (e : TileErr) : exec (.scalarOr t n e) s = execScalarOr t n e s := rfl
theorem exec_scalarXor (t : Nat) (n : Nat) (e : TileErr) : exec (.scalarXor t n e) s = execScalarXor t n e s := rfl
theorem exec_scalarShl (t : Nat) (n : Nat) (e : TileErr) : exec (.scalarShl t n e) s = execScalarShl t n e s := rfl
theorem exec_scalarShr (t : Nat) (n : Nat) (e : TileErr) : exec (.scalarShr t n e) s = execScalarShr t n e s := rfl
theorem exec_scalarMul (t : Nat) (n : Nat) (e : TileErr) : exec (.scalarMul t n e) s = execScalarMul t n e s := rfl
theorem exec_scalarMin (t : Nat) (n : Nat) (e : TileErr) : exec (.scalarMin t n e) s = execScalarMin t n e s := rfl
theorem exec_scalarMax (t : Nat) (n : Nat) (e : TileErr) : exec (.scalarMax t n e) s = execScalarMax t n e s := rfl
theorem exec_scalarCmp (t : Nat) (n : Nat) (e : TileErr) : exec (.scalarCmp t n e) s = execScalarCmp t n e s := rfl
theorem exec_scalarMov (t : Nat) (n : Nat) (e : TileErr) : exec (.scalarMov t n e) s = execScalarMov t n e s := rfl
theorem exec_scalarMovi (t : Nat) (n : Nat) (e : TileErr) : exec (.scalarMovi t n e) s = execScalarMovi t n e s := rfl
theorem exec_scalarLd (t : Nat) (n : Nat) (e : TileErr) : exec (.scalarLd t n e) s = execScalarLd t n e s := rfl
theorem exec_scalarSt (t : Nat) (n : Nat) (e : TileErr) : exec (.scalarSt t n e) s = execScalarSt t n e s := rfl
theorem exec_vecAdd (t : Nat) (n : Nat) (e : TileErr) : exec (.vecAdd t n e) s = execVecAdd t n e s := rfl
theorem exec_vecSub (t : Nat) (n : Nat) (e : TileErr) : exec (.vecSub t n e) s = execVecSub t n e s := rfl
theorem exec_vecMul (t : Nat) (n : Nat) (e : TileErr) : exec (.vecMul t n e) s = execVecMul t n e s := rfl
theorem exec_vecFma (t : Nat) (n : Nat) (e : TileErr) : exec (.vecFma t n e) s = execVecFma t n e s := rfl
theorem exec_vecMax (t : Nat) (n : Nat) (e : TileErr) : exec (.vecMax t n e) s = execVecMax t n e s := rfl
theorem exec_vecMin (t : Nat) (n : Nat) (e : TileErr) : exec (.vecMin t n e) s = execVecMin t n e s := rfl
theorem exec_vecAbs (t : Nat) (n : Nat) (e : TileErr) : exec (.vecAbs t n e) s = execVecAbs t n e s := rfl
theorem exec_vecNeg (t : Nat) (n : Nat) (e : TileErr) : exec (.vecNeg t n e) s = execVecNeg t n e s := rfl
theorem exec_vecCvt (t : Nat) (n : Nat) (e : TileErr) : exec (.vecCvt t n e) s = execVecCvt t n e s := rfl
theorem exec_vecSelect (t : Nat) (n : Nat) (e : TileErr) : exec (.vecSelect t n e) s = execVecSelect t n e s := rfl
theorem exec_vecCmplt (t : Nat) (n : Nat) (e : TileErr) : exec (.vecCmplt t n e) s = execVecCmplt t n e s := rfl
theorem exec_vecRsqrt (t : Nat) (n : Nat) (e : TileErr) : exec (.vecRsqrt t n e) s = execVecRsqrt t n e s := rfl
theorem exec_vecRcp (t : Nat) (n : Nat) (e : TileErr) : exec (.vecRcp t n e) s = execVecRcp t n e s := rfl
theorem exec_vecExp2 (t : Nat) (n : Nat) (e : TileErr) : exec (.vecExp2 t n e) s = execVecExp2 t n e s := rfl
theorem exec_redSum (t : Nat) (n : Nat) (e : TileErr) : exec (.redSum t n e) s = execRedSum t n e s := rfl
theorem exec_redMax (t : Nat) (n : Nat) (e : TileErr) : exec (.redMax t n e) s = execRedMax t n e s := rfl
theorem exec_redMin (t : Nat) (n : Nat) (e : TileErr) : exec (.redMin t n e) s = execRedMin t n e s := rfl
theorem exec_redArgmax (t : Nat) (n : Nat) (e : TileErr) : exec (.redArgmax t n e) s = execRedArgmax t n e s := rfl
theorem exec_redSort64 (t : Nat) (n : Nat) (e : TileErr) : exec (.redSort64 t n e) s = execRedSort64 t n e s := rfl
theorem exec_redTopkMerge (t : Nat) (n : Nat) (e : TileErr) : exec (.redTopkMerge t n e) s = execRedTopkMerge t n e s := rfl
theorem exec_redPrefix (t : Nat) (n : Nat) (e : TileErr) : exec (.redPrefix t n e) s = execRedPrefix t n e s := rfl
theorem exec_redSegsum (t : Nat) (n : Nat) (e : TileErr) : exec (.redSegsum t n e) s = execRedSegsum t n e s := rfl
theorem exec_gatherRead (t : Nat) (n : Nat) (e : TileErr) : exec (.gatherRead t n e) s = execGatherRead t n e s := rfl
theorem exec_scatterWrite (t : Nat) (n : Nat) (e : TileErr) : exec (.scatterWrite t n e) s = execScatterWrite t n e s := rfl
theorem exec_scatterStash (t : Nat) (n : Nat) (e : TileErr) : exec (.scatterStash t n e) s = execScatterStash t n e s := rfl
theorem exec_scatterReduceAdd (t : Nat) (n : Nat) (e : TileErr) : exec (.scatterReduceAdd t n e) s = execScatterReduceAdd t n e s := rfl
theorem exec_scatterReduceMax (t : Nat) (n : Nat) (e : TileErr) : exec (.scatterReduceMax t n e) s = execScatterReduceMax t n e s := rfl
theorem exec_syncStage (t : Nat) (n : Nat) (e : TileErr) : exec (.syncStage t n e) s = execSyncStage t n e s := rfl
theorem exec_waitPending (t : Nat) (n : Nat) (e : TileErr) : exec (.waitPending t n e) s = execWaitPending t n e s := rfl
theorem exec_waitEdge (t : Nat) (n : Nat) (e : TileErr) : exec (.waitEdge t n e) s = execWaitEdge t n e s := rfl
theorem exec_sendStage (t : Nat) (n : Nat) (e : TileErr) : exec (.sendStage t n e) s = execSendStage t n e s := rfl
theorem exec_yieldStage (t : Nat) (n : Nat) (e : TileErr) : exec (.yieldStage t n e) s = execYieldStage t n e s := rfl
theorem exec_endStage (t : Nat) (n : Nat) (e : TileErr) : exec (.endStage t n e) s = execEndStage t n e s := rfl
theorem exec_gatherResponse (t : Nat) (id : Nat) (data : List Byte) (poison : Bool) (rowHit : Bool) : exec (.gatherResponse t id data poison rowHit) s = execGatherResponse t id data poison rowHit s := rfl
theorem exec_syncReply (t : Nat) (n : Nat) (result : Nat) (reason : Nat) : exec (.syncReply t n result reason) s = execSyncReply t n result reason s := rfl
theorem exec_tilAbortAll (p : Nat) : exec (.tilAbortAll p) s = execTilAbortAll p s := rfl
theorem exec_patrolScrubVisit (t : Nat) (bank : Nat) (row : Nat) (err : Nat) : exec (.patrolScrubVisit t bank row err) s = execPatrolScrubVisit t bank row err s := rfl
theorem exec_islandVoltageReady (island : Nat) : exec (.islandVoltageReady island) s = execIslandVoltageReady island s := rfl
theorem exec_wqCfgWrite (role : Role) (p : Nat) (q : Nat) (v : Nat) : exec (.wqCfgWrite role p q v) s = execWqCfgWrite role p q v s := rfl
theorem exec_wqTailWrite (p : Nat) (q : Nat) (tail : Nat) : exec (.wqTailWrite p q tail) s = execWqTailWrite p q tail s := rfl
theorem exec_wqCplHeadWrite (p : Nat) (q : Nat) (head : Nat) : exec (.wqCplHeadWrite p q head) s = execWqCplHeadWrite p q head s := rfl
theorem exec_wqAbort (p : Nat) (q : Nat) : exec (.wqAbort p q) s = execWqAbort p q s := rfl
theorem exec_descriptorFetch (p : Nat) (q : Nat) : exec (.descriptorFetch p q) s = execDescriptorFetch p q s := rfl
theorem exec_funcNop (p : Nat) (q : Nat) : exec (.funcNop p q) s = execFuncNop p q s := rfl
theorem exec_funcLoad (p : Nat) (q : Nat) : exec (.funcLoad p q) s = execFuncLoad p q s := rfl
theorem exec_funcRun (p : Nat) (q : Nat) : exec (.funcRun p q) s = execFuncRun p q s := rfl
theorem exec_funcEmbBag (p : Nat) (q : Nat) (item : Nat) : exec (.funcEmbBag p q item) s = execFuncEmbBag p q item s := rfl
theorem exec_funcUpdate (p : Nat) (q : Nat) (item : Nat) : exec (.funcUpdate p q item) s = execFuncUpdate p q item s := rfl
theorem exec_funcReduce (p : Nat) (q : Nat) (item : Nat) : exec (.funcReduce p q item) s = execFuncReduce p q item s := rfl
theorem exec_funcTopk (p : Nat) (q : Nat) (item : Nat) : exec (.funcTopk p q item) s = execFuncTopk p q item s := rfl
theorem exec_funcSegReduce (p : Nat) (q : Nat) (item : Nat) : exec (.funcSegReduce p q item) s = execFuncSegReduce p q item s := rfl
theorem exec_funcSort (p : Nat) (q : Nat) (item : Nat) : exec (.funcSort p q item) s = execFuncSort p q item s := rfl
theorem exec_funcPack (p : Nat) (q : Nat) (item : Nat) : exec (.funcPack p q item) s = execFuncPack p q item s := rfl
theorem exec_funcCheckpoint (p : Nat) (q : Nat) : exec (.funcCheckpoint p q) s = execFuncCheckpoint p q s := rfl
theorem exec_itemDispatch (p : Nat) (q : Nat) : exec (.itemDispatch p q) s = execItemDispatch p q s := rfl
theorem exec_descriptorComplete (p : Nat) (q : Nat) : exec (.descriptorComplete p q) s = execDescriptorComplete p q s := rfl
theorem exec_svcLookup (p : Nat) (conn : Nat) (table : Nat) (reqId : Nat) (rows : List Nat) : exec (.svcLookup p conn table reqId rows) s = execSvcLookup p conn table reqId rows s := rfl
theorem exec_svcLookupBag (p : Nat) (conn : Nat) (table : Nat) (reqId : Nat) (rows : List Nat) : exec (.svcLookupBag p conn table reqId rows) s = execSvcLookupBag p conn table reqId rows s := rfl
theorem exec_svcUpdate (p : Nat) (conn : Nat) (table : Nat) (reqId : Nat) (rows : List Nat) (grads : List Nat) : exec (.svcUpdate p conn table reqId rows grads) s = execSvcUpdate p conn table reqId rows grads s := rfl
theorem exec_svcTimeout (p : Nat) (reqId : Nat) : exec (.svcTimeout p reqId) s = execSvcTimeout p reqId s := rfl
theorem exec_ckptPeriodRun (p : Nat) : exec (.ckptPeriodRun p) s = execCkptPeriodRun p s := rfl
theorem exec_ckptChunkAck (p : Nat) (idx : Nat) (accepted : Bool) : exec (.ckptChunkAck p idx accepted) s = execCkptChunkAck p idx accepted s := rfl
theorem exec_ckptChunkTimeout (p : Nat) (idx : Nat) : exec (.ckptChunkTimeout p idx) s = execCkptChunkTimeout p idx s := rfl
theorem exec_routerFlitArrival (x : Nat) (y : Nat) (f : Flit) : exec (.routerFlitArrival x y f) s = execRouterFlitArrival x y f s := rfl
theorem exec_flitEject (x : Nat) (y : Nat) (port : Nat) (f : Flit) : exec (.flitEject x y port f) s = execFlitEject x y port f s := rfl
theorem exec_ingressReq (port : Nat) (ch : Chan) (r : HomeReq) : exec (.ingressReq port ch r) s = execIngressReq port ch r s := rfl
theorem exec_retryRx (id : Nat) : exec (.retryRx id) s = execRetryRx id s := rfl
theorem exec_nocRspTimeout (id : Nat) : exec (.nocRspTimeout id) s = execNocRspTimeout id s := rfl
theorem exec_qosLevelSample (h : Nat) : exec (.qosLevelSample h) s = execQosLevelSample h s := rfl
theorem exec_qosLevelWord (inj : Nat) (h : Nat) : exec (.qosLevelWord inj h) s = execQosLevelWord inj h s := rfl
theorem exec_requestAged (p : Nat) (id : Nat) : exec (.requestAged p id) s = execRequestAged p id s := rfl
theorem exec_qosCommit (role : Role) (v : Nat) : exec (.qosCommit role v) s = execQosCommit role v s := rfl
theorem exec_qosCommitCheckDone : exec .qosCommitCheckDone s = execQosCommitCheckDone s := rfl
theorem exec_homeRdShared (h : Nat) (r : HomeReq) (ue : Nat) : exec (.homeRdShared h r ue) s = execHomeRdShared h r ue s := rfl
theorem exec_homeRdUnique (h : Nat) (r : HomeReq) (ue : Nat) : exec (.homeRdUnique h r ue) s = execHomeRdUnique h r ue s := rfl
theorem exec_homeClaim (h : Nat) (r : HomeReq) (ue : Nat) : exec (.homeClaim h r ue) s = execHomeClaim h r ue s := rfl
theorem exec_homeEvict (h : Nat) (r : HomeReq) (ue : Nat) : exec (.homeEvict h r ue) s = execHomeEvict h r ue s := rfl
theorem exec_homeWb (h : Nat) (r : HomeReq) (ue : Nat) : exec (.homeWb h r ue) s = execHomeWb h r ue s := rfl
theorem exec_homeWrite (h : Nat) (stash : Bool) (r : HomeReq) (es : List ReadErr) (ue : Nat) : exec (.homeWrite h stash r es ue) s = execHomeWrite h stash r es ue s := rfl
theorem exec_homeWrRed (h : Nat) (r : HomeReq) (es : List ReadErr) (ue : Nat) : exec (.homeWrRed h r es ue) s = execHomeWrRed h r es ue s := rfl
theorem exec_homeRdNa (h : Nat) (r : HomeReq) (ue : Nat) : exec (.homeRdNa h r ue) s = execHomeRdNa h r ue s := rfl
theorem exec_gack (h : Nat) (line : Nat) : exec (.gack h line) s = execGack h line s := rfl
theorem exec_homeSnoopAnswer (h : Nat) (agent : Nat) (txid : Nat) (ptn : Nat) (hasData : Bool) (st : Nat) (data : List Byte) (poison : Bool) (ue : Nat) : exec (.homeSnoopAnswer h agent txid ptn hasData st data poison ue) s = execHomeSnoopAnswer h agent txid ptn hasData st data poison ue s := rfl
theorem exec_cohSnpTimeout (h : Nat) (txid : Nat) (ue : Nat) : exec (.cohSnpTimeout h txid ue) s = execCohSnpTimeout h txid ue s := rfl
theorem exec_takedownWalkEnd (p : Nat) : exec (.takedownWalkEnd p) s = execTakedownWalkEnd p s := rfl
theorem exec_stackReadData (h : Nat) (id : Nat) (es : List ReadErr) : exec (.stackReadData h id es) s = execStackReadData h id es s := rfl
theorem exec_softRepair (h : Nat) (pch : Nat) (bank : Nat) (row : Nat) (lost : List Nat) : exec (.softRepair h pch bank row lost) s = execSoftRepair h pch bank row lost s := rfl
theorem exec_granuleRetire (hg : Nat) : exec (.granuleRetire hg) s = execGranuleRetire hg s := rfl
theorem exec_stackRecalDone (h : Nat) : exec (.stackRecalDone h) s = execStackRecalDone h s := rfl
theorem exec_hbmCattrip (h : Nat) : exec (.hbmCattrip h) s = execHbmCattrip h s := rfl
theorem exec_memoryPatrol (h : Nat) (hpa : Nat) (err : Option ReadErr) : exec (.memoryPatrol h hpa err) s = execMemoryPatrol h hpa err s := rfl
theorem exec_hbmRecal (h : Nat) : exec (.hbmRecal h) s = execHbmRecal h s := rfl
theorem exec_sliceLookup (e : Entry) (p : Nat) (g : Nat) (entryUE : Bool) : exec (.sliceLookup e p g entryUE) s = execSliceLookup e p g entryUE s := rfl
theorem exec_xlateAnswer (e : Entry) (p : Nat) (g : Nat) : exec (.xlateAnswer e p g) s = execXlateAnswer e p g s := rfl
theorem exec_jayMissTimeout (p : Nat) (g : Nat) : exec (.jayMissTimeout p g) s = execJayMissTimeout p g s := rfl
theorem exec_granuleInvalidate (e : Entry) (p : Nat) (g : Nat) : exec (.granuleInvalidate e p g) s = execGranuleInvalidate e p g s := rfl
theorem exec_invalidationAck (e : Entry) (p : Nat) (g : Nat) : exec (.invalidationAck e p g) s = execInvalidationAck e p g s := rfl
theorem exec_heatIncrement (h : Nat) : exec (.heatIncrement h) s = execHeatIncrement h s := rfl
theorem exec_jayPlacementPass : exec .jayPlacementPass s = execJayPlacementPass s := rfl
theorem exec_jayCmdMap (p : Nat) (g : Nat) (stack : Nat) (sfmt : Nat) : exec (.jayCmdMap p g stack sfmt) s = execJayCmdMap p g stack sfmt s := rfl
theorem exec_jayCmdUnmap (p : Nat) (g : Nat) : exec (.jayCmdUnmap p g) s = execJayCmdUnmap p g s := rfl
theorem exec_jayCmdSetFmt (p : Nat) (g : Nat) (sfmt : Nat) : exec (.jayCmdSetFmt p g sfmt) s = execJayCmdSetFmt p g sfmt s := rfl
theorem exec_jayCmdPin (p : Nat) (g : Nat) (value : Bool) : exec (.jayCmdPin p g value) s = execJayCmdPin p g value s := rfl
theorem exec_jayCmdHint (p : Nat) (g : Nat) (stack : Nat) : exec (.jayCmdHint p g stack) s = execJayCmdHint p g stack s := rfl
theorem exec_jayCmdRowrep (p : Nat) (g : Nat) (value : Bool) : exec (.jayCmdRowrep p g value) s = execJayCmdRowrep p g value s := rfl
theorem exec_jayCmdMove (p : Nat) (g : Nat) (stack : Nat) : exec (.jayCmdMove p g stack) s = execJayCmdMove p g stack s := rfl
theorem exec_jayCmdAck (p : Nat) (g : Nat) : exec (.jayCmdAck p g) s = execJayCmdAck p g s := rfl
theorem exec_jayHostMiss (p : Nat) : exec (.jayHostMiss p) s = execJayHostMiss p s := rfl
theorem exec_migrationPassDone (src : Nat) (es : List ReadErr) : exec (.migrationPassDone src es) s = execMigrationPassDone src es s := rfl
theorem exec_migrationRemap (src : Nat) (es : List ReadErr) : exec (.migrationRemap src es) s = execMigrationRemap src es s := rfl
theorem exec_migrationDone (src : Nat) : exec (.migrationDone src) s = execMigrationDone src s := rfl
theorem exec_migrationAbandon (src : Nat) : exec (.migrationAbandon src) s = execMigrationAbandon src s := rfl
theorem exec_rowFillAck (t : Nat) (p : Nat) (block : Nat) : exec (.rowFillAck t p block) s = execRowFillAck t p block s := rfl
theorem exec_replicaGather (t : Nat) (r : HomeReq) (e : TileErr) : exec (.replicaGather t r e) s = execReplicaGather t r e s := rfl
theorem exec_uciRepairAccept (role : Role) (k : Nat) (mask : Nat) (rate : Option Nat) (down : Nat) : exec (.uciRepairAccept role k mask rate down) s = execUciRepairAccept role k mask rate down s := rfl
theorem exec_uciRepairDeadlineExpiry (k : Nat) (rate : Option Nat) (down : Nat) : exec (.uciRepairDeadlineExpiry k rate down) s = execUciRepairDeadlineExpiry k rate down s := rfl
theorem exec_uciCrcRetry (k : Nat) (lg : Nat) : exec (.uciCrcRetry k lg) s = execUciCrcRetry k lg s := rfl
theorem exec_uciRetrain (k : Nat) (lg : Nat) : exec (.uciRetrain k lg) s = execUciRetrain k lg s := rfl
theorem exec_uciRetrainDone (k : Nat) (lg : Nat) (ok : Bool) (worst : Nat) : exec (.uciRetrainDone k lg ok worst) s = execUciRetrainDone k lg ok worst s := rfl
theorem exec_fwdClockLoss (k : Nat) (m : Nat) : exec (.fwdClockLoss k m) s = execFwdClockLoss k m s := rfl
theorem exec_sbxCap (k : Nat) (txn : Nat) (cap : Nat) : exec (.sbxCap k txn cap) s = execSbxCap k txn cap s := rfl
theorem exec_sbxSpdmResponse (k : Nat) (res : SpdmResult) : exec (.sbxSpdmResponse k res) s = execSbxSpdmResponse k res s := rfl
theorem exec_sbxRstQuiesced (k : Nat) : exec (.sbxRstQuiesced k) s = execSbxRstQuiesced k s := rfl
theorem exec_sbxRstRequest (k : Nat) (txn : Nat) : exec (.sbxRstRequest k txn) s = execSbxRstRequest k txn s := rfl
theorem exec_sbxRstReady (k : Nat) (rate : Option Nat) (down : Nat) : exec (.sbxRstReady k rate down) s = execSbxRstReady k rate down s := rfl
theorem exec_sbxErr (k : Nat) (txn : Nat) (payload : Nat) : exec (.sbxErr k txn payload) s = execSbxErr k txn payload s := rfl
theorem exec_sbxTimeout (k : Nat) (txn : Nat) : exec (.sbxTimeout k txn) s = execSbxTimeout k txn s := rfl
theorem exec_uciResetCmdReset (role : Role) (k : Nat) : exec (.uciResetCmdReset role k) s = execUciResetCmdReset role k s := rfl
theorem exec_uciResetCmdAttest (role : Role) (k : Nat) : exec (.uciResetCmdAttest role k) s = execUciResetCmdAttest role k s := rfl
theorem exec_uciQuiesceTimeout (k : Nat) : exec (.uciQuiesceTimeout k) s = execUciQuiesceTimeout k s := rfl
theorem exec_sidebandPoll (k : Nat) : exec (.sidebandPoll k) s = execSidebandPoll k s := rfl
theorem exec_uciBindWrite (role : Role) (k : Nat) (mask : Nat) : exec (.uciBindWrite role k mask) s = execUciBindWrite role k mask s := rfl
theorem exec_htlRdShared (k : Nat) (lg : Nat) (hdr : Nat) (data : List Byte) : exec (.htlRdShared k lg hdr data) s = execHtlRdShared k lg hdr data s := rfl
theorem exec_htlRdUnique (k : Nat) (lg : Nat) (hdr : Nat) (data : List Byte) : exec (.htlRdUnique k lg hdr data) s = execHtlRdUnique k lg hdr data s := rfl
theorem exec_htlClaim (k : Nat) (lg : Nat) (hdr : Nat) (data : List Byte) : exec (.htlClaim k lg hdr data) s = execHtlClaim k lg hdr data s := rfl
theorem exec_htlEvict (k : Nat) (lg : Nat) (hdr : Nat) (data : List Byte) : exec (.htlEvict k lg hdr data) s = execHtlEvict k lg hdr data s := rfl
theorem exec_htlRdNa (k : Nat) (lg : Nat) (hdr : Nat) (data : List Byte) : exec (.htlRdNa k lg hdr data) s = execHtlRdNa k lg hdr data s := rfl
theorem exec_htlIntr (k : Nat) (lg : Nat) (hdr : Nat) (data : List Byte) : exec (.htlIntr k lg hdr data) s = execHtlIntr k lg hdr data s := rfl
theorem exec_htlAbort (k : Nat) (lg : Nat) (hdr : Nat) (data : List Byte) : exec (.htlAbort k lg hdr data) s = execHtlAbort k lg hdr data s := rfl
theorem exec_htlWb (k : Nat) (lg : Nat) (hdr : Nat) (data : List Byte) : exec (.htlWb k lg hdr data) s = execHtlWb k lg hdr data s := rfl
theorem exec_htlWrNs (k : Nat) (lg : Nat) (hdr : Nat) (data : List Byte) : exec (.htlWrNs k lg hdr data) s = execHtlWrNs k lg hdr data s := rfl
theorem exec_htlWrStash (k : Nat) (lg : Nat) (hdr : Nat) (data : List Byte) : exec (.htlWrStash k lg hdr data) s = execHtlWrStash k lg hdr data s := rfl
theorem exec_htlWrRed (k : Nat) (lg : Nat) (hdr : Nat) (data : List Byte) : exec (.htlWrRed k lg hdr data) s = execHtlWrRed k lg hdr data s := rfl
theorem exec_htlGatherDesc (k : Nat) (lg : Nat) (hdr : Nat) (data : List Byte) : exec (.htlGatherDesc k lg hdr data) s = execHtlGatherDesc k lg hdr data s := rfl
theorem exec_htlSync (k : Nat) (lg : Nat) (hdr : Nat) (data : List Byte) : exec (.htlSync k lg hdr data) s = execHtlSync k lg hdr data s := rfl
theorem exec_htlSnpAck (k : Nat) (lg : Nat) (hdr : Nat) (data : List Byte) : exec (.htlSnpAck k lg hdr data) s = execHtlSnpAck k lg hdr data s := rfl
theorem exec_htlSnpData (k : Nat) (lg : Nat) (hdr : Nat) (data : List Byte) : exec (.htlSnpData k lg hdr data) s = execHtlSnpData k lg hdr data s := rfl
theorem exec_htlCreditReturn (k : Nat) (slot : Nat) : exec (.htlCreditReturn k slot) s = execHtlCreditReturn k slot s := rfl
theorem exec_cxlMessage (k : Nat) (m : CxlMsg) (tag : Nat) (ppa : Nat) (len : Nat) (data : List Byte) (poison : Bool) : exec (.cxlMessage k m tag ppa len data poison) s = execCxlMessage k m tag ppa len data poison s := rfl
theorem exec_soxPortChange (e : Nat) (st : Nat) : exec (.soxPortChange e st) s = execSoxPortChange e st s := rfl
theorem exec_soxOtherFrame (e : Nat) : exec (.soxOtherFrame e) s = execSoxOtherFrame e s := rfl
theorem exec_ptpSyncRx (e : Nat) (domain : Nat) (twoStep : Bool) (missed : Nat) : exec (.ptpSyncRx e domain twoStep missed) s = execPtpSyncRx e domain twoStep missed s := rfl
theorem exec_ptpAnnounceRx (e : Nat) (rank : Nat) : exec (.ptpAnnounceRx e rank) s = execPtpAnnounceRx e rank s := rfl
theorem exec_sftData (f : Frame) : exec (.sftData f) s = execSftData f s := rfl
theorem exec_sftAck (f : Frame) (rttHigh : Bool) : exec (.sftAck f rttHigh) s = execSftAck f rttHigh s := rfl
theorem exec_sftCnp (f : Frame) (due : Bool) : exec (.sftCnp f due) s = execSftCnp f due s := rfl
theorem exec_sftCtrlOpen (f : Frame) : exec (.sftCtrlOpen f) s = execSftCtrlOpen f s := rfl
theorem exec_sftCtrlOpenAck (f : Frame) : exec (.sftCtrlOpenAck f) s = execSftCtrlOpenAck f s := rfl
theorem exec_sftCtrlRefuse (f : Frame) : exec (.sftCtrlRefuse f) s = execSftCtrlRefuse f s := rfl
theorem exec_sftCtrlClose (f : Frame) : exec (.sftCtrlClose f) s = execSftCtrlClose f s := rfl
theorem exec_sftCtrlCloseAck (f : Frame) : exec (.sftCtrlCloseAck f) s = execSftCtrlCloseAck f s := rfl
theorem exec_sftCtrlReset (f : Frame) : exec (.sftCtrlReset f) s = execSftCtrlReset f s := rfl
theorem exec_sftCtrlHello (f : Frame) (rev : Nat) (fmt : Nat) (role : Nat) (period : Nat) (epoch : Nat) (ownerOk : Bool) : exec (.sftCtrlHello f rev fmt role period epoch ownerOk) s = execSftCtrlHello f rev fmt role period epoch ownerOk s := rfl
theorem exec_sftCtrlHelloAck (f : Frame) : exec (.sftCtrlHelloAck f) s = execSftCtrlHelloAck f s := rfl
theorem exec_sftMgmt (f : Frame) (kind : Nat) (r : DictReq) : exec (.sftMgmt f kind r) s = execSftMgmt f kind r s := rfl
theorem exec_sftJournal (f : Frame) : exec (.sftJournal f) s = execSftJournal f s := rfl
theorem exec_sftMirror (f : Frame) : exec (.sftMirror f) s = execSftMirror f s := rfl
theorem exec_sftHeartbeat (f : Frame) : exec (.sftHeartbeat f) s = execSftHeartbeat f s := rfl
theorem exec_sftFault (f : Frame) : exec (.sftFault f) s = execSftFault f s := rfl
theorem exec_connOpenRequest (p : Nat) (pkg : Nat) (rptn : Nat) : exec (.connOpenRequest p pkg rptn) s = execConnOpenRequest p pkg rptn s := rfl
theorem exec_connOpenRetry (c : Nat) : exec (.connOpenRetry c) s = execConnOpenRetry c s := rfl
theorem exec_connIdleExpiry (c : Nat) : exec (.connIdleExpiry c) s = execConnIdleExpiry c s := rfl
theorem exec_connPsnLimit (c : Nat) : exec (.connPsnLimit c) s = execConnPsnLimit c s := rfl
theorem exec_connCloseTimeout (c : Nat) : exec (.connCloseTimeout c) s = execConnCloseTimeout c s := rfl
theorem exec_sftAckTimer (c : Nat) : exec (.sftAckTimer c) s = execSftAckTimer c s := rfl
theorem exec_sftRtoExpiry (c : Nat) (psn : Nat) : exec (.sftRtoExpiry c psn) s = execSftRtoExpiry c psn s := rfl
theorem exec_ccPeriodExpiry (c : Nat) (plane : Nat) : exec (.ccPeriodExpiry c plane) s = execCcPeriodExpiry c plane s := rfl
theorem exec_soxEgressTableWrite (role : Role) (e : Nat) (v : Nat) : exec (.soxEgressTableWrite role e v) s = execSoxEgressTableWrite role e v s := rfl
theorem exec_pairHeartbeatMiss : exec .pairHeartbeatMiss s = execPairHeartbeatMiss s := rfl
theorem exec_pairRekey : exec .pairRekey s = execPairRekey s := rfl
theorem exec_syncRead (src : SyncSrc) (obj : Nat) : exec (.syncRead src obj) s = execSyncRead src obj s := rfl
theorem exec_syncInit (src : SyncSrc) (obj : Nat) (a : Word) (b : Word) : exec (.syncInit src obj a b) s = execSyncInit src obj a b s := rfl
theorem exec_syncAdd (src : SyncSrc) (obj : Nat) (a : Word) : exec (.syncAdd src obj a) s = execSyncAdd src obj a s := rfl
theorem exec_syncCas (src : SyncSrc) (obj : Nat) (a : Word) (b : Word) : exec (.syncCas src obj a b) s = execSyncCas src obj a b s := rfl
theorem exec_syncSwap (src : SyncSrc) (obj : Nat) (a : Word) : exec (.syncSwap src obj a) s = execSyncSwap src obj a s := rfl
theorem exec_syncWaitGe (src : SyncSrc) (obj : Nat) (a : Word) : exec (.syncWaitGe src obj a) s = execSyncWaitGe src obj a s := rfl
theorem exec_syncAcquire (src : SyncSrc) (obj : Nat) (a : Word) : exec (.syncAcquire src obj a) s = execSyncAcquire src obj a s := rfl
theorem exec_syncRelease (src : SyncSrc) (obj : Nat) (a : Word) : exec (.syncRelease src obj a) s = execSyncRelease src obj a s := rfl
theorem exec_syncArrive (src : SyncSrc) (obj : Nat) : exec (.syncArrive src obj) s = execSyncArrive src obj s := rfl
theorem exec_syncArriveWait (src : SyncSrc) (obj : Nat) : exec (.syncArriveWait src obj) s = execSyncArriveWait src obj s := rfl
theorem exec_syncBarWait (src : SyncSrc) (obj : Nat) (a : Word) : exec (.syncBarWait src obj a) s = execSyncBarWait src obj a s := rfl
theorem exec_syncSet (src : SyncSrc) (obj : Nat) (a : Word) : exec (.syncSet src obj a) s = execSyncSet src obj a s := rfl
theorem exec_syncClear (src : SyncSrc) (obj : Nat) (a : Word) : exec (.syncClear src obj a) s = execSyncClear src obj a s := rfl
theorem exec_syncWaitAny (src : SyncSrc) (obj : Nat) (a : Word) (b : Word) : exec (.syncWaitAny src obj a b) s = execSyncWaitAny src obj a b s := rfl
theorem exec_syncWaitAll (src : SyncSrc) (obj : Nat) (a : Word) (b : Word) : exec (.syncWaitAll src obj a b) s = execSyncWaitAll src obj a b s := rfl
theorem exec_syncWaitExpiry (bank : Nat) (id : Nat) : exec (.syncWaitExpiry bank id) s = execSyncWaitExpiry bank id s := rfl
theorem exec_colSyncMapWrite (role : Role) (p : Nat) (v : Nat) : exec (.colSyncMapWrite role p v) s = execColSyncMapWrite role p v s := rfl
theorem exec_colGroupForm (p : Nat) (g : Nat) (v : Nat) : exec (.colGroupForm p g v) s = execColGroupForm p g v s := rfl
theorem exec_colGroupDissolve (p : Nat) (g : Nat) (v : Nat) : exec (.colGroupDissolve p g v) s = execColGroupDissolve p g v s := rfl
theorem exec_colFormTimeout (p : Nat) (g : Nat) : exec (.colFormTimeout p g) s = execColFormTimeout p g s := rfl
theorem exec_colDbTailWrite (p : Nat) (tail : Nat) (cplHead : Nat) : exec (.colDbTailWrite p tail cplHead) s = execColDbTailWrite p tail cplHead s := rfl
theorem exec_colDbAbort (p : Nat) : exec (.colDbAbort p) s = execColDbAbort p s := rfl
theorem exec_collAllreduce (p : Nat) : exec (.collAllreduce p) s = execCollAllreduce p s := rfl
theorem exec_collReduceScatter (p : Nat) : exec (.collReduceScatter p) s = execCollReduceScatter p s := rfl
theorem exec_collAllgather (p : Nat) : exec (.collAllgather p) s = execCollAllgather p s := rfl
theorem exec_collBroadcast (p : Nat) : exec (.collBroadcast p) s = execCollBroadcast p s := rfl
theorem exec_collBarrier (p : Nat) : exec (.collBarrier p) s = execCollBarrier p s := rfl
theorem exec_collSnapshot (p : Nat) : exec (.collSnapshot p) s = execCollSnapshot p s := rfl
theorem exec_collGlobalReset (p : Nat) : exec (.collGlobalReset p) s = execCollGlobalReset p s := rfl
theorem exec_collStepComplete (p : Nat) (g : Nat) : exec (.collStepComplete p g) s = execCollStepComplete p g s := rfl
theorem exec_snapshotDrainEnd (p : Nat) : exec (.snapshotDrainEnd p) s = execSnapshotDrainEnd p s := rfl
theorem exec_collMsgForm (c : Nat) (payload : List Byte) : exec (.collMsgForm c payload) s = execCollMsgForm c payload s := rfl
theorem exec_collMsgFormed (c : Nat) (payload : List Byte) : exec (.collMsgFormed c payload) s = execCollMsgFormed c payload s := rfl
theorem exec_collMsgRefuse (c : Nat) (payload : List Byte) : exec (.collMsgRefuse c payload) s = execCollMsgRefuse c payload s := rfl
theorem exec_collMsgUp (c : Nat) (payload : List Byte) : exec (.collMsgUp c payload) s = execCollMsgUp c payload s := rfl
theorem exec_collMsgDown (c : Nat) (payload : List Byte) : exec (.collMsgDown c payload) s = execCollMsgDown c payload s := rfl
theorem exec_collMsgStretchReq (c : Nat) (payload : List Byte) : exec (.collMsgStretchReq c payload) s = execCollMsgStretchReq c payload s := rfl
theorem exec_collMsgStretchGrant (c : Nat) (payload : List Byte) : exec (.collMsgStretchGrant c payload) s = execCollMsgStretchGrant c payload s := rfl
theorem exec_collMsgAbort (c : Nat) (payload : List Byte) : exec (.collMsgAbort c payload) s = execCollMsgAbort c payload s := rfl
theorem exec_collMsgReset (c : Nat) (payload : List Byte) : exec (.collMsgReset c payload) s = execCollMsgReset c payload s := rfl
theorem exec_stretchCheckPoint (p : Nat) (g : Nat) : exec (.stretchCheckPoint p g) s = execStretchCheckPoint p g s := rfl
theorem exec_ptnCmdForm (role : Role) (p : Nat) (low : Nat) : exec (.ptnCmdForm role p low) s = execPtnCmdForm role p low s := rfl
theorem exec_ptnCmdSeal (role : Role) (p : Nat) (low : Nat) : exec (.ptnCmdSeal role p low) s = execPtnCmdSeal role p low s := rfl
theorem exec_sealWriteDone (p : Nat) : exec (.sealWriteDone p) s = execSealWriteDone p s := rfl
theorem exec_ptnCmdContextReset (role : Role) (p : Nat) (low : Nat) : exec (.ptnCmdContextReset role p low) s = execPtnCmdContextReset role p low s := rfl
theorem exec_ptnCmdWarmReset (role : Role) (p : Nat) (low : Nat) : exec (.ptnCmdWarmReset role p low) s = execPtnCmdWarmReset role p low s := rfl
theorem exec_ptnCmdFullReset (role : Role) (p : Nat) (low : Nat) : exec (.ptnCmdFullReset role p low) s = execPtnCmdFullReset role p low s := rfl
theorem exec_ptnCmdDissolve (role : Role) (p : Nat) (low : Nat) : exec (.ptnCmdDissolve role p low) s = execPtnCmdDissolve role p low s := rfl
theorem exec_resetDrainEnd (p : Nat) : exec (.resetDrainEnd p) s = execResetDrainEnd p s := rfl
theorem exec_badgerScrubDone (p : Nat) (fails : List Nat) : exec (.badgerScrubDone p fails) s = execBadgerScrubDone p fails s := rfl
theorem exec_tileSaveDone (p : Nat) (t : Nat) : exec (.tileSaveDone p t) s = execTileSaveDone p t s := rfl
theorem exec_tileRestoreDone (p : Nat) (t : Nat) : exec (.tileRestoreDone p t) s = execTileRestoreDone p t s := rfl
theorem exec_ptnCtxNextWrite (role : Role) (p : Nat) (v : Nat) : exec (.ptnCtxNextWrite role p v) s = execPtnCtxNextWrite role p v s := rfl
theorem exec_ptnSchedMiss (p : Nat) : exec (.ptnSchedMiss p) s = execPtnSchedMiss p s := rfl
theorem exec_interruptRaise (p : Nat) (v : Nat) : exec (.interruptRaise p v) s = execInterruptRaise p v s := rfl
theorem exec_hepIntrRaise (p : Nat) (v : Nat) : exec (.hepIntrRaise p v) s = execHepIntrRaise p v s := rfl
theorem exec_secKeyDeliver (role : Role) (p : Nat) (blob : List Byte) (key : Option Nat) : exec (.secKeyDeliver role p blob key) s = execSecKeyDeliver role p blob key s := rfl
theorem exec_secImport (role : Role) (p : Nat) (v : Nat) : exec (.secImport role p v) s = execSecImport role p v s := rfl
theorem exec_importDone (p : Nat) (n : Nat) : exec (.importDone p n) s = execImportDone p n s := rfl
theorem exec_secRotate (role : Role) (p : Nat) (v : Nat) : exec (.secRotate role p v) s = execSecRotate role p v s := rfl
theorem exec_fabricKeyRetire (p : Nat) : exec (.fabricKeyRetire p) s = execFabricKeyRetire p s := rfl
theorem exec_spdmRequest (ep : Nat) (req : SpdmReq) : exec (.spdmRequest ep req) s = execSpdmRequest ep req s := rfl
theorem exec_secDebugGrant (role : Role) (p : Nat) (body : List Byte) (sigOk : Bool) : exec (.secDebugGrant role p body sigOk) s = execSecDebugGrant role p body sigOk s := rfl
theorem exec_debugGrantExpiry (p : Nat) : exec (.debugGrantExpiry p) s = execDebugGrantExpiry p s := rfl
theorem exec_secDebugStateWrite (role : Role) (p : Nat) (v : Nat) : exec (.secDebugStateWrite role p v) s = execSecDebugStateWrite role p v s := rfl
theorem exec_secDebugCmd (role : Role) (p : Nat) (v : Nat) : exec (.secDebugCmd role p v) s = execSecDebugCmd role p v s := rfl
theorem exec_secZeroise (role : Role) (v : Nat) : exec (.secZeroise role v) s = execSecZeroise role v s := rfl
theorem exec_seSensorTrip : exec .seSensorTrip s = execSeSensorTrip s := rfl
theorem exec_secSelftest (role : Role) (v : Nat) (pass : Bool) : exec (.secSelftest role v pass) s = execSecSelftest role v pass s := rfl
theorem exec_secKatPeriodExpiry (pass : Bool) : exec (.secKatPeriodExpiry pass) s = execSecKatPeriodExpiry pass s := rfl
theorem exec_lcsTransition (role : Role) (r : LcRecord) (burn : Burn) : exec (.lcsTransition role r burn) s = execLcsTransition role r burn s := rfl
theorem exec_lcsEraseDone (verified : Bool) (burn : Burn) : exec (.lcsEraseDone verified burn) s = execLcsEraseDone verified burn s := rfl
theorem exec_lcsToken (role : Role) (r : LcRecord) : exec (.lcsToken role r) s = execLcsToken role r s := rfl
theorem exec_lcsSvnCommit (role : Role) (v : Nat) : exec (.lcsSvnCommit role v) s = execLcsSvnCommit role v s := rfl
theorem exec_lcsBscanEnWrite (role : Role) (v : Nat) : exec (.lcsBscanEnWrite role v) s = execLcsBscanEnWrite role v s := rfl
theorem exec_tapBypass : exec .tapBypass s = execTapBypass s := rfl
theorem exec_tapIdcode : exec .tapIdcode s = execTapIdcode s := rfl
theorem exec_tapSamplePreload : exec .tapSamplePreload s = execTapSamplePreload s := rfl
theorem exec_tapExtest : exec .tapExtest s = execTapExtest s := rfl
theorem exec_tapIeee1500 (reg : Nat) : exec (.tapIeee1500 reg) s = execTapIeee1500 reg s := rfl
theorem exec_tapLcToken (r : LcRecord) (burn : Burn) : exec (.tapLcToken r burn) s = execTapLcToken r burn s := rfl
theorem exec_tapLcStatus : exec .tapLcStatus s = execTapLcStatus s := rfl
theorem exec_tapIntscan : exec .tapIntscan s = execTapIntscan s := rfl
theorem exec_tapMbistAcc : exec .tapMbistAcc s = execTapMbistAcc s := rfl
theorem exec_tapReset : exec .tapReset s = execTapReset s := rfl
theorem exec_pcieLinkUp (rate : Nat) (width : Nat) : exec (.pcieLinkUp rate width) s = execPcieLinkUp rate width s := rfl
theorem exec_hostConfigRequest (fn : Nat) (reg : CfgReg) (w : Option Nat) : exec (.hostConfigRequest fn reg w) s = execHostConfigRequest fn reg w s := rfl
theorem exec_hostBar2Write (p : Nat) (off : Nat) (data : List Byte) (ep : Bool) : exec (.hostBar2Write p off data ep) s = execHostBar2Write p off data ep s := rfl
theorem exec_hostBar2Read (p : Nat) (off : Nat) (n : Nat) : exec (.hostBar2Read p off n) s = execHostBar2Read p off n s := rfl
theorem exec_hostBar0Read (fn : Nat) (off : Nat) (n : Nat) : exec (.hostBar0Read fn off n) s = execHostBar0Read fn off n s := rfl
theorem exec_hostSyncSlotWrite (p : Nat) (slot : Nat) (v : Nat) : exec (.hostSyncSlotWrite p slot v) s = execHostSyncSlotWrite p slot v s := rfl
theorem exec_hostMailboxGo (fn : Nat) (v : Nat) : exec (.hostMailboxGo fn v) s = execHostMailboxGo fn v s := rfl
theorem exec_vfFlr (p : Nat) : exec (.vfFlr p) s = execVfFlr p s := rfl
theorem exec_pfFlr : exec .pfFlr s = execPfFlr s := rfl
theorem exec_hostPerst : exec .hostPerst s = execHostPerst s := rfl
theorem exec_ckptExportGo : exec .ckptExportGo s = execCkptExportGo s := rfl
theorem exec_ckptExportDone (snooped : List SnoopedLine) : exec (.ckptExportDone snooped) s = execCkptExportDone snooped s := rfl
theorem exec_debounceExpiry (pin : SlotPin) (level : Bool) : exec (.debounceExpiry pin level) s = execDebounceExpiry pin level s := rfl
theorem exec_hostPrsntAssert : exec .hostPrsntAssert s = execHostPrsntAssert s := rfl
theorem exec_hostPg1Assert : exec .hostPg1Assert s = execHostPg1Assert s := rfl
theorem exec_hostPg2Assert : exec .hostPg2Assert s = execHostPg2Assert s := rfl
theorem exec_hostPgTimeout : exec .hostPgTimeout s = execHostPgTimeout s := rfl
theorem exec_hostAttnPress : exec .hostAttnPress s = execHostAttnPress s := rfl
theorem exec_hostRemoveAck : exec .hostRemoveAck s = execHostRemoveAck s := rfl
theorem exec_hostRemoveCancel : exec .hostRemoveCancel s = execHostRemoveCancel s := rfl
theorem exec_hostRemoveWaitEnd : exec .hostRemoveWaitEnd s = execHostRemoveWaitEnd s := rfl
theorem exec_hepRemoveDeadlineExpiry : exec .hepRemoveDeadlineExpiry s = execHepRemoveDeadlineExpiry s := rfl
theorem exec_surpriseLoss : exec .surpriseLoss s = execSurpriseLoss s := rfl
theorem exec_hostPrsntDeassert : exec .hostPrsntDeassert s = execHostPrsntDeassert s := rfl
theorem exec_dictUnitRx (ep : DictEp) (unit : List Byte) : exec (.dictUnitRx ep unit) s = execDictUnitRx ep unit s := rfl
theorem exec_dictReassemblyTimeout (ep : DictEp) (msg : Nat) : exec (.dictReassemblyTimeout ep msg) s = execDictReassemblyTimeout ep msg s := rfl
theorem exec_dictRead (r : DictReq) : exec (.dictRead r) s = execDictRead r s := rfl
theorem exec_dictWrite (r : DictReq) : exec (.dictWrite r) s = execDictWrite r s := rfl
theorem exec_dictAtomic (r : DictReq) : exec (.dictAtomic r) s = execDictAtomic r s := rfl
theorem exec_dictReadPending (r : DictReq) : exec (.dictReadPending r) s = execDictReadPending r s := rfl
theorem exec_dictReadDefault (r : DictReq) : exec (.dictReadDefault r) s = execDictReadDefault r s := rfl
theorem exec_dictResetDefault (r : DictReq) : exec (.dictResetDefault r) s = execDictResetDefault r s := rfl
theorem exec_dictDescribe (r : DictReq) : exec (.dictDescribe r) s = execDictDescribe r s := rfl
theorem exec_dictSessionOpen (r : OpenReq) : exec (.dictSessionOpen r) s = execDictSessionOpen r s := rfl
theorem exec_dictSessionProve (ep : DictEp) (n : Nat) (sigOk : Bool) : exec (.dictSessionProve ep n sigOk) s = execDictSessionProve ep n sigOk s := rfl
theorem exec_dictSessionClose (r : DictReq) : exec (.dictSessionClose r) s = execDictSessionClose r s := rfl
theorem exec_dictSpdm (ep : DictEp) (seq : Nat) (dest : Nat) (req : SpdmReq) : exec (.dictSpdm ep seq dest req) s = execDictSpdm ep seq dest req s := rfl
theorem exec_sessionProveTimeout (n : Nat) : exec (.sessionProveTimeout n) s = execSessionProveTimeout n s := rfl
theorem exec_sessionIdleExpiry (n : Nat) : exec (.sessionIdleExpiry n) s = execSessionIdleExpiry n s := rfl
theorem exec_roleRootWrite (role : Role) (operator : Bool) (v : Nat) : exec (.roleRootWrite role operator v) s = execRoleRootWrite role operator v s := rfl
theorem exec_registerWrite (w : RegWrite) : exec (.registerWrite w) s = execRegisterWrite w s := rfl
theorem exec_powerOn : exec .powerOn s = execPowerOn s := rfl
theorem exec_bringupTimeout (step : Nat) (mask : Nat) : exec (.bringupTimeout step mask) s = execBringupTimeout step mask s := rfl
theorem exec_bringupReady (f : Findings) : exec (.bringupReady f) s = execBringupReady f s := rfl
theorem exec_pdxHubResetWarm (role : Role) : exec (.pdxHubResetWarm role) s = execPdxHubResetWarm role s := rfl
theorem exec_pdxHubResetCold (role : Role) : exec (.pdxHubResetCold role) s = execPdxHubResetCold role s := rfl
theorem exec_hubResetPin : exec .hubResetPin s = execHubResetPin s := rfl
theorem exec_hubResetEffect : exec .hubResetEffect s = execHubResetEffect s := rfl
theorem exec_pdxPartialReset (role : Role) (v : Nat) : exec (.pdxPartialReset role v) s = execPdxPartialReset role v s := rfl
theorem exec_partialResetRelease : exec .partialResetRelease s = execPartialResetRelease s := rfl
theorem exec_faultEvent (code : Nat) (ptn : Option Nat) (detail : Nat) (sev : Nat) : exec (.faultEvent code ptn detail sev) s = execFaultEvent code ptn detail sev s := rfl
theorem exec_owlCountWindowExpiry (code : Nat) : exec (.owlCountWindowExpiry code) s = execOwlCountWindowExpiry code s := rfl
theorem exec_owlAck (role : Role) (p : Nat) (v : Word) : exec (.owlAck role p v) s = execOwlAck role p v s := rfl
theorem exec_owlHubAck (role : Role) (v : Word) : exec (.owlHubAck role v) s = execOwlHubAck role v s := rfl
theorem exec_owlTriageDecide (role : Role) (v : Nat) : exec (.owlTriageDecide role v) s = execOwlTriageDecide role v s := rfl
theorem exec_owlTriageHoldExpiry (latch : Nat) : exec (.owlTriageHoldExpiry latch) s = execOwlTriageHoldExpiry latch s := rfl
theorem exec_owlTriageMiss (latch : Nat) : exec (.owlTriageMiss latch) s = execOwlTriageMiss latch s := rfl
theorem exec_sqlFlush (role : Role) (v : Nat) : exec (.sqlFlush role v) s = execSqlFlush role v s := rfl
theorem exec_sqlFlushDone (failed : Option Nat) : exec (.sqlFlushDone failed) s = execSqlFlushDone failed s := rfl
theorem exec_sqlFlushDeadlineExpiry : exec .sqlFlushDeadlineExpiry s = execSqlFlushDeadlineExpiry s := rfl
theorem exec_sqlTokenRefill (code : Nat) : exec (.sqlTokenRefill code) s = execSqlTokenRefill code s := rfl
theorem exec_sqlStoreEraseCirc (role : Role) : exec (.sqlStoreEraseCirc role) s = execSqlStoreEraseCirc role s := rfl
theorem exec_sqlStoreEraseFirst (role : Role) : exec (.sqlStoreEraseFirst role) s = execSqlStoreEraseFirst role s := rfl
theorem exec_sqlStoreFormat (role : Role) : exec (.sqlStoreFormat role) s = execSqlStoreFormat role s := rfl
theorem exec_sqlStoreCmdDone : exec .sqlStoreCmdDone s = execSqlStoreCmdDone s := rfl
theorem exec_bstTileRun (role : Role) (v : Nat) : exec (.bstTileRun role v) s = execBstTileRun role v s := rfl
theorem exec_bstTileRunDone (fails : List Nat) : exec (.bstTileRunDone fails) s = execBstTileRunDone fails s := rfl
theorem exec_bstIcGo (role : Role) (v : Nat) : exec (.bstIcGo role v) s = execBstIcGo role v s := rfl
theorem exec_bstIcDone (result : Nat) (errors : Nat) (rate : Option Nat) (down : Nat) (found : StackFound) : exec (.bstIcDone result errors rate down found) s = execBstIcDone result errors rate down found s := rfl
theorem exec_bstUciBurn (role : Role) (v : Nat) (bits : Nat) : exec (.bstUciBurn role v bits) s = execBstUciBurn role v bits s := rfl
theorem exec_pwrFailAssert : exec .pwrFailAssert s = execPwrFailAssert s := rfl
theorem exec_pwrBrownout : exec .pwrBrownout s = execPwrBrownout s := rfl
theorem exec_pwrThermtrip : exec .pwrThermtrip s = execPwrThermtrip s := rfl
theorem exec_pwrThermDecide (role : Role) (v : Nat) : exec (.pwrThermDecide role v) s = execPwrThermDecide role v s := rfl
theorem exec_sbxPwrReport (k : Nat) (txn : Nat) (payload : Nat) : exec (.sbxPwrReport k txn payload) s = execSbxPwrReport k txn payload s := rfl
theorem exec_sbxPwrRevokeAck (k : Nat) (txn : Nat) (payload : Nat) : exec (.sbxPwrRevokeAck k txn payload) s = execSbxPwrRevokeAck k txn payload s := rfl
theorem exec_pwrRevokeTimeout (k : Nat) : exec (.pwrRevokeTimeout k) s = execPwrRevokeTimeout k s := rfl
theorem exec_pinSoxclkLoss : exec .pinSoxclkLoss s = execPinSoxclkLoss s := rfl
theorem exec_pinHostclkLoss : exec .pinHostclkLoss s = execPinHostclkLoss s := rfl
theorem exec_sbxOtherMessage (k : Nat) (ver : Nat) (cls : Nat) (txn : Nat) (resp : Bool) (status : Nat) : exec (.sbxOtherMessage k ver cls txn resp status) s = execSbxOtherMessage k ver cls txn resp status s := rfl
theorem exec_ptpDelayRespRx (e : Nat) (domain : Nat) (delay : Nat) : exec (.ptpDelayRespRx e domain delay) s = execPtpDelayRespRx e domain delay s := rfl
theorem exec_ptpFollowUpRx (e : Nat) (domain : Nat) : exec (.ptpFollowUpRx e domain) s = execPtpFollowUpRx e domain s := rfl
theorem exec_neighbourSolicitationRx (e : Nat) (target : Nat) : exec (.neighbourSolicitationRx e target) s = execNeighbourSolicitationRx e target s := rfl
theorem exec_hostLinkDown : exec .hostLinkDown s = execHostLinkDown s := rfl
theorem exec_hostPerstDeassert : exec .hostPerstDeassert s = execHostPerstDeassert s := rfl
theorem exec_pmeTurnOff : exec .pmeTurnOff s = execPmeTurnOff s := rfl
theorem exec_i3cDynamicAddress (a : Nat) : exec (.i3cDynamicAddress a) s = execI3cDynamicAddress a s := rfl
theorem exec_hubResetRelease : exec .hubResetRelease s = execHubResetRelease s := rfl
theorem exec_powerRemoved : exec .powerRemoved s = execPowerRemoved s := rfl

end Sys2Proof.Machine
end

