-- ==== Sys2Proof/Laws/Tables.lean ====
section
/-! SUPPORT. Laws of sparse tables: reading after a change, and the canonical form that every change keeps. -/

namespace Sys2Proof

variable {α β : Type}

/-! ## Reading after a change -/

@[simp] theorem AMap.find_set_same (m : AMap α) (k : Nat) (v : α) : (m.set k v).find k = some v := by
  fun_induction AMap.set m k v <;> simp_all [AMap.find]

theorem AMap.find_set_ne (m : AMap α) (k d : Nat) (v : α) (h : d ≠ k) : (m.set k v).find d = m.find d := by
  fun_induction AMap.set m k v <;> simp_all [AMap.find] <;> grind

@[simp] theorem AMap.find_erase_same (m : AMap α) (k : Nat) : (m.erase k).find k = none := by
  induction m with
  | nil => rfl
  | cons a r ih => obtain ⟨x, y⟩ := a; simp only [AMap.erase, List.filter] at *; split <;> simp_all [AMap.find]

theorem AMap.find_erase_ne (m : AMap α) (k d : Nat) (h : d ≠ k) : (m.erase k).find d = m.find d := by
  induction m with
  | nil => rfl
  | cons a r ih => obtain ⟨x, y⟩ := a; simp only [AMap.erase, List.filter] at *; (split <;> simp_all [AMap.find]); grind

theorem AMap.find_put_ne [DecidableEq α] (m : AMap α) (k d : Nat) (v w : α) (h : d ≠ k) : (m.put k v w).find d = m.find d := by
  unfold AMap.put
  split
  · exact AMap.find_erase_ne m k d h
  · exact AMap.find_set_ne m k d v h

theorem AMap.get_put [DecidableEq α] (m : AMap α) (k d : Nat) (v w : α) : (m.put k v w).get d w = if d = k then v else m.get d w := by
  unfold AMap.put AMap.get
  split <;> split <;> simp_all [AMap.find_erase_ne, AMap.find_set_ne]

@[simp] theorem AMap.get_put_same [DecidableEq α] (m : AMap α) (k : Nat) (v w : α) : (m.put k v w).get k w = v := by
  simp [AMap.get_put]

theorem AMap.get_put_ne [DecidableEq α] (m : AMap α) (k d : Nat) (v w : α) (h : d ≠ k) : (m.put k v w).get d w = m.get d w := by
  simp [AMap.get_put, h]

theorem AMap.get_set_same (m : AMap α) (k : Nat) (v w : α) : (m.set k v).get k w = v := by simp [AMap.get]

theorem AMap.get_set_ne (m : AMap α) (k d : Nat) (v w : α) (h : d ≠ k) : (m.set k v).get d w = m.get d w := by
  simp [AMap.get, AMap.find_set_ne _ _ _ _ h]

theorem AMap.find_none_of_lt (m : AMap α) (k : Nat) (h : ∀ e ∈ m, k < e.1) : m.find k = none := by
  induction m with
  | nil => rfl
  | cons a r ih =>
    obtain ⟨x, y⟩ := a
    have hx := h (x, y) (List.mem_cons_self ..)
    simp only [AMap.find]
    rw [if_neg (by simp only at hx; omega)]
    exact ih fun e he => h e (List.mem_cons_of_mem _ he)

theorem AMap.find_mapVal (m : AMap α) (f : Nat → α → β) (k : Nat) : (m.mapVal f).find k = (m.find k).map (f k) := by
  induction m with
  | nil => rfl
  | cons a r ih => obtain ⟨x, y⟩ := a; simp only [AMap.mapVal, List.map_cons, AMap.find] at *; split <;> simp_all

/-! ## The canonical form -/

theorem AMap.sorted_cons (a : Nat × α) (r : AMap α) : AMap.sorted (a :: r) = true ↔ (∀ e ∈ r, a.1 < e.1) ∧ AMap.sorted r = true := by
  induction r generalizing a with
  | nil => simp [AMap.sorted]
  | cons b r ih =>
    obtain ⟨x, y⟩ := a
    obtain ⟨u, v⟩ := b
    simp only [AMap.sorted, Bool.and_eq_true, decide_eq_true_eq, List.mem_cons, forall_eq_or_imp]
    rw [ih]
    constructor
    · rintro ⟨h, h2, h3⟩
      exact ⟨⟨h, fun e he => Nat.lt_trans h (h2 e he)⟩, h2, h3⟩
    · rintro ⟨⟨h, -⟩, h2, h3⟩
      exact ⟨h, h2, h3⟩

theorem AMap.mem_set (m : AMap α) (k : Nat) (v : α) (e : Nat × α) (h : e ∈ m.set k v) : e = (k, v) ∨ e ∈ m := by
  fun_induction AMap.set m k v <;> grind

theorem AMap.sorted_filter (m : AMap α) (p : Nat × α → Bool) (h : AMap.sorted m = true) : AMap.sorted (m.filter p) = true := by
  induction m with
  | nil => rfl
  | cons a r ih =>
    rw [AMap.sorted_cons] at h
    rw [List.filter_cons]
    split
    · rw [AMap.sorted_cons]
      exact ⟨fun e he => h.1 e ((List.mem_filter.1 he).1), ih h.2⟩
    · exact ih h.2

theorem AMap.sorted_erase (m : AMap α) (k : Nat) (h : AMap.sorted m = true) : AMap.sorted (m.erase k) = true := AMap.sorted_filter m _ h

theorem AMap.sorted_where (m : AMap α) (p : Nat → α → Bool) (h : AMap.sorted m = true) : AMap.sorted (m.where p) = true := AMap.sorted_filter m _ h

theorem AMap.sorted_set (m : AMap α) (k : Nat) (v : α) (h : AMap.sorted m = true) : AMap.sorted (m.set k v) = true := by
  induction m with
  | nil => rfl
  | cons a r ih =>
    obtain ⟨x, y⟩ := a
    have hs := (AMap.sorted_cons _ _).1 h
    simp only [AMap.set]
    split
    · rename_i hk
      rw [AMap.sorted_cons]
      refine ⟨fun e he => ?_, h⟩
      rcases List.mem_cons.1 he with rfl | he
      · exact hk
      · exact Nat.lt_trans hk (hs.1 e he)
    · split
      · rename_i hk
        subst hk
        rw [AMap.sorted_cons]
        exact hs
      · rw [AMap.sorted_cons]
        refine ⟨fun e he => ?_, ih hs.2⟩
        rcases AMap.mem_set _ _ _ _ he with rfl | he
        · simp only; omega
        · exact hs.1 e he

theorem AMap.sorted_put [DecidableEq α] (m : AMap α) (k : Nat) (v d : α) (h : AMap.sorted m = true) : AMap.sorted (m.put k v d) = true := by
  unfold AMap.put
  split
  · exact AMap.sorted_erase m k h
  · exact AMap.sorted_set m k v h

theorem AMap.find_of_sorted (m : AMap α) (k : Nat) (v : α) (h : AMap.sorted m = true) : m.find k = some v ↔ (k, v) ∈ m := by
  induction m with
  | nil => simp [AMap.find]
  | cons a r ih =>
    obtain ⟨x, y⟩ := a
    rw [AMap.sorted_cons] at h
    simp only [AMap.find, List.mem_cons, Prod.mk.injEq]
    split
    · rename_i hx
      subst hx
      have : (x, v) ∉ r := fun hm => Nat.lt_irrefl x (h.1 _ hm)
      grind
    · rw [ih h.2]
      grind

/-- Two canonical tables that read alike are the same table. -/
theorem AMap.ext_of_sorted (m n : AMap α) (hm : AMap.sorted m = true) (hn : AMap.sorted n = true) (h : ∀ k, m.find k = n.find k) : m = n := by
  induction m generalizing n with
  | nil =>
    cases n with
    | nil => rfl
    | cons b r => have := h b.1; simp [AMap.find] at this
  | cons a r ih =>
    cases n with
    | nil => have := h a.1; simp [AMap.find] at this
    | cons b t =>
      obtain ⟨x, y⟩ := a
      obtain ⟨u, v⟩ := b
      have hm' := (AMap.sorted_cons _ _).1 hm
      have hn' := (AMap.sorted_cons _ _).1 hn
      have hx := h x
      have hu := h u
      simp only [AMap.find, if_true] at hx hu
      have hxu : x = u := by
        rcases Nat.lt_trichotomy x u with hl | hl | hl
        · rw [if_neg (by omega), AMap.find_none_of_lt t x fun e he => Nat.lt_trans hl (hn'.1 e he)] at hx
          simp at hx
        · exact hl
        · rw [if_neg (by omega), AMap.find_none_of_lt r u fun e he => Nat.lt_trans hl (hm'.1 e he)] at hu
          simp at hu
      subst hxu
      simp only [if_true, Option.some.injEq] at hx
      subst hx
      rw [ih t hm'.2 hn'.2]
      intro k
      have hk := h k
      simp only [AMap.find] at hk
      by_cases hkx : x = k
      · subst hkx
        rw [AMap.find_none_of_lt r x hm'.1, AMap.find_none_of_lt t x hn'.1]
      · simpa [hkx] using hk

end Sys2Proof
end

