-- ==== Sys2Proof/Laws/Memory.lean ====
section
/-! SUPPORT. Laws of memory: bytes and little-endian numbers, reading after writing, and the canonical form that every operation on
memory keeps. -/

namespace Sys2Proof.Machine

/-! ## Bytes and numbers -/

@[simp] theorem toLe_length (n v : Nat) : (toLe n v).length = n := by
  induction n generalizing v with
  | zero => rfl
  | succ n ih => simp [toLe, ih]

theorem leNat_toLe (n v : Nat) : leNat (toLe n v) = v % 256 ^ n := by
  induction n generalizing v with
  | zero => simp [toLe, leNat, Nat.mod_one]
  | succ n ih =>
    have h : v % (256 * 256 ^ n) = v % 256 + 256 * (v / 256 % 256 ^ n) := Nat.mod_mul ..
    have h2 : (BitVec.ofNat 8 v).toNat = v % 256 := BitVec.toNat_ofNat ..
    rw [toLe, leNat, ih, Nat.pow_succ', h, h2]

theorem leNat_lt (b : List Byte) : leNat b < 256 ^ b.length := by
  induction b with
  | nil => simp [leNat]
  | cons x r ih =>
    simp only [leNat, List.length_cons, Nat.pow_succ]
    have := x.isLt
    omega

theorem toLe_leNat (b : List Byte) : toLe b.length (leNat b) = b := by
  induction b with
  | nil => rfl
  | cons x r ih =>
    have hx := x.isLt
    simp only [List.length_cons, toLe, leNat, List.cons.injEq]
    refine ⟨?_, ?_⟩
    · apply BitVec.eq_of_toNat_eq
      simp only [BitVec.toNat_ofNat]
      omega
    · rw [show (x.toNat + 256 * leNat r) / 256 = leNat r by omega, ih]

/-! ## Reading after writing -/

theorem get_memPut (m : List Host.Cell) (a k : Nat) (b : List Byte) :
    AMap.get (memPut m a b) k 0 = if a ≤ k ∧ k < a + b.length then b.getD (k - a) 0 else AMap.get m k 0 := by
  induction b generalizing m a with
  | nil =>
    rw [if_neg (by simp only [List.length_nil]; omega)]
    rfl
  | cons x r ih =>
    simp only [memPut, ih, List.length_cons, AMap.get_put]
    by_cases h : k = a
    · subst h
      rw [if_neg (by omega), if_pos rfl, if_pos (by omega)]
      simp
    · by_cases h2 : a ≤ k ∧ k < a + (r.length + 1)
      · rw [if_pos h2, if_pos (by omega), show k - a = (k - (a + 1)) + 1 by omega]
        simp
      · rw [if_neg h2, if_neg (by omega), if_neg h]

theorem byte_setByte (s : State) (a k : Nat) (b : Byte) : (s.setByte a b).byte k = if k = a then b else s.byte k := AMap.get_put ..

theorem byte_putBytes (s : State) (a k : Nat) (b : List Byte) :
    (s.putBytes a b).byte k = if a ≤ k ∧ k < a + b.length then b.getD (k - a) 0 else s.byte k := get_memPut ..

@[simp] theorem memBytes_length (m : List Host.Cell) (a n : Nat) : (memBytes m a n).length = n := by simp [memBytes]

theorem memBytes_getD (m : List Host.Cell) (a n i : Nat) (h : i < n) : (memBytes m a n).getD i 0 = AMap.get m (a + i) 0 := by
  simp [memBytes, h]

theorem memBytes_congr (m m' : List Host.Cell) (a n : Nat) (h : ∀ k, a ≤ k → k < a + n → AMap.get m k (0 : Byte) = AMap.get m' k 0) :
    memBytes m a n = memBytes m' a n := by
  unfold memBytes
  apply List.map_congr_left
  intro i hi
  exact h (a + i) (by omega) (by have := List.mem_range.1 hi; omega)

theorem memBytes_append (m : List Host.Cell) (a n k : Nat) : memBytes m a n ++ memBytes m (a + n) k = memBytes m a (n + k) := by
  unfold memBytes
  rw [List.range_add, List.map_append, List.map_map]
  congr 1
  apply List.map_congr_left
  intro i _
  simp [Nat.add_assoc]

theorem memBytes_take (m : List Host.Cell) (a n k : Nat) (h : k ≤ n) : (memBytes m a n).take k = memBytes m a k := by
  rw [show n = k + (n - k) by omega, ← memBytes_append, List.take_left' (by simp)]

theorem memBytes_drop (m : List Host.Cell) (a n k : Nat) (h : k ≤ n) : (memBytes m a n).drop k = memBytes m (a + k) (n - k) := by
  conv => lhs; rw [show n = k + (n - k) by omega, ← memBytes_append, List.drop_left' (by simp)]

theorem bytes_putBytes (s : State) (a : Nat) (b : List Byte) : (s.putBytes a b).bytes a b.length = b := by
  apply List.ext_getElem (by simp [State.bytes])
  intro i h _
  simp only [State.bytes, State.putBytes, memBytes, List.getElem_map, List.getElem_range, get_memPut]
  rw [if_pos (by simp [State.bytes] at h; omega)]
  simp [List.getD]
  grind

theorem bytes_putBytes_other (s : State) (a c n : Nat) (b : List Byte) (h : c + n ≤ a ∨ a + b.length ≤ c) :
    (s.putBytes a b).bytes c n = s.bytes c n := by
  apply memBytes_congr
  intro k h1 h2
  simp only [State.putBytes, get_memPut]
  rw [if_neg (by omega)]

/-! ## The canonical form -/

theorem wf_nil : Memory.wf [] = true := rfl

theorem wf_filter (m : List Host.Cell) (p : Host.Cell → Bool) (h : Memory.wf m = true) : Memory.wf (m.filter p) = true := by
  simp only [Memory.wf, Bool.and_eq_true, List.all_eq_true] at *
  exact ⟨AMap.sorted_filter m p h.1, fun c hc => h.2 c (List.mem_filter.1 hc).1⟩

theorem wf_where (m : List Host.Cell) (p : Nat → Byte → Bool) (h : Memory.wf m = true) : Memory.wf (AMap.where m p) = true := wf_filter m _ h

theorem wf_set (m : List Host.Cell) (a : Nat) (b : Byte) (h : Memory.wf m = true) (hb : b ≠ 0) : Memory.wf (AMap.set m a b) = true := by
  simp only [Memory.wf, Bool.and_eq_true, List.all_eq_true] at *
  refine ⟨AMap.sorted_set m a b h.1, fun c hc => ?_⟩
  rcases AMap.mem_set _ _ _ _ hc with rfl | hc
  · simpa using hb
  · exact h.2 c hc

theorem wf_put (m : List Host.Cell) (a : Nat) (b : Byte) (h : Memory.wf m = true) : Memory.wf (AMap.put m a b 0) = true := by
  unfold AMap.put
  split
  · exact wf_filter m _ h
  · exact wf_set m a b h ‹_›

theorem wf_memPut (m : List Host.Cell) (a : Nat) (b : List Byte) (h : Memory.wf m = true) : Memory.wf (memPut m a b) = true := by
  induction b generalizing m a with
  | nil => exact h
  | cons x r ih => exact ih _ _ (wf_put m a x h)

theorem wf_setByte (s : State) (a : Nat) (b : Byte) (h : Memory.wf s.mem = true) : Memory.wf (s.setByte a b).mem = true := wf_put _ _ _ h

theorem wf_putBytes (s : State) (a : Nat) (b : List Byte) (h : Memory.wf s.mem = true) : Memory.wf (s.putBytes a b).mem = true :=
  wf_memPut _ _ _ h

theorem wf_poisonUnit (s : State) (n u : Nat) (h : Memory.wf s.mem = true) : Memory.wf (s.poisonUnit n u).mem = true := wf_memPut _ _ _ h

theorem wf_settleUnit (s : State) (size a n u : Nat) (bad : Bool) (h : Memory.wf s.mem = true) :
    Memory.wf (State.settleUnit size a n bad s u).mem = true := by
  unfold State.settleUnit
  split
  · exact wf_poisonUnit s size u h
  · split
    · exact h
    · split
      · exact wf_poisonUnit s size u h
      · exact h

theorem wf_settleUnits (l : List Nat) (s : State) (size a n : Nat) (bad : Bool) (h : Memory.wf s.mem = true) :
    Memory.wf (l.foldl (State.settleUnit size a n bad) s).mem = true := by
  induction l generalizing s with
  | nil => exact h
  | cons u r ih => exact ih _ (wf_settleUnit s size a n u bad h)

theorem wf_store64 (s : State) (a : Nat) (b : List Byte) (bad : Bool) (h : Memory.wf s.mem = true) : Memory.wf (s.store64 a b bad).mem = true :=
  wf_settleUnits _ _ _ _ _ _ (wf_putBytes s a b h)

theorem wf_writePpa (s : State) (p a : Nat) (b : List Byte) (bad : Bool) (h : Memory.wf s.mem = true) :
    Memory.wf (s.writePpa p a b bad).mem = true := by
  unfold State.writePpa
  split
  · split
    · exact wf_store64 s _ b bad h
    · exact h
  · exact h

theorem wf_zeroGranule (s : State) (g : Nat) (h : Memory.wf s.mem = true) : Memory.wf (s.zeroGranule g).mem = true := wf_filter _ _ h

theorem wf_wipeStack (s : State) (k : Nat) (h : Memory.wf s.mem = true) : Memory.wf (s.wipeStack k).mem = true :=
  wf_where s.mem (fun a _ => stackOf a != k) h

theorem wf_foldSet (l m : List Host.Cell) (f : Nat → Nat) (hm : Memory.wf m = true) (hl : ∀ c ∈ l, c.2 ≠ 0) :
    Memory.wf (l.foldl (fun m c => AMap.set m (f c.1) c.2) m) = true := by
  induction l generalizing m with
  | nil => exact hm
  | cons c r ih =>
    exact ih _ (wf_set m _ _ hm (hl c (List.mem_cons_self ..))) fun x hx => hl x (List.mem_cons_of_mem _ hx)

theorem wf_carry (s : State) (a b : Nat) (h : Memory.wf s.mem = true) : Memory.wf (s.carry a b).mem = true := by
  refine wf_foldSet _ _ (fun k => k - a * Config.granule + b * Config.granule) (wf_filter _ _ h) fun c hc => ?_
  simp only [Memory.wf, Bool.and_eq_true, List.all_eq_true] at h
  have := h.2 c (List.mem_filter.1 hc).1
  simpa using this

/-- Two canonical memories that read alike are the same list. -/
theorem memory_ext (m n : List Host.Cell) (hm : Memory.wf m = true) (hn : Memory.wf n = true)
    (h : ∀ a, AMap.get m a (0 : Byte) = AMap.get n a 0) : m = n := by
  simp only [Memory.wf, Bool.and_eq_true, List.all_eq_true] at hm hn
  have key : ∀ (l : List Host.Cell), AMap.sorted l = true → (∀ c ∈ l, (c.2 != 0) = true) → ∀ a, AMap.find l a ≠ some 0 := by
    intro l hs hz a ha
    have := hz _ ((AMap.find_of_sorted l a 0 hs).1 ha)
    simp at this
  refine AMap.ext_of_sorted m n hm.1 hn.1 fun k => ?_
  have hk := h k
  have h1 := key m hm.1 hm.2 k
  have h2 := key n hn.1 hn.2 k
  unfold AMap.get at hk
  cases hx : AMap.find m k <;> cases hy : AMap.find n k <;> simp_all

/-! ## The register file -/

theorem regs_wr (s : State) (r : Reg) (v u sub : Nat) (h : AMap.sorted s.regs = true) : AMap.sorted (s.wr r v u sub).regs = true :=
  AMap.sorted_put _ _ _ _ h

theorem regs_clr (s : State) (r : Reg) (u sub : Nat) (h : AMap.sorted s.regs = true) : AMap.sorted (s.clr r u sub).regs = true :=
  AMap.sorted_erase _ _ h

end Sys2Proof.Machine
end

