-- ==== Sys2Proof/Laws/Ops.lean ====
section
/-! SUPPORT. What reading gives after writing: registers, counters, and the tables that hold queues, strands, sites, granules, objects,
connections, partitions and keys. -/

namespace Sys2Proof.Machine

/-! ## Registers -/

theorem rd_wr (s : State) (r q : Reg) (v u u' sub sub' : Nat) :
    (s.wr r v u sub).rd q u' sub' = if q.key u' sub' = r.key u sub ∧ q.dfltAt sub' = r.dfltAt sub then v % 2 ^ r.bits
      else if q.key u' sub' = r.key u sub then (AMap.find (s.wr r v u sub).regs (r.key u sub)).getD (q.dfltAt sub') else s.rd q u' sub' := by
  unfold State.rd State.wr
  split
  · rename_i h
    rw [h.1, h.2, AMap.get_put_same]
  · split
    · rename_i h
      rw [h]
      rfl
    · rename_i h
      simp only [AMap.get, AMap.find_put_ne _ _ _ _ _ h]

theorem rd_wr_same (s : State) (r : Reg) (v u sub : Nat) : (s.wr r v u sub).rd r u sub = v % 2 ^ r.bits := by simp [rd_wr]

theorem rd_wr_ne (s : State) (r q : Reg) (v u u' sub sub' : Nat) (h : q.key u' sub' ≠ r.key u sub) :
    (s.wr r v u sub).rd q u' sub' = s.rd q u' sub' := by simp [rd_wr, h]

theorem rd_clr (s : State) (r : Reg) (u sub : Nat) : (s.clr r u sub).rd r u sub = r.dfltAt sub := by simp [State.rd, State.clr, AMap.get]

theorem rd_bump (s : State) (r : Reg) (u sub n : Nat) (h : s.rd r u sub + n < 2 ^ r.bits) : (s.bump r u sub n).rd r u sub = s.rd r u sub + n := by
  simp [State.bump, rd_wr_same, counterAdd, h, Nat.mod_eq_of_lt]

theorem field_lt (v msb lsb : Nat) : field v msb lsb < 2 ^ (msb + 1 - lsb) := Nat.mod_lt _ (Nat.two_pow_pos _)

theorem mem_bitsOf (v n i : Nat) : i ∈ bitsOf v n ↔ i < n ∧ v.testBit i = true := by simp [bitsOf]

/-- A list's members leave alone what each of them leaves alone. -/
theorem each_keeps {α β : Type} (f : State → β → State) (g : State → α) (h : ∀ s b, g (f s b) = g s) (l : List β) (s : State) :
    g (s.each l f) = g s := by
  induction l generalizing s with
  | nil => rfl
  | cons b r ih => exact (ih (f s b)).trans (h s b)

/-! ## Tables of the state -/

theorem wq_setWq (s : State) (p q : Nat) (w : Wq) : (s.setWq p q w).wq p q = w := by simp [State.wq, State.setWq]

theorem wq_setWq_ne (s : State) (p q p' q' : Nat) (w : Wq) (h : 64 * p' + q' ≠ 64 * p + q) : (s.setWq p q w).wq p' q' = s.wq p' q' := by
  simp [State.wq, State.setWq, AMap.get_put_ne _ _ _ _ _ h]

theorem strand_setStrand (s : State) (t n : Nat) (x : Strand) : (s.setStrand t n x).strand t n = some x := by simp [State.strand, State.setStrand]

theorem strand_setStrand_ne (s : State) (t n t' n' : Nat) (x : Strand) (h : strandKey t' n' ≠ strandKey t n) :
    (s.setStrand t n x).strand t' n' = s.strand t' n' := by simp [State.strand, State.setStrand, AMap.find_set_ne _ _ _ _ h]

theorem site_setSite (s : State) (k : Nat) (x : Site) : (s.setSite k x).site k = x := by simp [State.site, State.setSite]

theorem site_setSite_ne (s : State) (k j : Nat) (x : Site) (h : j ≠ k) : (s.setSite k x).site j = s.site j := by
  simp [State.site, State.setSite, AMap.get_put_ne _ _ _ _ _ h]

theorem hgt_setHgt (s : State) (g : Nat) (e : Hgt) : (s.setHgt g e).hgt g = e := AMap.get_put_same ..

theorem hgt_setHgt_ne (s : State) (g k : Nat) (e : Hgt) (h : k ≠ g) : (s.setHgt g e).hgt k = s.hgt k :=
  congrArg (·.getD (s.hgtReset k)) (AMap.find_put_ne _ _ _ _ _ h)

theorem dirEntry_setDir (s : State) (p g : Nat) (e : DirEntry) : (s.setDir p g e).dirEntry p g = e := AMap.get_put_same ..

theorem dirEntry_setDir_ne (s : State) (p g p' g' : Nat) (e : DirEntry) (h : s.dbase p' + g' ≠ s.dbase p + g) :
    (s.setDir p g e).dirEntry p' g' = s.dirEntry p' g' := AMap.get_put_ne _ _ _ _ _ h

theorem ptn_setPtn (s : State) (p : Nat) (x : Ptn) : (s.setPtn p x).ptn p = x := by simp [State.ptn, State.setPtn]

theorem ptn_setPtn_ne (s : State) (p q : Nat) (x : Ptn) (h : q ≠ p) : (s.setPtn p x).ptn q = s.ptn q := by
  simp [State.ptn, State.setPtn, AMap.get_put_ne _ _ _ _ _ h]

theorem conn_setConn (s : State) (n : Nat) (c : Conn) : (s.setConn n c).conn n = some c := by simp [State.conn, State.setConn]

theorem conn_setConn_ne (s : State) (n k : Nat) (c : Conn) (h : k ≠ n) : (s.setConn n c).conn k = s.conn k := by
  simp [State.conn, State.setConn, AMap.find_set_ne _ _ _ _ h]

theorem obj_setObj (s : State) (n : Nat) (o : SyncObj) : (s.setObj n o).obj n = o := by simp [State.obj, State.setObj]

theorem obj_setObj_ne (s : State) (n k : Nat) (o : SyncObj) (h : k ≠ n) : (s.setObj n o).obj k = s.obj k := by
  simp [State.obj, State.setObj, AMap.get_put_ne _ _ _ _ _ h]

theorem group_setColGroup (s : State) (p g : Nat) (x : Group) : (s.setColGroup p g x).group p g = x := by simp [State.group, State.setColGroup]

theorem ring_setRing (s : State) (p : Nat) (r : Ring) : (s.setRing p r).ring p = r := by simp [State.ring, State.setRing]

theorem keySlot_setKey (s : State) (k : Nat) (x : KeySlot) : (s.setKey k x).keySlot k = some x := by simp [State.keySlot, State.setKey]

theorem keySlot_setKey_ne (s : State) (k j : Nat) (x : KeySlot) (h : j ≠ k) : (s.setKey k x).keySlot j = s.keySlot j := by
  simp [State.keySlot, State.setKey, AMap.find_set_ne _ _ _ _ h]

end Sys2Proof.Machine
end

