-- ==== Sys2Proof/Laws/State.lean ====
section
/-! SUPPORT. What each update of the state leaves as it is: one lemma for each update and field. -/

namespace Sys2Proof.Machine

variable (s : State)

@[simp] theorem State.wr_pending (r : Reg) (v u sub : Nat) : (s.wr r v u sub).pending = s.pending := rfl
@[simp] theorem State.wr_sent (r : Reg) (v u sub : Nat) : (s.wr r v u sub).sent = s.sent := rfl
@[simp] theorem State.wr_fresh (r : Reg) (v u sub : Nat) : (s.wr r v u sub).fresh = s.fresh := rfl
@[simp] theorem State.wr_mem (r : Reg) (v u sub : Nat) : (s.wr r v u sub).mem = s.mem := rfl
@[simp] theorem State.wr_poison (r : Reg) (v u sub : Nat) : (s.wr r v u sub).poison = s.poison := rfl
@[simp] theorem State.wr_beat (r : Reg) (v u sub : Nat) : (s.wr r v u sub).beat = s.beat := rfl
@[simp] theorem State.wr_owl (r : Reg) (v u sub : Nat) : (s.wr r v u sub).owl = s.owl := rfl
@[simp] theorem State.wr_sql (r : Reg) (v u sub : Nat) : (s.wr r v u sub).sql = s.sql := rfl
@[simp] theorem State.wr_store (r : Reg) (v u sub : Nat) : (s.wr r v u sub).store = s.store := rfl
@[simp] theorem State.wr_sync (r : Reg) (v u sub : Nat) : (s.wr r v u sub).sync = s.sync := rfl
@[simp] theorem State.wr_jay (r : Reg) (v u sub : Nat) : (s.wr r v u sub).jay = s.jay := rfl
@[simp] theorem State.wr_caches (r : Reg) (v u sub : Nat) : (s.wr r v u sub).caches = s.caches := rfl
@[simp] theorem State.wr_hep (r : Reg) (v u sub : Nat) : (s.wr r v u sub).hep = s.hep := rfl
@[simp] theorem State.wr_qos (r : Reg) (v u sub : Nat) : (s.wr r v u sub).qos = s.qos := rfl
@[simp] theorem State.wr_noc (r : Reg) (v u sub : Nat) : (s.wr r v u sub).noc = s.noc := rfl
@[simp] theorem State.wr_hbm (r : Reg) (v u sub : Nat) : (s.wr r v u sub).hbm = s.hbm := rfl
@[simp] theorem State.wr_coh (r : Reg) (v u sub : Nat) : (s.wr r v u sub).coh = s.coh := rfl
@[simp] theorem State.wr_sites (r : Reg) (v u sub : Nat) : (s.wr r v u sub).sites = s.sites := rfl
@[simp] theorem State.wr_tile (r : Reg) (v u sub : Nat) : (s.wr r v u sub).tile = s.tile := rfl
@[simp] theorem State.wr_wqs (r : Reg) (v u sub : Nat) : (s.wr r v u sub).wqs = s.wqs := rfl
@[simp] theorem State.wr_svc (r : Reg) (v u sub : Nat) : (s.wr r v u sub).svc = s.svc := rfl
@[simp] theorem State.wr_ckpt (r : Reg) (v u sub : Nat) : (s.wr r v u sub).ckpt = s.ckpt := rfl
@[simp] theorem State.wr_ptns (r : Reg) (v u sub : Nat) : (s.wr r v u sub).ptns = s.ptns := rfl
@[simp] theorem State.wr_col (r : Reg) (v u sub : Nat) : (s.wr r v u sub).col = s.col := rfl
@[simp] theorem State.wr_sec (r : Reg) (v u sub : Nat) : (s.wr r v u sub).sec = s.sec := rfl
@[simp] theorem State.wr_life (r : Reg) (v u sub : Nat) : (s.wr r v u sub).life = s.life := rfl
@[simp] theorem State.wr_tap (r : Reg) (v u sub : Nat) : (s.wr r v u sub).tap = s.tap := rfl
@[simp] theorem State.wr_startup (r : Reg) (v u sub : Nat) : (s.wr r v u sub).startup = s.startup := rfl
@[simp] theorem State.wr_test (r : Reg) (v u sub : Nat) : (s.wr r v u sub).test = s.test := rfl
@[simp] theorem State.wr_power (r : Reg) (v u sub : Nat) : (s.wr r v u sub).power = s.power := rfl
@[simp] theorem State.wr_dict (r : Reg) (v u sub : Nat) : (s.wr r v u sub).dict = s.dict := rfl
@[simp] theorem State.wr_sox (r : Reg) (v u sub : Nat) : (s.wr r v u sub).sox = s.sox := rfl
@[simp] theorem State.wr_held (r : Reg) (v u sub : Nat) : (s.wr r v u sub).held = s.held := rfl
@[simp] theorem State.wr_heldTiles (r : Reg) (v u sub : Nat) : (s.wr r v u sub).heldTiles = s.heldTiles := rfl
@[simp] theorem State.wr_plots (r : Reg) (v u sub : Nat) : (s.wr r v u sub).plots = s.plots := rfl

@[simp] theorem State.bump_pending (r : Reg) (u sub n : Nat) : (s.bump r u sub n).pending = s.pending := rfl
@[simp] theorem State.bump_sent (r : Reg) (u sub n : Nat) : (s.bump r u sub n).sent = s.sent := rfl
@[simp] theorem State.bump_fresh (r : Reg) (u sub n : Nat) : (s.bump r u sub n).fresh = s.fresh := rfl
@[simp] theorem State.bump_mem (r : Reg) (u sub n : Nat) : (s.bump r u sub n).mem = s.mem := rfl
@[simp] theorem State.bump_poison (r : Reg) (u sub n : Nat) : (s.bump r u sub n).poison = s.poison := rfl
@[simp] theorem State.bump_beat (r : Reg) (u sub n : Nat) : (s.bump r u sub n).beat = s.beat := rfl
@[simp] theorem State.bump_owl (r : Reg) (u sub n : Nat) : (s.bump r u sub n).owl = s.owl := rfl
@[simp] theorem State.bump_sql (r : Reg) (u sub n : Nat) : (s.bump r u sub n).sql = s.sql := rfl
@[simp] theorem State.bump_store (r : Reg) (u sub n : Nat) : (s.bump r u sub n).store = s.store := rfl
@[simp] theorem State.bump_sync (r : Reg) (u sub n : Nat) : (s.bump r u sub n).sync = s.sync := rfl
@[simp] theorem State.bump_jay (r : Reg) (u sub n : Nat) : (s.bump r u sub n).jay = s.jay := rfl
@[simp] theorem State.bump_caches (r : Reg) (u sub n : Nat) : (s.bump r u sub n).caches = s.caches := rfl
@[simp] theorem State.bump_hep (r : Reg) (u sub n : Nat) : (s.bump r u sub n).hep = s.hep := rfl
@[simp] theorem State.bump_qos (r : Reg) (u sub n : Nat) : (s.bump r u sub n).qos = s.qos := rfl
@[simp] theorem State.bump_noc (r : Reg) (u sub n : Nat) : (s.bump r u sub n).noc = s.noc := rfl
@[simp] theorem State.bump_hbm (r : Reg) (u sub n : Nat) : (s.bump r u sub n).hbm = s.hbm := rfl
@[simp] theorem State.bump_coh (r : Reg) (u sub n : Nat) : (s.bump r u sub n).coh = s.coh := rfl
@[simp] theorem State.bump_sites (r : Reg) (u sub n : Nat) : (s.bump r u sub n).sites = s.sites := rfl
@[simp] theorem State.bump_tile (r : Reg) (u sub n : Nat) : (s.bump r u sub n).tile = s.tile := rfl
@[simp] theorem State.bump_wqs (r : Reg) (u sub n : Nat) : (s.bump r u sub n).wqs = s.wqs := rfl
@[simp] theorem State.bump_svc (r : Reg) (u sub n : Nat) : (s.bump r u sub n).svc = s.svc := rfl
@[simp] theorem State.bump_ckpt (r : Reg) (u sub n : Nat) : (s.bump r u sub n).ckpt = s.ckpt := rfl
@[simp] theorem State.bump_ptns (r : Reg) (u sub n : Nat) : (s.bump r u sub n).ptns = s.ptns := rfl
@[simp] theorem State.bump_col (r : Reg) (u sub n : Nat) : (s.bump r u sub n).col = s.col := rfl
@[simp] theorem State.bump_sec (r : Reg) (u sub n : Nat) : (s.bump r u sub n).sec = s.sec := rfl
@[simp] theorem State.bump_life (r : Reg) (u sub n : Nat) : (s.bump r u sub n).life = s.life := rfl
@[simp] theorem State.bump_tap (r : Reg) (u sub n : Nat) : (s.bump r u sub n).tap = s.tap := rfl
@[simp] theorem State.bump_startup (r : Reg) (u sub n : Nat) : (s.bump r u sub n).startup = s.startup := rfl
@[simp] theorem State.bump_test (r : Reg) (u sub n : Nat) : (s.bump r u sub n).test = s.test := rfl
@[simp] theorem State.bump_power (r : Reg) (u sub n : Nat) : (s.bump r u sub n).power = s.power := rfl
@[simp] theorem State.bump_dict (r : Reg) (u sub n : Nat) : (s.bump r u sub n).dict = s.dict := rfl
@[simp] theorem State.bump_sox (r : Reg) (u sub n : Nat) : (s.bump r u sub n).sox = s.sox := rfl
@[simp] theorem State.bump_held (r : Reg) (u sub n : Nat) : (s.bump r u sub n).held = s.held := rfl
@[simp] theorem State.bump_heldTiles (r : Reg) (u sub n : Nat) : (s.bump r u sub n).heldTiles = s.heldTiles := rfl
@[simp] theorem State.bump_plots (r : Reg) (u sub n : Nat) : (s.bump r u sub n).plots = s.plots := rfl

@[simp] theorem State.emit_pending (o : Out) : (s.emit o).pending = s.pending := rfl
@[simp] theorem State.emit_fresh (o : Out) : (s.emit o).fresh = s.fresh := rfl
@[simp] theorem State.emit_regs (o : Out) : (s.emit o).regs = s.regs := rfl
@[simp] theorem State.emit_mem (o : Out) : (s.emit o).mem = s.mem := rfl
@[simp] theorem State.emit_poison (o : Out) : (s.emit o).poison = s.poison := rfl
@[simp] theorem State.emit_beat (o : Out) : (s.emit o).beat = s.beat := rfl
@[simp] theorem State.emit_owl (o : Out) : (s.emit o).owl = s.owl := rfl
@[simp] theorem State.emit_sql (o : Out) : (s.emit o).sql = s.sql := rfl
@[simp] theorem State.emit_store (o : Out) : (s.emit o).store = s.store := rfl
@[simp] theorem State.emit_sync (o : Out) : (s.emit o).sync = s.sync := rfl
@[simp] theorem State.emit_jay (o : Out) : (s.emit o).jay = s.jay := rfl
@[simp] theorem State.emit_caches (o : Out) : (s.emit o).caches = s.caches := rfl
@[simp] theorem State.emit_hep (o : Out) : (s.emit o).hep = s.hep := rfl
@[simp] theorem State.emit_qos (o : Out) : (s.emit o).qos = s.qos := rfl
@[simp] theorem State.emit_noc (o : Out) : (s.emit o).noc = s.noc := rfl
@[simp] theorem State.emit_hbm (o : Out) : (s.emit o).hbm = s.hbm := rfl
@[simp] theorem State.emit_coh (o : Out) : (s.emit o).coh = s.coh := rfl
@[simp] theorem State.emit_sites (o : Out) : (s.emit o).sites = s.sites := rfl
@[simp] theorem State.emit_tile (o : Out) : (s.emit o).tile = s.tile := rfl
@[simp] theorem State.emit_wqs (o : Out) : (s.emit o).wqs = s.wqs := rfl
@[simp] theorem State.emit_svc (o : Out) : (s.emit o).svc = s.svc := rfl
@[simp] theorem State.emit_ckpt (o : Out) : (s.emit o).ckpt = s.ckpt := rfl
@[simp] theorem State.emit_ptns (o : Out) : (s.emit o).ptns = s.ptns := rfl
@[simp] theorem State.emit_col (o : Out) : (s.emit o).col = s.col := rfl
@[simp] theorem State.emit_sec (o : Out) : (s.emit o).sec = s.sec := rfl
@[simp] theorem State.emit_life (o : Out) : (s.emit o).life = s.life := rfl
@[simp] theorem State.emit_tap (o : Out) : (s.emit o).tap = s.tap := rfl
@[simp] theorem State.emit_startup (o : Out) : (s.emit o).startup = s.startup := rfl
@[simp] theorem State.emit_test (o : Out) : (s.emit o).test = s.test := rfl
@[simp] theorem State.emit_power (o : Out) : (s.emit o).power = s.power := rfl
@[simp] theorem State.emit_dict (o : Out) : (s.emit o).dict = s.dict := rfl
@[simp] theorem State.emit_sox (o : Out) : (s.emit o).sox = s.sox := rfl
@[simp] theorem State.emit_held (o : Out) : (s.emit o).held = s.held := rfl
@[simp] theorem State.emit_heldTiles (o : Out) : (s.emit o).heldTiles = s.heldTiles := rfl
@[simp] theorem State.emit_plots (o : Out) : (s.emit o).plots = s.plots := rfl

@[simp] theorem State.emitAll_pending (os : List Out) : (s.emitAll os).pending = s.pending := rfl
@[simp] theorem State.emitAll_fresh (os : List Out) : (s.emitAll os).fresh = s.fresh := rfl
@[simp] theorem State.emitAll_regs (os : List Out) : (s.emitAll os).regs = s.regs := rfl
@[simp] theorem State.emitAll_mem (os : List Out) : (s.emitAll os).mem = s.mem := rfl
@[simp] theorem State.emitAll_poison (os : List Out) : (s.emitAll os).poison = s.poison := rfl
@[simp] theorem State.emitAll_beat (os : List Out) : (s.emitAll os).beat = s.beat := rfl
@[simp] theorem State.emitAll_owl (os : List Out) : (s.emitAll os).owl = s.owl := rfl
@[simp] theorem State.emitAll_sql (os : List Out) : (s.emitAll os).sql = s.sql := rfl
@[simp] theorem State.emitAll_store (os : List Out) : (s.emitAll os).store = s.store := rfl
@[simp] theorem State.emitAll_sync (os : List Out) : (s.emitAll os).sync = s.sync := rfl
@[simp] theorem State.emitAll_jay (os : List Out) : (s.emitAll os).jay = s.jay := rfl
@[simp] theorem State.emitAll_caches (os : List Out) : (s.emitAll os).caches = s.caches := rfl
@[simp] theorem State.emitAll_hep (os : List Out) : (s.emitAll os).hep = s.hep := rfl
@[simp] theorem State.emitAll_qos (os : List Out) : (s.emitAll os).qos = s.qos := rfl
@[simp] theorem State.emitAll_noc (os : List Out) : (s.emitAll os).noc = s.noc := rfl
@[simp] theorem State.emitAll_hbm (os : List Out) : (s.emitAll os).hbm = s.hbm := rfl
@[simp] theorem State.emitAll_coh (os : List Out) : (s.emitAll os).coh = s.coh := rfl
@[simp] theorem State.emitAll_sites (os : List Out) : (s.emitAll os).sites = s.sites := rfl
@[simp] theorem State.emitAll_tile (os : List Out) : (s.emitAll os).tile = s.tile := rfl
@[simp] theorem State.emitAll_wqs (os : List Out) : (s.emitAll os).wqs = s.wqs := rfl
@[simp] theorem State.emitAll_svc (os : List Out) : (s.emitAll os).svc = s.svc := rfl
@[simp] theorem State.emitAll_ckpt (os : List Out) : (s.emitAll os).ckpt = s.ckpt := rfl
@[simp] theorem State.emitAll_ptns (os : List Out) : (s.emitAll os).ptns = s.ptns := rfl
@[simp] theorem State.emitAll_col (os : List Out) : (s.emitAll os).col = s.col := rfl
@[simp] theorem State.emitAll_sec (os : List Out) : (s.emitAll os).sec = s.sec := rfl
@[simp] theorem State.emitAll_life (os : List Out) : (s.emitAll os).life = s.life := rfl
@[simp] theorem State.emitAll_tap (os : List Out) : (s.emitAll os).tap = s.tap := rfl
@[simp] theorem State.emitAll_startup (os : List Out) : (s.emitAll os).startup = s.startup := rfl
@[simp] theorem State.emitAll_test (os : List Out) : (s.emitAll os).test = s.test := rfl
@[simp] theorem State.emitAll_power (os : List Out) : (s.emitAll os).power = s.power := rfl
@[simp] theorem State.emitAll_dict (os : List Out) : (s.emitAll os).dict = s.dict := rfl
@[simp] theorem State.emitAll_sox (os : List Out) : (s.emitAll os).sox = s.sox := rfl
@[simp] theorem State.emitAll_held (os : List Out) : (s.emitAll os).held = s.held := rfl
@[simp] theorem State.emitAll_heldTiles (os : List Out) : (s.emitAll os).heldTiles = s.heldTiles := rfl
@[simp] theorem State.emitAll_plots (os : List Out) : (s.emitAll os).plots = s.plots := rfl

@[simp] theorem State.drawn_pending (n : Nat) : (s.drawn n).pending = s.pending := rfl
@[simp] theorem State.drawn_sent (n : Nat) : (s.drawn n).sent = s.sent := rfl
@[simp] theorem State.drawn_regs (n : Nat) : (s.drawn n).regs = s.regs := rfl
@[simp] theorem State.drawn_mem (n : Nat) : (s.drawn n).mem = s.mem := rfl
@[simp] theorem State.drawn_poison (n : Nat) : (s.drawn n).poison = s.poison := rfl
@[simp] theorem State.drawn_beat (n : Nat) : (s.drawn n).beat = s.beat := rfl
@[simp] theorem State.drawn_owl (n : Nat) : (s.drawn n).owl = s.owl := rfl
@[simp] theorem State.drawn_sql (n : Nat) : (s.drawn n).sql = s.sql := rfl
@[simp] theorem State.drawn_store (n : Nat) : (s.drawn n).store = s.store := rfl
@[simp] theorem State.drawn_sync (n : Nat) : (s.drawn n).sync = s.sync := rfl
@[simp] theorem State.drawn_jay (n : Nat) : (s.drawn n).jay = s.jay := rfl
@[simp] theorem State.drawn_caches (n : Nat) : (s.drawn n).caches = s.caches := rfl
@[simp] theorem State.drawn_hep (n : Nat) : (s.drawn n).hep = s.hep := rfl
@[simp] theorem State.drawn_qos (n : Nat) : (s.drawn n).qos = s.qos := rfl
@[simp] theorem State.drawn_noc (n : Nat) : (s.drawn n).noc = s.noc := rfl
@[simp] theorem State.drawn_hbm (n : Nat) : (s.drawn n).hbm = s.hbm := rfl
@[simp] theorem State.drawn_coh (n : Nat) : (s.drawn n).coh = s.coh := rfl
@[simp] theorem State.drawn_sites (n : Nat) : (s.drawn n).sites = s.sites := rfl
@[simp] theorem State.drawn_tile (n : Nat) : (s.drawn n).tile = s.tile := rfl
@[simp] theorem State.drawn_wqs (n : Nat) : (s.drawn n).wqs = s.wqs := rfl
@[simp] theorem State.drawn_svc (n : Nat) : (s.drawn n).svc = s.svc := rfl
@[simp] theorem State.drawn_ckpt (n : Nat) : (s.drawn n).ckpt = s.ckpt := rfl
@[simp] theorem State.drawn_ptns (n : Nat) : (s.drawn n).ptns = s.ptns := rfl
@[simp] theorem State.drawn_col (n : Nat) : (s.drawn n).col = s.col := rfl
@[simp] theorem State.drawn_sec (n : Nat) : (s.drawn n).sec = s.sec := rfl
@[simp] theorem State.drawn_life (n : Nat) : (s.drawn n).life = s.life := rfl
@[simp] theorem State.drawn_tap (n : Nat) : (s.drawn n).tap = s.tap := rfl
@[simp] theorem State.drawn_startup (n : Nat) : (s.drawn n).startup = s.startup := rfl
@[simp] theorem State.drawn_test (n : Nat) : (s.drawn n).test = s.test := rfl
@[simp] theorem State.drawn_power (n : Nat) : (s.drawn n).power = s.power := rfl
@[simp] theorem State.drawn_dict (n : Nat) : (s.drawn n).dict = s.dict := rfl
@[simp] theorem State.drawn_sox (n : Nat) : (s.drawn n).sox = s.sox := rfl
@[simp] theorem State.drawn_held (n : Nat) : (s.drawn n).held = s.held := rfl
@[simp] theorem State.drawn_heldTiles (n : Nat) : (s.drawn n).heldTiles = s.heldTiles := rfl
@[simp] theorem State.drawn_plots (n : Nat) : (s.drawn n).plots = s.plots := rfl

@[simp] theorem State.setByte_pending (a : Nat) (b : Byte) : (s.setByte a b).pending = s.pending := rfl
@[simp] theorem State.setByte_sent (a : Nat) (b : Byte) : (s.setByte a b).sent = s.sent := rfl
@[simp] theorem State.setByte_fresh (a : Nat) (b : Byte) : (s.setByte a b).fresh = s.fresh := rfl
@[simp] theorem State.setByte_regs (a : Nat) (b : Byte) : (s.setByte a b).regs = s.regs := rfl
@[simp] theorem State.setByte_poison (a : Nat) (b : Byte) : (s.setByte a b).poison = s.poison := rfl
@[simp] theorem State.setByte_beat (a : Nat) (b : Byte) : (s.setByte a b).beat = s.beat := rfl
@[simp] theorem State.setByte_owl (a : Nat) (b : Byte) : (s.setByte a b).owl = s.owl := rfl
@[simp] theorem State.setByte_sql (a : Nat) (b : Byte) : (s.setByte a b).sql = s.sql := rfl
@[simp] theorem State.setByte_store (a : Nat) (b : Byte) : (s.setByte a b).store = s.store := rfl
@[simp] theorem State.setByte_sync (a : Nat) (b : Byte) : (s.setByte a b).sync = s.sync := rfl
@[simp] theorem State.setByte_jay (a : Nat) (b : Byte) : (s.setByte a b).jay = s.jay := rfl
@[simp] theorem State.setByte_caches (a : Nat) (b : Byte) : (s.setByte a b).caches = s.caches := rfl
@[simp] theorem State.setByte_hep (a : Nat) (b : Byte) : (s.setByte a b).hep = s.hep := rfl
@[simp] theorem State.setByte_qos (a : Nat) (b : Byte) : (s.setByte a b).qos = s.qos := rfl
@[simp] theorem State.setByte_noc (a : Nat) (b : Byte) : (s.setByte a b).noc = s.noc := rfl
@[simp] theorem State.setByte_hbm (a : Nat) (b : Byte) : (s.setByte a b).hbm = s.hbm := rfl
@[simp] theorem State.setByte_coh (a : Nat) (b : Byte) : (s.setByte a b).coh = s.coh := rfl
@[simp] theorem State.setByte_sites (a : Nat) (b : Byte) : (s.setByte a b).sites = s.sites := rfl
@[simp] theorem State.setByte_tile (a : Nat) (b : Byte) : (s.setByte a b).tile = s.tile := rfl
@[simp] theorem State.setByte_wqs (a : Nat) (b : Byte) : (s.setByte a b).wqs = s.wqs := rfl
@[simp] theorem State.setByte_svc (a : Nat) (b : Byte) : (s.setByte a b).svc = s.svc := rfl
@[simp] theorem State.setByte_ckpt (a : Nat) (b : Byte) : (s.setByte a b).ckpt = s.ckpt := rfl
@[simp] theorem State.setByte_ptns (a : Nat) (b : Byte) : (s.setByte a b).ptns = s.ptns := rfl
@[simp] theorem State.setByte_col (a : Nat) (b : Byte) : (s.setByte a b).col = s.col := rfl
@[simp] theorem State.setByte_sec (a : Nat) (b : Byte) : (s.setByte a b).sec = s.sec := rfl
@[simp] theorem State.setByte_life (a : Nat) (b : Byte) : (s.setByte a b).life = s.life := rfl
@[simp] theorem State.setByte_tap (a : Nat) (b : Byte) : (s.setByte a b).tap = s.tap := rfl
@[simp] theorem State.setByte_startup (a : Nat) (b : Byte) : (s.setByte a b).startup = s.startup := rfl
@[simp] theorem State.setByte_test (a : Nat) (b : Byte) : (s.setByte a b).test = s.test := rfl
@[simp] theorem State.setByte_power (a : Nat) (b : Byte) : (s.setByte a b).power = s.power := rfl
@[simp] theorem State.setByte_dict (a : Nat) (b : Byte) : (s.setByte a b).dict = s.dict := rfl
@[simp] theorem State.setByte_sox (a : Nat) (b : Byte) : (s.setByte a b).sox = s.sox := rfl
@[simp] theorem State.setByte_held (a : Nat) (b : Byte) : (s.setByte a b).held = s.held := rfl
@[simp] theorem State.setByte_heldTiles (a : Nat) (b : Byte) : (s.setByte a b).heldTiles = s.heldTiles := rfl
@[simp] theorem State.setByte_plots (a : Nat) (b : Byte) : (s.setByte a b).plots = s.plots := rfl

@[simp] theorem State.putBytes_pending (a : Nat) (bs : List Byte) : (s.putBytes a bs).pending = s.pending := rfl
@[simp] theorem State.putBytes_sent (a : Nat) (bs : List Byte) : (s.putBytes a bs).sent = s.sent := rfl
@[simp] theorem State.putBytes_fresh (a : Nat) (bs : List Byte) : (s.putBytes a bs).fresh = s.fresh := rfl
@[simp] theorem State.putBytes_regs (a : Nat) (bs : List Byte) : (s.putBytes a bs).regs = s.regs := rfl
@[simp] theorem State.putBytes_poison (a : Nat) (bs : List Byte) : (s.putBytes a bs).poison = s.poison := rfl
@[simp] theorem State.putBytes_beat (a : Nat) (bs : List Byte) : (s.putBytes a bs).beat = s.beat := rfl
@[simp] theorem State.putBytes_owl (a : Nat) (bs : List Byte) : (s.putBytes a bs).owl = s.owl := rfl
@[simp] theorem State.putBytes_sql (a : Nat) (bs : List Byte) : (s.putBytes a bs).sql = s.sql := rfl
@[simp] theorem State.putBytes_store (a : Nat) (bs : List Byte) : (s.putBytes a bs).store = s.store := rfl
@[simp] theorem State.putBytes_sync (a : Nat) (bs : List Byte) : (s.putBytes a bs).sync = s.sync := rfl
@[simp] theorem State.putBytes_jay (a : Nat) (bs : List Byte) : (s.putBytes a bs).jay = s.jay := rfl
@[simp] theorem State.putBytes_caches (a : Nat) (bs : List Byte) : (s.putBytes a bs).caches = s.caches := rfl
@[simp] theorem State.putBytes_hep (a : Nat) (bs : List Byte) : (s.putBytes a bs).hep = s.hep := rfl
@[simp] theorem State.putBytes_qos (a : Nat) (bs : List Byte) : (s.putBytes a bs).qos = s.qos := rfl
@[simp] theorem State.putBytes_noc (a : Nat) (bs : List Byte) : (s.putBytes a bs).noc = s.noc := rfl
@[simp] theorem State.putBytes_hbm (a : Nat) (bs : List Byte) : (s.putBytes a bs).hbm = s.hbm := rfl
@[simp] theorem State.putBytes_coh (a : Nat) (bs : List Byte) : (s.putBytes a bs).coh = s.coh := rfl
@[simp] theorem State.putBytes_sites (a : Nat) (bs : List Byte) : (s.putBytes a bs).sites = s.sites := rfl
@[simp] theorem State.putBytes_tile (a : Nat) (bs : List Byte) : (s.putBytes a bs).tile = s.tile := rfl
@[simp] theorem State.putBytes_wqs (a : Nat) (bs : List Byte) : (s.putBytes a bs).wqs = s.wqs := rfl
@[simp] theorem State.putBytes_svc (a : Nat) (bs : List Byte) : (s.putBytes a bs).svc = s.svc := rfl
@[simp] theorem State.putBytes_ckpt (a : Nat) (bs : List Byte) : (s.putBytes a bs).ckpt = s.ckpt := rfl
@[simp] theorem State.putBytes_ptns (a : Nat) (bs : List Byte) : (s.putBytes a bs).ptns = s.ptns := rfl
@[simp] theorem State.putBytes_col (a : Nat) (bs : List Byte) : (s.putBytes a bs).col = s.col := rfl
@[simp] theorem State.putBytes_sec (a : Nat) (bs : List Byte) : (s.putBytes a bs).sec = s.sec := rfl
@[simp] theorem State.putBytes_life (a : Nat) (bs : List Byte) : (s.putBytes a bs).life = s.life := rfl
@[simp] theorem State.putBytes_tap (a : Nat) (bs : List Byte) : (s.putBytes a bs).tap = s.tap := rfl
@[simp] theorem State.putBytes_startup (a : Nat) (bs : List Byte) : (s.putBytes a bs).startup = s.startup := rfl
@[simp] theorem State.putBytes_test (a : Nat) (bs : List Byte) : (s.putBytes a bs).test = s.test := rfl
@[simp] theorem State.putBytes_power (a : Nat) (bs : List Byte) : (s.putBytes a bs).power = s.power := rfl
@[simp] theorem State.putBytes_dict (a : Nat) (bs : List Byte) : (s.putBytes a bs).dict = s.dict := rfl
@[simp] theorem State.putBytes_sox (a : Nat) (bs : List Byte) : (s.putBytes a bs).sox = s.sox := rfl
@[simp] theorem State.putBytes_held (a : Nat) (bs : List Byte) : (s.putBytes a bs).held = s.held := rfl
@[simp] theorem State.putBytes_heldTiles (a : Nat) (bs : List Byte) : (s.putBytes a bs).heldTiles = s.heldTiles := rfl
@[simp] theorem State.putBytes_plots (a : Nat) (bs : List Byte) : (s.putBytes a bs).plots = s.plots := rfl

@[simp] theorem State.setWq_pending (p q : Nat) (w : Wq) : (s.setWq p q w).pending = s.pending := rfl
@[simp] theorem State.setWq_sent (p q : Nat) (w : Wq) : (s.setWq p q w).sent = s.sent := rfl
@[simp] theorem State.setWq_fresh (p q : Nat) (w : Wq) : (s.setWq p q w).fresh = s.fresh := rfl
@[simp] theorem State.setWq_regs (p q : Nat) (w : Wq) : (s.setWq p q w).regs = s.regs := rfl
@[simp] theorem State.setWq_mem (p q : Nat) (w : Wq) : (s.setWq p q w).mem = s.mem := rfl
@[simp] theorem State.setWq_poison (p q : Nat) (w : Wq) : (s.setWq p q w).poison = s.poison := rfl
@[simp] theorem State.setWq_beat (p q : Nat) (w : Wq) : (s.setWq p q w).beat = s.beat := rfl
@[simp] theorem State.setWq_owl (p q : Nat) (w : Wq) : (s.setWq p q w).owl = s.owl := rfl
@[simp] theorem State.setWq_sql (p q : Nat) (w : Wq) : (s.setWq p q w).sql = s.sql := rfl
@[simp] theorem State.setWq_store (p q : Nat) (w : Wq) : (s.setWq p q w).store = s.store := rfl
@[simp] theorem State.setWq_sync (p q : Nat) (w : Wq) : (s.setWq p q w).sync = s.sync := rfl
@[simp] theorem State.setWq_jay (p q : Nat) (w : Wq) : (s.setWq p q w).jay = s.jay := rfl
@[simp] theorem State.setWq_caches (p q : Nat) (w : Wq) : (s.setWq p q w).caches = s.caches := rfl
@[simp] theorem State.setWq_hep (p q : Nat) (w : Wq) : (s.setWq p q w).hep = s.hep := rfl
@[simp] theorem State.setWq_qos (p q : Nat) (w : Wq) : (s.setWq p q w).qos = s.qos := rfl
@[simp] theorem State.setWq_noc (p q : Nat) (w : Wq) : (s.setWq p q w).noc = s.noc := rfl
@[simp] theorem State.setWq_hbm (p q : Nat) (w : Wq) : (s.setWq p q w).hbm = s.hbm := rfl
@[simp] theorem State.setWq_coh (p q : Nat) (w : Wq) : (s.setWq p q w).coh = s.coh := rfl
@[simp] theorem State.setWq_sites (p q : Nat) (w : Wq) : (s.setWq p q w).sites = s.sites := rfl
@[simp] theorem State.setWq_tile (p q : Nat) (w : Wq) : (s.setWq p q w).tile = s.tile := rfl
@[simp] theorem State.setWq_svc (p q : Nat) (w : Wq) : (s.setWq p q w).svc = s.svc := rfl
@[simp] theorem State.setWq_ckpt (p q : Nat) (w : Wq) : (s.setWq p q w).ckpt = s.ckpt := rfl
@[simp] theorem State.setWq_ptns (p q : Nat) (w : Wq) : (s.setWq p q w).ptns = s.ptns := rfl
@[simp] theorem State.setWq_col (p q : Nat) (w : Wq) : (s.setWq p q w).col = s.col := rfl
@[simp] theorem State.setWq_sec (p q : Nat) (w : Wq) : (s.setWq p q w).sec = s.sec := rfl
@[simp] theorem State.setWq_life (p q : Nat) (w : Wq) : (s.setWq p q w).life = s.life := rfl
@[simp] theorem State.setWq_tap (p q : Nat) (w : Wq) : (s.setWq p q w).tap = s.tap := rfl
@[simp] theorem State.setWq_startup (p q : Nat) (w : Wq) : (s.setWq p q w).startup = s.startup := rfl
@[simp] theorem State.setWq_test (p q : Nat) (w : Wq) : (s.setWq p q w).test = s.test := rfl
@[simp] theorem State.setWq_power (p q : Nat) (w : Wq) : (s.setWq p q w).power = s.power := rfl
@[simp] theorem State.setWq_dict (p q : Nat) (w : Wq) : (s.setWq p q w).dict = s.dict := rfl
@[simp] theorem State.setWq_sox (p q : Nat) (w : Wq) : (s.setWq p q w).sox = s.sox := rfl
@[simp] theorem State.setWq_held (p q : Nat) (w : Wq) : (s.setWq p q w).held = s.held := rfl
@[simp] theorem State.setWq_heldTiles (p q : Nat) (w : Wq) : (s.setWq p q w).heldTiles = s.heldTiles := rfl
@[simp] theorem State.setWq_plots (p q : Nat) (w : Wq) : (s.setWq p q w).plots = s.plots := rfl

@[simp] theorem State.setStrand_pending (t n : Nat) (x : Strand) : (s.setStrand t n x).pending = s.pending := rfl
@[simp] theorem State.setStrand_sent (t n : Nat) (x : Strand) : (s.setStrand t n x).sent = s.sent := rfl
@[simp] theorem State.setStrand_fresh (t n : Nat) (x : Strand) : (s.setStrand t n x).fresh = s.fresh := rfl
@[simp] theorem State.setStrand_regs (t n : Nat) (x : Strand) : (s.setStrand t n x).regs = s.regs := rfl
@[simp] theorem State.setStrand_mem (t n : Nat) (x : Strand) : (s.setStrand t n x).mem = s.mem := rfl
@[simp] theorem State.setStrand_poison (t n : Nat) (x : Strand) : (s.setStrand t n x).poison = s.poison := rfl
@[simp] theorem State.setStrand_beat (t n : Nat) (x : Strand) : (s.setStrand t n x).beat = s.beat := rfl
@[simp] theorem State.setStrand_owl (t n : Nat) (x : Strand) : (s.setStrand t n x).owl = s.owl := rfl
@[simp] theorem State.setStrand_sql (t n : Nat) (x : Strand) : (s.setStrand t n x).sql = s.sql := rfl
@[simp] theorem State.setStrand_store (t n : Nat) (x : Strand) : (s.setStrand t n x).store = s.store := rfl
@[simp] theorem State.setStrand_sync (t n : Nat) (x : Strand) : (s.setStrand t n x).sync = s.sync := rfl
@[simp] theorem State.setStrand_jay (t n : Nat) (x : Strand) : (s.setStrand t n x).jay = s.jay := rfl
@[simp] theorem State.setStrand_caches (t n : Nat) (x : Strand) : (s.setStrand t n x).caches = s.caches := rfl
@[simp] theorem State.setStrand_hep (t n : Nat) (x : Strand) : (s.setStrand t n x).hep = s.hep := rfl
@[simp] theorem State.setStrand_qos (t n : Nat) (x : Strand) : (s.setStrand t n x).qos = s.qos := rfl
@[simp] theorem State.setStrand_noc (t n : Nat) (x : Strand) : (s.setStrand t n x).noc = s.noc := rfl
@[simp] theorem State.setStrand_hbm (t n : Nat) (x : Strand) : (s.setStrand t n x).hbm = s.hbm := rfl
@[simp] theorem State.setStrand_coh (t n : Nat) (x : Strand) : (s.setStrand t n x).coh = s.coh := rfl
@[simp] theorem State.setStrand_sites (t n : Nat) (x : Strand) : (s.setStrand t n x).sites = s.sites := rfl
@[simp] theorem State.setStrand_wqs (t n : Nat) (x : Strand) : (s.setStrand t n x).wqs = s.wqs := rfl
@[simp] theorem State.setStrand_svc (t n : Nat) (x : Strand) : (s.setStrand t n x).svc = s.svc := rfl
@[simp] theorem State.setStrand_ckpt (t n : Nat) (x : Strand) : (s.setStrand t n x).ckpt = s.ckpt := rfl
@[simp] theorem State.setStrand_ptns (t n : Nat) (x : Strand) : (s.setStrand t n x).ptns = s.ptns := rfl
@[simp] theorem State.setStrand_col (t n : Nat) (x : Strand) : (s.setStrand t n x).col = s.col := rfl
@[simp] theorem State.setStrand_sec (t n : Nat) (x : Strand) : (s.setStrand t n x).sec = s.sec := rfl
@[simp] theorem State.setStrand_life (t n : Nat) (x : Strand) : (s.setStrand t n x).life = s.life := rfl
@[simp] theorem State.setStrand_tap (t n : Nat) (x : Strand) : (s.setStrand t n x).tap = s.tap := rfl
@[simp] theorem State.setStrand_startup (t n : Nat) (x : Strand) : (s.setStrand t n x).startup = s.startup := rfl
@[simp] theorem State.setStrand_test (t n : Nat) (x : Strand) : (s.setStrand t n x).test = s.test := rfl
@[simp] theorem State.setStrand_power (t n : Nat) (x : Strand) : (s.setStrand t n x).power = s.power := rfl
@[simp] theorem State.setStrand_dict (t n : Nat) (x : Strand) : (s.setStrand t n x).dict = s.dict := rfl
@[simp] theorem State.setStrand_sox (t n : Nat) (x : Strand) : (s.setStrand t n x).sox = s.sox := rfl
@[simp] theorem State.setStrand_held (t n : Nat) (x : Strand) : (s.setStrand t n x).held = s.held := rfl
@[simp] theorem State.setStrand_heldTiles (t n : Nat) (x : Strand) : (s.setStrand t n x).heldTiles = s.heldTiles := rfl
@[simp] theorem State.setStrand_plots (t n : Nat) (x : Strand) : (s.setStrand t n x).plots = s.plots := rfl

@[simp] theorem State.setPtn_pending (p : Nat) (x : Ptn) : (s.setPtn p x).pending = s.pending := rfl
@[simp] theorem State.setPtn_sent (p : Nat) (x : Ptn) : (s.setPtn p x).sent = s.sent := rfl
@[simp] theorem State.setPtn_fresh (p : Nat) (x : Ptn) : (s.setPtn p x).fresh = s.fresh := rfl
@[simp] theorem State.setPtn_regs (p : Nat) (x : Ptn) : (s.setPtn p x).regs = s.regs := rfl
@[simp] theorem State.setPtn_mem (p : Nat) (x : Ptn) : (s.setPtn p x).mem = s.mem := rfl
@[simp] theorem State.setPtn_poison (p : Nat) (x : Ptn) : (s.setPtn p x).poison = s.poison := rfl
@[simp] theorem State.setPtn_beat (p : Nat) (x : Ptn) : (s.setPtn p x).beat = s.beat := rfl
@[simp] theorem State.setPtn_owl (p : Nat) (x : Ptn) : (s.setPtn p x).owl = s.owl := rfl
@[simp] theorem State.setPtn_sql (p : Nat) (x : Ptn) : (s.setPtn p x).sql = s.sql := rfl
@[simp] theorem State.setPtn_store (p : Nat) (x : Ptn) : (s.setPtn p x).store = s.store := rfl
@[simp] theorem State.setPtn_sync (p : Nat) (x : Ptn) : (s.setPtn p x).sync = s.sync := rfl
@[simp] theorem State.setPtn_jay (p : Nat) (x : Ptn) : (s.setPtn p x).jay = s.jay := rfl
@[simp] theorem State.setPtn_caches (p : Nat) (x : Ptn) : (s.setPtn p x).caches = s.caches := rfl
@[simp] theorem State.setPtn_hep (p : Nat) (x : Ptn) : (s.setPtn p x).hep = s.hep := rfl
@[simp] theorem State.setPtn_qos (p : Nat) (x : Ptn) : (s.setPtn p x).qos = s.qos := rfl
@[simp] theorem State.setPtn_noc (p : Nat) (x : Ptn) : (s.setPtn p x).noc = s.noc := rfl
@[simp] theorem State.setPtn_hbm (p : Nat) (x : Ptn) : (s.setPtn p x).hbm = s.hbm := rfl
@[simp] theorem State.setPtn_coh (p : Nat) (x : Ptn) : (s.setPtn p x).coh = s.coh := rfl
@[simp] theorem State.setPtn_sites (p : Nat) (x : Ptn) : (s.setPtn p x).sites = s.sites := rfl
@[simp] theorem State.setPtn_tile (p : Nat) (x : Ptn) : (s.setPtn p x).tile = s.tile := rfl
@[simp] theorem State.setPtn_wqs (p : Nat) (x : Ptn) : (s.setPtn p x).wqs = s.wqs := rfl
@[simp] theorem State.setPtn_svc (p : Nat) (x : Ptn) : (s.setPtn p x).svc = s.svc := rfl
@[simp] theorem State.setPtn_ckpt (p : Nat) (x : Ptn) : (s.setPtn p x).ckpt = s.ckpt := rfl
@[simp] theorem State.setPtn_col (p : Nat) (x : Ptn) : (s.setPtn p x).col = s.col := rfl
@[simp] theorem State.setPtn_sec (p : Nat) (x : Ptn) : (s.setPtn p x).sec = s.sec := rfl
@[simp] theorem State.setPtn_life (p : Nat) (x : Ptn) : (s.setPtn p x).life = s.life := rfl
@[simp] theorem State.setPtn_tap (p : Nat) (x : Ptn) : (s.setPtn p x).tap = s.tap := rfl
@[simp] theorem State.setPtn_startup (p : Nat) (x : Ptn) : (s.setPtn p x).startup = s.startup := rfl
@[simp] theorem State.setPtn_test (p : Nat) (x : Ptn) : (s.setPtn p x).test = s.test := rfl
@[simp] theorem State.setPtn_power (p : Nat) (x : Ptn) : (s.setPtn p x).power = s.power := rfl
@[simp] theorem State.setPtn_dict (p : Nat) (x : Ptn) : (s.setPtn p x).dict = s.dict := rfl
@[simp] theorem State.setPtn_sox (p : Nat) (x : Ptn) : (s.setPtn p x).sox = s.sox := rfl
@[simp] theorem State.setPtn_held (p : Nat) (x : Ptn) : (s.setPtn p x).held = s.held := rfl
@[simp] theorem State.setPtn_heldTiles (p : Nat) (x : Ptn) : (s.setPtn p x).heldTiles = s.heldTiles := rfl
@[simp] theorem State.setPtn_plots (p : Nat) (x : Ptn) : (s.setPtn p x).plots = s.plots := rfl

@[simp] theorem State.setSite_pending (k : Nat) (x : Site) : (s.setSite k x).pending = s.pending := rfl
@[simp] theorem State.setSite_sent (k : Nat) (x : Site) : (s.setSite k x).sent = s.sent := rfl
@[simp] theorem State.setSite_fresh (k : Nat) (x : Site) : (s.setSite k x).fresh = s.fresh := rfl
@[simp] theorem State.setSite_regs (k : Nat) (x : Site) : (s.setSite k x).regs = s.regs := rfl
@[simp] theorem State.setSite_mem (k : Nat) (x : Site) : (s.setSite k x).mem = s.mem := rfl
@[simp] theorem State.setSite_poison (k : Nat) (x : Site) : (s.setSite k x).poison = s.poison := rfl
@[simp] theorem State.setSite_beat (k : Nat) (x : Site) : (s.setSite k x).beat = s.beat := rfl
@[simp] theorem State.setSite_owl (k : Nat) (x : Site) : (s.setSite k x).owl = s.owl := rfl
@[simp] theorem State.setSite_sql (k : Nat) (x : Site) : (s.setSite k x).sql = s.sql := rfl
@[simp] theorem State.setSite_store (k : Nat) (x : Site) : (s.setSite k x).store = s.store := rfl
@[simp] theorem State.setSite_sync (k : Nat) (x : Site) : (s.setSite k x).sync = s.sync := rfl
@[simp] theorem State.setSite_jay (k : Nat) (x : Site) : (s.setSite k x).jay = s.jay := rfl
@[simp] theorem State.setSite_caches (k : Nat) (x : Site) : (s.setSite k x).caches = s.caches := rfl
@[simp] theorem State.setSite_hep (k : Nat) (x : Site) : (s.setSite k x).hep = s.hep := rfl
@[simp] theorem State.setSite_qos (k : Nat) (x : Site) : (s.setSite k x).qos = s.qos := rfl
@[simp] theorem State.setSite_noc (k : Nat) (x : Site) : (s.setSite k x).noc = s.noc := rfl
@[simp] theorem State.setSite_hbm (k : Nat) (x : Site) : (s.setSite k x).hbm = s.hbm := rfl
@[simp] theorem State.setSite_coh (k : Nat) (x : Site) : (s.setSite k x).coh = s.coh := rfl
@[simp] theorem State.setSite_tile (k : Nat) (x : Site) : (s.setSite k x).tile = s.tile := rfl
@[simp] theorem State.setSite_wqs (k : Nat) (x : Site) : (s.setSite k x).wqs = s.wqs := rfl
@[simp] theorem State.setSite_svc (k : Nat) (x : Site) : (s.setSite k x).svc = s.svc := rfl
@[simp] theorem State.setSite_ckpt (k : Nat) (x : Site) : (s.setSite k x).ckpt = s.ckpt := rfl
@[simp] theorem State.setSite_ptns (k : Nat) (x : Site) : (s.setSite k x).ptns = s.ptns := rfl
@[simp] theorem State.setSite_col (k : Nat) (x : Site) : (s.setSite k x).col = s.col := rfl
@[simp] theorem State.setSite_sec (k : Nat) (x : Site) : (s.setSite k x).sec = s.sec := rfl
@[simp] theorem State.setSite_life (k : Nat) (x : Site) : (s.setSite k x).life = s.life := rfl
@[simp] theorem State.setSite_tap (k : Nat) (x : Site) : (s.setSite k x).tap = s.tap := rfl
@[simp] theorem State.setSite_startup (k : Nat) (x : Site) : (s.setSite k x).startup = s.startup := rfl
@[simp] theorem State.setSite_test (k : Nat) (x : Site) : (s.setSite k x).test = s.test := rfl
@[simp] theorem State.setSite_power (k : Nat) (x : Site) : (s.setSite k x).power = s.power := rfl
@[simp] theorem State.setSite_dict (k : Nat) (x : Site) : (s.setSite k x).dict = s.dict := rfl
@[simp] theorem State.setSite_sox (k : Nat) (x : Site) : (s.setSite k x).sox = s.sox := rfl
@[simp] theorem State.setSite_held (k : Nat) (x : Site) : (s.setSite k x).held = s.held := rfl
@[simp] theorem State.setSite_heldTiles (k : Nat) (x : Site) : (s.setSite k x).heldTiles = s.heldTiles := rfl
@[simp] theorem State.setSite_plots (k : Nat) (x : Site) : (s.setSite k x).plots = s.plots := rfl

@[simp] theorem State.setConn_pending (n : Nat) (c : Conn) : (s.setConn n c).pending = s.pending := rfl
@[simp] theorem State.setConn_sent (n : Nat) (c : Conn) : (s.setConn n c).sent = s.sent := rfl
@[simp] theorem State.setConn_fresh (n : Nat) (c : Conn) : (s.setConn n c).fresh = s.fresh := rfl
@[simp] theorem State.setConn_regs (n : Nat) (c : Conn) : (s.setConn n c).regs = s.regs := rfl
@[simp] theorem State.setConn_mem (n : Nat) (c : Conn) : (s.setConn n c).mem = s.mem := rfl
@[simp] theorem State.setConn_poison (n : Nat) (c : Conn) : (s.setConn n c).poison = s.poison := rfl
@[simp] theorem State.setConn_beat (n : Nat) (c : Conn) : (s.setConn n c).beat = s.beat := rfl
@[simp] theorem State.setConn_owl (n : Nat) (c : Conn) : (s.setConn n c).owl = s.owl := rfl
@[simp] theorem State.setConn_sql (n : Nat) (c : Conn) : (s.setConn n c).sql = s.sql := rfl
@[simp] theorem State.setConn_store (n : Nat) (c : Conn) : (s.setConn n c).store = s.store := rfl
@[simp] theorem State.setConn_sync (n : Nat) (c : Conn) : (s.setConn n c).sync = s.sync := rfl
@[simp] theorem State.setConn_jay (n : Nat) (c : Conn) : (s.setConn n c).jay = s.jay := rfl
@[simp] theorem State.setConn_caches (n : Nat) (c : Conn) : (s.setConn n c).caches = s.caches := rfl
@[simp] theorem State.setConn_hep (n : Nat) (c : Conn) : (s.setConn n c).hep = s.hep := rfl
@[simp] theorem State.setConn_qos (n : Nat) (c : Conn) : (s.setConn n c).qos = s.qos := rfl
@[simp] theorem State.setConn_noc (n : Nat) (c : Conn) : (s.setConn n c).noc = s.noc := rfl
@[simp] theorem State.setConn_hbm (n : Nat) (c : Conn) : (s.setConn n c).hbm = s.hbm := rfl
@[simp] theorem State.setConn_coh (n : Nat) (c : Conn) : (s.setConn n c).coh = s.coh := rfl
@[simp] theorem State.setConn_sites (n : Nat) (c : Conn) : (s.setConn n c).sites = s.sites := rfl
@[simp] theorem State.setConn_tile (n : Nat) (c : Conn) : (s.setConn n c).tile = s.tile := rfl
@[simp] theorem State.setConn_wqs (n : Nat) (c : Conn) : (s.setConn n c).wqs = s.wqs := rfl
@[simp] theorem State.setConn_svc (n : Nat) (c : Conn) : (s.setConn n c).svc = s.svc := rfl
@[simp] theorem State.setConn_ckpt (n : Nat) (c : Conn) : (s.setConn n c).ckpt = s.ckpt := rfl
@[simp] theorem State.setConn_ptns (n : Nat) (c : Conn) : (s.setConn n c).ptns = s.ptns := rfl
@[simp] theorem State.setConn_col (n : Nat) (c : Conn) : (s.setConn n c).col = s.col := rfl
@[simp] theorem State.setConn_sec (n : Nat) (c : Conn) : (s.setConn n c).sec = s.sec := rfl
@[simp] theorem State.setConn_life (n : Nat) (c : Conn) : (s.setConn n c).life = s.life := rfl
@[simp] theorem State.setConn_tap (n : Nat) (c : Conn) : (s.setConn n c).tap = s.tap := rfl
@[simp] theorem State.setConn_startup (n : Nat) (c : Conn) : (s.setConn n c).startup = s.startup := rfl
@[simp] theorem State.setConn_test (n : Nat) (c : Conn) : (s.setConn n c).test = s.test := rfl
@[simp] theorem State.setConn_power (n : Nat) (c : Conn) : (s.setConn n c).power = s.power := rfl
@[simp] theorem State.setConn_dict (n : Nat) (c : Conn) : (s.setConn n c).dict = s.dict := rfl
@[simp] theorem State.setConn_held (n : Nat) (c : Conn) : (s.setConn n c).held = s.held := rfl
@[simp] theorem State.setConn_heldTiles (n : Nat) (c : Conn) : (s.setConn n c).heldTiles = s.heldTiles := rfl
@[simp] theorem State.setConn_plots (n : Nat) (c : Conn) : (s.setConn n c).plots = s.plots := rfl

@[simp] theorem State.setTracker_pending (id : Nat) (k : Tracker) : (s.setTracker id k).pending = s.pending := rfl
@[simp] theorem State.setTracker_sent (id : Nat) (k : Tracker) : (s.setTracker id k).sent = s.sent := rfl
@[simp] theorem State.setTracker_fresh (id : Nat) (k : Tracker) : (s.setTracker id k).fresh = s.fresh := rfl
@[simp] theorem State.setTracker_regs (id : Nat) (k : Tracker) : (s.setTracker id k).regs = s.regs := rfl
@[simp] theorem State.setTracker_mem (id : Nat) (k : Tracker) : (s.setTracker id k).mem = s.mem := rfl
@[simp] theorem State.setTracker_poison (id : Nat) (k : Tracker) : (s.setTracker id k).poison = s.poison := rfl
@[simp] theorem State.setTracker_beat (id : Nat) (k : Tracker) : (s.setTracker id k).beat = s.beat := rfl
@[simp] theorem State.setTracker_owl (id : Nat) (k : Tracker) : (s.setTracker id k).owl = s.owl := rfl
@[simp] theorem State.setTracker_sql (id : Nat) (k : Tracker) : (s.setTracker id k).sql = s.sql := rfl
@[simp] theorem State.setTracker_store (id : Nat) (k : Tracker) : (s.setTracker id k).store = s.store := rfl
@[simp] theorem State.setTracker_sync (id : Nat) (k : Tracker) : (s.setTracker id k).sync = s.sync := rfl
@[simp] theorem State.setTracker_jay (id : Nat) (k : Tracker) : (s.setTracker id k).jay = s.jay := rfl
@[simp] theorem State.setTracker_caches (id : Nat) (k : Tracker) : (s.setTracker id k).caches = s.caches := rfl
@[simp] theorem State.setTracker_hep (id : Nat) (k : Tracker) : (s.setTracker id k).hep = s.hep := rfl
@[simp] theorem State.setTracker_qos (id : Nat) (k : Tracker) : (s.setTracker id k).qos = s.qos := rfl
@[simp] theorem State.setTracker_hbm (id : Nat) (k : Tracker) : (s.setTracker id k).hbm = s.hbm := rfl
@[simp] theorem State.setTracker_coh (id : Nat) (k : Tracker) : (s.setTracker id k).coh = s.coh := rfl
@[simp] theorem State.setTracker_sites (id : Nat) (k : Tracker) : (s.setTracker id k).sites = s.sites := rfl
@[simp] theorem State.setTracker_tile (id : Nat) (k : Tracker) : (s.setTracker id k).tile = s.tile := rfl
@[simp] theorem State.setTracker_wqs (id : Nat) (k : Tracker) : (s.setTracker id k).wqs = s.wqs := rfl
@[simp] theorem State.setTracker_svc (id : Nat) (k : Tracker) : (s.setTracker id k).svc = s.svc := rfl
@[simp] theorem State.setTracker_ckpt (id : Nat) (k : Tracker) : (s.setTracker id k).ckpt = s.ckpt := rfl
@[simp] theorem State.setTracker_ptns (id : Nat) (k : Tracker) : (s.setTracker id k).ptns = s.ptns := rfl
@[simp] theorem State.setTracker_col (id : Nat) (k : Tracker) : (s.setTracker id k).col = s.col := rfl
@[simp] theorem State.setTracker_sec (id : Nat) (k : Tracker) : (s.setTracker id k).sec = s.sec := rfl
@[simp] theorem State.setTracker_life (id : Nat) (k : Tracker) : (s.setTracker id k).life = s.life := rfl
@[simp] theorem State.setTracker_tap (id : Nat) (k : Tracker) : (s.setTracker id k).tap = s.tap := rfl
@[simp] theorem State.setTracker_startup (id : Nat) (k : Tracker) : (s.setTracker id k).startup = s.startup := rfl
@[simp] theorem State.setTracker_test (id : Nat) (k : Tracker) : (s.setTracker id k).test = s.test := rfl
@[simp] theorem State.setTracker_power (id : Nat) (k : Tracker) : (s.setTracker id k).power = s.power := rfl
@[simp] theorem State.setTracker_dict (id : Nat) (k : Tracker) : (s.setTracker id k).dict = s.dict := rfl
@[simp] theorem State.setTracker_sox (id : Nat) (k : Tracker) : (s.setTracker id k).sox = s.sox := rfl
@[simp] theorem State.setTracker_held (id : Nat) (k : Tracker) : (s.setTracker id k).held = s.held := rfl
@[simp] theorem State.setTracker_heldTiles (id : Nat) (k : Tracker) : (s.setTracker id k).heldTiles = s.heldTiles := rfl
@[simp] theorem State.setTracker_plots (id : Nat) (k : Tracker) : (s.setTracker id k).plots = s.plots := rfl

@[simp] theorem State.setTxn_pending (t : Txn) : (s.setTxn t).pending = s.pending := rfl
@[simp] theorem State.setTxn_sent (t : Txn) : (s.setTxn t).sent = s.sent := rfl
@[simp] theorem State.setTxn_fresh (t : Txn) : (s.setTxn t).fresh = s.fresh := rfl
@[simp] theorem State.setTxn_regs (t : Txn) : (s.setTxn t).regs = s.regs := rfl
@[simp] theorem State.setTxn_mem (t : Txn) : (s.setTxn t).mem = s.mem := rfl
@[simp] theorem State.setTxn_poison (t : Txn) : (s.setTxn t).poison = s.poison := rfl
@[simp] theorem State.setTxn_beat (t : Txn) : (s.setTxn t).beat = s.beat := rfl
@[simp] theorem State.setTxn_owl (t : Txn) : (s.setTxn t).owl = s.owl := rfl
@[simp] theorem State.setTxn_sql (t : Txn) : (s.setTxn t).sql = s.sql := rfl
@[simp] theorem State.setTxn_store (t : Txn) : (s.setTxn t).store = s.store := rfl
@[simp] theorem State.setTxn_sync (t : Txn) : (s.setTxn t).sync = s.sync := rfl
@[simp] theorem State.setTxn_jay (t : Txn) : (s.setTxn t).jay = s.jay := rfl
@[simp] theorem State.setTxn_caches (t : Txn) : (s.setTxn t).caches = s.caches := rfl
@[simp] theorem State.setTxn_hep (t : Txn) : (s.setTxn t).hep = s.hep := rfl
@[simp] theorem State.setTxn_qos (t : Txn) : (s.setTxn t).qos = s.qos := rfl
@[simp] theorem State.setTxn_noc (t : Txn) : (s.setTxn t).noc = s.noc := rfl
@[simp] theorem State.setTxn_hbm (t : Txn) : (s.setTxn t).hbm = s.hbm := rfl
@[simp] theorem State.setTxn_sites (t : Txn) : (s.setTxn t).sites = s.sites := rfl
@[simp] theorem State.setTxn_tile (t : Txn) : (s.setTxn t).tile = s.tile := rfl
@[simp] theorem State.setTxn_wqs (t : Txn) : (s.setTxn t).wqs = s.wqs := rfl
@[simp] theorem State.setTxn_svc (t : Txn) : (s.setTxn t).svc = s.svc := rfl
@[simp] theorem State.setTxn_ckpt (t : Txn) : (s.setTxn t).ckpt = s.ckpt := rfl
@[simp] theorem State.setTxn_ptns (t : Txn) : (s.setTxn t).ptns = s.ptns := rfl
@[simp] theorem State.setTxn_col (t : Txn) : (s.setTxn t).col = s.col := rfl
@[simp] theorem State.setTxn_sec (t : Txn) : (s.setTxn t).sec = s.sec := rfl
@[simp] theorem State.setTxn_life (t : Txn) : (s.setTxn t).life = s.life := rfl
@[simp] theorem State.setTxn_tap (t : Txn) : (s.setTxn t).tap = s.tap := rfl
@[simp] theorem State.setTxn_startup (t : Txn) : (s.setTxn t).startup = s.startup := rfl
@[simp] theorem State.setTxn_test (t : Txn) : (s.setTxn t).test = s.test := rfl
@[simp] theorem State.setTxn_power (t : Txn) : (s.setTxn t).power = s.power := rfl
@[simp] theorem State.setTxn_dict (t : Txn) : (s.setTxn t).dict = s.dict := rfl
@[simp] theorem State.setTxn_sox (t : Txn) : (s.setTxn t).sox = s.sox := rfl
@[simp] theorem State.setTxn_held (t : Txn) : (s.setTxn t).held = s.held := rfl
@[simp] theorem State.setTxn_heldTiles (t : Txn) : (s.setTxn t).heldTiles = s.heldTiles := rfl
@[simp] theorem State.setTxn_plots (t : Txn) : (s.setTxn t).plots = s.plots := rfl

@[simp] theorem State.setHgt_pending (hg : Nat) (e : Hgt) : (s.setHgt hg e).pending = s.pending := rfl
@[simp] theorem State.setHgt_sent (hg : Nat) (e : Hgt) : (s.setHgt hg e).sent = s.sent := rfl
@[simp] theorem State.setHgt_fresh (hg : Nat) (e : Hgt) : (s.setHgt hg e).fresh = s.fresh := rfl
@[simp] theorem State.setHgt_regs (hg : Nat) (e : Hgt) : (s.setHgt hg e).regs = s.regs := rfl
@[simp] theorem State.setHgt_mem (hg : Nat) (e : Hgt) : (s.setHgt hg e).mem = s.mem := rfl
@[simp] theorem State.setHgt_poison (hg : Nat) (e : Hgt) : (s.setHgt hg e).poison = s.poison := rfl
@[simp] theorem State.setHgt_beat (hg : Nat) (e : Hgt) : (s.setHgt hg e).beat = s.beat := rfl
@[simp] theorem State.setHgt_owl (hg : Nat) (e : Hgt) : (s.setHgt hg e).owl = s.owl := rfl
@[simp] theorem State.setHgt_sql (hg : Nat) (e : Hgt) : (s.setHgt hg e).sql = s.sql := rfl
@[simp] theorem State.setHgt_store (hg : Nat) (e : Hgt) : (s.setHgt hg e).store = s.store := rfl
@[simp] theorem State.setHgt_sync (hg : Nat) (e : Hgt) : (s.setHgt hg e).sync = s.sync := rfl
@[simp] theorem State.setHgt_caches (hg : Nat) (e : Hgt) : (s.setHgt hg e).caches = s.caches := rfl
@[simp] theorem State.setHgt_hep (hg : Nat) (e : Hgt) : (s.setHgt hg e).hep = s.hep := rfl
@[simp] theorem State.setHgt_qos (hg : Nat) (e : Hgt) : (s.setHgt hg e).qos = s.qos := rfl
@[simp] theorem State.setHgt_noc (hg : Nat) (e : Hgt) : (s.setHgt hg e).noc = s.noc := rfl
@[simp] theorem State.setHgt_hbm (hg : Nat) (e : Hgt) : (s.setHgt hg e).hbm = s.hbm := rfl
@[simp] theorem State.setHgt_coh (hg : Nat) (e : Hgt) : (s.setHgt hg e).coh = s.coh := rfl
@[simp] theorem State.setHgt_sites (hg : Nat) (e : Hgt) : (s.setHgt hg e).sites = s.sites := rfl
@[simp] theorem State.setHgt_tile (hg : Nat) (e : Hgt) : (s.setHgt hg e).tile = s.tile := rfl
@[simp] theorem State.setHgt_wqs (hg : Nat) (e : Hgt) : (s.setHgt hg e).wqs = s.wqs := rfl
@[simp] theorem State.setHgt_svc (hg : Nat) (e : Hgt) : (s.setHgt hg e).svc = s.svc := rfl
@[simp] theorem State.setHgt_ckpt (hg : Nat) (e : Hgt) : (s.setHgt hg e).ckpt = s.ckpt := rfl
@[simp] theorem State.setHgt_ptns (hg : Nat) (e : Hgt) : (s.setHgt hg e).ptns = s.ptns := rfl
@[simp] theorem State.setHgt_col (hg : Nat) (e : Hgt) : (s.setHgt hg e).col = s.col := rfl
@[simp] theorem State.setHgt_sec (hg : Nat) (e : Hgt) : (s.setHgt hg e).sec = s.sec := rfl
@[simp] theorem State.setHgt_life (hg : Nat) (e : Hgt) : (s.setHgt hg e).life = s.life := rfl
@[simp] theorem State.setHgt_tap (hg : Nat) (e : Hgt) : (s.setHgt hg e).tap = s.tap := rfl
@[simp] theorem State.setHgt_startup (hg : Nat) (e : Hgt) : (s.setHgt hg e).startup = s.startup := rfl
@[simp] theorem State.setHgt_test (hg : Nat) (e : Hgt) : (s.setHgt hg e).test = s.test := rfl
@[simp] theorem State.setHgt_power (hg : Nat) (e : Hgt) : (s.setHgt hg e).power = s.power := rfl
@[simp] theorem State.setHgt_dict (hg : Nat) (e : Hgt) : (s.setHgt hg e).dict = s.dict := rfl
@[simp] theorem State.setHgt_sox (hg : Nat) (e : Hgt) : (s.setHgt hg e).sox = s.sox := rfl
@[simp] theorem State.setHgt_held (hg : Nat) (e : Hgt) : (s.setHgt hg e).held = s.held := rfl
@[simp] theorem State.setHgt_heldTiles (hg : Nat) (e : Hgt) : (s.setHgt hg e).heldTiles = s.heldTiles := rfl
@[simp] theorem State.setHgt_plots (hg : Nat) (e : Hgt) : (s.setHgt hg e).plots = s.plots := rfl

@[simp] theorem State.setDir_pending (p g : Nat) (e : DirEntry) : (s.setDir p g e).pending = s.pending := rfl
@[simp] theorem State.setDir_sent (p g : Nat) (e : DirEntry) : (s.setDir p g e).sent = s.sent := rfl
@[simp] theorem State.setDir_fresh (p g : Nat) (e : DirEntry) : (s.setDir p g e).fresh = s.fresh := rfl
@[simp] theorem State.setDir_regs (p g : Nat) (e : DirEntry) : (s.setDir p g e).regs = s.regs := rfl
@[simp] theorem State.setDir_mem (p g : Nat) (e : DirEntry) : (s.setDir p g e).mem = s.mem := rfl
@[simp] theorem State.setDir_poison (p g : Nat) (e : DirEntry) : (s.setDir p g e).poison = s.poison := rfl
@[simp] theorem State.setDir_beat (p g : Nat) (e : DirEntry) : (s.setDir p g e).beat = s.beat := rfl
@[simp] theorem State.setDir_owl (p g : Nat) (e : DirEntry) : (s.setDir p g e).owl = s.owl := rfl
@[simp] theorem State.setDir_sql (p g : Nat) (e : DirEntry) : (s.setDir p g e).sql = s.sql := rfl
@[simp] theorem State.setDir_store (p g : Nat) (e : DirEntry) : (s.setDir p g e).store = s.store := rfl
@[simp] theorem State.setDir_sync (p g : Nat) (e : DirEntry) : (s.setDir p g e).sync = s.sync := rfl
@[simp] theorem State.setDir_caches (p g : Nat) (e : DirEntry) : (s.setDir p g e).caches = s.caches := rfl
@[simp] theorem State.setDir_hep (p g : Nat) (e : DirEntry) : (s.setDir p g e).hep = s.hep := rfl
@[simp] theorem State.setDir_qos (p g : Nat) (e : DirEntry) : (s.setDir p g e).qos = s.qos := rfl
@[simp] theorem State.setDir_noc (p g : Nat) (e : DirEntry) : (s.setDir p g e).noc = s.noc := rfl
@[simp] theorem State.setDir_hbm (p g : Nat) (e : DirEntry) : (s.setDir p g e).hbm = s.hbm := rfl
@[simp] theorem State.setDir_coh (p g : Nat) (e : DirEntry) : (s.setDir p g e).coh = s.coh := rfl
@[simp] theorem State.setDir_sites (p g : Nat) (e : DirEntry) : (s.setDir p g e).sites = s.sites := rfl
@[simp] theorem State.setDir_tile (p g : Nat) (e : DirEntry) : (s.setDir p g e).tile = s.tile := rfl
@[simp] theorem State.setDir_wqs (p g : Nat) (e : DirEntry) : (s.setDir p g e).wqs = s.wqs := rfl
@[simp] theorem State.setDir_svc (p g : Nat) (e : DirEntry) : (s.setDir p g e).svc = s.svc := rfl
@[simp] theorem State.setDir_ckpt (p g : Nat) (e : DirEntry) : (s.setDir p g e).ckpt = s.ckpt := rfl
@[simp] theorem State.setDir_ptns (p g : Nat) (e : DirEntry) : (s.setDir p g e).ptns = s.ptns := rfl
@[simp] theorem State.setDir_col (p g : Nat) (e : DirEntry) : (s.setDir p g e).col = s.col := rfl
@[simp] theorem State.setDir_sec (p g : Nat) (e : DirEntry) : (s.setDir p g e).sec = s.sec := rfl
@[simp] theorem State.setDir_life (p g : Nat) (e : DirEntry) : (s.setDir p g e).life = s.life := rfl
@[simp] theorem State.setDir_tap (p g : Nat) (e : DirEntry) : (s.setDir p g e).tap = s.tap := rfl
@[simp] theorem State.setDir_startup (p g : Nat) (e : DirEntry) : (s.setDir p g e).startup = s.startup := rfl
@[simp] theorem State.setDir_test (p g : Nat) (e : DirEntry) : (s.setDir p g e).test = s.test := rfl
@[simp] theorem State.setDir_power (p g : Nat) (e : DirEntry) : (s.setDir p g e).power = s.power := rfl
@[simp] theorem State.setDir_dict (p g : Nat) (e : DirEntry) : (s.setDir p g e).dict = s.dict := rfl
@[simp] theorem State.setDir_sox (p g : Nat) (e : DirEntry) : (s.setDir p g e).sox = s.sox := rfl
@[simp] theorem State.setDir_held (p g : Nat) (e : DirEntry) : (s.setDir p g e).held = s.held := rfl
@[simp] theorem State.setDir_heldTiles (p g : Nat) (e : DirEntry) : (s.setDir p g e).heldTiles = s.heldTiles := rfl
@[simp] theorem State.setDir_plots (p g : Nat) (e : DirEntry) : (s.setDir p g e).plots = s.plots := rfl

@[simp] theorem State.setKey_pending (k : Nat) (x : KeySlot) : (s.setKey k x).pending = s.pending := rfl
@[simp] theorem State.setKey_sent (k : Nat) (x : KeySlot) : (s.setKey k x).sent = s.sent := rfl
@[simp] theorem State.setKey_fresh (k : Nat) (x : KeySlot) : (s.setKey k x).fresh = s.fresh := rfl
@[simp] theorem State.setKey_regs (k : Nat) (x : KeySlot) : (s.setKey k x).regs = s.regs := rfl
@[simp] theorem State.setKey_mem (k : Nat) (x : KeySlot) : (s.setKey k x).mem = s.mem := rfl
@[simp] theorem State.setKey_poison (k : Nat) (x : KeySlot) : (s.setKey k x).poison = s.poison := rfl
@[simp] theorem State.setKey_beat (k : Nat) (x : KeySlot) : (s.setKey k x).beat = s.beat := rfl
@[simp] theorem State.setKey_owl (k : Nat) (x : KeySlot) : (s.setKey k x).owl = s.owl := rfl
@[simp] theorem State.setKey_sql (k : Nat) (x : KeySlot) : (s.setKey k x).sql = s.sql := rfl
@[simp] theorem State.setKey_store (k : Nat) (x : KeySlot) : (s.setKey k x).store = s.store := rfl
@[simp] theorem State.setKey_sync (k : Nat) (x : KeySlot) : (s.setKey k x).sync = s.sync := rfl
@[simp] theorem State.setKey_jay (k : Nat) (x : KeySlot) : (s.setKey k x).jay = s.jay := rfl
@[simp] theorem State.setKey_caches (k : Nat) (x : KeySlot) : (s.setKey k x).caches = s.caches := rfl
@[simp] theorem State.setKey_hep (k : Nat) (x : KeySlot) : (s.setKey k x).hep = s.hep := rfl
@[simp] theorem State.setKey_qos (k : Nat) (x : KeySlot) : (s.setKey k x).qos = s.qos := rfl
@[simp] theorem State.setKey_noc (k : Nat) (x : KeySlot) : (s.setKey k x).noc = s.noc := rfl
@[simp] theorem State.setKey_hbm (k : Nat) (x : KeySlot) : (s.setKey k x).hbm = s.hbm := rfl
@[simp] theorem State.setKey_coh (k : Nat) (x : KeySlot) : (s.setKey k x).coh = s.coh := rfl
@[simp] theorem State.setKey_sites (k : Nat) (x : KeySlot) : (s.setKey k x).sites = s.sites := rfl
@[simp] theorem State.setKey_tile (k : Nat) (x : KeySlot) : (s.setKey k x).tile = s.tile := rfl
@[simp] theorem State.setKey_wqs (k : Nat) (x : KeySlot) : (s.setKey k x).wqs = s.wqs := rfl
@[simp] theorem State.setKey_svc (k : Nat) (x : KeySlot) : (s.setKey k x).svc = s.svc := rfl
@[simp] theorem State.setKey_ckpt (k : Nat) (x : KeySlot) : (s.setKey k x).ckpt = s.ckpt := rfl
@[simp] theorem State.setKey_ptns (k : Nat) (x : KeySlot) : (s.setKey k x).ptns = s.ptns := rfl
@[simp] theorem State.setKey_col (k : Nat) (x : KeySlot) : (s.setKey k x).col = s.col := rfl
@[simp] theorem State.setKey_life (k : Nat) (x : KeySlot) : (s.setKey k x).life = s.life := rfl
@[simp] theorem State.setKey_tap (k : Nat) (x : KeySlot) : (s.setKey k x).tap = s.tap := rfl
@[simp] theorem State.setKey_startup (k : Nat) (x : KeySlot) : (s.setKey k x).startup = s.startup := rfl
@[simp] theorem State.setKey_test (k : Nat) (x : KeySlot) : (s.setKey k x).test = s.test := rfl
@[simp] theorem State.setKey_power (k : Nat) (x : KeySlot) : (s.setKey k x).power = s.power := rfl
@[simp] theorem State.setKey_dict (k : Nat) (x : KeySlot) : (s.setKey k x).dict = s.dict := rfl
@[simp] theorem State.setKey_sox (k : Nat) (x : KeySlot) : (s.setKey k x).sox = s.sox := rfl
@[simp] theorem State.setKey_held (k : Nat) (x : KeySlot) : (s.setKey k x).held = s.held := rfl
@[simp] theorem State.setKey_heldTiles (k : Nat) (x : KeySlot) : (s.setKey k x).heldTiles = s.heldTiles := rfl
@[simp] theorem State.setKey_plots (k : Nat) (x : KeySlot) : (s.setKey k x).plots = s.plots := rfl

@[simp] theorem State.setObj_pending (n : Nat) (o : SyncObj) : (s.setObj n o).pending = s.pending := rfl
@[simp] theorem State.setObj_sent (n : Nat) (o : SyncObj) : (s.setObj n o).sent = s.sent := rfl
@[simp] theorem State.setObj_fresh (n : Nat) (o : SyncObj) : (s.setObj n o).fresh = s.fresh := rfl
@[simp] theorem State.setObj_regs (n : Nat) (o : SyncObj) : (s.setObj n o).regs = s.regs := rfl
@[simp] theorem State.setObj_mem (n : Nat) (o : SyncObj) : (s.setObj n o).mem = s.mem := rfl
@[simp] theorem State.setObj_poison (n : Nat) (o : SyncObj) : (s.setObj n o).poison = s.poison := rfl
@[simp] theorem State.setObj_beat (n : Nat) (o : SyncObj) : (s.setObj n o).beat = s.beat := rfl
@[simp] theorem State.setObj_owl (n : Nat) (o : SyncObj) : (s.setObj n o).owl = s.owl := rfl
@[simp] theorem State.setObj_sql (n : Nat) (o : SyncObj) : (s.setObj n o).sql = s.sql := rfl
@[simp] theorem State.setObj_store (n : Nat) (o : SyncObj) : (s.setObj n o).store = s.store := rfl
@[simp] theorem State.setObj_jay (n : Nat) (o : SyncObj) : (s.setObj n o).jay = s.jay := rfl
@[simp] theorem State.setObj_caches (n : Nat) (o : SyncObj) : (s.setObj n o).caches = s.caches := rfl
@[simp] theorem State.setObj_hep (n : Nat) (o : SyncObj) : (s.setObj n o).hep = s.hep := rfl
@[simp] theorem State.setObj_qos (n : Nat) (o : SyncObj) : (s.setObj n o).qos = s.qos := rfl
@[simp] theorem State.setObj_noc (n : Nat) (o : SyncObj) : (s.setObj n o).noc = s.noc := rfl
@[simp] theorem State.setObj_hbm (n : Nat) (o : SyncObj) : (s.setObj n o).hbm = s.hbm := rfl
@[simp] theorem State.setObj_coh (n : Nat) (o : SyncObj) : (s.setObj n o).coh = s.coh := rfl
@[simp] theorem State.setObj_sites (n : Nat) (o : SyncObj) : (s.setObj n o).sites = s.sites := rfl
@[simp] theorem State.setObj_tile (n : Nat) (o : SyncObj) : (s.setObj n o).tile = s.tile := rfl
@[simp] theorem State.setObj_wqs (n : Nat) (o : SyncObj) : (s.setObj n o).wqs = s.wqs := rfl
@[simp] theorem State.setObj_svc (n : Nat) (o : SyncObj) : (s.setObj n o).svc = s.svc := rfl
@[simp] theorem State.setObj_ckpt (n : Nat) (o : SyncObj) : (s.setObj n o).ckpt = s.ckpt := rfl
@[simp] theorem State.setObj_ptns (n : Nat) (o : SyncObj) : (s.setObj n o).ptns = s.ptns := rfl
@[simp] theorem State.setObj_col (n : Nat) (o : SyncObj) : (s.setObj n o).col = s.col := rfl
@[simp] theorem State.setObj_sec (n : Nat) (o : SyncObj) : (s.setObj n o).sec = s.sec := rfl
@[simp] theorem State.setObj_life (n : Nat) (o : SyncObj) : (s.setObj n o).life = s.life := rfl
@[simp] theorem State.setObj_tap (n : Nat) (o : SyncObj) : (s.setObj n o).tap = s.tap := rfl
@[simp] theorem State.setObj_startup (n : Nat) (o : SyncObj) : (s.setObj n o).startup = s.startup := rfl
@[simp] theorem State.setObj_test (n : Nat) (o : SyncObj) : (s.setObj n o).test = s.test := rfl
@[simp] theorem State.setObj_power (n : Nat) (o : SyncObj) : (s.setObj n o).power = s.power := rfl
@[simp] theorem State.setObj_dict (n : Nat) (o : SyncObj) : (s.setObj n o).dict = s.dict := rfl
@[simp] theorem State.setObj_sox (n : Nat) (o : SyncObj) : (s.setObj n o).sox = s.sox := rfl
@[simp] theorem State.setObj_held (n : Nat) (o : SyncObj) : (s.setObj n o).held = s.held := rfl
@[simp] theorem State.setObj_heldTiles (n : Nat) (o : SyncObj) : (s.setObj n o).heldTiles = s.heldTiles := rfl
@[simp] theorem State.setObj_plots (n : Nat) (o : SyncObj) : (s.setObj n o).plots = s.plots := rfl

@[simp] theorem State.setRing_pending (p : Nat) (r : Ring) : (s.setRing p r).pending = s.pending := rfl
@[simp] theorem State.setRing_sent (p : Nat) (r : Ring) : (s.setRing p r).sent = s.sent := rfl
@[simp] theorem State.setRing_fresh (p : Nat) (r : Ring) : (s.setRing p r).fresh = s.fresh := rfl
@[simp] theorem State.setRing_regs (p : Nat) (r : Ring) : (s.setRing p r).regs = s.regs := rfl
@[simp] theorem State.setRing_mem (p : Nat) (r : Ring) : (s.setRing p r).mem = s.mem := rfl
@[simp] theorem State.setRing_poison (p : Nat) (r : Ring) : (s.setRing p r).poison = s.poison := rfl
@[simp] theorem State.setRing_beat (p : Nat) (r : Ring) : (s.setRing p r).beat = s.beat := rfl
@[simp] theorem State.setRing_owl (p : Nat) (r : Ring) : (s.setRing p r).owl = s.owl := rfl
@[simp] theorem State.setRing_sql (p : Nat) (r : Ring) : (s.setRing p r).sql = s.sql := rfl
@[simp] theorem State.setRing_store (p : Nat) (r : Ring) : (s.setRing p r).store = s.store := rfl
@[simp] theorem State.setRing_sync (p : Nat) (r : Ring) : (s.setRing p r).sync = s.sync := rfl
@[simp] theorem State.setRing_jay (p : Nat) (r : Ring) : (s.setRing p r).jay = s.jay := rfl
@[simp] theorem State.setRing_caches (p : Nat) (r : Ring) : (s.setRing p r).caches = s.caches := rfl
@[simp] theorem State.setRing_hep (p : Nat) (r : Ring) : (s.setRing p r).hep = s.hep := rfl
@[simp] theorem State.setRing_qos (p : Nat) (r : Ring) : (s.setRing p r).qos = s.qos := rfl
@[simp] theorem State.setRing_noc (p : Nat) (r : Ring) : (s.setRing p r).noc = s.noc := rfl
@[simp] theorem State.setRing_hbm (p : Nat) (r : Ring) : (s.setRing p r).hbm = s.hbm := rfl
@[simp] theorem State.setRing_coh (p : Nat) (r : Ring) : (s.setRing p r).coh = s.coh := rfl
@[simp] theorem State.setRing_sites (p : Nat) (r : Ring) : (s.setRing p r).sites = s.sites := rfl
@[simp] theorem State.setRing_tile (p : Nat) (r : Ring) : (s.setRing p r).tile = s.tile := rfl
@[simp] theorem State.setRing_wqs (p : Nat) (r : Ring) : (s.setRing p r).wqs = s.wqs := rfl
@[simp] theorem State.setRing_svc (p : Nat) (r : Ring) : (s.setRing p r).svc = s.svc := rfl
@[simp] theorem State.setRing_ckpt (p : Nat) (r : Ring) : (s.setRing p r).ckpt = s.ckpt := rfl
@[simp] theorem State.setRing_ptns (p : Nat) (r : Ring) : (s.setRing p r).ptns = s.ptns := rfl
@[simp] theorem State.setRing_sec (p : Nat) (r : Ring) : (s.setRing p r).sec = s.sec := rfl
@[simp] theorem State.setRing_life (p : Nat) (r : Ring) : (s.setRing p r).life = s.life := rfl
@[simp] theorem State.setRing_tap (p : Nat) (r : Ring) : (s.setRing p r).tap = s.tap := rfl
@[simp] theorem State.setRing_startup (p : Nat) (r : Ring) : (s.setRing p r).startup = s.startup := rfl
@[simp] theorem State.setRing_test (p : Nat) (r : Ring) : (s.setRing p r).test = s.test := rfl
@[simp] theorem State.setRing_power (p : Nat) (r : Ring) : (s.setRing p r).power = s.power := rfl
@[simp] theorem State.setRing_dict (p : Nat) (r : Ring) : (s.setRing p r).dict = s.dict := rfl
@[simp] theorem State.setRing_sox (p : Nat) (r : Ring) : (s.setRing p r).sox = s.sox := rfl
@[simp] theorem State.setRing_held (p : Nat) (r : Ring) : (s.setRing p r).held = s.held := rfl
@[simp] theorem State.setRing_heldTiles (p : Nat) (r : Ring) : (s.setRing p r).heldTiles = s.heldTiles := rfl
@[simp] theorem State.setRing_plots (p : Nat) (r : Ring) : (s.setRing p r).plots = s.plots := rfl

@[simp] theorem State.setColGroup_pending (p g : Nat) (x : Group) : (s.setColGroup p g x).pending = s.pending := rfl
@[simp] theorem State.setColGroup_sent (p g : Nat) (x : Group) : (s.setColGroup p g x).sent = s.sent := rfl
@[simp] theorem State.setColGroup_fresh (p g : Nat) (x : Group) : (s.setColGroup p g x).fresh = s.fresh := rfl
@[simp] theorem State.setColGroup_regs (p g : Nat) (x : Group) : (s.setColGroup p g x).regs = s.regs := rfl
@[simp] theorem State.setColGroup_mem (p g : Nat) (x : Group) : (s.setColGroup p g x).mem = s.mem := rfl
@[simp] theorem State.setColGroup_poison (p g : Nat) (x : Group) : (s.setColGroup p g x).poison = s.poison := rfl
@[simp] theorem State.setColGroup_beat (p g : Nat) (x : Group) : (s.setColGroup p g x).beat = s.beat := rfl
@[simp] theorem State.setColGroup_owl (p g : Nat) (x : Group) : (s.setColGroup p g x).owl = s.owl := rfl
@[simp] theorem State.setColGroup_sql (p g : Nat) (x : Group) : (s.setColGroup p g x).sql = s.sql := rfl
@[simp] theorem State.setColGroup_store (p g : Nat) (x : Group) : (s.setColGroup p g x).store = s.store := rfl
@[simp] theorem State.setColGroup_sync (p g : Nat) (x : Group) : (s.setColGroup p g x).sync = s.sync := rfl
@[simp] theorem State.setColGroup_jay (p g : Nat) (x : Group) : (s.setColGroup p g x).jay = s.jay := rfl
@[simp] theorem State.setColGroup_caches (p g : Nat) (x : Group) : (s.setColGroup p g x).caches = s.caches := rfl
@[simp] theorem State.setColGroup_hep (p g : Nat) (x : Group) : (s.setColGroup p g x).hep = s.hep := rfl
@[simp] theorem State.setColGroup_qos (p g : Nat) (x : Group) : (s.setColGroup p g x).qos = s.qos := rfl
@[simp] theorem State.setColGroup_noc (p g : Nat) (x : Group) : (s.setColGroup p g x).noc = s.noc := rfl
@[simp] theorem State.setColGroup_hbm (p g : Nat) (x : Group) : (s.setColGroup p g x).hbm = s.hbm := rfl
@[simp] theorem State.setColGroup_coh (p g : Nat) (x : Group) : (s.setColGroup p g x).coh = s.coh := rfl
@[simp] theorem State.setColGroup_sites (p g : Nat) (x : Group) : (s.setColGroup p g x).sites = s.sites := rfl
@[simp] theorem State.setColGroup_tile (p g : Nat) (x : Group) : (s.setColGroup p g x).tile = s.tile := rfl
@[simp] theorem State.setColGroup_wqs (p g : Nat) (x : Group) : (s.setColGroup p g x).wqs = s.wqs := rfl
@[simp] theorem State.setColGroup_svc (p g : Nat) (x : Group) : (s.setColGroup p g x).svc = s.svc := rfl
@[simp] theorem State.setColGroup_ckpt (p g : Nat) (x : Group) : (s.setColGroup p g x).ckpt = s.ckpt := rfl
@[simp] theorem State.setColGroup_ptns (p g : Nat) (x : Group) : (s.setColGroup p g x).ptns = s.ptns := rfl
@[simp] theorem State.setColGroup_sec (p g : Nat) (x : Group) : (s.setColGroup p g x).sec = s.sec := rfl
@[simp] theorem State.setColGroup_life (p g : Nat) (x : Group) : (s.setColGroup p g x).life = s.life := rfl
@[simp] theorem State.setColGroup_tap (p g : Nat) (x : Group) : (s.setColGroup p g x).tap = s.tap := rfl
@[simp] theorem State.setColGroup_startup (p g : Nat) (x : Group) : (s.setColGroup p g x).startup = s.startup := rfl
@[simp] theorem State.setColGroup_test (p g : Nat) (x : Group) : (s.setColGroup p g x).test = s.test := rfl
@[simp] theorem State.setColGroup_power (p g : Nat) (x : Group) : (s.setColGroup p g x).power = s.power := rfl
@[simp] theorem State.setColGroup_dict (p g : Nat) (x : Group) : (s.setColGroup p g x).dict = s.dict := rfl
@[simp] theorem State.setColGroup_sox (p g : Nat) (x : Group) : (s.setColGroup p g x).sox = s.sox := rfl
@[simp] theorem State.setColGroup_held (p g : Nat) (x : Group) : (s.setColGroup p g x).held = s.held := rfl
@[simp] theorem State.setColGroup_heldTiles (p g : Nat) (x : Group) : (s.setColGroup p g x).heldTiles = s.heldTiles := rfl
@[simp] theorem State.setColGroup_plots (p g : Nat) (x : Group) : (s.setColGroup p g x).plots = s.plots := rfl

end Sys2Proof.Machine
end

