-- ==== Sys2Proof/WellFormed.lean ====
section
/-! DEFINITION. Well-formed commands: the operands by which a command names a part of the block lie in the ranges that R4 and R12
give. A value that a role writes is not restricted: the hub answers a bad one with a status (R17, R507). -/

namespace Sys2Proof

/-- A label (R13): 5 bits of partition, 4 of context, 3 of class. -/
def labelOk (l : Label) : Bool := decide (l.ptn < Config.partitions) && decide (l.ctx < 16) && decide (l.cls < 8)

def entryOk : Entry → Bool
  | .site k => decide (k < Config.hubStacks)
  | .tile t => decide (t < Config.tiles)
  | .sox e => decide (e < Config.ports)
  | .engine c => decide (c < Config.partitions)
  | .host | .hub => true

/-- A request at a home agent: its label and entry, an HPA of 48 bits (R166), and a poison mask of its data's sectors. -/
def reqOk (r : HomeReq) : Bool :=
  labelOk r.lab && entryOk r.entry && decide (r.hpa < 2 ^ 48) && decide (r.poison < 2 ^ ((r.len + 31) / 32))

/-- A frame: its port, and a payload of at most 8,192 B (R358). -/
def frameOk (f : Frame) : Bool := decide (f.port < Config.ports) && decide (f.payload.length ≤ 8192)

/-- A declaration: its partition, its context, and the group of a step (R52). -/
def declOk (d : Declaration) : Bool :=
  (match d.ptn with
   | some p => decide (p < Config.partitions)
   | none => true)
  && decide (d.ctx < 16)
  && (match d.kind with
      | .step g _ => decide (g < 16)
      | _ => true)

/-- A flit: 8 check bytes on the DAT network, none elsewhere (R166). -/
def flitOk (f : Flit) : Bool := f.check.length == if f.net = .dat then 8 else 0

/-- A command whose operands are in range. -/
def WellFormed (i : Instr) : Bool :=
  match i with
  | .beatEdge _ _ | .cutoff _ _ | .beatHoldoverExpiry | .ptpSyncLapse | .ppsPulseMissed | .ppsInEdge | .ppsOutPulse
  | .itemCompletion _ | .sysWindow _ | .wqCfgWrite _ _ _ _ | .retryRx _ | .nocRspTimeout _ | .qosCommit _ _
  | .qosCommitCheckDone | .granuleRetire _ | .jayPlacementPass | .migrationPassDone _ _ | .migrationRemap _ _
  | .migrationDone _ | .migrationAbandon _ | .uciRepairAccept _ _ _ _ _ | .uciResetCmdReset _ _ | .uciResetCmdAttest _ _
  | .uciBindWrite _ _ _ | .sftCtrlHello _ _ _ _ _ _ _ | .connOpenRetry _ | .connIdleExpiry _ | .connPsnLimit _
  | .connCloseTimeout _ | .sftAckTimer _ | .sftRtoExpiry _ _ | .ccPeriodExpiry _ _ | .soxEgressTableWrite _ _ _
  | .pairHeartbeatMiss | .pairRekey | .colSyncMapWrite _ _ _ | .collMsgForm _ _ | .collMsgFormed _ _
  | .collMsgRefuse _ _ | .collMsgUp _ _ | .collMsgDown _ _ | .collMsgStretchReq _ _ | .collMsgStretchGrant _ _
  | .collMsgAbort _ _ | .collMsgReset _ _ | .ptnCmdForm _ _ _ | .ptnCmdSeal _ _ _ | .ptnCmdContextReset _ _ _
  | .ptnCmdWarmReset _ _ _ | .ptnCmdFullReset _ _ _ | .ptnCmdDissolve _ _ _ | .ptnCtxNextWrite _ _ _
  | .secKeyDeliver _ _ _ _ | .secImport _ _ _ | .secRotate _ _ _ | .spdmRequest _ _ | .secDebugGrant _ _ _ _
  | .secDebugStateWrite _ _ _ | .secDebugCmd _ _ _ | .secZeroise _ _ | .seSensorTrip | .secSelftest _ _ _
  | .secKatPeriodExpiry _ | .lcsTransition _ _ _ | .lcsEraseDone _ _ | .lcsToken _ _ | .lcsSvnCommit _ _
  | .lcsBscanEnWrite _ _ | .tapBypass | .tapIdcode | .tapSamplePreload | .tapExtest | .tapIeee1500 _ | .tapLcToken _ _
  | .tapLcStatus | .tapIntscan | .tapMbistAcc | .tapReset | .pcieLinkUp _ _ | .pfFlr | .hostPerst | .ckptExportGo
  | .ckptExportDone _ | .debounceExpiry _ _ | .hostPrsntAssert | .hostPg1Assert | .hostPg2Assert | .hostPgTimeout
  | .hostAttnPress | .hostRemoveAck | .hostRemoveCancel | .hostRemoveWaitEnd | .hepRemoveDeadlineExpiry | .surpriseLoss
  | .hostPrsntDeassert | .dictUnitRx _ _ | .dictReassemblyTimeout _ _ | .dictRead _ | .dictWrite _ | .dictAtomic _
  | .dictReadPending _ | .dictReadDefault _ | .dictResetDefault _ | .dictDescribe _ | .dictSessionOpen _
  | .dictSessionProve _ _ _ | .dictSessionClose _ | .dictSpdm _ _ _ _ | .sessionProveTimeout _ | .sessionIdleExpiry _
  | .roleRootWrite _ _ _ | .registerWrite _ | .powerOn | .bringupReady _ | .pdxHubResetWarm _ | .pdxHubResetCold _
  | .hubResetPin | .hubResetEffect | .pdxPartialReset _ _ | .partialResetRelease | .faultEvent _ _ _ _
  | .owlCountWindowExpiry _ | .owlAck _ _ _ | .owlHubAck _ _ | .owlTriageDecide _ _ | .sqlFlush _ _ | .sqlFlushDone _
  | .sqlFlushDeadlineExpiry | .sqlTokenRefill _ | .sqlStoreEraseCirc _ | .sqlStoreEraseFirst _ | .sqlStoreFormat _
  | .sqlStoreCmdDone | .bstTileRun _ _ | .bstTileRunDone _ | .bstIcGo _ _ | .bstIcDone _ _ _ _ _ | .bstUciBurn _ _ _
  | .pwrFailAssert | .pwrBrownout | .pwrThermtrip | .pwrThermDecide _ _ | .pinSoxclkLoss | .pinHostclkLoss
  | .hostLinkDown | .hostPerstDeassert | .pmeTurnOff | .i3cDynamicAddress _ | .hubResetRelease | .powerRemoved => true
  | .declare d => declOk d
  | .slotBegin _ slot _ => decide (slot < 128)
  | .refreshRound h | .qosLevelSample h | .qosLevelWord _ h | .gack h _ | .stackReadData h _ _ | .stackRecalDone h
  | .hbmCattrip h | .memoryPatrol h _ _ | .hbmRecal h | .heatIncrement h => decide (h < Config.hubStacks)
  | .nop t n _ | .scalarAdd t n _ | .scalarSub t n _ | .scalarAnd t n _ | .scalarOr t n _ | .scalarXor t n _
  | .scalarShl t n _ | .scalarShr t n _ | .scalarMul t n _ | .scalarMin t n _ | .scalarMax t n _ | .scalarCmp t n _
  | .scalarMov t n _ | .scalarMovi t n _ | .scalarLd t n _ | .scalarSt t n _ | .vecAdd t n _ | .vecSub t n _
  | .vecMul t n _ | .vecFma t n _ | .vecMax t n _ | .vecMin t n _ | .vecAbs t n _ | .vecNeg t n _ | .vecCvt t n _
  | .vecSelect t n _ | .vecCmplt t n _ | .vecRsqrt t n _ | .vecRcp t n _ | .vecExp2 t n _ | .redSum t n _
  | .redMax t n _ | .redMin t n _ | .redArgmax t n _ | .redSort64 t n _ | .redTopkMerge t n _ | .redPrefix t n _
  | .redSegsum t n _ | .gatherRead t n _ | .scatterWrite t n _ | .scatterStash t n _ | .scatterReduceAdd t n _
  | .scatterReduceMax t n _ | .syncStage t n _ | .waitPending t n _ | .waitEdge t n _ | .sendStage t n _
  | .yieldStage t n _ | .endStage t n _ | .syncReply t n _ _ => decide (t < Config.tiles) && decide (n < Config.strands)
  | .gatherResponse t _ _ _ _ | .patrolScrubVisit t _ _ _ => decide (t < Config.tiles)
  | .tilAbortAll p | .svcLookup p _ _ _ _ | .svcLookupBag p _ _ _ _ | .svcUpdate p _ _ _ _ _ | .svcTimeout p _
  | .ckptPeriodRun p | .ckptChunkAck p _ _ | .ckptChunkTimeout p _ | .requestAged p _ | .takedownWalkEnd p
  | .jayMissTimeout p _ | .jayCmdUnmap p _ | .jayCmdSetFmt p _ _ | .jayCmdPin p _ _ | .jayCmdRowrep p _ _
  | .jayCmdAck p _ | .jayHostMiss p | .connOpenRequest p _ _ | .colDbTailWrite p _ _ | .colDbAbort p | .collAllreduce p
  | .collReduceScatter p | .collAllgather p | .collBroadcast p | .collBarrier p | .collSnapshot p | .collGlobalReset p
  | .snapshotDrainEnd p | .sealWriteDone p | .resetDrainEnd p | .badgerScrubDone p _ | .ptnSchedMiss p
  | .interruptRaise p _ | .hepIntrRaise p _ | .importDone p _ | .fabricKeyRetire p | .debugGrantExpiry p
  | .hostBar2Write p _ _ _ | .hostBar2Read p _ _ | .vfFlr p => decide (p < Config.partitions)
  | .islandVoltageReady island => decide (island < 16)
  | .wqTailWrite p q _ | .wqCplHeadWrite p q _ | .wqAbort p q | .descriptorFetch p q | .funcNop p q | .funcLoad p q
  | .funcRun p q | .funcEmbBag p q _ | .funcUpdate p q _ | .funcReduce p q _ | .funcTopk p q _ | .funcSegReduce p q _
  | .funcSort p q _ | .funcPack p q _ | .funcCheckpoint p q | .itemDispatch p q | .descriptorComplete p q => decide (p < Config.partitions) && decide (q < 64)
  | .routerFlitArrival x y f => decide (x < 48) && decide (y < 48) && flitOk f
  | .flitEject x y port f => decide (x < 48) && decide (y < 48) && decide (port < 6) && flitOk f
  | .ingressReq _ _ r => reqOk r
  | .homeRdShared h r ue | .homeRdUnique h r ue | .homeClaim h r ue | .homeEvict h r ue | .homeWb h r ue
  | .homeWrite h _ r _ ue | .homeWrRed h r _ ue | .homeRdNa h r ue => decide (h < Config.hubStacks) && reqOk r && decide (ue ≤ 2)
  | .homeSnoopAnswer h _ _ ptn _ _ _ _ ue => decide (h < Config.hubStacks) && decide (ptn < Config.partitions) && decide (ue ≤ 2)
  | .cohSnpTimeout h _ ue => decide (h < Config.hubStacks) && decide (ue ≤ 2)
  | .softRepair h pch bank row _ => decide (h < Config.hubStacks) && decide (pch < 64) && decide (bank < 64) && decide (row < 16384)
  | .sliceLookup e p _ _ | .xlateAnswer e p _ | .granuleInvalidate e p _ | .invalidationAck e p _ => entryOk e && decide (p < Config.partitions)
  | .jayCmdMap p _ stack _ | .jayCmdHint p _ stack => decide (p < Config.partitions) && decide (stack < Config.hubStacks)
  | .jayCmdMove p _ stack => decide (p < Config.partitions) && decide (stack < 9)
  | .rowFillAck t p _ => decide (t < Config.tiles) && decide (p < Config.partitions)
  | .replicaGather t r _ => decide (t < Config.tiles) && reqOk r
  | .uciRepairDeadlineExpiry k _ _ | .sbxCap k _ _ | .sbxSpdmResponse k _ | .sbxRstQuiesced k | .sbxRstRequest k _
  | .sbxRstReady k _ _ | .sbxErr k _ _ | .sbxTimeout k _ | .uciQuiesceTimeout k | .sidebandPoll k | .htlCreditReturn k _
  | .cxlMessage k _ _ _ _ _ _ | .sbxPwrReport k _ _ | .sbxPwrRevokeAck k _ _ | .pwrRevokeTimeout k
  | .sbxOtherMessage k _ _ _ _ _ => decide (k < Config.hubStacks)
  | .uciCrcRetry k lg | .uciRetrain k lg | .uciRetrainDone k lg _ _ => decide (k < Config.hubStacks) && decide (lg < 4)
  | .fwdClockLoss k m => decide (k < Config.hubStacks) && decide (m < 16)
  | .htlRdShared k lg hdr _ | .htlRdUnique k lg hdr _ | .htlClaim k lg hdr _ | .htlEvict k lg hdr _
  | .htlRdNa k lg hdr _ | .htlIntr k lg hdr _ | .htlAbort k lg hdr _ | .htlWb k lg hdr _ | .htlWrNs k lg hdr _
  | .htlWrStash k lg hdr _ | .htlWrRed k lg hdr _ | .htlGatherDesc k lg hdr _ | .htlSync k lg hdr _
  | .htlSnpAck k lg hdr _ | .htlSnpData k lg hdr _ => decide (k < Config.hubStacks) && decide (lg < 4) && decide (hdr < 2 ^ 128)
  | .soxPortChange e _ | .soxOtherFrame e | .ptpSyncRx e _ _ _ | .ptpAnnounceRx e _ | .ptpDelayRespRx e _ _
  | .ptpFollowUpRx e _ | .neighbourSolicitationRx e _ => decide (e < Config.ports)
  | .sftData f | .sftAck f _ | .sftCnp f _ | .sftCtrlOpen f | .sftCtrlOpenAck f | .sftCtrlRefuse f | .sftCtrlClose f
  | .sftCtrlCloseAck f | .sftCtrlReset f | .sftCtrlHelloAck f | .sftMgmt f _ _ | .sftJournal f | .sftMirror f
  | .sftHeartbeat f | .sftFault f => frameOk f
  | .syncRead src _ | .syncInit src _ _ _ | .syncAdd src _ _ | .syncCas src _ _ _ | .syncSwap src _ _
  | .syncWaitGe src _ _ | .syncAcquire src _ _ | .syncRelease src _ _ | .syncArrive src _ | .syncArriveWait src _
  | .syncBarWait src _ _ | .syncSet src _ _ | .syncClear src _ _ | .syncWaitAny src _ _ _ | .syncWaitAll src _ _ _ => labelOk src.lab
  | .syncWaitExpiry bank _ => decide (bank < 8)
  | .colGroupForm p g _ | .colGroupDissolve p g _ | .colFormTimeout p g | .collStepComplete p g | .stretchCheckPoint p g => decide (p < Config.partitions) && decide (g < 16)
  | .tileSaveDone p t | .tileRestoreDone p t => decide (p < Config.partitions) && decide (t < Config.tiles)
  | .hostConfigRequest fn _ _ | .hostBar0Read fn _ _ | .hostMailboxGo fn _ => decide (fn < 33)
  | .hostSyncSlotWrite p slot _ => decide (p < Config.partitions) && decide (slot < 128)
  | .bringupTimeout step _ => decide (1 ≤ step) && decide (step ≤ 10)
  | .owlTriageHoldExpiry latch | .owlTriageMiss latch => decide (latch < 33)

end Sys2Proof
end

