-- ==== Sys2Proof/Tests/Slice0.lean ====
section
/-! SUPPORT. The model's own tests: for every statement with hypotheses, states and operands that meet them (one theorem named
wit_ and the statement), a refused term for each check of well-formedness, and single commands on small states. -/

namespace Sys2Proof.Tests
open Sys2Proof Sys2Proof.Machine

set_option Elab.async false

/-! ## Small states -/

/-- A hub in which nothing is set. -/
def z : State := {}
def zr (r : Reg) (v : Nat) (u : Nat := 0) (sub : Nat := 0) : State := z.wr r v u sub
/-- A hub at READY. -/
def zReady : State := zr .pdxReady 1
/-- A switch of partition 0 to its context 1 (R412). -/
def dSwitch : Declaration := { kind := .switch 1, ptn := some 0, ctx := 0, target := none, defer := false, abort := false }
/-- As many declarations of partition 0 as R52 lets it hold. -/
def zFull : State :=
  { z with beat := { z.beat with decls := (List.range 64).map (fun i => { id := i, decl := dSwitch, late := false }) } }
def zCutoff : State := { z with beat := { z.beat with cutoff := true } }
def zHub : State := { zReady with owl := { zReady.owl with fatalHub := true } }

/-! ## The queue and the beat -/

theorem wit_StepRunsFront : ({ z with pending := [.cutoff [] []] } : State).pending = .cutoff [] [] :: [] ∧ z.pending = [] := by decide

theorem wit_CommandsKeepTheRecord : exec (.cutoff [] []) zCutoff = .next zCutoff := by rfl

theorem wit_CanonicalFormKept : Memory.wf State.reset.mem = true ∧ Regs.wf State.reset.regs = true ∧ step State.reset = .next State.reset :=
  ⟨by decide, by decide, rfl⟩

theorem wit_BeatsPass_inputs :
    (zr .beatAlignState alignHoldover).rd .beatAlignState = alignHoldover ∧ (zr .beatSyncSrc srcPtp).rd .beatSyncSrc = srcPtp
    ∧ (zr .beatSyncSrc srcPps).rd .beatSyncSrc = srcPps
    ∧ ((zr .beatPpsOut 1).wr .beatAlignState alignLocked).rd .beatPpsOut = 1
    ∧ ((zr .beatPpsOut 1).wr .beatAlignState alignLocked).rd .beatAlignState = alignLocked ∧ (zr .beatPpsOut 0).rd .beatPpsOut ≠ 1 := by decide

theorem wit_BeatsPass_declare :
    declLimit dSwitch.ptn ≤ zFull.pendingOf dSwitch.ptn
    ∧ (zCutoff.pendingOf dSwitch.ptn < declLimit dSwitch.ptn ∧ dSwitch.target = none ∧ zCutoff.beat.cutoff = true ∧ dSwitch.defer = false)
    ∧ (∃ d : Declaration, d = { dSwitch with target := some 0 } ∧ z.pendingOf d.ptn < declLimit d.ptn ∧ d.target = some 0
        ∧ (0 : BitVec 48).toNat ≤ z.beat.number.toNat ∧ d.defer = false)
    ∧ (z.pendingOf dSwitch.ptn < declLimit dSwitch.ptn ∧ z.beat.cutoff = false) :=
  ⟨by decide, by decide, ⟨_, rfl, by decide, rfl, by decide, rfl⟩, by decide⟩

theorem wit_BeatsPass_edge :
    (zReady.rd .pdxReady = 1 ∧ zReady.owl.fatalHub = false ∧ zReady.beat.cutoff = false ∧ zReady.col.groups = [] ∧ zReady.jay.migs = [])
    ∧ z.beat.number.toNat + 1 + z.beat.skip < 2 ^ 48 ∧ (zHub.rd .pdxReady = 1 ∧ zHub.owl.fatalHub = true) ∧ zCutoff.beat.cutoff = true := by decide

theorem wit_AdmissionWithinLimits :
    z.migrationsAdmitted ≤ z.beatBudget ∧ z.beat.admitted = [] ∧ z.beat.items = [] := by decide

/-! ## Regulation -/

/-- Partition 0, sealed, in sealed timing mode, owns slot 0 of tile 0's table and of home agent 0's. -/
def zSlot : State :=
  let s := (zr .ptnState ptnSealed 0).wr .hbmStackState stackReady 0 0
  { s with qos := { s.qos with active := [(0, 2 ^ 30), (128 * 0x2000, 2 ^ 30)] } }
/-- A request of partition 0 at tile 0's injector, and one of the hub at home agent 0. -/
def candP0 : Cand := { res := 0x2000, id := 1, ptn := some 0, cls := 2, home := 0 }
def candHub : Cand := { res := 0, id := 2, ptn := none, cls := 2, home := 0 }
def candHa : Cand := { candP0 with res := 0 }
def zChecking : State := zr .qosCommitStatus commitChecking

theorem wit_SlotsServed_slots :
    (z.slotBlocked 0 = true ∧ ((zr .ptnState ptnSealed 0).slotWord 0 0 = 2 ^ 31))
    ∧ (∃ s : State, s = { zSlot with regs := (zr .ptnState ptnSealed 0).regs } ∧ s.slotBlocked 0 = true ∧ s.slotOwner 0 0 = .ptn 0)
    ∧ (zSlot.slotBlocked 0x2000 = false ∧ zSlot.slotOwner 0x2000 0 = .ptn 0 ∧ zSlot.servable 0x2000 (some 0) [candP0] ≠ [] ∧ selKind 0x2000 ≠ 0)
    ∧ (zSlot.slotBlocked 0 = false ∧ zSlot.slotOwner 0 7 = .hub ∧ zSlot.servable 0 none [candHub] ≠ [] ∧ selKind 0 = 0)
    ∧ (zSlot.sealedMode 0 = true ∧ zSlot.servable 0x2000 (some 0) [] = [])
    ∧ (zSlot.slotOwner 0x2000 127 = .free ∧ zSlot.borrowers 0x2000 [] = []) :=
  ⟨by decide, ⟨_, rfl, by decide, by decide⟩, by decide, by decide +kernel, by decide, by decide⟩

theorem wit_SlotsServed_rounds : z.qos.aged.find 1 = none ∧ z.rd .qosPtnAged 0 31 + 1 < 2 ^ 64 := by decide

theorem wit_SlotsServed_commit :
    (z.rd .qosCommitStatus ≠ commitChecking ∧ z.rd .qosCommitStatus ≠ commitPassed) ∧ zChecking.rd .qosCommitStatus = commitChecking
    ∧ Role.security ≠ Role.operator ∧ (0 : Nat) ≠ 1 := by decide

theorem wit_CheckedTablesAreSound : z.tableFault [] [] [] (selHa 7) = none ∧ selHa 7 ∈ allTables := by decide +kernel

theorem wit_SlotsServed_egress : egressEntryOk 0 = true
    ∧ 8 ≤ ((List.range 128).filter (fun k => (slotEntryOf (field ((2 ^ 256 - 1) / (2 ^ 32 - 1) * 2 ^ 31) (32 * k + 31) (32 * k))).kind == 2)).length := by
  decide +kernel

theorem wit_SlotsIsolate : ([candP0].filter (fun c => c.ptn == some 0) = [candP0, candHub].filter (fun c => c.ptn == some 0))
    ∧ z.sealedMode 31 = true ∧ (7 : Nat) < 8 := by decide

/-! ## Stages -/

/-- An operand field (R78), and the stage word of a unit, an operation, a COUNT and its operands (R77). -/
def opd (space reg off fmt : Nat) : Nat := space * 2 ^ 29 + reg * 2 ^ 25 + off * 2 ^ 8 + fmt * 2 ^ 4
def stg (unit op count s0 s1 d : Nat) (aux : Nat := 0) : Nat :=
  unit * 2 ^ 236 + op * 2 ^ 228 + count % 64 * 2 ^ 222 + s0 * 2 ^ 176 + s1 * 2 ^ 144 + d * 2 ^ 112 + aux * 2 ^ 48
/-- Strand 0, READY at stage 0. -/
def zStrand : Strand :=
  { stage := 0, st := .ready, zf := false, nf := false, rch := false, pending := 0, status := 0, item := 0
    regs := [5, 3, 256, 7, 1, 0, 0, 0, 0, 0, 0, 0, 0, 0, 0, 0], limit := none, order := 0, queue := 0, desc := 0 }
/-- Partition 0, SEALED with context 0 running, owns tile 0, whose strand 0 stands at this stage. -/
def zStage (w : Nat) : State :=
  let s := (zr .ptnState ptnSealed 0).wr .ptnCtxRunning 0 0
  { s with
    plots := [(0, 0)]
    tile := { s.tile with
      strands := [(strandKey 0 0, zStrand)]
      cfg := [(0, (toLe 32 w).zipIdx.foldl (fun (m : AMap Byte) (e : Byte × Nat) => m.put e.2 e.1 0) [])] } }
/-- The strand issues a stage of this unit and operation, and `f` holds of it. -/
def sees (s : State) (u op : Nat) (f : Issue → Bool) : Bool := (s.issues 0 0 u op).any f
def ok {α : Type} (r : Except Nat α) : Bool := match r with | .ok _ => true | .error _ => false
def val {α : Type} (r : Except Nat α) (d : α) : α := match r with | .ok a => a | .error _ => d
def reg (r : Nat) (fmt : Nat := 4) : Nat := opd 1 r 0 fmt
def pad (a : Nat) (fmt : Nat := 4) : Nat := opd 3 0 a fmt

def scalarOps : List Nat := [0x00, 0x01, 0x02, 0x03, 0x04, 0x05, 0x06, 0x07, 0x08, 0x09, 0x0B]
/-- Both sources are read. -/
def reads2 (s : State) (i : Issue) : Bool := ok (s.readWord i.p 0 0 i.x i.g.src0) && ok (s.readWord i.p 0 0 i.x i.g.src1)

theorem wit_ScalarStages_register : ∀ op ∈ scalarOps, sees (zStage (stg 1 op 1 (reg 0) (reg 1) (reg 2))) 1 op
    (fun i => reads2 (zStage (stg 1 op 1 (reg 0) (reg 1) (reg 2))) i && i.g.dst.space == 1) = true := by decide +kernel
theorem wit_ScalarStages_none : ∀ op ∈ scalarOps, sees (zStage (stg 1 op 1 (reg 0) (reg 1) 0)) 1 op
    (fun i => reads2 (zStage (stg 1 op 1 (reg 0) (reg 1) 0)) i && i.g.dst.space == 0) = true := by decide +kernel
theorem wit_ScalarStages_memory : ∀ op ∈ scalarOps, sees (zStage (stg 1 op 1 (reg 0) (reg 1) (pad 8))) 1 op
    (fun i => reads2 (zStage (stg 1 op 1 (reg 0) (reg 1) (pad 8))) i && i.g.dst.space == 3
      && (zStage (stg 1 op 1 (reg 0) (reg 1) (pad 8))).operandAddr 0 0 i.x i.g.dst == 8
      && decide (8 + 8 ≤ (zStage 0).programBytes 0)) = true := by decide +kernel
theorem wit_ScalarStages_misaligned : ∀ op ∈ scalarOps, sees (zStage (stg 1 op 1 (reg 0) (reg 1) (pad 4))) 1 op
    (fun i => reads2 (zStage (stg 1 op 1 (reg 0) (reg 1) (pad 4))) i && i.g.dst.space == 3
      && (zStage (stg 1 op 1 (reg 0) (reg 1) (pad 4))).operandAddr 0 0 i.x i.g.dst % 8 != 0) = true := by decide +kernel
theorem wit_ScalarStages_bound : ∀ op ∈ scalarOps, sees (zStage (stg 1 op 1 (pad 0x18000) (reg 1) (reg 2))) 1 op
    (fun i => !ok ((zStage (stg 1 op 1 (pad 0x18000) (reg 1) (reg 2))).readWord i.p 0 0 i.x i.g.src0)) = true := by decide +kernel
theorem wit_ScalarStages_others :
    sees (zStage (stg 1 0x0A 1 (reg 0) (reg 1) 0)) 1 0x0A (reads2 (zStage (stg 1 0x0A 1 (reg 0) (reg 1) 0))) = true
    ∧ sees (zStage (stg 1 0x0C 1 0 0 (reg 2) 77)) 1 0x0C (fun i => i.g.dst.space == 1) = true
    ∧ sees (zStage (stg 1 0x0D 1 (pad 8) 0 (reg 2))) 1 0x0D (fun i => i.g.dst.space == 1 && reads2 (zStage 0) i) = true
    ∧ sees (zStage (stg 1 0x0E 1 (reg 0) 0 (pad 8))) 1 0x0E (fun i => i.g.dst.space == 3 && reads2 (zStage 0) i
        && (zStage (stg 1 0x0E 1 (reg 0) 0 (pad 8))).operandAddr 0 0 i.x i.g.dst == 8) = true
    ∧ sees (zStage (stg 0 0 1 0 0 0)) 0 0 (fun _ => true) = true := by decide +kernel

/-- A reduction or a vector stage of INT32 elements in registers or the program area. -/
def redStage (op count : Nat) : State := zStage (stg 3 op count (pad 64) (pad 1024) (pad 4096))
theorem wit_ReductionStages_reductions :
    (∀ op ∈ [0x00, 0x01, 0x02, 0x06, 0x07], sees (redStage op 4) 3 op (fun i =>
      let a := (redStage op 4).readVals i.p 0 0 i.x i.g.src0 (redFmt i.g) (i.g.count * laneFactor i.g.src0.fmt)
      ok a && ok ((redStage op 4).writeVals 0 0 i (val a []))) = true)
    ∧ sees (redStage 0x03 4) 3 0x03 (fun i =>
      let a := (redStage 0x03 4).readVals i.p 0 0 i.x i.g.src0 (redFmt i.g) (i.g.count * laneFactor i.g.src0.fmt)
      ok a && ok ((redStage 0x03 4).writeOperand i.p 0 0 i.x i.g.dst (toLe 4 (argMax (val a []))))) = true := by decide +kernel
theorem wit_ReductionStages_order : (∀ v ∈ [Val.i 3, Val.i 9, Val.i 9], ∃ x, v = Val.i x) ∧ [Val.i 3, Val.i 9, Val.i 9][argMax [Val.i 3, Val.i 9, Val.i 9]]? = some (Val.i 9)
    ∧ (∀ v ∈ [(Val.i 3, 0), (Val.i 9, 1)], ∃ x, v.1 = Val.i x) :=
  ⟨by intro v h; simp at h; rcases h with h | h <;> exact ⟨_, h⟩, by decide, by intro v h; simp at h; rcases h with h | h <;> exact ⟨_, by rw [h]⟩⟩
theorem wit_ReductionStages_sorts :
    sees (redStage 0x04 64) 3 0x04 (fun i =>
      let s := redStage 0x04 64
      let a := s.readVals i.p 0 0 i.x i.g.src0 (redFmt i.g) 64
      let b := s.readOperand i.p 0 0 i.x i.g.src1 (64 * elemBits i.g.src1.fmt / 8)
      let l := sortDesc ((val a []).zip ((List.range 64).map (elemAt (leNat (val b [])) (elemBits i.g.src1.fmt))))
      ok a && ok b && ok (s.writeOperand i.p 0 0 i.x i.g.dst (operandBytes i.g.dst.fmt i.g.sat false (fun _ => .nearest) (l.map (fun e => e.1))
           ++ packElems (elemBits i.g.src1.fmt) (8 * elemBits i.g.src1.fmt) (l.map (fun e => e.2))))) = true
    ∧ sees (redStage 0x05 64) 3 0x05 (fun i =>
      let s := redStage 0x05 64
      let a := s.readVals i.p 0 0 i.x i.g.src0 (redFmt i.g) 64
      let b := s.readVals i.p 0 0 i.x i.g.src1 (redFmt i.g) 64
      ok a && ok b && ok (s.writeVals 0 0 i (((sortDesc ((val a [] ++ val b []).map (fun v => (v, ())))).take 64).map (fun e => e.1)))) = true := by
  decide +kernel

/-- A vector stage: INT32 elements of the program area, COUNT 4. -/
def vecStage (op : Nat) (d : Nat := pad 4096) (f0 : Nat := 4) : State := zStage (stg 2 op 4 (pad 64 f0) (pad 1024) d)
/-- Both sources are read as `k` values, and `w` of them is written. -/
def lanes (s : State) (f k : Issue → Nat) (w : Issue → List Val → List Val → List Val) (i : Issue) : Bool :=
  let a := s.readVals i.p 0 0 i.x i.g.src0 (f i) (k i)
  let b := s.readVals i.p 0 0 i.x i.g.src1 (f i) (k i)
  ok a && ok b && ok (s.writeVals 0 0 i (w i (val a []) (val b [])))

theorem wit_VectorStages_two : ∀ e ∈ ([(0x00, valAdd), (0x01, valSub), (0x02, fun _ => valMul), (0x04, fun _ => valMax), (0x05, fun _ => valMin)] :
      List (Nat × (Bool → Val → Val → Val))), sees (vecStage e.1) 2 e.1 (lanes (vecStage e.1)
    (fun i => evalFmt [i.g.src0, i.g.src1, i.g.dst]) (fun i => i.g.count * laneFactor i.g.dst.fmt)
    (fun i a b => List.zipWith (e.2 i.g.sat) a b)) = true := by decide +kernel
theorem wit_VectorStages_one : ∀ e ∈ ([(0x0B, fpRsqrt), (0x0C, fpRcp), (0x0D, fpExp2)] : List (Nat × (Fp → Fp))),
    sees (vecStage e.1 (pad 4096 1) 1) 2 e.1 (lanes (vecStage e.1 (pad 4096 1) 1) (fun _ => fmtFp32) (fun i => i.g.count * laneFactor i.g.dst.fmt)
    (fun _ a _ => a.map (fun v => .f (e.2 (valFp v))))) = true := by decide +kernel
theorem wit_VectorStages_signs : ∀ op ∈ [0x06, 0x07], sees (vecStage op (pad 4096 1) 1) 2 op (fun i =>
    lanes (vecStage op (pad 4096 1) 1) (fun i => evalFmt [i.g.src0, i.g.dst]) (fun i => i.g.count * laneFactor i.g.dst.fmt) (fun _ a _ => a) i
    && (val ((vecStage op (pad 4096 1) 1).readVals i.p 0 0 i.x i.g.src0 (evalFmt [i.g.src0, i.g.dst]) (i.g.count * laneFactor i.g.dst.fmt)) []).all
      (fun v => match v with | .f _ => true | .i _ => false)) = true := by decide +kernel
theorem wit_VectorStages_fma : sees (vecStage 0x03) 2 0x03 (fun i =>
    lanes (vecStage 0x03) (fun i => evalFmt [i.g.src0, i.g.src1, i.g.dst]) (fun i => i.g.count * laneFactor i.g.src0.fmt) (fun _ a _ => a) i
    && ok ((vecStage 0x03).readVals i.p 0 0 i.x i.g.dst (evalFmt [i.g.src0, i.g.src1, i.g.dst]) (i.g.count * laneFactor i.g.dst.fmt))) = true := by
  decide +kernel
theorem wit_VectorStages_cvt :
    (∀ e ∈ ([(4, 4), (5, 4), (4, 5)] : List (Nat × Nat)), sees (vecStage 0x08 (pad 4096 e.2) e.1) 2 0x08 (fun i =>
      i.g.src0.space == 3 && decide (0 < i.g.count) && !isMx i.g.dst.fmt && lanes (vecStage 0x08 (pad 4096 e.2) e.1)
        (fun i => evalFmt [i.g.src0, i.g.dst]) (fun i => i.g.count * laneFactor i.g.src0.fmt)
        (fun i a _ => a.take (i.g.count * laneFactor i.g.dst.fmt)) i) = true)
    ∧ laneFactor 4 < laneFactor 5 := by decide +kernel
theorem wit_VectorStages_masks :
    sees (vecStage 0x09) 2 0x09 (lanes (vecStage 0x09) (fun i => evalFmt [i.g.src0, i.g.src1, i.g.dst]) (fun i => i.g.count * laneFactor i.g.dst.fmt)
      (fun i a b => (a.zip b).zipIdx.map (fun v =>
        if (i.x.reg (i.g.aux % 8)).toNat.testBit (v.2 / max 1 (laneFactor i.g.dst.fmt)) then v.1.1 else v.1.2))) = true
    ∧ sees (vecStage 0x0A (reg 2)) 2 0x0A (fun i => lanes (vecStage 0x0A (reg 2)) (fun i => evalFmt [i.g.src0, i.g.src1]) (fun i => i.g.count)
        (fun _ a _ => a) i && decide (i.g.count ≤ 64)) = true := by decide +kernel

/-- A label of partition 0. -/
def lab0 : Label := { ptn := 0, ctx := 0, cls := 0 }
/-- With every tracker of tile 0 taken. -/
def taken (s : State) : State :=
  { s with noc := { s.noc with trackers := (List.range 64).map (fun k => (k, newRequest (.tile 0) lab0 .rdNa 0 0 32 [])) } }
/-- A gather of 32 B at the address in register `r`. -/
def gatherAt (r : Nat) : State := zStage (stg 4 0 1 (reg r) 0 (pad 64))
theorem wit_MemoryStages_gather :
    (∀ s ∈ [gatherAt 2, taken (gatherAt 2)], sees s 4 0 (fun i => (i.x.reg i.g.src0.reg).toNat + i.g.src0.off == 256
        && field i.g.aux 63 60 == 0 && s.convBreaks i.p 256 32 i.g.dst.fmt == false
        && ok ((s.issued 0 0 i.g).programRange i.p 0 0 i.x i.g.dst (delivered (s.sfmtAt i.p 256) i.g.dst.fmt 32))) = true)
    ∧ (split256 256 32).length ≤ (gatherAt 2).freeTrackers 0 ∧ (taken (gatherAt 2)).freeTrackers 0 < (split256 256 32).length
    ∧ sees (gatherAt 0) 4 0 (fun i => ((i.x.reg i.g.src0.reg).toNat + i.g.src0.off) % 32 != 0) = true := by decide +kernel
/-- A scatter of 32 B at the address in register `r`. -/
def scatterAt (op r : Nat) : State := zStage (stg 5 op 1 (reg r) (pad 64) 0)
theorem wit_MemoryStages_scatter : ∀ op ∈ [0, 1, 2, 3],
    (∀ s ∈ [scatterAt op 2, taken (scatterAt op 2)], sees s 5 op (fun i => (i.x.reg i.g.src0.reg).toNat + i.g.src0.off == 256
        && field i.g.aux 63 60 == 0 && s.convBreaks i.p 256 32 i.g.src1.fmt == false && s.sfmtAt i.p 256 == none
        && ok ((s.issued 0 0 i.g).readOperand i.p 0 0 i.x i.g.src1 32)) = true)
    ∧ (split256 256 32).length ≤ (scatterAt op 2).freeTrackers 0 ∧ (taken (scatterAt op 2)).freeTrackers 0 < (split256 256 32).length
    ∧ sees (scatterAt op 0) 5 op (fun i => ((i.x.reg i.g.src0.reg).toNat + i.g.src0.off) % 32 != 0) = true := by decide +kernel
/-- A send to the tile and address that register `r` holds: register 5 names tile 0, register 0 plot 0's next tile. -/
def sendTo (r : Nat) : State := zStage (stg 8 0 1 0 (pad 64) (reg r))
theorem wit_MemoryStages_send :
    sees (sendTo 5) 8 0 (fun i => let v := (i.x.reg i.g.dst.reg).toNat
      decide (field v 13 8 < 48) && decide (field v 5 0 < 48) && (sendTo 5).tileOwner (tileAt (field v 13 8) (field v 5 0)) == some i.p
      && (sendTo 5).freeTrackers 0 != 0 && decide (field v 33 16 + 32 ≤ (sendTo 5).programBytes i.p)
      && ok (((sendTo 5).issued 0 0 i.g).readOperand i.p 0 0 i.x i.g.src1 32)) = true
    ∧ sees ({ sendTo 2 with tile := { (sendTo 2).tile with strands := [(strandKey 0 0, { zStrand with regs := [0, 0, 0x2000] })] } } : State) 8 0 (fun i =>
      (sendTo 2).tileOwner (tileAt (field (i.x.reg i.g.dst.reg).toNat 13 8) (field (i.x.reg i.g.dst.reg).toNat 5 0)) != some i.p) = true
    ∧ (0 : Nat) < 32 := by decide +kernel

/-- A SYNC on object 5, with and without the object mapped to partition 0. -/
def zSyncOwn : State := zStage (stg 6 0 1 (reg 0) (reg 1) (reg 2))
def zSync : State := zSyncOwn.wr .colSyncMap 0
/-- The strand waits for a bank's answer. -/
def zWaitSync : State := zSync.setStrand 0 0 { zStrand with st := .waitSync }
theorem wit_ControlStages_sync :
    zSync.strand 0 0 = some zStrand ∧ (stageOf (zSync.stageWord 0 0)).op = 0
    ∧ (∀ s ∈ [zSync, zSyncOwn], sees s 6 0 (fun i => i.x == zStrand && (i.x.reg i.g.src0.reg).toNat == 5) = true)
    ∧ zSyncOwn.ownsObj 0 5 = true ∧ zSync.ownsObj 0 5 = false
    ∧ (zWaitSync.strand 0 0 = some { zStrand with st := .waitSync } ∧ zWaitSync.tileOwner 0 = some 0
        ∧ (stageOf (zWaitSync.stageWord 0 0)).dst.space = 1) := by decide +kernel
theorem wit_ControlStages_waits :
    sees (zStage (stg 7 0 1 0 0 0)) 7 0 (fun i => decide (i.x.pending ≤ i.g.aux % 256)) = true
    ∧ sees ((zStage (stg 7 0 1 0 0 0)).setStrand 0 0 { zStrand with pending := 3 }) 7 0 (fun i => decide (i.g.aux % 256 < i.x.pending)) = true
    ∧ sees (zStage (stg 7 1 1 0 0 0)) 7 1 (fun _ => true) = true ∧ sees (zStage (stg 9 0 1 0 0 0)) 9 0 (fun _ => true) = true
    ∧ sees (zStage (stg 10 0 1 0 0 0)) 10 0 (fun _ => true) = true := by decide +kernel
theorem wit_ControlStages_errors :
    sees (zStage (stg 1 0x0D 1 (reg 0) 0 (reg 1))) 1 0x0D (fun i => !i.g.readsPad) = true
    ∧ sees (zStage (stg 1 0x0D 1 (2 * 2 ^ 29) 0 (reg 1))) 1 0x0D (fun i => i.g.readsPad) = true
    ∧ (zStage (stg 1 0x0D 1 (reg 0) 0 (reg 1))).issues 0 0 1 0 = none ∧ TileErr.cfgUe ≠ .clean
    ∧ zSync.strand 0 0 = some zStrand ∧ sees zSync 6 0 (fun _ => true) = true
    ∧ z.rd .tilUeCount + 1 < 2 ^ 32 := by decide +kernel
/-- A gather of tile 0 whose answer is awaited, and a write. -/
def trkOut (op : ReqOp) : Tracker := { newRequest (.tile 0) lab0 op 0 0 32 [] with phase := .out }
def zOut (op : ReqOp) : State := { zStage 0 with noc := { (zStage 0).noc with trackers := [(3, trkOut op)] } }
theorem wit_ControlStages_answers :
    (∀ op ∈ [ReqOp.rdNa, .write], (zOut op).noc.trackers.find 3 = some (trkOut op) ∧ (trkOut op).entry = .tile 0 ∧ (trkOut op).phase = .out
      ∧ (trkOut op).landed = false ∧ (trkOut op).timedOut = false ∧ converts (trkOut op).sfmt (trkOut op).fmt = false)
    ∧ ((zOut .rdNa).tileOwner 0 = some 0 ∧ (zOut .rdNa).strand 0 0 = some zStrand ∧ zStrand.st ≠ .halted) := by decide +kernel
theorem wit_ControlStages_patrol : ((zStage 0).wr .tilPatrolEn 1).rd .tilPatrolEn ≠ 0 ∧ ((zStage 0).wr .tilPatrolEn 1).tileOwner 0 = some 0
    ∧ ((zStage 0).wr .tilPatrolEn 1).rd .tilCeCount 0 0 + 1 < 2 ^ 64 ∧ (0, 0, 0) ∉ (zStage 0).tile.bad
    ∧ (zStage 0).startup.pwrFail = false := by decide +kernel

theorem wit_StagesStayInTheirTile : ∀ w ∈ (zStage 0).tile.bad, w.1 ≠ 0 := by decide

/-! ## Queues, functions and services -/

/-- TIL_WQ_CFG of a queue of plot 0: 16 descriptors at PPA 0, completions at `cpl` × 4 KiB, enabled or not. -/
def qCfg (enable : Nat) (cpl : Nat := 0) : Nat := 2 ^ 192 + cpl * 2 ^ 120 + 4 * 2 ^ 115 + enable * 2 ^ 86
/-- Partition 0, SEALED with context 0 running, owns plot 0 and granule 0; its queue 0 is enabled and holds these descriptors. -/
def zQueue (ds : List Desc) (cfg : Nat := qCfg 1) : State :=
  let s := ((zStage 0).wr .tilWqCfg cfg 0 0).wr .jayPtnRange 1 0 0
  ({ s with jay := { s.jay with dir := [(0, { valid := true })] } } : State).setWq 0 0 { descs := ds }
/-- The queue's memory holds these bytes, and its TAIL is 1. -/
def zRing (m : List Host.Cell) (p : AMap Unit := []) : State := ({ zQueue [] with mem := m, poison := p } : State).setWq 0 0 { tail := 1 }
/-- A descriptor of a function with one item. -/
def mkDesc (f : Nat) (started : Bool := false) (st : Option Nat := none) : Desc :=
  { idx := 0, words := [f * 2 ^ 56, 1, 0, 0, 0, 0, 0, 0], decl := none, open' := true, started, next := 0, done := 0, failed := 0
    firstFail := noFail, failCode := 0, status := st, overrun := false }

theorem wit_WorkQueues_config : field (qCfg 1) 85 0 = 0 ∧ qCfg 1 < 2 ^ 256 ∧ (∀ i ∈ bitsOf (wqCfgOf (qCfg 1)).plots 64, (zStage 0).plotOwner i = some 0)
    ∧ (wqCfgOf (qCfg 1)).cls < 5 ∧ (wqCfgOf (qCfg 1)).log2 = 4 ∧ (wqCfgOf (qCfg 1)).submit = false ∧ (zStage 0).wqIdle 0 0 = true
    ∧ (wqCfgOf (qCfg 1)).enable = true ∧ ((zStage 0).wqCfg 0 0).enable = false := by decide +kernel
theorem wit_WorkQueues_tail : ((zQueue []).wqCfg 0 0).submit = false ∧ overflows ((zQueue []).wqCfg 0 0) ((zQueue []).wq 0 0) (16 % wqCount) = false
    ∧ overflows ((zQueue []).wqCfg 0 0) ((zQueue []).wq 0 0) (17 % wqCount) = true ∧ ((zQueue []).wq 0 0).descs = [] := by decide +kernel
theorem wit_WorkQueues_fetch : (∀ s ∈ [zRing [], zRing [] [(0, ())]], s.ptnState 0 = ptnSealed ∧ (s.wqCfg 0 0).enable = true ∧ (s.wq 0 0).err = false
      ∧ (s.wq 0 0).head ≠ (s.wq 0 0).tail ∧ (s.wq 0 0).descs = [] ∧ (s.wqCfg 0 0).ring + 64 * ((s.wq 0 0).head % 2 ^ (s.wqCfg 0 0).log2) = 0)
    ∧ (zRing []).readPpa 0 0 64 = some (List.replicate 64 0, false) ∧ (zRing [] [(0, ())]).readPpa 0 0 64 = some (List.replicate 64 0, true)
    ∧ (0 : Nat).testBit 55 = false := by decide +kernel
theorem wit_WorkQueues_status : field ([0x31 * 2 ^ 56].getD 0 0) 63 56 = 0x31 ∧ field ([2 ^ 48].getD 0 0) 50 48 ≠ 0
    ∧ field ([fnRun * 2 ^ 56].getD 0 0) 63 56 = fnRun ∧ field ([fnRun * 2 ^ 56].getD 0 0) 50 48 = 0 := by decide

/-- A configuration image of one stage, which does nothing and ends. -/
def zImage : State :=
  { zQueue [mkDesc fnLoad] with
    mem := memPut (memPut [] 0 (toLe 32 (stg 10 0 1 0 0 0))) 0x800 (toLe 8 (1 * 2 ^ 51 + 1 * 2 ^ 41))
    tile := { (zQueue []).tile with strands := [] } }
def zNoImage : State := { zImage with mem := [] }
/-- What both functions of a queue's descriptor ask. -/
def mayRun (s : State) (d : Desc) : Bool := s.currentDesc 0 0 == some (d, []) && d.mayStart [] && s.mayDispatch 0 0
theorem wit_FunctionsRun_nop : (zQueue [mkDesc fnNop]).currentDesc 0 0 = some (mkDesc fnNop, []) ∧ (mkDesc fnNop).func = fnNop
    ∧ (mkDesc fnNop).mayStart [] = true := by decide +kernel
theorem find_beyond (m : List Host.Cell) (k a : Nat) (h : ∀ e ∈ m, e.1 < k) (ha : k ≤ a) : AMap.find m a = none := by
  induction m with
  | nil => rfl
  | cons e r ih =>
    have he := h e (List.mem_cons_self ..)
    have hr := ih (fun x hx => h x (List.mem_cons_of_mem _ hx))
    simp only [AMap.find, hr, ite_eq_right_iff]
    intro hk
    omega
/-- The image taken from memory holds at each offset the byte that memory holds there. -/
theorem sparseOf_find (l : List Byte) (k a : Nat) : AMap.get (((l.zipIdx k).map (fun (e : Byte × Nat) => (e.2, e.1))).filter (fun e => e.2 != 0)) a 0
    = if k ≤ a then l.getD (a - k) 0 else (0 : Byte) := by
  induction l generalizing k with
  | nil => simp [AMap.get, AMap.find]
  | cons b r ih =>
    simp only [List.zipIdx_cons, List.map_cons, List.filter_cons]
    split
    · simp only [AMap.get, AMap.find] at ih ⊢
      by_cases h : k = a
      · subst h
        simp
      · simp only [if_neg h, ih]
        by_cases h2 : k ≤ a
        · rw [if_pos (by omega), if_pos h2, show a - k = (a - (k + 1)) + 1 by omega, List.getD_cons_succ]
        · rw [if_neg (by omega), if_neg h2]
    · rename_i hb
      rw [ih]
      by_cases h : k = a
      · subst h
        simp only [bne_iff_ne, ne_eq, Decidable.not_not] at hb
        rw [if_neg (by omega), if_pos (Nat.le_refl _), Nat.sub_self, List.getD_cons_zero, hb]
      · by_cases h2 : k ≤ a
        · rw [if_pos (by omega), if_pos h2, show a - k = (a - (k + 1)) + 1 by omega, List.getD_cons_succ]
        · rw [if_neg (by omega), if_neg h2]
theorem image_config (u : Nat) (m : List Host.Cell) (n : Nat) (h : ∀ e ∈ m, e.1 < n) :
    configOk u (sparseOf (memBytes m 0 n)) = configOk u m := by
  have hg : ∀ a, AMap.get (sparseOf (memBytes m 0 n)) a 0 = AMap.get m a (0 : Byte) := by
    intro a
    simp only [sparseOf, sparseOf_find, Nat.zero_le, if_true, Nat.sub_zero, memBytes, List.getD_eq_getElem?_getD, List.getElem?_map, Nat.zero_add]
    by_cases ha : a < n
    · simp [ha]
    · simp [List.getElem?_eq_none (l := List.range n) (i := a) (by simpa using ha), AMap.get, find_beyond m n a h (by omega)]
  have hs : ∀ a k, sparseBytes (sparseOf (memBytes m 0 n)) a k = sparseBytes m a k := by
    intro a k
    simp only [sparseBytes, hg]
  simp only [configOk, hs]
theorem wit_FunctionsRun_load : (∀ s ∈ [zImage, zNoImage], mayRun s (mkDesc fnLoad) = true ∧ s.quiet (s.dispatchSet 0 0) = true) ∧ (mkDesc fnLoad).func = fnLoad
    := by decide +kernel
theorem wit_FunctionsRun_images : ∀ s ∈ [zImage, zNoImage], ∃ img, s.readSpan 0 0 0x4000 = some (img, false)
    ∧ configOk (s.programBytes 0 / 64) (sparseOf img) = (s == zImage) := by
  intro s hs
  have hp : ∀ s ∈ [zImage, zNoImage], (s.place 0 0).map Place.hpa = some 0 ∧ s.readsPoison 0 0x4000 = false ∧ (∀ e ∈ s.mem, e.1 < 0x4000)
      ∧ configOk (s.programBytes 0 / 64) s.mem = (s == zImage) := by decide +kernel
  obtain ⟨h1, h2, h3, h4⟩ := hp s hs
  obtain ⟨pl, hpl, hh⟩ := Option.map_eq_some_iff.1 h1
  refine ⟨memBytes s.mem 0 0x4000, ?_, by rw [image_config _ _ _ h3, h4]⟩
  simp only [State.readSpan, show granuleParts 0 0x4000 = [(0, 0x4000)] by decide, List.foldl_cons, List.foldl_nil, State.readPpa, hpl,
    Option.map_some, hh, h2, List.nil_append, Bool.or_self, State.bytes]
theorem wit_FunctionsRun_run : mayRun (zQueue [mkDesc fnRun]) (mkDesc fnRun) = true ∧ (mkDesc fnRun).func = fnRun ∧ (mkDesc fnRun).started = false := by
  decide +kernel
/-- A RUN in progress on tiles whose configuration has room for one strand each. -/
def zRunning : State :=
  { zQueue [mkDesc fnRun true] with
    tile := { (zQueue []).tile with strands := [], cfg := (zQueue []).tile.cfg.set 0 ((AMap.set [] 0x806 (2 : Byte))) } }
theorem wit_FunctionsRun_items : mayRun zRunning (mkDesc fnRun true) = true ∧ (mkDesc fnRun true).started = true
    ∧ zRunning.bestTile ((zRunning.dispatchSet 0 0).filter (fun k => !(zRunning.waitedTiles 0).contains k)) = some 0
    ∧ (0 : Nat) < 512 ∧ zRunning.strand 0 0 = none := by decide +kernel
/-- The stock configuration of function `f` is loaded on the tiles of plot 0. -/
def zStock (f : Nat) : State :=
  { zQueue [mkDesc f] with tile := { (zQueue []).tile with cfgId := ((zQueue []).dispatchSet 0 0).map (fun t => (t, 0xFF00 + f)) } }
theorem wit_FunctionsRun_stock : ∀ f ∈ [0x10, 0x11, 0x12, 0x13, 0x14, 0x15, 0x16], mayRun (zStock f) (mkDesc f) = true ∧ (mkDesc f).func = f
    ∧ (mkDesc f).next = 0 ∧ (zStock f).stockLoaded f ((zStock f).dispatchSet 0 0) = true := by decide +kernel
theorem wit_FunctionsRun_checkpoint : (zQueue [mkDesc fnCheckpoint]).currentDesc 0 0 = some (mkDesc fnCheckpoint, []) ∧ (mkDesc fnCheckpoint).func = fnCheckpoint
    ∧ (mkDesc fnCheckpoint).started = false ∧ (mkDesc fnCheckpoint).mayStart [] = true ∧ (zQueue []).ckpt.find 0 = none
    ∧ (zQueue []).ptnState 0 = ptnSealed := by decide +kernel

/-- A hub write of queue 0 is on its way. -/
def zWriting : State :=
  { zQueue [] with noc := { (zQueue []).noc with trackers := [(0, newRequest .hub lab0 .write (queueTag 0 0) 0 32 [])] } }
theorem wit_DescriptorsComplete_queue : ((zQueue [mkDesc fnNop true (some dsOk)]).wq 0 0).descs.find? Desc.ended = some (mkDesc fnNop true (some dsOk))
    ∧ (zQueue [mkDesc fnNop true (some dsOk)]).queueWrites 0 0 = false ∧ (mkDesc fnNop true (some dsOk)).decl = none
    ∧ (zQueue [mkDesc fnNop true (some dsOk)]).spanWritable 0 0 32 = true ∧ zWriting.queueWrites 0 0 = true
    ∧ ((mkDesc fnNop).status = none ∧ (mkDesc fnNop).failed = 0 ∧ (mkDesc fnNop).done < 2 ^ 32 ∧ (mkDesc fnNop).firstFail = noFail ∧ (mkDesc fnNop).failCode = 0)
    ∧ ((zQueue []).wqCfg 0 0).coalesce = 0 ∧ (mkDesc fnNop).int = false := by decide +kernel

/-- The table service of partition 0 runs in context 0; table 0 has 4 rows. -/
def zSvc : State := ((zStage 0).wr .tilSvcCfg 5 0 0).wr .tilTableReg (4 * 2 ^ 176 + 2 ^ 106) 0 0
def svcR : SvcReq := { conn := 0, op := 1, table := 0, reqId := 7, rows := [9], grads := [], beat := 0 }
def zAway : State := zSvc.wr .ptnCtxRunning 1 0
theorem wit_DescriptorsComplete_tables : zSvc.tableService 0 = true ∧ zSvc.svcWorks 0 = true ∧ zAway.tableService 0 = true ∧ zAway.svcWorks 0 = false
    ∧ (zAway.svc.get 0 []).length < 1024 ∧ 1024 ≤ (({ zAway with svc := [(0, List.replicate 1024 svcR)] } : State).svc.get 0 []).length
    ∧ (tableOf (zSvc.rd .tilTableReg 0 1)).valid = false
    ∧ (svcR.table < 64 ∧ (tableOf (zSvc.rd .tilTableReg 0 svcR.table)).valid = true ∧ svcR.rows.length ≤ 256 ∧ 9 ∈ svcR.rows
        ∧ (tableOf (zSvc.rd .tilTableReg 0 svcR.table)).rows ≤ 9)
    ∧ ((({ zAway with svc := [(0, [svcR])] } : State).svc.get 0 []).find? (fun r => r.reqId == 7) = some svcR) := by decide +kernel
/-- A checkpoint run with one chunk on its way. -/
def ckpt0 : Ckpt := { desc := none, plan := 0, stream := 0, pkg := 0, dptn := 0, seq := 0, chunks := [0], sent := 1, unacked := [0] }
def zCkpt : State := { zSvc with ckpt := [(0, ckpt0)] }
theorem wit_DescriptorsComplete_checkpoints : (zSvc.ckptService 0 = true ∧ (zSvc.wr .tilCkptPeriod 4 0 0).rd .tilCkptPeriod 0 0 ≠ 0
      ∧ zSvc.ckpt.find 0 = none ∧ zSvc.ptnState 0 = ptnSealed)
    ∧ (zCkpt.ckpt.find 0 = some ckpt0 ∧ 0 ∈ ckpt0.unacked ∧ 1 ∉ ckpt0.unacked ∧ ckpt0.desc = none) := by decide +kernel

/-! ## The fabric network -/

/-- A flit with this route tag; its parity bits are those of a tag of even groups. -/
def flit0 (net : Net) (tag : BitVec 48) (parity : Nat := 0) : Flit := { net, tag, payload := 0, parity, check := List.replicate 8 0, ptn := none }
def tagLastBit : BitVec 48 := 0x4000
def zHeld : State := { z with heldTiles := [(tileAt 0 0, ())] }
theorem wit_FlitsTravel_route : z.noc.dropping.find (packetKey (flit0 .req 0)) = none ∧ (flit0 .req 0).net ≠ .dat ∧ tagParityOk (flit0 .req 0) = true
    ∧ tagDx (flit0 .req 0).tag < 48 ∧ tagDy (flit0 .req 0).tag < 48 ∧ tagVc (flit0 .req 0).tag ≠ 3
    ∧ endpointAt (tagDx (flit0 .req 0).tag) (tagDy (flit0 .req 0).tag) (tagDport (flit0 .req 0).tag) = true := by decide +kernel
theorem wit_FlitsTravel_discard : z.noc.dropping.find (packetKey (flit0 .req tagLastBit)) = none ∧ tagLast (flit0 .req tagLastBit).tag = true
    ∧ tagParityOk (flit0 .req tagLastBit) = false
    ∧ (({ z with noc := { z.noc with dropping := [(packetKey (flit0 .req 0), ())] } } : State).noc.dropping.find (packetKey (flit0 .req 0)) = some ())
    ∧ tagLast (flit0 .req 0).tag = false := by decide +kernel
theorem wit_FlitsTravel_eject : z.tileHeld (tileAt 0 0) = false ∧ zHeld.tileHeld (tileAt 0 0) = true
    ∧ ((flit0 .req 0).net ≠ .dat ∧ payloadParityOk (flit0 .req 0) = true) ∧ payloadParityOk (flit0 .req 0 4) = false
    ∧ ((flit0 .dat 0).net = .dat ∧ checkWord (codeWord (flit0 .dat 0)) = .clean)
    ∧ checkWord (codeWord { flit0 .dat 0 with check := [1, 2, 3, 4, 5, 6, 7, 9] }) = .bad := by decide +kernel
/-- A request of partition 0 at entry point S0, agent `a`, and a full ingress queue of it. -/
def req0 (a : Nat := 1) : HomeReq :=
  { id := 5, entry := .site 0, lab := lab0, kgen := 0, hpa := 0, pgran := 0, len := 64, agent := a, fmt := 0, opx := 0, obj := 0, data := [], poison := 0 }
def zIngress : State := { z with noc := { z.noc with ingress := [(0, List.replicate 32 (req0))] } }
theorem wit_FlitsTravel_ingress : (z.ingressQueue 0 (req0).lab.ptn).length < 32 ∧ (req0).data = [] ∧ 32 ≤ (zIngress.ingressQueue 0 (req0).lab.ptn).length
    ∧ Chan.sch ≠ Chan.sys ∧ z.mirrorFull 0 = false ∧ (req0).lab.cls ≠ 7 ∧ selKind (selStackPort 0) = 4 ∧ (req0).entry ≠ .hub
    ∧ (zr .soxMirror 1).mirrorFull 0 = false ∧ (((zr .soxMirror 1).wr .soxMirrorQueueMib 0).wr .soxPairRole 1).mirrorFull 0 = true := by decide +kernel
theorem wit_FlitsTravel_trackers : (∀ k : Tracker, ({ z with noc := { z.noc with trackers := [(3, k)] } } : State).noc.trackers.find 3 = some k)
    ∧ ((trkOut .rdNa).timedOut = false ∧ (trkOut .rdNa).landed = false ∧ (trkOut .rdNa).phase = .out ∧ (trkOut .rdNa).ptn = some 0)
    ∧ ({ trkOut .rdNa with timedOut := true } : Tracker).timedOut = true ∧ (newRequest (.engine 0) lab0 .rdNa 0 0 32 []).entry = .engine 0 :=
  ⟨fun _ => rfl, by decide, by decide, by decide⟩
theorem wit_ByteErrorsAreFound : (List.replicate 136 (0 : Byte)).length = 136 ∧ checkWord (List.replicate 136 0) = .clean
    ∧ (List.replicate 136 (0 : Byte))[135]? = some 0 ∧ 0 < 255 ∧ 255 < 256 := by decide +kernel

/-! ## Home agents -/

/-- Hub granule 0 of partition 0 in this state; its stack is in service. -/
def zGran (st : HgtState) (kgen : Nat := 0) : State :=
  { zr .hbmStackState stackReady with jay := { z.jay with hgt := [(0, { state := st, owner := 0, kgen, fwd := 1 })] } }
def reqOf (p : Nat) (k : Nat := 0) : HomeReq := { req0 with lab := { lab0 with ptn := p }, kgen := k }
theorem wit_HomeOrders_checks : (∀ st ∈ [HgtState.mapped, .locked, .forward], (zGran st).stackUp 0 = true ∧ stackOf (req0).hpa = 0
      ∧ (zGran st).rd .secState ≠ seZeroised ∧ (zGran st).domainLost 0 = false)
    ∧ (zGran .mapped).hgtCheck (reqOf 0) = .serve ∧ (zGran .locked).hgtCheck (reqOf 0) = .wait ∧ (zGran .mapped).hgtCheck (reqOf 1) = .stale
    ∧ (zGran .mapped).hgtCheck (reqOf 0 2) = .staleKey ∧ (zGran .forward).hgtCheck (reqOf 0) = .forward 1 ∧ ReqOp.write.reads = false
    ∧ ((zGran .mapped).sampleHeat (granOf (req0).hpa) (req0)).domainLost 0 = false := by decide +kernel
theorem wit_HomeOrders_entries : (req0).entry ≠ .hub ∧ ((zGran .mapped).hgt (granOf (reqOf 1).hpa)).owner ≠ (reqOf 1).lab.ptn
    ∧ (∀ st ∈ [HgtState.mapped, .locked, .forward], ((zGran st).hgt (granOf (req0).hpa)).owner = (req0).lab.ptn ∧ ((zGran st).hgt (granOf (req0).hpa)).state = st)
    ∧ (reqOf 0 0).kgen = ((zGran .mapped).hgt 0).kgen ∧ (reqOf 0 2).kgen ≠ ((zGran .mapped).hgt 0).kgen
    ∧ (reqOf 0 2).kgen ≠ (((zGran .mapped).hgt 0).kgen + 3) % 4 := by decide +kernel
/-- Line 0, which agents 1 (slot 0) and 2 (slot 1) may hold. -/
def zLine (st : LineState) (own : Nat) (pres : List Nat) : State :=
  { zGran .mapped with
    coh := { z.coh with
      regions := [(0, { ptn := 0, pgran := 0, way := 0, stamp := 0, recalled := false, slots := [(0, 1), (1, 2)], lines := [(0, { st, own, pres })] })] } }
def txn0 (op : ReqOp) (a : Nat := 1) : Txn := { n := 0, h := 0, op, req := req0 a, lines := [0] }
theorem wit_HomeOrders_ends : (zLine .s 0 [0]).windowed (txn0 .evict).req.hpa = false
    ∧ (zLine .s 0 [0]).recorded (lineOf (txn0 .evict).req.hpa) (agentNo (txn0 .evict).req) = .s
    ∧ (zLine .m 0 [0]).recorded (lineOf (txn0 .wb).req.hpa) (agentNo (txn0 .wb).req) = .m ∧ (zLine .m 0 [0]).windowed 0 = false := by decide +kernel
theorem wit_HomeOrders_errors : ((zLine .s 0 [0]).regionAt (regionOfLine (lineOf (req0).hpa))).isSome = true
    ∧ (∀ t, t = { txn0 .reduce with errs := [.uncorrectable 0] } → (0 : Nat) = t.req.hpa / 32 * 32 + 32 * 0 ∧ t.errs = [.uncorrectable 0] ∧ t.taken = none
        ∧ t.op = .reduce ∧ z.unit t.req.hpa = 32 ∧ z.granOwner (granOf 0) = none ∧ z.unitPoisoned 32 (0 / 32 * 32) = false ∧ 0 < t.req.len / 32)
    ∧ ({ txn0 .reduce with taken := some ([], false) } : Txn).taken.isSome = true := by
  refine ⟨by decide +kernel, ?_, rfl⟩
  rintro t rfl; decide +kernel
theorem wit_LinesAreSnooped_table : agentNo (txn0 .rdShared).req = 1 ∧ ((zLine .i 0 []).regionAt (regionOfLine 0)).isSome = true
    ∧ (zLine .i 0 []).windowed (txn0 .rdShared).req.hpa = false
    ∧ ((zLine .i 0 []).recorded 0 1 = .i ∧ ((zLine .i 0 []).lineF 0).st = .i) ∧ ((zLine .e 1 [1]).recorded 0 1 = .i ∧ ((zLine .e 1 [1]).lineF 0).st = .e)
    ∧ ((zLine .o 1 [1]).recorded 0 1 = .i ∧ ((zLine .o 1 [1]).lineF 0).st = .o) ∧ (zLine .s 0 [0]).recorded 0 1 = .s
    ∧ (zLine .m 0 [0]).recorded 0 1 = .m ∧ (txn0 .rdNa).req.opx ≠ 1 := by decide +kernel
def snoop0 : Snoop := { h := 0, txid := 4, agent := 1, ptn := 0, line := 0, kind := .inv, recd := .s, why := .txn 0 }
def zSnoop : State := { zLine .s 0 [0] with coh := { (zLine .s 0 [0]).coh with snoops := [snoop0] } }
def zDown : State := zr .cohDomainState domainDown
theorem wit_LinesAreSnooped_answers :
    (({ z with coh := { z.coh with txns := [{ txn0 .rdShared with phase := .grant }] } } : State).coh.txns.find?
      (fun t => t.h == 0 && t.phase == .grant && t.lines.head? == some 0) = some { txn0 .rdShared with phase := .grant })
    ∧ zSnoop.coh.snoops.find? (fun n => n.h == 0 && n.txid == 4 && n.agent == 1) = some snoop0
    ∧ (LineState.ofCode 0 = some .i ∧ permitted snoop0.kind snoop0.recd (zSnoop.rd .cohPtnLevel 0 0 == 1) false .i = true ∧ snoop0.kind ≠ .na ∧ snoop0.kind ≠ .hint)
    ∧ (LineState.ofCode 1 = some .s ∧ permitted snoop0.kind snoop0.recd (zSnoop.rd .cohPtnLevel 0 0 == 1) false .s = false)
    ∧ (z.coh.snoops.find? (fun n => n.h == 0 && n.txid == 4 && n.agent == 1) = none ∧ z.coh.reserved.any (fun r => r.1 == 0 && r.2.1 == 4 && r.2.2.1 == 1) = false)
    ∧ (zSnoop.coh.snoops.find? (fun n => n.h == 0 && n.txid == 4) = some snoop0 ∧ zSnoop.ptnState 0 ≠ ptnResetting) ∧ zDown.domainLost 0 = true
    ∧ (({ z with coh := { z.coh with walking := [(0, ())] } } : State).coh.walking.find 0 = some () ∧ z.coh.walking.find 0 = none) := by decide +kernel
theorem wit_GrantsAreRecorded : ∃ x, (zLine .s 0 [0]).regionAt (regionOfLine 0) = some x ∧ (x.slots.map (fun e => e.1)).Nodup ∧ (x.slots.map (fun e => e.2)).Nodup
    ∧ (x.slotOf 1).isSome = true ∧ (∀ e ∈ x.slots, e.1 < 8) ∧ (∀ i ∈ ((zLine .s 0 [0]).lineF 0).pres, ∃ b, (i, b) ∈ x.slots) :=
  ⟨_, rfl, by decide, by decide, by decide, by decide, fun i h => ⟨1, by revert h; decide +revert⟩⟩

/-! ## Stacks and placement -/

def zStack : State := zr .hbmStackState stackReady
def zRead : State := { z with coh := { z.coh with txns := [{ txn0 .rdNa with phase := .read, reading := true }] } }
theorem wit_StacksReadAndRepair_reads : zRead.coh.txns.find? (fun t => t.h == 0 && t.req.id == 5 && t.reading) = some { txn0 .rdNa with phase := .read, reading := true }
    ∧ z.coh.txns.find? (fun t => t.h == 0 && t.req.id == 5 && t.reading) = none
    ∧ (z.unit (0 + 32 * 0) = 32 ∧ z.granOwner (granOf (0 + 32 * 0)) = none ∧ z.unitPoisoned 32 ((0 + 32 * 0) / 32 * 32) = false) := by decide +kernel
theorem wit_StacksReadAndRepair_repairs :
    (∃ s : State, s = { zStack with hbm := { z.hbm with suspect := [rowNo 0 0 0 0] } } ∧ rowNo 0 0 0 0 ∈ s.hbm.suspect ∧ s.stackUp 0 = true
      ∧ s.migOf (rowGran (rowNo 0 0 0 0)) = none ∧ (s.hgt (rowGran (rowNo 0 0 0 0))).state ≠ .locked
      ∧ s.bankLeft (rowNo 0 0 0 0) = true ∧ ({ s with hbm := { s.hbm with perBank := 0 } } : State).bankLeft (rowNo 0 0 0 0) = false)
    ∧ rowNo 0 0 0 0 ∉ z.hbm.suspect
    ∧ (∃ s : State, s = { z with jay := { z.jay with retire := [0] } } ∧ 0 ∈ s.jay.retire ∧ (s.hgt 0).state = .free) :=
  ⟨⟨_, rfl, by decide +kernel⟩, by decide, ⟨_, rfl, by decide +kernel⟩⟩
theorem wit_StacksReadAndRepair_stacks : (zStack.stackUp 0 = true ∧ zStack.rd .hbmRefreshRate 0 0 = 0) ∧ (zStack.wr .hbmRefreshRate 1).rd .hbmRefreshRate 0 0 ≠ 0
    ∧ z.stackUp 0 = false ∧ ((z.setTemp 0 { resuming := true }).temp 0).resuming = true ∧ (stackOf 0 = 0 ∧ zStack.rd .hbmPatrolHours ≠ 0)
    ∧ (zStack.rd .hbmStackState 0 0 = stackReady ∧ zStack.jay.migs = []) := by decide +kernel
theorem wit_StacksReadAndRepair_rows : ∃ (s : State) (x : RowBlock), s = { z with tile := { z.tile with rows := [(0, x)] } } ∧ s.tile.rows.find (128 * 0 +
      s.rowSlot (req0).lab.ptn (((req0).pgran * Config.granule + (req0).hpa % Config.granule) / 256)) = some x ∧ x.ptn = (req0).lab.ptn
    ∧ x.block = ((req0).pgran * Config.granule + (req0).hpa % Config.granule) / 256 :=
  ⟨_, { ptn := 0, block := 0, data := [] }, rfl, by decide +kernel⟩

/-- Partition 0 has a directory of one granule: not mapped, mapped on hub granule 0 in this state, or in host mode. -/
def zDir (d : AMap DirEntry) (h : AMap Hgt := []) : State := { zr .jayPtnRange 1 with jay := { z.jay with dir := d, hgt := h } }
def mapped0 (m : MState := .idle) : AMap DirEntry := [(0, { valid := true, mstate := m })]
theorem wit_GranulesTranslate_lookups : z.dlen 1 ≤ 0 ∧ (0 < (zDir []).dlen 0 ∧ ((zDir []).dirEntry 0 0).valid = false ∧ (zDir []).rd .jayMissMode 0 0 = 0)
    ∧ (((zDir (mapped0)).dirEntry 0 0).valid = true ∧ ((zDir (mapped0)).dirEntry 0 0).mstate ≠ .locked)
    ∧ ((zDir (mapped0 .locked)).dirEntry 0 0).mstate = .locked
    ∧ (zDir [] [(7, { state := .pool })]).takePool 0 (stackOrder (siteOf (.site 0))) = some 7 ∧ (zDir []).takePool 0 (stackOrder (siteOf (.site 0))) = none
    ∧ ((zDir []).wr .jayMissMode 1).rd .jayMissMode 0 0 ≠ 0
    ∧ (({ z with jay := { z.jay with answers := [(.site 0, 0, 0, none)] } } : State).jay.answers.find? (fun a => a.1 == .site 0 && a.2.1 == 0 && a.2.2.1 == 0)
        = some (.site 0, 0, 0, none))
    ∧ (z.jay.misses.get 0 []).find? (fun m => m.gran == 0) = none := by decide +kernel
def mig0 (ph : MigPhase) (pass : Nat) (dirty : List Nat) : Mig := { ptn := 0, gran := none, src := 3, dst := 4, kind := .heat, phase := ph, item := 0, pass, dirty }
def zMig (m : Mig) (i : List Inval := []) : State := { z with jay := { z.jay with migs := [m], inval := i } }
def inval0 (w : List Entry) : Inval := { ptn := 0, gran := 0, xlate := true, rows := false, waiting := w, code := some 0, held := [], source := some 3 }
theorem wit_GranulesMigrate_passes : (z.jay.retire = [] ∧ z.jay.drains = [] ∧ z.jay.moves = [] ∧ z.jay.sweeps = [])
    ∧ (∀ m ∈ [mig0 .copy 1 [0], mig0 .copy 1 []], ((zMig m).wr .jayCopyPasses 3).migOf 3 = some m ∧ m.phase = .copy ∧ 0 < m.pass)
    ∧ 1 + 1 < ((zMig (mig0 .copy 1 [0])).wr .jayCopyPasses 3).rd .jayCopyPasses ∧ (mig0 .copy 1 []).dirty = []
    ∧ (3 ≠ 4 ∧ Memory.wf z.mem = true ∧ (0 : Nat) < Config.granule ∧ 0 / Config.granule ≠ 4) := by decide +kernel
theorem wit_GranulesMigrate_errors : ∀ m, m = mig0 .copy 1 [] → z.unit (m.src * Config.granule + 32 * 0) = 32
    ∧ z.granOwner (granOf (m.src * Config.granule + 32 * 0)) = none ∧ z.unitPoisoned 32 ((m.src * Config.granule + 32 * 0) / 32 * 32) = false := by
  rintro m rfl; decide +kernel
theorem wit_GranulesMigrate_ends : ((zMig (mig0 .copy 1 [])).migOf 3 = some (mig0 .copy 1 []) ∧ (mig0 .copy 1 []).phase ≠ .locked)
    ∧ ((zMig (mig0 .locked 1 [])).migOf 3 = some (mig0 .locked 1 []) ∧ (zMig (mig0 .locked 1 [])).coh.regions = [] ∧ (zMig (mig0 .locked 1 [])).coh.txns = []
        ∧ (mig0 .locked 1 []).gran = none ∧ (mig0 .locked 1 []).kind ≠ .retire)
    ∧ (zMig (mig0 .forward 1 []) [inval0 [.hub]]).jay.inval.find? (fun i => i.source == some 3) = some (inval0 [.hub])
    ∧ (zMig (mig0 .forward 1 []) [inval0 []]).jay.inval.find? (fun i => i.source == some 3) = some (inval0 []) ∧ (zMig (mig0 .forward 1 [])).jay.queued = []
    ∧ (({ z with jay := { z.jay with heatBuf := [(0, [{ entry := 0, site := 0, count := 1 }])] } } : State).jay.heatBuf.get 0 [] =
        ({ entry := 0, site := 0, count := 1 } : HeatInc) :: []) ∧ [0, 0, 0][2]? = some 0 := by decide +kernel
theorem wit_PlacementCommands_invalidations : ∀ i, i = { inval0 [.hub] with source := none } →
    (zMig (mig0 .copy 1 []) [i]).jay.inval.find? (fun i => i.ptn == 0 && i.gran == 0 && i.waiting.contains .hub) = some i ∧ i.xlate = true
    ∧ ((zMig (mig0 .copy 1 []) [i]).cacheDrop .hub 0 0).drained .hub 0 0 = true ∧ i.waiting = [.hub] ∧ i.source = none ∧ i.code = some 0 ∧ i.rows = false := by
  rintro i rfl; decide +kernel
def zHost : State := (zDir (mapped0)).wr .jayMode 1
def posting0 : Posting := { cands := [], beats := [0] }
theorem wit_PlacementCommands_commands : z.dlen 1 ≤ 0 ∧ z.rdField .jayCmdResult 23 0 0 0 + 1 < 2 ^ 24
    ∧ (0 < (zDir []).dlen 0 ∧ ((zDir []).dirEntry 0 0).valid = false ∧ (zDir [] [(7, { state := .pool })]).takePool 0 [0] = some 7)
    ∧ (((zDir (mapped0)).dirEntry 0 0).valid = true ∧ ((zDir (mapped0)).dirEntry 0 0).mstate = .idle) ∧ ((zDir (mapped0 .locked)).dirEntry 0 0).mstate ≠ .idle
    ∧ (zDir (mapped0)).hostAssisted 0 = false ∧ (zHost.hostAssisted 0 = true ∧ 0 < zHost.dlen 0 ∧ (zHost.dirEntry 0 0).valid = true
        ∧ (zHost.jay.moves.filter (fun m => m.1 == 0)).length < 64)
    ∧ (∃ s : State, s = { zHost.wr .jayHostDeadline 0 with jay := { zHost.jay with posting := [(0, posting0)] } } ∧ s.jay.posting.find 0 = some posting0
        ∧ posting0.beats = 0 :: [] ∧ (0 : BitVec 48).toNat + s.rd .jayHostDeadline ≤ s.beat.number.toNat) :=
  ⟨by decide +kernel, by decide +kernel, by decide +kernel, by decide +kernel, by decide +kernel, by decide +kernel, by decide +kernel, ⟨_, rfl, by decide +kernel⟩⟩

/-! ## Sites and the hub transaction layer -/

def zSite (x : Site) : State := z.setSite 0 x
def gTrain : List GroupState := [.training, .none, .none, .none]
/-- Site 0 has retried `n` times at beat 0. -/
def zRetried (n : Nat) : State := { z with sites := [(0, { retries := [(0, List.replicate n 0)] })] }
theorem wit_SitesTrain_retries : ((z.site 0).retries.get 0 []).length < 1000 ∧ (∀ n, n ≤ (((zRetried n).site 0).retries.get 0 []).length)
    ∧ (∀ b ∈ ((zRetried 1000).site 0).retries.get 0 [], b = (zRetried 1000).beat.number) ∧ 0 < (zRetried 1000).beatsPerMs := by
  have h : ∀ n, ((zRetried n).site 0).retries.get 0 [] = List.replicate n 0 := fun _ => rfl
  refine ⟨by decide, fun n => by simp [h], fun b hb => ?_, by decide +kernel⟩
  rw [h] at hb
  exact List.eq_of_mem_replicate hb
theorem wit_SitesTrain_groups : ((zSite { groups := [.up] }).site 0).group 0 = .up ∧ (z.site 0).group 0 ≠ .training
    ∧ (∀ x ∈ [({ groups := gTrain, narrowed := [true] } : Site), { groups := gTrain, fails := [1], populated := 1 }], ((zSite x).site 0).group 0 = .training)
    ∧ ((zSite { groups := gTrain, narrowed := [true] }).site 0).narrowed.getD 0 false = true
    ∧ (((zSite { groups := gTrain, fails := [1], populated := 1 }).site 0).narrowed.getD 0 false = false ∧ ((zSite { groups := gTrain, fails := [1], populated := 1 }).site 0).fails.getD 0 0 ≠ 0
        ∧ (groupSet ((zSite { groups := gTrain, fails := [1], populated := 1 }).site 0).populated
            ((zSite { groups := gTrain, fails := [1], populated := 1 }).site 0).disabled 0).testBit (0 % 4) = true)
    ∧ (((zSite { populated := 1 }).site 0).populated.testBit 0 = true ∧ ((zSite { populated := 1 }).site 0).disabled.testBit 0 = false
        ∧ (((zSite { populated := 1 }).site 0).group (0 / 4)).inUse = false)
    ∧ ((zSite { disabled := 1 }).site 0).disabled.testBit 0 = true ∧ ((zSite { pause := true }).site 0).pause = true ∧ (z.site 0).pause = false := by
  decide +kernel
theorem wit_SitesBind : (z.rd .uciBind 0 = 0 ∧ z.isSealed 0 = false ∧ z.testedSite 0 = false ∧ (zr .uciAttestState atAttested).admits 0 0 = true)
    ∧ ((2 ^ 0).testBit 0 = true ∧ (zr .ptnState ptnSealed).isSealed 0 = true) ∧ Role.tenant ≠ .operator
    ∧ ((zSite { reset := .quiescing }).site 0).reset ≠ .none ∧ ((z.site 0).reset = .none ∧ (zr .uciLinkState lsUp).rd .uciLinkState 0 ≠ lsAbsent)
    ∧ z.sealedBound 0 = [] ∧ ((zr .uciLinkState lsUp).wr .uciBind 1 |>.wr .ptnState ptnSealed).sealedBound 0 ≠ [] := by decide +kernel
def sbx0 (cls n : Nat) : SbxReq := { cls, payload := 0, attempts := n }
theorem wit_SitesAttest : (z.owl.fatalHub = false ∧ (zr .uciLinkState lsUp).rd .uciLinkState 0 = lsUp
      ∧ (negotiate (z.rd .uciProtoAllow 0) (2 ^ 84 + 3 * 2 ^ 80)).1 ≠ 0)
    ∧ (((zSite { spdm := 1 }).site 0).spdm ≠ 0 ∧ (z.site 0).spdm = 0) ∧ ((zSite { reset := .quiescing }).site 0).reset = .quiescing
    ∧ (zReady.owl.fatalHub = false ∧ zReady.rd .pdxReady = 1 ∧ field 0 63 56 = 0) ∧ ((zSite { polling := true }).site 0).polling = true
    ∧ (∀ r ∈ [sbx0 sbxCap 1, sbx0 sbxCap 3, sbx0 sbxSpdm 3], ((zSite { sbx := [(9, r)] }).site 0).sbx.find 9 = some r)
    ∧ ((zSite { reset := .quiescing }).site 0).quiesced = false ∧ ((zSite { reset := .quiescing }).site 0).lost = false := by decide +kernel

/-- S0's chiplet is coherent at level 3 in partition 0, which is SEALED; its link is UP. -/
def zHtl : State :=
  (((((zr .ptnState ptnSealed).wr .uciBind 1).wr .htlPtnLevel 3).wr .uciCohRole roleCoherent).wr .uciLinkState lsUp).setSite 0
    { groups := [.up], granted := [(0, ())] }
/-- A header of this opcode: class 0, PPA 0, the length that the opcode asks. -/
def hdr0 (op : Nat) : Nat :=
  let v := ((opInfo op).getD (0, 0)).1 * 2 ^ 126 + op * 2 ^ 120 + (if op = oSync ∨ isAnswerOp op then 0 else 2 ^ 41)
  v + popCount v 128 % 2
theorem wit_HtlMessages_checks : (∀ op ∈ [oRdShared, oRdUnique, oClaim, oEvict, oRdNa, oIntr, oAbort, oWb, oWrNs, oWrStash, oWrRed, oGatherDesc, oSync, oSnpAck, oSnpData],
      zHtl.owl.fatalHub = false ∧ hdr0 op < 2 ^ 128 ∧ zHtl.takesMessages 0 0 = true ∧ hparOk (hdr0 op) = true ∧ field (hdr0 op) 125 120 = op
      ∧ zHtl.htlCheck 0 (hdr0 op) = hsOk ∧ z.htlCheck 0 (hdr0 op) ≠ hsOk) ∧ hparOk (hdr0 oRdNa ^^^ 1) = false ∧ z.takesMessages 0 0 = false := by decide +kernel
theorem wit_HtlMessages_refusals : (z.rd .uciBind 0).testBit (field (hdr0 oRdNa) 119 115) = false ∧ z.ptnState (field (hdr0 oRdNa) 119 115) ≠ ptnSealed
    ∧ isAnswerOp (field (hdr0 oRdNa) 125 120) = false
    ∧ (isLineOp (field (hdr0 oRdShared) 125 120) = true ∧ z.rd .uciCohRole 0 0 ≠ roleCoherent) ∧ opInfo (field (2 ^ 125) 125 120) = none
    ∧ (htlHdr (hdr0 oSnpAck)).op = oSnpAck ∧ ((htlHdr (hdr0 oRdUnique)).op = oRdUnique ∧ (htlHdr (hdr0 oRdUnique)).lab.cls ≠ 7)
    ∧ (hsBadField ≠ hsIsolation ∧ hsBadField ≠ hsConv ∧ ((z.site 0).granted.find (htlHdr (hdr0 oRdNa)).lab.ptn).isSome = false) := by decide +kernel
def zCxl : State := (zHtl.wr .uciProtocol protoCxl)
theorem wit_HtlMessages_cxl : (∀ j, j < 8 → (0 : Nat).testBit (16 * j + 15) = false)
    ∧ ((0x8000 + 0x2000 : Nat).testBit 15 = true ∧ field (0x8000 + 0x2000) 14 13 = 1 ∧ (z.site 0).snpq.get (field (0x8000 + 0x2000) 12 8 % 16) [] = [])
    ∧ (zCxl.owl.fatalHub = false ∧ zCxl.rd .uciProtocol 0 = protoCxl ∧ zCxl.rd .uciLinkState 0 = lsUp ∧ (∀ x d, CxlMsg.memRd ≠ .snoopRsp x d)
        ∧ zCxl.cxlCheck 0 .memRd 5 0 64 = hsOk ∧ zCxl.cxlCheck 0 .rdShared 5 32 64 ≠ hsOk ∧ zCxl.cxlCheck 0 .rdShared 5 32 64 ≠ hsIsolation
        ∧ zCxl.cxlCheck 0 (.snoopRsp 0 false) 5 0 0 = hsOk)
    ∧ zHtl.rd .uciProtocol 0 ≠ protoCxl := by
  refine ⟨fun j _ => Nat.zero_testBit _, by decide +kernel, ⟨by decide +kernel, by decide +kernel, by decide +kernel, by rintro x d ⟨⟩, by decide +kernel,
    by decide +kernel, by decide +kernel, by decide +kernel⟩, by decide +kernel⟩

/-! ## Scale-out -/

def frame0 (type : Nat) (conn : Nat := 3) (ext : Nat := 0) : Frame :=
  { port := 0, format := true, ver := 1, type, eom := true, kgen := 0, srcPkg := 9, dstPkg := 0, srcPtn := 0, dstPtn := 0, ctx := 0, cls := 0
    conn, psn := 0, ext, payload := [], tagOk := true, ce := false }
def conn0 (st : ConnState := .open) : Conn := { ptn := 0, pkg := 9, rptn := 0, st }
/-- A hub at READY whose partition 0 holds a fabric key, with this connection 3; and one that is paired over connection 0. -/
def zConn (c : Conn) : State :=
  { (zReady.wr .ptnState ptnSealed) with
    sec := { z.sec with slots := [(slotFabric 0 0, { material := 1 })] }, sox := { z.sox with conns := [(3, c)] } }
def zPair (role : Nat) (missed : Nat := 0) : State :=
  let s := (zReady.wr .soxPairMode 1).wr .soxPairRole role
  { s with sox := { s.sox with conns := [(0, conn0)], pair := { s.sox.pair with missed } } }
/-- A frame of that package passes the checks, and of its connection too. -/
theorem passes12 (s : State) (f : Frame) (h : (!s.owl.fatalHub && s.rd .pdxReady == 1 && s.startup.reset.isNone && f.format && f.ver == 1
    && f.cls != 5 && f.cls != 6 && s.answersPkg f.dstPkg) = true) : ∀ k, s.frame12 f k = k s := by
  intro k
  simp only [Bool.and_eq_true, Bool.not_eq_true', beq_iff_eq, bne_iff_ne, ne_eq, Option.isNone_iff_eq_none] at h
  obtain ⟨⟨⟨⟨⟨⟨⟨h1, h2⟩, h3⟩, h4⟩, h5⟩, h6⟩, h7⟩, h8⟩ := h
  simp [State.frame12, h1, h2, h3, h4, h5, h6, h7, h8]
theorem passesOn (s : State) (f : Frame) (c : Conn) (h : (!s.owl.fatalHub && s.rd .pdxReady == 1 && s.startup.reset.isNone && f.format && f.ver == 1
    && f.cls != 5 && f.cls != 6 && s.answersPkg f.dstPkg) = true) (hc : s.frameConn f = some c) (ht : s.frameTag f c = true) : ∀ k, s.frameOn f k = k s c := by
  intro k
  rw [State.frameOn, passes12 s f h]
  simp [hc, ht]
theorem wit_FramesAndPackets_ports : z.rd .soxPortState 0 0 ≠ 2
    ∧ (((zr .soxPtpEn 1).wr .soxPortState 2).ptpOn 0 (z.rd .soxPtpDomain) = true ∧ z.ptpOn 0 0 = false)
    ∧ (z.sox.ptp.all (fun e => !(z.rd .soxPtpEn).testBit e.1 || e.2.missed)) = true
    ∧ (∃ k, k < 128 ∧ egressEntryOk (field (2 ^ 32 - 1) (32 * k + 31) (32 * k)) = false) ∧ 16 ≤ 16 :=
  ⟨by decide +kernel, by decide +kernel, by decide +kernel, ⟨0, by decide, by decide +kernel⟩, by decide⟩
theorem wit_FramesAndPackets_checks : zHub.owl.fatalHub = true ∧ (z.owl.fatalHub = false ∧ z.rd .pdxReady = 0)
    ∧ (zReady.owl.fatalHub = false ∧ zReady.rd .pdxReady = 1 ∧ zReady.startup.reset = none)
    ∧ ({ frame0 0 with format := false } : Frame).format = false ∧ zReady.answersPkg ({ frame0 0 with dstPkg := 1 } : Frame).dstPkg = false
    ∧ zReady.answersPkg (frame0 0).dstPkg = true ∧ zReady.frameConn (frame0 0) = none ∧ (zConn (conn0)).frameConn (frame0 0) = some (conn0)
    ∧ (zConn (conn0)).frameTag { frame0 0 with kgen := 1 } (conn0) = false ∧ (zConn (conn0)).frameTag (frame0 0) (conn0) = true
    ∧ ({ frame0 0 with tagOk := false } : Frame).tagOk = false := by decide +kernel
theorem wit_FramesAndPackets_data : (∀ type ∈ [sftData, sftColl, sftSvc, sftCkpt, sftAck, sftCnp], ∀ k, (zConn (conn0)).frameOn (frame0 type) k = k (zConn (conn0)) (conn0))
    ∧ (conn0).st = .open ∧ (∃ c : Conn, c = { conn0 with rx := 7 } ∧ (frame0 sftData).psn < c.rx)
    ∧ (∃ f : Frame, f = { frame0 sftData with psn := 4096 } ∧ (conn0).rx + 4096 ≤ f.psn ∧ (conn0).held.find f.psn = none)
    ∧ ((zConn (conn0)).conn 3 = some (conn0) ∧ (frame0 sftData).psn = (conn0).rx ∧ (conn0).held = [] ∧ (frame0 sftData).cls ≠ 7
        ∧ (frame0 sftData).ce = false ∧ (conn0).owed < 15)
    ∧ 5 < field (6 * 2 ^ 52) 99 52 ∧ field (6 * 2 ^ 52) 99 52 + 32 < 39 := by
  refine ⟨?_, by decide, ⟨_, rfl, by decide⟩, ⟨_, rfl, by decide, by decide⟩, by decide +kernel, by decide, by decide⟩
  have h : ∀ type ∈ [sftData, sftColl, sftSvc, sftCkpt, sftAck, sftCnp], (!(zConn (conn0)).owl.fatalHub && (zConn (conn0)).rd .pdxReady == 1
      && (zConn (conn0)).startup.reset.isNone && (frame0 type).format && (frame0 type).ver == 1 && (frame0 type).cls != 5 && (frame0 type).cls != 6
      && (zConn (conn0)).answersPkg (frame0 type).dstPkg) = true ∧ (zConn (conn0)).frameConn (frame0 type) = some (conn0)
      ∧ (zConn (conn0)).frameTag (frame0 type) (conn0) = true := by decide +kernel
  exact fun type ht => passesOn _ _ _ (h type ht).1 (h type ht).2.1 (h type ht).2.2
def unacked0 : Unacked := { pkt := { type := 0, eom := true, lab := lab0, ext := 0, payload := [] }, plane := 0, kgen := 0, passed := 0, resent := false }
theorem wit_FramesAndPackets_timers : ((zConn (conn0)).conn 3 = some (conn0) ∧ ((zConn (conn0)).ccOf (conn0) 0).signalled = false ∧ (conn0).owed = 0)
    ∧ (∃ c : Conn, c = { conn0 with owed := 1, timeouts := 7, unacked := [(4, unacked0)] } ∧ (zConn c).conn 3 = some c ∧ 0 < c.owed ∧ 7 ≤ c.timeouts
        ∧ c.unacked.find 4 = some unacked0) ∧ (conn0).unacked.find 4 = none :=
  ⟨by decide +kernel, ⟨_, rfl, by decide +kernel⟩, by decide⟩

theorem wit_ConnectionsOpenAndClose_opens : (isCtrl (frame0 sftCtrl 3 (ctrlExt ctrlOpen 0 0)) ctrlOpen = true
      ∧ ∀ k, zReady.frame12 (frame0 sftCtrl 3 (ctrlExt ctrlOpen 0 0)) k = k zReady)
    ∧ z.fabricKeys (frame0 sftCtrl).dstPtn = []
    ∧ ((zConn (conn0)).fabricKeys 0).any (fun k => k.keyId == leNat ((frame0 sftCtrl).payload.take 4)) = true ∧ (frame0 sftCtrl).tagOk = true
    ∧ ((zConn (conn0)).wr .ptnState 0).ptnState 0 ≠ ptnSealed ∧ (zConn (conn0)).ptnState 0 = ptnSealed ∧ (zConn (conn0)).connOf 0 8 0 = none
    ∧ ((zConn (conn0)).connRoom 0 = true ∧ ((zConn (conn0)).wr .soxPtnConnMax 1).connRoom 0 = false) ∧ (zConn (conn0)).fabricKeys 0 ≠ [] :=
  ⟨⟨by decide, passes12 _ _ (by decide +kernel)⟩, by decide +kernel, by decide +kernel, by decide, by decide +kernel, by decide +kernel, by decide +kernel,
    by decide +kernel, by decide +kernel⟩
theorem wit_ConnectionsOpenAndClose_controls : ∀ st ∈ [ConnState.opening, .open, .closing],
    (∀ f ∈ [frame0 sftCtrl 3 (ctrlExt ctrlOpenAck 0 0), frame0 sftCtrl 3 (ctrlExt ctrlClose 0 0), frame0 sftCtrl 3 (ctrlExt ctrlCloseAck 0 0),
      frame0 sftCtrl 3 (ctrlExt ctrlReset 0 0), frame0 sftFault, frame0 sftCtrl 3 (ctrlExt ctrlRefuse 0 0)], ∀ k, (zConn (conn0 st)).frameOn f k = k (zConn (conn0 st)) (conn0 st))
    ∧ (conn0 st).st = st ∧ (conn0 st).queue = [] ∧ (frame0 sftCtrl).conn ≠ 0 ∧ (zConn (conn0 st)).conn 3 = some (conn0 st) ∧ (conn0 st).tries < 8 := by
  have h : ∀ st ∈ [ConnState.opening, .open, .closing], ∀ f ∈ [frame0 sftCtrl 3 (ctrlExt ctrlOpenAck 0 0), frame0 sftCtrl 3 (ctrlExt ctrlClose 0 0),
      frame0 sftCtrl 3 (ctrlExt ctrlCloseAck 0 0), frame0 sftCtrl 3 (ctrlExt ctrlReset 0 0), frame0 sftFault, frame0 sftCtrl 3 (ctrlExt ctrlRefuse 0 0)],
      (!(zConn (conn0 st)).owl.fatalHub && (zConn (conn0 st)).rd .pdxReady == 1 && (zConn (conn0 st)).startup.reset.isNone && f.format && f.ver == 1
      && f.cls != 5 && f.cls != 6 && (zConn (conn0 st)).answersPkg f.dstPkg) = true ∧ (zConn (conn0 st)).frameConn f = some (conn0 st)
      ∧ (zConn (conn0 st)).frameTag f (conn0 st) = true := by decide +kernel
  intro st hst
  refine ⟨fun f hf => passesOn _ _ _ (h st hst f hf).1 (h st hst f hf).2.1 (h st hst f hf).2.2, ?_⟩
  revert st
  decide +kernel
theorem wit_ConnectionsOpenAndClose_ends : (isCtrl (frame0 sftCtrl 3 (ctrlExt ctrlOpenAck 0 0)) ctrlOpenAck && isCtrl (frame0 sftCtrl 3 (ctrlExt ctrlClose 0 0)) ctrlClose
      && isCtrl (frame0 sftCtrl 3 (ctrlExt ctrlCloseAck 0 0)) ctrlCloseAck && isCtrl (frame0 sftCtrl 3 (ctrlExt ctrlReset 0 0)) ctrlReset
      && isCtrl (frame0 sftCtrl 3 (ctrlExt ctrlRefuse 0 0)) ctrlRefuse) = true ∧ (frame0 sftFault).type = sftFault
    ∧ (8 ≤ ({ conn0 .opening with tries := 8 } : Conn).tries) ∧ (∃ v ∈ ({ conn0 with psn := [2 ^ 48 - 1] } : Conn).psn, 2 ^ 48 - 2 ^ 16 ≤ v) := by decide
theorem wit_PairsTakeOver_hello : ∀ s f, s = (zReady.wr .soxPairMode 1) → f = { frame0 sftCtrl 0 (ctrlExt ctrlHello 0 0) with srcPkg := 1 } →
    isCtrl f ctrlHello = true ∧ (∀ k, s.frame12 f k = k s) ∧ s.rd .soxPairMode ≠ 0 ∧ s.rd .soxPairRole ≠ pairFenced ∧ s.rd .soxPairRefused = 0
    ∧ s.conn 0 = none ∧ f.srcPkg / 2 = s.rd .soxPkgId / 2 ∧ s.helloReason (hubRevision + 1) 0 0 0 true ≠ 0
    ∧ s.helloReason hubRevision (s.rd .soxPairFmt) (s.rd .beatPeriod) (s.rd .beatEpoch) true = 0 := by
  rintro s f rfl rfl
  exact ⟨by decide, passes12 _ _ (by decide +kernel), by decide +kernel, by decide +kernel, by decide +kernel, by decide +kernel, by decide +kernel,
    by decide +kernel, by decide +kernel⟩
theorem wit_PairsTakeOver_link : (∀ role ∈ [pairActive, pairStandby], ∀ type ∈ [sftCtrl, sftJournal, sftMirror, sftHeartbeat], ∀ f,
      f = { frame0 type 0 (ctrlExt ctrlHelloAck 0 0) with dstPkg := if role = pairActive then 0 else 1 } →
      (∀ k, (zPair role).frameOn f k = k (zPair role) (conn0)) ∧ f.conn = 0 ∧ f.type = type ∧ (zPair role).rd .soxPairRole = role) := by
  have h : ∀ role ∈ [pairActive, pairStandby], ∀ type ∈ [sftCtrl, sftJournal, sftMirror, sftHeartbeat], ∀ f ∈
      [{ frame0 type 0 (ctrlExt ctrlHelloAck 0 0) with dstPkg := if role = pairActive then 0 else 1 }],
      (!(zPair role).owl.fatalHub && (zPair role).rd .pdxReady == 1 && (zPair role).startup.reset.isNone && f.format && f.ver == 1
      && f.cls != 5 && f.cls != 6 && (zPair role).answersPkg f.dstPkg) = true ∧ (zPair role).frameConn f = some (conn0)
      ∧ (zPair role).frameTag f (conn0) = true ∧ f.conn = 0 ∧ f.type = type ∧ (zPair role).rd .soxPairRole = role := by decide +kernel
  rintro role hr type ht f rfl
  obtain ⟨h1, h2, h3, h4⟩ := h role hr type ht _ (List.mem_singleton.2 rfl)
  exact ⟨passesOn _ _ _ h1 h2 h3, h4⟩
theorem wit_PairsTakeOver_misses : (∀ role ∈ [pairActive, pairStandby], (zPair role 3).conn 0 = some (conn0) ∧ 3 ≤ (zPair role 3).sox.pair.missed
      ∧ (zPair role 3).rd .soxPairRole = role ∧ ((zPair role 3).wr .soxPairQuorum 0).quorum = true ∧ ((zPair role 3).wr .soxPairQuorum 9).quorum = false)
    ∧ z.sox.pair.missed < 3 ∧ z.sox.pair.rekey = false ∧ ((zPair pairFenced).rd .soxPairMode ≠ 0 ∧ (zPair pairFenced).rd .soxPairRole = pairFenced) := by
  decide +kernel

/-! ## Synchronisation and collectives -/

def src0 : SyncSrc := { entry := .site 0, lab := lab0, tag := 1 }
/-- Object 5 of partition 0, of this kind. -/
def zObj (k : SyncKind) : State := z.setObj 5 { kind := k, value := 3 }
theorem wit_SyncOperations_objects : (∀ k ∈ [SyncKind.counter, .semaphore, .barrier, .event], (zObj k).ownsObj src0.lab.ptn 5 = true
      ∧ (zObj k).obj 5 = { kind := k, value := 3 }) ∧ SyncKind.counter ∈ [SyncKind.counter] ∧ SyncKind.barrier ∉ [SyncKind.counter, .event]
    ∧ (1 : Word) ≠ 0 ∧ (kindOf 2 = .barrier ∧ barCount 0 < barTarget (1 <<< 48)) ∧ barTarget 0 ≤ barCount 0
    ∧ ((z.wr .colSyncMap 0).ownsObj src0.lab.ptn 5 = false) := by decide +kernel
def waiter0 (n : Nat) (c : WaitCond) : Waiter := { obj := n, src := src0, cond := c }
def zWait (n : Nat) : State := { zObj .counter with sync := { (zObj .counter).sync with waiters := List.replicate n (waiter0 5 (.ge 9)) } }
theorem wit_SyncOperations_waits : (WaitCond.ge 2).isAcquire = false ∧ (WaitCond.ge 2).holds ((zWait 1).obj 5).value = true
    ∧ (WaitCond.ge 9).holds ((zWait 1).obj 5).value = false ∧ ({ src0 with entry := .host } : SyncSrc).entry = .host ∧ src0.entry ≠ .host
    ∧ 128 ≤ (zWait 128).waitersIn src0.lab.ptn (bankOfObj 5) ∧ (zWait 1).waitersIn src0.lab.ptn (bankOfObj 5) < 128
    ∧ (zWait 1).waiterAt 0 0 = some (waiter0 5 (.ge 9)) := by decide +kernel
theorem wit_SyncOperations_barriers : barCount (1 <<< 48) + 1 = barTarget (1 <<< 48) ∧ barCount 0 + 1 ≠ barTarget 0 := by decide
theorem wit_WaitersInOrder : (∀ w ∈ [waiter0 5 (.acquire 1)], w.obj = 5 → ∃ a, w.cond = .acquire a) ∧ (∀ w ∈ [waiter0 5 (.ge 1)], w.obj = 5 → ∃ a, w.cond = .ge a)
    ∧ (∀ w ∈ [waiter0 5 (.any 1 true)], w.obj = 5 → ∃ a c, w.cond = .any a c ∨ w.cond = .all a c) := by
  refine ⟨?_, ?_, ?_⟩ <;> intro w h _ <;> simp only [List.mem_singleton] at h <;> subst h
  · exact ⟨1, rfl⟩
  · exact ⟨1, rfl⟩
  · exact ⟨1, true, .inl rfl⟩

/-- COL_GROUP: 3 members of which this is number `me`, radix 2, member list at PPA 0. -/
def grp0 (me : Nat) (valid : Nat := 1) (n : Nat := 3) : Nat := n * 2 ^ 207 + me * 2 ^ 190 + 3 * 2 ^ 188 + valid * 2 ^ 185 + 2 ^ 72
/-- Group 0 of partition 0 in a state, whose members are partition 0 of package 9 each. -/
def zGroup (st me : Nat) (c : Option Coll := none) (n : Nat := 3) : State :=
  let s := ((zConn (conn0)).wr .colGroup (grp0 me 1 n) 0 0).setGroupState 0 0 st 0
  s.setColGroup 0 0 { list := List.replicate n (9 * 2 ^ 15), coll := c }
def collBytes (kind : Nat) (beat : Nat := 0) (body : List Byte := []) : List Byte := toLe 16 (collHeader kind 0 beat 0 0) ++ body
theorem wit_GroupsForm_writes : (z.syncMapOk 0 0 = true ∧ z.isSealed 0 = false) ∧ z.syncMapOk 0 (2 ^ 31) = false
    ∧ (z.groupState 0 0 ≠ grpForming ∧ (z.group 0 0).coll = none ∧ (groupCfgOf 0).valid = false ∧ field 0 71 0 = 0)
    ∧ ((groupCfgOf (grp0 0)).valid = true ∧ (groupCfgOf (grp0 0)).me < (groupCfgOf (grp0 0)).n ∧ (groupCfgOf (grp0 0)).n ≤ 65536 ∧ field (grp0 0) 71 0 = 0)
    ∧ ((z.wr .colGroup (grp0 0) 0 0).setColGroup 0 0 {}).engineGroups (groupCfgOf (grp0 0)).engine 0 0 < 256
    ∧ (((z.wr .colGroup (grp0 0) 0 0).setColGroup 0 0 {}).setGroupState 0 0 grpForming 0).words4 0 (groupCfgOf (grp0 0)).list (groupCfgOf (grp0 0)).n = none := by
  decide +kernel
/-- Every group register of partitions 16 to 31 holds a group of engine 0. -/
def zEngine : State := { z with regs := (List.range 256).map (fun k => (Reg.colGroupState.key (16 + k / 16) (k % 16), grpReady)) }
theorem wit_GroupsForm_full : zEngine.groupState 0 0 ≠ grpForming ∧ (zEngine.group 0 0).coll = none
    ∧ 256 ≤ ((zEngine.wr .colGroup (grp0 0) 0 0).setColGroup 0 0 {}).engineGroups (groupCfgOf (grp0 0)).engine 0 0 := by decide +kernel
theorem wit_GroupsForm_messages : (zGroup grpForming 1).groupState 0 0 = grpForming ∧ z.groupState 0 0 ≠ grpForming
    ∧ (∀ k ∈ [kindFormed, kindRefuse], (((zGroup grpForming 1).collMsg 3 k (collBytes k)).any (fun m => m.ptn == 0 && m.g == 0
        && (zGroup grpForming 1).parentIn m.ptn m.g 0 == some m.src)) = true)
    ∧ ((zConn (conn0)).conn 3 = some (conn0) ∧ field (leNat ((toLe 16 (collHeader kindForm 5 0 0 0)).take 16)) 127 120 = kindForm
        ∧ (∀ g < 16, ((zConn (conn0)).groupCfg (conn0).ptn g).gid ≠ field (leNat ((toLe 16 (collHeader kindForm 5 0 0 0)).take 16)) 119 88)) := by
  decide +kernel
theorem wit_TreesAreConsistent : 2 ≤ 4 ∧ 6 < 7 ∧ 0 < 7 ∧ (z.group 0 0).parents = [] := by decide

/-- A descriptor of this operation in group 0, with two steps of 256 B. -/
def coll0 (op : Nat) (ph : StepPhase := .none) (st : Option Nat := none) (bad : Nat := 0) : Coll :=
  { idx := 0, words := [op * 2 ^ 56 + 2 ^ 50, bad * 16, 0, 0, 96 * 2 ^ 35 + (if 5 ≤ op then 1 else 2) * 2 ^ 16, 0, 0, 0], phase := ph, status := st }
/-- The ring of partition 0 holds such a descriptor at PPA 0; group 0 is READY or not. -/
def zRingOf (op st : Nat) (bad : Nat := 0) : State :=
  let s := ((zGroup st 0).wr .colRingCfg (qCfg 1 - 2 ^ 192) 0 0).wr .jayPtnRange 1 0 0
  ({ s with jay := { s.jay with dir := [(0, { valid := true })] }, mem := memPut [] 0 ((coll0 op (bad := bad)).words.flatMap (toLe 8)) } : State).setRing 0 { tail := 1 }
theorem wit_CollectivesRun_ring : z.ring 0 = z.ring 0 ∧ ((0 + wqCount - 0) % wqCount ≤ 2 ^ (z.ringCfg 0).log2) ∧ 2 ^ (z.ringCfg 0).log2 < (17 % wqCount + wqCount - 0) % wqCount
    ∧ (∀ g < 16, (z.group 0 g).coll = none) := by decide +kernel
theorem wit_CollectivesRun_heads : ∀ op ∈ [1, 2, 3, 4, 5, 6, 7], ∀ e ∈ [(grpReady, 0), (grpForming, 0), (grpReady, 1)],
    (zRingOf op e.1 e.2).ringHead 0 = some (coll0 op (bad := e.2)) ∧ (coll0 op (bad := e.2)).op = op
    ∧ ((zRingOf op e.1 e.2).group 0 (coll0 op (bad := e.2)).grp).coll = none
    ∧ ((zRingOf op e.1 e.2).setRing 0 { tail := 1, head := 1 }).groupState 0 (coll0 op (bad := e.2)).grp = e.1
    ∧ (coll0 op (bad := e.2)).bad ((zRingOf op e.1 e.2).groupCfg 0 0) = (e.2 == 1) := by decide +kernel
theorem wit_CollectivesRun_steps : ((zGroup grpReady 0 (some (coll0 1 .writing))).group 0 0).coll = some (coll0 1 .writing) ∧ (coll0 1 .writing).status = none
    ∧ (coll0 1 .writing).op ≠ 6 ∧ (zGroup grpReady 0 (some (coll0 1 .writing))).collBusy 0 0 = false ∧ (coll0 1 .writing).step + 1 < (coll0 1 .writing).steps
    ∧ ((zGroup grpReady 0 (some (coll0 6 .drain))).group 0 0).coll = some (coll0 6 .drain) ∧ (zGroup grpReady 0 (some (coll0 6 .drain))).ptnDrained 0 = true
    ∧ (∃ s : State, s = { zGroup grpReady 0 (some (coll0 6 .drain)) with noc := { z.noc with trackers := [(0, newRequest .hub lab0 .write 0 0 32 [])] } }
        ∧ (s.group 0 0).coll = some (coll0 6 .drain) ∧ s.ptnDrained 0 = false) :=
  ⟨by decide +kernel, by decide, by decide, by decide +kernel, by decide, by decide +kernel, by decide +kernel, ⟨_, rfl, by decide +kernel⟩⟩
/-- A member message of that kind arrives at member `me`, which runs an allreduce. -/
def hears (me kind : Nat) (body : List Byte) (f : State → CollMsg → Bool) : Bool :=
  let s := zGroup grpReady me (some (coll0 1 .reduce))
  (s.collMsg 3 kind (collBytes kind 9 body)).any (fun m => (s.group m.ptn m.g).coll == some (coll0 1 .reduce) && f s m)
/-- In a group of 3 the first entry of the list names package 9; for member 0 its children are entries of other packages. -/
def zParent : State := (zGroup grpReady 0 (some (coll0 1 .reduce))).setColGroup 0 0 { list := [0, 9 * 2 ^ 15, 0], coll := some (coll0 1 .reduce) }
theorem wit_CollectivesRun_messages : (coll0 1 .reduce).status = none ∧ (coll0 1 .reduce).item = none
    ∧ (∀ b ∈ [(coll0 1).fields ++ List.replicate 4 0, List.replicate 20 1], (zParent.collMsg 3 kindUp (collBytes kindUp 0 b)).any (fun m =>
        (zParent.group m.ptn m.g).coll == some (coll0 1 .reduce) && (zParent.childrenIn m.ptn m.g 0).contains m.src
        && ((bodyOf m.body).1 == (coll0 1).fields) == (b.headD 0 == 0)) = true)
    ∧ hears 1 kindDown ((coll0 1).fields) (fun s m => s.parentIn m.ptn m.g (coll0 1).root == some m.src && (bodyOf m.body).1 == (coll0 1).fields) = true
    ∧ hears 1 kindAbort [] (fun _ _ => true) = true
    ∧ hears 1 kindReset [] (fun s m => s.parentIn m.ptn m.g 0 == some m.src && (s.groupCfg m.ptn m.g).resetOk) = true
    ∧ (zParent.collMsg 3 kindStretchReq (collBytes kindStretchReq)).any (fun m => (zParent.childrenIn m.ptn m.g 0).contains m.src) = true
    ∧ hears 1 kindStretchGrant [] (fun s m => s.parentIn m.ptn m.g 0 == some m.src && s.childrenIn m.ptn m.g 0 == []
        && decide (s.beat.number.toNat < m.beat) && m.beat != s.beat.number.toNat + 1 + s.beat.skip) = true := by decide +kernel
/-- A hot stack serves the step in progress, and its decision asks for stretches. -/
def zHot : State :=
  let s := (zGroup grpReady 0 (some { coll0 1 .reduce with item := some 1, served := 1 })).wr .hbmThrottleLevel 1 0 0
  { s with power := { s.power with stretch := 1 } }
theorem wit_CollectivesRun_others : (coll0 1 .reduce (some 3)).status.isSome = true ∧ (coll0 1).op ≠ 6 ∧ (z.group 0 0).coll.isNone = true
    ∧ (zGroup grpReady 1).collMsg 3 kindStretchGrant (collBytes kindStretchGrant) ≠ none ∧ zHot.wantsStretch 0 0 = true ∧ z.wantsStretch 0 0 = false
    ∧ (∀ h < 8, z.stackHot h = false) := by decide +kernel

/-! ## Partitions -/

/-- Partition 0 in a state, with a lifecycle record. -/
def zPtn (st : Nat) (x : Ptn := {}) : State := (zr .ptnState st).setPtn 0 x
/-- FORMED with plot 0 and a granule asked for, and one role's bit of the seal given; its slot tables are checked or not. -/
def zForm (timing : Nat := 0) : State := (((((zPtn ptnFormed).wr .ptnSealReq 1).wr .beatTimingMode timing 0 0).wr .ptnPlots 1).wr .ptnGranules 1).wr .jayPtnRange 8 0 0
theorem wit_PartitionsLive_refused : (0 : Nat) < 32 ∧ (32 : Nat) ≤ 32 ∧ Role.vendor ∉ [Role.operator, Role.tenant, .security] ∧ field 2 3 1 ≠ 0
    ∧ field 0 3 1 = 0 ∧ z.ptnState 0 ≤ 7 ∧ (∀ l ∈ [[ptnFormed], [ptnSealed], [ptnSealed, ptnHalted], [ptnSealed, ptnHalted, ptnResetting],
        [ptnFormed, ptnSealing, ptnSealed, ptnHalted, ptnResetting, ptnScrubbing, ptnDissolving]], z.ptnState 0 ∉ l)
    ∧ (zPtn ptnSealed).ptnState 0 ≤ 7 ∧ (zPtn ptnSealed).ptnState 0 ∉ [ptnFree] := by decide +kernel
theorem wit_PartitionsLive_form : z.ptnState 0 = ptnFree ∧ z.owl.fatalHub = false ∧ z.life.erasing = none ∧ z.formOk 0 = false
    ∧ (zr .jayPtnRange 1).ptnState 0 = ptnFree ∧ (zr .jayPtnRange 1).formOk 0 = true ∧ (zr .ptnPlots 1).rd .ptnPlots 0 = 1 := by decide +kernel
theorem wit_PartitionsLive_seal : (zPtn ptnFormed).ptnState 0 = ptnFormed ∧ (zPtn ptnFormed).owl.fatalHub = false ∧ (zPtn ptnFormed).life.erasing = none
    ∧ (zPtn ptnFormed).rd .ptnSealReq 0 = 0 ∧ zForm.ptnState 0 = ptnFormed ∧ zForm.rd .ptnSealReq 0 = 1 ∧ zForm.sealFault 0 = 2
    ∧ (zForm 1).ptnState 0 = ptnFormed ∧ (zForm 1).rd .ptnSealReq 0 = 1 ∧ (zForm 1).sealFault 0 = 0 := by decide +kernel
/-- SEALING with the writing in progress; its ways still hold another partition's region, or not. -/
def zSealing (regions : AMap Region := []) : State :=
  { zPtn ptnSealing { writing := true } with coh := { z.coh with ways := [(0, [3])], regions := regions } }
theorem wit_PartitionsLive_written : (zPtn ptnFormed).ptnState 0 ≠ ptnSealing ∧ ((zPtn ptnSealing).ptn 0).writing = false
    ∧ (zSealing).ptnState 0 = ptnSealing ∧ ((zSealing).ptn 0).writing = true ∧ (zSealing).waysClear 0 = true
    ∧ (∃ e, (zSealing [(0, e)]).waysClear 0 = false) ∧ ((zPtn ptnSealing { atEdge := some ptnSealed }).ptn 0).atEdge = some ptnSealed
    ∧ ((zPtn ptnSealing { atEdge := some ptnSealed }).ptn 0).reset = none ∧ (zPtn ptnSealing { atEdge := some ptnSealed }).sitesOf 0 = [] :=
  ⟨by decide +kernel, by decide +kernel, by decide +kernel, by decide +kernel, by decide +kernel,
    ⟨{ ptn := 1, pgran := 0, way := 3, stamp := 0, recalled := false, slots := [], lines := [] }, by decide +kernel⟩, by decide +kernel, by decide +kernel, by decide +kernel⟩
theorem wit_PartitionsLive_resets : (∀ e ∈ [(ptnSealed, none), (ptnResetting, some .warm), (ptnResetting, some .full), (ptnScrubbing, some ResetKind.full)],
      (zPtn e.1 { reset := e.2 }).ptnState 0 = e.1 ∧ ((zPtn e.1 { reset := e.2 }).ptn 0).reset = e.2 ∧ (zPtn e.1).owl.fatalHub = false ∧ (zPtn e.1).life.erasing = none)
    ∧ (∀ st ∈ [ptnResetting, ptnDissolving], ((zPtn st { reset := some .dissolve }).ptn 0).reset = some .dissolve ∧ (zPtn st).ptnState 0 ≠ ptnFree) := by decide +kernel
/-- A tracker of partition 0 that is outstanding. -/
def zOutstanding : State :=
  { zPtn ptnResetting { reset := some .dissolve } with noc := { z.noc with trackers := [(0, newRequest (.tile 0) { lab0 with ptn := 0 } .write 0 0 32 [])] } }
theorem wit_PartitionsLive_drain : (zPtn ptnResetting { reset := some .dissolve }).resetDrained 0 = true ∧ ((zPtn ptnResetting { reset := some .dissolve }).ptn 0).drained = false
    ∧ zOutstanding.ptnState 0 = ptnResetting ∧ zOutstanding.resetDrained 0 = false ∧ ((zPtn ptnSealed).ptn 0).reset = none
    ∧ ((zPtn ptnResetting { reset := some .warm, drained := true }).ptn 0).drained = true := by decide +kernel
theorem wit_PartitionsLive_scrub : (zPtn ptnSealed).ptnState 0 ≠ ptnScrubbing ∧ (zPtn ptnSealed).ptnState 0 ≠ ptnDissolving
    ∧ (∀ st ∈ [ptnScrubbing, ptnDissolving], (zPtn st).ptnState 0 = st ∧ ((zPtn st).ptn 0).atEdge = none)
    ∧ ((zPtn ptnScrubbing { atEdge := some ptnSealed }).ptn 0).atEdge.isSome = true := by decide +kernel
/-- A SCRUBBING partition owns granule 0, whose first byte is set. -/
def zScrub : State := { (zPtn ptnScrubbing).setHgt 0 { state := .mapped } with mem := memPut [] 0 [5] }
theorem wit_ScrubbedMemoryIsZero : zScrub.ptnState 0 = ptnScrubbing ∧ (zScrub.ptn 0).atEdge = none ∧ zScrub.ownChiplets 0 = []
    ∧ 0 ∈ zScrub.granulesOf 0 ∧ zScrub.byte 0 = 5 ∧ (∃ t, exec (.badgerScrubDone 0 []) zScrub = .next t ∧ t.byte 0 = 0) :=
  ⟨by decide +kernel, by decide +kernel, by decide +kernel, by decide +kernel, by decide +kernel, ⟨_, rfl, by decide +kernel⟩⟩

/-- PTN_CTX_NEXT: context 1 at beat 5. -/
def next15 : Nat := 2 ^ 48 + 5
/-- Contexts 0 and 1 enabled; the edge of beat 5 lies in the cutoff, or not; the lifecycle record is `x`. -/
def zCtx (cutoff : Bool := false) (x : Ptn := {}) : State :=
  { ((zPtn ptnSealed x).wr .ptnCtxEnable 3).wr .ptnCtxDeadline 4 with beat := { z.beat with cutoff, number := 4 } }
theorem wit_ContextsAndVectors_next : field next15 63 52 = 0 ∧ ((zCtx).rd .ptnCtxEnable 0).testBit (field next15 51 48) = true ∧ (zCtx).switching 0 = false
    ∧ (zCtx).beat.number.toNat < field next15 47 0 ∧ (zCtx).beat.cutoff = false ∧ field (2 ^ 52) 63 52 ≠ 0
    ∧ ((zCtx).rd .ptnCtxEnable 0).testBit (field (2 ^ 49) 51 48) = false ∧ field 4 47 0 ≤ (zCtx).beat.number.toNat
    ∧ (zCtx true).beat.cutoff = true ∧ field next15 47 0 = (zCtx true).beat.number.toNat + 1 + (zCtx true).beat.skip
    ∧ (zCtx false { switch := some { src := none, dst := 1, begun := true, saving := [], restoring := [], item := none } }).switching 0 = true := by decide +kernel
theorem wit_ContextsAndVectors_miss : ((zCtx false { asked := some 0 }).ptn 0).asked = some 0 ∧ ((zCtx).ptn 0).asked = none
    ∧ ((0 : BitVec 48).toNat + (zCtx false { asked := some 0 }).rd .ptnCtxDeadline 0 ≤ (zCtx false { asked := some 0 }).beat.number.toNat) := by decide +kernel
/-- A switch to context 1, in which tile 0 is being saved or restored. -/
def sw (saving restoring : List Nat) : Switch := { src := none, dst := 1, begun := true, saving, restoring, item := none }
theorem wit_ContextsAndVectors_switch : ((zCtx).ptn 0).switch = none ∧ ((zCtx false { switch := some (sw [0] []) }).ptn 0).switch = some (sw [0] [])
    ∧ 0 ∈ (sw [0] []).saving ∧ (zCtx false { switch := some (sw [0] []) }).tileIdle 0 = true
    ∧ ((zCtx false { switch := some (sw [] [0]) }).ptn 0).switch = some (sw [] [0]) ∧ 0 ∈ (sw [] [0]).restoring
    ∧ (sw [] [0]).dst ∉ ((zCtx false { switch := some (sw [] [0]) }).ptn 0).saved ∧ (sw [] [0]).saving = [] ∧ (∀ x ∈ (sw [] [0]).restoring, x = 0) := by
  decide +kernel
/-- Vector 0 of partition 0 has this entry. -/
def zVec (st : Nat) (e : Nat) : State := (zPtn st).wr .ptnIntrMap e
/-- PTN_INTR_MAP entries: KIND, MASK, BOUND. -/
def ent (kind mask bound : Nat) : Nat := kind * 2 ^ 62 + mask * 2 ^ 56 + bound * 2 ^ 57
theorem wit_ContextsAndVectors_vectors : ((zVec 3 0).vecMap 0 0).kind = 0 ∧ (∀ k ∈ [1, 2, 3], ((zVec 3 (ent k 1 0)).vecMap 0 0).kind = k ∧ ((zVec 3 (ent k 1 0)).vecMap 0 0).mask = true
      ∧ ((zVec 3 (ent k 0 0)).vecMap 0 0).kind = k ∧ ((zVec 3 (ent k 0 0)).vecMap 0 0).mask = false ∧ ((zVec 3 (ent k 0 0)).vecMap 0 0).bound = false
      ∧ ((zVec 3 (ent k 0 1)).vecMap 0 0).bound = true ∧ ((zVec 3 (ent k 0 1)).vecMap 0 0).mask = false
      ∧ ((zVec 3 (ent k 0 1)).wr .ptnCtxRunning 2).rd .ptnCtxRunning 0 ≠ (((zVec 3 (ent k 0 1)).wr .ptnCtxRunning 2).vecMap 0 0).ctx
      ∧ ((zVec 3 (ent k 0 1)).wr .ptnCtxRunning 0).rd .ptnCtxRunning 0 = (((zVec 3 (ent k 0 1)).wr .ptnCtxRunning 0).vecMap 0 0).ctx)
    ∧ (zVec 3 0).owl.fatalHub = false ∧ (zVec ptnSealed 0).ptnState 0 ≠ ptnHalted ∧ (zVec ptnHalted 0).ptnState 0 = ptnHalted := by decide +kernel

/-! ## The security engine and the life cycle -/

/-- Bytes with some of them set, and zeros from there to a length. -/
def blob (m : AMap Byte) (n : Nat) : List Byte := (List.range n).map (fun i => m.get i 0)
/-- A key blob of this KIND, for slot 0 of its kind, without a policy. -/
def delivery (kind : Byte) : List Byte := blob [(0, 1), (2, kind)] 2384
/-- Partition 0 SEALED with these keys. -/
def zKeys (ks : AMap KeySlot) : State := { zPtn ptnSealed with sec := { z.sec with slots := ks } }
theorem wit_KeysAndEvidence_deliver : (delivery 1).length = 2384 ∧ (delivery 9).length = 2384 ∧ Role.operator ≠ .tenant
    ∧ (zKeys [(slotPak 0, { material := 1 })]).deliveryStatus 0 (blobOf (delivery 1)) (some 5) = keyLoaded
    ∧ (zKeys [(slotPak 0, { material := 1 })]).deliveryStatus 0 (blobOf (delivery 9)) (some 5) = keyFormat
    ∧ z.deliveryStatus 0 (blobOf (delivery 1)) (some 5) = keyNotSealed := by decide +kernel
/-- SEC_IMPORT: one chunk from PPA 0 to granule 2, under the checkpoint key. -/
def imp1 : Nat := 2 * Config.granule * 2 ^ 160 + 2 ^ 144 + 8 * 2 ^ 140
theorem wit_KeysAndEvidence_import : imp1 < 2 ^ 256 ∧ field imp1 215 208 = 0 ∧ field imp1 207 160 % Config.granule = 0 ∧ field imp1 159 144 ≠ 0
    ∧ field imp1 143 140 = 8 ∧ field imp1 138 0 = 0 ∧ z.sec.imports.find 0 = none ∧ (z.wr .secImport imp1 0 0).keySlot (slotCkpt 0) = none
    ∧ ((zKeys [(slotCkpt 0, { material := 7 })]).wr .secImport imp1 0 0).keySlot (slotCkpt 0) = some { material := 7 } := by decide +kernel
/-- An import of one record. -/
def import1 (revoked : Bool := false) : Import :=
  { src := 0, dst := 2 * Config.granule, count := 1, slot := slotCkpt 0, byHeader := false, key := { material := 7 }, revoked }
/-- It runs, with no granule mapped. -/
def zImports (revoked : Bool := false) : State := { zPtn ptnSealed with sec := { z.sec with imports := [(0, import1 revoked)] } }
theorem wit_KeysAndEvidence_imports : (zImports).sec.imports.find 0 = some (import1) ∧ (import1).revoked = false ∧ 0 < (import1).count ∧ (import1).count = 1
    ∧ (∀ k, k < (import1).count → (zImports).readSpan 0 ((import1).src + k * chunkBytes) chunkBytes = none)
    ∧ (zImports true).sec.imports.find 0 = some (import1 true) ∧ (import1 true).revoked = true := by decide +kernel
theorem wit_KeysAndEvidence_rotate : (zPtn ptnSealed).ptnState 0 = ptnSealed ∧ (zPtn ptnSealed).rd .secRotateState 0 0 = rotIdle
    ∧ (2 : Nat) < 256 ∧ (2 : Nat) ≠ 1 ∧ z.ptnState 0 ≠ ptnSealed ∧ ((zPtn ptnSealed).wr .secRotateState 1 0 0).rd .secRotateState 0 0 ≠ rotIdle := by decide +kernel
/-- Both fabric keys of partition 0, the newer from beat 4; the beat is `n`. -/
def zFabric (n : BitVec 48) : State :=
  { zKeys [(slotFabric 0 0, { material := 1 }), (slotFabric 0 1, { material := 2, gen := 1, switchBeat := 4 })] with beat := { z.beat with number := n } }
theorem wit_KeysAndEvidence_retire : ∃ a b, (∀ n, (zFabric n).keySlot (slotFabric 0 0) = some a ∧ (zFabric n).keySlot (slotFabric 0 1) = some b)
    ∧ b.gen = (a.gen + 1) % 4 ∧ (zFabric 0).beat.number.toNat < b.switchBeat + (zFabric 0).rd .secFkGrace 0 0
    ∧ b.switchBeat + (zFabric (2 ^ 40)).rd .secFkGrace 0 0 ≤ (zFabric (2 ^ 40)).beat.number.toNat ∧ (zFabric (2 ^ 40)).sox.conns = []
    ∧ z.keySlot (slotFabric 0 0) = none :=
  ⟨_, _, fun _ => ⟨rfl, rfl⟩, by decide +kernel, by decide +kernel, by decide +kernel, by decide +kernel, by decide +kernel⟩
theorem wit_KeysAndEvidence_spdm : z.hasEndpoint 1 = false ∧ (zr .secState 0).seUp = false ∧ z.hasEndpoint 0 = true ∧ (zr .secState seOperational).seUp = true
    ∧ z.lc ≠ lcScrapped ∧ z.lc ≠ lcLocked ∧ (zr .lcsState lcScrapped).lc = lcScrapped ∧ (z.block 0 1).isSome = true ∧ z.block 0 16 = none := by decide +kernel
/-- The body of a grant for partition 0 of a state: scope 1, one beat. -/
def grantOf (s : State) : List Byte :=
  [1, 0, 1, 0, 1, 0, 0, 0] ++ List.replicate 16 0 ++ (toLe 64 (s.sealDigest 0) ++ List.replicate 3496 0)
def zTenant : State := zr .secTenantKey 1 0 0
theorem wit_KeysAndEvidence_grant : (grantOf zTenant).length = 3584 ∧ zTenant.rd .secTenantKey 0 0 ≠ 0 ∧ zTenant.grantFits 0 (grantOf zTenant) = true
    ∧ z.rd .secTenantKey 0 0 = 0 ∧ (List.replicate 3584 (0 : Byte)).length = 3584 ∧ zTenant.grantFits 0 (List.replicate 3584 0) = false := by
  have hd : (grantOf zTenant).drop 0x18 = toLe 64 (zTenant.sealDigest 0) ++ List.replicate 3496 0 := rfl
  have h1 : bytesAt (grantOf zTenant) 0x18 64 = zTenant.sealDigest 0 % 2 ^ 512 := by
    rw [bytesAt, hd, List.take_left' (toLe_length ..), leNat_toLe, show (256 : Nat) ^ 64 = 2 ^ 512 by rw [show (256 : Nat) = 2 ^ 8 from rfl, ← Nat.pow_mul]]
  have h2 : bytesAt (grantOf zTenant) 0x58 40 = 0 := by
    rw [bytesAt, show 0x58 = 0x18 + 64 from rfl, ← List.drop_drop, hd, List.drop_left' (toLe_length ..)]
    decide +kernel
  refine ⟨?_, by decide +kernel, ?_, by decide +kernel, List.length_replicate, by decide +kernel⟩
  · simp only [grantOf, List.length_append, toLe_length, List.length_replicate, List.length_cons, List.length_nil]
  · unfold State.grantFits
    rw [h1, h2]
    have hn : bytesAt (grantOf zTenant) 8 16 = 0 := rfl
    have hm : zTenant.rd .secDebugNonce 0 0 = 0 := by decide +kernel
    have ha : bytesAt (grantOf zTenant) 0 1 = 1 ∧ bytesAt (grantOf zTenant) 1 1 = 0 ∧ bytesAt (grantOf zTenant) 2 2 = 1 ∧ bytesAt (grantOf zTenant) 4 4 = 1 :=
      ⟨rfl, rfl, rfl, rfl⟩
    simp [hn, hm, ha]
/-- A grant of this scope is in force for partition 0, whose granule 0 is mapped or not. -/
def zGrant (scope : Nat) (dlen : Nat := 1) : State :=
  { zDir (mapped0) with regs := (zr .jayPtnRange dlen).regs, sec := { z.sec with grants := [(0, { scope, beats := 3 })] } }
theorem wit_KeysAndEvidence_debug : (0 : Nat) < 2 ^ 256 ∧ field 0 207 199 + 1 ≤ 256 ∧ field 0 195 0 = 0 ∧ field 0 197 196 = 0 ∧ (0 : Nat).testBit 198 = false
    ∧ z.sec.grants.find 0 = none ∧ (∀ e ∈ [(zGrant 0, false), (zGrant 1, true), (zGrant 1 0, true)],
        (e.1.sec.grants.find 0).map (fun g => g.scope.testBit 0) = some e.2)
    ∧ (zGrant 1 0).readSpan 0 (field 0 255 208) (field 0 207 199 + 1) = none ∧ ((zGrant 1).readSpan 0 (field 0 255 208) (field 0 207 199 + 1)).isSome = true
    ∧ z.rd .secDebugState 0 0 ≤ 1 ∧ 1 < (zr .secDebugState 3 0 0).rd .secDebugState 0 0 := by decide +kernel

/-- A key whose policy asks for a grant that is not in force, or for nothing. -/
def zPolicy (flags : Nat) : State := { zKeys [(slotContent 0 0, { material := 1, flags })] with sec := { (zGrant 1).sec with slots := [(slotContent 0 0, { material := 1, flags })] } }
theorem wit_PoliciesEnforced : (∀ k ∈ tenantSlots 0, k ≠ slotContent 0 0 → (zPolicy 0).keySlot k = none ∧ (zPolicy 16).keySlot k = none ∧ ((zPolicy 16).revoke 0 (slotContent 0 0)).keySlot k = none)
    ∧ (zPolicy 0).keySlot (slotContent 0 0) = some { material := 1 } ∧ (zPolicy 0).policyHolds 0 0 [] = true
    ∧ (zPolicy 16).keySlot (slotContent 0 0) = some { material := 1, flags := 16 } ∧ (zPolicy 16).policyHolds 0 16 [] = false := by decide +kernel

/-- A record of this KIND and pair, signed by the vendor's test root, with further bytes `m`. -/
def lcRec (kind src dst : Byte) (m : AMap Byte := []) (root1 : Nat := 1) (sig1 : Bool := true) : LcRecord :=
  { bytes := blob ([(0, 1), (1, kind), (2, src), (3, dst), (0x60, 1)] ++ m) 112 ++ List.replicate 10736 0, root1, root2 := 0, sig1, sig2 := false }
/-- A hub in this life-cycle state. -/
def zLc (st : Nat) : State := zr .lcsState st
theorem wit_LifeCycleMoves_order : (lcRec 1 0 1).bytes.length = 10848 ∧ (zLc lcScrapped).lc = lcScrapped ∧ z.lc ≠ lcScrapped ∧ z.lc ≠ lcLocked ∧ z.lcBusy = false
    ∧ ({ z with life := { z.life with done := true } } : State).lcBusy = true := by decide +kernel
theorem wit_LifeCycleMoves_checks : z.lcCheck (lcRec 9 0 1) [1] ≠ 0 ∧ LcRecord.formatOk (lcRec 9 0 1) = false
    ∧ (z.lcCheck (lcRec 1 0 1) [1] = 0 ∧ LcRecord.erases (lcRec 1 0 1) = false ∧ LcRecord.zeroises (lcRec 1 0 1) = false)
    ∧ ((zLc lcReturned).lcCheck (lcRec 1 4 5 [] 3) [1] = 0 ∧ LcRecord.erases (lcRec 1 4 5 [] 3) = false ∧ LcRecord.zeroises (lcRec 1 4 5 [] 3) = true)
    ∧ ((zLc lcField).lcCheck (lcRec 1 3 5 [] 4) [1] = 0 ∧ LcRecord.erases (lcRec 1 3 5 [] 4) = true) := by decide +kernel
theorem wit_LifeCycleMoves_reasons : (∀ r ∈ [lcRec 1 0 1, lcRec 1 0 1 [(8, 1)], lcRec 1 1 2, lcRec 1 0 3, lcRec 1 0 1 [(0x10, 1)], lcRec 1 0 1 [] 9, lcRec 1 0 1 [] 1 false],
      LcRecord.formatOk r = true ∧ LcRecord.kind r = 1)
    ∧ LcRecord.at (lcRec 1 0 1 [(8, 1)]) 8 8 ≠ z.life.otp.unitId ∧ LcRecord.at (lcRec 1 0 1) 8 8 = z.life.otp.unitId ∧ LcRecord.src (lcRec 1 1 2) ≠ z.lc
    ∧ LcRecord.src (lcRec 1 0 1) = z.lc ∧ z.life.otp.signers (lcRec 1 0 3) = none ∧ z.life.otp.signers (lcRec 1 0 1) = some (1, none)
    ∧ LcRecord.at (lcRec 1 0 1 [(0x10, 1)]) 0x10 16 ≠ z.rd .lcsNonce ∧ LcRecord.at (lcRec 1 0 1) 0x10 16 = z.rd .lcsNonce
    ∧ LcRecord.rootsOk (lcRec 1 0 1 [] 9) (1, none) = false ∧ LcRecord.rootsOk (lcRec 1 0 1) (1, none) = true
    ∧ LcRecord.signed (lcRec 1 0 1 [] 1 false) = false ∧ LcRecord.signed (lcRec 1 0 1) = true := by decide +kernel
/-- OTP with no mark burnt. -/
def zBlank : State := { z with life := { z.life with otp := { z.life.otp with marks := [0, 0, 0, 0, 0] } } }
theorem wit_LifeCycleMoves_burn : LcRecord.src (lcRec 1 0 1) = lcWafer ∧ LcRecord.dst (lcRec 1 0 1) = lcAssembly ∧ zBlank.startup.pwrFail = false
    ∧ (zBlank.life.otp.burn lcAssembly 16).reached lcAssembly = true := by decide +kernel
theorem wit_LifeCycleMoves_erasure : z.life.erasing = none ∧ (zPtn ptnSealed).formed 0 = true ∧ (∀ p < 32, z.formed p = false) ∧ z.owl.fatalHub = false
    ∧ (zr .secState seOperational).seUp = true ∧ (zr .secState seZeroised).seUp = false ∧ zHub.owl.fatalHub = true := by decide +kernel
theorem wit_LifeCycleMoves_tokens : z.lcCheck (lcRec 1 0 1) [2, 3] ≠ 0 ∧ z.lcCheck (lcRec 2 0 0 [(4, 1)]) [2, 3] = 0 := by decide +kernel
theorem wit_LifeCycleMoves_versions : (zLc lcField).lc = lcField ∧ (zLc lcField).startup.pwrFail = false ∧ 0 ≤ (zLc lcField).rd .lcsSvn
    ∧ (zLc lcField).rdField .secFwVersion 31 0 < 255 ∧ (((zLc lcField).wr .secFwVersion 9).rd .lcsSvn < 3 ∧ 3 ≤ ((zLc lcField).wr .secFwVersion 9).rdField .secFwVersion 31 0)
    ∧ z.lc ≠ lcField := by decide +kernel
theorem wit_InterruptedBurnDecodes : zBlank.life.otp.marks.length = 5 ∧ zBlank.life.otp.decode.state ≠ lcLocked ∧ zBlank.life.otp.decode.state < 5 ∧ lcAssembly ≠ lcScrapped
    ∧ (zBlank.life.otp.burn lcAssembly 7).decode.state = 0 ∧ (zBlank.life.otp.burn lcAssembly 16).decode.state = 1 := by decide +kernel
/-- A scope is open, with a scan not yet shifted or without one. -/
def zScan (opened : Bool) : State := { zr .lcsDebugScope 5 with life := { z.life with opened } }
theorem wit_TapInstructions : (∀ i ∈ [TapIr.sample, .extest, .ieee1500, .lcToken, .intscan, .mbistAcc], (zLc lcScrapped).tapAdmits i = false)
    ∧ z.tapAdmits .sample = true ∧ z.tapAdmits .ieee1500 = true ∧ z.tapAdmits .lcToken = true ∧ z.tapAdmits .extest = true ∧ z.lc ≠ lcField
    ∧ (((zLc lcField).wr .lcsBscanEn 1).tapAdmits .extest = true ∧ ((zLc lcField).wr .lcsBscanEn 1).lc = lcField)
    ∧ (∀ b, (zScan b).tapAdmits .intscan = true ∧ (zScan b).tapAdmits .mbistAcc = true ∧ (zScan b).life.opened = b)
    ∧ LcRecord.kind (lcRec 1 0 1) = 1 ∧ LcRecord.kind (lcRec 2 0 0) ≠ 1 := by decide +kernel

/-! ## The host -/

/-- The link up and the hub at READY, or not; partition 0 in a state. -/
def zHostUp (ready : Nat := 1) (st : Nat := 0) : State := ((zr .hepLinkState linkUp).wr .pdxReady ready).wr .ptnState st
/-- A hub reset is being carried out. -/
def zResetting : State := { zHostUp with startup := { z.startup with reset := some { cold := false, fault := false, cause := 0 } } }
def readAt (off len : Nat) : HostReq := { bar2 := false, off, data := none, len, ep := false }
theorem wit_HostRequests_link : z.rd .hepLinkState ≠ linkUp ∧ (zHostUp).rd .hepLinkState = linkUp ∧ (zHostUp).rd .pdxReady = 1 ∧ (zHostUp 0).rd .pdxReady ≠ 1
    ∧ (zHostUp 0).rd .hepLinkState = linkUp ∧ (zHostUp 0).startup.reset = none ∧ (zHostUp 0).owl.fatalHub = false ∧ zResetting.startup.reset.isSome = true
    ∧ zResetting.rd .hepLinkState = linkUp ∧ (zHostUp).startup.reset = none ∧ (zHostUp).owl.fatalHub = false := by decide +kernel
/-- After a FATAL-HUB. -/
def zHostDown : State := { zHostUp with owl := { z.owl with fatalHub := true } }
theorem wit_HostRequests_functions : (zHostUp).hep.queue.find 0 = none ∧ (zHostUp).hostOut 0 = [] ∧ (zHostUp).col.paused.find 0 = none
    ∧ (zHostDown.hep.queue.find 0 = none ∧ zHostDown.hostOut 0 = [] ∧ zHostDown.owl.fatalHub = true ∧ zHostDown.rd .pdxReady = 1 ∧ zHostDown.rd .hepLinkState = linkUp)
    ∧ vfGroup 0x18 = .reserved ∧ vfGroup 0x100 = .control ∧ vfGroup 0 ≠ .reserved ∧ vfSizeOk 0x100 8 = true ∧ vfSizeOk 0x100 3 = false
    ∧ (zHostUp).ptnState 0 = ptnFree ∧ (zHostUp 1 ptnFormed).ptnState 0 = ptnFormed ∧ (zHostUp 1 ptnSealing).ptnState 0 = ptnSealing
    ∧ 4 ≤ (zHostUp 1 ptnHalted).ptnState 0 ∧ (zHostUp 1 ptnSealed).ptnState 0 = ptnSealed ∧ (readAt 0x100 8).data = none ∧ (readAt 0x100 8).bar2 = false := by
  decide +kernel
/-- The export block as set by the host, at a status; a checkpoint key is held or not. -/
def zExport (status : Nat) (on : Nat := 1) (st : Nat := ptnSealed) (ks : AMap KeySlot := []) : State :=
  { (zHostUp 1 st).wr .hepHostCkpt on 0 0 with hep := { z.hep with exp := { status, what := 2 ^ 15, run := 2 ^ 15 } }, sec := { z.sec with slots := ks } }
theorem wit_HostRequests_export : (zExport xpRunning).hep.exp.status = xpRunning ∧ (zExport xpDone).hep.exp.status ≠ xpRunning ∧ (zExport xpDone 0).rd .hepHostCkpt 0 0 ≠ 1
    ∧ (zExport xpDone).rd .hepHostCkpt 0 0 = 1 ∧ (zExport xpDone 1 ptnFormed).ptnState 0 ≠ ptnSealed ∧ (zExport xpDone).ptnState 0 = ptnSealed
    ∧ (zExport xpDone).keySlot (slotCkpt 0) = none ∧ ((zExport xpDone 1 ptnSealed [(slotCkpt 0, { material := 1 })]).keySlot (slotCkpt 0)).isSome = true
    ∧ field (zExport xpDone).hep.exp.what 63 59 = 0 ∧ field (zExport xpRunning).hep.exp.run 30 15 ≠ 0
    ∧ (zExport xpRunning).keySlot (slotCkpt (zExport xpRunning).hep.exp.ptn) = none := by decide +kernel
theorem wit_HostRequests_writes : z.dictRuns = false ∧ (0x10 : Nat) < 0x1000 ∧ 0x10 + 8 ≤ 0x1000 := by decide +kernel

/-- HEP_SLOT in this state, with these bits; the controller runs. -/
def zModule (st : Nat) (bits : Nat := 0) (h : Hep := {}) : State := { (zr .pdxBringupStep 5).wr .hepSlot (st * 2 ^ 21 + bits) with hep := h }
theorem wit_SlotAndLink_insertion : (zModule slotEmpty).slotRuns = true ∧ (zModule slotEmpty).slotBit slotPresent = false ∧ z.slotRuns = false
    ∧ (((zModule slotEmpty).setSlotBit slotPresent true).attnInd indOff).slotState = slotEmpty
    ∧ (((zModule slotFault).setSlotBit slotPresent true).attnInd indOff).slotState ≠ slotEmpty
    ∧ ((zModule slotPowering 0 { en1 := true, en2 := true }).setSlotBit slotPg1 true).slotState = slotPowering
    ∧ ((zModule slotPowering 0 { en1 := true, en2 := true }).setSlotBit slotPg1 true).hep.en1 = true
    ∧ ((zModule slotPowering 0 { en1 := true, en2 := true }).setSlotBit slotPg2 true).slotState = slotPowering
    ∧ ((zModule slotPowering 0 { en1 := true, en2 := true }).setSlotBit slotPg2 true).hep.en2 = true
    ∧ ((zModule slotFault).setSlotBit slotPg1 true).slotState ≠ slotPowering := by decide +kernel
theorem wit_SlotAndLink_removal : (zModule slotPowering).slotState = slotPowering ∧ (zModule slotPowered).slotState = slotPowered
    ∧ (zModule slotRemovePending).slotState = slotRemovePending ∧ (zModule slotRemovePending).hep.waited = false ∧ ((zModule slotRemovePending).setSlotBit slotButton true).hep.waited = false
    ∧ (zModule slotRemovePending 0 { waited := true }).slotState = slotRemovePending ∧ (zModule slotRemovePending 0 { waited := true }).hep.waited = true
    ∧ (zModule slotRemovePending 0 { acked := true }).slotState = slotRemovePending ∧ (zModule slotRemovePending 0 { acked := true }).hep.acked = true
    ∧ (zModule slotRemovePending).hep.acked = false ∧ (zModule slotPowered).slotState ≠ slotRemovePending ∧ (zModule slotPowered (2 ^ 20)).slotBit slotPresent = true
    ∧ (zModule slotPowered (2 ^ 20)).slotState = slotPowered ∧ (zModule slotFault (2 ^ 20)).slotState = slotFault := by decide +kernel
theorem wit_SlotAndLink_link : z.rd .hepLinkState = 0 ∧ ((zModule slotPowered).wr .hepLinkState linkUp).rd .hepLinkState ≠ 0
    ∧ ((zModule slotPowered).wr .hepLinkState linkUp).slotState ≠ slotRemovePending
    ∧ ((zModule slotRemovePending 0 { acked := true }).wr .hepLinkState linkUp).rd .hepLinkState ≠ 0
    ∧ ((zModule slotRemovePending 0 { acked := true }).wr .hepLinkState linkUp).slotState = slotRemovePending
    ∧ (∃ v : State, v = (((zModule slotRemovePending).wr .hepLinkState linkUp).linkDown.bump .hepSurpriseLosses).ev Ev.hepSurprise ∧ v.slotState = slotRemovePending)
    ∧ (∃ v : State, v = (((zModule slotPowered).wr .hepLinkState linkUp).linkDown.bump .hepSurpriseLosses).ev Ev.hepSurprise ∧ v.slotState ≠ slotRemovePending)
    ∧ ((zModule slotPowered).rd .hepLinkState = 0 ∧ (zModule slotPowered).hep.perst = false ∧ (zModule 0 0 { perst := true }).hep.perst = true)
    ∧ (((zModule slotPowered).wr .hepLinkState linkUp).wr .hepLinkRate 1).slotState = slotPowered := by
  refine ⟨by decide +kernel, by decide +kernel, by decide +kernel, by decide +kernel, by decide +kernel, ⟨_, rfl, by decide +kernel⟩, ⟨_, rfl, by decide +kernel⟩,
    by decide +kernel, by decide +kernel⟩
theorem wit_SlotAndLink_pins : 1 ≤ (zModule 0).rd .pdxBringupStep ∧ z.rd .pdxBringupStep = 0 ∧ z.owl.fatalHub = false ∧ 2 ≤ (zr .soxPortState 2 0 3).rd .soxPortState 0 3
    ∧ z.rd .soxPortState 0 3 < 2 ∧ (zr .soxPortState 2 0 3).ownAddr 3 (((zr .soxPortState 2 0 3).rd .soxIpv6Prefix 0 3) * 2 ^ 64 + (z.rd .soxPkgId)) = true
    ∧ (zr .soxPortState 2 0 3).ownAddr 3 (2 ^ 128 - 1) = false := by decide +kernel

/-! ## The dictionary -/

def actor (role : Role) (p : Nat := 0) : Actor := { role, ptn := p }
/-- A property of the entry at an index and sub-index. -/
def entryIs (i sub : Nat) (f : DTarget → Bool) : Bool := (dictFind i sub).any f
/-- Every entry's type, role and range checks, as a written value meets them. -/
def gates (s : State) (a : Actor) (b : List Byte) (t : DTarget) : List Bool :=
  [mayWrite t.e.acc a.role, s.inScope a t, t.e.ty.encodes b, t.e.ty.fits (leNat b), (s.ownWrite a t b []).isNone, t.e.range.holds (leNat b), s.jointOk [] t (leNat b)]
theorem wit_ItemsChecked_items : z.indexReady 0x3000 = false ∧ zReady.indexReady 0x3000 = true ∧ dictFind 0x3000 9 = none
    ∧ entryIs 0x3000 0 (fun t => gates zReady (actor .vendor) (toLe 8 8000) t == [false, true, true, true, true, true, true]) = true
    ∧ entryIs 0x3010 1 (fun t => gates zReady (actor .tenant) [0] t == [false, false, true, true, true, true, true]) = true
    ∧ entryIs 0x3000 0 (fun t => gates zReady (actor .operator) [1] t == [true, true, false, true, true, false, true]) = true
    ∧ entryIs 0x4001 0 (fun t => gates zReady (actor .operator) [7] t == [true, true, true, false, true, true, true]) = true
    ∧ entryIs 0x4013 0 (fun t => gates zReady (actor .operator) (toLe 4 1) t == [true, true, true, true, false, true, true]) = true
    ∧ entryIs 0x3000 0 (fun t => gates zReady (actor .operator) (toLe 8 1) t == [true, true, true, true, true, false, true]) = true
    ∧ entryIs Reg.hbmTempThrottle.idx 0 (fun t => gates zReady (actor .operator) [0] t == [true, true, true, true, true, true, false]) = true
    ∧ entryIs 0x3000 0 (fun t => gates zReady (actor .operator) (toLe 8 8000) t == [true, true, true, true, true, true, true]) = true := by decide +kernel
theorem wit_ItemsChecked_classes : entryIs Reg.beatPpsOut.idx 0 (fun t => t.e.apply == .live) = true ∧ entryIs 0x3000 0 (fun t => t.e.apply == .reset) = true
    ∧ entryIs Reg.hbmTempHigh.idx 0 (fun t => t.e.apply == .beat) = true ∧ z.beat.cutoff = false ∧ zCutoff.beat.cutoff = true
    ∧ entryIs 0x2002 0 (fun t => t.e.apply == .idle && (zPtn ptnFormed).ptnState (t.ptn.getD 0) != ptnFree) = true
    ∧ entryIs 0x3010 0 (fun t => t.e.apply == .onSeal && (zPtn ptnSealed).isSealed (t.ptn.getD 0)) = true
    ∧ entryIs 0x3001 0 (fun t => t.e.apply == .none) = true := by decide +kernel
/-- Controller firmware runs, and the hub is at READY or not. -/
def zServe (ready : Nat := 1) : State := (zr .pdxBringupStep 5).wr .pdxReady ready
theorem wit_ItemsChecked_roots : (zServe).dictRuns = true ∧ (Role.vendor = .vendor ∧ z.lc < lcField) ∧ (Role.security = .security ∧ (zLc lcField).lc = lcField) := by
  decide +kernel
def item (i : Nat) (v : List Byte := []) (sub : Nat := 0) : DictItem := { index := i, sub, value := v, aux := [] }
theorem wit_RefusedItemsChangeNothing : entryIs 0x3000 0 (fun t => (zReady.ownWrite (actor .vendor) t [] []).isNone) = true
    ∧ (zReady.itemWrite [] (actor .vendor) 0x3000 0 [] []).1 ≠ stOk ∧ (zReady.itemWrite [] (actor .vendor) 0x3000 0 [] []).1 ≠ stPending
    ∧ (zReady.atomic (some (actor .operator)) [item 0x3000]).1 ≠ stOk
    ∧ (zReady.atomic (some (actor .operator)) [item Reg.hbmTempHyst.idx [5], item Reg.jayBeatBudget.idx [2]]).1 = stOk := by decide +kernel

/-- A request of these items, in no session or in session 1. -/
def asks (items : List DictItem) (session : Nat := 0) (formOk : Bool := true) : DictReq := { ep := .mgmt, session, seq := 9, tagOk := true, tag := 4, formOk, items }
theorem wit_FramesAndSessions_anonymous : z.dictRuns = false ∧ (zServe).dictRuns = true ∧ (zServe).epUp .mgmt = true ∧ (zServe).epUp .pf0 = false ∧ (zServe).dead = false
    ∧ kindItems 1 0 = false ∧ kindItems 1 1 = true ∧ (asks []).items = [] ∧ (asks [] 0 false).formOk = false ∧ (asks []).formOk = true
    ∧ anonymousIndex 0x3000 = false ∧ anonymousIndex 0x1000 = true ∧ (dictFind 0x1000 0).isSome = true ∧ (zServe).indexReady 0x1000 = true := by decide +kernel
/-- Session 1 on the management port, proven or not, which has served a request or none. -/
def sess (proven : Bool := true) (seq : Nat := 0) (head : List Nat := []) : Session :=
  { number := 1, role := .operator, ptn := 0, ep := .mgmt, key := 6, proven, seq, tag := 4, lastHead := head }
def zSess (x : Session) : State := { zServe with dict := { z.dict with sessions := [(0, x)] } }
theorem wit_FramesAndSessions_sessions : (zServe).sessionOn 1 .mgmt = none ∧ (∀ x ∈ [sess false, sess, sess true 9 [1, 0, 0, 0, 0], sess true 10 [1, 0, 0, 0, 0], sess true 8 [1, 0, 0, 0, 0]],
      (zSess x).sessionOn 1 .mgmt = some (0, x) ∧ x.fails + 1 < 16)
    ∧ (asks [] 1).seq = (sess true 9 [1, 0, 0, 0, 0]).seq ∧ (asks [] 1).tag = (sess true 9 [1, 0, 0, 0, 0]).tag ∧ (asks [] 1).seq ≤ (sess true 10).seq
    ∧ (sess true 8).seq < (asks [] 1).seq ∧ (asks [] 1).session ≠ 0 ∧ (sess).lastHead = [] ∧ (sess false).proven = false := by decide +kernel
/-- A unit of 16 B of message 3, the first of several; and one of another length than it says. -/
def unit0 (n : Nat) : List Byte := segmentHead 3 0 false 16 ++ List.replicate n 7
theorem wit_FramesAndSessions_units : ((unit0 16).drop 8).length = (segmentOf (unit0 16)).len ∧ 8 ≤ (unit0 16).length ∧ (segmentOf (unit0 16)).seg = 0
    ∧ (segmentOf (unit0 16)).len ≤ 16384 ∧ (segmentOf (unit0 16)).last = false ∧ (zServe).dict.frames = []
    ∧ ((unit0 5).drop 8).length ≠ (segmentOf (unit0 5)).len ∧ (∀ k, (zServe).frame12 (frame0 0) k = k zServe) := by
  refine ⟨by decide +kernel, by decide +kernel, by decide +kernel, by decide +kernel, by decide +kernel, by decide +kernel, by decide +kernel, ?_⟩
  exact passes12 _ _ (by decide +kernel)
/-- A hub in FIELD with these roots' digests; the engine is operational. -/
def zField (root : Nat := 6) : State := (((zServe).wr .lcsState lcField).wr .pdxOperatorRoot root).wr .secState seOperational
theorem wit_FramesAndSessions_open : Role.ofCode 9 = none ∧ Role.ofCode 2 = some .operator ∧ Role.ofCode 4 = some .tenant ∧ roleOn .mctp .tenant 0 = false ∧ roleOn .mgmt .operator 0 = true
    ∧ (zServe).roleRoot .operator 0 = none ∧ ((zField).roleRoot .operator 0).isSome = true ∧ (zField).seUp = true ∧ (zField).sessionRoom .operator 0 = true
    ∧ (zField).dictRuns = true ∧ (zField).dead = false
    ∧ ({ zField with dict := { z.dict with sessions := (List.range 8).map (fun i => (i, sess)) } } : State).sessionRoom .operator 0 = false := by decide +kernel
theorem wit_FramesAndSessions_prove : (zField).sessionOn 1 .mgmt = none ∧ (∀ x ∈ [sess false, sess], ({ zField with dict := { z.dict with sessions := [(0, x)] } } : State).sessionOn 1 .mgmt = some (0, x))
    ∧ (sess false).key ≠ 0 ∧ (zField).roleRoot (sess false).role (sess false).ptn = some (sess false).key ∧ (zField 7).roleRoot (sess false).role 0 ≠ some (sess false).key
    ∧ (sess false).proven = false ∧ (zLc lcScrapped).dead = true ∧ (zServe).dead = false ∧ (zr .secState seError).seUp = false ∧ z.hasEndpoint 5 = false
    ∧ z.hasEndpoint 0 = true := by decide +kernel
theorem wit_TenantScope : (actor .tenant).role = .tenant ∧ (∀ i ∈ [0x3010, 0x2000, 0x4013, 0x3000], zReady.indexReady i = true)
    ∧ entryIs 0x3010 1 (fun t => t.ptn == some 1) = true ∧ entryIs 0x3010 0 (fun t => t.ptn == some 0) = true
    ∧ entryIs 0x4013 0 (fun t => t.ptn == none && t.site == some 0 && !(zReady.rd .uciBind 0).testBit 0 && ((zReady.wr .uciBind 1).rd .uciBind 0).testBit 0) = true
    ∧ entryIs 0x3000 0 (fun t => t.ptn == none && t.site == none && (accOf t.e.acc .tenant).reads && !(accOf t.e.acc .tenant).writes) = true
    ∧ entryIs Reg.hbmTempHigh.idx 0 (fun t => t.ptn == none && t.site == none && !(accOf t.e.acc .tenant).reads) = true
    ∧ entryIs 0x3A05 0 (fun t => t.ptn == some 0 && (accOf t.e.acc .tenant).writes && gates zReady (actor .tenant) [8] t == [true, true, true, true, true, true, true]) = true
    ∧ entryIs 0x3A80 0 (fun t => t.ptn == some 0 && (accOf t.e.acc .tenant).writes && (zReady.ownWrite (actor .tenant) t (List.replicate 32 0) []).isSome
        && t.e.ty.encodes (List.replicate 32 0) && t.e.ty.fits 0) = true := by decide +kernel

/-! ## Starts, resets and power -/

/-- What a start finds on a package where every test passes. -/
def found0 : Findings :=
  { otpOk := true, selftest := true, seOk := true, ctlOk := true, seFw := 1, ctlFw := 2, seVersion := 0, ctlVersion := 0, blocks := [], tiles := [], spares := []
    sites := [], stackFinds := [], ports := [], roleOk := true, storeOk := true, topo := none }
/-- Block 3 runs at the next start, and its signatures are not its goldens. -/
def zBist : State := (zr .secState seError).wr .bstNextStart 8
def foundBad : Findings := { found0 with blocks := [{ block := 3, lbist := 1, mbist := 1 }] }
/-- A start in progress that is paused for a repair, or no longer. -/
def zPaused (pause : Bool) : State := { z.setSite 2 { pause } with startup := { z.startup with paused := true } }
/-- An engine in ERROR draws no keys, so that a start's tests can be evaluated. -/
def zErr : State := zr .secState seError
def zFast : State := { zErr with startup := { z.startup with fast := true } }
theorem wit_StartsAndResets_begin : z.starting = true ∧ z.startup.powered = true ∧ zReady.starting = false ∧ z.startup.paused = false
    ∧ ({ z with startup := { z.startup with powered := false } } : State).startup.powered = false
    ∧ (∀ b, (zPaused b).starting = true ∧ (zPaused b).startup.paused = true ∧ (List.range 8).any (fun k => ((zPaused b).site k).pause) = b) := by decide +kernel
theorem wit_StartsAndResets_findings : found0.otpOk = true ∧ (zLc lcScrapped).lc = lcScrapped ∧ (zLc lcScrapped).starting = true ∧ z.lc ≠ lcScrapped ∧ z.lc ≠ lcLocked
    ∧ found0.selftest = true ∧ found0.seOk = true ∧ z.rd .lcsSvn ≤ field found0.seVersion 31 0 ∧ field found0.seVersion 31 0 < (zr .lcsSvn 3).rd .lcsSvn
    ∧ found0.ctlOk = true ∧ (zErr.seStart found0).rd .lcsSvn ≤ field found0.ctlVersion 31 0 ∧ ((zErr.seStart found0).ctlStart found0).startup.fast = false
    ∧ ((zFast.seStart found0).ctlStart found0).startup.fast = true ∧ zFast.starting = true ∧ zErr.starting = true ∧ zErr.lc ≠ lcScrapped ∧ zErr.lc ≠ lcLocked
    ∧ (((zErr.seStart found0).ctlStart found0).bist found0).2 = none ∧ (((zBist.seStart foundBad).ctlStart foundBad).bist foundBad).2 = some 3 := by decide +kernel
theorem wit_StartsAndResets_writes : z.rd .pdxBringupStep < 3 ∧ 3 ≤ (zServe).rd .pdxBringupStep ∧ z.startup.reset = none ∧ zResetting.startup.reset = some { cold := false, fault := false, cause := 0 }
    ∧ z.startup.powered = true ∧ kindCold < 4 := by decide +kernel
/-- A reset by PDX_HUB_RESET of a hub that started well, with the fast path chosen; a cold one. -/
def zWarm (fast : Nat := 1) (cold : Bool := false) : State :=
  { (zr .pdxWarmFast fast).wr .pdxBringupResult startReady with startup := { z.startup with reset := some { cold, fault := false, cause := 0 } } }
theorem wit_StartsAndResets_effect : (zWarm).fastPath { cold := false, fault := false, cause := 0 } = true ∧ (zWarm 0).fastPath { cold := false, fault := false, cause := 0 } = false
    ∧ (zWarm).rd .sqlState = (zWarm 0).rd .sqlState ∧ (zWarm).rd .sqlState ≠ storeReady ∧ (zWarm 1 true).startup.reset = some { cold := true, fault := false, cause := 0 } := by
  decide +kernel

theorem wit_PowerAndHeat_power : z.startup.pwrFail = false ∧ ({ z with startup := { z.startup with pwrFail := true } } : State).startup.pwrFail = true
    ∧ zReady.starting = false ∧ z.starting = true ∧ Role.tenant ≠ .operator ∧ 2 ^ 64 ≤ 2 ^ 64 ∧ (1 : Nat) < 2 ^ 64
    ∧ (∃ s : State, s = { zPtn ptnSealed with plots := [(0, 0)] } ∧ (∃ q ∈ bitsOf 1 64, s.plotIdle q = false) ∧ s.plotOwner 0 = some 0)
    ∧ (∀ q ∈ bitsOf 1 64, z.plotIdle q = true) ∧ z.plotOwner 0 = none :=
  ⟨by decide +kernel, by decide +kernel, by decide +kernel, by decide +kernel, by decide, by decide, by decide, ⟨_, rfl, ⟨0, by decide, by decide +kernel⟩, by decide +kernel⟩,
    by decide +kernel, by decide +kernel⟩
theorem wit_PowerAndHeat_heat : field 0 127 80 ≠ z.beat.number.toNat + 1 ∧ zCutoff.beat.cutoff = true ∧ (0 < 8 ∧ 8 < field (9 * 4) (8 * 0 + 5) (8 * 0 + 2))
    ∧ z.thermDecideOk (2 ^ 80) = true := by decide +kernel
/-- A report by site 0 for beat 3 of a draw; the site's budget of the beat before, and whether it was over it. -/
def report (draw : Nat) : Nat := pwrReport * 2 ^ 120 + 3 * 2 ^ 88 + draw * 2 ^ 72
def zBudget (before : Nat) (isOver : Bool) : State := { z.setSitePwr 0 { before, isOver } with beat := { z.beat with number := 4 } }
theorem wit_PowerAndHeat_budget : z.sbxBusy false = true ∧ zReady.sbxBusy false = false ∧ field (pwrRevokeAck * 2 ^ 120) 127 120 = pwrRevokeAck ∧ field 0 127 120 ≠ pwrRevokeAck
    ∧ (z.sitePwr 0).waiting = false ∧ ((z.setSitePwr 0 { waiting := true }).sitePwr 0).waiting = true
    ∧ (∀ b, (zBudget 5 b).beat.cutoff = false ∧ ((zBudget 5 b).sitePwr 0).reported = false ∧ ((zBudget 5 b).sitePwr 0).isOver = b
        ∧ ((zBudget 5 b).sitePwr 0).before < field (report 9) 87 72 ∧ field (report 5) 87 72 ≤ ((zBudget 5 b).sitePwr 0).before
        ∧ ∀ d ∈ [5, 9], field (report d) 119 88 + 1 = (zBudget 5 b).beat.number.toNat % 2 ^ 32 ∧ field (report d) 127 120 = pwrReport) := by decide +kernel
theorem wit_BudgetsShared : (∀ c ∈ [Claimed.mk 0 8 2, Claimed.mk 1 4 4], c.low ≤ c.req) ∧ shareOut 9 [Claimed.mk 0 8 2, Claimed.mk 1 4 4] = [(0, 5), (1, 4)]
    ∧ shareOut 3 [Claimed.mk 0 8 2, Claimed.mk 1 4 4] = [(0, 1), (1, 2)] := by decide

/-! ## Faults, records and tests -/

def latch0 : Latch := { code := Ev.secPolicyRevoked, fsev := .corrected, level := .corrected, ovf := false, esc := false, cnt := false, beat := 5, detail := 0 }
/-- Partition 0's latch and the hub's hold an event. -/
def zLatch (l : Latch := latch0) : State := { z with owl := { z.owl with latches := [(0, l), (hubLatch, l)] } }
theorem wit_EventsRaised : sourceOf 0 = none ∧ (sourceOf Ev.secPolicyRevoked).isSome = true ∧ (16 ≤ AMap.get [(7, 15)] 7 0 + 1) ∧ AMap.get ([] : AMap Nat) 7 0 + 1 < 16
    ∧ (Severity.corrected = latch0.level ∧ Severity.corrected.rank < Severity.fatalHub.rank) ∧ Severity.contained ≠ latch0.level
    ∧ (zLatch).owl.latches.find 0 = some latch0 := by decide +kernel
/-- A write of OWL_ACK that names the latch's event, and one that does not. -/
def ack0 : Word := BitVec.ofNat 64 (latch0.code % 65536 * 2 ^ 48 + 5)
theorem wit_LatchesAndTriage_acks : (∃ l : Latch, l = { latch0 with level := .fatalPartition } ∧ (zLatch l).owl.latches.find 0 = some l ∧ 2 ≤ l.level.rank)
    ∧ ackMatches ((zLatch).owl.latches.find 0) 0 = false ∧ (ack0.extractLsb' 48 16).toNat = latch0.code % 65536 ∧ ack0.extractLsb' 0 48 = latch0.beat ∧ latch0.level.rank < 2
    ∧ ackMatches ((zLatch).owl.latches.find hubLatch) ack0 = true ∧ ackMatches ((zLatch).owl.latches.find hubLatch) 0 = false
    ∧ Role.vendor ≠ .operator ∧ Role.vendor ≠ .security := ⟨⟨_, rfl, by decide +kernel⟩, by decide +kernel⟩
/-- A raise of a site's source that waits for triage; a host decides it, or hardware. -/
def raise0 (sev : Severity := .contained) : Triage := { code := Ev.uciLevel 3, beat := 5, latch := 0, sev, detail := 0 }
def zTriage (mode : Nat) (sev : Severity := .contained) (flushing : Bool := false) : State :=
  { zr .owlTriageMode mode with owl := { z.owl with triage := [raise0 sev] }, sql := { z.sql with flushing } }
/-- OWL_TRIAGE_DECIDE for it, with an action. -/
def decide0 (a : Nat) : Nat := Ev.uciLevel 3 * 2 ^ 112 + a * 2 ^ 103 + 5 * 2 ^ 55
theorem wit_LatchesAndTriage_decide : decide0 1 < 2 ^ 128 ∧ (∀ t ∈ z.owl.triage, ¬ (t.code = 5)) ∧ field (decide0 1) 54 0 = 0
    ∧ (∀ m ∈ [0, 1], (zTriage m).owl.triage.find? (fun t => t.code == field (decide0 1) 127 112 && t.latch == field (decide0 1) 111 107
        && t.beat.toNat == field (decide0 1) 102 55) = some (raise0) ∧ (zTriage m).rd .owlTriageMode = m)
    ∧ actionValid (raise0) (TriageAction.ofCode (field (decide0 1) 105 103)) = true ∧ actionValid (raise0 .fatalPartition) .retry = false := by decide +kernel
theorem wit_LatchesAndTriage_hold : z.owl.triage.find? (fun t => t.latch == 0) = none ∧ (∀ m ∈ [0, 1], (zTriage m).owl.triage.find? (fun t => t.latch == 0) = some (raise0)
      ∧ (zTriage m).rd .owlTriageMode = m) ∧ (raise0).sev.fatal = false ∧ (sourceOf (raise0).code).isSome = true
    ∧ (raise0 .fatalPartition).sev.fatal = true ∧ (zTriage 0 .fatalPartition true).sql.flushing = true ∧ (raise0).latch < 32 ∧ siteSource (raise0).code = true
    ∧ (raise0 .fatalHub).sev = .fatalHub := by decide +kernel
/-- A record store that is ready, with a flush in progress or not, and a command that waits or not. -/
def zSql (flushing : Bool := false) (cmd : Option StoreCmd := none) (st : Nat := storeReady) : State :=
  { (zr .sqlState st).wr .sqlFlushMode 1 with sql := { z.sql with flushing, cmd, fillRaised := true } }
theorem wit_RecordsFlushed : (2 : Nat) ≠ 1 ∧ (zSql).sql.flushing = false ∧ (zSql true).sql.flushing = true ∧ 0 ≤ (zSql true).sql.buffer.length ∧ (zSql).rd .sqlFlushMode = 1
    ∧ (zSql).sql.fillRaised = true ∧ z.sql.fillRaised = false ∧ (zSql).rd .sqlState = storeReady ∧ (zSql false none storeForeign).rd .sqlState ≠ storeReady
    ∧ (zSql false none storeForeign).mayFormat .security = true ∧ (zSql).mayFormat .security = false ∧ (zLc lcField).mayEraseCirc .security = true ∧ z.mayEraseCirc .operator = false
    ∧ (zLc lcReturned).mayEraseFirst .vendor = true ∧ z.mayEraseFirst .vendor = false ∧ (zSql false (some .format)).sql.cmd.isSome = true ∧ (zSql).sql.cmd = none
    ∧ (∀ c, (zSql false (some c)).sql.cmd = some c ∧ (zSql false (some c)).sql.flushing = false)
    ∧ (∃ b : Bucket, b = { burst := 3, period := 7, tokens := 1, suppressed := 0, first := 0, last := 0 } ∧ ((z.setBucket 16 b).bucket 16).period ≠ 0
        ∧ ((z.setBucket 16 b).bucket 16).tokens < ((z.setBucket 16 b).bucket 16).burst) := by
  refine ⟨by decide +kernel, by decide +kernel, by decide +kernel, by decide +kernel, by decide +kernel, by decide +kernel, by decide +kernel, by decide +kernel, by decide +kernel,
    by decide +kernel, by decide +kernel, by decide +kernel, by decide +kernel, by decide +kernel, by decide +kernel, by decide +kernel, by decide +kernel, ?_, ⟨_, rfl, by decide +kernel⟩⟩
  intro c
  cases c <;> decide +kernel
/-- BST_IC_SEL names stack 2, or site 2; a run of that unit is in progress or none. -/
def zIc (sel lc : Nat) (ic : Option Nat := none) (bind : Nat := 0) : State :=
  { ((zLc lc).wr .bstIcSel sel).wr .uciBind bind 2 with test := { z.test with ic } }
theorem wit_TestsRun_tiles : (1 : Nat) < 2 ^ 64 ∧ z.tileRun = false ∧ (zr .bstTileState 1).tileRun = true ∧ (∀ i ∈ bitsOf 1 64, z.plotOwner i = none)
    ∧ (0 ∈ bitsOf 1 64 ∧ (({ z with plots := [(0, 0)] } : State).plotOwner 0).isSome = true) := by decide +kernel
theorem wit_TestsRun_interconnect : (2 : Nat) < 256 ∧ (2 : Nat) ≠ 1 ∧ (zIc 0x8000 0 (some 0x8000)).test.ic.isSome = true
    ∧ (((zIc 0x2000 0 none 1).rd .bstIcSel).testBit 15 = false ∧ (zIc 0x2000 0 none 1).rd .uciBind (field ((zIc 0x2000 0 none 1).rd .bstIcSel) 14 12) ≠ 0)
    ∧ ((zIc 0xA000 lcField).test.ic = none ∧ ((zIc 0xA000 lcField).rd .bstIcSel).testBit 15 = true ∧ (zIc 0xA000 lcField).lc ≠ lcAssembly
        ∧ (zIc 0xA000 lcField).lc ≠ lcProvisioned ∧ (zIc 0xA000 lcField).lc ≠ lcReturned)
    ∧ ((zIc 0xA000 lcAssembly).test.ic = none ∧ ((zIc 0xA000 lcAssembly).rd .bstIcSel).testBit 15 = true ∧ (zIc 0xA000 lcAssembly).lc = lcAssembly)
    ∧ ((zIc 0x2000 lcAssembly).test.ic = none ∧ ((zIc 0x2000 lcAssembly).rd .bstIcSel).testBit 15 = false
        ∧ (zIc 0x2000 lcAssembly).rd .uciBind (field ((zIc 0x2000 lcAssembly).rd .bstIcSel) 14 12) = 0)
    ∧ (∀ sel ∈ [0xA000, 0x2000], (zIc sel 0 (some sel)).test.ic = some sel) ∧ (0xA000 : Nat).testBit 15 = true ∧ (0x2000 : Nat).testBit 15 = false := by decide +kernel
/-- BST_UCI_BURN of a map without repairs. -/
def burn0 (k : Nat := 0) : Nat := k * 2 ^ 120 + uciBlank
theorem wit_TestsRun_burn : Role.vendor ≠ .integrator ∧ (burn0) < 2 ^ 128 ∧ 8 ≤ field (burn0 9) 127 120 ∧ field (burn0) 127 120 < 8 ∧ field (burn0) 119 112 < 16
    ∧ field (burn0) 111 64 = 0 ∧ mapOk (field (burn0) 63 0) = true ∧ mapOk (field 1 63 0) = false ∧ z.lc ≠ lcAssembly ∧ (zLc lcAssembly).lc = lcAssembly
    ∧ (zLc lcAssembly).startup.pwrFail = false ∧ (zLc lcAssembly).life.otp.uci.get (16 * field (burn0) 127 120 + field (burn0) 119 112) 0 = 0 := by decide +kernel

/-! ## Numbers and latches -/

theorem wit_MxNumbers : (-(2 ^ 31) ≤ (-7 : Int) ∧ (-7 : Int) < 2 ^ 31) ∧ (-128 ≤ (-7 : Int) ∧ (-7 : Int) < 128) ∧ (31 : Nat) < 32 ∧ (0xFF : Nat) = 0xFF ∧ (254 : Nat) ≤ 254 := by
  decide +kernel
theorem wit_LatchesOnlyRise : (zLatch).owl.latches.find 0 = some latch0 := by decide +kernel

/-! ## Well-formed commands, and one ill-formed for each check -/

theorem test_wf_label : WellFormed (.syncAdd { entry := .host, lab := { ptn := 31, ctx := 15, cls := 7 }, tag := 0 } 0 1) = true
    ∧ WellFormed (.syncAdd { entry := .host, lab := { ptn := 32, ctx := 0, cls := 0 }, tag := 0 } 0 1) = false
    ∧ WellFormed (.syncAdd { entry := .host, lab := { ptn := 0, ctx := 16, cls := 0 }, tag := 0 } 0 1) = false
    ∧ WellFormed (.syncAdd { entry := .host, lab := { ptn := 0, ctx := 0, cls := 8 }, tag := 0 } 0 1) = false := by decide +kernel
theorem test_wf_entry : entryOk (.tile 2303) = true ∧ entryOk (.tile 2304) = false ∧ entryOk (.site 8) = false ∧ entryOk (.sox 16) = false ∧ entryOk (.engine 32) = false := by
  decide +kernel
theorem test_wf_request : reqOk req0 = true ∧ reqOk { req0 with hpa := 2 ^ 48 } = false ∧ reqOk { req0 with poison := 2 ^ 40 } = false := by decide +kernel
theorem test_wf_declaration : WellFormed (.declare dSwitch) = true ∧ WellFormed (.declare { dSwitch with ptn := some 32 }) = false
    ∧ WellFormed (.declare { dSwitch with ctx := 16 }) = false ∧ WellFormed (.declare { dSwitch with kind := .step 16 false }) = false := by decide +kernel
theorem test_wf_frame : WellFormed (.sftData (frame0 0)) = true ∧ WellFormed (.sftData { frame0 0 with port := 16 }) = false
    ∧ WellFormed (.sftData { frame0 0 with payload := List.replicate 8193 0 }) = false := by
  refine ⟨by decide +kernel, by decide +kernel, ?_⟩
  show (decide (0 < Config.ports) && decide ((List.replicate 8193 (0 : Byte)).length ≤ 8192)) = false
  rw [List.length_replicate]
  decide
theorem test_wf_flit : WellFormed (.routerFlitArrival 47 0 { flit0 .dat 0 with check := [] }) = false ∧ WellFormed (.routerFlitArrival 47 0 (flit0 .dat 0)) = true
    ∧ WellFormed (.routerFlitArrival 48 0 (flit0 .dat 0)) = false ∧ WellFormed (.routerFlitArrival 0 48 (flit0 .dat 0)) = false
    ∧ WellFormed (.flitEject 0 0 6 (flit0 .dat 0)) = false := by decide +kernel
theorem test_wf_units : WellFormed (.slotBegin 0 128 []) = false ∧ WellFormed (.refreshRound 8) = false ∧ WellFormed (.nop 2304 0 .clean) = false ∧ WellFormed (.vfFlr 32) = false
    ∧ WellFormed (.islandVoltageReady 16) = false ∧ WellFormed (.wqAbort 0 64) = false ∧ WellFormed (.fwdClockLoss 0 16) = false ∧ WellFormed (.uciRetrain 0 4) = false
    ∧ WellFormed (.soxOtherFrame 16) = false ∧ WellFormed (.syncWaitExpiry 8 0) = false ∧ WellFormed (.colFormTimeout 0 16) = false ∧ WellFormed (.tileSaveDone 0 2304) = false
    ∧ WellFormed (.hostBar0Read 33 0 8) = false ∧ WellFormed (.hostSyncSlotWrite 0 128 0) = false ∧ WellFormed (.bringupTimeout 11 0) = false
    ∧ WellFormed (.owlTriageMiss 33) = false ∧ WellFormed (.jayCmdMove 0 0 9) = false ∧ WellFormed (.jayCmdHint 0 0 8) = false ∧ WellFormed (.softRepair 0 64 0 0 []) = false := by
  decide +kernel
theorem test_wf_header : WellFormed (.htlRdShared 0 0 (2 ^ 128) []) = false ∧ WellFormed (.htlRdShared 0 4 0 []) = false ∧ WellFormed (.htlRdShared 8 0 0 []) = false
    ∧ WellFormed (.htlRdShared 7 3 0 []) = true := by decide +kernel

/-! ## Single commands, on values worked out from the spec -/

/-- `f` holds of the state that a command leaves. -/
def after (c : Instr) (s : State) (f : State → Bool) : Bool := match exec c s with
  | .next t => f t
  | _ => false
/-- R82, R9: an addition wraps at 64 bits and sets ZF. -/
theorem test_scalarAdd_wraps : after (.scalarAdd 0 0 .clean) ((zStage (stg 1 0 1 (reg 0) (reg 1) (reg 2))).setStrand 0 0 { zStrand with regs := [2 ^ 64 - 1, 1, 9] })
    (fun t => (t.strand 0 0).any (fun x => x.regs.getD 2 7 == 0 && x.zf && !x.nf)) = true := by decide +kernel
/-- R381: ADD answers the old value. -/
theorem test_syncAdd : after (.syncAdd src0 5 4) (zObj .counter) (fun t => (t.obj 5).value == 7) = true := by decide +kernel
/-- R591: the device code. -/
theorem test_tapIdcode : after .tapIdcode z (fun t => t.sent == [.tdo 0x153489CF] && t.tap.ir == .idcode) = true := by decide +kernel
/-- R407: a partition that does not exist. -/
theorem test_ptnCmd_notFound : after (.ptnCmdForm .operator 32 0) z (fun t => t.sent == [.status stNotFound 0]) = true := by decide +kernel
/-- R469: version 3 burns the three lowest bits. -/
theorem test_svnCommit : after (.lcsSvnCommit .security 3) (((zLc lcField).wr .secFwVersion 9)) (fun t => t.life.otp.svn == 7 && t.rd .lcsSvn == 3) = true := by decide +kernel
/-- R468: boundary scan is the security officer's. -/
theorem test_bscan_denied : after (.lcsBscanEnWrite .operator 1) (zLc lcField) (fun t => t.sent == [.status stDenied 0] && t.rd .lcsBscanEn == 0) = true := by decide +kernel
/-- R490: insertion raises HOST_PWR_EN1. -/
theorem test_insertion : after .hostPrsntAssert (zModule slotEmpty) (fun t => t.slotState == slotPowering && t.hep.en1 && !t.hep.en2) = true := by decide +kernel
/-- R587, R277: a map without repairs leaves a blank word, whose map it is. -/
theorem test_blankMap : z.life.otp.map 0 0 = uciBlank := by decide +kernel
/-- An empty queue: the block idles (notes/assumptions/13.md). -/
theorem test_idle : (match step z with | .next t => t == z | _ => false) = true := by decide +kernel
theorem test_reset_canonical : (Memory.wf State.reset.mem && Regs.wf State.reset.regs) = true := by decide +kernel

end Sys2Proof.Tests
end

section
/-! Integers, MXINT8 elements and block scales (R110): two's complement keeps every integer of its range, narrowing to an integer format keeps
what the format holds, an MXINT8 element is written within ±127, and a block expands element by element under its scale. -/

namespace Sys2Proof.Machine

/-! ## Two's complement -/

/-- An integer of the range of `n` bits is what its two's complement pattern reads as. -/
theorem signed_twos (n : Nat) (hn : 0 < n) (i : Int) (hlo : -(2 ^ (n - 1)) ≤ i) (hhi : i < 2 ^ (n - 1)) : signed n (twos n i) = i := by
  obtain ⟨k, rfl⟩ : ∃ k, n = k + 1 := ⟨n - 1, by omega⟩
  have hpow : (2 : Nat) ^ (k + 1) = 2 * 2 ^ k := Nat.pow_succ'
  have hcast : (2 : Int) ^ k = ((2 ^ k : Nat) : Int) := by push_cast; rfl
  have hcast' : (2 : Int) ^ (k + 1) = ((2 * 2 ^ k : Nat) : Int) := by rw [← hpow]; push_cast; rfl
  simp only [Nat.add_sub_cancel, hcast] at hlo hhi
  unfold signed twos
  rw [Nat.add_sub_cancel, hpow, hcast']
  rcases Int.lt_or_le i 0 with hneg | hpos
  · have hrem : i % ((2 * 2 ^ k : Nat) : Int) = i + (2 * 2 ^ k : Nat) := by
      rw [← Int.add_emod_right, Int.emod_eq_of_lt (by omega) (by omega)]
    rw [hrem, Nat.mod_eq_of_lt (by omega), if_neg (by omega)]
    omega
  · have hrem : i % ((2 * 2 ^ k : Nat) : Int) = i := Int.emod_eq_of_lt hpos (by omega)
    rw [hrem, Nat.mod_eq_of_lt (by omega), if_pos (by omega)]
    omega

theorem satInt_eq_self (n : Nat) (v : Int) (hlo : -(2 ^ (n - 1)) ≤ v) (hhi : v < 2 ^ (n - 1)) : satInt n v = v := by
  rw [satInt, Int.max_eq_left hlo, Int.min_eq_left (Int.le_sub_one_of_lt hhi)]

/-! ## Integer formats -/

theorem expandElem_of_isInt (c dst v : Nat) (hc : isInt c = true) (hd : isInt dst = true) : expandElem c dst v = .i (signed (elemBits c) v) := by
  simp [expandElem, hc, hd]

theorem narrowElem_int (c : Nat) (hc : floatOf c = none) (sat : Bool) (r : Rnd) (n : Int) :
    narrowElem c sat r (.i n) = twos (elemBits c) (satInt (elemBits c) n) := by
  simp [narrowElem, hc]

theorem signed_narrowElem_int (c : Nat) (hc : floatOf c = none) (hw : 0 < elemBits c) (sat : Bool) (r : Rnd) (n : Int)
    (hlo : -(2 ^ (elemBits c - 1)) ≤ n) (hhi : n < 2 ^ (elemBits c - 1)) : signed (elemBits c) (narrowElem c sat r (.i n)) = n := by
  rw [narrowElem_int c hc, satInt_eq_self _ _ hlo hhi, signed_twos _ hw _ hlo hhi]

/-! ## MXINT8 elements -/

theorem elemVal_mxInt8 (v : Nat) : elemVal 11 v = .fin (decide (signed 8 v < 0)) (signed 8 v).natAbs (-6) := rfl

/-- What is no finite value is written as 0. -/
theorem narrowMx_mxInt8 (r : Rnd) (x : Fp) : ∃ k : Int, -127 ≤ k ∧ k ≤ 127 ∧ narrowMx 11 r x = twos 8 k := by
  cases x with
  | nan => exact ⟨0, by decide, by decide, rfl⟩
  | inf neg => exact ⟨0, by decide, by decide, rfl⟩
  | fin neg m e => exact ⟨min (max (toInt r (.fin neg m (e + 6))) (-127)) 127, by omega, by omega, rfl⟩

theorem signed_narrowMx_mxInt8 (r : Rnd) (x : Fp) : -127 ≤ signed 8 (narrowMx 11 r x) ∧ signed 8 (narrowMx 11 r x) ≤ 127 := by
  obtain ⟨k, hlo, hhi, hk⟩ := narrowMx_mxInt8 r x
  rw [hk, signed_twos 8 (by decide) k (by omega) (by omega)]
  exact ⟨hlo, hhi⟩

/-! ## Block scales -/

theorem expandBlock_getElem? (c : Nat) (b : List Byte) (s i : Nat) (hi : i < 32) :
    (expandBlock c b s)[i]? = some (.f (if s = 0xFF then .nan
      else scaled (elemVal c (elemAt (leNat b) (elemBits c) i)) ((s : Int) - 127))) := by
  simp [expandBlock, hi]

/-- Settles O11: the integer formats hold their two's complement range (`signed_narrowElem_int`), an MXINT8 element is written within ±127
(`signed_narrowMx_mxInt8`), and each element of a block is read under the block's scale (`expandBlock_getElem?`). -/
theorem mxNumbers : Obligations.MxNumbers := by
  unfold Obligations.MxNumbers
  refine ⟨fun v => ⟨expandElem_of_isInt fmtInt32 fmtInt32 v rfl rfl, expandElem_of_isInt fmtInt8 fmtInt8 v rfl rfl⟩,
    fun n => ⟨fun hlo hhi sat r => ?int32, fun hlo hhi sat r => ?int8⟩, elemVal_mxInt8, rfl, signed_narrowMx_mxInt8,
    fun c b s i hi => ⟨fun hs => ?nanScale, fun hs => ?scale⟩⟩
  case int32 => exact signed_narrowElem_int fmtInt32 rfl (by decide) sat r n hlo hhi
  case int8 => exact signed_narrowElem_int fmtInt8 rfl (by decide) sat r n hlo hhi
  case nanScale => rw [expandBlock_getElem? c b s i hi, if_pos hs]
  case scale => rw [expandBlock_getElem? c b s i hi, if_neg (by omega)]

end Sys2Proof.Machine
end

section
/-! The tree of a group (R387): members are numbered from the root by their relative index, on which children and parents are the arithmetic of a
`q`-ary heap; the depth is the first level at which the full tree has room for every member. -/

namespace Sys2Proof.Machine

/-! ## Relative indices -/

/-- The relative index r of member `i` in a tree of `n` members rooted at `root` (R387). -/
def relIndex (n root i : Nat) : Nat := (i + n - root) % n

theorem treeParent_eq (q n root i : Nat) :
    treeParent q n root i = if relIndex n root i = 0 then none else some (((relIndex n root i - 1) / q + root) % n) := rfl

theorem treeChildren_eq (q n root i : Nat) : treeChildren q n root i =
    (((List.range q).map (fun j => q * relIndex n root i + 1 + j)).filter (fun x => decide (x < n))).map (fun x => (x + root) % n) := rfl

variable {q n root i r : Nat}

theorem relIndex_lt (hi : i < n) : relIndex n root i < n := Nat.mod_lt _ (by omega)

theorem relIndex_member (hroot : root < n) (hr : r < n) : relIndex n root ((r + root) % n) = r := by
  have hsum : r + root + (n - root) = r + n := by omega
  rw [relIndex, Nat.add_sub_assoc (Nat.le_of_lt hroot), Nat.mod_add_mod, hsum, Nat.add_mod_right, Nat.mod_eq_of_lt hr]

theorem member_relIndex (hroot : root < n) (hi : i < n) : (relIndex n root i + root) % n = i := by
  have hsum : i + n - root + root = i + n := by omega
  rw [relIndex, Nat.mod_add_mod, hsum, Nat.add_mod_right, Nat.mod_eq_of_lt hi]

/-- The members of a tree and their relative indices correspond one to one. -/
theorem member_eq_iff (hroot : root < n) (hr : r < n) (hi : i < n) : (r + root) % n = i ↔ r = relIndex n root i := by
  constructor
  · rintro rfl
    rw [relIndex_member hroot hr]
  · rintro rfl
    exact member_relIndex hroot hi

theorem relIndex_eq_zero_iff (hroot : root < n) (hi : i < n) : relIndex n root i = 0 ↔ i = root := by
  rw [eq_comm, ← member_eq_iff hroot (by omega) hi, Nat.zero_add, Nat.mod_eq_of_lt hroot, eq_comm]

/-! ## Parents and children -/

theorem treeParent_eq_none_iff (hroot : root < n) (hi : i < n) : treeParent q n root i = none ↔ i = root := by
  rw [treeParent_eq, ← relIndex_eq_zero_iff hroot hi]
  split
  next hzero => exact iff_of_true rfl hzero
  next hpos => exact iff_of_false (Option.some_ne_none _) hpos

theorem treeParent_zero (q n : Nat) : treeParent q n 0 0 = none :=
  if_pos (by rw [Nat.zero_add, Nat.sub_zero, Nat.mod_self])

theorem treeChildren_length_le : (treeChildren q n root i).length ≤ q := by
  rw [treeChildren_eq, List.length_map]
  calc _ ≤ _ := List.length_filter_le _ _
    _ = q := by rw [List.length_map, List.length_range]

theorem mem_treeChildren_lt {j : Nat} (hi : i < n) (hj : j ∈ treeChildren q n root i) : j < n := by
  rw [treeChildren_eq] at hj
  obtain ⟨x, -, rfl⟩ := List.mem_map.mp hj
  exact Nat.mod_lt _ (by omega)

theorem treeParent_eq_some_iff {j : Nat} (hroot : root < n) (hi : i < n) (hj : j < n) :
    treeParent q n root j = some i ↔ relIndex n root j ≠ 0 ∧ (relIndex n root j - 1) / q = relIndex n root i := by
  have hlt : (relIndex n root j - 1) / q < n :=
    Nat.lt_of_le_of_lt (Nat.div_le_self _ _) (Nat.lt_of_le_of_lt (Nat.sub_le _ _) (relIndex_lt hj))
  rw [treeParent_eq, ← member_eq_iff hroot hlt hi]
  split
  next hzero => exact iff_of_false nofun (fun h => h.1 hzero)
  next hpos => rw [Option.some.injEq, and_iff_right hpos]

theorem mem_treeChildren_iff {j : Nat} (hroot : root < n) (hj : j < n) :
    j ∈ treeChildren q n root i ↔ ∃ k, k < q ∧ relIndex n root j = q * relIndex n root i + 1 + k := by
  rw [treeChildren_eq]
  simp only [List.mem_map, List.mem_filter, List.mem_range, decide_eq_true_eq]
  constructor
  · rintro ⟨x, ⟨⟨k, hk, rfl⟩, hx⟩, hmem⟩
    exact ⟨k, hk, ((member_eq_iff hroot hx hj).mp hmem).symm⟩
  · rintro ⟨k, hk, hrel⟩
    exact ⟨relIndex n root j, ⟨⟨k, hk, hrel.symm⟩, relIndex_lt hj⟩, member_relIndex hroot hj⟩

/-- The indices q × r + 1 to q × r + q are those that (· − 1) div q takes to r. -/
theorem heap_child_iff (hq : 0 < q) (a r : Nat) : (∃ k, k < q ∧ a = q * r + 1 + k) ↔ a ≠ 0 ∧ (a - 1) / q = r := by
  rw [Nat.div_eq_iff hq, Nat.mul_comm r q]
  constructor
  · rintro ⟨k, hk, rfl⟩
    omega
  · rintro ⟨ha, hlo, hhi⟩
    exact ⟨a - (q * r + 1), by omega, by omega⟩

theorem mem_treeChildren_iff_treeParent {j : Nat} (hq : 0 < q) (hroot : root < n) (hi : i < n) (hj : j < n) :
    j ∈ treeChildren q n root i ↔ treeParent q n root j = some i := by
  rw [mem_treeChildren_iff hroot hj, heap_child_iff hq, treeParent_eq_some_iff hroot hi hj]

/-! ## The depth -/

/-- The members of a full tree of radix `q` and depth `d`. -/
def treeSize (q d : Nat) : Nat := (q ^ (d + 1) - 1) / (q - 1)

/-- The bound (d × (q − 1) < q ^ (d + 1)) by which a full tree of depth `d` has at least `d` members. -/
theorem mul_pred_lt_pow (hq : 2 ≤ q) (d : Nat) : d * (q - 1) < q ^ (d + 1) := by
  induction d with
  | zero => rw [Nat.zero_mul]; exact Nat.pow_pos (by omega)
  | succ d ih =>
    calc (d + 1) * (q - 1) = d * (q - 1) + (q - 1) := Nat.succ_mul d (q - 1)
      _ < q ^ (d + 1) + q ^ (d + 1) := Nat.add_lt_add_of_lt_of_le ih (Nat.le_trans (Nat.sub_le q 1) (Nat.le_self_pow (by omega) q))
      _ = q ^ (d + 1) * 2 := (Nat.mul_two _).symm
      _ ≤ q ^ (d + 1) * q := Nat.mul_le_mul_left _ hq

theorem le_treeSize (hq : 2 ≤ q) (d : Nat) : d ≤ treeSize q d :=
  (Nat.le_div_iff_mul_le (by omega)).mpr (Nat.le_sub_one_of_lt (mul_pred_lt_pow hq d))

/-- The search from `d` with fuel `f` stops at the first depth whose full tree holds `n` members, where one is reached. -/
theorem depthFrom_spec (q n f d : Nat) (hroom : n ≤ treeSize q (d + f)) :
    n ≤ treeSize q (depthFrom q n f d) ∧ ∀ e, d ≤ e → e < depthFrom q n f d → treeSize q e < n := by
  induction f generalizing d with
  | zero => exact ⟨hroom, fun e hlo hhi => absurd hhi (Nat.not_lt.mpr hlo)⟩
  | succ f ih =>
    have hstep : depthFrom q n (f + 1) d = if n ≤ treeSize q d then d else depthFrom q n f (d + 1) := rfl
    rw [hstep]
    split
    next hfits => exact ⟨hfits, fun e hlo hhi => absurd hhi (Nat.not_lt.mpr hlo)⟩
    next hsmall =>
      obtain ⟨hreach, hleast⟩ := ih (d + 1) (by rwa [Nat.add_right_comm])
      refine ⟨hreach, fun e hlo hhi => ?_⟩
      obtain rfl | hlt := Nat.eq_or_lt_of_le hlo
      · exact Nat.lt_of_not_le hsmall
      · exact hleast e hlt hhi

/-! ## A group without a supplied tree -/

variable {s : State} {p g : Nat}

theorem groupDepth_of_no_parents (hparents : (s.group p g).parents = []) :
    s.groupDepth p g = depthFrom (s.groupCfg p g).radix (s.groupCfg p g).n (s.groupCfg p g).n 0 :=
  if_pos (List.isEmpty_iff.mpr hparents)

theorem parentIn_of_no_parents (hparents : (s.group p g).parents = []) (root : Nat) :
    s.parentIn p g root = treeParent (s.groupCfg p g).radix (s.groupCfg p g).n root (s.groupCfg p g).me :=
  if_pos (.inl (List.isEmpty_iff.mpr hparents))

theorem childrenIn_of_no_parents (hparents : (s.group p g).parents = []) (root : Nat) :
    s.childrenIn p g root = treeChildren (s.groupCfg p g).radix (s.groupCfg p g).n root (s.groupCfg p g).me :=
  if_pos (.inl (List.isEmpty_iff.mpr hparents))

/-- Settles O36: relative indices number the members one to one (`relIndex_member`, `member_relIndex`), which turns "child of" and "parent of" into the
heap arithmetic of `heap_child_iff`; the depth search has fuel enough because a full tree of depth `n` holds `n` members (`le_treeSize`). -/
theorem treesAreConsistent : Obligations.TreesAreConsistent := by
  unfold Obligations.TreesAreConsistent
  refine ⟨fun q n root r hq hroot hr => ?arithmetic, fun q n root i hq hroot hi => ?relatives, fun q n hq => ?depth,
    fun s p g hparents => ?group, treeParent_zero⟩
  case arithmetic =>
    rw [treeChildren_eq, treeParent_eq, relIndex_member hroot hr]
    exact ⟨rfl, rfl⟩
  case relatives =>
    exact ⟨fun j hj => mem_treeChildren_iff_treeParent (by omega) hroot hi hj, treeParent_eq_none_iff hroot hi, treeChildren_length_le,
      fun j hj => mem_treeChildren_lt hi hj⟩
  case depth =>
    obtain ⟨hreach, hleast⟩ := depthFrom_spec q n n 0 (by rw [Nat.zero_add]; exact le_treeSize hq n)
    exact ⟨hreach, fun d hd => hleast d (Nat.zero_le d) hd⟩
  case group =>
    exact ⟨groupDepth_of_no_parents hparents, fun root => ⟨parentIn_of_no_parents hparents root, childrenIn_of_no_parents hparents root⟩⟩

end Sys2Proof.Machine
end

section
/-! A tenant's scope (R509) and the items that it gates: the check of R508 passes exactly the entries of the tenant's own partition, those that
name none, and the per-site ones of a site that the partition is bound to (R300). -/

namespace Sys2Proof.Machine

variable {s : State} {a : Actor} {t : DTarget} {i sub : Nat}

/-! ## Scope (R300, R509) -/

theorem inScope_tenant_iff (htenant : a.role = .tenant) :
    s.inScope a t = true ↔ t.ptn = some a.ptn ∨ (t.ptn = none ∧ ∀ k, t.site = some k → (s.rd .uciBind k).testBit a.ptn = true) := by
  rw [State.inScope, htenant]
  cases hptn : t.ptn with
  | some q => simp
  | none => cases hsite : t.site <;> simp

theorem inScope_tenant_eq_false_iff (htenant : a.role = .tenant) :
    s.inScope a t = false ↔
      (∃ q, t.ptn = some q ∧ q ≠ a.ptn) ∨ (t.ptn = none ∧ ∃ k, t.site = some k ∧ (s.rd .uciBind k).testBit a.ptn = false) := by
  rw [← Bool.not_eq_true, inScope_tenant_iff htenant]
  cases hptn : t.ptn with
  | some q => simp
  | none => simp

/-! ## Items of an entry that exists and is ready (R508) -/

section
variable (hready : s.indexReady i = true) (hfind : dictFind i sub = some t)
include hready hfind

theorem itemWrite_eq (o : AMap Nat) (b : List Byte) (x : List Nat) : s.itemWrite o a i sub b x =
    if !mayWrite t.e.acc a.role || !s.inScope a t then (stDenied, s)
    else if !t.e.ty.encodes b then (stType, s)
    else if !t.e.ty.fits (leNat b) then (stRange, s)
    else (s.ownWrite a t b x).getD
      (if !t.e.range.holds (leNat b) || !s.jointOk o t (leNat b) then (stRange, s) else s.applyWrite a t (leNat b)) := by
  rw [State.itemWrite, hready, if_neg (by decide), hfind]
  dsimp only
  cases s.ownWrite a t b x <;> rfl

theorem itemWrite_denied (hno : mayWrite t.e.acc a.role = false ∨ s.inScope a t = false) (o : AMap Nat) (b : List Byte) (x : List Nat) :
    s.itemWrite o a i sub b x = (stDenied, s) := by
  rw [itemWrite_eq hready hfind]
  exact if_pos (by simpa using hno)

theorem itemWrite_admitted (hmay : mayWrite t.e.acc a.role = true) (hscope : s.inScope a t = true) {b : List Byte}
    (hlen : t.e.ty.encodes b = true) (hfits : t.e.ty.fits (leNat b) = true) (o : AMap Nat) (x : List Nat) :
    s.itemWrite o a i sub b x = (s.ownWrite a t b x).getD
      (if !t.e.range.holds (leNat b) || !s.jointOk o t (leNat b) then (stRange, s) else s.applyWrite a t (leNat b)) := by
  rw [itemWrite_eq hready hfind, hmay, hscope, hlen, hfits]
  rfl

theorem itemGate_denied {may : Acc → Bool} (hno : may (accOf t.e.acc a.role) = false ∨ s.inScope a t = false) :
    s.itemGate (some a) i sub may = .error stDenied := by
  rw [State.itemGate, hready, if_neg (by decide), hfind]
  exact if_pos (by simpa using hno)

/-- Where the letter and the scope permit, only a vendor can still be refused: at SQL_READ. -/
theorem itemGate_admitted {may : Acc → Bool} (hmay : may (accOf t.e.acc a.role) = true) (hscope : s.inScope a t = true)
    (hrole : a.role ≠ .vendor) : s.itemGate (some a) i sub may = .ok t := by
  simp [State.itemGate, hready, hfind, hmay, hscope, hrole]

end

section
variable {d : DictItem}

theorem itemRead'_of_error {c : Option Actor} {k st : Nat} (hgate : s.itemGate c d.index d.sub Acc.reads = .error st) :
    s.itemRead' k c d = refusedItem d st := by
  rw [State.itemRead', hgate]

theorem itemRead'_of_ok {c : Option Actor} (hgate : s.itemGate c d.index d.sub Acc.reads = .ok t) :
    s.itemRead' 1 c d = valueAnswer t (s.view t) false := by
  rw [State.itemRead', hgate]
  rfl

end

/-- Settles O52: a tenant's scope is decided by `inScope_tenant_iff`; outside it an item is refused whatever its letter
(`itemGate_denied`, `itemWrite_denied`), inside it the letter decides, and what it permits is read or written as R508 says. -/
theorem tenantScope : Obligations.TenantScope := by
  unfold Obligations.TenantScope
  intro s a i t htenant hready hfind
  refine ⟨fun hout => ?outside, fun hin => ?inside⟩
  case outside =>
    have hscope : s.inScope a t = false := (inScope_tenant_eq_false_iff htenant).mpr hout
    exact ⟨itemRead'_of_error (itemGate_denied hready hfind (.inr hscope)), itemWrite_denied hready hfind (.inr hscope)⟩
  case inside =>
    have hscope : s.inScope a t = true := (inScope_tenant_iff htenant).mpr hin
    rw [← htenant]
    refine ⟨fun hreads => ?read, fun hnoRead => ?readDenied, fun hnoWrite => ?writeDenied, fun hwrites o b x hlen hfits => ?written⟩
    case read => exact itemRead'_of_ok (itemGate_admitted hready hfind hreads hscope (by rw [htenant]; decide))
    case readDenied => exact itemRead'_of_error (itemGate_denied hready hfind (.inl hnoRead))
    case writeDenied => exact itemWrite_denied hready hfind (.inl hnoWrite)
    case written =>
      rw [itemWrite_admitted hready hfind hwrites hscope hlen hfits]
      refine ⟨fun r hown => ?own, fun hown hrange hjoint => ?byClass⟩
      case own => rw [hown, Option.getD_some]
      case byClass => rw [hown, Option.getD_none, hrange, hjoint]; rfl

end Sys2Proof.Machine
end

section
/-! The DAT check code (R184): products of the field are linear in each factor, a product with α^n is n times α, α has order 255, so that an error
of one byte has syndromes that no other place of a code word explains. -/

namespace Sys2Proof.Machine

/-! ## Times α -/

theorem gfTimes2_eq {a : Nat} (ha : a < 256) : gfTimes2 a = 2 * a ^^^ (if a.testBit 7 then 0x11D else 0) := by
  have hbit : a.testBit 7 = decide (128 ≤ a) := by
    rw [Nat.testBit_eq_decide_div_mod_eq]
    exact decide_eq_decide.mpr (by omega)
  rw [gfTimes2, hbit]
  by_cases h : 128 ≤ a <;> simp [h]

theorem xor_left_comm (a b c : Nat) : a ^^^ (b ^^^ c) = b ^^^ (a ^^^ c) := by
  rw [← Nat.xor_assoc, Nat.xor_comm a b, Nat.xor_assoc]

theorem xor_cancel_left (a b : Nat) : a ^^^ (a ^^^ b) = b := by
  rw [← Nat.xor_assoc, Nat.xor_self, Nat.zero_xor]

theorem gfTimes2_xor {a b : Nat} (ha : a < 256) (hb : b < 256) : gfTimes2 (a ^^^ b) = gfTimes2 a ^^^ gfTimes2 b := by
  have hdouble : 2 * (a ^^^ b) = 2 * a ^^^ 2 * b := by
    simpa [Nat.shiftLeft_eq, Nat.mul_comm] using Nat.shiftLeft_xor_distrib (i := 1) (a := a) (b := b)
  rw [gfTimes2_eq ha, gfTimes2_eq hb, gfTimes2_eq (Nat.xor_lt_two_pow (n := 8) ha hb), Nat.testBit_xor, hdouble]
  cases a.testBit 7 <;> cases b.testBit 7 <;> simp [Nat.xor_assoc, xor_left_comm, Nat.xor_comm]

theorem gfTimes2_lt {a : Nat} (ha : a < 256) : gfTimes2 a < 256 := by
  have hall : ∀ a : Fin 256, gfTimes2 a < 256 := by decide +kernel
  exact hall ⟨a, ha⟩

theorem repeat_zero (f : Nat → Nat) (a : Nat) : Nat.repeat f 0 a = a := rfl

theorem gfTimes2_repeat_lt {a : Nat} (ha : a < 256) (n : Nat) : Nat.repeat gfTimes2 n a < 256 := by
  induction n with
  | zero => exact ha
  | succ n ih => exact gfTimes2_lt ih

theorem gfTimes2_repeat_zero (n : Nat) : Nat.repeat gfTimes2 n 0 = 0 := by
  induction n with
  | zero => rfl
  | succ n ih => exact congrArg gfTimes2 ih

theorem gfPow_eq_repeat (n : Nat) : gfPow n = Nat.repeat gfTimes2 n 1 := by
  induction n with
  | zero => rfl
  | succ n ih => exact congrArg gfTimes2 ih

theorem gfPow_lt (n : Nat) : gfPow n < 256 := by
  rw [gfPow_eq_repeat]
  exact gfTimes2_repeat_lt (by decide) n

/-! ## Products -/

theorem ite_lt_of_lt {a : Nat} (ha : a < 256) {c : Prop} [Decidable c] : (if c then a else 0) < 256 := by
  split
  · exact ha
  · decide

theorem gfMulFrom_lt {a : Nat} (ha : a < 256) (n b : Nat) : gfMulFrom n a b < 256 := by
  induction n generalizing a b with
  | zero => simp [gfMulFrom]
  | succ n ih =>
    rw [gfMulFrom]
    exact Nat.xor_lt_two_pow (n := 8) (ite_lt_of_lt ha) (ih (gfTimes2_lt ha) _)

theorem gfMulFrom_xor_right (n a b c : Nat) : gfMulFrom n a (b ^^^ c) = gfMulFrom n a b ^^^ gfMulFrom n a c := by
  induction n generalizing a b c with
  | zero => simp [gfMulFrom]
  | succ n ih =>
    have hhalf : (b ^^^ c) / 2 = b / 2 ^^^ c / 2 := Nat.xor_div_two_pow (n := 1)
    have hodd : (b ^^^ c) % 2 = (b % 2 + c % 2) % 2 := by
      have hpar := Nat.xor_mod_two_eq_one (a := b) (b := c)
      omega
    rw [gfMulFrom, gfMulFrom, gfMulFrom, hhalf, ih, hodd]
    rcases Nat.mod_two_eq_zero_or_one b with hb | hb <;> rcases Nat.mod_two_eq_zero_or_one c with hc | hc <;>
      simp [hb, hc, Nat.xor_assoc, xor_left_comm, xor_cancel_left]

theorem gfMulFrom_xor_left (n : Nat) {a c : Nat} (ha : a < 256) (hc : c < 256) (b : Nat) :
    gfMulFrom n (a ^^^ c) b = gfMulFrom n a b ^^^ gfMulFrom n c b := by
  induction n generalizing a c b with
  | zero => simp [gfMulFrom]
  | succ n ih =>
    rw [gfMulFrom, gfMulFrom, gfMulFrom, gfTimes2_xor ha hc, ih (gfTimes2_lt ha) (gfTimes2_lt hc)]
    split <;> simp [Nat.xor_assoc, xor_left_comm]

theorem gfMulFrom_times2 (n : Nat) {a : Nat} (ha : a < 256) (b : Nat) : gfMulFrom n (gfTimes2 a) b = gfTimes2 (gfMulFrom n a b) := by
  induction n generalizing a b with
  | zero => rfl
  | succ n ih =>
    rw [gfMulFrom, gfMulFrom, ih (gfTimes2_lt ha), gfTimes2_xor (ite_lt_of_lt ha) (gfMulFrom_lt (gfTimes2_lt ha) _ _), apply_ite gfTimes2]
    rfl

theorem gfMulFrom_of_lt {n b : Nat} (hb : b < 2 ^ n) (a : Nat) : gfMulFrom (n + 1) a b = gfMulFrom n a b := by
  induction n generalizing a b with
  | zero =>
    obtain rfl : b = 0 := by omega
    simp [gfMulFrom]
  | succ n ih => rw [gfMulFrom, ih (by omega), gfMulFrom]

theorem gfMul_times2_left {a : Nat} (ha : a < 256) (b : Nat) : gfMul (gfTimes2 a) b = gfTimes2 (gfMul a b) := gfMulFrom_times2 8 ha b

/-- The field's polynomial is 0 in the field, which is why a product's second factor may be reduced by it. -/
theorem gfMul_times2_right {a b : Nat} (ha : a < 256) (hb : b < 256) : gfMul a (gfTimes2 b) = gfTimes2 (gfMul a b) := by
  have hpoly : ∀ a : Fin 256, gfMulFrom 9 a 0x11D = 0 := by decide +kernel
  have hdouble : gfMulFrom 9 a (2 * b) = gfTimes2 (gfMul a b) := by
    rw [gfMulFrom, if_neg (by omega), Nat.zero_xor, Nat.mul_div_cancel_left b (by decide), gfMulFrom_times2 8 ha]
    rfl
  rw [gfMul, ← gfMulFrom_of_lt (gfTimes2_lt hb), gfTimes2_eq hb, gfMulFrom_xor_right, hdouble]
  split
  · rw [hpoly ⟨a, ha⟩, Nat.xor_zero]
  · simp [gfMulFrom]

theorem gfMul_one_left {b : Nat} (hb : b < 256) : gfMul 1 b = b := by
  have hall : ∀ b : Fin 256, gfMul 1 b = b := by decide +kernel
  exact hall ⟨b, hb⟩

theorem gfMul_one_right (a : Nat) : gfMul a 1 = a := by simp [gfMul, gfMulFrom]

theorem gfMul_gfPow_left (n : Nat) {b : Nat} (hb : b < 256) : gfMul (gfPow n) b = Nat.repeat gfTimes2 n b := by
  induction n with
  | zero => exact gfMul_one_left hb
  | succ n ih => rw [gfPow, gfMul_times2_left (gfPow_lt n), ih, Nat.repeat]

theorem gfMul_gfPow_right (n : Nat) {a : Nat} (ha : a < 256) : gfMul a (gfPow n) = Nat.repeat gfTimes2 n a := by
  induction n with
  | zero => exact gfMul_one_right a
  | succ n ih => rw [gfPow, gfMul_times2_right ha (gfPow_lt n), ih, Nat.repeat]

/-! ## The order of α -/

theorem repeat_add (f : Nat → Nat) (m n a : Nat) : Nat.repeat f (m + n) a = Nat.repeat f m (Nat.repeat f n a) := by
  induction m with
  | zero => rw [Nat.zero_add, Nat.repeat]
  | succ m ih => rw [Nat.succ_add, Nat.repeat, Nat.repeat, ih]

/-- What `d` steps bring back, every multiple of `d` does. -/
theorem repeat_mul_of_fixed {f : Nat → Nat} {d a : Nat} (h : Nat.repeat f d a = a) (k : Nat) : Nat.repeat f (d * k) a = a := by
  induction k with
  | zero => rfl
  | succ k ih => rw [Nat.mul_succ, repeat_add, h, ih]

theorem repeat_mod_of_fixed {f : Nat → Nat} {d a : Nat} (h : Nat.repeat f d a = a) (m : Nat) : Nat.repeat f (m % d) a = Nat.repeat f m a := by
  conv => rhs; rw [← Nat.mod_add_div m d, repeat_add, repeat_mul_of_fixed h]

theorem gfTimes2_period {a : Nat} (ha : a < 256) : Nat.repeat gfTimes2 255 a = a := by
  have hone : gfPow 255 = 1 := by decide +kernel
  rw [← gfMul_gfPow_left 255 ha, hone, gfMul_one_left ha]

theorem gfTimes2_fixed {n a : Nat} (ha : a < 256) (h : Nat.repeat gfTimes2 n a = a) : gfMul (gfPow n ^^^ 1) a = 0 := by
  have hpow : gfMul (gfPow n) a = a := by rw [gfMul_gfPow_left n ha, h]
  rw [gfMul, gfMulFrom_xor_left 8 (gfPow_lt n) (by decide)]
  change gfMul (gfPow n) a ^^^ gfMul 1 a = 0
  rw [hpow, gfMul_one_left ha, Nat.xor_self]

/-- 85, 51 and 15 are the largest proper divisors of 255 = 3 × 5 × 17: a shorter period has a multiple that is one of them modulo 255. -/
theorem gfTimes2_not_periodic {a d : Nat} (hpos : 0 < a) (ha : a < 256) (hd : 0 < d) (hlt : d < 255) : Nat.repeat gfTimes2 d a ≠ a := by
  intro h
  have hno : ∀ n ∈ [85, 51, 15], ∀ a : Fin 256, 0 < a.val → gfMul (gfPow n ^^^ 1) a ≠ 0 := by decide +kernel
  have hmultiple : ∀ d : Fin 255, 0 < d.val → ∃ k ∈ List.range 255, d * k % 255 ∈ [85, 51, 15] := by decide +kernel
  obtain ⟨k, -, hk⟩ := hmultiple ⟨d, hlt⟩ hd
  exact hno _ hk ⟨a, ha⟩ hpos (gfTimes2_fixed ha ((repeat_mod_of_fixed (gfTimes2_period ha) _).trans (repeat_mul_of_fixed h k)))

theorem gfTimes2_repeat_injOn {a i j : Nat} (hpos : 0 < a) (ha : a < 256) (hij : j < i) (hi : i < 255) :
    Nat.repeat gfTimes2 i a ≠ Nat.repeat gfTimes2 j a := by
  intro h
  have hback : Nat.repeat gfTimes2 (255 - i + i) a = Nat.repeat gfTimes2 (255 - i + j) a := by rw [repeat_add, repeat_add, h]
  rw [show 255 - i + i = 255 by omega, gfTimes2_period ha] at hback
  exact gfTimes2_not_periodic hpos ha (by omega) (by omega) hback.symm

/-! ## Syndromes -/

theorem gfEval_lt (k : Nat) (u : List Byte) : gfEval (gfPow k) u < 256 := by
  induction u with
  | nil => exact Nat.zero_lt_succ 255
  | cons b u ih => exact Nat.xor_lt_two_pow (n := 8) b.isLt (gfMulFrom_lt (gfPow_lt k) 8 _)

theorem gfMul_gfPow_repeat (k i : Nat) {e : Nat} (he : e < 256) : Nat.repeat (gfMul (gfPow k)) i e = Nat.repeat gfTimes2 (k * i) e := by
  induction i with
  | zero => rfl
  | succ i ih =>
    rw [Nat.repeat, ih, gfMul_gfPow_left k (gfTimes2_repeat_lt he _), ← repeat_add, Nat.mul_succ, Nat.add_comm]

/-- An error `e` at place `i` adds e × α^(k × i) to a word's value at α^k. -/
theorem gfEval_set (x : Nat) {u : List Byte} {i : Nat} {b : Byte} (hb : u[i]? = some b) {e : Nat} (he : e < 256) :
    gfEval x (u.set i (b ^^^ BitVec.ofNat 8 e)) = gfEval x u ^^^ Nat.repeat (gfMul x) i e := by
  induction u generalizing i with
  | nil => simp at hb
  | cons c u ih =>
    cases i with
    | zero =>
      obtain rfl : c = b := by simpa using hb
      simp [gfEval, repeat_zero, BitVec.toNat_xor, Nat.mod_eq_of_lt he, Nat.xor_assoc, Nat.xor_comm]
    | succ i =>
      have hrest : u[i]? = some b := by simpa using hb
      rw [List.set_cons_succ, gfEval, ih hrest, gfMul, gfMulFrom_xor_right, Nat.repeat, gfEval, Nat.xor_assoc]
      rfl

theorem checkWord_eq_clean_iff (u : List Byte) : checkWord u = .clean ↔ ∀ k, k < 8 → gfEval (gfPow k) u = 0 := by
  have hall : (syndromes u).all (· == 0) = true ↔ ∀ k, k < 8 → gfEval (gfPow k) u = 0 := by simp [syndromes]
  rw [← hall, checkWord]
  constructor
  · intro h
    refine Classical.byContradiction fun hne => ?_
    rw [if_neg hne] at h
    split at h <;> cases h
  · exact fun h => if_pos h

/-- A place explains a word's syndromes where they are those of the error that the first one is, at that place. -/
theorem checkWord_eq_byte {u : List Byte} {i e : Nat} (hpos : 0 < e) (he : e < 256) (hi : i < u.length) (hlen : u.length ≤ 255)
    (hsyn : ∀ k, k < 8 → gfEval (gfPow k) u = Nat.repeat gfTimes2 (k * i) e) : checkWord u = .byte i e := by
  have hsyndromes : syndromes u = (List.range 8).map (fun k => Nat.repeat gfTimes2 (k * i) e) :=
    List.map_congr_left fun k hk => hsyn k (List.mem_range.mp hk)
  have hexplains : ∀ j, j < u.length → (((syndromes u).head? != some 0 && (syndromes u).zipIdx.all (fun p =>
      p.1 == gfMul ((syndromes u).headD 0) (gfPow (j * p.2)))) = true ↔ ∀ k ∈ List.range 8, Nat.repeat gfTimes2 (k * i) e = Nat.repeat gfTimes2 (k * j) e) := by
    intro j hj
    have hne : e ≠ 0 := by omega
    simp [hsyndromes, List.range_succ, repeat_zero, gfMul_gfPow_right _ he, hne, Nat.mul_comm]
  have hfind : (List.range u.length).find? (fun j => (syndromes u).head? != some 0 && (syndromes u).zipIdx.all (fun p =>
      p.1 == gfMul ((syndromes u).headD 0) (gfPow (j * p.2)))) = some i := by
    rw [List.find?_range_eq_some]
    refine ⟨(hexplains i hi).mpr fun k _ => rfl, List.mem_range.mpr hi, fun j hj => ?_⟩
    rw [Bool.not_eq_true', ← Bool.not_eq_true, hexplains j (by omega)]
    intro h
    have hone := h 1 (by decide)
    rw [Nat.one_mul, Nat.one_mul] at hone
    exact gfTimes2_repeat_injOn hpos he hj (by omega) hone
  have hclean : (syndromes u).all (· == 0) ≠ true := by
    intro h
    have hzero := (checkWord_eq_clean_iff u).mp (if_pos h) 0 (by decide)
    rw [hsyn 0 (by decide), Nat.zero_mul, repeat_zero] at hzero
    exact absurd hzero (by simpa using Nat.pos_iff_ne_zero.mp hpos)
  have hfirst : (syndromes u).headD 0 = e := by
    rw [hsyndromes]
    simp [List.range_succ, repeat_zero]
  rw [checkWord, if_neg hclean, hfind, hfirst]

/-- Settles O21: an error in one byte adds e × α^(k × i) to each syndrome (`gfEval_set`), and no other place explains these, since α has order 255
(`gfTimes2_repeat_injOn`). -/
theorem byteErrorsAreFound : Obligations.ByteErrorsAreFound := by
  unfold Obligations.ByteErrorsAreFound
  intro u i e b hlen hclean hb hpos he
  have hi : i < u.length := (List.getElem?_eq_some_iff.mp hb).1
  refine checkWord_eq_byte hpos he (by rwa [List.length_set]) (by rw [List.length_set]; omega) fun k hk => ?_
  rw [gfEval_set _ hb he, (checkWord_eq_clean_iff u).mp hclean k hk, Nat.zero_xor, gfMul_gfPow_repeat k i he]

end Sys2Proof.Machine
end

section
/-! What every operation keeps: the queue of commands, what was sent, the counter of free values, and the canonical form of memory and registers. One
law for each operation of the model says that it keeps these from wherever it starts; a meaning's law is then the chain of its operations' laws, in
the order in which the meaning names them. -/

namespace Sys2Proof.Machine

/-! ## The relation -/

/-- From `s` to `t` the queue is left as it is, nothing that was sent is taken back, free values are drawn only forward, and the canonical forms last. -/
structure Records (s t : State) : Prop where
  pending_eq : t.pending = s.pending
  sent_prefix : s.sent <+: t.sent
  fresh_le : s.fresh ≤ t.fresh
  mem_wf : Memory.wf s.mem = true → Memory.wf t.mem = true
  regs_wf : Regs.wf s.regs = true → Regs.wf t.regs = true

/-- The record is kept, and the instruction of the TAP: everything does but the TAP's own commands and the loss of power. -/
structure Keeps (s t : State) : Prop extends Records s t where
  ir_eq : t.tap.ir = s.tap.ir

/-- A command answers with a next state, and keeps the record. -/
def Answers (s : State) (o : Host.Outcome State Fault Refusal) : Prop := ∃ t, o = .next t ∧ Records s t

variable {s t u v : State}

theorem Records.trans (h : Records s t) (h' : Records t u) : Records s u :=
  ⟨h'.pending_eq.trans h.pending_eq, h.sent_prefix.trans h'.sent_prefix, Nat.le_trans h.fresh_le h'.fresh_le, h'.mem_wf ∘ h.mem_wf,
    h'.regs_wf ∘ h.regs_wf⟩

theorem Records.answers (h : Records s t) : Answers s (.next t) := ⟨t, rfl, h⟩

/-- An update of the TAP alone keeps the record. -/
theorem records_tap (s : State) (tap : Tap) : Records s { s with tap } := ⟨rfl, List.prefix_rfl, Nat.le_refl _, id, id⟩

theorem Keeps.refl (s : State) : Keeps s s := ⟨⟨rfl, List.prefix_rfl, Nat.le_refl _, id, id⟩, rfl⟩

theorem Keeps.trans (h : Keeps s t) (h' : Keeps t u) : Keeps s u := ⟨h.toRecords.trans h'.toRecords, h'.ir_eq.trans h.ir_eq⟩

theorem Keeps.answers (h : Keeps s t) : Answers s (.next t) := h.toRecords.answers

/-- The stack that a wrapper names is no instruction. -/
theorem Keeps.tapStack (h : Keeps s t) {stack} : Keeps s { t with tap := { t.tap with stack } } := h.trans ⟨records_tap t _, rfl⟩

/-- A record update of other fields keeps. -/
theorem Keeps.frame (h : Keeps s t)
    {poison beat owl sql store sync jay caches hep qos noc hbm coh sites tile wqs svc ckpt
      ptns col sec life startup test power dict sox held heldTiles plots} :
    Keeps s ⟨t.pending, t.sent, t.fresh, t.regs, t.mem, poison, beat, owl, sql, store, sync, jay, caches, hep, qos, noc, hbm, coh, sites, tile, wqs,
      svc, ckpt, ptns, col, sec, life, t.tap, startup, test, power, dict, sox, held, heldTiles, plots⟩ :=
  h.trans ⟨⟨rfl, List.prefix_rfl, Nat.le_refl _, id, id⟩, rfl⟩

theorem Keeps.ite {c : Prop} [Decidable c] (hu : Keeps s u) (hv : Keeps s v) : Keeps s (if c then u else v) := by split <;> assumption

theorem Answers.ite {c : Prop} [Decidable c] {o o' : Host.Outcome State Fault Refusal} (h : Answers s o) (h' : Answers s o') :
    Answers s (if c then o else o') := by split <;> assumption

theorem Keeps.foldl {α : Type} {f : State → α → State} {l : List α} (h : Keeps s t) (hf : ∀ {u}, Keeps s u → ∀ a, Keeps s (f u a)) :
    Keeps s (l.foldl f t) := by
  induction l generalizing t with
  | nil => exact h
  | cons a l ih => exact ih (hf h _)

theorem Keeps.each {α : Type} {f : State → α → State} {l : List α} (h : Keeps s t) (hf : ∀ {u}, Keeps s u → ∀ a, Keeps s (f u a)) :
    Keeps s (t.each l f) := h.foldl hf

theorem Keeps.getD {o : Option State} (h : Keeps s t) (ho : ∀ {u}, o = some u → Keeps s u) : Keeps s (o.getD t) := by
  cases o with
  | none => exact h
  | some u => exact ho rfl

/-! ## Pairs -/

section
variable {α β : Type}

theorem Keeps.snd {p : α × State} {a : α} (h : Keeps s p.2) (e : p = (a, u)) : Keeps s u := by rw [e] at h; exact h
theorem Keeps.fst {p : State × α} {a : α} (h : Keeps s p.1) (e : p = (u, a)) : Keeps s u := by rw [e] at h; exact h
theorem Keeps.snd_snd {p : α × β × State} {a : α} {b : β} (h : Keeps s p.2.2) (e : p = (a, b, u)) : Keeps s u := by rw [e] at h; exact h

theorem Keeps.ite_snd {c : Prop} [Decidable c] {p q : α × State} (hp : Keeps s p.2) (hq : Keeps s q.2) : Keeps s (if c then p else q).2 := by
  split <;> assumption

theorem Keeps.ite_fst {c : Prop} [Decidable c] {p q : State × α} (hp : Keeps s p.1) (hq : Keeps s q.1) : Keeps s (if c then p else q).1 := by
  split <;> assumption

end

/-! ## Registers, outputs, free values and memory -/

theorem Keeps.of_regs (h : Keeps s t) (m : AMap Nat) (hm : Regs.wf t.regs = true → Regs.wf m = true) : Keeps s { t with regs := m } :=
  h.trans ⟨⟨rfl, List.prefix_rfl, Nat.le_refl _, id, hm⟩, rfl⟩

theorem Keeps.of_mem (h : Keeps s t) (m : List Host.Cell) (p : AMap Unit) (hm : Memory.wf t.mem = true → Memory.wf m = true) :
    Keeps s { t with mem := m, poison := p } := h.trans ⟨⟨rfl, List.prefix_rfl, Nat.le_refl _, hm, id⟩, rfl⟩

theorem Keeps.wr (h : Keeps s t) {r v u sub} : Keeps s (t.wr r v u sub) := h.of_regs _ (regs_wr t r v u sub)
theorem Keeps.clr (h : Keeps s t) {r u sub} : Keeps s (t.clr r u sub) := h.of_regs _ (regs_clr t r u sub)
theorem Keeps.drawn (h : Keeps s t) {n} : Keeps s (t.drawn n) := h.trans ⟨⟨rfl, List.prefix_rfl, Nat.le_add_right _ _, id, id⟩, rfl⟩
theorem Keeps.emit (h : Keeps s t) {o} : Keeps s (t.emit o) := h.trans ⟨⟨rfl, List.prefix_append _ _, Nat.le_refl _, id, id⟩, rfl⟩
theorem Keeps.emitAll (h : Keeps s t) {os} : Keeps s (t.emitAll os) := h.trans ⟨⟨rfl, List.prefix_append _ _, Nat.le_refl _, id, id⟩, rfl⟩
theorem Keeps.answered {a : Answer} (h : Keeps s a.2) : Keeps s (State.answered a) := h.emit
theorem Keeps.setByte (h : Keeps s t) {a b} : Keeps s (t.setByte a b) := h.of_mem _ t.poison (wf_setByte t a b)
theorem Keeps.putBytes (h : Keeps s t) {a b} : Keeps s (t.putBytes a b) := h.of_mem _ t.poison (wf_putBytes t a b)
theorem Keeps.poisonUnit (h : Keeps s t) {n u} : Keeps s (t.poisonUnit n u) := h.of_mem _ _ (wf_poisonUnit t n u)

end Sys2Proof.Machine
end

section
/-! What each operation of the model keeps, in the order of the model's files. -/

namespace Sys2Proof.Machine

/-! The laws are elaborated one after another: their many short proofs would else each take a thread of their own. -/

set_option Elab.async false

variable {s t u v : State}


/-! ## Machine/Ops -/

theorem Keeps.bump (h : Keeps s t) {r u' sub n} : Keeps s (t.bump r u' sub n) := h.wr
theorem Keeps.activate (h : Keeps s t) {h'} : Keeps s (t.activate h') := h.bump
theorem Keeps.wrField (h : Keeps s t) {r msb lsb x u' sub} : Keeps s (t.wrField r msb lsb x u' sub) := h.wr
theorem Keeps.bumpWord (h : Keeps s t) {r i u' sub} : Keeps s (t.bumpWord r i u' sub) := h.wrField

/-! ## Machine/Operands -/

theorem Keeps.endSessions (h : Keeps s t) {q} : Keeps s (t.endSessions q) := h.frame
theorem Keeps.setSite (h : Keeps s t) {k x} : Keeps s (t.setSite k x) := h.frame
theorem Keeps.setHgt (h : Keeps s t) {hg e'} : Keeps s (t.setHgt hg e') := h.frame
theorem Keeps.cleanUnit (h : Keeps s t) {size u'} : Keeps s (t.cleanUnit size u') := h.frame
theorem Keeps.settleUnit (h : Keeps s t) {size a n bad u'} : Keeps s (t.settleUnit size a n bad u') :=
    Keeps.ite h.poisonUnit (Keeps.ite h.cleanUnit (Keeps.ite h.poisonUnit h))
theorem Keeps.store64 (h : Keeps s t) {a bs bad} : Keeps s (t.store64 a bs bad) := h.putBytes.foldl fun h _ => h.settleUnit
theorem Keeps.setDir (h : Keeps s t) {p g e'} : Keeps s (t.setDir p g e') := h.frame
theorem Keeps.writePpa (h : Keeps s t) {p ppa bs bad} : Keeps s (t.writePpa p ppa bs bad) := by
  unfold State.writePpa
  split
  · exact Keeps.ite h.store64 h
  · exact h

/-! ## Machine/Sync -/

theorem Keeps.setObj (h : Keeps s t) {n o} : Keeps s (t.setObj n o) := h.frame
theorem Keeps.syncSend (h : Keeps s t) {src result reason} : Keeps s (t.syncSend src result reason) := by
  unfold State.syncSend
  dsimp only
  split
  · split
    · exact h.emit
    · exact Keeps.ite h.emit.frame (Keeps.ite h.emit.frame.emit h.emit.frame.bump.emit)
  · exact h.emit.frame
  · exact h.emit
theorem Keeps.syncAbort (h : Keeps s t) {src} : Keeps s (t.syncAbort src) := by
  unfold State.syncAbort
  dsimp only
  split
  · split
    · exact h.emit
    · exact Keeps.ite h.emit.frame h.emit.frame.emit
  · exact h.emit
theorem Keeps.syncSendAll (h : Keeps s t) {l} : Keeps s (t.syncSendAll l) := h.each fun h _ => h.syncSend
theorem Keeps.settleObj (h : Keeps s t) {n o} : Keeps s (t.settleObj n o) := h.frame.syncSendAll
theorem Keeps.syncDone (h : Keeps s t) {src v'} : Keeps s (t.syncDone src v') := h.syncSend
theorem Keeps.syncRefuse (h : Keeps s t) {src reason} : Keeps s (t.syncRefuse src reason) := h.bump.syncSend.drawn
theorem Keeps.syncWait (h : Keeps s t) {src n c} : Keeps s (t.syncWait src n c) :=
    Keeps.ite h.settleObj.syncSend (Keeps.ite h.syncSend (Keeps.ite h.bump.syncSend h.frame))
theorem Keeps.syncOp (h : Keeps s t) {src n kinds operandBad f} (hf : ∀ {u}, Keeps s u → Keeps s (f u)) :
    Keeps s (t.syncOp src n kinds operandBad f) := Keeps.ite h.syncRefuse (Keeps.ite h.syncRefuse (Keeps.ite h.syncRefuse (hf h)))
theorem Keeps.syncSet (h : Keeps s t) {src n v' r} : Keeps s (t.syncSet src n v' r) := h.settleObj.syncDone
theorem Keeps.endWaiters (h : Keeps s t) {p ans} (hans : ∀ {u}, Keeps s u → ∀ w, Keeps s (ans u w)) : Keeps s (t.endWaiters p ans) :=
  (h.frame.each hans).each fun h _ => h.settleObj
theorem Keeps.expireWaiters (h : Keeps s t) {p} : Keeps s (t.expireWaiters p) := h.endWaiters fun h _ => h.syncSend
theorem Keeps.setFlags (h : Keeps s t) {p n a} : Keeps s (t.setFlags p n a) := Keeps.ite h.settleObj h.bump
theorem Keeps.addCounter (h : Keeps s t) {p n a} : Keeps s (t.addCounter p n a) := Keeps.ite h.settleObj h.bump
theorem Keeps.expireOne (h : Keeps s t) {w} : Keeps s (t.expireOne w) := h.syncSend.frame.settleObj

/-! ## Machine/Interrupts -/

theorem Keeps.setPtnState (h : Keeps s t) {p v'} : Keeps s (t.setPtnState p v') := h.wr
theorem Keeps.msix (h : Keeps s t) {fn entry} : Keeps s (t.msix fn entry) := Keeps.ite h.bump (Keeps.ite h.frame h.emit)
theorem Keeps.exportEnd (h : Keeps s t) {status} : Keeps s (t.exportEnd status) := Keeps.ite h.frame.msix h
theorem Keeps.exportEndOf (h : Keeps s t) {p status} : Keeps s (t.exportEndOf p status) := Keeps.ite h.exportEnd h
theorem Keeps.intrToChiplet (h : Keeps s t) {k p vec} : Keeps s (t.intrToChiplet k p vec) := Keeps.ite h.bump (Keeps.ite h.setSite.emit h.setSite)
theorem Keeps.deliver (h : Keeps s t) {p v'} : Keeps s (t.deliver p v') :=
    Keeps.ite h (Keeps.ite h.msix (Keeps.ite h (Keeps.ite h.intrToChiplet (Keeps.ite h.setFlags h))))
theorem Keeps.post (h : Keeps s t) {p ctx v'} : Keeps s (t.post p ctx v') := by
  unfold State.post
  dsimp only
  split
  · exact h.writePpa
  · exact h
theorem Keeps.raiseVector (h : Keeps s t) {p v'} : Keeps s (t.raiseVector p v') := Keeps.ite h.bump (Keeps.ite h.wr (Keeps.ite h.post h.deliver))
theorem execInterruptRaise_answers {p v'} : Answers s (execInterruptRaise p v' s) := (Keeps.refl s).raiseVector.answers

/-! ## Machine/Strand -/

theorem Keeps.setStrand (h : Keeps s t) {t' n x} : Keeps s (t.setStrand t' n x) := h.frame
theorem Keeps.dropStrand (h : Keeps s t) {t' n} : Keeps s (t.dropStrand t' n) := h.frame
theorem Keeps.setWq (h : Keeps s t) {p q w} : Keeps s (t.setWq p q w) := h.frame
theorem Keeps.mapDesc (h : Keeps s t) {p q idx f} : Keeps s (t.mapDesc p q idx f) := h.setWq
theorem Keeps.itemDone (h : Keeps s t) {p q idx item code} : Keeps s (t.itemDone p q idx item code) := h.mapDesc
theorem Keeps.endStrand (h : Keeps s t) {t' n x} : Keeps s (t.endStrand t' n x) := by
  unfold State.endStrand
  split
  · exact h.dropStrand.itemDone
  · exact h.dropStrand
theorem Keeps.settleStrand (h : Keeps s t) {t' n} : Keeps s (t.settleStrand t' n) := by
  unfold State.settleStrand
  split
  · exact Keeps.ite h.endStrand h
  · exact h
theorem Keeps.haltStrand (h : Keeps s t) {t' n code} : Keeps s (t.haltStrand t' n code) := by
  unfold State.haltStrand
  dsimp only
  split
  · exact h
  · split
    · exact h
    · refine Keeps.settleStrand (Keeps.setStrand ?_)
      split
      · exact h.bump
      · exact h
theorem Keeps.haltTile (h : Keeps s t) {code t'} : Keeps s (t.haltTile code t') := h.each fun h _ => h.haltStrand
theorem Keeps.requestDone (h : Keeps s t) {t' n} : Keeps s (t.requestDone t' n) := by
  unfold State.requestDone
  dsimp only
  split
  · exact h
  · exact h.setStrand.settleStrand

/-! ## Machine/Wire -/

theorem Keeps.sendSft (h : Keeps s t) {f} : Keeps s (t.sendSft f) := h.emit

/-! ## Machine/SafeState -/

theorem Keeps.abortAnswer (h : Keeps s t) {j k} : Keeps s (t.abortAnswer j k) := Keeps.ite h.emit h.emit
theorem Keeps.abortSites (h : Keeps s t) {mine} : Keeps s (t.abortSites mine) := by
  unfold State.abortSites
  dsimp only
  refine h.frame.each fun h _ => ?_
  split
  · exact h.abortAnswer
  · exact h
theorem Keeps.faultNotice (h : Keeps s t) {n c scope code} : Keeps s (t.faultNotice n c scope code) := by
  unfold State.faultNotice
  split
  · exact Keeps.ite h.sendSft h
  · exact h
theorem Keeps.faultConns (h : Keeps s t) {mine scope code} : Keeps s (t.faultConns mine scope code) := (h.each fun h _ => h.faultNotice).frame
theorem Keeps.stopWork (h : Keeps s t) {mine} : Keeps s (t.stopWork mine) := ((h.each fun h _ => h.haltTile).endWaiters fun h _ => h.syncAbort).frame
theorem Keeps.safePartition (h : Keeps s t) {p code} : Keeps s (t.safePartition p code) := h.stopWork.abortSites.faultConns.emit
theorem Keeps.restStack (h : Keeps s t) {h'} : Keeps s (t.restStack h') := Keeps.ite h.wr.emit h
theorem Keeps.abortPattern (h : Keeps s t) : Keeps s (t.abortPattern) := Keeps.ite h.frame.wr h
theorem Keeps.abortTests (h : Keeps s t) : Keeps s (t.abortTests) := Keeps.ite h.abortPattern.frame.wr.drawn h.abortPattern
theorem Keeps.safeHub (h : Keeps s t) {code} : Keeps s (t.safeHub code) :=
    (h.abortTests.stopWork.abortSites.faultConns.each fun h _ => h.emit).emit.each fun h _ => h.restStack

/-! ## Machine/Flags -/

theorem Keeps.refuse (h : Keeps s t) {st} : Keeps s (t.refuse st).2 := h
theorem Keeps.holdBeat (h : Keeps s t) {r v' u' sub} : Keeps s (t.holdBeat r v' u' sub) := h.frame

/-! ## Machine/Squirrel -/

theorem Keeps.buffer (h : Keeps s t) {r} : Keeps s (t.buffer r) := Keeps.ite h.frame.bump.wr.drawn h.bump.frame
theorem Keeps.setBucket (h : Keeps s t) {code b} : Keeps s (t.setBucket code b) := h.frame
theorem Keeps.summarise (h : Keeps s t) {code} : Keeps s (t.summarise code) := Keeps.ite h h.buffer.setBucket
theorem Keeps.recordEvent (h : Keeps s t) {code sev ptn raised detail} : Keeps s (t.recordEvent code sev ptn raised detail) :=
    Keeps.ite h.summarise.buffer (Keeps.ite h.summarise.setBucket.buffer h.setBucket)
theorem Keeps.record (h : Keeps s t) {kind ptn keep ext} : Keeps s (t.record kind ptn keep ext) := h.buffer
theorem Keeps.startFlush (h : Keeps s t) : Keeps s (t.startFlush) := Keeps.ite h (h.each fun h _ => h.summarise).frame
theorem Keeps.clearHead (h : Keeps s t) {n} : Keeps s (State.clearHead n t) := by
  induction n generalizing t with
  | zero => exact h
  | succ n ih =>
    rw [State.clearHead]
    dsimp only
    split
    · exact Keeps.ite (Keeps.ite (ih h.frame.bump) h.frame) h
    · exact h
theorem Keeps.storeRecord (h : Keeps s t) {r} : Keeps s (t.storeRecord r) := h.clearHead.frame
theorem Keeps.writeOut (h : Keeps s t) {rs} : Keeps s (t.writeOut rs) := h.each fun h _ => h.storeRecord
theorem Keeps.endFlush (h : Keeps s t) : Keeps s (t.endFlush) := h.writeOut.frame.wr.bump

/-! ## Machine/Owl -/

theorem Keeps.countRaise (h : Keeps s t) {latch v' esc} : Keeps s (t.countRaise latch v' esc) :=
    Keeps.ite (Keeps.ite h.bumpWord.bumpWord h.bumpWord).bump (Keeps.ite h.bumpWord.bumpWord h.bumpWord)
theorem Keeps.awaitTriage (h : Keeps s t) {latch code v' detail} : Keeps s (t.awaitTriage latch code v' detail) := Keeps.ite h (Keeps.ite h.frame h)
theorem Keeps.halt (h : Keeps s t) {p} : Keeps s (t.halt p) := Keeps.ite h h.setPtnState.bumpWord
theorem Keeps.react (h : Keeps s t) {latch code v'} : Keeps s (t.react latch code v') :=
    Keeps.ite ((Keeps.ite (Keeps.ite (Keeps.ite h.raiseVector h).msix (Keeps.ite h.raiseVector h)).halt.safePartition (Keeps.ite (Keeps.ite
    h.raiseVector h).msix (Keeps.ite h.raiseVector h))).each fun h _ => h.halt).frame.safeHub (Keeps.ite (Keeps.ite (Keeps.ite (Keeps.ite
    h.raiseVector h).msix (Keeps.ite h.raiseVector h)).halt.safePartition (Keeps.ite (Keeps.ite h.raiseVector h).msix (Keeps.ite h.raiseVector
    h))).frame (Keeps.ite (Keeps.ite (Keeps.ite h.raiseVector h).msix (Keeps.ite h.raiseVector h)).halt.safePartition (Keeps.ite (Keeps.ite
    h.raiseVector h).msix (Keeps.ite h.raiseVector h))))
theorem Keeps.raiseAt (h : Keeps s t) {x latch code v' cnt detail} : Keeps s (t.raiseAt x latch code v' cnt detail).1 :=
    h.frame.countRaise.awaitTriage.react
theorem Keeps.report1 (h : Keeps s t) {e'} : Keeps s (t.report1 e') := by
  unfold State.report1
  dsimp only
  split
  · exact h
  · exact Keeps.ite (Keeps.ite (Keeps.ite h.frame.raiseAt.raiseAt h.frame.raiseAt).recordEvent.startFlush (Keeps.ite h.frame.raiseAt.raiseAt
      h.frame.raiseAt).recordEvent) h.frame.recordEvent
theorem Keeps.sqlSettle (h : Keeps s t) : Keeps s (t.sqlSettle) :=
    Keeps.ite (Keeps.ite (Keeps.ite h.frame.report1 h).frame.report1 (Keeps.ite h.frame.report1 h)) (Keeps.ite (Keeps.ite (Keeps.ite
    h.frame.report1 h).frame.report1 (Keeps.ite h.frame.report1 h)).startFlush (Keeps.ite (Keeps.ite (Keeps.ite h.frame.report1 h).frame.report1
    (Keeps.ite h.frame.report1 h)) (Keeps.ite (Keeps.ite h.frame.report1 h).frame.report1 (Keeps.ite h.frame.report1 h)).frame.report1))
theorem Keeps.report (h : Keeps s t) {e'} : Keeps s (t.report e') := h.report1.sqlSettle
theorem Keeps.ev (h : Keeps s t) {code ptn detail} : Keeps s (t.ev code ptn detail) := h.report
theorem Keeps.log (h : Keeps s t) {kind ext keep ptn} : Keeps s (t.log kind ext keep ptn) := h.record.sqlSettle
theorem Keeps.clearLatch (h : Keeps s t) {latch} : Keeps s (t.clearLatch latch) := h.frame
theorem Keeps.tileCe (h : Keeps s t) {p t' ev} : Keeps s (t.tileCe p t' ev) := h.bump.frame.ev
theorem Keeps.tileUe (h : Keeps s t) {p t' ev} : Keeps s (t.tileUe p t' ev) := h.bump.frame.ev

/-! ## Machine/Beat -/

theorem Keeps.align (h : Keeps s t) {offset} : Keeps s (t.align offset) := by
  unfold State.align
  dsimp only
  split
  · refine Keeps.ev (Keeps.bump (Keeps.wr ?_))
    split
    · exact h.wr.frame
    · exact Keeps.ite h.wr.frame (Keeps.ite (Keeps.ite h.wr.frame.wr.frame.bump h.wr.frame.wr.frame) h.wr.frame.wr.frame)
  · refine Keeps.wr ?_
    split
    · exact h.wr.frame
    · exact Keeps.ite h.wr.frame (Keeps.ite (Keeps.ite h.wr.frame.wr.frame.bump h.wr.frame.wr.frame) h.wr.frame.wr.frame)
theorem Keeps.declare (h : Keeps s t) {d} : Keeps s (t.declare d) := Keeps.ite h.frame.emit (Keeps.ite h.frame.emit h.frame.emit.frame)
theorem Keeps.admit1 (h : Keeps s t) {p} : Keeps s (t.admit1 p) := by
  unfold State.admit1
  dsimp only
  split
  · exact h
  · split
    · exact h
    · exact h.emit.frame
    · exact h.emit.frame
theorem Keeps.admitAll (h : Keeps s t) : Keeps s (t.admitAll) := (h.each fun h _ => h.admit1).frame
theorem Keeps.complete (h : Keeps s t) {id} : Keeps s (t.complete id) := h.frame
theorem Keeps.dropItems (h : Keeps s t) {p} : Keeps s (t.dropItems p) := h.frame
theorem Keeps.loseSlots (h : Keeps s t) {p n} : Keeps s (t.loseSlots p n) := h.bump.frame
theorem execBeatHoldoverExpiry_answers : Answers s (execBeatHoldoverExpiry s) := (Keeps.ite (Keeps.refl s).frame (Keeps.refl s)).answers
theorem execPtpSyncLapse_answers : Answers s (execPtpSyncLapse s) := (Keeps.ite (Keeps.refl s).frame (Keeps.refl s)).answers
theorem execPpsPulseMissed_answers : Answers s (execPpsPulseMissed s) := (Keeps.ite (Keeps.refl s).frame (Keeps.refl s)).answers
theorem execPpsInEdge_answers : Answers s (execPpsInEdge s) := (Keeps.ite (Keeps.refl s).frame (Keeps.refl s)).answers
theorem execPpsOutPulse_answers : Answers s (execPpsOutPulse s) := (Keeps.ite (Keeps.refl s).emit (Keeps.refl s)).answers
theorem execDeclare_answers {d} : Answers s (execDeclare d s) := (Keeps.refl s).declare.answers
theorem execItemCompletion_answers {id} : Answers s (execItemCompletion id s) := (Keeps.refl s).complete.answers

/-! ## Machine/Entry -/

theorem Keeps.setTracker (h : Keeps s t) {id k} : Keeps s (t.setTracker id k) := h.frame
theorem Keeps.dropTracker (h : Keeps s t) {id} : Keeps s (t.dropTracker id) := h.frame
theorem Keeps.setCache (h : Keeps s t) {e' l} : Keeps s (t.setCache e' l) := h.frame
theorem Keeps.cacheFill (h : Keeps s t) {e' x} : Keeps s (t.cacheFill e' x) := h.setCache
theorem Keeps.cacheDrop (h : Keeps s t) {e' p g} : Keeps s (t.cacheDrop e' p g) := h.setCache
theorem Keeps.cachesFlush (h : Keeps s t) {p} : Keeps s (t.cachesFlush p) := h.frame
theorem Keeps.sendOut (h : Keeps s t) {k r x} : Keeps s (t.sendOut k r x) := by
  unfold State.sendOut
  split
  · split
    · exact h.emit
    · split
      · split
        · exact h.emit
        · exact h.emit
      · exact h.emit
    · exact h.emit
  · exact h.emit
theorem Keeps.returnCredit (h : Keeps s t) {e' o p} : Keeps s (t.returnCredit e' o p) := by
  unfold State.returnCredit
  dsimp only
  split
  · exact Keeps.ite h.frame h.emit
  · exact h
theorem Keeps.injectWith (h : Keeps s t) {id k x p} : Keeps s (t.injectWith id k x p) := h.setTracker.sendOut.returnCredit
theorem Keeps.htlAnswer (h : Keeps s t) {j k status st data poison} : Keeps s (t.htlAnswer j k status st data poison) := Keeps.ite h.emit h.emitAll
theorem Keeps.hostRefuse (h : Keeps s t) {p code read} : Keeps s (t.hostRefuse p code read) :=
    Keeps.ite (Keeps.ite (Keeps.ite h.frame.bump.emit.bump.ev h.frame.bump.emit).ev (Keeps.ite h.frame.bump.emit.bump.ev h.frame.bump.emit)).emit
    (Keeps.ite (Keeps.ite h.frame.bump.emit.bump.ev h.frame.bump.emit).ev (Keeps.ite h.frame.bump.emit.bump.ev h.frame.bump.emit))
theorem Keeps.hostAnswer (h : Keeps s t) {k status data poison} : Keeps s (t.hostAnswer k status data poison) :=
    Keeps.ite h.hostRefuse (Keeps.ite h.hostRefuse (Keeps.ite h.hostRefuse (Keeps.ite h.emitAll h)))
theorem Keeps.deliverAnswer (h : Keeps s t) {id k status st data poison} : Keeps s (t.deliverAnswer id k status st data poison) := by
  unfold State.deliverAnswer
  dsimp only
  split
  · exact Keeps.ite h (Keeps.ite (Keeps.ite h.bump h).emit (Keeps.ite h.bump h).htlAnswer)
  · exact h.frame.emit
  · exact h.hostAnswer
  · exact (Keeps.ite h.wrField h).emit
theorem Keeps.stationOp (h : Keeps s t) {id k} : Keeps s (t.stationOp id k) := by
  unfold State.stationOp
  split
  · exact h.raiseVector.emit.dropTracker.returnCredit
  · exact h
theorem Keeps.forwardSync (h : Keeps s t) {id k} : Keeps s (t.forwardSync id k) := h.setTracker.emit
/-- What a turn of a host's request leaves keeps. -/
def HostTurn.Keeping (s : State) : HostTurn → Prop
  | .wait => True
  | .done u => Keeps s u
  | .issue u _ => Keeps s u
theorem HostTurn.Keeping.ite {c : Prop} [Decidable c] {x y : HostTurn} (hx : x.Keeping s) (hy : y.Keeping s) :
    (if c then x else y).Keeping s := by split <;> assumption
theorem Keeps.hostBar2 (h : Keeps s t) {p r} : (t.hostBar2 p r).Keeping s := by
  unfold State.hostBar2
  extract_lets st read w ppa outs cls s1 lab a n
  have h1 : Keeps s s1 := Keeps.ite h.bump h
  have refused : ∀ {code}, (HostTurn.done (t.hostRefuse p code read)).Keeping s := h.hostRefuse
  refine .ite (Keeps.ite h.emit h : Keeps s _) (.ite trivial (.ite refused (.ite refused (.ite refused (.ite refused (.ite trivial ?_))))))
  split
  · exact h1
  · exact HostTurn.Keeping.ite (h1.ev : Keeps s _) h1
/-- The four operations by which requests end and start keep, by induction on their common fuel. -/
theorem keeps_turns (s : State) (f : Nat) :
    (∀ {t}, Keeps s t → ∀ {id k}, Keeps s (State.translate f t id k))
    ∧ (∀ {t}, Keeps s t → ∀ {id status st d x}, Keeps s (State.finish f t id status st d x))
    ∧ (∀ {t}, Keeps s t → ∀ {e}, Keeps s (State.settleEntry f t e))
    ∧ (∀ {t}, Keeps s t → ∀ {p}, Keeps s (State.hostPump f t p)) := by
  induction f with
  | zero =>
    refine ⟨fun h => ?_, fun h => ?_, fun h => ?_, fun h => ?_⟩
    · intros; rw [State.translate]; exact h
    · intros; rw [State.finish]; exact h
    · intros; rw [State.settleEntry]; exact h
    · intros; rw [State.hostPump]; exact h
  | succ f ih =>
    obtain ⟨translate, finish, settleEntry, hostPump⟩ := ih
    refine ⟨fun h => ?translate, fun h => ?finish, fun h => ?settleEntry, fun h => ?hostPump⟩
    case translate =>
      intros
      rw [State.translate]
      split
      · exact h.stationOp
      · split
        · exact h.forwardSync.returnCredit
        · split
          · exact finish h.setTracker
          · split
            · exact h.setTracker
            · split
              · exact h.cacheFill.injectWith
              · exact h.setTracker.emit
    case finish =>
      intros
      rw [State.finish]
      split
      · exact h
      · refine settleEntry ?_
        split
        · exact Keeps.ite (Keeps.ite h h.deliverAnswer).dropTracker (Keeps.ite (Keeps.ite h h.deliverAnswer).dropTracker.haltStrand.requestDone
            (Keeps.ite h h.deliverAnswer).setTracker)
        · exact (Keeps.ite h h.deliverAnswer).dropTracker
    case settleEntry =>
      intro e
      rw [State.settleEntry]
      have hheld : ∀ {l : List (Nat × Tracker)} {u}, Keeps s u → Keeps s (l.foldl (fun s x =>
          match s.noc.trackers.find x.1 with
          | some k => if s.turnCome k then State.translate f s x.1 k else s
          | none => s) u) := by
        refine fun h => h.foldl fun h _ => ?_
        split
        · exact Keeps.ite (translate h) h
        · exact h
      exact Keeps.ite (Keeps.foldl (hheld (Keeps.emitAll h.frame)) fun h _ => hostPump h) (hheld (Keeps.emitAll h.frame))
    case hostPump =>
      intro p
      rename_i t
      rw [State.hostPump]
      split
      · exact h
      · rename_i r rest _
        split
        · exact h
        · have hturn : (t.hostBar2 p r).Keeping s := h.hostBar2
          dsimp only
          split
          · exact h
          · rename_i he
            rw [he] at hturn
            exact hostPump hturn.frame
          · rename_i he
            rw [he] at hturn
            exact hostPump (translate hturn.frame)
theorem Keeps.translate (h : Keeps s t) {f id k} : Keeps s (State.translate f t id k) := (keeps_turns s f).1 h
theorem Keeps.finish (h : Keeps s t) {f id status st d x} : Keeps s (State.finish f t id status st d x) := (keeps_turns s f).2.1 h
theorem Keeps.settleEntry (h : Keeps s t) {f e} : Keeps s (State.settleEntry f t e) := (keeps_turns s f).2.2.1 h
theorem Keeps.hostPump (h : Keeps s t) {f p} : Keeps s (State.hostPump f t p) := (keeps_turns s f).2.2.2 h
theorem Keeps.timeOut (h : Keeps s t) {id k} : Keeps s (t.timeOut id k) := by
  unfold State.timeOut
  dsimp only
  split
  · exact h.setTracker.haltStrand.requestDone
  · exact h.setTracker.deliverAnswer
theorem Keeps.settleSites (h : Keeps s t) : Keeps s (t.settleSites) := h.each fun h _ => h.settleEntry
theorem Keeps.answerReq (h : Keeps s t) {id status st data poison} : Keeps s (t.answerReq id status st data poison) := h.finish
theorem Keeps.issue (h : Keeps s t) {k fence} : Keeps s (t.issue k fence) := Keeps.ite h.frame.setTracker h.frame.translate

/-! ## Machine/Regulation -/

theorem Keeps.takeRequests (h : Keeps s t) {h' cs} : Keeps s (t.takeRequests h' cs) := h.frame
theorem Keeps.serveSlot (h : Keeps s t) {sel slot p cs} : Keeps s (t.serveSlot sel slot p cs) :=
    Keeps.ite h (Keeps.ite h.emit.frame.takeRequests h.emit.frame)
theorem Keeps.lend (h : Keeps s t) {sel slot cs} : Keeps s (t.lend sel slot cs) := by
  unfold State.lend
  dsimp only
  split
  · exact h
  · split
    · exact h.serveSlot.frame
    · exact Keeps.ite h.serveSlot.frame.bump.frame h.serveSlot.frame.bump
theorem Keeps.slotBegin (h : Keeps s t) {sel slot cs} : Keeps s (t.slotBegin sel slot cs) := by
  unfold State.slotBegin
  dsimp only
  split
  · split
    · exact h.loseSlots
    · exact h
  · split
    · exact Keeps.ite h.serveSlot (Keeps.ite h h.lend)
    · exact Keeps.ite h.serveSlot h.lend
    · exact h.lend
theorem Keeps.sysAt (h : Keeps s t) {cs sel} : Keeps s (t.sysAt cs sel) := by
  unfold State.sysAt
  dsimp only
  split
  · exact h
  · exact Keeps.ite h.emit.frame.takeRequests h.emit.frame
theorem Keeps.retrainShares (h : Keeps s t) {k} : Keeps s (t.retrainShares k) := Keeps.ite h h.setSite
theorem Keeps.endRound (h : Keeps s t) : Keeps s (t.endRound) := (h.each fun h _ => h.retrainShares).frame
theorem Keeps.sendMarkers (h : Keeps s t) : Keeps s (t.sendMarkers) := Keeps.ite h.emitAll h
theorem Keeps.sysWindow (h : Keeps s t) {cs} : Keeps s (t.sysWindow cs) := (h.sendMarkers.each fun h _ => h.sysAt).endRound
theorem Keeps.levelSample (h : Keeps s t) {h'} : Keeps s (t.levelSample h') := (h.wr.wr.frame.each fun h _ => h.bump).emit
theorem Keeps.qosCommit (h : Keeps s t) {role v'} : Keeps s (t.qosCommit role v').2 :=
    Keeps.ite_snd h.refuse (Keeps.ite_snd h.refuse (Keeps.ite_snd h.refuse h.wr))
theorem Keeps.commitCheck (h : Keeps s t) : Keeps s (t.commitCheck) := by
  unfold State.commitCheck
  dsimp only
  split
  · exact h.wr.wr
  · exact h.wr.frame
theorem Keeps.applyTables (h : Keeps s t) : Keeps s (t.applyTables) := by
  unfold State.applyTables
  dsimp only
  split
  · exact Keeps.ite h.frame.wr.wr h
  · exact h
theorem execSlotBegin_answers {res slot cands} : Answers s (execSlotBegin res slot cands s) := (Keeps.refl s).slotBegin.answers
theorem execSysWindow_answers {cands} : Answers s (execSysWindow cands s) := (Keeps.refl s).sysWindow.answers
theorem execQosLevelSample_answers {h'} : Answers s (execQosLevelSample h' s) := (Keeps.refl s).levelSample.answers
theorem execQosLevelWord_answers {inj h'} : Answers s (execQosLevelWord inj h' s) := (Keeps.refl s).frame.answers
theorem execRequestAged_answers {p id} : Answers s (execRequestAged p id s) := (Keeps.ite (Keeps.refl s) (Keeps.refl s).bump.frame).answers
theorem execQosCommit_answers {role v'} : Answers s (execQosCommit role v' s) := (Keeps.refl s).qosCommit.answered.answers
theorem execQosCommitCheckDone_answers : Answers s (execQosCommitCheckDone s) := (Keeps.ite (Keeps.refl s).commitCheck (Keeps.refl s)).answers

/-! ## Machine/Jay -/

theorem Keeps.mapGranule (h : Keeps s t) {p g hg sfmt} : Keeps s (t.mapGranule p g hg sfmt) := h.setDir.setHgt
theorem Keeps.sliceAnswer (h : Keeps s t) {e' p g x} : Keeps s (t.sliceAnswer e' p g x) := h.emit.frame
theorem Keeps.sliceRefuse (h : Keeps s t) {e' p g} : Keeps s (t.sliceRefuse e' p g) := h.bump.sliceAnswer
theorem Keeps.recordMiss (h : Keeps s t) {e' p g} : Keeps s (t.recordMiss e' p g) := Keeps.ite h.frame (Keeps.ite h.sliceRefuse h.frame.raiseVector)
theorem Keeps.sliceLookup (h : Keeps s t) {e' p g entryUE} : Keeps s (t.sliceLookup e' p g entryUE) := by
  unfold State.sliceLookup
  dsimp only
  split
  · exact h.sliceRefuse
  · split
    · exact h.sliceRefuse.ev
    · split
      · exact Keeps.ite h.frame h.sliceAnswer
      · split
        · split
          · exact h.mapGranule.sliceAnswer
          · exact h.sliceRefuse
        · exact h.recordMiss
theorem Keeps.answerLockWait (h : Keeps s t) {p g} : Keeps s (t.answerLockWait p g) := h.frame.each fun h _ => h.sliceLookup
theorem Keeps.xlateRefused (h : Keeps s t) {e'} : Keeps s (t.xlateRefused e') := by
  unfold State.xlateRefused
  split
  · exact h.bump
  · exact h
theorem Keeps.xlateAnswer (h : Keeps s t) {e' p g} : Keeps s (t.xlateAnswer e' p g) := by
  unfold State.xlateAnswer
  dsimp only
  split
  · exact h
  · split
    · refine h.frame.cacheFill.each fun h _ => ?_
      split
      · exact h.translate
      · exact h
    · exact h.frame.each fun h _ => h.xlateRefused.answerReq
theorem Keeps.missTimeout (h : Keeps s t) {p g} : Keeps s (t.missTimeout p g) := by
  unfold State.missTimeout
  dsimp only
  split
  · exact h
  · refine Keeps.ev ?_
    refine h.frame.each fun h _ => ?_
    refine h.each fun h _ => ?_
    split
    · exact h.answerReq
    · exact h
theorem Keeps.answerMiss (h : Keeps s t) {p g} : Keeps s (t.answerMiss p g) := by
  unfold State.answerMiss
  dsimp only
  split
  · exact h
  · exact h.frame.each fun h _ => h.sliceAnswer
theorem Keeps.invalidate (h : Keeps s t) {p g dest xlate rows code held source} : Keeps s (t.invalidate p g dest xlate rows code held source) :=
    h.emitAll.frame
theorem Keeps.dropRows (h : Keeps s t) {t' p g} : Keeps s (t.dropRows t' p g) := h.frame
theorem Keeps.receiveInval (h : Keeps s t) {e' p g} : Keeps s (t.receiveInval e' p g) := by
  unfold State.receiveInval
  dsimp only
  split
  · exact h
  · split
    · exact Keeps.ite (Keeps.ite (Keeps.ite h.cacheDrop h).dropRows (Keeps.ite h.cacheDrop h)).emit (Keeps.ite (Keeps.ite h.cacheDrop h).dropRows
        (Keeps.ite h.cacheDrop h)).frame
    · exact Keeps.ite (Keeps.ite h.cacheDrop h).emit (Keeps.ite h.cacheDrop h).frame
theorem Keeps.sampleHeat (h : Keeps s t) {hg r} : Keeps s (t.sampleHeat hg r) := by
  unfold State.sampleHeat
  dsimp only
  split
  · exact h
  · exact Keeps.ite h.setHgt (Keeps.ite h.frame (Keeps.ite h.frame h.setHgt.bump))
theorem Keeps.heatIncrement (h : Keeps s t) {h'} : Keeps s (t.heatIncrement h') := by
  unfold State.heatIncrement
  dsimp only
  split
  · exact h
  · exact h.frame
theorem Keeps.countRow (h : Keeps s t) {hpa} : Keeps s (t.countRow hpa) := Keeps.ite h h.frame
theorem Keeps.jayResult (h : Keeps s t) {p code} : Keeps s (t.jayResult p code) := h.wr
theorem Keeps.jayCode (h : Keeps s t) {p code} : Keeps s (t.jayCode p code) := h.wrField
theorem Keeps.onMapped (h : Keeps s t) {p g f} (hf : ∀ {u}, Keeps s u → ∀ e, Keeps s (f u e)) : Keeps s (t.onMapped p g f) :=
  Keeps.ite h.jayResult (Keeps.ite (hf h _) h.jayResult)
theorem Keeps.jayMap (h : Keeps s t) {p g stack sfmt} : Keeps s (t.jayMap p g stack sfmt) := by
  unfold State.jayMap
  dsimp only
  split
  · exact h.jayResult
  · split
    · exact h.jayResult
    · split
      · exact h.mapGranule.answerMiss.jayResult
      · exact h.jayResult
theorem Keeps.unmapNow (h : Keeps s t) {p g code} : Keeps s (t.unmapNow p g code) := h.setDir.setHgt.invalidate
theorem Keeps.setFmtNow (h : Keeps s t) {p g sfmt code} : Keeps s (t.setFmtNow p g sfmt code) := h.setDir.invalidate
theorem Keeps.jayUnmap (h : Keeps s t) {p g} : Keeps s (t.jayUnmap p g) := h.onMapped fun h _ => Keeps.ite h.jayResult.frame h.unmapNow
theorem Keeps.jaySetFmt (h : Keeps s t) {p g sfmt} : Keeps s (t.jaySetFmt p g sfmt) := h.onMapped fun h _ => Keeps.ite h.jayResult.frame h.setFmtNow
theorem Keeps.jayPin (h : Keeps s t) {p g value} : Keeps s (t.jayPin p g value) := h.onMapped fun h _ => h.setDir.jayResult
theorem Keeps.jayHint (h : Keeps s t) {p g stack} : Keeps s (t.jayHint p g stack) := h.onMapped fun h _ => h.setDir.jayResult
theorem Keeps.jayRowrep (h : Keeps s t) {p g value} : Keeps s (t.jayRowrep p g value) := h.onMapped fun h _ => h.setDir.setHgt.invalidate
theorem Keeps.jayMove (h : Keeps s t) {p g stack} : Keeps s (t.jayMove p g stack) :=
    Keeps.ite h.jayResult (Keeps.ite h.jayResult (Keeps.ite h.jayResult (Keeps.ite h.jayResult h.jayResult.frame)))
theorem Keeps.jayAck (h : Keeps s t) {p g} : Keeps s (t.jayAck p g) := by
  unfold State.jayAck
  dsimp only
  split
  · exact h.jayResult
  · split
    · exact h.jayResult
    · split
      · exact h.jayResult.frame
      · exact h.jayResult
theorem Keeps.jayHostMiss (h : Keeps s t) {p} : Keeps s (t.jayHostMiss p) := by
  unfold State.jayHostMiss
  dsimp only
  split
  · split
    · exact Keeps.ite h h.ev.frame
    · exact h
  · exact h
theorem execSliceLookup_answers {e' p g entryUE} : Answers s (execSliceLookup e' p g entryUE s) := (Keeps.refl s).sliceLookup.answers
theorem execJayMissTimeout_answers {p g} : Answers s (execJayMissTimeout p g s) := (Keeps.refl s).missTimeout.answers
theorem execGranuleInvalidate_answers {e' p g} : Answers s (execGranuleInvalidate e' p g s) := (Keeps.refl s).receiveInval.answers
theorem execHeatIncrement_answers {h'} : Answers s (execHeatIncrement h' s) := (Keeps.refl s).heatIncrement.answers
theorem execJayCmdMap_answers {p g stack sfmt} : Answers s (execJayCmdMap p g stack sfmt s) := (Keeps.refl s).jayMap.answers
theorem execJayCmdUnmap_answers {p g} : Answers s (execJayCmdUnmap p g s) := (Keeps.refl s).jayUnmap.answers
theorem execJayCmdSetFmt_answers {p g sfmt} : Answers s (execJayCmdSetFmt p g sfmt s) := (Keeps.refl s).jaySetFmt.answers
theorem execJayCmdPin_answers {p g value} : Answers s (execJayCmdPin p g value s) := (Keeps.refl s).jayPin.answers
theorem execJayCmdHint_answers {p g stack} : Answers s (execJayCmdHint p g stack s) := (Keeps.refl s).jayHint.answers
theorem execJayCmdRowrep_answers {p g value} : Answers s (execJayCmdRowrep p g value s) := (Keeps.refl s).jayRowrep.answers
theorem execJayCmdMove_answers {p g stack} : Answers s (execJayCmdMove p g stack s) := (Keeps.refl s).jayMove.answers
theorem execJayCmdAck_answers {p g} : Answers s (execJayCmdAck p g s) := (Keeps.refl s).jayAck.answers
theorem execJayHostMiss_answers {p} : Answers s (execJayHostMiss p s) := (Keeps.refl s).jayHostMiss.answers

/-! ## Machine/Errors -/

theorem Keeps.suspectRow (h : Keeps s t) {k} : Keeps s (t.suspectRow k) := Keeps.ite h.frame (Keeps.ite h.frame h.frame)
theorem Keeps.trackRoom (h : Keeps s t) {h'} : Keeps s (t.trackRoom h') := by
  unfold State.trackRoom
  dsimp only
  split
  · exact h
  · split
    · exact h.frame.ev
    · exact h.ev
theorem Keeps.trackRow (h : Keeps s t) {k ue} : Keeps s (t.trackRow k ue) :=
    Keeps.ite (Keeps.ite h h.trackRoom).frame.suspectRow (Keeps.ite h h.trackRoom).frame
theorem Keeps.readErr (h : Keeps s t) {a own e'} : Keeps s (t.readErr a own e').1 := by
  unfold State.readErr
  dsimp only
  split
  · exact h
  · split
    · split
      · exact h
      · dsimp only
        refine Keeps.trackRow (Keeps.ev ?_)
        split
        · exact h.bump
        · exact h
    · dsimp only
      refine Keeps.trackRow (Keeps.ev ?_)
      split
      · exact h.bump
      · exact h
    · split
      · dsimp only
        refine Keeps.ev ?_
        split
        · exact h.bump
        · exact h
      · exact h
theorem Keeps.readErrs (h : Keeps s t) {a own es} : Keeps s (t.readErrs a own es).1 := by
  have hfold : ∀ (r : State × List Nat), Keeps s r.1 →
      Keeps s (es.foldl (fun r e => ((r.1.readErr a own e).1, r.2 ++ (r.1.readErr a own e).2)) r).1 := by
    induction es with
    | nil => exact fun r h => h
    | cons e es ih => exact fun r h => ih _ h.readErr
  exact hfold (t, []) h

/-! ## Machine/Coherence -/

theorem Keeps.setRegion (h : Keeps s t) {r x} : Keeps s (t.setRegion r x) := h.frame
theorem Keeps.freeRegion (h : Keeps s t) {r} : Keeps s (t.freeRegion r) := h.frame
theorem Keeps.setLine (h : Keeps s t) {l g} : Keeps s (t.setLine l g) := by
  unfold State.setLine
  split
  · exact h
  · exact h.setRegion
theorem Keeps.removeHolder (h : Keeps s t) {l a} : Keeps s (t.removeHolder l a) := h.setLine
theorem Keeps.grantLine (h : Keeps s t) {l a st} : Keeps s (t.grantLine l a st) := by
  unfold State.grantLine
  dsimp only
  split
  · exact h
  · exact h.setRegion
theorem Keeps.recordAnswer (h : Keeps s t) {l a st} : Keeps s (t.recordAnswer l a st) := by
  unfold State.recordAnswer
  split
  · exact h
  · split
    · exact h.removeHolder
    · exact h.setLine
    · exact h.setLine
theorem Keeps.toChiplet (h : Keeps s t) {a m} : Keeps s (t.toChiplet a m) := Keeps.ite h.setSite.emit h.setSite
theorem Keeps.sendSnoop (h : Keeps s t) {p ppa l a kind why} : Keeps s (t.sendSnoop p ppa l a kind why) :=
    Keeps.ite h.bump.frame.emit h.bump.frame.toChiplet
theorem Keeps.snoopAll (h : Keeps s t) {l agents kind why} : Keeps s (t.snoopAll l agents kind why) := by
  unfold State.snoopAll
  split
  · exact h
  · exact h.each fun h _ => h.sendSnoop
theorem Keeps.markDirty (h : Keeps s t) {a n} : Keeps s (t.markDirty a n) := h.frame
theorem Keeps.countWrite (h : Keeps s t) {a n} : Keeps s (t.countWrite a n) := h.activate.bump
theorem Keeps.countRead (h : Keeps s t) {a n} : Keeps s (t.countRead a n) := h.activate.bump
theorem Keeps.mirror (h : Keeps s t) {a d} : Keeps s (t.mirror a d) := Keeps.ite h.frame h
theorem Keeps.storeMasked (h : Keeps s t) {a d mask} : Keeps s (t.storeMasked a d mask) :=
    h.store64.countWrite.markDirty.mirror.each fun h _ => h.poisonUnit
theorem Keeps.storePlain (h : Keeps s t) {a d mask} : Keeps s (t.storePlain a d mask) := h.store64.each fun h _ => h.poisonUnit
theorem Keeps.poisonLine (h : Keeps s t) {l} : Keeps s (t.poisonLine l) := h.each fun h _ => h.poisonUnit
theorem Keeps.setTxn (h : Keeps s t) {t'} : Keeps s (t.setTxn t') := h.frame
theorem Keeps.dropTxn (h : Keeps s t) {t'} : Keeps s (t.dropTxn t') := h.frame
theorem Keeps.homeAnswer (h : Keeps s t) {h' r status st data poison} : Keeps s (t.homeAnswer h' r status st data poison) := h.emit.answerReq
theorem Keeps.poisonAnswer (h : Keeps s t) {h' op r status} : Keeps s (t.poisonAnswer h' op r status) := h.homeAnswer
theorem Keeps.endTxn (h : Keeps s t) {t' status st data poison} : Keeps s (t.endTxn t' status st data poison) := h.dropTxn.homeAnswer
theorem Keeps.orphan (h : Keeps s t) {q} : Keeps s (t.orphan q) := h.frame
theorem Keeps.abortTxns (h : Keeps s t) {p} : Keeps s (t.abortTxns p) := h.orphan.each fun h _ => Keeps.ite h.dropTxn h.endTxn
theorem Keeps.recallRegion (h : Keeps s t) {r} : Keeps s (t.recallRegion r) := by
  unfold State.recallRegion
  dsimp only
  split
  · exact h
  · exact Keeps.ite (h.setRegion.each fun h _ => h.snoopAll).freeRegion (h.setRegion.each fun h _ => h.snoopAll)
theorem Keeps.recallGranule (h : Keeps s t) {hg} : Keeps s (t.recallGranule hg) := h.each fun h _ => h.recallRegion
theorem Keeps.settleRecall (h : Keeps s t) {r} : Keeps s (t.settleRecall r) := by
  unfold State.settleRecall
  split
  · exact h
  · exact Keeps.ite h h.recallRegion
theorem Keeps.walkRegion (h : Keeps s t) {r} : Keeps s (t.walkRegion r) := by
  unfold State.walkRegion
  dsimp only
  split
  · exact h
  · exact (h.each fun h _ => (Keeps.ite h h.poisonLine).snoopAll).orphan.setRegion
theorem Keeps.takedown (h : Keeps s t) {p cause agent l} : Keeps s (t.takedown p cause agent l) :=
    Keeps.ite h (h.bump.wr.abortTxns.orphan.each fun h _ => h.walkRegion).frame.ev
theorem Keeps.stashHint (h : Keeps s t) {t'} : Keeps s (t.stashHint t') := by
  unfold State.stashHint
  dsimp only
  split
  · exact h.sendSnoop
  · split
    · exact h.bump
    · exact h.bump
theorem Keeps.conclude (h : Keeps s t) {t'} : Keeps s (t.conclude t') := by
  unfold State.conclude
  dsimp only
  split
  · exact h.endTxn
  · split
    · exact h.grantLine.setTxn.homeAnswer.emit
    · exact h.grantLine.setTxn.homeAnswer.emit
    · exact h.grantLine.setTxn.homeAnswer.emit
    · exact h.endTxn.stashHint
    · exact h.endTxn
theorem Keeps.completeTxn (h : Keeps s t) {t'} : Keeps s (t.completeTxn t') := Keeps.ite h.setTxn h.conclude
theorem Keeps.startRows (h : Keeps s t) {t'} : Keeps s (t.startRows t') := Keeps.ite h (Keeps.ite h (Keeps.ite h.setHgt h.invalidate))
theorem Keeps.writePart (h : Keeps s t) {t' l} : Keeps s (t.writePart t' l) := by
  unfold State.writePart
  dsimp only
  split
  · exact (Keeps.ite h.storePlain h.storePlain.storePlain.countWrite).markDirty.mirror
  · exact Keeps.ite h h.storeMasked
theorem Keeps.rmwPoison (h : Keeps s t) {t' l} : Keeps s (t.rmwPoison t' l).1 := h.readErrs.each fun h _ => h.poisonUnit
theorem Keeps.reduceHome (h : Keeps s t) {t'} : Keeps s (t.reduceHome t') := h.storeMasked
theorem Keeps.lineDone (h : Keeps s t) {t' l} : Keeps s (t.lineDone t' l) := by
  unfold State.lineDone
  dsimp only
  split
  · exact Keeps.ite (Keeps.ite h.reduceHome h).setTxn (Keeps.ite h.reduceHome h).setTxn.completeTxn
  · exact h.setTxn
theorem Keeps.snoopsDone (h : Keeps s t) {t'} : Keeps s (t.snoopsDone t') := by
  unfold State.snoopsDone
  dsimp only
  split
  · exact Keeps.ite h.setTxn h.setTxn.completeTxn
  · exact Keeps.ite h.setTxn h.setTxn.completeTxn
  · exact Keeps.ite h.setTxn h.setTxn.completeTxn
  · exact h.lineDone
  · exact h.writePart.rmwPoison.lineDone
theorem Keeps.await (h : Keeps s t) {t' agents kind} : Keeps s (t.await t' agents kind) := Keeps.ite h.setTxn.snoopAll.snoopsDone h.setTxn.snoopAll
theorem Keeps.serveLine (h : Keeps s t) {t'} : Keeps s (t.serveLine t') := by
  unfold State.serveLine
  dsimp only
  split
  · exact Keeps.ite h.setTxn h.completeTxn
  · split
    · exact Keeps.ite h.takedown (Keeps.ite h.await h.await)
    · exact Keeps.ite h.takedown h.await
    · exact Keeps.ite h.takedown (Keeps.ite h.await h.await)
    · exact Keeps.ite h.await h.await
    · exact h.await
theorem Keeps.recallSlot (h : Keeps s t) {r x t'} : Keeps s (t.recallSlot r x t') := h.each fun h _ => h.snoopAll
theorem Keeps.start (h : Keeps s t) {t'} : Keeps s (t.start t') := by
  unfold State.start
  dsimp only
  split
  · exact h
  · exact h.dropTxn.emit
  · exact h.dropTxn.poisonAnswer.ev
  · exact h.dropTxn.poisonAnswer.ev
  · split
    · exact h.serveLine
    · split
      · split
        · exact h.frame.serveLine
        · split
          · exact h.setTxn.bump.recallRegion
          · exact h
      · exact Keeps.ite h.recallSlot h.serveLine
theorem Keeps.recordTie (h : Keeps s t) {n t'} : Keeps s (t.recordTie n t') := by
  unfold State.recordTie
  dsimp only
  split
  · exact h
  · split
    · exact h.frame
    · exact h
theorem Keeps.pump (h : Keeps s t) {n} : Keeps s (State.pump n t) := by
  induction n generalizing t with
  | zero => exact h
  | succ n ih =>
    rw [State.pump]
    split
    · exact ih h.recallRegion
    · split
      · exact ih h.conclude
      · split
        · exact ih h.recordTie.start
        · exact h.each fun h _ => h.startRows
theorem Keeps.pumped (h : Keeps s t) : Keeps s (t.pumped) := h.pump
theorem Keeps.wbEvict (h : Keeps s t) {t'} : Keeps s (t.wbEvict t') :=
    Keeps.ite h.endTxn (Keeps.ite (Keeps.ite h.takedown h.removeHolder.endTxn) (Keeps.ite h.storeMasked.removeHolder.completeTxn h.bump.endTxn))
theorem Keeps.homeServe (h : Keeps s t) {h' op r es} : Keeps s (t.homeServe h' op r es) := by
  unfold State.homeServe
  dsimp only
  split
  · exact h.poisonAnswer
  · split
    · exact h.poisonAnswer.ev
    · exact h.poisonAnswer.ev
    · split
      · exact (Keeps.ite h.sampleHeat.countRow h.sampleHeat).emit
      · exact Keeps.ite (Keeps.ite h.sampleHeat.countRow h.sampleHeat).poisonAnswer (Keeps.ite (Keeps.ite h.sampleHeat.countRow
          h.sampleHeat).frame.wbEvict (Keeps.ite h.sampleHeat.countRow h.sampleHeat).frame).pumped
theorem Keeps.filterUe (h : Keeps s t) {l ue} : Keeps s (t.filterUe l ue) := by
  unfold State.filterUe
  split
  · exact Keeps.ite h.ev (Keeps.ite h.takedown.pumped h)
  · exact h
theorem Keeps.homeRequest (h : Keeps s t) {h' op r es ue} : Keeps s (t.homeRequest h' op r es ue) := Keeps.ite h.filterUe h.filterUe.homeServe
theorem Keeps.gackAt (h : Keeps s t) {h' l} : Keeps s (t.gackAt h' l) := by
  unfold State.gackAt
  split
  · exact h.dropTxn.pumped
  · exact h
theorem Keeps.answerData (h : Keeps s t) {n hasData st data poison} : Keeps s (t.answerData n hasData st data poison) := Keeps.ite h.storeMasked h
theorem Keeps.answerTo (h : Keeps s t) {n taken} : Keeps s (t.answerTo n taken) := by
  unfold State.answerTo
  dsimp only
  split
  · split
    · exact h
    · exact Keeps.ite h.setTxn h.setTxn.snoopsDone
  · exact h.settleRecall
  · exact h
theorem Keeps.snoopAnswer (h : Keeps s t) {h' agent txid ptn hasData stc data poison ue} : Keeps s (t.snoopAnswer h' agent txid ptn hasData stc
    data poison ue) := by
  unfold State.snoopAnswer
  dsimp only
  split
  · exact Keeps.ite h.frame h.takedown.pumped
  · split
    · exact h.ev
    · split
      · exact h.takedown.pumped
      · split
        · exact h.takedown.pumped
        · exact Keeps.ite h.takedown.pumped (Keeps.ite h.frame.answerData h.frame.answerData.recordAnswer).answerTo.pumped
theorem Keeps.snpTimeout (h : Keeps s t) {h' txid ue} : Keeps s (t.snpTimeout h' txid ue) := by
  unfold State.snpTimeout
  dsimp only
  split
  · exact h
  · exact Keeps.ite (Keeps.ite h.filterUe.orphan.poisonLine h.filterUe.orphan).removeHolder.answerTo.pumped h.filterUe.orphan.takedown.pumped
theorem Keeps.walkEnd (h : Keeps s t) {p} : Keeps s (t.walkEnd p) := Keeps.ite h h.frame.wr.pumped
theorem execHomeRdShared_answers {h' r ue} : Answers s (execHomeRdShared h' r ue s) := (Keeps.refl s).homeRequest.answers
theorem execHomeRdUnique_answers {h' r ue} : Answers s (execHomeRdUnique h' r ue s) := (Keeps.refl s).homeRequest.answers
theorem execHomeClaim_answers {h' r ue} : Answers s (execHomeClaim h' r ue s) := (Keeps.refl s).homeRequest.answers
theorem execHomeEvict_answers {h' r ue} : Answers s (execHomeEvict h' r ue s) := (Keeps.refl s).homeRequest.answers
theorem execHomeWb_answers {h' r ue} : Answers s (execHomeWb h' r ue s) := (Keeps.refl s).homeRequest.answers
theorem execHomeWrite_answers {h' stash r es ue} : Answers s (execHomeWrite h' stash r es ue s) := (Keeps.refl s).homeRequest.answers
theorem execHomeWrRed_answers {h' r es ue} : Answers s (execHomeWrRed h' r es ue s) := (Keeps.refl s).homeRequest.answers
theorem execHomeRdNa_answers {h' r ue} : Answers s (execHomeRdNa h' r ue s) := (Keeps.refl s).homeRequest.answers
theorem execGack_answers {h' line} : Answers s (execGack h' line s) := (Keeps.refl s).gackAt.answers
theorem execTakedownWalkEnd_answers {p} : Answers s (execTakedownWalkEnd p s) := (Keeps.refl s).walkEnd.answers

/-! ## Machine/Tiles -/

theorem Keeps.issued (h : Keeps s t) {t' n g} : Keeps s (t.issued t' n g) := h.frame
theorem Keeps.padWrite (h : Keeps s t) {t' banks a bs} : Keeps s (t.padWrite t' banks a bs) := h.frame
theorem Keeps.haltAt (h : Keeps s t) {p t' n c} : Keeps s (t.haltAt p t' n c) := Keeps.ite h.haltStrand.tileUe h.haltStrand
theorem Keeps.stageDone (h : Keeps s t) {t' n i r} : Keeps s (t.stageDone t' n i r) := by
  unfold State.stageDone
  dsimp only
  split
  · exact h.issued.haltAt
  · exact (h.issued.each fun h _ => h.padWrite).setStrand
theorem Keeps.scalar2 (h : Keeps s t) {t' n op f} : Keeps s (t.scalar2 t' n op f) := by
  unfold State.scalar2
  dsimp only
  split
  · exact h
  · exact h.stageDone
theorem Keeps.scalarCmp (h : Keeps s t) {t' n} : Keeps s (t.scalarCmp t' n) := by
  unfold State.scalarCmp
  dsimp only
  split
  · exact h
  · exact h.stageDone
theorem Keeps.scalarMovi (h : Keeps s t) {t' n} : Keeps s (t.scalarMovi t' n) := by
  unfold State.scalarMovi
  split
  · exact h
  · exact h.stageDone
theorem Keeps.scalarLd (h : Keeps s t) {t' n} : Keeps s (t.scalarLd t' n) := by
  unfold State.scalarLd
  split
  · exact h
  · exact h.stageDone
theorem Keeps.scalarSt (h : Keeps s t) {t' n} : Keeps s (t.scalarSt t' n) := by
  unfold State.scalarSt
  split
  · exact h
  · exact h.stageDone
theorem Keeps.vec2 (h : Keeps s t) {t' n op f} : Keeps s (t.vec2 t' n op f) := by
  unfold State.vec2
  dsimp only
  split
  · exact h
  · exact h.stageDone
theorem Keeps.vec1 (h : Keeps s t) {t' n op int f} : Keeps s (t.vec1 t' n op int f) := by
  unfold State.vec1
  dsimp only
  split
  · exact h
  · exact h.stageDone
theorem Keeps.vecFma (h : Keeps s t) {t' n} : Keeps s (t.vecFma t' n) := by
  unfold State.vecFma
  dsimp only
  split
  · exact h
  · exact h.stageDone
theorem Keeps.vecCvt (h : Keeps s t) {t' n} : Keeps s (t.vecCvt t' n) := by
  unfold State.vecCvt
  dsimp only
  split
  · exact h
  · exact h.stageDone
theorem Keeps.vecSelect (h : Keeps s t) {t' n} : Keeps s (t.vecSelect t' n) := by
  unfold State.vecSelect
  dsimp only
  split
  · exact h
  · exact h.stageDone
theorem Keeps.vecCmplt (h : Keeps s t) {t' n} : Keeps s (t.vecCmplt t' n) := by
  unfold State.vecCmplt
  dsimp only
  split
  · exact h
  · exact h.stageDone
theorem Keeps.red (h : Keeps s t) {t' n op f} : Keeps s (t.red t' n op f) := by
  unfold State.red
  split
  · exact h
  · exact h.stageDone
theorem Keeps.redArgmax (h : Keeps s t) {t' n} : Keeps s (t.redArgmax t' n) := by
  unfold State.redArgmax
  split
  · exact h
  · exact h.stageDone
theorem Keeps.redSort (h : Keeps s t) {t' n} : Keeps s (t.redSort t' n) := by
  unfold State.redSort
  dsimp only
  split
  · exact h
  · exact h.stageDone
theorem Keeps.redTopk (h : Keeps s t) {t' n} : Keeps s (t.redTopk t' n) := by
  unfold State.redTopk
  split
  · exact h
  · exact h.stageDone
theorem Keeps.waitCredit (h : Keeps s t) {t' n i} : Keeps s (t.waitCredit t' n i) := h.frame
theorem Keeps.issueParts (h : Keeps s t) {t' n i a len k} : Keeps s (t.issueParts t' n i a len k) := h.setStrand.each fun h _ => h.issue
theorem Keeps.gatherStage (h : Keeps s t) {t' n i} : Keeps s (t.gatherStage t' n i) := by
  unfold State.gatherStage
  dsimp only
  split
  · exact h.haltAt
  · split
    · exact h.bump.haltAt
    · split
      · exact h.haltAt
      · exact Keeps.ite h.waitCredit h.issueParts
theorem Keeps.scatterStage (h : Keeps s t) {t' n i op} : Keeps s (t.scatterStage t' n i op) := by
  unfold State.scatterStage
  dsimp only
  split
  · exact h.haltAt
  · split
    · exact h.bump.haltAt
    · split
      · exact h.haltAt
      · exact Keeps.ite h.waitCredit h.issueParts
theorem Keeps.sendStage (h : Keeps s t) {t' n i} : Keeps s (t.sendStage t' n i) := by
  unfold State.sendStage
  dsimp only
  split
  · exact h.haltAt
  · exact Keeps.ite h.haltAt.ev (Keeps.ite h.waitCredit (Keeps.ite h.haltAt h.padWrite.setStrand))
theorem Keeps.memStage (h : Keeps s t) {t' n i} : Keeps s (t.memStage t' n i) := by
  unfold State.memStage
  split
  · exact h.gatherStage
  · exact h.scatterStage
  · exact h.scatterStage
  · exact h.scatterStage
  · exact h.sendStage
theorem Keeps.memIssue (h : Keeps s t) {t' n unit op} : Keeps s (t.memIssue t' n unit op) := by
  unfold State.memIssue
  split
  · exact h
  · exact h.issued.memStage
theorem Keeps.retryCredit (h : Keeps s t) {n x2} : Keeps s (State.retryCredit n t x2) := by
  induction n generalizing t x2 with
  | zero => exact h
  | succ n ih =>
    rw [State.retryCredit]
    dsimp only
    split
    · split
      · exact Keeps.ite h (ih h.setStrand.memStage)
      · exact ih h.setStrand.memStage
    · exact h
theorem Keeps.credited (h : Keeps s t) {t'} : Keeps s (t.credited t') := h.retryCredit
theorem Keeps.land (h : Keeps s t) {t' k a bs rowHit} : Keeps s (t.land t' k a bs rowHit) := by
  unfold State.land
  split
  · exact Keeps.ite h h.padWrite.setStrand
  · exact h
theorem Keeps.tileDone (h : Keeps s t) {t' id k} : Keeps s (t.tileDone t' id k) := h.dropTracker.requestDone.settleEntry
theorem Keeps.gatherResponse (h : Keeps s t) {t' id data poison rowHit} : Keeps s (t.gatherResponse t' id data poison rowHit) := by
  unfold State.gatherResponse
  dsimp only
  split
  · exact h
  · split
    · exact h
    · split
      · exact h.dropTracker.settleEntry.credited
      · split
        · exact h.haltStrand.tileDone.credited
        · split
          · exact h.tileDone.credited
          · split
            · exact h.land.tileDone.credited
            · split
              · exact h.land.tileDone.credited
              · split
                · exact h.setTracker
                · exact h.land.tileDone.tileDone.credited
theorem Keeps.syncStage (h : Keeps s t) {t' n} : Keeps s (t.syncStage t' n) := by
  unfold State.syncStage
  dsimp only
  split
  · exact h
  · split
    · exact h
    · exact Keeps.ite h.issued.haltAt h.issued.setStrand.emit
theorem Keeps.syncReply (h : Keeps s t) {t' n result reason} : Keeps s (t.syncReply t' n result reason) := by
  unfold State.syncReply
  dsimp only
  split
  · exact Keeps.ite h (Keeps.ite h.haltAt h.setStrand)
  · exact h
theorem Keeps.waitStage (h : Keeps s t) {t' n op} : Keeps s (t.waitStage t' n op) := by
  unfold State.waitStage
  dsimp only
  split
  · exact h
  · exact Keeps.ite (Keeps.ite h.issued.setStrand h.issued.setStrand) h.issued.setStrand
theorem Keeps.yieldStage (h : Keeps s t) {t' n} : Keeps s (t.yieldStage t' n) := by
  unfold State.yieldStage
  dsimp only
  split
  · exact h
  · exact h.frame
theorem Keeps.detach (h : Keeps s t) {t' n tag} : Keeps s (t.detach t' n tag) := h.frame
theorem Keeps.endStage (h : Keeps s t) {t' n} : Keeps s (t.endStage t' n) := by
  unfold State.endStage
  dsimp only
  split
  · exact h
  · exact h.issued.detach.endStrand
theorem Keeps.cfgLost (h : Keeps s t) {p t'} : Keeps s (t.cfgLost p t') := h.haltTile.tileUe.frame
theorem Keeps.met (h : Keeps s t) {t' n e i f} (hf : ∀ {u}, Keeps s u → Keeps s (f u)) : Keeps s (t.met t' n e i f) := by
  unfold State.met
  split
  · exact hf h
  · exact h
  · exact hf h.tileCe
  · exact h.cfgLost
  · exact hf h.tileCe
  · exact h.haltStrand.tileUe
  · exact hf (Keeps.ite h.tileCe h)
  · exact Keeps.ite h.issued.haltAt (hf h)
theorem Keeps.nopStage (h : Keeps s t) {t' n} : Keeps s (t.nopStage t' n) := by
  unfold State.nopStage
  split
  · exact h.stageDone
  · exact h
theorem execNop_answers {t' n e'} : Answers s (execNop t' n e' s) := ((Keeps.refl s).met fun h => h.nopStage).answers
theorem execScalarAdd_answers {t' n e'} : Answers s (execScalarAdd t' n e' s) := ((Keeps.refl s).met fun h => h.scalar2).answers
theorem execScalarSub_answers {t' n e'} : Answers s (execScalarSub t' n e' s) := ((Keeps.refl s).met fun h => h.scalar2).answers
theorem execScalarAnd_answers {t' n e'} : Answers s (execScalarAnd t' n e' s) := ((Keeps.refl s).met fun h => h.scalar2).answers
theorem execScalarOr_answers {t' n e'} : Answers s (execScalarOr t' n e' s) := ((Keeps.refl s).met fun h => h.scalar2).answers
theorem execScalarXor_answers {t' n e'} : Answers s (execScalarXor t' n e' s) := ((Keeps.refl s).met fun h => h.scalar2).answers
theorem execScalarShl_answers {t' n e'} : Answers s (execScalarShl t' n e' s) := ((Keeps.refl s).met fun h => h.scalar2).answers
theorem execScalarShr_answers {t' n e'} : Answers s (execScalarShr t' n e' s) := ((Keeps.refl s).met fun h => h.scalar2).answers
theorem execScalarMul_answers {t' n e'} : Answers s (execScalarMul t' n e' s) := ((Keeps.refl s).met fun h => h.scalar2).answers
theorem execScalarMin_answers {t' n e'} : Answers s (execScalarMin t' n e' s) := ((Keeps.refl s).met fun h => h.scalar2).answers
theorem execScalarMax_answers {t' n e'} : Answers s (execScalarMax t' n e' s) := ((Keeps.refl s).met fun h => h.scalar2).answers
theorem execScalarCmp_answers {t' n e'} : Answers s (execScalarCmp t' n e' s) := ((Keeps.refl s).met fun h => h.scalarCmp).answers
theorem execScalarMov_answers {t' n e'} : Answers s (execScalarMov t' n e' s) := ((Keeps.refl s).met fun h => h.scalar2).answers
theorem execScalarMovi_answers {t' n e'} : Answers s (execScalarMovi t' n e' s) := ((Keeps.refl s).met fun h => h.scalarMovi).answers
theorem execScalarLd_answers {t' n e'} : Answers s (execScalarLd t' n e' s) := ((Keeps.refl s).met fun h => h.scalarLd).answers
theorem execScalarSt_answers {t' n e'} : Answers s (execScalarSt t' n e' s) := ((Keeps.refl s).met fun h => h.scalarSt).answers
theorem execVecAdd_answers {t' n e'} : Answers s (execVecAdd t' n e' s) := ((Keeps.refl s).met fun h => h.vec2).answers
theorem execVecSub_answers {t' n e'} : Answers s (execVecSub t' n e' s) := ((Keeps.refl s).met fun h => h.vec2).answers
theorem execVecMul_answers {t' n e'} : Answers s (execVecMul t' n e' s) := ((Keeps.refl s).met fun h => h.vec2).answers
theorem execVecFma_answers {t' n e'} : Answers s (execVecFma t' n e' s) := ((Keeps.refl s).met fun h => h.vecFma).answers
theorem execVecMax_answers {t' n e'} : Answers s (execVecMax t' n e' s) := ((Keeps.refl s).met fun h => h.vec2).answers
theorem execVecMin_answers {t' n e'} : Answers s (execVecMin t' n e' s) := ((Keeps.refl s).met fun h => h.vec2).answers
theorem execVecAbs_answers {t' n e'} : Answers s (execVecAbs t' n e' s) := ((Keeps.refl s).met fun h => h.vec1.drawn).answers
theorem execVecNeg_answers {t' n e'} : Answers s (execVecNeg t' n e' s) := ((Keeps.refl s).met fun h => h.vec1.drawn).answers
theorem execVecCvt_answers {t' n e'} : Answers s (execVecCvt t' n e' s) := ((Keeps.refl s).met fun h => h.vecCvt).answers
theorem execVecSelect_answers {t' n e'} : Answers s (execVecSelect t' n e' s) := ((Keeps.refl s).met fun h => h.vecSelect).answers
theorem execVecCmplt_answers {t' n e'} : Answers s (execVecCmplt t' n e' s) := ((Keeps.refl s).met fun h => h.vecCmplt).answers
theorem execVecRsqrt_answers {t' n e'} : Answers s (execVecRsqrt t' n e' s) := ((Keeps.refl s).met fun h => h.vec1).answers
theorem execVecRcp_answers {t' n e'} : Answers s (execVecRcp t' n e' s) := ((Keeps.refl s).met fun h => h.vec1).answers
theorem execVecExp2_answers {t' n e'} : Answers s (execVecExp2 t' n e' s) := ((Keeps.refl s).met fun h => h.vec1).answers
theorem execRedSum_answers {t' n e'} : Answers s (execRedSum t' n e' s) := ((Keeps.refl s).met fun h => h.red).answers
theorem execRedMax_answers {t' n e'} : Answers s (execRedMax t' n e' s) := ((Keeps.refl s).met fun h => h.red).answers
theorem execRedMin_answers {t' n e'} : Answers s (execRedMin t' n e' s) := ((Keeps.refl s).met fun h => h.red).answers
theorem execRedArgmax_answers {t' n e'} : Answers s (execRedArgmax t' n e' s) := ((Keeps.refl s).met fun h => h.redArgmax).answers
theorem execRedSort64_answers {t' n e'} : Answers s (execRedSort64 t' n e' s) := ((Keeps.refl s).met fun h => h.redSort).answers
theorem execRedTopkMerge_answers {t' n e'} : Answers s (execRedTopkMerge t' n e' s) := ((Keeps.refl s).met fun h => h.redTopk).answers
theorem execRedPrefix_answers {t' n e'} : Answers s (execRedPrefix t' n e' s) := ((Keeps.refl s).met fun h => h.red).answers
theorem execRedSegsum_answers {t' n e'} : Answers s (execRedSegsum t' n e' s) := ((Keeps.refl s).met fun h => h.red).answers
theorem execGatherRead_answers {t' n e'} : Answers s (execGatherRead t' n e' s) := ((Keeps.refl s).met fun h => h.memIssue).answers
theorem execScatterWrite_answers {t' n e'} : Answers s (execScatterWrite t' n e' s) := ((Keeps.refl s).met fun h => h.memIssue).answers
theorem execScatterStash_answers {t' n e'} : Answers s (execScatterStash t' n e' s) := ((Keeps.refl s).met fun h => h.memIssue).answers
theorem execScatterReduceAdd_answers {t' n e'} : Answers s (execScatterReduceAdd t' n e' s) := ((Keeps.refl s).met fun h => h.memIssue).answers
theorem execScatterReduceMax_answers {t' n e'} : Answers s (execScatterReduceMax t' n e' s) := ((Keeps.refl s).met fun h => h.memIssue).answers
theorem execSyncStage_answers {t' n e'} : Answers s (execSyncStage t' n e' s) := ((Keeps.refl s).met fun h => h.syncStage).answers
theorem execWaitPending_answers {t' n e'} : Answers s (execWaitPending t' n e' s) := ((Keeps.refl s).met fun h => h.waitStage).answers
theorem execWaitEdge_answers {t' n e'} : Answers s (execWaitEdge t' n e' s) := ((Keeps.refl s).met fun h => h.waitStage).answers
theorem execSendStage_answers {t' n e'} : Answers s (execSendStage t' n e' s) := ((Keeps.refl s).met fun h => h.memIssue).answers
theorem execYieldStage_answers {t' n e'} : Answers s (execYieldStage t' n e' s) := ((Keeps.refl s).met fun h => h.yieldStage).answers
theorem execEndStage_answers {t' n e'} : Answers s (execEndStage t' n e' s) := ((Keeps.refl s).met fun h => h.endStage).answers
theorem execGatherResponse_answers {t' id data poison rowHit} : Answers s (execGatherResponse t' id data poison rowHit s) :=
    (Keeps.refl s).gatherResponse.answers
theorem execSyncReply_answers {t' n result reason} : Answers s (execSyncReply t' n result reason s) := (Keeps.refl s).syncReply.answers
theorem execXlateAnswer_answers {e' p g} : Answers s (execXlateAnswer e' p g s) := by
  unfold execXlateAnswer
  refine Keeps.answers (?_)
  split
  · exact (Keeps.refl s).xlateAnswer.credited
  · exact (Keeps.refl s).xlateAnswer
theorem Keeps.abortAll (h : Keeps s t) {p} : Keeps s (t.abortAll p) := h.each fun h _ => h.haltTile
theorem execTilAbortAll_answers {p} : Answers s (execTilAbortAll p s) := (Keeps.refl s).abortAll.answers
theorem execPatrolScrubVisit_answers {t' bank row err} : Answers s (execPatrolScrubVisit t' bank row err s) := by
  unfold execPatrolScrubVisit
  dsimp only
  refine Keeps.answers (?_)
  split
  · exact (Keeps.refl s)
  · split
    · split
      · exact (Keeps.refl s).tileCe
      · exact (Keeps.refl s)
    · exact Keeps.ite (Keeps.refl s) (Keeps.refl s).frame
theorem Keeps.setIsland (h : Keeps s t) {i v'} : Keeps s (t.setIsland i v') := h.frame
theorem Keeps.clockEdge (h : Keeps s t) : Keeps s (t.clockEdge) := (h.each fun h _ => h.wr).each fun h _ => h.setIsland
theorem execIslandVoltageReady_answers {island} : Answers s (execIslandVoltageReady island s) :=
    (Keeps.ite (Keeps.refl s) (Keeps.refl s).setIsland).answers

/-! ## Machine/Keys -/

theorem Keeps.setKey (h : Keeps s t) {k x} : Keeps s (t.setKey k x) := h.frame
theorem Keeps.destroyKey (h : Keeps s t) {k} : Keeps s (t.destroyKey k) := Keeps.ite h.frame.exportEndOf h.frame
theorem Keeps.drawKey (h : Keeps s t) {k} : Keeps s (t.drawKey k) := h.setKey.drawn
theorem Keeps.revoke (h : Keeps s t) {p k} : Keeps s (t.revoke p k) := h.destroyKey.bump.frame.ev
theorem Keeps.remeasure (h : Keeps s t) {p} : Keeps s (t.remeasure p) := by
  unfold State.remeasure
  refine h.each fun h _ => ?_
  split
  · exact Keeps.ite h h.revoke
  · exact h
theorem Keeps.remeasureAll (h : Keeps s t) : Keeps s (t.remeasureAll) := h.each fun h _ => h.remeasure
theorem Keeps.settleApproved (h : Keeps s t) : Keeps s (t.settleApproved) := h.wr.remeasureAll
theorem Keeps.grantEnd (h : Keeps s t) {p} : Keeps s (t.grantEnd p) := Keeps.ite h h.frame.wr.settleApproved
theorem Keeps.grantStart (h : Keeps s t) {p} : Keeps s (t.grantStart p) := by
  unfold State.grantStart
  dsimp only
  split
  · exact h
  · exact h.frame.wr.settleApproved
theorem Keeps.grantBeat (h : Keeps s t) {p} : Keeps s (t.grantBeat p) := Keeps.ite h (Keeps.ite h.grantEnd h.wr)
theorem Keeps.zeroise (h : Keeps s t) : Keeps s (t.zeroise) := h.frame.exportEnd.wr.ev.remeasureAll.endSessions

/-! ## Machine/Transport -/

theorem Keeps.setConn (h : Keeps s t) {n c} : Keeps s (t.setConn n c) := h.frame
theorem Keeps.dropConn (h : Keeps s t) {n} : Keeps s (t.dropConn n) := h.frame
theorem Keeps.sendCtl (h : Keeps s t) {n c space type ext payload} : Keeps s (t.sendCtl n c space type ext payload) := by
  unfold State.sendCtl
  dsimp only
  split
  · exact h.setConn
  · exact h.setConn.sendSft
theorem Keeps.sendOpen (h : Keeps s t) {n c} : Keeps s (t.sendOpen n c) := h.sendCtl
theorem Keeps.openConn (h : Keeps s t) {p pkg rptn} : Keeps s (t.openConn p pkg rptn) := Keeps.ite h h.sendOpen
theorem Keeps.wirePacket (h : Keeps s t) {c port psn kgen k} : Keeps s (t.wirePacket c port psn kgen k) := h.sendSft
theorem Keeps.pumpOne (h : Keeps s t) {n} : Keeps s (t.pumpOne n) := by
  unfold State.pumpOne
  dsimp only
  split
  · exact h
  · split
    · exact Keeps.ite h.setConn.wirePacket h
    · exact h
theorem Keeps.pumpConn (h : Keeps s t) {n x2} : Keeps s (State.pumpConn n t x2) := by
  induction n generalizing t x2 with
  | zero => exact h
  | succ n ih =>
    rw [State.pumpConn]
    split
    · exact Keeps.ite h (ih h.pumpOne)
    · exact h
theorem Keeps.sendMsg (h : Keeps s t) {n type lab d} : Keeps s (t.sendMsg n type lab d) := by
  unfold State.sendMsg
  dsimp only
  split
  · exact h
  · exact h.setConn.pumpConn
theorem Keeps.sendTo (h : Keeps s t) {p pkg rptn type lab d} : Keeps s (t.sendTo p pkg rptn type lab d) := by
  unfold State.sendTo
  dsimp only
  split
  · exact h.openConn.sendMsg
  · exact h.openConn

/-! ## Machine/Programs -/

theorem Keeps.hubPart (h : Keeps s t) {k} : Keeps s (t.hubPart k) := by
  unfold State.hubPart
  dsimp only
  split
  · exact h
  · exact h.frame.setTracker.homeServe
theorem Keeps.hubWrite (h : Keeps s t) {lab tag op fmt opx obj ppa d} : Keeps s (t.hubWrite lab tag op fmt opx obj ppa d) :=
    h.each fun h _ => h.hubPart
theorem Keeps.noteRead (h : Keeps s t) {lab e'} : Keeps s (t.noteRead lab e') := by
  unfold State.noteRead
  dsimp only
  refine h.each fun h _ => ?_
  split
  · exact h
  · exact h.sampleHeat.countRow.countRead
theorem Keeps.wqCfgWrite (h : Keeps s t) {role p q v'} : Keeps s (t.wqCfgWrite role p q v').2 :=
    Keeps.ite_snd h.refuse (Keeps.ite_snd h.refuse (Keeps.ite_snd h.refuse (Keeps.ite_snd h.refuse (Keeps.ite_snd h.wr.setWq h.wr))))
theorem Keeps.wqError (h : Keeps s t) {p q} : Keeps s (t.wqError p q) := h.setWq.ev
theorem Keeps.wqTail (h : Keeps s t) {p q tail} : Keeps s (t.wqTail p q tail) := Keeps.ite h (Keeps.ite h.wqError h.setWq)
theorem Keeps.wqSubmit (h : Keeps s t) {p q site d} : Keeps s (t.wqSubmit p q site d).2 := Keeps.ite_snd h.hubWrite.setWq h
theorem Keeps.declareDesc (h : Keeps s t) {p q d ctx} : Keeps s (t.declareDesc p q d ctx).1 := Keeps.ite_fst h.declare h.declare
theorem Keeps.fetchDesc (h : Keeps s t) {p q} : Keeps s (t.fetchDesc p q) := by
  unfold State.fetchDesc
  dsimp only
  split
  · split
    · exact h
    · split
      · exact (Keeps.ite_fst h.declareDesc h).setWq
      · exact h.wqError
  · split
    · exact h
    · split
      · exact (Keeps.ite_fst h.declareDesc h).setWq
      · exact h.wqError
theorem Keeps.startStrand (h : Keeps s t) {t' q d slot} : Keeps s (t.startStrand t' q d slot) := h.setStrand
theorem Keeps.runStart (h : Keeps s t) {p q} : Keeps s (t.runStart p q) := by
  unfold State.runStart
  dsimp only
  split
  · exact Keeps.ite (Keeps.ite h.mapDesc h.mapDesc) h
  · exact h
theorem Keeps.dispatchItem (h : Keeps s t) {p q} : Keeps s (t.dispatchItem p q) := by
  unfold State.dispatchItem
  split
  · split
    · split
      · exact h.startStrand.mapDesc
      · exact h
    · exact h
  · exact h
theorem Keeps.nopStart (h : Keeps s t) {p q} : Keeps s (t.nopStart p q) := by
  unfold State.nopStart
  split
  · exact Keeps.ite h.mapDesc h
  · exact h
theorem Keeps.setConfig (h : Keeps s t) {ts id img} : Keeps s (t.setConfig ts id img) := h.frame
theorem Keeps.loadStart (h : Keeps s t) {p q} : Keeps s (t.loadStart p q) := by
  unfold State.loadStart
  dsimp only
  split
  · split
    · split
      · exact Keeps.ite h.setConfig.mapDesc h.mapDesc
      · exact h.mapDesc
    · exact h
  · exact h
theorem Keeps.itemWrites (h : Keeps s t) {lab tag site ws} : Keeps s (t.itemWrites lab tag site ws).2 :=
    Keeps.ite_snd (h.each fun h _ => h.hubWrite) h
theorem Keeps.runItem (h : Keeps s t) {lab tag site m} : Keeps s (t.runItem lab tag site m).2 := by
  unfold State.runItem
  dsimp only
  split
  · exact Keeps.ite (h.each fun h _ => h.noteRead).drawn.bump (h.each fun h _ => h.noteRead).drawn
  · exact (h.each fun h _ => h.noteRead).drawn.itemWrites
theorem Keeps.stockItem (h : Keeps s t) {p q f i} : Keeps s (t.stockItem p q f i) := by
  unfold State.stockItem
  dsimp only
  split
  · exact Keeps.ite (Keeps.ite h h.setConfig).runItem.mapDesc h
  · exact h
theorem Keeps.wqInterrupt (h : Keeps s t) {p q d} : Keeps s (t.wqInterrupt p q d) := Keeps.ite h.setWq.raiseVector h.setWq
theorem Keeps.completeDesc (h : Keeps s t) {p q} : Keeps s (t.completeDesc p q) := by
  unfold State.completeDesc
  dsimp only
  split
  · exact h
  · split
    · exact h
    · split
      · refine Keeps.wqError ?_
        split
        · exact h.setWq.complete
        · exact h.setWq
      · refine Keeps.wqInterrupt (Keeps.bump (Keeps.hubWrite ?_))
        split
        · exact h.setWq.complete
        · exact h.setWq
theorem Keeps.abortStrands (h : Keeps s t) {p q idx} : Keeps s (t.abortStrands p q idx) := h.each fun h _ => h.each fun h _ => h.haltStrand
theorem Keeps.abortDesc (h : Keeps s t) {p q overrun d} : Keeps s (t.abortDesc p q overrun d) :=
    Keeps.ite (Keeps.ite h.mapDesc h) h.mapDesc.abortStrands
theorem Keeps.wqAbort (h : Keeps s t) {p q} : Keeps s (t.wqAbort p q) := (h.each fun h _ => h.abortDesc).frame.drawn.setWq
theorem Keeps.svcReply (h : Keeps s t) {p r st body} : Keeps s (t.svcReply p r st body) := Keeps.ite h.sendMsg.bump.bump h.sendMsg.bump
theorem Keeps.svcUpdates (h : Keeps s t) {lab x hy l} : Keeps s (State.svcUpdates lab x hy t l).2 := by
  induction l generalizing t with
  | nil => exact h
  | cons r l ih =>
    rw [State.svcUpdates]
    dsimp only
    split
    · exact ih h.runItem
    · exact h.runItem
theorem Keeps.svcServe (h : Keeps s t) {p r} : Keeps s (t.svcServe p r) := by
  unfold State.svcServe
  dsimp only
  split
  · exact h.svcReply
  · split
    · exact h.svcReply
    · split
      · exact h.svcReply
      · split
        · split
          · exact h.svcReply
          · split
            · exact h.svcReply
            · split
              · exact h.svcReply
              · split
                · exact h.svcUpdates.svcReply
                · exact h.svcReply
        · split
          · exact (h.each fun h _ => h.noteRead).drawn.svcReply
          · exact (h.each fun h _ => h.noteRead).drawn.svcReply
theorem Keeps.svcRequest (h : Keeps s t) {p r} : Keeps s (t.svcRequest p r) := Keeps.ite h (Keeps.ite h.svcServe (Keeps.ite h.svcReply h.frame))
theorem Keeps.svcDrain (h : Keeps s t) {p} : Keeps s (t.svcDrain p) := Keeps.ite (h.frame.each fun h _ => h.svcServe) h
theorem Keeps.svcTimeout (h : Keeps s t) {p reqId} : Keeps s (t.svcTimeout p reqId) := by
  unfold State.svcTimeout
  dsimp only
  split
  · exact h.frame.svcReply
  · exact h
theorem Keeps.ckptEnd (h : Keeps s t) {p c ok} : Keeps s (t.ckptEnd p c ok) := by
  unfold State.ckptEnd
  dsimp only
  split
  · refine Keeps.bump (Keeps.hubWrite ?_)
    split
    · exact h.frame.mapDesc
    · exact h.frame
  · refine Keeps.ev (Keeps.bump ?_)
    split
    · exact h.frame.mapDesc
    · exact h.frame
theorem Keeps.ckptChunk (h : Keeps s t) {p c} (e : t.ckptChunk p c = some u) : Keeps s u := by
  unfold State.ckptChunk at e
  split at e
  · cases e
    exact h.frame.sendTo
  · cases e
theorem Keeps.ckptPump (h : Keeps s t) {n x2} : Keeps s (State.ckptPump n t x2) := by
  induction n generalizing t x2 with
  | zero => exact h
  | succ n ih =>
    rw [State.ckptPump]
    split
    · exact h
    · split
      · exact h.ckptEnd
      · split
        · split
          · exact ih (h.ckptChunk ‹_›)
          · exact h.ckptEnd
        · exact Keeps.ite h.ckptEnd h
theorem Keeps.ckptStart (h : Keeps s t) {p plan desc} : Keeps s (t.ckptStart p plan desc) := by
  unfold State.ckptStart
  dsimp only
  split
  · split
    · exact h.ckptEnd
    · split
      · split
        · exact h.frame.drawn.ckptPump
        · exact h.ckptEnd
      · exact h.ckptEnd
  · exact h.ckptEnd
theorem Keeps.ckptDesc (h : Keeps s t) {p q} : Keeps s (t.ckptDesc p q) := by
  unfold State.ckptDesc
  split
  · exact Keeps.ite h.mapDesc.ckptStart h
  · exact h
theorem Keeps.ckptPeriod (h : Keeps s t) {p} : Keeps s (t.ckptPeriod p) := Keeps.ite h.ckptStart h
theorem Keeps.ckptAck (h : Keeps s t) {p idx accepted} : Keeps s (t.ckptAck p idx accepted) := by
  unfold State.ckptAck
  dsimp only
  split
  · exact h
  · exact Keeps.ite h (Keeps.ite h.ckptEnd h.frame.ckptPump)
theorem Keeps.ckptTimeout (h : Keeps s t) {p idx} : Keeps s (t.ckptTimeout p idx) := by
  unfold State.ckptTimeout
  split
  · exact h
  · exact Keeps.ite h.ckptEnd h
theorem execWqCfgWrite_answers {role p q v'} : Answers s (execWqCfgWrite role p q v' s) := (Keeps.refl s).wqCfgWrite.answered.answers
theorem execWqTailWrite_answers {p q tail} : Answers s (execWqTailWrite p q tail s) := (Keeps.refl s).wqTail.answers
theorem execWqCplHeadWrite_answers {p q head} : Answers s (execWqCplHeadWrite p q head s) := (Keeps.refl s).setWq.answers
theorem execWqAbort_answers {p q} : Answers s (execWqAbort p q s) := (Keeps.refl s).wqAbort.answers
theorem execDescriptorFetch_answers {p q} : Answers s (execDescriptorFetch p q s) := (Keeps.refl s).fetchDesc.answers
theorem execFuncNop_answers {p q} : Answers s (execFuncNop p q s) := (Keeps.refl s).nopStart.answers
theorem execFuncLoad_answers {p q} : Answers s (execFuncLoad p q s) := (Keeps.refl s).loadStart.answers
theorem execFuncRun_answers {p q} : Answers s (execFuncRun p q s) := (Keeps.refl s).runStart.answers
theorem execFuncEmbBag_answers {p q item} : Answers s (execFuncEmbBag p q item s) := (Keeps.refl s).stockItem.answers
theorem execFuncUpdate_answers {p q item} : Answers s (execFuncUpdate p q item s) := (Keeps.refl s).stockItem.answers
theorem execFuncReduce_answers {p q item} : Answers s (execFuncReduce p q item s) := (Keeps.refl s).stockItem.answers
theorem execFuncTopk_answers {p q item} : Answers s (execFuncTopk p q item s) := (Keeps.refl s).stockItem.answers
theorem execFuncSegReduce_answers {p q item} : Answers s (execFuncSegReduce p q item s) := (Keeps.refl s).stockItem.answers
theorem execFuncSort_answers {p q item} : Answers s (execFuncSort p q item s) := (Keeps.refl s).stockItem.answers
theorem execFuncPack_answers {p q item} : Answers s (execFuncPack p q item s) := (Keeps.refl s).stockItem.answers
theorem execFuncCheckpoint_answers {p q} : Answers s (execFuncCheckpoint p q s) := (Keeps.refl s).ckptDesc.answers
theorem execItemDispatch_answers {p q} : Answers s (execItemDispatch p q s) := (Keeps.refl s).dispatchItem.answers
theorem execDescriptorComplete_answers {p q} : Answers s (execDescriptorComplete p q s) := (Keeps.refl s).completeDesc.answers
theorem execSvcLookup_answers {p conn table reqId rows} : Answers s (execSvcLookup p conn table reqId rows s) := (Keeps.refl s).svcRequest.answers
theorem execSvcLookupBag_answers {p conn table reqId rows} : Answers s (execSvcLookupBag p conn table reqId rows s) :=
    (Keeps.refl s).svcRequest.answers
theorem execSvcUpdate_answers {p conn table reqId rows grads} : Answers s (execSvcUpdate p conn table reqId rows grads s) :=
    (Keeps.refl s).svcRequest.answers
theorem execSvcTimeout_answers {p reqId} : Answers s (execSvcTimeout p reqId s) := (Keeps.refl s).svcTimeout.answers
theorem execCkptPeriodRun_answers {p} : Answers s (execCkptPeriodRun p s) := (Keeps.refl s).ckptPeriod.answers
theorem execCkptChunkAck_answers {p idx accepted} : Answers s (execCkptChunkAck p idx accepted s) := (Keeps.refl s).ckptAck.answers
theorem execCkptChunkTimeout_answers {p idx} : Answers s (execCkptChunkTimeout p idx s) := (Keeps.refl s).ckptTimeout.answers

/-! ## Machine/Network -/

theorem Keeps.discardFlit (h : Keeps s t) {f code} : Keeps s (t.discardFlit f code) := h.frame.bump.ev
theorem Keeps.countCut (h : Keeps s t) {x y out f} : Keeps s (t.countCut x y out f) :=
    Keeps.ite h (Keeps.ite h.bump (Keeps.ite h.bump (Keeps.ite h.bump (Keeps.ite h.bump h))))
theorem Keeps.countPtnCut (h : Keeps s t) {x y f} : Keeps s (t.countPtnCut x y f) := by
  unfold State.countPtnCut
  split
  · exact Keeps.ite h.bump h
  · exact h
theorem Keeps.routerFlit (h : Keeps s t) {x y f} : Keeps s (t.routerFlit x y f) :=
    Keeps.ite (Keeps.ite h.frame h) (Keeps.ite h.discardFlit h.countPtnCut.countCut.emit)
theorem Keeps.bridgeFlit (h : Keeps s t) {x y f} : Keeps s (t.bridgeFlit x y f) := by
  unfold State.bridgeFlit
  split
  · exact h.emit
  · exact h.bump
  · exact h.bump
  · exact h
theorem Keeps.ejectFlit (h : Keeps s t) {x y port f} : Keeps s (t.ejectFlit x y port f) := by
  unfold State.ejectFlit
  split
  · exact h.bridgeFlit
  · split
    · exact Keeps.ite h.emit h.bump.ev
    · split
      · exact h.emit
      · exact h.bump.ev.emit
      · exact h.bump.ev.emit
theorem Keeps.setIngress (h : Keeps s t) {port p q} : Keeps s (t.setIngress port p q) := h.frame
theorem Keeps.demote (h : Keeps s t) {l} : Keeps s (t.demote l).1 := Keeps.ite_fst h.bump h
theorem Keeps.ingressLabel (h : Keeps s t) {port r} : Keeps s (t.ingressLabel port r).1 := Keeps.ite_fst h.demote h
theorem Keeps.ingressReq (h : Keeps s t) {port ch r} : Keeps s (t.ingressReq port ch r) := by
  unfold State.ingressReq
  dsimp only
  split
  · exact h.ingressLabel.setIngress
  · split
    · exact h.frame.bump.emit
    · exact h
theorem Keeps.retryRx (h : Keeps s t) {id} : Keeps s (t.retryRx id) := by
  unfold State.retryRx
  dsimp only
  split
  · exact h.frame.emit.frame
  · exact h.frame.emit
theorem Keeps.rspTimeout (h : Keeps s t) {id} : Keeps s (t.rspTimeout id) := by
  unfold State.rspTimeout
  dsimp only
  split
  · exact h
  · split
    · exact h
    · refine Keeps.ev (Keeps.settleEntry ?_)
      split
      · exact h.timeOut.bump
      · exact h.timeOut
theorem execRouterFlitArrival_answers {x y f} : Answers s (execRouterFlitArrival x y f s) := (Keeps.refl s).routerFlit.answers
theorem execFlitEject_answers {x y port f} : Answers s (execFlitEject x y port f s) := (Keeps.refl s).ejectFlit.answers
theorem execIngressReq_answers {port ch r} : Answers s (execIngressReq port ch r s) := (Keeps.refl s).ingressReq.answers
theorem execRetryRx_answers {id} : Answers s (execRetryRx id s) := (Keeps.refl s).retryRx.answers
theorem execNocRspTimeout_answers {id} : Answers s (execNocRspTimeout id s) := (Keeps.refl s).rspTimeout.answers

/-! ## Machine/ScaleOut -/

theorem Keeps.portChange (h : Keeps s t) {e' st} : Keeps s (t.portChange e' st) := Keeps.ite h h.wr.ev
theorem Keeps.dropFrame (h : Keeps s t) {e' reason} : Keeps s (t.dropFrame e' reason) := h.bumpWord
theorem Keeps.setPtp (h : Keeps s t) {m} : Keeps s (t.setPtp m) := h.frame.wr
theorem Keeps.ptpSync (h : Keeps s t) {e' domain twoStep missed} : Keeps s (t.ptpSync e' domain twoStep missed) := Keeps.ite h h.setPtp.emit
theorem Keeps.ptpFollowUp (h : Keeps s t) {e' domain} : Keeps s (t.ptpFollowUp e' domain) := Keeps.ite h h.setPtp
theorem Keeps.ptpDelay (h : Keeps s t) {e' domain delay} : Keeps s (t.ptpDelay e' domain delay) := Keeps.ite h h.setPtp
theorem Keeps.ptpAnnounce (h : Keeps s t) {e' rank} : Keeps s (t.ptpAnnounce e' rank) := Keeps.ite h.setPtp h
theorem Keeps.frame12 (h : Keeps s t) {f k} (hk : ∀ {u}, Keeps s u → Keeps s (k u)) : Keeps s (t.frame12 f k) :=
  Keeps.ite h (Keeps.ite h.dropFrame (Keeps.ite h.dropFrame (Keeps.ite h.dropFrame (hk h))))
theorem Keeps.dropIsolation (h : Keeps s t) {f} : Keeps s (t.dropIsolation f) := h.dropFrame.ev
theorem Keeps.dropAuth (h : Keeps s t) {f} : Keeps s (t.dropAuth f) := h.dropFrame.ev
theorem Keeps.frameOn (h : Keeps s t) {f k} (hk : ∀ {u}, Keeps s u → ∀ c, Keeps s (k u c)) : Keeps s (t.frameOn f k) := by
  unfold State.frameOn
  refine h.frame12 fun h => ?_
  split
  · exact h.dropIsolation
  · exact Keeps.ite (hk h _) h.dropAuth
theorem Keeps.endMsgs (h : Keeps s t) {n c status} : Keeps s (t.endMsgs n c status) := h.emitAll
theorem Keeps.closeConn (h : Keeps s t) {n c status} : Keeps s (t.closeConn n c status) := h.endMsgs.dropConn
theorem Keeps.failConn (h : Keeps s t) {n c} : Keeps s (t.failConn n c) := h.endMsgs.setConn.bump.ev
theorem Keeps.settleClose (h : Keeps s t) {n} : Keeps s (t.settleClose n) := by
  unfold State.settleClose
  split
  · exact Keeps.ite h.sendCtl h
  · exact h
theorem Keeps.startClose (h : Keeps s t) {n} : Keeps s (t.startClose n) := by
  unfold State.startClose
  split
  · exact Keeps.ite h.setConn.settleClose h
  · exact h
theorem Keeps.sendAck (h : Keeps s t) {n c} : Keeps s (t.sendAck n c) := h.sendCtl.drawn
theorem Keeps.deliverPkt (h : Keeps s t) {n k} : Keeps s (t.deliverPkt n k) := Keeps.ite h.frame (Keeps.ite h.frame.store64 h.emit)
theorem Keeps.deliverHeld (h : Keeps s t) {n x2} : Keeps s (State.deliverHeld n t x2) := by
  induction n generalizing t x2 with
  | zero => exact h
  | succ n ih =>
    rw [State.deliverHeld]
    split
    · exact h
    · split
      · exact h
      · exact ih h.setConn.deliverPkt
theorem Keeps.sendCnp (h : Keeps s t) {n e'} : Keeps s (t.sendCnp n e') := by
  unfold State.sendCnp
  split
  · exact h.sendCtl
  · exact h
theorem Keeps.rxOrdered (h : Keeps s t) {n c f} : Keeps s (t.rxOrdered n c f) := by
  unfold State.rxOrdered
  dsimp only
  split
  · exact h.sendAck
  · split
    · exact h.dropFrame
    · split
      · exact Keeps.ite (Keeps.ite (Keeps.ite_fst h h.demote).setConn.deliverHeld.sendCnp (Keeps.ite_fst h h.demote).setConn.deliverHeld).sendAck
          (Keeps.ite (Keeps.ite_fst h h.demote).setConn.deliverHeld.sendCnp (Keeps.ite_fst h h.demote).setConn.deliverHeld)
      · exact Keeps.ite (Keeps.ite_fst h h.demote).setConn.deliverHeld.sendCnp (Keeps.ite_fst h h.demote).setConn.deliverHeld
theorem Keeps.resend (h : Keeps s t) {n psn} : Keeps s (t.resend n psn) := by
  unfold State.resend
  dsimp only
  split
  · exact h
  · split
    · exact h
    · split
      · exact h
      · exact Keeps.ite h.setConn.wirePacket h.setConn.wirePacket.bump
theorem Keeps.ackRx (h : Keeps s t) {n c ext} : Keeps s (t.ackRx n c ext) := (h.setConn.each fun h _ => h.resend).pumpConn.settleClose
theorem Keeps.rtoRx (h : Keeps s t) {n psn} : Keeps s (t.rtoRx n psn) := by
  unfold State.rtoRx
  dsimp only
  split
  · exact h
  · split
    · exact h
    · exact Keeps.ite h.failConn h.setConn.resend
theorem Keeps.ccSignal (h : Keeps s t) {n c e'} : Keeps s (t.ccSignal n c e') := h.setConn
theorem Keeps.ccPeriod (h : Keeps s t) {n e'} : Keeps s (t.ccPeriod n e') := by
  unfold State.ccPeriod
  dsimp only
  split
  · exact h
  · exact Keeps.ite h.setConn h.setConn
theorem Keeps.refuseOpen (h : Keeps s t) {f reason} : Keeps s (t.refuseOpen f reason) := h.sendSft
theorem Keeps.sendOpenAck (h : Keeps s t) {n c} : Keeps s (t.sendOpenAck n c) := h.sendCtl
theorem Keeps.openRx (h : Keeps s t) {f} : Keeps s (t.openRx f) := by
  unfold State.openRx
  dsimp only
  split
  · exact h.refuseOpen
  · split
    · exact h.dropAuth
    · split
      · exact h.refuseOpen
      · split
        · split
          · exact Keeps.ite h.sendOpenAck.pumpConn h.refuseOpen
          · exact h
        · exact Keeps.ite h.refuseOpen h.sendOpenAck
theorem Keeps.openRequest (h : Keeps s t) {p pkg rptn} : Keeps s (t.openRequest p pkg rptn) := Keeps.ite h h.openConn
theorem Keeps.openRetry (h : Keeps s t) {n} : Keeps s (t.openRetry n) := by
  unfold State.openRetry
  split
  · exact Keeps.ite h (Keeps.ite h.sendOpen h.closeConn)
  · exact h
theorem Keeps.egressWrite (h : Keeps s t) {role e' v'} : Keeps s (t.egressWrite role e' v').2 :=
    Keeps.ite_snd h.refuse (Keeps.ite_snd h.refuse (Keeps.ite_snd h.refuse h.holdBeat))

/-! ## Machine/Sites -/

theorem Keeps.settleLink (h : Keeps s t) {k} : Keeps s (t.settleLink k) := Keeps.ite h.wr h.wr.wr
theorem Keeps.setGroup (h : Keeps s t) {k g v'} : Keeps s (t.setGroup k g v') := h.setSite
theorem Keeps.sbxRequest (h : Keeps s t) {k cls payload} : Keeps s (t.sbxRequest k cls payload) := h.setSite.emit
theorem Keeps.sbxAnswer (h : Keeps s t) {k cls txn status} : Keeps s (t.sbxAnswer k cls txn status) := h.emit
theorem Keeps.sbxReset (h : Keeps s t) {k kind} : Keeps s (t.sbxReset k kind) := h.setSite.emit
theorem Keeps.sbxEnd (h : Keeps s t) {k cls} : Keeps s (t.sbxEnd k cls) := h.setSite
theorem Keeps.grantCredits (h : Keeps s t) {p k} : Keeps s (t.grantCredits p k) := h.setSite.emit.emit
theorem Keeps.lossIn (h : Keeps s t) {k p} : Keeps s (t.lossIn k p) := Keeps.ite h (Keeps.ite h.takedown h.ev)
theorem Keeps.loseChiplet (h : Keeps s t) {k} : Keeps s (t.loseChiplet k) :=
    Keeps.ite h ((((Keeps.ite h.abortPattern h).bump.bump.setSite.wr.wr.frame.settleEntry.each fun h _ => h.emit).each fun h _ => Keeps.ite
    h.lossIn h).each fun h _ => h.remeasure)
theorem Keeps.groupDown (h : Keeps s t) {k g} : Keeps s (t.groupDown k g) := Keeps.ite h.setGroup.ev.settleLink.loseChiplet h.setGroup.ev.settleLink
theorem Keeps.disableModule (h : Keeps s t) {k m} : Keeps s (t.disableModule k m) := (Keeps.ite h.setSite.bump h.setSite).ev
theorem Keeps.retrain (h : Keeps s t) {k g} : Keeps s (t.retrain k g) := h.setGroup.bump.ev
theorem Keeps.narrow (h : Keeps s t) {k g} : Keeps s (t.narrow k g) := Keeps.ite h.setSite.groupDown h.setSite.retrain.settleLink
theorem Keeps.retrainDone (h : Keeps s t) {k g ok worst} : Keeps s (t.retrainDone k g ok worst) :=
    Keeps.ite h (Keeps.ite h.setSite.setGroup.settleLink (Keeps.ite h.groupDown (Keeps.ite h.setSite.retrain h.disableModule.narrow)))
theorem Keeps.crcRetry (h : Keeps s t) {k g} : Keeps s (t.crcRetry k g) := Keeps.ite h.bump.setSite.ev h.bump.setSite
theorem Keeps.clockLoss (h : Keeps s t) {k m} : Keeps s (t.clockLoss k m) := Keeps.ite h (Keeps.ite h.disableModule.narrow h.disableModule.settleLink)
theorem Keeps.train (h : Keeps s t) {k rate down} : Keeps s (t.train k rate down) := by
  unfold State.train
  dsimp only
  split
  · exact Keeps.ite h.setSite.wr.wr.loseChiplet h.setSite.wr.wr.wr
  · exact h.setSite.wr.wr.loseChiplet
theorem Keeps.trainFirst (h : Keeps s t) {k rate down} : Keeps s (t.trainFirst k rate down) := by
  unfold State.trainFirst
  dsimp only
  split
  · exact Keeps.ite h.setSite.wr.wr h.setSite.wr.wr.wr
  · exact h.setSite.wr.wr
theorem Keeps.startAttest (h : Keeps s t) {k} : Keeps s (t.startAttest k) := h.setSite.sbxRequest
theorem Keeps.capRx (h : Keeps s t) {k txn cap} : Keeps s (t.capRx k txn cap) :=
    Keeps.ite h (Keeps.ite h.wr.emit.wr.wr.wr.ev (Keeps.ite h.wr.emit.wr.wr.wr.settleLink h.wr.emit.wr.wr)).startAttest
theorem Keeps.rejoin (h : Keeps s t) {k} : Keeps s (t.rejoin k) :=
    Keeps.ite h (Keeps.ite h.wr.ev (Keeps.ite h.wr.ev (h.each fun h _ => h.wr.grantCredits)))
theorem Keeps.attestEnd (h : Keeps s t) {k st} : Keeps s (t.attestEnd k st) :=
    (Keeps.ite (Keeps.ite h.setSite.sbxEnd.wr.wr.ev h.setSite.sbxEnd.wr).rejoin (Keeps.ite h.setSite.sbxEnd.wr.wr.ev h.setSite.sbxEnd.wr)).each fun
    h _ => h.remeasure
theorem Keeps.spdmResponse (h : Keeps s t) {k r} : Keeps s (t.spdmResponse k r) := by
  unfold State.spdmResponse
  dsimp only
  split
  · exact h
  · split
    · exact h.sbxEnd.attestEnd
    · exact h.sbxEnd.attestEnd
    · exact Keeps.ite h.sbxEnd.setSite.attestEnd (Keeps.ite h.sbxEnd.setSite.sbxRequest.drawn h.sbxEnd.setSite.sbxRequest)
theorem Keeps.recallSite (h : Keeps s t) {k} : Keeps s (t.recallSite k) := h.each fun h _ => h.each fun h _ => h.each fun h _ => h.snoopAll
theorem Keeps.startReset (h : Keeps s t) {k} : Keeps s (t.startReset k) := Keeps.ite h (Keeps.ite h.abortPattern h).setSite.bump.sbxReset.recallSite
theorem Keeps.assertReset (h : Keeps s t) {k} : Keeps s (t.assertReset k) := h.setSite.wr.wr.sbxReset.each fun h _ => h.remeasure
theorem Keeps.settleReset (h : Keeps s t) {k} : Keeps s (t.settleReset k) :=
    Keeps.ite h (Keeps.ite (Keeps.ite h.assertReset h) (Keeps.ite h h.recallSite))
theorem Keeps.settleResets (h : Keeps s t) : Keeps s (t.settleResets) := h.each fun h _ => h.settleReset
theorem Keeps.quiesceTimeout (h : Keeps s t) {k} : Keeps s (t.quiesceTimeout k) :=
    Keeps.ite (Keeps.ite h.ev.sbxReset.setSite h.ev.sbxReset.loseChiplet) h
theorem Keeps.rstReady (h : Keeps s t) {k rate down} : Keeps s (t.rstReady k rate down) := Keeps.ite h.setSite.sbxReset.train h
theorem Keeps.uciBindWrite (h : Keeps s t) {role k mask} : Keeps s (t.uciBindWrite role k mask).2 :=
    Keeps.ite_snd h.refuse (Keeps.ite_snd h.refuse (Keeps.ite_snd h.refuse (Keeps.ite_snd h.refuse h.wr)))
theorem Keeps.uciResetCmd (h : Keeps s t) {role k v'} : Keeps s (t.uciResetCmd role k v').2 :=
    Keeps.ite_snd h.refuse (Keeps.ite_snd h.refuse (Keeps.ite_snd h.refuse (Keeps.ite_snd h.wr.startReset (Keeps.ite_snd h.refuse h.wr.startAttest))))
theorem Keeps.endPause (h : Keeps s t) {k mask rate down} : Keeps s (t.endPause k mask rate down) :=
    (h.each fun h _ => Keeps.ite h.wr.log h.setSite.ev).setSite.wr.trainFirst
theorem Keeps.uciRepairAccept (h : Keeps s t) {role k mask rate down} : Keeps s (t.uciRepairAccept role k mask rate down).2 :=
    Keeps.ite_snd h.refuse h.wr.endPause
theorem execHomeSnoopAnswer_answers {h' agent txid ptn hasData st data poison ue} : Answers s (execHomeSnoopAnswer h' agent txid ptn hasData st
    data poison ue s) := (Keeps.refl s).snoopAnswer.settleResets.answers
theorem execCohSnpTimeout_answers {h' txid ue} : Answers s (execCohSnpTimeout h' txid ue s) := (Keeps.refl s).snpTimeout.settleResets.answers
theorem execUciRepairAccept_answers {role k mask rate down} : Answers s (execUciRepairAccept role k mask rate down s) :=
    (Keeps.refl s).uciRepairAccept.answered.answers
theorem execUciRepairDeadlineExpiry_answers {k rate down} : Answers s (execUciRepairDeadlineExpiry k rate down s) :=
    (Keeps.ite (Keeps.refl s).ev.endPause (Keeps.refl s)).answers
theorem execUciCrcRetry_answers {k lg} : Answers s (execUciCrcRetry k lg s) := (Keeps.refl s).crcRetry.answers
theorem execUciRetrain_answers {k lg} : Answers s (execUciRetrain k lg s) := (Keeps.ite (Keeps.refl s).retrain (Keeps.refl s)).answers
theorem execUciRetrainDone_answers {k lg ok worst} : Answers s (execUciRetrainDone k lg ok worst s) := (Keeps.refl s).retrainDone.answers
theorem execFwdClockLoss_answers {k m} : Answers s (execFwdClockLoss k m s) := (Keeps.refl s).clockLoss.answers
theorem execSbxCap_answers {k txn cap} : Answers s (execSbxCap k txn cap s) := (Keeps.ite (Keeps.refl s).sbxAnswer (Keeps.refl s).capRx).answers
theorem execSbxSpdmResponse_answers {k res} : Answers s (execSbxSpdmResponse k res s) := (Keeps.refl s).spdmResponse.answers
theorem execSbxRstQuiesced_answers {k} : Answers s (execSbxRstQuiesced k s) := (Keeps.ite (Keeps.refl s).setSite.settleReset (Keeps.refl s)).answers
theorem execSbxRstRequest_answers {k txn} : Answers s (execSbxRstRequest k txn s) :=
    (Keeps.ite (Keeps.refl s).sbxAnswer (Keeps.refl s).sbxAnswer.startReset).answers
theorem execSbxRstReady_answers {k rate down} : Answers s (execSbxRstReady k rate down s) := (Keeps.refl s).rstReady.answers
theorem execSbxErr_answers {k txn payload} : Answers s (execSbxErr k txn payload s) :=
    (Keeps.ite (Keeps.refl s).sbxAnswer (Keeps.refl s).sbxAnswer.report).answers
theorem execSbxTimeout_answers {k txn} : Answers s (execSbxTimeout k txn s) := by
  unfold execSbxTimeout
  dsimp only
  refine Keeps.answers (?_)
  split
  · exact (Keeps.refl s)
  · exact Keeps.ite (Keeps.refl s) (Keeps.ite (Keeps.refl s).setSite.emit (Keeps.ite (Keeps.refl s).setSite.ev.attestEnd (Keeps.refl s).setSite.ev))
theorem execUciResetCmdReset_answers {role k} : Answers s (execUciResetCmdReset role k s) := (Keeps.refl s).uciResetCmd.answered.answers
theorem execUciResetCmdAttest_answers {role k} : Answers s (execUciResetCmdAttest role k s) := (Keeps.refl s).uciResetCmd.answered.answers
theorem execUciQuiesceTimeout_answers {k} : Answers s (execUciQuiesceTimeout k s) := (Keeps.refl s).quiesceTimeout.answers
theorem execSidebandPoll_answers {k} : Answers s (execSidebandPoll k s) :=
    (Keeps.ite (Keeps.refl s).settleReset.emit (Keeps.refl s).settleReset).answers
theorem execUciBindWrite_answers {role k mask} : Answers s (execUciBindWrite role k mask s) := (Keeps.refl s).uciBindWrite.answered.answers
theorem Keeps.sbxResponse (h : Keeps s t) {k cls txn status} : Keeps s (t.sbxResponse k cls txn status) := by
  unfold State.sbxResponse
  dsimp only
  split
  · exact h
  · exact Keeps.ite h (Keeps.ite h.frame h.setSite)
theorem execSbxOtherMessage_answers {k ver cls txn resp status} : Answers s (execSbxOtherMessage k ver cls txn resp status s) :=
    (Keeps.ite (Keeps.refl s).sbxResponse (Keeps.ite (Keeps.refl s).sbxAnswer (Keeps.ite (Keeps.refl s).emit (Keeps.ite (Keeps.refl s).emit
    (Keeps.refl s))))).answers

/-! ## Machine/Collectives -/

theorem Keeps.setGroupState (h : Keeps s t) {p g st reason} : Keeps s (t.setGroupState p g st reason) := h.wr
theorem Keeps.setColGroup (h : Keeps s t) {p g x} : Keeps s (t.setColGroup p g x) := h.frame
theorem Keeps.sendColl (h : Keeps s t) {p g dest kind beat step status body} : Keeps s (t.sendColl p g dest kind beat step status body) := h.sendTo
theorem Keeps.refuseGroup (h : Keeps s t) {p g reason} : Keeps s (t.refuseGroup p g reason) := h.setGroupState
theorem Keeps.openNeighbours (h : Keeps s t) {p g} : Keeps s (t.openNeighbours p g) := h.each fun h _ => h.openConn
theorem Keeps.groupFormed (h : Keeps s t) {p g} : Keeps s (t.groupFormed p g) := h.setGroupState.each fun h _ => h.sendColl
theorem Keeps.groupRefused (h : Keeps s t) {p g reason} : Keeps s (t.groupRefused p g reason) := h.refuseGroup.each fun h _ => h.sendColl
theorem Keeps.formReport (h : Keeps s t) {p g} : Keeps s (t.formReport p g) := by
  unfold State.formReport
  dsimp only
  split
  · exact h
  · split
    · exact h
    · split
      · exact h.setColGroup.sendColl
      · split
        · exact h.setColGroup.groupFormed
        · exact Keeps.ite h.setColGroup.groupRefused h.setColGroup.groupRefused
theorem Keeps.formGroup (h : Keeps s t) {p g v'} : Keeps s (t.formGroup p g v').2 := by
  unfold State.formGroup
  extract_lets c s1 full s2
  have h2 : Keeps s s2 := h.wr.setColGroup.setGroupState
  refine Keeps.ite_snd h.refuse (Keeps.ite_snd h.refuse (Keeps.ite_snd h.refuse (Keeps.ite_snd h2.refuseGroup ?_)))
  split
  · exact h2.refuseGroup
  · extract_lets s3 tree given ps bad s4 s5 s6
    have h3 : Keeps s s3 := h2.setColGroup
    have h6 : Keeps s s6 := (Keeps.ite h3.ev h3).setColGroup.openNeighbours
    exact Keeps.ite_snd h3.refuseGroup (Keeps.ite_snd h3.refuseGroup (Keeps.ite_snd h6.formReport h6.refuseGroup))
theorem Keeps.dissolveGroup (h : Keeps s t) {p g v'} : Keeps s (t.dissolveGroup p g v').2 :=
    Keeps.ite_snd h.refuse (Keeps.ite_snd h.refuse (Keeps.ite_snd h.refuse h.wr.setColGroup.setGroupState))
theorem Keeps.declareStep (h : Keeps s t) {p g c step} : Keeps s (t.declareStep p g c step).2 := h.declare
theorem Keeps.setColl (h : Keeps s t) {p g c} : Keeps s (t.setColl p g c) := h.setColGroup
theorem Keeps.withdraw (h : Keeps s t) {ids} : Keeps s (t.withdraw ids) := h.frame
theorem Keeps.pausePtn (h : Keeps s t) {p} : Keeps s (t.pausePtn p) := h.frame
theorem Keeps.resumePtn (h : Keeps s t) {p} : Keeps s (t.resumePtn p) := by
  unfold State.resumePtn
  dsimp only
  split
  · exact h
  · refine h.frame.emitAll.each fun h _ => ?_
    split
    · exact h.pumpConn
    · exact h
theorem Keeps.abortColl (h : Keeps s t) {p g status sender index pkg code} : Keeps s (t.abortColl p g status sender index pkg code) := by
  unfold State.abortColl
  dsimp only
  split
  · exact h
  · exact Keeps.ite h ((Keeps.ite h.withdraw.resumePtn h.withdraw).setColl.each fun h _ => h.sendColl)
theorem Keeps.raiseAbort (h : Keeps s t) {p g status code} : Keeps s (t.raiseAbort p g status code) := h.abortColl
theorem Keeps.colGroupDown (h : Keeps s t) {p g status} : Keeps s (t.colGroupDown p g status) := h.raiseAbort.setGroupState
theorem Keeps.setRing (h : Keeps s t) {p r} : Keeps s (t.setRing p r) := h.frame
theorem Keeps.ringError (h : Keeps s t) {p} : Keeps s (t.ringError p) := h.setRing.ev
theorem Keeps.collRecord (h : Keeps s t) {p c} : Keeps s (t.collRecord p c) :=
    Keeps.ite (Keeps.ite h.bump (Keeps.ite h.bump h)).ringError (Keeps.ite (Keeps.ite (Keeps.ite h.bump (Keeps.ite h.bump h)).hubWrite.addCounter
    (Keeps.ite h.bump (Keeps.ite h.bump h)).hubWrite).setRing.raiseVector (Keeps.ite (Keeps.ite h.bump (Keeps.ite h.bump h)).hubWrite.addCounter
    (Keeps.ite h.bump (Keeps.ite h.bump h)).hubWrite).setRing)
theorem Keeps.collEnd (h : Keeps s t) {p g} : Keeps s (t.collEnd p g) := by
  unfold State.collEnd
  split
  · exact Keeps.ite h.setColl.collRecord h
  · exact h
theorem Keeps.ringEnd (h : Keeps s t) {p} : Keeps s (t.ringEnd p) := h.setRing.each fun h _ => h.collRecord
theorem Keeps.engineRead (h : Keeps s t) {e' lab tag a n} : Keeps s (t.engineRead e' lab tag a n).2 := by
  unfold State.engineRead
  dsimp only
  split
  · exact h
  · exact h.frame.setTracker.homeServe
theorem Keeps.snoopedSpan (h : Keeps s t) {e lab tag ppa n} : Keeps s (t.snoopedSpan e lab tag ppa n).2 := by
  unfold State.snoopedSpan
  generalize hr : ((⟨[], 0, []⟩ : SpanRead), t) = r
  replace h : Keeps s r.2 := hr ▸ h
  clear hr
  induction lineParts ppa n generalizing r with
  | nil => exact h
  | cons x l ih =>
    refine ih _ ?_
    dsimp only
    split
    · exact h
    · split
      · split
        · exact h.engineRead.snd ‹_›
        · exact h.engineRead.snd ‹_›
      · exact h.noteRead
theorem Keeps.takeReads (h : Keeps s t) {c} : Keeps s (t.takeReads c).2 := by
  unfold State.takeReads
  generalize c.parts = l
  generalize hr : (c, t) = r
  replace h : Keeps s r.2 := hr ▸ h
  clear hr
  induction l generalizing r with
  | nil => exact h
  | cons x l ih =>
    refine ih _ ?_
    dsimp only
    split
    · exact h
    · exact h.frame
theorem Keeps.collWrite (h : Keeps s t) {p g ppa d poison first} : Keeps s (t.collWrite p g ppa d poison first) := h.each fun h _ => h.hubPart
theorem Keeps.collDeliver (h : Keeps s t) {p g c d poison} : Keeps s (t.collDeliver p g c d poison) :=
    (Keeps.ite (h.each fun h _ => h.sendColl).collWrite (h.each fun h _ => h.sendColl)).setColl
theorem Keeps.collReduce (h : Keeps s t) {p g c} : Keeps s (t.collReduce p g c) := by
  unfold State.collReduce
  dsimp only
  split
  · exact h.collWrite.setColl
  · split
    · exact Keeps.ite h.collDeliver h.setColl
    · split
      · exact h.setColl
      · split
        · exact h.sendColl.setColl
        · exact h.collDeliver
theorem Keeps.collPump (h : Keeps s t) {n x2 x3} : Keeps s (State.collPump n t x2 x3) := by
  induction n generalizing t x2 x3 with
  | zero => exact h
  | succ n ih =>
    rw [State.collPump]
    dsimp only
    split
    · exact h
    · split
      · exact h
      · split
        · exact Keeps.ite (ih h.takeReads.collReduce) h.takeReads.setColl
        · exact Keeps.ite (ih h.collReduce) h
        · split
          · exact Keeps.ite h.collDeliver h
          · exact h
        · exact h
theorem Keeps.collRead (h : Keeps s t) {p g c} : Keeps s (t.collRead p g c) := by
  unfold State.collRead
  dsimp only
  split
  · exact h.setColl.collPump
  · exact h.snoopedSpan.setColl.collPump
theorem Keeps.collAdmit (h : Keeps s t) {p g} : Keeps s (t.collAdmit p g) := by
  unfold State.collAdmit
  dsimp only
  split
  · exact h
  · split
    · exact h
    · exact Keeps.ite h (Keeps.ite (Keeps.ite h.setColl.ev h.setColl).raiseAbort.collEnd (Keeps.ite h.setColl.raiseAbort.collEnd (Keeps.ite
        (Keeps.ite_snd h.setColl.declareStep h.setColl).setColl.raiseAbort.collEnd (Keeps.ite (Keeps.ite_snd h.setColl.declareStep
        h.setColl).setColl.setColl.pausePtn (Keeps.ite_snd h.setColl.declareStep h.setColl).setColl.collRead))))
theorem Keeps.stepComplete (h : Keeps s t) {p g} : Keeps s (t.stepComplete p g) := by
  unfold State.stepComplete
  dsimp only
  split
  · exact h.collPump
  · split
    · exact h.collPump.collEnd
    · refine Keeps.collEnd (Keeps.setColl ?_)
      split
      · refine Keeps.resumePtn ?_
        split
        · exact h.collPump.complete
        · exact h.collPump
      · split
        · exact h.collPump.complete
        · exact h.collPump
theorem Keeps.collBegin (h : Keeps s t) {p g c} : Keeps s (t.collBegin p g c) :=
    Keeps.ite (Keeps.ite h.ev h).declareStep.setColl (Keeps.ite h.ev h).declareStep.setColl.raiseAbort.collEnd
theorem Keeps.ringRead (h : Keeps s t) {p} : Keeps s (t.ringRead p) := h.setRing
theorem Keeps.collFetch (h : Keeps s t) {p op k} (hk : ∀ {u}, Keeps s u → ∀ g c, Keeps s (k u g c)) : Keeps s (t.collFetch p op k) := by
  unfold State.collFetch
  dsimp only
  split
  · exact Keeps.ite h.ringError h
  · exact Keeps.ite h (Keeps.ite h (Keeps.ite h.ringRead.setRing.ringEnd (Keeps.ite h.ringRead.setRing.ringEnd (hk h.ringRead _ _))))
theorem Keeps.collArm (h : Keeps s t) {p g} : Keeps s (t.collArm p g) := by
  unfold State.collArm
  split
  · exact h
  · split
    · exact h
    · exact Keeps.ite h (Keeps.ite h.raiseAbort h)
theorem Keeps.collRefused (h : Keeps s t) {p g} : Keeps s (t.collRefused p g) := by
  unfold State.collRefused
  split
  · exact h
  · split
    · exact h
    · exact Keeps.ite h h.raiseAbort
theorem Keeps.ringTail (h : Keeps s t) {p tail cplHead} : Keeps s (t.ringTail p tail cplHead) := Keeps.ite h.setRing.ringError h.setRing.setRing
theorem Keeps.ringAbort (h : Keeps s t) {p} : Keeps s (t.ringAbort p) := (h.each fun h _ => h.raiseAbort.collEnd).drawn.setRing.ringEnd
theorem Keeps.ringCfgWrite (h : Keeps s t) {role p v'} : Keeps s (t.ringCfgWrite role p v').2 :=
    Keeps.ite_snd h.refuse (Keeps.ite_snd h.refuse (Keeps.ite_snd h.refuse (Keeps.ite_snd h.refuse (Keeps.ite_snd h.wr.setRing h.wr))))
theorem Keeps.extendStep (h : Keeps s t) {p g} : Keeps s (t.extendStep p g) := by
  unfold State.extendStep
  dsimp only
  split
  · exact h
  · split
    · exact h
    · exact h.frame.setColGroup.bump
theorem Keeps.takeGrant (h : Keeps s t) {p g e'} : Keeps s (t.takeGrant p g e') :=
    Keeps.ite (h.each fun h _ => h.sendColl).raiseAbort.collEnd (Keeps.ite (h.each fun h _ => h.sendColl).setColGroup.bump.extendStep (h.each fun h
    _ => h.sendColl).setColGroup.bump)
theorem Keeps.decideStretch (h : Keeps s t) {p g} : Keeps s (t.decideStretch p g) := Keeps.ite h h.takeGrant
theorem Keeps.requestStretch (h : Keeps s t) {p g} : Keeps s (t.requestStretch p g) := by
  unfold State.requestStretch
  split
  · exact h.sendColl
  · exact h.sendColl
  · exact h.decideStretch
theorem Keeps.loseMember (h : Keeps s t) {lost} : Keeps s (t.loseMember lost) :=
    h.each fun h _ => Keeps.ite h (Keeps.ite h.refuseGroup (Keeps.ite h.colGroupDown.collEnd h))
theorem Keeps.settleGroups (h : Keeps s t) : Keeps s (t.settleGroups) := h.loseMember
theorem Keeps.faultGroups (h : Keeps s t) {n} : Keeps s (t.faultGroups n) := h.loseMember
theorem Keeps.thermalAbort (h : Keeps s t) {h'} : Keeps s (t.thermalAbort h') := by
  unfold State.thermalAbort
  dsimp only
  refine h.each fun h _ => ?_
  split
  · exact Keeps.ite h.raiseAbort.collEnd h
  · exact h
theorem Keeps.collReset (h : Keeps s t) {p ctx} : Keeps s (t.collReset p ctx) := by
  unfold State.collReset
  refine h.each fun h _ => ?_
  split
  · exact Keeps.ite h.raiseAbort.collEnd h
  · exact Keeps.ite h.colGroupDown.collEnd h
theorem Keeps.writeSyncMap (h : Keeps s t) {p v'} : Keeps s (t.writeSyncMap p v') := h.wr.frame
theorem Keeps.syncMapWrite (h : Keeps s t) {role p v'} : Keeps s (t.syncMapWrite role p v').2 :=
    Keeps.ite_snd h.refuse (Keeps.ite_snd h.refuse (Keeps.ite_snd h.refuse (Keeps.ite_snd h.refuse h.writeSyncMap)))
theorem execColSyncMapWrite_answers {role p v'} : Answers s (execColSyncMapWrite role p v' s) := (Keeps.refl s).syncMapWrite.answered.answers
theorem execColGroupForm_answers {p g v'} : Answers s (execColGroupForm p g v' s) := (Keeps.refl s).formGroup.answered.answers
theorem execColGroupDissolve_answers {p g v'} : Answers s (execColGroupDissolve p g v' s) := (Keeps.refl s).dissolveGroup.answered.answers
theorem execColFormTimeout_answers {p g} : Answers s (execColFormTimeout p g s) := (Keeps.ite (Keeps.refl s).refuseGroup (Keeps.refl s)).answers
theorem execColDbTailWrite_answers {p tail cplHead} : Answers s (execColDbTailWrite p tail cplHead s) := (Keeps.refl s).ringTail.answers
theorem execColDbAbort_answers {p} : Answers s (execColDbAbort p s) := (Keeps.refl s).ringAbort.answers
theorem execCollAllreduce_answers {p} : Answers s (execCollAllreduce p s) := ((Keeps.refl s).collFetch fun h _ _ => h.collBegin).answers
theorem execCollReduceScatter_answers {p} : Answers s (execCollReduceScatter p s) := ((Keeps.refl s).collFetch fun h _ _ => h.collBegin).answers
theorem execCollAllgather_answers {p} : Answers s (execCollAllgather p s) := ((Keeps.refl s).collFetch fun h _ _ => h.collBegin).answers
theorem execCollBroadcast_answers {p} : Answers s (execCollBroadcast p s) := ((Keeps.refl s).collFetch fun h _ _ => h.collBegin).answers
theorem execCollBarrier_answers {p} : Answers s (execCollBarrier p s) := ((Keeps.refl s).collFetch fun h _ _ => h.collBegin).answers
theorem execCollSnapshot_answers {p} : Answers s (execCollSnapshot p s) := ((Keeps.refl s).collFetch fun h _ _ => h.collBegin).answers
theorem execCollStepComplete_answers {p g} : Answers s (execCollStepComplete p g s) := (Keeps.refl s).stepComplete.answers
theorem execSnapshotDrainEnd_answers {p} : Answers s (execSnapshotDrainEnd p s) := by
  unfold execSnapshotDrainEnd
  dsimp only
  refine Keeps.answers (?_)
  split
  · exact (Keeps.refl s)
  · split
    · exact (Keeps.refl s)
    · exact Keeps.ite (Keeps.refl s) (Keeps.refl s).collWrite.collRead
theorem execCollMsgForm_answers {c payload} : Answers s (execCollMsgForm c payload s) := by
  unfold execCollMsgForm
  dsimp only
  refine Keeps.answers (?_)
  split
  · exact (Keeps.refl s)
  · exact Keeps.ite (Keeps.refl s) ((Keeps.refl s).frame.each fun h _ => Keeps.ite h.formReport h)
theorem execCollMsgFormed_answers {c payload} : Answers s (execCollMsgFormed c payload s) := by
  unfold execCollMsgFormed
  refine Keeps.answers (?_)
  split
  · exact Keeps.ite (Keeps.refl s).groupFormed (Keeps.refl s)
  · exact (Keeps.refl s)
theorem execCollMsgRefuse_answers {c payload} : Answers s (execCollMsgRefuse c payload s) := by
  unfold execCollMsgRefuse
  refine Keeps.answers (?_)
  split
  · exact Keeps.ite (Keeps.refl s).groupRefused (Keeps.refl s)
  · exact (Keeps.refl s)
theorem Keeps.stepData (h : Keeps s t) {m put} : Keeps s (t.stepData m put) := by
  unfold State.stepData
  dsimp only
  split
  · exact h
  · exact Keeps.ite h (Keeps.ite h.raiseAbort.collEnd h.setColl.collPump)
theorem execCollMsgUp_answers {c payload} : Answers s (execCollMsgUp c payload s) := by
  unfold execCollMsgUp
  refine Keeps.answers (?_)
  split
  · exact Keeps.ite (Keeps.refl s).stepData (Keeps.refl s)
  · exact (Keeps.refl s)
theorem execCollMsgDown_answers {c payload} : Answers s (execCollMsgDown c payload s) := by
  unfold execCollMsgDown
  refine Keeps.answers (?_)
  split
  · split
    · exact Keeps.ite (Keeps.refl s).stepData (Keeps.refl s)
    · exact (Keeps.refl s)
  · exact (Keeps.refl s)
theorem execCollMsgStretchReq_answers {c payload} : Answers s (execCollMsgStretchReq c payload s) := by
  unfold execCollMsgStretchReq
  refine Keeps.answers (?_)
  split
  · exact Keeps.ite (Keeps.refl s).requestStretch (Keeps.refl s)
  · exact (Keeps.refl s)
theorem execCollMsgStretchGrant_answers {c payload} : Answers s (execCollMsgStretchGrant c payload s) := by
  unfold execCollMsgStretchGrant
  refine Keeps.answers (?_)
  split
  · exact Keeps.ite (Keeps.refl s).takeGrant (Keeps.refl s)
  · exact (Keeps.refl s)
theorem execCollMsgAbort_answers {c payload} : Answers s (execCollMsgAbort c payload s) := by
  unfold execCollMsgAbort
  refine Keeps.answers (?_)
  split
  · exact (Keeps.refl s).abortColl.collEnd
  · exact (Keeps.refl s)
theorem execStretchCheckPoint_answers {p g} : Answers s (execStretchCheckPoint p g s) :=
    (Keeps.ite (Keeps.refl s).requestStretch (Keeps.refl s)).answers

/-! ## Machine/Connections -/

theorem execSoxPortChange_answers {e' st} : Answers s (execSoxPortChange e' st s) := (Keeps.refl s).portChange.answers
theorem execSoxOtherFrame_answers {e'} : Answers s (execSoxOtherFrame e' s) := (Keeps.refl s).dropFrame.answers
theorem execPtpSyncRx_answers {e' domain twoStep missed} : Answers s (execPtpSyncRx e' domain twoStep missed s) := (Keeps.refl s).ptpSync.answers
theorem execPtpAnnounceRx_answers {e' rank} : Answers s (execPtpAnnounceRx e' rank s) := (Keeps.refl s).ptpAnnounce.answers
theorem execPtpFollowUpRx_answers {e' domain} : Answers s (execPtpFollowUpRx e' domain s) := (Keeps.refl s).ptpFollowUp.answers
theorem execPtpDelayRespRx_answers {e' domain delay} : Answers s (execPtpDelayRespRx e' domain delay s) := (Keeps.refl s).ptpDelay.answers
theorem execSftData_answers {f} : Answers s (execSftData f s) :=
    (Keeps.ite ((Keeps.refl s).frameOn fun h _ => Keeps.ite h.rxOrdered h.dropIsolation) (Keeps.refl s)).answers
theorem execSftAck_answers {f rttHigh} : Answers s (execSftAck f rttHigh s) := by
  unfold execSftAck
  dsimp only
  refine Keeps.answers (?_)
  split
  · refine (Keeps.refl s).frameOn fun h _ => ?_
    split
    · split
      · exact h.ackRx.ccSignal
      · exact h.ackRx
    · exact h.ackRx
  · exact (Keeps.refl s)
theorem execSftCnp_answers {f due} : Answers s (execSftCnp f due s) :=
    (Keeps.ite ((Keeps.refl s).frameOn fun h _ => Keeps.ite h.bump.ccSignal h.bump) (Keeps.refl s)).answers
theorem execSftCtrlOpen_answers {f} : Answers s (execSftCtrlOpen f s) := (Keeps.ite ((Keeps.refl s).frame12 fun h => h.openRx) (Keeps.refl s)).answers
theorem execSftCtrlOpenAck_answers {f} : Answers s (execSftCtrlOpenAck f s) :=
    (Keeps.ite ((Keeps.refl s).frameOn fun h _ => Keeps.ite h.setConn.pumpConn h) (Keeps.refl s)).answers
theorem execSftCtrlClose_answers {f} : Answers s (execSftCtrlClose f s) :=
    (Keeps.ite ((Keeps.refl s).frameOn fun h _ => h.sendCtl.closeConn) (Keeps.refl s)).settleGroups.answers
theorem execSftCtrlCloseAck_answers {f} : Answers s (execSftCtrlCloseAck f s) :=
    (Keeps.ite ((Keeps.refl s).frameOn fun h _ => Keeps.ite h.closeConn h) (Keeps.refl s)).settleGroups.answers
theorem execSftCtrlReset_answers {f} : Answers s (execSftCtrlReset f s) :=
    (Keeps.ite ((Keeps.refl s).frameOn fun h _ => Keeps.ite h.failConn h) (Keeps.refl s)).settleGroups.answers
theorem execSftFault_answers {f} : Answers s (execSftFault f s) :=
    (Keeps.ite ((Keeps.refl s).frameOn fun h _ => Keeps.ite h.endMsgs.setConn.settleClose.faultGroups h) (Keeps.refl s)).settleGroups.answers
theorem execConnOpenRequest_answers {p pkg rptn} : Answers s (execConnOpenRequest p pkg rptn s) := (Keeps.refl s).openRequest.answers
theorem execConnOpenRetry_answers {c} : Answers s (execConnOpenRetry c s) := (Keeps.refl s).openRetry.settleGroups.answers
theorem execConnIdleExpiry_answers {c} : Answers s (execConnIdleExpiry c s) := (Keeps.refl s).startClose.answers
theorem execConnPsnLimit_answers {c} : Answers s (execConnPsnLimit c s) := by
  unfold execConnPsnLimit
  refine Keeps.answers (?_)
  split
  · exact Keeps.ite (Keeps.refl s).startClose (Keeps.refl s)
  · exact (Keeps.refl s)
theorem execConnCloseTimeout_answers {c} : Answers s (execConnCloseTimeout c s) := by
  unfold execConnCloseTimeout
  refine Keeps.answers (Keeps.settleGroups ?_)
  split
  · exact Keeps.ite (Keeps.refl s).closeConn (Keeps.refl s)
  · exact (Keeps.refl s)
theorem execSftAckTimer_answers {c} : Answers s (execSftAckTimer c s) := by
  unfold execSftAckTimer
  refine Keeps.answers (?_)
  split
  · exact Keeps.ite (Keeps.refl s) (Keeps.refl s).sendAck
  · exact (Keeps.refl s)
theorem execSftRtoExpiry_answers {c psn} : Answers s (execSftRtoExpiry c psn s) := (Keeps.refl s).rtoRx.settleGroups.answers
theorem execCcPeriodExpiry_answers {c plane} : Answers s (execCcPeriodExpiry c plane s) := (Keeps.refl s).ccPeriod.answers
theorem execSoxEgressTableWrite_answers {role e' v'} : Answers s (execSoxEgressTableWrite role e' v' s) := (Keeps.refl s).egressWrite.answered.answers
theorem Keeps.ctrlRefused (h : Keeps s t) {f} : Keeps s (t.ctrlRefused f) := h.frameOn fun h _ => Keeps.ite h.closeConn.settleGroups h

/-! ## Machine/Htl -/

theorem Keeps.refuseCredit (h : Keeps s t) {k h'} : Keeps s (t.refuseCredit k h') := Keeps.ite h.emit h
theorem Keeps.htlRefuse (h : Keeps s t) {k h' st} : Keeps s (t.htlRefuse k h' st) :=
    Keeps.ite h.bump.emit.refuseCredit.ev (Keeps.ite h.bump.emit.refuseCredit.bump h.bump.emit.refuseCredit)
theorem Keeps.htlDone (h : Keeps s t) {k h'} : Keeps s (t.htlDone k h') := h.emit.refuseCredit
theorem Keeps.htlAbortQueue (h : Keeps s t) {k h'} : Keeps s (t.htlAbortQueue k h') := Keeps.ite h.htlRefuse h.wqAbort.htlDone
theorem Keeps.htlGather (h : Keeps s t) {k h' data} : Keeps s (t.htlGather k h' data) :=
    Keeps.ite h.htlRefuse (Keeps.ite h.htlRefuse h.wqSubmit.htlDone)
theorem Keeps.htlQueueOp (h : Keeps s t) {k v' data} : Keeps s (t.htlQueueOp k v' data) := Keeps.ite h.setSite (Keeps.ite h.htlAbortQueue h.htlGather)
theorem Keeps.htlUnfence (h : Keeps s t) {k} : Keeps s (t.htlUnfence k) := h.setSite.each fun h _ => h.htlQueueOp
theorem Keeps.htlPart (h : Keeps s t) {k h' data attr} : Keeps s (t.htlPart k h' data attr) :=
    Keeps.ite h.setSite.refuseCredit (Keeps.ite h.setSite.htlRefuse h.setSite.issue)
theorem Keeps.htlInject (h : Keeps s t) {k v' data} : Keeps s (t.htlInject k v' data) := by
  unfold State.htlInject
  dsimp only
  split
  · exact (Keeps.ite_fst h.demote h).emit
  · split
    · exact (Keeps.ite_fst h.demote h).htlQueueOp
    · split
      · split
        · exact h.demote.htlRefuse
        · split
          · exact Keeps.ite (Keeps.ite h.demote.htlRefuse h.demote.issue) (Keeps.ite h.demote.htlPart h.demote.issue)
          · exact h.demote.issue
      · split
        · exact h.htlRefuse
        · split
          · exact Keeps.ite (Keeps.ite h.htlRefuse h.issue) (Keeps.ite h.htlPart h.issue)
          · exact h.issue
theorem Keeps.htlMessage (h : Keeps s t) {op k lg hdr data} : Keeps s (t.htlMessage op k lg hdr data) :=
    Keeps.ite h (Keeps.ite h.bump (Keeps.ite h.bump.ev (Keeps.ite h (Keeps.ite h.htlInject h.htlRefuse).htlUnfence)))
theorem Keeps.drainSnoops (h : Keeps s t) {n x2 x3} : Keeps s (State.drainSnoops n t x2 x3) := by
  induction n generalizing t x2 x3 with
  | zero => exact h
  | succ n ih =>
    rw [State.drainSnoops]
    split
    · exact Keeps.ite (ih h.setSite.emit) h
    · exact h
theorem Keeps.drainIntr (h : Keeps s t) {n x2 x3} : Keeps s (State.drainIntr n t x2 x3) := by
  induction n generalizing t x2 x3 with
  | zero => exact h
  | succ n ih =>
    rw [State.drainIntr]
    split
    · exact Keeps.ite (ih h.setSite.emit) h
    · exact h
theorem Keeps.creditEntry (h : Keeps s t) {k e'} : Keeps s (t.creditEntry k e') :=
    Keeps.ite h (Keeps.ite h.setSite.drainSnoops (Keeps.ite h.setSite.drainIntr h))
theorem Keeps.cxlRefuse (h : Keeps s t) {k m tag st} : Keeps s (t.cxlRefuse k m tag st) := Keeps.ite h.bump.emit.ev h.bump.emit
theorem Keeps.cxlMessage (h : Keeps s t) {k m tag ppa len data poison} : Keeps s (t.cxlMessage k m tag ppa len data poison) := by
  unfold State.cxlMessage
  dsimp only
  split
  · exact h
  · split
    · exact h.bump
    · split
      · exact Keeps.ite h.emit h.cxlRefuse
      · exact Keeps.ite h.cxlRefuse h.issue
theorem execHtlRdShared_answers {k lg hdr data} : Answers s (execHtlRdShared k lg hdr data s) := (Keeps.refl s).htlMessage.answers
theorem execHtlRdUnique_answers {k lg hdr data} : Answers s (execHtlRdUnique k lg hdr data s) := (Keeps.refl s).htlMessage.answers
theorem execHtlClaim_answers {k lg hdr data} : Answers s (execHtlClaim k lg hdr data s) := (Keeps.refl s).htlMessage.answers
theorem execHtlEvict_answers {k lg hdr data} : Answers s (execHtlEvict k lg hdr data s) := (Keeps.refl s).htlMessage.answers
theorem execHtlRdNa_answers {k lg hdr data} : Answers s (execHtlRdNa k lg hdr data s) := (Keeps.refl s).htlMessage.answers
theorem execHtlIntr_answers {k lg hdr data} : Answers s (execHtlIntr k lg hdr data s) := (Keeps.refl s).htlMessage.answers
theorem execHtlAbort_answers {k lg hdr data} : Answers s (execHtlAbort k lg hdr data s) := (Keeps.refl s).htlMessage.answers
theorem execHtlWb_answers {k lg hdr data} : Answers s (execHtlWb k lg hdr data s) := (Keeps.refl s).htlMessage.answers
theorem execHtlWrNs_answers {k lg hdr data} : Answers s (execHtlWrNs k lg hdr data s) := (Keeps.refl s).htlMessage.answers
theorem execHtlWrStash_answers {k lg hdr data} : Answers s (execHtlWrStash k lg hdr data s) := (Keeps.refl s).htlMessage.answers
theorem execHtlWrRed_answers {k lg hdr data} : Answers s (execHtlWrRed k lg hdr data s) := (Keeps.refl s).htlMessage.answers
theorem execHtlGatherDesc_answers {k lg hdr data} : Answers s (execHtlGatherDesc k lg hdr data s) := (Keeps.refl s).htlMessage.answers
theorem execHtlSync_answers {k lg hdr data} : Answers s (execHtlSync k lg hdr data s) := (Keeps.refl s).htlMessage.answers
theorem execHtlSnpAck_answers {k lg hdr data} : Answers s (execHtlSnpAck k lg hdr data s) := (Keeps.refl s).htlMessage.answers
theorem execHtlSnpData_answers {k lg hdr data} : Answers s (execHtlSnpData k lg hdr data s) := (Keeps.refl s).htlMessage.answers
theorem execHtlCreditReturn_answers {k slot} : Answers s (execHtlCreditReturn k slot s) := ((Keeps.refl s).each fun h _ => h.creditEntry).answers
theorem execCxlMessage_answers {k m tag ppa len data poison} : Answers s (execCxlMessage k m tag ppa len data poison s) :=
    (Keeps.refl s).cxlMessage.answers

/-! ## Machine/Migration -/

theorem Keeps.setMig (h : Keeps s t) {m} : Keeps s (t.setMig m) := h.frame
theorem Keeps.dropMig (h : Keeps s t) {src} : Keeps s (t.dropMig src) := h.frame
theorem Keeps.migDir (h : Keeps s t) {m f} : Keeps s (t.migDir m f) := by
  unfold State.migDir
  split
  · exact h.setDir
  · exact h
theorem Keeps.noTarget (h : Keeps s t) {q} : Keeps s (t.noTarget q) := by
  unfold State.noTarget
  dsimp only
  split
  · exact Keeps.ite h h.ev.frame
  · exact h.jayCode
  · exact Keeps.ite h h.ev
  · exact h
theorem Keeps.plan1 (h : Keeps s t) {q} : Keeps s (t.plan1 q) := by
  unfold State.plan1
  dsimp only
  split
  · exact h
  · split
    · exact h.noTarget
    · exact Keeps.ite h.declare h.declare.frame.migDir
theorem Keeps.placementPass (h : Keeps s t) : Keeps s (t.placementPass) :=
    ((((h.each fun h _ => h.plan1).each fun h _ => h.plan1).each fun h _ => Keeps.ite h.plan1.frame h).each fun h _ => h.plan1).each fun h _ =>
    h.plan1
theorem Keeps.postCandidates (h : Keeps s t) {p} : Keeps s (t.postCandidates p) := Keeps.ite h.frame h.frame.raiseVector
theorem Keeps.startMig (h : Keeps s t) {src} : Keeps s (t.startMig src) := by
  unfold State.startMig
  split
  · exact Keeps.ite h.setMig.migDir h
  · exact h
theorem Keeps.countCopy (h : Keeps s t) {m n} : Keeps s (t.countCopy m n) := h.activate.activate.bump.bump
theorem Keeps.lockMig (h : Keeps s t) {m} : Keeps s (t.lockMig m) := h.setMig.setHgt.migDir.recallGranule.pumped
theorem Keeps.copyErrs (h : Keeps s t) {m es} : Keeps s (t.copyErrs m es).1 := h.readErrs
theorem Keeps.passDone (h : Keeps s t) {src es} : Keeps s (t.passDone src es) := by
  unfold State.passDone
  dsimp only
  split
  · exact h
  · exact Keeps.ite h (Keeps.ite (Keeps.ite h.countCopy h).copyErrs.countCopy.setMig (Keeps.ite h.countCopy h).copyErrs.lockMig)
theorem Keeps.carry (h : Keeps s t) {src dst} : Keeps s (t.carry src dst) := h.of_mem _ _ (wf_carry t src dst)
theorem Keeps.retired (h : Keeps s t) {src dst} : Keeps s (t.retired src dst) := h.bump.log.frame.ev
theorem Keeps.useSpare (h : Keeps s t) {dst} : Keeps s (t.useSpare dst) := Keeps.ite (Keeps.ite h.wr.ev h.wr) h
theorem Keeps.remap (h : Keeps s t) {src es} : Keeps s (t.remap src es) := by
  unfold State.remap
  dsimp only
  split
  · exact h
  · split
    · exact h
    · split
      · exact (Keeps.ite (h.countCopy.copyErrs.carry.setHgt.each fun h _ => h.poisonUnit).bump.complete.retired.useSpare
          (h.countCopy.copyErrs.carry.setHgt.each fun h _ => h.poisonUnit).bump.complete).setHgt.dropMig.pumped
      · exact (Keeps.ite (h.countCopy.copyErrs.carry.setHgt.each fun h _ => h.poisonUnit).bump.complete.retired.useSpare
          (h.countCopy.copyErrs.carry.setHgt.each fun h _ => h.poisonUnit).bump.complete).frame.setMig.invalidate.answerLockWait.pumped
theorem Keeps.runQueued (h : Keeps s t) {p g} : Keeps s (t.runQueued p g) := by
  unfold State.runQueued
  dsimp only
  refine h.frame.each fun h _ => ?_
  split
  · exact Keeps.ite h.unmapNow h
  · exact Keeps.ite h.setFmtNow h
theorem Keeps.migDone (h : Keeps s t) {src} : Keeps s (t.migDone src) := by
  unfold State.migDone
  dsimp only
  split
  · exact Keeps.ite h (Keeps.ite h.setHgt h.setHgt).frame.runQueued
  · exact h
theorem Keeps.cancelMig (h : Keeps s t) {m counter} : Keeps s (t.cancelMig m counter) := by
  unfold State.cancelMig
  dsimp only
  split
  · exact h
  · split
    · exact (Keeps.ite h.bump.complete.setHgt h.bump.complete).setHgt.migDir.dropMig.dropItems.answerLockWait.runQueued.pumped
    · exact (Keeps.ite h.bump.complete.setHgt h.bump.complete).setHgt.migDir.dropMig.dropItems.pumped
theorem Keeps.cancelMigs (h : Keeps s t) {q} : Keeps s (t.cancelMigs q) := h.each fun h _ => h.cancelMig
theorem Keeps.abandon (h : Keeps s t) {src} : Keeps s (t.abandon src) := by
  unfold State.abandon
  split
  · exact Keeps.ite h.cancelMig h
  · exact h
theorem Keeps.rowsGone (h : Keeps s t) {i} : Keeps s (t.rowsGone i) := Keeps.ite h.setHgt.setHgt.pumped h
theorem Keeps.invalAcked (h : Keeps s t) {e' p g} : Keeps s (t.invalAcked e' p g) := by
  unfold State.invalAcked
  dsimp only
  split
  · exact h
  · split
    · refine Keeps.rowsGone ?_
      split
      · exact h.frame.jayResult
      · exact h.frame
    · exact h.frame
theorem Keeps.fillAcked (h : Keeps s t) {t' p block} : Keeps s (t.fillAcked t' p block) := h.frame.pumped
theorem Keeps.fillBlock (h : Keeps s t) {hblock} : Keeps s (t.fillBlock hblock) := by
  unfold State.fillBlock
  dsimp only
  split
  · exact h
  · exact Keeps.ite h (Keeps.ite (h.each fun h _ => h.emit.frame) (h.each fun h _ => h.emit.frame).setHgt)
theorem Keeps.rowFills (h : Keeps s t) {h'} : Keeps s (t.rowFills h') := (h.each fun h _ => h.fillBlock).frame
theorem execJayPlacementPass_answers : Answers s (execJayPlacementPass s) := (Keeps.refl s).placementPass.answers
theorem execMigrationPassDone_answers {src es} : Answers s (execMigrationPassDone src es s) := (Keeps.refl s).passDone.answers
theorem execMigrationRemap_answers {src es} : Answers s (execMigrationRemap src es s) := (Keeps.refl s).remap.answers
theorem execMigrationDone_answers {src} : Answers s (execMigrationDone src s) := (Keeps.refl s).migDone.answers
theorem execMigrationAbandon_answers {src} : Answers s (execMigrationAbandon src s) := (Keeps.refl s).abandon.answers
theorem execInvalidationAck_answers {e' p g} : Answers s (execInvalidationAck e' p g s) := (Keeps.refl s).invalAcked.answers
theorem execRowFillAck_answers {t' p block} : Answers s (execRowFillAck t' p block s) := (Keeps.refl s).fillAcked.answers

/-! ## Machine/Memory -/

theorem Keeps.readData (h : Keeps s t) {h' id es} : Keeps s (t.readData h' id es) := by
  unfold State.readData
  dsimp only
  split
  · exact h
  · exact Keeps.ite h.readErrs.countRead.setTxn.completeTxn.pumped h.readErrs.countRead.setTxn
theorem Keeps.useRepair (h : Keeps s t) {k} : Keeps s (t.useRepair k) := Keeps.ite h.wr.frame.ev h.wr.frame
theorem Keeps.denySlots (h : Keeps s t) {k} : Keeps s (t.denySlots k) := h.each fun h _ => h.loseSlots
theorem Keeps.softRepair (h : Keeps s t) {h' pch bank row lost} : Keeps s (t.softRepair h' pch bank row lost) :=
    Keeps.ite h (Keeps.ite h.frame (Keeps.ite h (h.each fun h _ => h.poisonUnit)).frame.useRepair.bump.bump.emit.log.denySlots)
theorem Keeps.granuleRetire (h : Keeps s t) {hg} : Keeps s (t.granuleRetire hg) := by
  unfold State.granuleRetire
  dsimp only
  split
  · exact h
  · split
    · exact Keeps.ite h.setHgt.retired.useSpare h.setHgt.retired
    · exact Keeps.ite h.setHgt.retired.useSpare h.setHgt.retired
    · exact Keeps.ite h.setHgt.retired.useSpare h.setHgt.retired
    · exact h.each fun h _ => h.plan1
theorem Keeps.poisonAll (h : Keeps s t) {h'} : Keeps s (t.poisonAll h') := h.orphan.each fun h _ => h.dropTxn.poisonAnswer
theorem Keeps.quiesce (h : Keeps s t) {h'} : Keeps s (t.quiesce h') := Keeps.ite h h.cancelMigs.wr.poisonAll.emit.ev
theorem Keeps.cattrip (h : Keeps s t) {h'} : Keeps s (t.cattrip h') := Keeps.ite h h.cancelMigs.wr.wr.poisonAll.ev
theorem Keeps.setTemp (h : Keeps s t) {h' x} : Keeps s (t.setTemp h' x) := h.frame
theorem Keeps.recalDone (h : Keeps s t) {h'} : Keeps s (t.recalDone h') := Keeps.ite h.setTemp.wr.wr h
theorem Keeps.refreshRound (h : Keeps s t) {h'} : Keeps s (t.refreshRound h') := Keeps.ite h (Keeps.ite h.emit h.emit)
theorem Keeps.patrol (h : Keeps s t) {h' hpa err} : Keeps s (t.patrol h' hpa err) := by
  unfold State.patrol
  dsimp only
  split
  · exact h
  · split
    · exact h.countRead.readErr
    · exact h.countRead
theorem Keeps.recal (h : Keeps s t) {h'} : Keeps s (t.recal h') := Keeps.ite h.emit h
theorem Keeps.replicaGather (h : Keeps s t) {t' r e'} : Keeps s (t.replicaGather t' r e') := by
  unfold State.replicaGather
  dsimp only
  split
  · exact Keeps.ite (Keeps.ite h.frame.tileUe.emit (Keeps.ite h.tileCe h).bump.emit.answerReq) h.emit
  · exact h.emit
theorem execRefreshRound_answers {h'} : Answers s (execRefreshRound h' s) := (Keeps.refl s).refreshRound.answers
theorem execStackReadData_answers {h' id es} : Answers s (execStackReadData h' id es s) := (Keeps.refl s).readData.answers
theorem execSoftRepair_answers {h' pch bank row lost} : Answers s (execSoftRepair h' pch bank row lost s) := (Keeps.refl s).softRepair.answers
theorem execGranuleRetire_answers {hg} : Answers s (execGranuleRetire hg s) := (Keeps.refl s).granuleRetire.answers
theorem execStackRecalDone_answers {h'} : Answers s (execStackRecalDone h' s) := (Keeps.refl s).recalDone.answers
theorem execMemoryPatrol_answers {h' hpa err} : Answers s (execMemoryPatrol h' hpa err s) := (Keeps.refl s).patrol.answers
theorem execHbmRecal_answers {h'} : Answers s (execHbmRecal h' s) := (Keeps.refl s).recal.answers
theorem execReplicaGather_answers {t' r e'} : Answers s (execReplicaGather t' r e' s) := (Keeps.refl s).replicaGather.answers

/-! ## Machine/Partitions -/

theorem Keeps.setPtn (h : Keeps s t) {p x} : Keeps s (t.setPtn p x) := h.frame
theorem Keeps.ptnRefuse (h : Keeps s t) {p op reason} : Keeps s (t.ptnRefuse p op reason).2 := h.wr
theorem Keeps.ptnCmd (h : Keeps s t) {role p low roles accepted k} (hk : ∀ {u}, Keeps s u → Keeps s (k u).2) :
    Keeps s (t.ptnCmd role p low roles accepted k).2 := by
  unfold State.ptnCmd
  exact Keeps.ite_snd h.refuse (Keeps.ite_snd h.refuse (Keeps.ite_snd h.refuse (Keeps.ite_snd h.refuse (Keeps.ite_snd h.refuse (hk h)))))
theorem Keeps.zeroGranule (h : Keeps s t) {hg} : Keeps s (t.zeroGranule hg) := h.of_mem _ _ (wf_zeroGranule t hg)
theorem Keeps.poolGranule (h : Keeps s t) {p hg} : Keeps s (t.poolGranule p hg) := h.zeroGranule.setHgt
/-- `State.takeFree` with the search for a granule as a parameter: its steps are equations that hold without looking into the search. -/
def takeFreeBy (free : State → Nat → Option Nat) : Nat → State → Nat → Nat → State
  | 0, s, _, _ => s
  | n + 1, s, p, h =>
    match free s h with
    | some hg => takeFreeBy free n (s.poolGranule p hg) p h
    | none => s
theorem State.takeFree_eq : State.takeFree = takeFreeBy State.firstFree := by
  delta State.takeFree takeFreeBy State.takeFree._f takeFreeBy._f
  rfl
theorem Keeps.takeFreeBy {free} (h : Keeps s t) {n p k} : Keeps s (takeFreeBy free n t p k) := by
  induction n generalizing t with
  | zero => exact h
  | succ n ih =>
    rw [Machine.takeFreeBy]
    split
    · exact ih h.poolGranule
    · exact h
theorem Keeps.takeFree (h : Keeps s t) {n p k} : Keeps s (State.takeFree n t p k) := by
  rw [State.takeFree_eq]
  exact h.takeFreeBy
theorem Keeps.mapAreas (h : Keeps s t) {p} : Keeps s (t.mapAreas p) := by
  unfold State.mapAreas
  dsimp only
  refine h.foldl fun h _ => ?_
  split
  · exact h.mapGranule.setDir
  · exact h
theorem Keeps.clearCounters (h : Keeps s t) {p} : Keeps s (t.clearCounters p) := (h.each fun h _ => h.clr).clr.clr.clr
theorem Keeps.emptyTiles (h : Keeps s t) {ts} : Keeps s (t.emptyTiles ts) := h.frame
theorem Keeps.zeroPads (h : Keeps s t) {ts} : Keeps s (t.zeroPads ts) := h.frame
theorem Keeps.emptyRows (h : Keeps s t) {p} : Keeps s (t.emptyRows p) := h.frame
theorem Keeps.useSpares (h : Keeps s t) {p} : Keeps s (t.useSpares p) := h.each fun h _ => Keeps.ite h.wrField.wr h
theorem Keeps.resetObjs (h : Keeps s t) {p} : Keeps s (t.resetObjs p) := h.frame
theorem Keeps.formPtn (h : Keeps s t) {p} : Keeps s (t.formPtn p).2 := by
  unfold State.formPtn
  split
  · exact h.drawn.ptnRefuse
  · extract_lets _ _ reset cleared _ _ counted _ _ retired
    have hreset : Keeps s reset := h.frame.emptyTiles.useSpares.resetObjs
    clear_value reset
    have hcounted : Keeps s counted := hreset.clearCounters.frame
    clear_value counted
    have hretired : Keeps s retired := hcounted.frame
    clear_value retired
    exact Keeps.setPtnState (Keeps.clr (Keeps.each hretired fun h _ => h.wr.wr.drawn))
theorem Keeps.sealPtn (h : Keeps s t) {p} : Keeps s (t.sealPtn p) :=
    (Keeps.ite (((Keeps.ite h.frame h).each fun h _ => h.recallRegion).each fun h _ => h.wr.wr.setSite).frame (((Keeps.ite h.frame h).each fun h _
    => h.recallRegion).each fun h _ => h.wr.wr.setSite)).wr.drawKey.drawKey.wr.setPtn.setPtnState
theorem Keeps.sealCmd (h : Keeps s t) {role p} : Keeps s (t.sealCmd role p).2 := Keeps.ite_snd h.wr (Keeps.ite_snd h.wr.ptnRefuse h.wr.sealPtn)
theorem Keeps.sealDone (h : Keeps s t) {p} : Keeps s (t.sealDone p) := Keeps.ite h (h.each fun h _ => h.takeFree).frame.mapAreas.wr.drawn.setPtn
theorem Keeps.openWindow (h : Keeps s t) {p i} : Keeps s (t.openWindow p i) := by
  unfold State.openWindow
  dsimp only
  split
  · exact h
  · split
    · exact h
    · exact Keeps.ite h (h.each fun h _ => h.setDir).frame.wr.wr
theorem Keeps.openWindows (h : Keeps s t) {p} : Keeps s (t.openWindows p) := (h.each fun h _ => Keeps.ite h.openWindow h).remeasureAll
theorem Keeps.closeWindow (h : Keeps s t) {p i} : Keeps s (t.closeWindow p i) := by
  unfold State.closeWindow
  dsimp only
  refine Keeps.cachesFlush (Keeps.wr ?_)
  split
  · exact h.frame.wr
  · exact h.frame
theorem Keeps.closeWindows (h : Keeps s t) {p} : Keeps s (t.closeWindows p) := (h.each fun h _ => Keeps.ite h.closeWindow h).remeasureAll
theorem Keeps.schedule (h : Keeps s t) {p} : Keeps s (t.schedule p) := by
  unfold State.schedule
  dsimp only
  split
  · exact h
  · split
    · exact Keeps.ite h.setPtn.raiseVector h
    · split
      · split
        · exact h.declare
        · exact h
      · exact h
theorem Keeps.ctxNextWrite (h : Keeps s t) {role p v'} : Keeps s (t.ctxNextWrite role p v').2 :=
    Keeps.ite_snd h.refuse (Keeps.ite_snd h.refuse (Keeps.ite_snd h.refuse h.wr.setPtn.declare))
theorem Keeps.schedMiss (h : Keeps s t) {p} : Keeps s (t.schedMiss p) := by
  unfold State.schedMiss
  dsimp only
  split
  · exact h
  · exact Keeps.ite h h.setPtn.ev
theorem Keeps.beginSwitch (h : Keeps s t) {p dst item} : Keeps s (t.beginSwitch p dst item) := h.expireWaiters.setPtn.wr
theorem Keeps.writeSpan (h : Keeps s t) {p ppa d} : Keeps s (t.writeSpan p ppa d) := h.each fun h _ => h.writePpa
theorem Keeps.saveTile (h : Keeps s t) {p c t'} : Keeps s (t.saveTile p c t') := h.writeSpan.setPtn
theorem Keeps.saveDone (h : Keeps s t) {p t'} : Keeps s (t.saveDone p t') := by
  unfold State.saveDone
  dsimp only
  split
  · exact h
  · split
    · exact h
    · refine Keeps.setPtn (Keeps.emptyTiles ?_)
      split
      · exact Keeps.ite h h.saveTile
      · exact h
theorem Keeps.restoreStrand (h : Keeps s t) {p c t' n b} : Keeps s (t.restoreStrand p c t' n b) :=
    Keeps.ite h (Keeps.ite h.setStrand.haltStrand h.setStrand.settleStrand)
theorem Keeps.restoreTile (h : Keeps s t) {p c t'} : Keeps s (t.restoreTile p c t') := by
  unfold State.restoreTile
  dsimp only
  split
  · exact h
  · exact Keeps.ite (h.frame.each fun h _ => h.restoreStrand) (h.frame.each fun h _ => h.restoreStrand).haltTile.ev
theorem Keeps.deliverPosts (h : Keeps s t) {p c} : Keeps s (t.deliverPosts p c) := by
  unfold State.deliverPosts
  dsimp only
  split
  · exact h.writePpa.each fun h _ => h.deliver
  · exact h
theorem Keeps.restoreDone (h : Keeps s t) {p t'} : Keeps s (t.restoreDone p t') := by
  unfold State.restoreDone
  dsimp only
  split
  · exact h
  · split
    · exact h
    · split
      · exact (Keeps.ite h.restoreTile h).setPtn
      · refine Keeps.deliverPosts (Keeps.bump ?_)
        split
        · exact (Keeps.ite h.restoreTile h).setPtn.wr.complete
        · exact (Keeps.ite h.restoreTile h).setPtn.wr
theorem Keeps.resetConns (h : Keeps s t) {p} : Keeps s (t.resetConns p) := by
  unfold State.resetConns
  dsimp only
  refine h.each fun h _ => ?_
  split
  · exact h.sendCtl.closeConn
  · exact h
theorem Keeps.cancelIntr (h : Keeps s t) {p ctx} : Keeps s (t.cancelIntr p ctx) := by
  unfold State.cancelIntr
  dsimp only
  split
  · exact h.wr.writePpa
  · exact h.frame.wr.writePpa
theorem Keeps.abortQueues (h : Keeps s t) {p ctx} : Keeps s (t.abortQueues p ctx) := h.each fun h _ => Keeps.ite (h.each fun h _ => h.abortDesc) h
theorem Keeps.disableQueues (h : Keeps s t) {p} : Keeps s (t.disableQueues p) := (h.each fun h _ => h.wr).wr
theorem Keeps.startPtnReset (h : Keeps s t) {p k chiplets} : Keeps s (t.startPtnReset p k chiplets) :=
    (Keeps.ite (Keeps.ite (((h.grantEnd.exportEndOf.frame.cancelMigs.collReset.resetConns.abortAll.abortQueues.endWaiters fun h _ =>
    h.syncAbort).cancelIntr.abortTxns.each fun h _ => h.recallRegion).frame.each fun h _ => h.startReset)
    ((h.grantEnd.exportEndOf.frame.cancelMigs.collReset.resetConns.abortAll.abortQueues.endWaiters fun h _ =>
    h.syncAbort).cancelIntr.abortTxns.each fun h _ => h.recallRegion).frame) (Keeps.ite
    (((h.grantEnd.exportEndOf.frame.cancelMigs.collReset.resetConns.abortAll.abortQueues.endWaiters fun h _ =>
    h.syncAbort).cancelIntr.abortTxns.each fun h _ => h.recallRegion).frame.each fun h _ => h.startReset)
    ((h.grantEnd.exportEndOf.frame.cancelMigs.collReset.resetConns.abortAll.abortQueues.endWaiters fun h _ =>
    h.syncAbort).cancelIntr.abortTxns.each fun h _ => h.recallRegion).frame).bumpWord).setPtn.wr.setPtnState
theorem Keeps.drainEnd (h : Keeps s t) {p} : Keeps s (t.drainEnd p) := by
  unfold State.drainEnd
  dsimp only
  split
  · exact h
  · exact Keeps.ite h (Keeps.setPtn (Keeps.frame (Keeps.cachesFlush (Keeps.emptyRows (Keeps.emptyTiles (Keeps.disableQueues
      (Keeps.ite h (h.each fun h _ => h.each fun h _ => h.completeDesc))))))))
theorem Keeps.contextReset (h : Keeps s t) {p c} : Keeps s (t.contextReset p c) := by
  unfold State.contextReset
  dsimp only
  refine Keeps.setPtn (Keeps.bumpWord ?_)
  split
  · exact Keeps.ite ((Keeps.ite h.grantEnd.abortAll h.grantEnd).abortQueues.endWaiters fun h _ => h.syncAbort).cancelIntr.collReset.emptyTiles
      ((Keeps.ite h.grantEnd.abortAll h.grantEnd).abortQueues.endWaiters fun h _ => h.syncAbort).cancelIntr.collReset
  · exact ((Keeps.ite h.grantEnd.abortAll h.grantEnd).abortQueues.endWaiters fun h _ => h.syncAbort).cancelIntr.collReset
theorem Keeps.resetCmd (h : Keeps s t) {p k chiplets} : Keeps s (t.resetCmd p k chiplets).2 := by
  unfold State.resetCmd
  dsimp only
  split
  · exact Keeps.ite_snd h.refuse (Keeps.ite h.setPtn.setPtnState h.setPtn)
  · exact h.startPtnReset
theorem Keeps.resetPtn (h : Keeps s t) {p k chiplets} : Keeps s (t.resetPtn p k chiplets) := Keeps.ite h h.resetCmd
theorem Keeps.scrubStart (h : Keeps s t) {p k} : Keeps s (t.scrubStart p k) := h.closeWindows.drawKey.zeroPads.wr.setPtnState
theorem Keeps.dropDir (h : Keeps s t) {p} : Keeps s (t.dropDir p) := h.frame
theorem Keeps.release (h : Keeps s t) {p} : Keeps s (t.release p) :=
    (((((h.each fun h _ => h.wr.wr.wr).each fun h _ => h.destroyKey).each fun h _ => h.clr).each fun h _ => h.clr).each fun h _ =>
    h.clr.clr).clr.clr.clr.frame
theorem Keeps.failTile (h : Keeps s t) {ptn t'} : Keeps s (t.failTile ptn t') := Keeps.ite h h.wr.ev
theorem Keeps.scrubDone (h : Keeps s t) {p fails} : Keeps s (t.scrubDone p fails) :=
    Keeps.ite h (Keeps.ite ((((h.each fun h _ => h.failTile).each fun h _ => h.zeroGranule).destroyKey.dropDir.cachesFlush.resetObjs.wr.each fun h
    _ => h.startReset).destroyKey.destroyKey.wr.frame.wr.drawKey.each fun h _ => h.poolGranule).mapAreas.setPtn ((((h.each fun h _ =>
    h.failTile).each fun h _ => h.zeroGranule).destroyKey.dropDir.cachesFlush.resetObjs.wr.each fun h _ => h.startReset).each fun h _ =>
    h.setHgt).release.setPtn)
theorem Keeps.freeSnoopIds (h : Keeps s t) {p} : Keeps s (t.freeSnoopIds p) := h.frame
theorem Keeps.ptnEdge (h : Keeps s t) {p} : Keeps s (t.ptnEdge p) := by
  unfold State.ptnEdge
  dsimp only
  split
  · split
    · split
      · refine Keeps.openWindows ?_
        split
        · split
          · exact h.emptyTiles.setPtn.setPtn.useSpares.frame.setPtnState.wr.wr.wr.each fun h _ => h.grantCredits
          · exact h.setPtn.useSpares.frame.setPtnState.wr.wr.wr.each fun h _ => h.grantCredits
        · split
          · exact h.frame.setPtnState.wr.wr.wr.each fun h _ => h.grantCredits
          · exact h.frame.setPtnState.wr.wr.wr.each fun h _ => h.grantCredits
      · refine Keeps.wr (Keeps.wr (Keeps.setPtnState ?_))
        split
        · split
          · exact h.emptyTiles.setPtn.setPtn.useSpares.frame
          · exact h.setPtn.useSpares.frame
        · split
          · exact h.frame
          · exact h.frame
    · refine Keeps.endSessions (Keeps.wr (Keeps.wr (Keeps.setPtnState (Keeps.freeSnoopIds (Keeps.setPtn ?_)))))
      split
      · exact h.emptyTiles.setPtn
      · exact h
  · split
    · exact Keeps.ite h.emptyTiles.setPtn (Keeps.ite h.frame.useSpares.setPtn.freeSnoopIds.setPtnState.wr.wr h.emptyTiles.setPtn.scrubStart)
    · exact Keeps.ite h (Keeps.ite h.frame.useSpares.setPtn.freeSnoopIds.setPtnState.wr.wr h.scrubStart)
  · split
    · exact h.emptyTiles.setPtn
    · exact h
theorem Keeps.globalReset (h : Keeps s t) {p g rop} : Keeps s (t.globalReset p g rop) :=
    Keeps.ite (h.each fun h _ => h.sendColl) (h.each fun h _ => h.sendColl).resetPtn
theorem Keeps.globalBegin (h : Keeps s t) {p g c} : Keeps s (t.globalBegin p g c) :=
    (Keeps.ite (h.each fun h _ => h.sendColl).collRecord (h.each fun h _ => h.sendColl)).resetPtn
theorem execCollGlobalReset_answers {p} : Answers s (execCollGlobalReset p s) := ((Keeps.refl s).collFetch fun h _ _ => h.globalBegin).answers
theorem execCollMsgReset_answers {c payload} : Answers s (execCollMsgReset c payload s) := by
  unfold execCollMsgReset
  dsimp only
  refine Keeps.answers (?_)
  split
  · exact Keeps.ite (Keeps.refl s) (Keeps.ite (Keeps.refl s).globalReset ((Keeps.refl s).raiseAbort.collEnd.each fun h _ => Keeps.ite h h.sendColl))
  · exact (Keeps.refl s)
theorem Keeps.cmdForm (h : Keeps s t) {role p low} : Keeps s (t.cmdForm role p low).2 := h.ptnCmd fun h => h.formPtn
theorem Keeps.cmdSeal (h : Keeps s t) {role p low} : Keeps s (t.cmdSeal role p low).2 := h.ptnCmd fun h => h.sealCmd
theorem Keeps.cmdContextReset (h : Keeps s t) {role p low} : Keeps s (t.cmdContextReset role p low).2 := h.ptnCmd fun h => h.contextReset
theorem Keeps.cmdWarmReset (h : Keeps s t) {role p low} : Keeps s (t.cmdWarmReset role p low).2 := h.ptnCmd fun h => h.resetCmd
theorem Keeps.cmdFullReset (h : Keeps s t) {role p low} : Keeps s (t.cmdFullReset role p low).2 := h.ptnCmd fun h => h.resetCmd
theorem Keeps.cmdDissolve (h : Keeps s t) {role p low} : Keeps s (t.cmdDissolve role p low).2 := h.ptnCmd fun h => h.resetCmd
theorem execPtnCmdForm_answers {role p low} : Answers s (execPtnCmdForm role p low s) := (Keeps.refl s).cmdForm.answered.answers
theorem execPtnCmdSeal_answers {role p low} : Answers s (execPtnCmdSeal role p low s) := (Keeps.refl s).cmdSeal.answered.answers
theorem execSealWriteDone_answers {p} : Answers s (execSealWriteDone p s) := (Keeps.refl s).sealDone.answers
theorem execPtnCmdContextReset_answers {role p low} : Answers s (execPtnCmdContextReset role p low s) :=
    (Keeps.refl s).cmdContextReset.answered.answers
theorem execPtnCmdWarmReset_answers {role p low} : Answers s (execPtnCmdWarmReset role p low s) := (Keeps.refl s).cmdWarmReset.answered.answers
theorem execPtnCmdFullReset_answers {role p low} : Answers s (execPtnCmdFullReset role p low s) := (Keeps.refl s).cmdFullReset.answered.answers
theorem execPtnCmdDissolve_answers {role p low} : Answers s (execPtnCmdDissolve role p low s) := (Keeps.refl s).cmdDissolve.answered.answers
theorem execResetDrainEnd_answers {p} : Answers s (execResetDrainEnd p s) := (Keeps.refl s).drainEnd.answers
theorem execBadgerScrubDone_answers {p fails} : Answers s (execBadgerScrubDone p fails s) := (Keeps.refl s).scrubDone.answers
theorem execTileSaveDone_answers {p t'} : Answers s (execTileSaveDone p t' s) := (Keeps.refl s).saveDone.answers
theorem execTileRestoreDone_answers {p t'} : Answers s (execTileRestoreDone p t' s) := (Keeps.refl s).restoreDone.answers
theorem execPtnCtxNextWrite_answers {role p v'} : Answers s (execPtnCtxNextWrite role p v' s) := (Keeps.refl s).ctxNextWrite.answered.answers
theorem execPtnSchedMiss_answers {p} : Answers s (execPtnSchedMiss p s) := (Keeps.refl s).schedMiss.answers

/-! ## Machine/Security -/

theorem Keeps.deliverKey (h : Keeps s t) {role p blob key} : Keeps s (t.deliverKey role p blob key).2 :=
    Keeps.ite_snd h.refuse (Keeps.ite_snd h.refuse (Keeps.ite h.setKey.remeasure h).wr)
theorem Keeps.retireFabric (h : Keeps s t) {p} : Keeps s (t.retireFabric p) := by
  unfold State.retireFabric
  dsimp only
  split
  · exact Keeps.ite h.destroyKey.remeasure h
  · exact h
theorem Keeps.importResult (h : Keeps s t) {p st written fail} : Keeps s (t.importResult p st written fail) := h.wr
theorem Keeps.importWrite (h : Keeps s t) {role p v'} : Keeps s (t.importWrite role p v').2 := by
  unfold State.importWrite
  dsimp only
  split
  · exact h.refuse
  · split
    · exact h.refuse
    · split
      · exact h.refuse
      · split
        · exact h.refuse
        · split
          · exact h.wr.importResult
          · exact h.wr.frame
/-- The equation of `State.importChunk` is split as a hypothesis on the value: the goal's own `match` on a granule's read is not for the kernel to
    compute. -/
theorem Keeps.importChunk (h : Keeps s t) {p i n} : Keeps s (t.importChunk p i n).2 := by
  generalize hf : State.importChunk = f
  delta State.importChunk at hf
  have hrun := congrFun (congrFun (congrFun (congrFun hf t) p) i) n
  split at hrun
  · rw [← hrun]
    exact Keeps.ite_snd h (Keeps.ite_snd h (Keeps.ite_snd h (Keeps.ite_snd h h.hubWrite)))
  all_goals
    rw [← hrun]
    exact h
/-- `ImportRun.next` with the import of one chunk as a parameter, for the kernel not to compute that of a chunk. -/
def ImportRun.nextBy (chunk : State → Nat → Import → Nat → Nat × State) (p : Nat) (i : Import) (r : ImportRun) (n : Nat) : ImportRun :=
  let c := chunk r.st p i n
  { status := if r.status = impOk then c.1 else r.status
    fail := if r.status = impOk ∧ c.1 ≠ impOk then n else r.fail
    written := if c.1 = impOk then r.written + 1 else r.written
    st := c.2 }
theorem ImportRun.next_eq : ImportRun.next = ImportRun.nextBy State.importChunk := rfl
theorem Keeps.foldl_nextBy {chunk : State → Nat → Import → Nat → Nat × State} {p i} (hc : ∀ t n, Keeps s t → Keeps s (chunk t p i n).2)
    (l : List Nat) {r : ImportRun} (h : Keeps s r.st) : Keeps s (l.foldl (ImportRun.nextBy chunk p i) r).st := by
  induction l generalizing r with
  | nil => exact h
  | cons n l ih => exact ih (hc _ _ h)
theorem Keeps.importRuns {p i} (l : List Nat) {r : ImportRun} (h : Keeps s r.st) : Keeps s (l.foldl (ImportRun.next p i) r).st := by
  rw [ImportRun.next_eq]
  exact Keeps.foldl_nextBy (chunk := State.importChunk) (fun _ _ h => h.importChunk) l h
theorem Keeps.importDone (h : Keeps s t) {p n} : Keeps s (t.importDone p n) := by
  unfold State.importDone
  split
  · exact h
  · exact Keeps.importResult (Keeps.importRuns _ (r := { status := impOk, fail := 0, written := 0, st := t }) h).frame
theorem Keeps.rotateWrite (h : Keeps s t) {role p v'} : Keeps s (t.rotateWrite role p v').2 :=
    Keeps.ite_snd h.refuse (Keeps.ite_snd h.refuse (Keeps.ite_snd h.wr.frame h.refuse))
theorem Keeps.rotateEdge (h : Keeps s t) {p} : Keeps s (t.rotateEdge p) :=
    Keeps.ite (Keeps.ite h h.frame.drawKey.wr.wr.remeasure) (Keeps.ite h.frame.wr.remeasure (Keeps.ite (Keeps.ite h.frame.wr.remeasure
    h).destroyKey.wr.remeasure (Keeps.ite h.frame.wr.remeasure h)))
theorem Keeps.spdm (h : Keeps s t) {ep r} : Keeps s (t.spdm ep r) := by
  unfold State.spdm
  dsimp only
  split
  · exact h
  · split
    · exact h.emit
    · exact h.emit
    · exact h.emit
    · exact h.emit
    · exact Keeps.ite h.emit h.emit
    · exact h.emit
    · split
      · exact h.emit
      · split
        · exact h.emit
        · split
          · exact h.emit
          · exact h.emit
    · exact h.emit
theorem Keeps.grantWrite (h : Keeps s t) {role p b sigOk} : Keeps s (t.grantWrite role p b sigOk).2 :=
    Keeps.ite_snd h.refuse (Keeps.ite_snd h.refuse (Keeps.ite_snd h.wr.drawn.frame h.wr.drawn))
theorem Keeps.debugStateWrite (h : Keeps s t) {role p v'} : Keeps s (t.debugStateWrite role p v').2 :=
    Keeps.ite_snd h.refuse (Keeps.ite_snd h.refuse (Keeps.ite_snd h.refuse h.grantEnd))
theorem Keeps.debugTile (h : Keeps s t) {p n} : Keeps s (t.debugTile p n) := h.wrField.drawn
theorem Keeps.debugRead (h : Keeps s t) {p ppa n} : Keeps s (t.debugRead p ppa n) := h.each fun h _ => h.hubPart
theorem Keeps.debugCmd (h : Keeps s t) {role p v'} : Keeps s (t.debugCmd role p v').2 := by
  unfold State.debugCmd
  dsimp only
  split
  · exact h.refuse
  · split
    · exact h.refuse
    · split
      · exact h.refuse
      · split
        · exact h.refuse
        · exact Keeps.ite_snd h.refuse (Keeps.ite_snd h.refuse (Keeps.ite h.wr.record.debugTile (Keeps.ite h.wr.record.hubWrite
            h.wr.record.debugRead)).sqlSettle)
theorem Keeps.selftestFail (h : Keeps s t) : Keeps s (t.selftestFail) := h.wr.zeroise.ev
theorem Keeps.zeroiseWrite (h : Keeps s t) {role v'} : Keeps s (t.zeroiseWrite role v').2 :=
    Keeps.ite_snd h.refuse (Keeps.ite_snd h.refuse (Keeps.ite_snd h.refuse h.zeroise))
theorem Keeps.selftestWrite (h : Keeps s t) {role v' pass} : Keeps s (t.selftestWrite role v' pass).2 :=
    Keeps.ite_snd h.refuse (Keeps.ite_snd h.refuse (Keeps.ite_snd h.refuse (Keeps.ite_snd h.refuse (Keeps.ite h h.selftestFail))))
theorem execSecKeyDeliver_answers {role p blob key} : Answers s (execSecKeyDeliver role p blob key s) := (Keeps.refl s).deliverKey.answered.answers
theorem execSecImport_answers {role p v'} : Answers s (execSecImport role p v' s) := (Keeps.refl s).importWrite.answered.answers
theorem execImportDone_answers {p n} : Answers s (execImportDone p n s) := (Keeps.refl s).importDone.answers
theorem execSecRotate_answers {role p v'} : Answers s (execSecRotate role p v' s) := (Keeps.refl s).rotateWrite.answered.answers
theorem execFabricKeyRetire_answers {p} : Answers s (execFabricKeyRetire p s) := (Keeps.refl s).retireFabric.answers
theorem execSpdmRequest_answers {ep req} : Answers s (execSpdmRequest ep req s) := (Keeps.refl s).spdm.answers
theorem execSecDebugGrant_answers {role p body sigOk} : Answers s (execSecDebugGrant role p body sigOk s) :=
    (Keeps.refl s).grantWrite.answered.answers
theorem execDebugGrantExpiry_answers {p} : Answers s (execDebugGrantExpiry p s) := (Keeps.ite (Keeps.refl s).grantEnd (Keeps.refl s)).answers
theorem execSecDebugStateWrite_answers {role p v'} : Answers s (execSecDebugStateWrite role p v' s) := (Keeps.refl s).debugStateWrite.answered.answers
theorem execSecDebugCmd_answers {role p v'} : Answers s (execSecDebugCmd role p v' s) := (Keeps.refl s).debugCmd.answered.answers
theorem execSecZeroise_answers {role v'} : Answers s (execSecZeroise role v' s) := (Keeps.refl s).zeroiseWrite.answered.answers
theorem execSeSensorTrip_answers : Answers s (execSeSensorTrip s) := (Keeps.refl s).zeroise.answers
theorem execSecSelftest_answers {role v' pass} : Answers s (execSecSelftest role v' pass s) := (Keeps.refl s).selftestWrite.answered.answers
theorem execSecKatPeriodExpiry_answers {pass} : Answers s (execSecKatPeriodExpiry pass s) :=
    (Keeps.ite (Keeps.refl s) (Keeps.refl s).selftestFail).answers

/-! ## Machine/LifeCycle -/

theorem Keeps.lcStatus (h : Keeps s t) {st reason} : Keeps s (t.lcStatus st reason) := h.wr
theorem Keeps.newNonce (h : Keeps s t) : Keeps s (t.newNonce) := h.wr.drawn
theorem Keeps.lcRecord (h : Keeps s t) {r} : Keeps s (t.lcRecord r) := h.record.sqlSettle
theorem Keeps.lcFail (h : Keeps s t) {r reason} : Keeps s (t.lcFail r reason) := h.lcStatus.lcRecord
theorem Keeps.setOtp (h : Keeps s t) {o} : Keeps s (t.setOtp o) := h.frame
theorem Keeps.showMarks (h : Keeps s t) : Keeps s (t.showMarks) := h.wr
theorem Keeps.enrol (h : Keeps s t) {ok} (e : t.enrol ok = some u) : Keeps s u := by
  unfold State.enrol at e
  dsimp only at e
  repeat' split at e
  all_goals cases e
  all_goals first | exact h.setOtp.drawn | exact h
theorem Keeps.burnTransition (h : Keeps s t) {r b} : Keeps s (t.burnTransition r b) := by
  unfold State.burnTransition
  extract_lets _ begun enrolled
  have hbegun : Keeps s begun := h.frame
  have henrolled : ∀ u, enrolled = some u → Keeps s u := by
    intro u e
    simp only [enrolled] at e
    split at e
    · exact Keeps.enrol hbegun e
    · cases e
      exact hbegun
  clear_value enrolled begun
  split
  · exact hbegun.lcFail
  · rename_i u
    have hu := henrolled u rfl
    extract_lets _ owned
    have howned : Keeps s owned := Keeps.ite hu.setOtp hu
    clear_value owned
    split
    · exact howned.lcFail
    · rename_i _ _ burning _ _ _ _
      have hburning : Keeps s burning := howned.frame.lcStatus
      clear_value burning
      split
      · exact hburning
      · split
        · exact hburning.setOtp.showMarks.frame.wr.lcStatus.lcRecord
        · exact hburning.setOtp.showMarks.lcFail
theorem Keeps.transition (h : Keeps s t) {r b} : Keeps s (t.transition r b) :=
    Keeps.ite h.newNonce.lcFail (Keeps.ite (h.newNonce.lcStatus.lcStatus.each fun h _ => h.resetPtn).frame (Keeps.ite
    h.newNonce.lcStatus.lcStatus.zeroise.burnTransition h.newNonce.lcStatus.burnTransition))
theorem Keeps.transitionWrite (h : Keeps s t) {role r b} : Keeps s (t.transitionWrite role r b).2 :=
    Keeps.ite_snd h.refuse (Keeps.ite_snd h.refuse (Keeps.ite_snd h.refuse (Keeps.ite_snd h.refuse h.transition)))
theorem Keeps.eraseMemory (h : Keeps s t) : Keeps s t.eraseMemory := h.of_mem _ _ fun _ => wf_nil
theorem Keeps.eraseDone (h : Keeps s t) {verified b} : Keeps s (t.eraseDone verified b) := by
  unfold State.eraseDone
  dsimp only
  split
  · exact h
  · exact Keeps.ite h.frame.lcFail h.eraseMemory.zeroise.burnTransition
theorem Keeps.token (h : Keeps s t) {r} : Keeps s (t.token r).2 := Keeps.ite_snd h.newNonce.lcStatus h.newNonce.frame.wr
theorem Keeps.tokenWrite (h : Keeps s t) {role r} : Keeps s (t.tokenWrite role r).2 :=
    Keeps.ite_snd h.refuse (Keeps.ite_snd h.refuse (Keeps.ite_snd h.refuse (Keeps.ite_snd h.refuse h.token)))
theorem Keeps.svnCommit (h : Keeps s t) {role v'} : Keeps s (t.svnCommit role v').2 := by
  unfold State.svnCommit
  refine Keeps.ite_snd h.refuse (Keeps.ite_snd h.refuse (Keeps.ite_snd h.refuse (Keeps.ite_snd h.refuse ?_)))
  dsimp only
  exact h.setOtp.wr.wr.remeasureAll
theorem Keeps.bscanWrite (h : Keeps s t) {role v'} : Keeps s (t.bscanWrite role v').2 :=
    Keeps.ite_snd h.refuse (Keeps.ite_snd h.refuse (Keeps.ite_snd h.refuse h.wr))
theorem records_tapSelect {i k} (hk : ∀ u, Keeps u (k u)) : Records s (s.tapSelect i k) := by
  unfold State.tapSelect
  dsimp only
  split
  · exact (records_tap s _).trans (hk _).toRecords
  · exact records_tap s _
theorem Keeps.scanEntry (h : Keeps s t) : Keeps s (t.scanEntry) := Keeps.ite h.frame.zeroise.wr h
theorem Keeps.stackOut (h : Keeps s t) {h'} : Keeps s (t.stackOut h') := (Keeps.ite h.wr.cancelMigs.wr h.wr).poisonAll
theorem execLcsTransition_answers {role r burn} : Answers s (execLcsTransition role r burn s) := (Keeps.refl s).transitionWrite.answered.answers
theorem execLcsEraseDone_answers {verified burn} : Answers s (execLcsEraseDone verified burn s) := (Keeps.refl s).eraseDone.answers
theorem execLcsToken_answers {role r} : Answers s (execLcsToken role r s) := (Keeps.refl s).tokenWrite.answered.answers
theorem execLcsSvnCommit_answers {role v'} : Answers s (execLcsSvnCommit role v' s) := (Keeps.refl s).svnCommit.answered.answers
theorem execLcsBscanEnWrite_answers {role v'} : Answers s (execLcsBscanEnWrite role v' s) := (Keeps.refl s).bscanWrite.answered.answers
theorem execTapBypass_answers : Answers s (execTapBypass s) := (records_tapSelect Keeps.refl).answers
theorem execTapIdcode_answers : Answers s (execTapIdcode s) := (records_tapSelect fun u => (Keeps.refl u).emit).answers
theorem execTapSamplePreload_answers : Answers s (execTapSamplePreload s) := (records_tapSelect Keeps.refl).answers
theorem execTapExtest_answers : Answers s (execTapExtest s) := (records_tapSelect fun u => Keeps.ite (Keeps.refl u).zeroise (Keeps.refl u)).answers
theorem execTapIeee1500_answers {reg} : Answers s (execTapIeee1500 reg s) := (records_tapSelect fun u => (Keeps.refl u).setTemp.stackOut.tapStack).answers
theorem execTapLcToken_answers {r burn} : Answers s (execTapLcToken r burn s) :=
    (records_tapSelect fun u => Keeps.ite (Keeps.refl u) (Keeps.ite (Keeps.refl u).transition (Keeps.refl u).token)).answers
theorem execTapLcStatus_answers : Answers s (execTapLcStatus s) := (records_tapSelect fun u => (Keeps.refl u).emit).answers
theorem execTapIntscan_answers : Answers s (execTapIntscan s) := (records_tapSelect fun u => (Keeps.refl u).scanEntry).answers
theorem execTapMbistAcc_answers : Answers s (execTapMbistAcc s) := (records_tapSelect fun u => (Keeps.refl u).scanEntry).answers
theorem execTapReset_answers : Answers s (execTapReset s) := (records_tap s _).answers

/-! ## Machine/Power -/

theorem execPwrThermtrip_answers : Answers s (execPwrThermtrip s) := (Keeps.refl s).frame.ev.answers
theorem Keeps.readSensor (h : Keeps s t) {i r} : Keeps s (t.readSensor i r) := by
  unfold State.readSensor
  dsimp only
  split
  · exact h.frame.wrField
  · exact Keeps.ite h.frame (Keeps.ite h.frame.wrField.ev h.frame.wrField)
theorem Keeps.readSensors (h : Keeps s t) {rs} : Keeps s (t.readSensors rs) := (h.each fun h _ => h.readSensor).wr
theorem Keeps.protect (h : Keeps s t) : Keeps s (t.protect) := Keeps.ite (Keeps.ite (h.frame.each fun h _ => h.wr).wr.ev (h.frame.each fun h _ =>
    h.wr).wr).ev (Keeps.ite (h.frame.each fun h _ => h.wr).wr.ev (h.frame.each fun h _ => h.wr).wr)
theorem Keeps.askHost (h : Keeps s t) : Keeps s (t.askHost) := Keeps.ite h.frame.wr h.frame
theorem Keeps.pwrThermDecide (h : Keeps s t) {role v'} : Keeps s (t.pwrThermDecide role v').2 :=
    Keeps.ite_snd h.refuse (Keeps.ite_snd h.refuse h.frame.wr)
theorem execPwrThermDecide_answers {role v'} : Answers s (execPwrThermDecide role v' s) := (Keeps.refl s).pwrThermDecide.answered.answers
theorem Keeps.setSitePwr (h : Keeps s t) {k x} : Keeps s (t.setSitePwr k x) := h.frame
theorem Keeps.pwrSend (h : Keeps s t) {k kind watts} : Keeps s (t.pwrSend k kind watts) := h.sbxRequest
theorem Keeps.revokeSite (h : Keeps s t) {k} : Keeps s (t.revokeSite k) := Keeps.ite h h.setSitePwr.wr.pwrSend
theorem Keeps.closeBooks (h : Keeps s t) {k} : Keeps s (t.closeBooks k) := Keeps.ite h.setSitePwr.wr (Keeps.ite h h.setSitePwr.wr)
theorem Keeps.allocate (h : Keeps s t) : Keeps s (t.allocate) := by
  unfold State.allocate
  extract_lets s1 used1 apart1 avail1 cs1 out1 s2 s3
  have hs1 : Keeps s s1 := h.each fun h _ => h.closeBooks
  have hs2 : Keeps s s2 := hs1.each fun h _ => h.setSitePwr
  have hs3 : Keeps s s3 := Keeps.ite hs2.ev hs2
  exact Keeps.ite (hs3.each fun h _ => h.revokeSite) hs3
theorem Keeps.offers (h : Keeps s t) {lowered} : Keeps s (t.offers lowered) :=
    h.each fun h _ => Keeps.ite h.setSitePwr.revokeSite h.setSitePwr.setSitePwr.wr.pwrSend
theorem Keeps.pwrReported (h : Keeps s t) {k payload} : Keeps s (t.pwrReported k payload) :=
    Keeps.ite h (Keeps.ite h.wr.setSitePwr.ev h.wr.setSitePwr)
theorem execSbxPwrReport_answers {k txn payload} : Answers s (execSbxPwrReport k txn payload s) :=
    (Keeps.ite (Keeps.refl s).sbxAnswer (Keeps.refl s).sbxAnswer.pwrReported).answers
theorem execSbxPwrRevokeAck_answers {k txn payload} : Answers s (execSbxPwrRevokeAck k txn payload s) :=
    (Keeps.ite (Keeps.refl s).sbxAnswer (Keeps.ite (Keeps.refl s).sbxAnswer.setSitePwr (Keeps.refl s).sbxAnswer)).answers
theorem execPwrRevokeTimeout_answers {k} : Answers s (execPwrRevokeTimeout k s) := (Keeps.ite (Keeps.refl s).setSitePwr.ev (Keeps.refl s)).answers

/-! ## Machine/Recorder -/

theorem execFaultEvent_answers {code ptn detail sev} : Answers s (execFaultEvent code ptn detail sev s) := (Keeps.refl s).report.answers
theorem execOwlCountWindowExpiry_answers {code} : Answers s (execOwlCountWindowExpiry code s) := (Keeps.refl s).frame.answers
theorem Keeps.owlAck (h : Keeps s t) {role p v'} : Keeps s (t.owlAck role p v').2 :=
    Keeps.ite_snd h.refuse (Keeps.ite_snd h.refuse (Keeps.ite_snd h.wr.clearLatch h.refuse))
theorem Keeps.owlHubAck (h : Keeps s t) {role v'} : Keeps s (t.owlHubAck role v').2 := Keeps.ite_snd h.refuse (Keeps.ite_snd h.wr.clearLatch h.refuse)
theorem execOwlAck_answers {role p v'} : Answers s (execOwlAck role p v' s) := (Keeps.refl s).owlAck.answered.answers
theorem execOwlHubAck_answers {role v'} : Answers s (execOwlHubAck role v' s) := (Keeps.refl s).owlHubAck.answered.answers
theorem Keeps.sqlFlush (h : Keeps s t) {role v'} : Keeps s (t.sqlFlush role v').2 := Keeps.ite_snd h.refuse (Keeps.ite_snd h.refuse h.startFlush)
theorem execSqlFlush_answers {role v'} : Answers s (execSqlFlush role v' s) := (Keeps.refl s).sqlFlush.answered.answers
theorem execSqlFlushDone_answers {failed} : Answers s (execSqlFlushDone failed s) := by
  unfold execSqlFlushDone
  dsimp only
  refine Keeps.answers (?_)
  split
  · split
    · exact (Keeps.refl s).endFlush.sqlSettle
    · exact (Keeps.refl s).writeOut.frame.wr.wr.ev
  · exact (Keeps.refl s)
theorem execSqlFlushDeadlineExpiry_answers : Answers s (execSqlFlushDeadlineExpiry s) := (Keeps.ite (Keeps.refl s).ev (Keeps.refl s)).answers
theorem execSqlTokenRefill_answers {code} : Answers s (execSqlTokenRefill code s) := (Keeps.ite (Keeps.refl s).setBucket (Keeps.refl s)).answers
theorem Keeps.storeCmd (h : Keeps s t) {c ok} : Keeps s (t.storeCmd c ok).2 := Keeps.ite_snd h.refuse (Keeps.ite_snd h.refuse h.frame)
theorem execSqlStoreEraseCirc_answers {role} : Answers s (execSqlStoreEraseCirc role s) := (Keeps.refl s).storeCmd.answered.answers
theorem execSqlStoreEraseFirst_answers {role} : Answers s (execSqlStoreEraseFirst role s) := (Keeps.refl s).storeCmd.answered.answers
theorem execSqlStoreFormat_answers {role} : Answers s (execSqlStoreFormat role s) := (Keeps.refl s).storeCmd.answered.answers
theorem Keeps.finishStore (h : Keeps s t) {c} : Keeps s (t.finishStore c) := by
  unfold State.finishStore
  dsimp only
  split
  · exact h.frame.storeRecord.bump.drawn
  · exact h.frame
  · exact h.frame.wr
theorem execSqlStoreCmdDone_answers : Answers s (execSqlStoreCmdDone s) := by
  unfold execSqlStoreCmdDone
  dsimp only
  refine Keeps.answers (?_)
  split
  · exact Keeps.ite (Keeps.refl s) (Keeps.refl s).finishStore.frame
  · exact (Keeps.refl s)

/-! ## Machine/Slot -/

theorem Keeps.setSlot (h : Keeps s t) {st} : Keeps s (t.setSlot st) := h.wrField
theorem Keeps.setSlotBit (h : Keeps s t) {i on} : Keeps s (t.setSlotBit i on) := h.wrField
theorem Keeps.attnInd (h : Keeps s t) {v'} : Keeps s (t.attnInd v') := h.wrField
theorem Keeps.pwrInd (h : Keeps s t) {v'} : Keeps s (t.pwrInd v') := h.wrField
theorem Keeps.slotPower (h : Keeps s t) {en1 en2} : Keeps s (t.slotPower en1 en2) := h.frame
theorem Keeps.hostDrop (h : Keeps s t) {mine} : Keeps s (t.hostDrop mine) := h.frame
theorem Keeps.boxDrop (h : Keeps s t) {fn} : Keeps s (t.boxDrop fn) := h.frame
theorem Keeps.fnReset (h : Keeps s t) {fn} : Keeps s (t.fnReset fn) := h.frame
theorem Keeps.vfFlr (h : Keeps s t) {p} : Keeps s (t.vfFlr p) := h.frame
theorem Keeps.pfFlr (h : Keeps s t) : Keeps s (t.pfFlr) := h.exportEnd.frame
theorem Keeps.allFlr (h : Keeps s t) : Keeps s (t.allFlr) := (h.each fun h _ => h.vfFlr).pfFlr
theorem Keeps.linkDown (h : Keeps s t) : Keeps s (t.linkDown) := (h.exportEnd.hostDrop.each fun h _ => h.boxDrop).bump.frame.wr
theorem Keeps.surpriseLoss (h : Keeps s t) : Keeps s (t.surpriseLoss) :=
    Keeps.ite h (Keeps.ite h.linkDown.bump.ev.frame.setSlot h.linkDown.bump.ev.frame)
theorem Keeps.linkLost (h : Keeps s t) : Keeps s (t.linkLost) := Keeps.ite (Keeps.ite h h.linkDown.bump.slotPower.pwrInd.setSlot.frame) h.surpriseLoss
theorem Keeps.linkIsUp (h : Keeps s t) {rate width} : Keeps s (t.linkIsUp rate width) := Keeps.ite h (Keeps.ite h.wr.wr.pwrInd h.wr.wr)
theorem Keeps.perstAssert (h : Keeps s t) : Keeps s (t.perstAssert) := h.linkLost.allFlr.frame.wr
theorem Keeps.perstDeassert (h : Keeps s t) : Keeps s (t.perstDeassert) := Keeps.ite h.frame.wr h.frame
theorem Keeps.prsntAssert (h : Keeps s t) : Keeps s (t.prsntAssert) :=
    Keeps.ite h (Keeps.ite h.setSlotBit.attnInd.setSlot.pwrInd.slotPower h.setSlotBit.attnInd)
theorem Keeps.pg1Assert (h : Keeps s t) : Keeps s (t.pg1Assert) := Keeps.ite h (Keeps.ite h.setSlotBit.slotPower h.setSlotBit)
theorem Keeps.pg2Assert (h : Keeps s t) : Keeps s (t.pg2Assert) := Keeps.ite h (Keeps.ite h.setSlotBit.setSlot h.setSlotBit)
theorem Keeps.pgTimeout (h : Keeps s t) : Keeps s (t.pgTimeout) := Keeps.ite h.slotPower.setSlot.attnInd.ev h
theorem Keeps.removeEnds (h : Keeps s t) : Keeps s (t.removeEnds) := h.frame.setSlot.pwrInd
theorem Keeps.attnPress (h : Keeps s t) : Keeps s (t.attnPress) :=
    Keeps.ite h (Keeps.ite h.setSlotBit.frame.setSlot.pwrInd.msix (Keeps.ite h.setSlotBit.removeEnds h.setSlotBit))
theorem Keeps.removeCancel (h : Keeps s t) : Keeps s (t.removeCancel) := Keeps.ite h.removeEnds h
theorem Keeps.removeGo (h : Keeps s t) : Keeps s (t.removeGo) := Keeps.ite h.exportEnd h
theorem Keeps.removeAck (h : Keeps s t) : Keeps s (t.removeAck) := Keeps.ite h.frame.removeGo h
theorem Keeps.removeWaitEnd (h : Keeps s t) : Keeps s (t.removeWaitEnd) := Keeps.ite h.frame.removeGo h
theorem Keeps.removeMiss (h : Keeps s t) : Keeps s (t.removeMiss) := Keeps.ite h.removeEnds.attnInd.ev h
theorem Keeps.prsntDeassert (h : Keeps s t) : Keeps s (t.prsntDeassert) :=
    Keeps.ite h (Keeps.ite h.setSlotBit.setSlot (Keeps.ite h.setSlotBit.linkLost h.setSlotBit.surpriseLoss.slotPower.pwrInd.attnInd.setSlot))
theorem Keeps.slotWrite (h : Keeps s t) {v'} : Keeps s (t.slotWrite v') :=
    Keeps.ite (Keeps.ite (Keeps.ite h.setSlotBit h).attnInd.removeAck (Keeps.ite h.setSlotBit h).attnInd).removeCancel (Keeps.ite (Keeps.ite
    h.setSlotBit h).attnInd.removeAck (Keeps.ite h.setSlotBit h).attnInd)
theorem Keeps.debounced (h : Keeps s t) {pin level} : Keeps s (t.debounced pin level) := by
  unfold State.debounced
  split
  · exact h.prsntAssert
  · exact h.prsntDeassert
  · exact h.attnPress
  · exact h
  · exact h.pg1Assert
  · exact h.pg2Assert
  · exact Keeps.ite h.setSlotBit h
  · exact Keeps.ite h.setSlotBit h
theorem execPcieLinkUp_answers {rate width} : Answers s (execPcieLinkUp rate width s) := (Keeps.refl s).linkIsUp.answers
theorem execHostLinkDown_answers : Answers s (execHostLinkDown s) := (Keeps.refl s).linkLost.answers
theorem execSurpriseLoss_answers : Answers s (execSurpriseLoss s) := (Keeps.refl s).surpriseLoss.answers
theorem execHostPerst_answers : Answers s (execHostPerst s) := (Keeps.refl s).perstAssert.answers
theorem execHostPerstDeassert_answers : Answers s (execHostPerstDeassert s) := (Keeps.refl s).perstDeassert.answers
theorem execPmeTurnOff_answers : Answers s (execPmeTurnOff s) := (Keeps.ite (Keeps.refl s).frame.emit (Keeps.refl s)).answers
theorem execVfFlr_answers {p} : Answers s (execVfFlr p s) := (Keeps.refl s).vfFlr.answers
theorem execPfFlr_answers : Answers s (execPfFlr s) := (Keeps.refl s).pfFlr.answers
theorem execDebounceExpiry_answers {pin level} : Answers s (execDebounceExpiry pin level s) := (Keeps.refl s).debounced.answers
theorem execHostPrsntAssert_answers : Answers s (execHostPrsntAssert s) := (Keeps.refl s).prsntAssert.answers
theorem execHostPg1Assert_answers : Answers s (execHostPg1Assert s) := (Keeps.refl s).pg1Assert.answers
theorem execHostPg2Assert_answers : Answers s (execHostPg2Assert s) := (Keeps.refl s).pg2Assert.answers
theorem execHostPgTimeout_answers : Answers s (execHostPgTimeout s) := (Keeps.refl s).pgTimeout.answers
theorem execHostAttnPress_answers : Answers s (execHostAttnPress s) := (Keeps.refl s).attnPress.answers
theorem execHostRemoveAck_answers : Answers s (execHostRemoveAck s) := (Keeps.refl s).removeAck.answers
theorem execHostRemoveCancel_answers : Answers s (execHostRemoveCancel s) := (Keeps.refl s).removeCancel.answers
theorem execHostRemoveWaitEnd_answers : Answers s (execHostRemoveWaitEnd s) := (Keeps.refl s).removeWaitEnd.answers
theorem execHepRemoveDeadlineExpiry_answers : Answers s (execHepRemoveDeadlineExpiry s) := (Keeps.refl s).removeMiss.answers
theorem execHostPrsntDeassert_answers : Answers s (execHostPrsntDeassert s) := (Keeps.refl s).prsntDeassert.answers

/-! ## Machine/SelfTest -/

theorem Keeps.tileRunWrite (h : Keeps s t) {role v'} : Keeps s (t.tileRunWrite role v').2 :=
    Keeps.ite_snd h.refuse (Keeps.ite_snd h.refuse (Keeps.ite_snd h.refuse h.frame.wr.wr))
theorem Keeps.freshTiles (h : Keeps s t) {ts} : Keeps s (t.freshTiles ts) := h.frame
theorem Keeps.tileRunDone (h : Keeps s t) {fails} : Keeps s (t.tileRunDone fails) := Keeps.ite h (h.each fun h _ => h.failTile).frame.wr.wr
theorem Keeps.trainStack (h : Keeps s t) {h' f} : Keeps s (t.trainStack h' f) := Keeps.ite (Keeps.ite h.wr h).wr.wr.wr (Keeps.ite h.wr h).wr.wr.wr
theorem Keeps.wipeStack (h : Keeps s t) {h'} : Keeps s (t.wipeStack h') := h.of_mem _ _ (wf_wipeStack t h')
theorem Keeps.holdTraining (h : Keeps s t) {k} : Keeps s (t.holdTraining k) := Keeps.ite h h.setSite.wr
theorem Keeps.icGo (h : Keeps s t) {role v'} : Keeps s (t.icGo role v').2 :=
    Keeps.ite_snd h.refuse (Keeps.ite_snd h.refuse (Keeps.ite_snd h.refuse (Keeps.ite_snd h.refuse (Keeps.ite_snd h.refuse (Keeps.ite h.stackOut
    h.holdTraining).frame.wr.emit))))
theorem Keeps.trainAgain (h : Keeps s t) {k rate down} : Keeps s (t.trainAgain k rate down) :=
    Keeps.ite h (Keeps.ite h.train (Keeps.ite h.train.wr h.train.wr.settleLink))
theorem Keeps.icDone (h : Keeps s t) {result errors rate down found} : Keeps s (t.icDone result errors rate down found) := by
  unfold State.icDone
  dsimp only
  split
  · exact h
  · exact Keeps.ite h.frame.wr.wr.wr.wipeStack.trainStack h.frame.wr.wr.wr.trainAgain
theorem Keeps.uciBurn (h : Keeps s t) {role v' bits} : Keeps s (t.uciBurn role v' bits).2 :=
    Keeps.ite_snd h.refuse (Keeps.ite_snd h.refuse (Keeps.ite_snd h.refuse (Keeps.ite_snd h.refuse h.setOtp)))
theorem execBstTileRun_answers {role v'} : Answers s (execBstTileRun role v' s) := (Keeps.refl s).tileRunWrite.answered.answers
theorem execBstTileRunDone_answers {fails} : Answers s (execBstTileRunDone fails s) := (Keeps.refl s).tileRunDone.answers
theorem execBstIcGo_answers {role v'} : Answers s (execBstIcGo role v' s) := (Keeps.refl s).icGo.answered.answers
theorem execBstIcDone_answers {result errors rate down found} : Answers s (execBstIcDone result errors rate down found s) :=
    (Keeps.refl s).icDone.answers
theorem execBstUciBurn_answers {role v' bits} : Answers s (execBstUciBurn role v' bits s) := (Keeps.refl s).uciBurn.answered.answers

/-! ## Machine/Topology -/

theorem Keeps.topoOut (h : Keeps s t) {i} : Keeps s (t.topoOut i) :=
    Keeps.ite (Keeps.ite h h.wr) (Keeps.ite (Keeps.ite h h.wr.wr) (Keeps.ite h.wr.wr h))
theorem Keeps.topoRead (h : Keeps s t) {r} : Keeps s (t.topoRead r) := by
  unfold State.topoRead
  split
  · exact h
  · exact Keeps.ite h (Keeps.ite h.wr.ev h.wr)
theorem Keeps.compare (h : Keeps s t) {r weak} : Keeps s (t.compare r weak).1 := by
  unfold State.compare
  dsimp only
  split
  · exact Keeps.ite_fst h.wr (Keeps.ite_fst (h.wr.wr.each fun h _ => h.topoOut).wr (Keeps.ite_fst (h.wr.wr.each fun h _ => h.topoOut).wr
      (h.wr.wr.each fun h _ => h.topoOut).wr))
  · exact h.wr

/-! ## Machine/Start -/

theorem Keeps.atStep (h : Keeps s t) {step} : Keeps s (t.atStep step) := h.wr.wr.drawn
theorem Keeps.haltStart (h : Keeps s t) {step code} : Keeps s (t.haltStart step code) := h.atStep.drawn.frame.wr.wr.log.startFlush
theorem Keeps.haltEvent (h : Keeps s t) {step code detail} : Keeps s (t.haltEvent step code detail) := h.ev.haltStart
theorem Keeps.lcStart (h : Keeps s t) : Keeps s (t.lcStart) := h.frame.wr.wr.wr.wr.wr.showMarks.newNonce
theorem Keeps.applyStored (h : Keeps s t) {stored} : Keeps s (t.applyStored stored) := by
  unfold State.applyStored
  refine h.each fun h _ => ?_
  split
  · exact h.wr
  · exact h
theorem keptRegs_wf {t : State} {kind : Nat} (h : Regs.wf t.regs = true) : Regs.wf (t.keptRegs kind) = true := by
  unfold State.keptRegs
  exact AMap.sorted_where _ _ h
theorem Keeps.beginStart (h : Keeps s t) {kind cause} : Keeps s (t.beginStart kind cause) := by
  unfold State.beginStart
  dsimp only
  refine Keeps.wr (Keeps.each (Keeps.wr (Keeps.wr (Keeps.wr (Keeps.each (Keeps.wr (Keeps.wr (Keeps.wr (Keeps.lcStart (Keeps.applyStored ?_)))))
    fun h _ => h.wr)))) fun h _ => h.wr)
  exact h.trans ⟨⟨rfl, List.prefix_rfl, Nat.le_refl _, id, keptRegs_wf⟩, rfl⟩
theorem Keeps.deriveKeys (h : Keeps s t) : Keeps s (t.deriveKeys) := Keeps.ite h.drawKey.drawKey.frame.drawn.frame.drawn h
theorem Keeps.seStart (h : Keeps s t) {f} : Keeps s (t.seStart f) := Keeps.ite h.frame.wr.wr h.frame.wr.wr.wr.deriveKeys.wr.drawn
theorem Keeps.ctlStart (h : Keeps s t) {f} : Keeps s (t.ctlStart f) := by
  unfold State.ctlStart
  dsimp only
  refine Keeps.topoRead ?_
  split
  · exact (Keeps.ite h.frame.wr.wr.wr h.frame.wr.wr.wr.wr.wr.ev).wr.ev
  · split
    · exact (Keeps.ite h.frame.wr.wr.wr h.frame.wr.wr.wr.wr.wr.ev).frame.wr
    · exact Keeps.ite (Keeps.ite h.frame.wr.wr.wr h.frame.wr.wr.wr.wr.wr.ev).wr (Keeps.ite h.frame.wr.wr.wr h.frame.wr.wr.wr.wr.wr.ev).wr.ev
theorem Keeps.otpTiles (h : Keeps s t) : Keeps s (t.otpTiles) := h.wr
theorem Keeps.repairTile (h : Keeps s t) {t'} : Keeps s (t.repairTile t') := Keeps.ite h.wrField h.failTile
theorem Keeps.bist (h : Keeps s t) {f} : Keeps s (t.bist f).1 :=
    Keeps.ite ((h.otpTiles.each fun h _ => h.wr.wr.wr).frame.each fun h _ => h.repairTile).wr (h.otpTiles.each fun h _ => h.wr.wr.wr)
theorem Keeps.siteTest (h : Keeps s t) {k x} : Keeps s (t.siteTest k x) :=
    Keeps.ite (((h.setSite.each fun h _ => h.wr).each fun h _ => Keeps.ite h.wrField h.wr.log).each fun h _ => h.ev).wr (Keeps.ite
    (((h.setSite.each fun h _ => h.wr).each fun h _ => Keeps.ite h.wrField h.wr.log).each fun h _ => h.ev).wr (((h.setSite.each fun h _ =>
    h.wr).each fun h _ => Keeps.ite h.wrField h.wr.log).each fun h _ => h.ev).trainFirst)
theorem Keeps.siteFast (h : Keeps s t) {k x} : Keeps s (t.siteFast k x) := Keeps.ite h h.trainFirst
theorem Keeps.readRecords (h : Keeps s t) {f} : Keeps s (t.readRecords f).1 := Keeps.ite_fst h (Keeps.ite_fst h.frame.ev (Keeps.ite_fst h h.frame))
theorem Keeps.hardRepair (h : Keeps s t) {k} : Keeps s (t.hardRepair k) := Keeps.ite h h.frame.bump.emit.log
theorem Keeps.stackStart (h : Keeps s t) {h' x} : Keeps s (t.stackStart h' x) :=
    (Keeps.ite h.trainStack (Keeps.ite h (Keeps.ite (Keeps.ite h.wr.wr h) h.trainStack))).wr
theorem Keeps.stacksStart (h : Keeps s t) {f} : Keeps s (t.stacksStart f) :=
    ((h.each fun h _ => h.stackStart).each fun h _ => h.hardRepair).each fun h _ => h.wr
theorem Keeps.siteAttest (h : Keeps s t) {k x} : Keeps s (t.siteAttest k x) :=
    Keeps.ite h (Keeps.ite (Keeps.ite h.wr.wr.wr.wr.ev h.wr.wr.wr.wr.settleLink).setSite.wr.wr.ev (Keeps.ite h.wr.wr.wr.wr.ev
    h.wr.wr.wr.wr.settleLink).setSite.wr)
theorem Keeps.portStart (h : Keeps s t) {e' found} : Keeps s (t.portStart e' found) := Keeps.ite (Keeps.ite h.wr h) (Keeps.ite h.wr h.wr)
theorem Keeps.readyRegs (h : Keeps s t) : Keeps s (t.readyRegs) := (h.each fun h _ => h.wr).each fun h _ => h.wr
theorem Keeps.ready (h : Keeps s t) {result} : Keeps s (t.ready result) := h.atStep.wr.readyRegs.wr.wr.wr.frame.log.emit.drawn
theorem Keeps.fromStep7 (h : Keeps s t) {f} : Keeps s (t.fromStep7 f) := by
  unfold State.fromStep7
  extract_lets _ _ _ _ ports _
  have hports : Keeps s ports := ((h.readRecords.stacksStart).each fun h _ => h.siteAttest).each fun h _ => h.portStart
  split
  · exact hports.haltStart
  · exact Keeps.ite hports.compare.haltStart hports.compare.ready
theorem Keeps.step6 (h : Keeps s t) {f} : Keeps s (t.step6 f) := by
  have hsites : Keeps s (t.each (List.range 8) (fun s k =>
      match f.sites[k]? with
      | some x =>
        let x := if s.startup.lateSites.testBit k then { x with rate := none } else x
        if s.startup.fast then s.siteFast k x else s.siteTest k x
      | none => s)) := by
    refine h.each fun h _ => ?_
    dsimp only
    split
    · exact Keeps.ite h.siteFast h.siteTest
    · exact h
  unfold State.step6
  exact Keeps.ite hsites.frame.wr hsites.fromStep7
theorem Keeps.bringUp (h : Keeps s t) {f} : Keeps s (t.bringUp f) := by
  unfold State.bringUp
  dsimp only
  split
  · exact h
  · split
    · exact Keeps.ite h h.fromStep7
    · split
      · split
        · exact h.haltStart
        · split
          · exact h.wr.haltEvent
          · split
            · exact h.haltStart
            · split
              · exact h.seStart.haltStart
              · split
                · exact h.seStart.ctlStart.step6
                · split
                  · exact h.seStart.ctlStart.bist.haltEvent
                  · exact h.seStart.ctlStart.bist.step6
      · split
        · exact h.setOtp.lcStart.haltStart
        · split
          · exact h.setOtp.lcStart.wr.haltEvent
          · split
            · exact h.setOtp.lcStart.haltStart
            · split
              · exact h.setOtp.lcStart.seStart.haltStart
              · split
                · exact h.setOtp.lcStart.seStart.ctlStart.step6
                · split
                  · exact h.setOtp.lcStart.seStart.ctlStart.bist.haltEvent
                  · exact h.setOtp.lcStart.seStart.ctlStart.bist.step6
theorem Keeps.stepTimeout (h : Keeps s t) {step mask} : Keeps s (t.stepTimeout step mask) := by
  unfold State.stepTimeout
  dsimp only
  split
  · exact h
  · split
    · exact h.frame.wr
    · exact h.frame.wr
    · exact h.frame.wr
    · exact h.frame.wr
    · exact h.haltEvent
theorem Keeps.hostAbort (h : Keeps s t) : Keeps s (t.hostAbort) := (h.each fun h _ => h.emit).hostDrop
theorem Keeps.assertAll (h : Keeps s t) : Keeps s (t.assertAll) := h.each fun h _ => h.sbxReset
theorem Keeps.resetOpen (h : Keeps s t) : Keeps s (t.resetOpen) := h.each fun h _ => h.sendCtl
theorem Keeps.lcAbort (h : Keeps s t) : Keeps s (t.lcAbort) := by
  unfold State.lcAbort
  dsimp only
  split
  · exact h.frame.lcFail
  · exact h
theorem Keeps.hubReset (h : Keeps s t) {cold fault cause} : Keeps s (t.hubReset cold fault cause) := by
  unfold State.hubReset
  dsimp only
  split
  · exact h.frame
  · exact (h.frame.stopWork.abortSites.hostAbort.resetOpen.assertAll.exportEnd.lcAbort.each fun h _ => h.restStack).startFlush
theorem Keeps.resetEffect (h : Keeps s t) : Keeps s (t.resetEffect) := by
  unfold State.resetEffect
  dsimp only
  split
  · exact h
  · exact (Keeps.ite (Keeps.ite h.endFlush h).linkDown (Keeps.ite h.endFlush h).allFlr.frame).beginStart
theorem execPowerOn_answers : Answers s (execPowerOn s) := (Keeps.ite (Keeps.refl s) (Keeps.refl s).beginStart).answers
theorem execPowerRemoved_answers : Answers s (execPowerRemoved s) := by
  have hregs : Regs.wf s.regs = true → Regs.wf (s.regs.where fun k _ => lifeKeys.contains k) = true := AMap.sorted_where _ _
  exact Records.answers ⟨rfl, List.prefix_rfl, Nat.le_refl _, fun _ => wf_nil, hregs⟩
theorem execBringupTimeout_answers {step mask} : Answers s (execBringupTimeout step mask s) := (Keeps.refl s).stepTimeout.answers
theorem execBringupReady_answers {f} : Answers s (execBringupReady f s) := (Keeps.refl s).bringUp.answers
theorem Keeps.hubResetWrite (h : Keeps s t) {role v'} : Keeps s (t.hubResetWrite role v').2 :=
    Keeps.ite_snd h.refuse (Keeps.ite_snd h.refuse (Keeps.ite_snd h.refuse h.hubReset))
theorem execPdxHubResetWarm_answers {role} : Answers s (execPdxHubResetWarm role s) := (Keeps.refl s).hubResetWrite.answered.answers
theorem execPdxHubResetCold_answers {role} : Answers s (execPdxHubResetCold role s) := (Keeps.refl s).hubResetWrite.answered.answers
theorem execHubResetPin_answers : Answers s (execHubResetPin s) := (Keeps.ite (Keeps.refl s).frame (Keeps.refl s).frame.hubReset).answers
theorem execHubResetEffect_answers : Answers s (execHubResetEffect s) := (Keeps.refl s).resetEffect.answers
theorem execHubResetRelease_answers : Answers s (execHubResetRelease s) := (Keeps.refl s).frame.answers
theorem Keeps.powerFail (h : Keeps s t) {code} : Keeps s (t.powerFail code) := Keeps.ite h.frame.ev.startFlush.haltStart h.frame.ev.startFlush
theorem execPwrFailAssert_answers : Answers s (execPwrFailAssert s) := (Keeps.refl s).powerFail.answers
theorem execPwrBrownout_answers : Answers s (execPwrBrownout s) := (Keeps.ite (Keeps.refl s) (Keeps.refl s).powerFail).answers
theorem Keeps.partialWrite (h : Keeps s t) {role v'} : Keeps s (t.partialWrite role v').2 :=
    Keeps.ite_snd h.refuse (Keeps.ite_snd h.refuse (Keeps.ite_snd h.refuse h.frame.emptyTiles.zeroPads))
theorem execPdxPartialReset_answers {role v'} : Answers s (execPdxPartialReset role v' s) := (Keeps.refl s).partialWrite.answered.answers
theorem execPartialResetRelease_answers : Answers s (execPartialResetRelease s) := (Keeps.refl s).frame.answers
theorem Keeps.retrainPort (h : Keeps s t) {e'} : Keeps s (t.retrainPort e') := Keeps.ite h h.portChange
theorem Keeps.triageAct (h : Keeps s t) {t' a} : Keeps s (t.triageAct t' a) := by
  unfold State.triageAct
  dsimp only
  split
  · exact h
  · split
    · exact h
    · exact Keeps.ite h.startReset h.retrainPort
    · exact Keeps.ite h.setSite.wr (Keeps.ite h.wr.portChange h.wr)
    · exact h.cmdWarmReset
    · exact h.cmdFullReset
    · exact h.cmdDissolve
    · exact h.hubReset
    · exact h.hubReset
theorem Keeps.triageEnd (h : Keeps s t) {t'} : Keeps s (t.triageEnd t') := h.frame
theorem Keeps.triageDecide (h : Keeps s t) {role v'} : Keeps s (t.triageDecide role v').2 := by
  unfold State.triageDecide
  dsimp only
  split
  · exact h.refuse
  · split
    · exact h.refuse
    · split
      · exact h.refuse
      · exact Keeps.ite_snd h.refuse h.wr.triageEnd.triageAct
theorem execOwlTriageDecide_answers {role v'} : Answers s (execOwlTriageDecide role v' s) := (Keeps.refl s).triageDecide.answered.answers
theorem execOwlTriageHoldExpiry_answers {latch} : Answers s (execOwlTriageHoldExpiry latch s) := by
  unfold execOwlTriageHoldExpiry
  refine Keeps.answers (?_)
  split
  · exact (Keeps.refl s)
  · split
    · exact (Keeps.refl s)
    · split
      · exact (Keeps.refl s).triageEnd.triageAct
      · exact (Keeps.refl s).triageEnd
theorem execOwlTriageMiss_answers {latch} : Answers s (execOwlTriageMiss latch s) := by
  unfold execOwlTriageMiss
  refine Keeps.answers (?_)
  split
  · exact (Keeps.refl s)
  · exact Keeps.ite (Keeps.refl s) (Keeps.refl s).triageEnd.ev

/-! ## Machine/Dict -/

theorem Keeps.releaseMasked (h : Keeps s t) {p sub} : Keeps s (t.releaseMasked p sub) := h.each fun h _ => Keeps.ite h.wr.raiseVector h
theorem Keeps.rootChanged (h : Keeps s t) {role ptn old new keep} : Keeps s (t.rootChanged role ptn old new keep) := Keeps.ite h h.endSessions
theorem Keeps.rootWrite (h : Keeps s t) {a operator v'} : Keeps s (t.rootWrite a operator v').2 :=
    Keeps.ite_snd (Keeps.ite_snd h.refuse h.frame.wr.rootChanged) (Keeps.ite_snd h.refuse h.frame.wr.rootChanged)
theorem Keeps.stageWrite (h : Keeps s t) {v'} : Keeps s (t.stageWrite v').2 := Keeps.ite_snd h.refuse h.frame
theorem Keeps.jayWrite (h : Keeps s t) {p v'} : Keeps s (t.jayWrite p v').2 := by
  unfold State.jayWrite
  dsimp only
  split
  · exact h.refuse
  · split
    · exact h.wr.jayMap
    · exact h.wr.jayUnmap
    · exact h.wr.jaySetFmt
    · exact h.wr.jayPin
    · exact h.wr.jayHint
    · exact h.wr.jayRowrep
    · exact h.wr.jayMove
    · exact h.wr.jayAck
theorem Keeps.ptnCmdWrite (h : Keeps s t) {role p v'} : Keeps s (t.ptnCmdWrite role p v').2 := by
  unfold State.ptnCmdWrite
  dsimp only
  split
  · exact h.cmdForm
  · exact h.cmdSeal
  · exact h.cmdContextReset
  · exact h.cmdWarmReset
  · exact h.cmdFullReset
  · exact h.cmdDissolve
  · exact h.refuse
theorem Keeps.storeWrite (h : Keeps s t) {role v'} : Keeps s (t.storeWrite role v').2 := by
  unfold State.storeWrite
  split
  · exact h.storeCmd
  · exact h.storeCmd
  · exact h.storeCmd
  · exact h.refuse
theorem Keeps.codeWrite (h : Keeps s t) {v'} : Keeps s (t.codeWrite v') := h.setBucket
theorem Keeps.srcWrite (h : Keeps s t) {v'} : Keeps s (t.srcWrite v') := h.frame
theorem Keeps.liveWrite (h : Keeps s t) {a t' v'} : Keeps s (t.liveWrite a t' v') :=
    Keeps.ite h.srcWrite (Keeps.ite h.codeWrite (Keeps.ite h.wr.releaseMasked (Keeps.ite h.wr.rootChanged h.wr)))
theorem Keeps.applyWrite (h : Keeps s t) {a t' v'} : Keeps s (t.applyWrite a t' v').2 := by
  unfold State.applyWrite
  dsimp only
  split
  · exact h.refuse
  · exact h.liveWrite
  · exact h.holdBeat
  · exact Keeps.ite_snd h.wr h.refuse
  · exact h.frame
  · exact Keeps.ite_snd h.refuse h.liveWrite
/-- The first case of a chain of writes: its own answer keeps, or the rest answers. -/
theorem Keeps.own {c : Prop} [Decidable c] {x r : Answer} {o : Option Answer} (hx : Keeps s x.2) (ho : o = some r → Keeps s r.2)
    (e : (if c then some x else o) = some r) : Keeps s r.2 := by
  split at e
  · cases e; exact hx
  · exact ho e
theorem Keeps.ownWrite (h : Keeps s t) {a x b aux r} (e : t.ownWrite a x b aux = some r) : Keeps s r.2 := by
  unfold State.ownWrite at e
  revert e
  refine Keeps.own h.wqCfgWrite ?_
  refine Keeps.own h.stageWrite ?_
  refine Keeps.own h.qosCommit ?_
  refine Keeps.own h.jayWrite ?_
  refine Keeps.own h.uciRepairAccept ?_
  refine Keeps.own h.uciBindWrite ?_
  refine Keeps.own h.uciResetCmd ?_
  refine Keeps.own h.egressWrite ?_
  refine Keeps.own h.syncMapWrite ?_
  refine Keeps.own h.ringCfgWrite ?_
  refine Keeps.own (Keeps.ite_snd h.formGroup h.dissolveGroup) ?_
  refine Keeps.own h.ptnCmdWrite ?_
  refine Keeps.own h.ctxNextWrite ?_
  refine Keeps.own h.zeroiseWrite ?_
  refine Keeps.own h.selftestWrite ?_
  refine Keeps.own h.deliverKey ?_
  refine Keeps.own h.importWrite ?_
  refine Keeps.own h.rotateWrite ?_
  refine Keeps.own h.grantWrite ?_
  refine Keeps.own h.debugStateWrite ?_
  refine Keeps.own h.debugCmd ?_
  refine Keeps.own h.transitionWrite ?_
  refine Keeps.own h.tokenWrite ?_
  refine Keeps.own h.svnCommit ?_
  refine Keeps.own h.bscanWrite ?_
  refine Keeps.own (Keeps.ite_snd h.slotWrite h.refuse) ?_
  refine Keeps.own h.rootWrite ?_
  refine Keeps.own h.rootWrite ?_
  refine Keeps.own h.hubResetWrite ?_
  refine Keeps.own h.partialWrite ?_
  refine Keeps.own h.triageDecide ?_
  refine Keeps.own h.owlAck ?_
  refine Keeps.own h.owlHubAck ?_
  refine Keeps.own h.sqlFlush ?_
  refine Keeps.own h.storeWrite ?_
  refine Keeps.own h.tileRunWrite ?_
  refine Keeps.own h.icGo ?_
  refine Keeps.own h.uciBurn ?_
  refine Keeps.own h.pwrThermDecide ?_
  nofun
theorem Keeps.itemWrite (h : Keeps s t) {o a index sub b aux} : Keeps s (t.itemWrite o a index sub b aux).2 := by
  unfold State.itemWrite
  split
  · exact h.refuse
  · split
    · exact h.refuse
    · split
      · exact h.refuse
      · split
        · exact h.refuse
        · split
          · exact h.refuse
          · split
            · exact h.ownWrite ‹_›
            · exact Keeps.ite_snd h.refuse h.applyWrite

/-! ## Machine/Frames -/

theorem Keeps.setFrames (h : Keeps s t) {l} : Keeps s (t.setFrames l) := h.frame
theorem Keeps.unitRx (h : Keeps s t) {ep unit} : Keeps s (t.unitRx ep unit).1 := by
  unfold State.unitRx
  dsimp only
  split
  · exact h
  · split
    · exact Keeps.ite_fst h (Keeps.ite_fst h (Keeps.ite_fst h h.setFrames))
    · exact Keeps.ite_fst h.setFrames (Keeps.ite_fst h.setFrames h.setFrames)
theorem Keeps.setBox (h : Keeps s t) {fn b} : Keeps s (t.setBox fn b) := h.frame
theorem Keeps.boxDone (h : Keeps s t) {fn unit} : Keeps s (t.boxDone fn unit) := Keeps.ite (Keeps.ite h.setBox.msix h.setBox.raiseVector) h.setBox
theorem Keeps.boxPlace (h : Keeps s t) {fn frame} : Keeps s (t.boxPlace fn frame) := by
  unfold State.boxPlace
  dsimp only
  split
  · exact h
  · split
    · exact h.setBox.boxDone
    · exact h
theorem Keeps.boxFree (h : Keeps s t) {ep} : Keeps s (t.boxFree ep) := by
  unfold State.boxFree
  dsimp only
  split
  · exact h.setBox
  · exact h
theorem Keeps.boxGo (h : Keeps s t) {fn v'} : Keeps s (t.boxGo fn v') := by
  unfold State.boxGo
  dsimp only
  split
  · exact h.setBox
  · split
    · exact h.setBox
    · split
      · split
        · exact Keeps.ite h.setBox.setBox.boxDone h.setBox
        · exact h.setBox
      · exact Keeps.ite h.setBox.setBox.unitRx.setBox (Keeps.ite h.setBox.setBox.unitRx h.setBox.setBox.unitRx.boxDone)
theorem Keeps.respondAs (h : Keeps s t) {ep session seq kind flags status beat count secret body} : Keeps s (t.respondAs ep session seq kind flags
    status beat count secret body) := by
  unfold State.respondAs
  dsimp only
  split
  · exact h.emit.boxPlace
  · exact h.emit
theorem Keeps.respond (h : Keeps s t) {ep seq kind status count body} : Keeps s (t.respond ep seq kind status count body) := h.respondAs
theorem Keeps.itemSet (h : Keeps s t) {o a i} : Keeps s (t.itemSet o a i).2 := by
  unfold State.itemSet
  dsimp only
  split
  · exact h
  · exact h.itemWrite
theorem Keeps.itemReset (h : Keeps s t) {a i} : Keeps s (t.itemReset a i).2 := by
  unfold State.itemReset
  split
  · exact h
  · split
    · exact h
    · exact h.itemSet
theorem Keeps.itemsInOrder (h : Keeps s t) {f l} (hf : ∀ {u}, Keeps s u → ∀ i, Keeps s (f u i).2) : Keeps s (itemsInOrder f t l).2 := by
  induction l generalizing t with
  | nil => exact h
  | cons i l ih => exact ih (hf h _)
theorem Keeps.atomic (h : Keeps s t) {a l} : Keeps s (t.atomic a l).2.2 := by
  unfold State.atomic
  dsimp only
  split
  · exact h
  · split
    · exact h
    · exact h.itemsInOrder fun h _ => h.itemSet
theorem Keeps.serveItems (h : Keeps s t) {kind a l} : Keeps s (t.serveItems kind a l).2.2 := by
  unfold State.serveItems
  dsimp only
  split
  · exact h.itemsInOrder fun h _ => h.itemSet
  · split
    · exact h.atomic
    · split
      · exact h.itemsInOrder fun h _ => h.itemReset
      · split
        · exact h
        · exact h.drawn
theorem Keeps.mgmtTake (h : Keeps s t) {ep} : Keeps s (t.mgmtTake ep).2 := by
  unfold State.mgmtTake
  dsimp only
  split
  · exact Keeps.ite_snd h h.frame
  · exact h
theorem Keeps.authDrop (h : Keeps s t) {ep slot} : Keeps s (t.authDrop ep slot) := by
  unfold State.authDrop
  dsimp only
  split
  · exact h.bump.boxFree
  · exact Keeps.ite h.bump.boxFree.frame h.bump.boxFree.frame.ev
theorem Keeps.serveAnonymous (h : Keeps s t) {kind r} : Keeps s (t.serveAnonymous kind r) :=
    Keeps.ite (Keeps.ite h.respond h.respond) (Keeps.ite h.respond (Keeps.ite h.respond h.serveItems.respond))
theorem Keeps.sessionAnswer (h : Keeps s t) {x kind r st count body} : Keeps s (t.sessionAnswer x kind r st count body) := by
  unfold State.sessionAnswer
  dsimp only
  split
  · exact Keeps.ite h.respond h.respondAs
  · exact h.frame.respondAs
theorem Keeps.serveNew (h : Keeps s t) {kind r x} : Keeps s (t.serveNew kind r x) :=
    Keeps.ite h.sessionAnswer (Keeps.ite h.sessionAnswer (Keeps.ite h.endSessions.respondAs h.serveItems.sessionAnswer))
theorem Keeps.serveSession (h : Keeps s t) {kind r} : Keeps s (t.serveSession kind r) := by
  unfold State.serveSession
  split
  · exact h.authDrop
  · split
    · exact h.authDrop
    · split
      · exact Keeps.ite h.respondAs (Keeps.ite h.authDrop h.serveNew)
      · exact h.serveNew
theorem Keeps.serve (h : Keeps s t) {kind r} : Keeps s (t.serve kind r) :=
    Keeps.ite h (Keeps.ite h.respond (Keeps.ite h.mgmtTake.serveAnonymous h.mgmtTake.serveSession))
theorem Keeps.sessionOpen (h : Keeps s t) {r} : Keeps s (t.sessionOpen r) := by
  unfold State.sessionOpen
  dsimp only
  split
  · exact h
  · split
    · exact h.mgmtTake.respond
    · split
      · exact h.mgmtTake.respond
      · split
        · exact h.mgmtTake.respond
        · exact Keeps.ite h.mgmtTake.respond (Keeps.ite h.mgmtTake.respond (Keeps.ite h.mgmtTake.respond (Keeps.ite h.mgmtTake.respond
            h.mgmtTake.frame.drawn.drawn.respond)))
theorem Keeps.sessionProve (h : Keeps s t) {ep n sigOk} : Keeps s (t.sessionProve ep n sigOk) := by
  unfold State.sessionProve
  dsimp only
  split
  · exact h
  · split
    · exact h.mgmtTake.respond
    · split
      · exact h.mgmtTake.respond
      · split
        · exact h.mgmtTake.respond
        · exact Keeps.ite h.mgmtTake.frame.respond h.mgmtTake.respond
theorem Keeps.dictSpdm (h : Keeps s t) {ep seq dest req} : Keeps s (t.dictSpdm ep seq dest req) :=
    Keeps.ite h (Keeps.ite h.mgmtTake.respond (Keeps.ite h.mgmtTake.respond (Keeps.ite h.mgmtTake.respond (Keeps.ite h.mgmtTake.respond
    h.mgmtTake.spdm.respond))))
theorem execDictUnitRx_answers {ep unit} : Answers s (execDictUnitRx ep unit s) := (Keeps.ite (Keeps.refl s).unitRx (Keeps.refl s)).answers
theorem execDictReassemblyTimeout_answers {ep msg} : Answers s (execDictReassemblyTimeout ep msg s) := (Keeps.refl s).setFrames.answers
theorem execDictRead_answers {r} : Answers s (execDictRead r s) := (Keeps.refl s).serve.answers
theorem execDictWrite_answers {r} : Answers s (execDictWrite r s) := (Keeps.refl s).serve.answers
theorem execDictAtomic_answers {r} : Answers s (execDictAtomic r s) := (Keeps.refl s).serve.answers
theorem execDictReadPending_answers {r} : Answers s (execDictReadPending r s) := (Keeps.refl s).serve.answers
theorem execDictReadDefault_answers {r} : Answers s (execDictReadDefault r s) := (Keeps.refl s).serve.answers
theorem execDictResetDefault_answers {r} : Answers s (execDictResetDefault r s) := (Keeps.refl s).serve.answers
theorem execDictDescribe_answers {r} : Answers s (execDictDescribe r s) := (Keeps.refl s).serve.answers
theorem execDictSessionOpen_answers {r} : Answers s (execDictSessionOpen r s) := (Keeps.refl s).sessionOpen.answers
theorem execDictSessionProve_answers {ep n sigOk} : Answers s (execDictSessionProve ep n sigOk s) := (Keeps.refl s).sessionProve.answers
theorem execDictSessionClose_answers {r} : Answers s (execDictSessionClose r s) := (Keeps.refl s).serve.answers
theorem execDictSpdm_answers {ep seq dest req} : Answers s (execDictSpdm ep seq dest req s) := (Keeps.refl s).dictSpdm.answers
theorem execSessionProveTimeout_answers {n} : Answers s (execSessionProveTimeout n s) := (Keeps.refl s).endSessions.answers
theorem execSessionIdleExpiry_answers {n} : Answers s (execSessionIdleExpiry n s) := (Keeps.refl s).endSessions.answers
theorem execRoleRootWrite_answers {role operator v'} : Answers s (execRoleRootWrite role operator v' s) := (Keeps.refl s).itemWrite.answered.answers
theorem execSftMgmt_answers {f kind r} : Answers s (execSftMgmt f kind r s) := ((Keeps.refl s).frame12 fun h => h.serve).answers

/-! ## Machine/SyncOps -/

theorem Keeps.syncReadOp (h : Keeps s t) {src obj} : Keeps s (t.syncReadOp src obj) := h.syncOp fun h => h.syncDone
theorem Keeps.syncInitOp (h : Keeps s t) {src obj a b} : Keeps s (t.syncInitOp src obj a b) := h.syncOp fun h => h.expireWaiters.setObj.syncDone
theorem Keeps.syncAddOp (h : Keeps s t) {src obj a} : Keeps s (t.syncAddOp src obj a) := h.syncOp fun h => h.syncSet
theorem Keeps.syncCasOp (h : Keeps s t) {src obj a b} : Keeps s (t.syncCasOp src obj a b) := h.syncOp fun h => h.syncSet
theorem Keeps.syncSwapOp (h : Keeps s t) {src obj a} : Keeps s (t.syncSwapOp src obj a) := h.syncOp fun h => h.syncSet
theorem Keeps.syncWaitGeOp (h : Keeps s t) {src obj a} : Keeps s (t.syncWaitGeOp src obj a) := h.syncOp fun h => h.syncWait
theorem Keeps.syncAcquireOp (h : Keeps s t) {src obj a} : Keeps s (t.syncAcquireOp src obj a) := h.syncOp fun h => h.syncWait
theorem Keeps.syncReleaseOp (h : Keeps s t) {src obj a} : Keeps s (t.syncReleaseOp src obj a) := h.syncOp fun h => h.syncSet
theorem Keeps.syncArriveOp (h : Keeps s t) {src obj} : Keeps s (t.syncArriveOp src obj) := h.syncOp fun h => h.syncSet
theorem Keeps.syncArriveWaitOp (h : Keeps s t) {src obj} : Keeps s (t.syncArriveWaitOp src obj) := h.syncOp fun h => h.settleObj.syncWait
theorem Keeps.syncBarWaitOp (h : Keeps s t) {src obj a} : Keeps s (t.syncBarWaitOp src obj a) := h.syncOp fun h => h.syncWait
theorem Keeps.syncSetOp (h : Keeps s t) {src obj a} : Keeps s (t.syncSetOp src obj a) := h.syncOp fun h => h.syncSet
theorem Keeps.syncClearOp (h : Keeps s t) {src obj a} : Keeps s (t.syncClearOp src obj a) := h.syncOp fun h => h.syncSet
theorem Keeps.syncWaitAnyOp (h : Keeps s t) {src obj a b} : Keeps s (t.syncWaitAnyOp src obj a b) := h.syncOp fun h => h.syncWait
theorem Keeps.syncWaitAllOp (h : Keeps s t) {src obj a b} : Keeps s (t.syncWaitAllOp src obj a b) := h.syncOp fun h => h.syncWait
theorem Keeps.syncByCode (h : Keeps s t) {src opx obj a b} : Keeps s (t.syncByCode src opx obj a b) := by
  unfold State.syncByCode
  split
  · exact h.syncReadOp
  · exact h.syncInitOp
  · exact h.syncAddOp
  · exact h.syncCasOp
  · exact h.syncSwapOp
  · exact h.syncWaitGeOp
  · exact h.syncAcquireOp
  · exact h.syncReleaseOp
  · exact h.syncArriveOp
  · exact h.syncArriveWaitOp
  · exact h.syncBarWaitOp
  · exact h.syncSetOp
  · exact h.syncClearOp
  · exact h.syncWaitAnyOp
  · exact h.syncWaitAllOp
  · exact h.syncRefuse
theorem execSyncRead_answers {src obj} : Answers s (execSyncRead src obj s) := (Keeps.refl s).syncReadOp.settleSites.answers
theorem execSyncInit_answers {src obj a b} : Answers s (execSyncInit src obj a b s) := (Keeps.refl s).syncInitOp.settleSites.answers
theorem execSyncAdd_answers {src obj a} : Answers s (execSyncAdd src obj a s) := (Keeps.refl s).syncAddOp.settleSites.answers
theorem execSyncCas_answers {src obj a b} : Answers s (execSyncCas src obj a b s) := (Keeps.refl s).syncCasOp.settleSites.answers
theorem execSyncSwap_answers {src obj a} : Answers s (execSyncSwap src obj a s) := (Keeps.refl s).syncSwapOp.settleSites.answers
theorem execSyncWaitGe_answers {src obj a} : Answers s (execSyncWaitGe src obj a s) := (Keeps.refl s).syncWaitGeOp.settleSites.answers
theorem execSyncAcquire_answers {src obj a} : Answers s (execSyncAcquire src obj a s) := (Keeps.refl s).syncAcquireOp.settleSites.answers
theorem execSyncRelease_answers {src obj a} : Answers s (execSyncRelease src obj a s) := (Keeps.refl s).syncReleaseOp.settleSites.answers
theorem execSyncArrive_answers {src obj} : Answers s (execSyncArrive src obj s) := (Keeps.refl s).syncArriveOp.settleSites.answers
theorem execSyncArriveWait_answers {src obj} : Answers s (execSyncArriveWait src obj s) := (Keeps.refl s).syncArriveWaitOp.settleSites.answers
theorem execSyncBarWait_answers {src obj a} : Answers s (execSyncBarWait src obj a s) := (Keeps.refl s).syncBarWaitOp.settleSites.answers
theorem execSyncSet_answers {src obj a} : Answers s (execSyncSet src obj a s) := (Keeps.refl s).syncSetOp.settleSites.answers
theorem execSyncClear_answers {src obj a} : Answers s (execSyncClear src obj a s) := (Keeps.refl s).syncClearOp.settleSites.answers
theorem execSyncWaitAny_answers {src obj a b} : Answers s (execSyncWaitAny src obj a b s) := (Keeps.refl s).syncWaitAnyOp.settleSites.answers
theorem execSyncWaitAll_answers {src obj a b} : Answers s (execSyncWaitAll src obj a b s) := (Keeps.refl s).syncWaitAllOp.settleSites.answers
theorem execSyncWaitExpiry_answers {bank id} : Answers s (execSyncWaitExpiry bank id s) := by
  unfold execSyncWaitExpiry
  refine Keeps.answers (?_)
  split
  · exact (Keeps.refl s).expireOne.settleSites
  · exact (Keeps.refl s)

/-! ## Machine/HostPort -/

theorem Keeps.boxPut (h : Keeps s t) {fn w o} : Keeps s (t.boxPut fn w o) :=
    Keeps.ite (Keeps.ite h.boxGo h.setBox) (Keeps.ite h.setBox (Keeps.ite h.setBox h))
theorem Keeps.msixFlush (h : Keeps s t) {fn} : Keeps s (t.msixFlush fn) := h.each fun h _ => h.frame.msix
theorem Keeps.msixPut (h : Keeps s t) {fn w x} : Keeps s (t.msixPut fn w x) := h.frame.msixFlush
theorem Keeps.wqPut (h : Keeps s t) {p q w} : Keeps s (t.wqPut p q w) :=
    Keeps.ite (Keeps.ite (Keeps.ite h h.setWq) (Keeps.ite h h.setWq).wqTail).wqAbort (Keeps.ite (Keeps.ite h h.setWq) (Keeps.ite h h.setWq).wqTail)
theorem Keeps.ringPut (h : Keeps s t) {p w} : Keeps s (t.ringPut p w) := Keeps.ite h.ringTail.ringAbort h.ringTail
theorem Keeps.slotPut (h : Keeps s t) {p w o} : Keeps s (t.slotPut p w o) := by
  unfold State.slotPut
  dsimp only
  split
  · exact h.frame
  · exact h.frame
  · exact h.frame.syncByCode.settleSites
  · exact h
theorem Keeps.vfPut (h : Keeps s t) {p w} : Keeps s (t.vfPut p w) :=
    Keeps.ite (Keeps.ite h.frame.abortAll h.frame) (Keeps.ite (Keeps.ite h.frame h) (Keeps.ite h.raiseVector (Keeps.ite h (Keeps.ite h.wqPut
    (Keeps.ite h.ringPut (Keeps.ite h (Keeps.ite h.boxPut (Keeps.ite h.frame (Keeps.ite h (Keeps.ite h.msixPut (Keeps.ite h (Keeps.ite h.slotPut
    h))))))))))))
theorem Keeps.setExport (h : Keeps s t) {x} : Keeps s (t.setExport x) := h.frame
theorem Keeps.exportGo (h : Keeps s t) : Keeps s (t.exportGo) :=
    Keeps.ite h.setExport (Keeps.ite h.setExport (Keeps.ite h.setExport (Keeps.ite h.setExport h.setExport.drawn)))
theorem Keeps.exportPut (h : Keeps s t) {w o} : Keeps s (t.exportPut w o) := by
  unfold State.exportPut
  dsimp only
  split
  · exact h.setExport
  · exact h.setExport
  · exact h.setExport
  · exact Keeps.ite h.exportGo h
  · exact h
theorem Keeps.pfPut (h : Keeps s t) {w} : Keeps s (t.pfPut w) :=
    Keeps.ite h (Keeps.ite h.boxPut (Keeps.ite h.msixPut (Keeps.ite h (Keeps.ite h.exportPut h))))
theorem Keeps.vfAccess (h : Keeps s t) {p r} : Keeps s (t.vfAccess p r) := by
  unfold State.vfAccess
  dsimp only
  split
  · exact Keeps.ite h.emit h
  · split
    · exact Keeps.ite h.emit h
    · split
      · exact h.hostRefuse
      · split
        · exact h.hostRefuse
        · split
          · exact h.hostRefuse
          · split
            · exact h.hostRefuse
            · split
              · exact h.emit
              · exact h.each fun h _ => h.vfPut
theorem Keeps.hostTurns (h : Keeps s t) {n x2} : Keeps s (State.hostTurns n t x2) := by
  induction n generalizing t x2 with
  | zero => exact h
  | succ n ih =>
    rw [State.hostTurns]
    dsimp only
    split
    · exact h.hostPump
    · exact Keeps.ite h.hostPump (ih h.hostPump.frame.vfAccess)
theorem Keeps.hostTurnsAll (h : Keeps s t) : Keeps s (t.hostTurnsAll) := h.each fun h _ => h.hostTurns
theorem Keeps.hostArrive (h : Keeps s t) {p r} : Keeps s (t.hostArrive p r) :=
    Keeps.ite h (Keeps.ite (Keeps.ite h.emit h) (Keeps.ite (Keeps.ite h.emit h) h.frame.hostTurns))
theorem Keeps.pfArrive (h : Keeps s t) {off n data} : Keeps s (t.pfArrive off n data) := by
  unfold State.pfArrive
  dsimp only
  split
  · exact h
  · split
    · exact Keeps.ite h.emit h
    · split
      · exact Keeps.ite h.emit h
      · split
        · exact h.emit
        · exact h.each fun h _ => h.pfPut
theorem Keeps.bar0Write (h : Keeps s t) {fn off n v'} : Keeps s (t.bar0Write fn off n v') := Keeps.ite h.pfArrive h.hostArrive
theorem Keeps.setHeader (h : Keeps s t) {k v'} : Keeps s (t.setHeader k v') := h.frame
theorem Keeps.cfgWrite (h : Keeps s t) {fn reg v'} : Keeps s (t.cfgWrite fn reg v') := by
  unfold State.cfgWrite
  dsimp only
  split
  · exact h
  · exact h
  · exact Keeps.ite h.frame h
  · exact Keeps.ite h.frame h.frame.msixFlush
  · exact Keeps.ite h.slotWrite h
  · exact h.setHeader
  · exact h.setHeader
  · exact Keeps.ite h.setHeader h
  · exact h
theorem Keeps.cfgRequest (h : Keeps s t) {fn reg w} : Keeps s (t.cfgRequest fn reg w) := by
  unfold State.cfgRequest
  split
  · exact h
  · split
    · exact h.emit
    · split
      · exact h.emit
      · split
        · exact h.emit.drawn
        · exact h.cfgWrite.emit
/-- The `match` of `State.exportRun` over any key and any bytes read: the kernel would compute the read of a granule. -/
theorem Keeps.exportRun_match {a : Option KeySlot} {b : Option (List Byte × Bool)} {f : KeySlot → List Byte → Bool → State}
    {g : Option KeySlot → Option (List Byte × Bool) → State} (hf : ∀ k d e, Keeps s (f k d e)) (hg : ∀ x y, Keeps s (g x y)) :
    Keeps s (State.exportRun.match_1 (fun _ _ => State) a b f g) := by
  split
  · exact hf _ _ _
  · exact hg _ _
/-- The runs of `exportRun` with less fuel, as structural recursion hands them on. -/
abbrev RunBelow (n : Nat) := Nat.below (motive := fun _ => State → List SnoopedLine → State) n
theorem Keeps.exportRun_step {n} {x : RunBelow (n + 1)} (hx : ∀ {t l}, Keeps s t → Keeps s (x.1 t l)) (h : Keeps s t) {l} :
    Keeps s (State.exportRun._f (n + 1) x t l) := by
  delta State.exportRun._f
  dsimp -zeta only
  exact Keeps.exportRun_match (fun _ _ _ => hx h.emit.setExport) fun _ _ => h.exportEnd
theorem Keeps.brecOn {F : ∀ n, RunBelow n → State → List SnoopedLine → State} (h0 : ∀ {x t l}, Keeps s t → Keeps s (F 0 x t l))
    (hF : ∀ {n x}, (∀ {t l}, Keeps s t → Keeps s (x.1 t l)) → ∀ {t l}, Keeps s t → Keeps s (F (n + 1) x t l)) (h : Keeps s t) {n l} :
    Keeps s (Nat.brecOn n F t l) := by
  induction n generalizing t l with
  | zero => exact h0 h
  | succ n ih => exact hF (n := n) (x := (Nat.brecOn.go (n + 1) F).2) (fun {t l} h => ih h) h
theorem Keeps.exportRun (h : Keeps s t) {n l} : Keeps s (State.exportRun n t l) := by
  delta State.exportRun
  exact Keeps.brecOn (fun h => h.exportEnd) (fun hx _ _ h => h.exportRun_step hx) h
theorem execHepIntrRaise_answers {p v'} : Answers s (execHepIntrRaise p v' s) := (Keeps.refl s).bar0Write.answers
theorem execHostConfigRequest_answers {fn reg w} : Answers s (execHostConfigRequest fn reg w s) := (Keeps.refl s).cfgRequest.answers
theorem execHostBar2Write_answers {p off data ep} : Answers s (execHostBar2Write p off data ep s) := (Keeps.refl s).hostArrive.answers
theorem execHostBar2Read_answers {p off n} : Answers s (execHostBar2Read p off n s) := (Keeps.refl s).hostArrive.answers
theorem execHostBar0Read_answers {fn off n} : Answers s (execHostBar0Read fn off n s) :=
    (Keeps.ite (Keeps.refl s).pfArrive (Keeps.refl s).hostArrive).answers
theorem execHostSyncSlotWrite_answers {p slot v'} : Answers s (execHostSyncSlotWrite p slot v' s) :=
    (Keeps.ite (Keeps.refl s).bar0Write (Keeps.refl s)).answers
theorem execHostMailboxGo_answers {fn v'} : Answers s (execHostMailboxGo fn v' s) := (Keeps.refl s).bar0Write.answers
theorem execCkptExportGo_answers : Answers s (execCkptExportGo s) := (Keeps.refl s).bar0Write.answers
theorem execCkptExportDone_answers {snooped} : Answers s (execCkptExportDone snooped s) := (Keeps.ite (Keeps.refl s).exportRun (Keeps.refl s)).answers
theorem Keeps.registerWrite (h : Keeps s t) {w} : Keeps s (t.registerWrite w) := by
  unfold State.registerWrite
  split
  · exact Keeps.ite h.itemWrite.answered h
  · exact h.bar0Write
  · exact h.bar0Write
theorem execRegisterWrite_answers {w} : Answers s (execRegisterWrite w s) := (Keeps.refl s).registerWrite.answers

/-! ## Machine/Pairing -/

theorem Keeps.setPair (h : Keeps s t) {x} : Keeps s (t.setPair x) := h.frame
theorem Keeps.pairFrame (h : Keeps s t) {e' type psn ext payload} : Keeps s (t.pairFrame e' type psn ext payload) := h.sendSft
theorem Keeps.sendHello (h : Keeps s t) : Keeps s (t.sendHello) := h.each fun h _ => h.pairFrame
theorem Keeps.setRole (h : Keeps s t) {role} : Keeps s (t.setRole role) := h.wr.remeasureAll
theorem Keeps.endPairLink (h : Keeps s t) : Keeps s (t.endPairLink) := h.dropConn.destroyKey
theorem Keeps.unpair (h : Keeps s t) {reason} : Keeps s (t.unpair reason) := h.endPairLink.setRole.wr.ev
theorem Keeps.helloRx (h : Keeps s t) {f rev fmt role period epoch ownerOk} : Keeps s (t.helloRx f rev fmt role period epoch ownerOk) :=
    Keeps.ite h (Keeps.ite h.dropIsolation (Keeps.ite h.pairFrame.unpair h.setRole.setConn.drawKey.setPair.sendHello))
theorem Keeps.mirrorDrain (h : Keeps s t) {c} : Keeps s (t.mirrorDrain c) := h.setPair.setConn.pumpConn
theorem Keeps.journalEdge (h : Keeps s t) : Keeps s (t.journalEdge) := by
  unfold State.journalEdge
  dsimp only
  split
  · exact h
  · exact Keeps.ite h (Keeps.ite (Keeps.ite h.mirrorDrain.setPair.ev h.mirrorDrain.setPair) (Keeps.ite h.mirrorDrain.setPair.ev
      h.mirrorDrain.setPair).sendMsg)
theorem Keeps.commitBeats (h : Keeps s t) {n} : Keeps s (State.commitBeats n t) := by
  induction n generalizing t with
  | zero => exact h
  | succ n ih =>
    rw [State.commitBeats]
    dsimp only
    split
    · exact h
    · split
      · exact h
      · refine ih ?_
        split
        · exact h.setPair.wr.sendCtl
        · exact h.setPair.wr
theorem Keeps.journalIn (h : Keeps s t) : Keeps s (t.journalIn) := h.setPair.commitBeats
theorem Keeps.setBlock (h : Keeps s t) {n x2 x3} : Keeps s (State.setBlock n t x2 x3) := by
  induction n generalizing t x2 x3 with
  | zero => exact h
  | succ n ih =>
    rw [State.setBlock]
    dsimp only
    split
    · exact h
    · refine ih ?_
      split
      · exact h.wr
      · exact h
theorem Keeps.install (h : Keeps s t) {place d} : Keeps s (t.install place d) := by
  unfold State.install
  dsimp only
  split
  · exact h.frame
  · exact h.setHgt
  · exact h.setObj
  · exact h.frame.setBlock
  · exact h.setKey
  · exact h.frame
  · split
    · exact h.wr
    · exact h
  · split
    · exact h.sendSft
    · exact h
  · exact h
theorem Keeps.takeOver (h : Keeps s t) : Keeps s (t.takeOver) :=
    (((h.endPairLink.setRole.each fun h _ => h.emit).each fun h _ => h.install).each fun h _ => h.resetPtn).setPair.bump.ev
theorem Keeps.heartbeatMiss (h : Keeps s t) : Keeps s (t.heartbeatMiss) :=
    Keeps.ite h (Keeps.ite h.setRole.ev (Keeps.ite h.takeOver h.endPairLink.setRole))
theorem Keeps.sendHeartbeats (h : Keeps s t) {beat} : Keeps s (t.sendHeartbeats beat) := by
  unfold State.sendHeartbeats
  dsimp only
  split
  · exact h
  · refine h.each fun h _ => ?_
    split
    · exact h.setConn.pairFrame
    · exact h
theorem Keeps.countMissed (h : Keeps s t) : Keeps s (t.countMissed) := Keeps.ite h h.setPair
theorem Keeps.restartSpaces (h : Keeps s t) : Keeps s (t.restartSpaces) := by
  unfold State.restartSpaces
  dsimp only
  split
  · exact Keeps.ite h.setConn.setPair.drawKey h
  · exact h
theorem Keeps.pairEdge (h : Keeps s t) : Keeps s (t.pairEdge) :=
    Keeps.ite h (Keeps.ite h.countMissed.journalEdge.restartSpaces.setPair.sendHello h.countMissed.journalEdge.restartSpaces)
theorem execSftCtrlRefuse_answers {f} : Answers s (execSftCtrlRefuse f s) :=
    (Keeps.ite (Keeps.refl s) (Keeps.ite ((Keeps.refl s).frame12 fun h => Keeps.ite h h.unpair) (Keeps.refl s).ctrlRefused)).answers
theorem execSftCtrlHello_answers {f rev fmt role period epoch ownerOk} : Answers s (execSftCtrlHello f rev fmt role period epoch ownerOk s) :=
    (Keeps.ite ((Keeps.refl s).frame12 fun h => h.helloRx) (Keeps.refl s)).answers
theorem execSftCtrlHelloAck_answers {f} : Answers s (execSftCtrlHelloAck f s) :=
    (Keeps.ite ((Keeps.refl s).frameOn fun h _ => Keeps.ite h.wr h) (Keeps.refl s)).answers
theorem execSftJournal_answers {f} : Answers s (execSftJournal f s) :=
    (Keeps.ite ((Keeps.refl s).frameOn fun h _ => Keeps.ite h.rxOrdered.journalIn h) (Keeps.refl s)).answers
theorem execSftMirror_answers {f} : Answers s (execSftMirror f s) :=
    (Keeps.ite ((Keeps.refl s).frameOn fun h _ => Keeps.ite h.rxOrdered.journalIn h) (Keeps.refl s)).answers
theorem execSftHeartbeat_answers {f} : Answers s (execSftHeartbeat f s) :=
    (Keeps.ite ((Keeps.refl s).frameOn fun h _ => h.setPair) (Keeps.refl s)).answers
theorem execPairHeartbeatMiss_answers : Answers s (execPairHeartbeatMiss s) := (Keeps.refl s).heartbeatMiss.answers
theorem execPairRekey_answers : Answers s (execPairRekey s) := by
  unfold execPairRekey
  dsimp only
  refine Keeps.answers (?_)
  split
  · exact Keeps.ite (Keeps.refl s).setPair.sendHello.restartSpaces (Keeps.refl s)
  · exact (Keeps.refl s)

/-! ## Machine/Edge -/

theorem Keeps.overrunEvent (h : Keeps s t) {i} : Keeps s (t.overrunEvent i) := by
  unfold State.overrunEvent
  dsimp only
  split
  · exact h.bump.ev
  · exact h.bump.ev
theorem Keeps.overrunStep (h : Keeps s t) {p id} : Keeps s (t.overrunStep p id) := by
  unfold State.overrunStep
  split
  · exact h.raiseAbort.collEnd
  · exact h
theorem Keeps.overrunAct (h : Keeps s t) {i} : Keeps s (t.overrunAct i) := by
  unfold State.overrunAct
  split
  · split
    · split
      · exact h.abortDesc
      · exact h
    · exact h.mapDesc
  · exact h.overrunStep
  · exact h.overrunStep
  · exact h.cancelMigs
  · exact h
theorem Keeps.overrun (h : Keeps s t) {i} : Keeps s (t.overrun i) := h.overrunEvent.overrunAct
theorem Keeps.closeItems (h : Keeps s t) : Keeps s (t.closeItems) := (h.each fun h _ => h.overrun).frame
theorem Keeps.closeShares (h : Keeps s t) {k} : Keeps s (t.closeShares k) :=
    Keeps.ite h (Keeps.ite h (h.each fun h _ => Keeps.ite h h.loseSlots)).setSite
theorem Keeps.reportLost (h : Keeps s t) : Keeps s (t.reportLost) := (h.each fun h _ => h.closeShares).frame.each fun h _ => Keeps.ite h h.ev
theorem Keeps.advance (h : Keeps s t) : Keeps s (t.advance) := h.frame
theorem Keeps.clearSeq (h : Keeps s t) {p} : Keeps s (t.clearSeq p) := h.frame
theorem Keeps.applyItem (h : Keeps s t) {e'} : Keeps s (t.applyItem e') := by
  unfold State.applyItem
  dsimp only
  split
  · exact Keeps.ite h.wr.clearSeq h.wr
  · exact h
theorem Keeps.applyItems (h : Keeps s t) : Keeps s (t.applyItems) := h.frame.each fun h _ => h.applyItem
theorem Keeps.refreshEdge (h : Keeps s t) {h' r} : Keeps s (t.refreshEdge h' r) := Keeps.ite h.wr (Keeps.ite h.wr h)
theorem Keeps.throttleEdge (h : Keeps s t) {h' r} : Keeps s (t.throttleEdge h' r) := h.wr.frame
theorem Keeps.endRunOn (h : Keeps s t) {h'} : Keeps s (t.endRunOn h') := by
  unfold State.endRunOn
  split
  · exact Keeps.ite h.abortPattern h
  · exact h
theorem Keeps.critEdge (h : Keeps s t) {h'} : Keeps s (t.critEdge h') := Keeps.ite h.endRunOn.setTemp.quiesce.thermalAbort h.endRunOn.setTemp
theorem Keeps.coolEdge (h : Keeps s t) {h' r} : Keeps s (t.coolEdge h' r) := Keeps.ite h (Keeps.ite h.setTemp.emit h.setTemp)
theorem Keeps.stackEdge (h : Keeps s t) {h'} : Keeps s (t.stackEdge h') := by
  unfold State.stackEdge
  dsimp only
  split
  · exact h
  · split
    · exact Keeps.ite h.setTemp.refreshEdge.throttleEdge.critEdge h.setTemp.refreshEdge.throttleEdge.coolEdge
    · exact h.setTemp.throttleEdge
theorem Keeps.redirectEdge (h : Keeps s t) : Keeps s (t.redirectEdge) := h.frame
theorem Keeps.thermalEdge (h : Keeps s t) : Keeps s (t.thermalEdge) := by
  unfold State.thermalEdge
  extract_lets s1 s2
  have hs1 : Keeps s s1 := (h.each fun h _ => h.stackEdge).redirectEdge
  have hs2 : Keeps s s2 := Keeps.ite hs1.ev hs1
  exact hs2.askHost
theorem Keeps.heatDecay (h : Keeps s t) : Keeps s (t.heatDecay) := h.frame
theorem Keeps.switchStart (h : Keeps s t) {p dst id written} : Keeps s (t.switchStart p dst id written) :=
    Keeps.ite (Keeps.ite h.beginSwitch h.beginSwitch.wr).clearSeq h.beginSwitch
theorem Keeps.startItem (h : Keeps s t) {keys i} : Keeps s (t.startItem keys i) := by
  unfold State.startItem
  split
  · exact h.switchStart
  · exact h.mapDesc
  · exact h.startMig
  · exact h
theorem Keeps.stretchEdge (h : Keeps s t) {p g} : Keeps s (t.stretchEdge p g) := by
  unfold State.stretchEdge
  dsimp only
  split
  · exact Keeps.ite h.extendStep (Keeps.ite h.setColGroup h)
  · exact Keeps.ite h (Keeps.ite h.setColGroup h.setColGroup)
theorem Keeps.wakeEdge (h : Keeps s t) : Keeps s (t.wakeEdge) := h.frame
theorem Keeps.dropFailed (h : Keeps s t) : Keeps s (t.dropFailed) := h.each fun h _ => h.dropConn
theorem Keeps.probe (h : Keeps s t) {n} : Keeps s (t.probe n) := by
  unfold State.probe
  dsimp only
  split
  · exact h
  · refine h.each fun h _ => ?_
    split
    · exact h.setConn.wirePacket
    · exact h
theorem Keeps.endCkpts (h : Keeps s t) : Keeps s (t.endCkpts) := h.each fun h _ => Keeps.ite h h.ckptEnd
theorem Keeps.soxEdge (h : Keeps s t) : Keeps s (t.soxEdge) := (h.dropFailed.each fun h _ => h.probe).sendHeartbeats.frame
theorem Keeps.seeHost (h : Keeps s t) : Keeps s (t.seeHost) := h.frame
theorem Keeps.startItems (h : Keeps s t) {keys} : Keeps s (t.startItems keys) :=
    (((((h.frame.each fun h _ => h.ptnEdge).each fun h _ => h.rotateEdge).each fun h _ => h.startItem).each fun h _ => h.schedule).each fun h _ =>
    h.collAdmit).each fun h _ => h.startItem
theorem Keeps.edgeRest (h : Keeps s t) {lowered} : Keeps s (t.edgeRest lowered) :=
    (((((((h.each fun h _ => h.stretchEdge).wr.wakeEdge.each fun h _ => h.grantBeat).each fun h _ =>
    h.grantStart).protect.clockEdge.offers.heatDecay.each fun h _ => h.rowFills).each fun h _ => h.postCandidates).each fun h _ =>
    h.svcDrain).endCkpts.settleResets.settleSites.each fun h _ => h.htlUnfence).soxEdge.seeHost.hostTurnsAll.remeasureAll
theorem Keeps.edgeSafe (h : Keeps s t) {offset} : Keeps s (t.edgeSafe offset) := h.advance.applyItems.align.frame
theorem Keeps.edge (h : Keeps s t) {offset draw} : Keeps s (t.edge offset draw) :=
    Keeps.ite h (Keeps.ite h.wr.edgeSafe h.wr.closeItems.reportLost.pairEdge.advance.applyTables.applyItems.align.thermalEdge.startItems.edgeRest)
theorem Keeps.readStack (h : Keeps s t) {h' r} : Keeps s (t.readStack h' r) := by
  unfold State.readStack
  dsimp only
  split
  · exact h
  · split
    · exact h.setTemp.wr
    · exact Keeps.ite h.setTemp (Keeps.ite h.setTemp.wr.ev h.setTemp.wr)
theorem Keeps.dropRefused (h : Keeps s t) : Keeps s (t.dropRefused) := h.each fun h _ => h.cancelMig
theorem Keeps.cut (h : Keeps s t) {temps sensors} : Keeps s (t.cut temps sensors) :=
    Keeps.ite h (Keeps.ite h.frame (((h.each fun h _ => h.collArm.collEnd).admitAll.each fun h _ => h.collRefused.collEnd).dropRefused.each fun h _
    => h.readStack).readSensors.allocate.frame)
theorem execBeatEdge_answers {offset draw} : Answers s (execBeatEdge offset draw s) := (Keeps.refl s).edge.answers
theorem execCutoff_answers {temps sensors} : Answers s (execCutoff temps sensors s) := (Keeps.refl s).cut.answers
theorem execHbmCattrip_answers {h'} : Answers s (execHbmCattrip h' s) :=
    (Keeps.ite (Keeps.refl s).cattrip.thermalAbort (Keeps.refl s).cattrip).answers

/-! ## Machine/Pins -/

theorem execPinSoxclkLoss_answers : Answers s (execPinSoxclkLoss s) := (Keeps.ite (Keeps.refl s).ev (Keeps.refl s)).answers
theorem execPinHostclkLoss_answers : Answers s (execPinHostclkLoss s) := (Keeps.ite (Keeps.refl s).ev.surpriseLoss (Keeps.refl s)).answers
theorem execNeighbourSolicitationRx_answers {e' target} : Answers s (execNeighbourSolicitationRx e' target s) :=
    (Keeps.ite (Keeps.refl s) (Keeps.ite (Keeps.refl s).emit (Keeps.refl s).bumpWord)).answers
theorem execI3cDynamicAddress_answers {a} : Answers s (execI3cDynamicAddress a s) := (Keeps.refl s).frame.emit.answers

/-! ## Machine/Dispatch -/

theorem exec_answers {i} : Answers s (exec i s) := by
  unfold exec
  split
  · exact execBeatEdge_answers
  · exact execCutoff_answers
  · exact execBeatHoldoverExpiry_answers
  · exact execPtpSyncLapse_answers
  · exact execPpsPulseMissed_answers
  · exact execPpsInEdge_answers
  · exact execPpsOutPulse_answers
  · exact execDeclare_answers
  · exact execItemCompletion_answers
  · exact execSlotBegin_answers
  · exact execSysWindow_answers
  · exact execRefreshRound_answers
  · exact execNop_answers
  · exact execScalarAdd_answers
  · exact execScalarSub_answers
  · exact execScalarAnd_answers
  · exact execScalarOr_answers
  · exact execScalarXor_answers
  · exact execScalarShl_answers
  · exact execScalarShr_answers
  · exact execScalarMul_answers
  · exact execScalarMin_answers
  · exact execScalarMax_answers
  · exact execScalarCmp_answers
  · exact execScalarMov_answers
  · exact execScalarMovi_answers
  · exact execScalarLd_answers
  · exact execScalarSt_answers
  · exact execVecAdd_answers
  · exact execVecSub_answers
  · exact execVecMul_answers
  · exact execVecFma_answers
  · exact execVecMax_answers
  · exact execVecMin_answers
  · exact execVecAbs_answers
  · exact execVecNeg_answers
  · exact execVecCvt_answers
  · exact execVecSelect_answers
  · exact execVecCmplt_answers
  · exact execVecRsqrt_answers
  · exact execVecRcp_answers
  · exact execVecExp2_answers
  · exact execRedSum_answers
  · exact execRedMax_answers
  · exact execRedMin_answers
  · exact execRedArgmax_answers
  · exact execRedSort64_answers
  · exact execRedTopkMerge_answers
  · exact execRedPrefix_answers
  · exact execRedSegsum_answers
  · exact execGatherRead_answers
  · exact execScatterWrite_answers
  · exact execScatterStash_answers
  · exact execScatterReduceAdd_answers
  · exact execScatterReduceMax_answers
  · exact execSyncStage_answers
  · exact execWaitPending_answers
  · exact execWaitEdge_answers
  · exact execSendStage_answers
  · exact execYieldStage_answers
  · exact execEndStage_answers
  · exact execGatherResponse_answers
  · exact execSyncReply_answers
  · exact execTilAbortAll_answers
  · exact execPatrolScrubVisit_answers
  · exact execIslandVoltageReady_answers
  · exact execWqCfgWrite_answers
  · exact execWqTailWrite_answers
  · exact execWqCplHeadWrite_answers
  · exact execWqAbort_answers
  · exact execDescriptorFetch_answers
  · exact execFuncNop_answers
  · exact execFuncLoad_answers
  · exact execFuncRun_answers
  · exact execFuncEmbBag_answers
  · exact execFuncUpdate_answers
  · exact execFuncReduce_answers
  · exact execFuncTopk_answers
  · exact execFuncSegReduce_answers
  · exact execFuncSort_answers
  · exact execFuncPack_answers
  · exact execFuncCheckpoint_answers
  · exact execItemDispatch_answers
  · exact execDescriptorComplete_answers
  · exact execSvcLookup_answers
  · exact execSvcLookupBag_answers
  · exact execSvcUpdate_answers
  · exact execSvcTimeout_answers
  · exact execCkptPeriodRun_answers
  · exact execCkptChunkAck_answers
  · exact execCkptChunkTimeout_answers
  · exact execRouterFlitArrival_answers
  · exact execFlitEject_answers
  · exact execIngressReq_answers
  · exact execRetryRx_answers
  · exact execNocRspTimeout_answers
  · exact execQosLevelSample_answers
  · exact execQosLevelWord_answers
  · exact execRequestAged_answers
  · exact execQosCommit_answers
  · exact execQosCommitCheckDone_answers
  · exact execHomeRdShared_answers
  · exact execHomeRdUnique_answers
  · exact execHomeClaim_answers
  · exact execHomeEvict_answers
  · exact execHomeWb_answers
  · exact execHomeWrite_answers
  · exact execHomeWrRed_answers
  · exact execHomeRdNa_answers
  · exact execGack_answers
  · exact execHomeSnoopAnswer_answers
  · exact execCohSnpTimeout_answers
  · exact execTakedownWalkEnd_answers
  · exact execStackReadData_answers
  · exact execSoftRepair_answers
  · exact execGranuleRetire_answers
  · exact execStackRecalDone_answers
  · exact execHbmCattrip_answers
  · exact execMemoryPatrol_answers
  · exact execHbmRecal_answers
  · exact execSliceLookup_answers
  · exact execXlateAnswer_answers
  · exact execJayMissTimeout_answers
  · exact execGranuleInvalidate_answers
  · exact execInvalidationAck_answers
  · exact execHeatIncrement_answers
  · exact execJayPlacementPass_answers
  · exact execJayCmdMap_answers
  · exact execJayCmdUnmap_answers
  · exact execJayCmdSetFmt_answers
  · exact execJayCmdPin_answers
  · exact execJayCmdHint_answers
  · exact execJayCmdRowrep_answers
  · exact execJayCmdMove_answers
  · exact execJayCmdAck_answers
  · exact execJayHostMiss_answers
  · exact execMigrationPassDone_answers
  · exact execMigrationRemap_answers
  · exact execMigrationDone_answers
  · exact execMigrationAbandon_answers
  · exact execRowFillAck_answers
  · exact execReplicaGather_answers
  · exact execUciRepairAccept_answers
  · exact execUciRepairDeadlineExpiry_answers
  · exact execUciCrcRetry_answers
  · exact execUciRetrain_answers
  · exact execUciRetrainDone_answers
  · exact execFwdClockLoss_answers
  · exact execSbxCap_answers
  · exact execSbxSpdmResponse_answers
  · exact execSbxRstQuiesced_answers
  · exact execSbxRstRequest_answers
  · exact execSbxRstReady_answers
  · exact execSbxErr_answers
  · exact execSbxTimeout_answers
  · exact execUciResetCmdReset_answers
  · exact execUciResetCmdAttest_answers
  · exact execUciQuiesceTimeout_answers
  · exact execSidebandPoll_answers
  · exact execUciBindWrite_answers
  · exact execHtlRdShared_answers
  · exact execHtlRdUnique_answers
  · exact execHtlClaim_answers
  · exact execHtlEvict_answers
  · exact execHtlRdNa_answers
  · exact execHtlIntr_answers
  · exact execHtlAbort_answers
  · exact execHtlWb_answers
  · exact execHtlWrNs_answers
  · exact execHtlWrStash_answers
  · exact execHtlWrRed_answers
  · exact execHtlGatherDesc_answers
  · exact execHtlSync_answers
  · exact execHtlSnpAck_answers
  · exact execHtlSnpData_answers
  · exact execHtlCreditReturn_answers
  · exact execCxlMessage_answers
  · exact execSoxPortChange_answers
  · exact execSoxOtherFrame_answers
  · exact execPtpSyncRx_answers
  · exact execPtpAnnounceRx_answers
  · exact execSftData_answers
  · exact execSftAck_answers
  · exact execSftCnp_answers
  · exact execSftCtrlOpen_answers
  · exact execSftCtrlOpenAck_answers
  · exact execSftCtrlRefuse_answers
  · exact execSftCtrlClose_answers
  · exact execSftCtrlCloseAck_answers
  · exact execSftCtrlReset_answers
  · exact execSftCtrlHello_answers
  · exact execSftCtrlHelloAck_answers
  · exact execSftMgmt_answers
  · exact execSftJournal_answers
  · exact execSftMirror_answers
  · exact execSftHeartbeat_answers
  · exact execSftFault_answers
  · exact execConnOpenRequest_answers
  · exact execConnOpenRetry_answers
  · exact execConnIdleExpiry_answers
  · exact execConnPsnLimit_answers
  · exact execConnCloseTimeout_answers
  · exact execSftAckTimer_answers
  · exact execSftRtoExpiry_answers
  · exact execCcPeriodExpiry_answers
  · exact execSoxEgressTableWrite_answers
  · exact execPairHeartbeatMiss_answers
  · exact execPairRekey_answers
  · exact execSyncRead_answers
  · exact execSyncInit_answers
  · exact execSyncAdd_answers
  · exact execSyncCas_answers
  · exact execSyncSwap_answers
  · exact execSyncWaitGe_answers
  · exact execSyncAcquire_answers
  · exact execSyncRelease_answers
  · exact execSyncArrive_answers
  · exact execSyncArriveWait_answers
  · exact execSyncBarWait_answers
  · exact execSyncSet_answers
  · exact execSyncClear_answers
  · exact execSyncWaitAny_answers
  · exact execSyncWaitAll_answers
  · exact execSyncWaitExpiry_answers
  · exact execColSyncMapWrite_answers
  · exact execColGroupForm_answers
  · exact execColGroupDissolve_answers
  · exact execColFormTimeout_answers
  · exact execColDbTailWrite_answers
  · exact execColDbAbort_answers
  · exact execCollAllreduce_answers
  · exact execCollReduceScatter_answers
  · exact execCollAllgather_answers
  · exact execCollBroadcast_answers
  · exact execCollBarrier_answers
  · exact execCollSnapshot_answers
  · exact execCollGlobalReset_answers
  · exact execCollStepComplete_answers
  · exact execSnapshotDrainEnd_answers
  · exact execCollMsgForm_answers
  · exact execCollMsgFormed_answers
  · exact execCollMsgRefuse_answers
  · exact execCollMsgUp_answers
  · exact execCollMsgDown_answers
  · exact execCollMsgStretchReq_answers
  · exact execCollMsgStretchGrant_answers
  · exact execCollMsgAbort_answers
  · exact execCollMsgReset_answers
  · exact execStretchCheckPoint_answers
  · exact execPtnCmdForm_answers
  · exact execPtnCmdSeal_answers
  · exact execSealWriteDone_answers
  · exact execPtnCmdContextReset_answers
  · exact execPtnCmdWarmReset_answers
  · exact execPtnCmdFullReset_answers
  · exact execPtnCmdDissolve_answers
  · exact execResetDrainEnd_answers
  · exact execBadgerScrubDone_answers
  · exact execTileSaveDone_answers
  · exact execTileRestoreDone_answers
  · exact execPtnCtxNextWrite_answers
  · exact execPtnSchedMiss_answers
  · exact execInterruptRaise_answers
  · exact execHepIntrRaise_answers
  · exact execSecKeyDeliver_answers
  · exact execSecImport_answers
  · exact execImportDone_answers
  · exact execSecRotate_answers
  · exact execFabricKeyRetire_answers
  · exact execSpdmRequest_answers
  · exact execSecDebugGrant_answers
  · exact execDebugGrantExpiry_answers
  · exact execSecDebugStateWrite_answers
  · exact execSecDebugCmd_answers
  · exact execSecZeroise_answers
  · exact execSeSensorTrip_answers
  · exact execSecSelftest_answers
  · exact execSecKatPeriodExpiry_answers
  · exact execLcsTransition_answers
  · exact execLcsEraseDone_answers
  · exact execLcsToken_answers
  · exact execLcsSvnCommit_answers
  · exact execLcsBscanEnWrite_answers
  · exact execTapBypass_answers
  · exact execTapIdcode_answers
  · exact execTapSamplePreload_answers
  · exact execTapExtest_answers
  · exact execTapIeee1500_answers
  · exact execTapLcToken_answers
  · exact execTapLcStatus_answers
  · exact execTapIntscan_answers
  · exact execTapMbistAcc_answers
  · exact execTapReset_answers
  · exact execPcieLinkUp_answers
  · exact execHostConfigRequest_answers
  · exact execHostBar2Write_answers
  · exact execHostBar2Read_answers
  · exact execHostBar0Read_answers
  · exact execHostSyncSlotWrite_answers
  · exact execHostMailboxGo_answers
  · exact execVfFlr_answers
  · exact execPfFlr_answers
  · exact execHostPerst_answers
  · exact execCkptExportGo_answers
  · exact execCkptExportDone_answers
  · exact execDebounceExpiry_answers
  · exact execHostPrsntAssert_answers
  · exact execHostPg1Assert_answers
  · exact execHostPg2Assert_answers
  · exact execHostPgTimeout_answers
  · exact execHostAttnPress_answers
  · exact execHostRemoveAck_answers
  · exact execHostRemoveCancel_answers
  · exact execHostRemoveWaitEnd_answers
  · exact execHepRemoveDeadlineExpiry_answers
  · exact execSurpriseLoss_answers
  · exact execHostPrsntDeassert_answers
  · exact execDictUnitRx_answers
  · exact execDictReassemblyTimeout_answers
  · exact execDictRead_answers
  · exact execDictWrite_answers
  · exact execDictAtomic_answers
  · exact execDictReadPending_answers
  · exact execDictReadDefault_answers
  · exact execDictResetDefault_answers
  · exact execDictDescribe_answers
  · exact execDictSessionOpen_answers
  · exact execDictSessionProve_answers
  · exact execDictSessionClose_answers
  · exact execDictSpdm_answers
  · exact execSessionProveTimeout_answers
  · exact execSessionIdleExpiry_answers
  · exact execRoleRootWrite_answers
  · exact execRegisterWrite_answers
  · exact execPowerOn_answers
  · exact execBringupTimeout_answers
  · exact execBringupReady_answers
  · exact execPdxHubResetWarm_answers
  · exact execPdxHubResetCold_answers
  · exact execHubResetPin_answers
  · exact execHubResetEffect_answers
  · exact execPdxPartialReset_answers
  · exact execPartialResetRelease_answers
  · exact execFaultEvent_answers
  · exact execOwlCountWindowExpiry_answers
  · exact execOwlAck_answers
  · exact execOwlHubAck_answers
  · exact execOwlTriageDecide_answers
  · exact execOwlTriageHoldExpiry_answers
  · exact execOwlTriageMiss_answers
  · exact execSqlFlush_answers
  · exact execSqlFlushDone_answers
  · exact execSqlFlushDeadlineExpiry_answers
  · exact execSqlTokenRefill_answers
  · exact execSqlStoreEraseCirc_answers
  · exact execSqlStoreEraseFirst_answers
  · exact execSqlStoreFormat_answers
  · exact execSqlStoreCmdDone_answers
  · exact execBstTileRun_answers
  · exact execBstTileRunDone_answers
  · exact execBstIcGo_answers
  · exact execBstIcDone_answers
  · exact execBstUciBurn_answers
  · exact execPwrFailAssert_answers
  · exact execPwrBrownout_answers
  · exact execPwrThermtrip_answers
  · exact execPwrThermDecide_answers
  · exact execSbxPwrReport_answers
  · exact execSbxPwrRevokeAck_answers
  · exact execPwrRevokeTimeout_answers
  · exact execPinSoxclkLoss_answers
  · exact execPinHostclkLoss_answers
  · exact execSbxOtherMessage_answers
  · exact execPtpDelayRespRx_answers
  · exact execPtpFollowUpRx_answers
  · exact execNeighbourSolicitationRx_answers
  · exact execHostLinkDown_answers
  · exact execHostPerstDeassert_answers
  · exact execPmeTurnOff_answers
  · exact execI3cDynamicAddress_answers
  · exact execHubResetRelease_answers
  · exact execPowerRemoved_answers

end Sys2Proof.Machine
end

section
/-! The queue, the record of a run and the canonical form: what every command, and so every step, keeps. -/

namespace Sys2Proof.Machine

theorem step_cons {c : Instr} {rest : List Instr} {s : State} (h : s.pending = c :: rest) : step s = exec c { s with pending := rest } := by
  unfold step
  rw [h]

theorem step_nil {s : State} (h : s.pending = []) : step s = .next s := by
  unfold step
  rw [h]

/-- Settles O1: the two cases of the queue are the two cases of `step`. -/
theorem stepRunsFront : Obligations.StepRunsFront := ⟨fun _ _ _ => step_cons, fun _ => step_nil⟩

theorem records_of_exec {c : Instr} {s t : State} (h : exec c s = .next t) : Records s t := by
  obtain ⟨u, hu, hk⟩ := exec_answers (s := s) (i := c)
  rw [hu] at h
  cases h
  exact hk

/-- A step of a state whose queue holds a command leaves the rest of its queue. -/
theorem step_pending {c : Instr} {rest : List Instr} {s : State} (h : s.pending = c :: rest) : ∃ t, step s = .next t ∧ t.pending = rest := by
  obtain ⟨t, ht, hk⟩ := exec_answers (s := { s with pending := rest }) (i := c)
  exact ⟨t, by rw [step_cons h, ht], hk.pending_eq⟩

/-- Runs grow at their first step also. -/
theorem Reaches.first {n : Nat} {s t u : State} (h : step s = .next t) (hr : Reaches n t u) : Reaches (n + 1) s u := by
  induction hr with
  | zero => exact .succ (.zero s) h
  | succ _ hstep ih => exact .succ (ih h) hstep

theorem reaches_empty (q : List Instr) : ∀ s : State, s.pending = q → ∃ t, Reaches q.length s t ∧ t.pending = [] := by
  induction q with
  | nil => exact fun s h => ⟨s, .zero s, h⟩
  | cons c rest ih =>
    intro s h
    obtain ⟨t, ht, hrest⟩ := step_pending h
    obtain ⟨u, hu, hempty⟩ := ih t hrest
    exact ⟨u, .first ht hu, hempty⟩

/-- Settles O2: every command answers with a next state, so each step takes one command off the queue. -/
theorem everyCommandAnswers : Obligations.EveryCommandAnswers := by
  unfold Obligations.EveryCommandAnswers
  refine ⟨fun c s => ?_, fun s => reaches_empty s.pending s rfl⟩
  obtain ⟨t, ht, _⟩ := exec_answers (s := s) (i := c)
  exact ⟨t, ht⟩

/-- Settles O3, from what every command keeps. -/
theorem commandsKeepTheRecord : Obligations.CommandsKeepTheRecord := by
  unfold Obligations.CommandsKeepTheRecord
  intro c s t h
  have hk := records_of_exec h
  exact ⟨hk.pending_eq, hk.sent_prefix, hk.fresh_le⟩

/-- Settles O4, from what every command keeps: memory and registers do not depend on the queue. -/
theorem canonicalFormKept : Obligations.CanonicalFormKept := by
  unfold Obligations.CanonicalFormKept
  intro s t hmem hregs h
  cases hq : s.pending with
  | nil =>
    rw [step_nil hq] at h
    cases h
    exact ⟨hmem, hregs⟩
  | cons c rest =>
    rw [step_cons hq] at h
    have hk := records_of_exec h
    exact ⟨hk.mem_wf hmem, hk.regs_wf hregs⟩

end Sys2Proof.Machine
end

section
/-! The waiters of an object (R383): `serve` walks them in arrival order, and each is either served or stays. -/

namespace Sys2Proof.Machine

/-- A waiter of object `n` that is served now. -/
abbrev Waiter.served (n : Nat) (v : Word) (blocked : Bool) (w : Waiter) : Prop := w.obj = n ∧ w.cond.holds v ∧ ¬ (blocked ∧ w.cond.isAcquire)

theorem serve_cons_served {n : Nat} {v : Word} {b : Bool} {w : Waiter} {l : List Waiter} (h : w.served n v b) :
    serve n v b (w :: l) = ⟨(serve n (w.cond.take v) b l).value, (serve n (w.cond.take v) b l).left,
      ⟨w.src, w.cond.result v, reasonDone⟩ :: (serve n (w.cond.take v) b l).out⟩ := if_pos h

theorem serve_cons_waits {n : Nat} {v : Word} {b : Bool} {w : Waiter} {l : List Waiter} (h : ¬ w.served n v b) :
    serve n v b (w :: l) = ⟨(serve n v (b || (decide (w.obj = n) && w.cond.isAcquire)) l).value,
      w :: (serve n v (b || (decide (w.obj = n) && w.cond.isAcquire)) l).left, (serve n v (b || (decide (w.obj = n) && w.cond.isAcquire)) l).out⟩ :=
  if_neg h

theorem serve_left_of_others (n : Nat) (l : List Waiter) : ∀ (v : Word) (b : Bool),
    (serve n v b l).left.filter (fun w => w.obj != n) = l.filter (fun w => w.obj != n) := by
  induction l with
  | nil => exact fun _ _ => rfl
  | cons w l ih =>
    intro v b
    by_cases h : w.served n v b
    · rw [serve_cons_served h, ih, List.filter_cons_of_neg (by simpa using h.1)]
    · rw [serve_cons_waits h, List.filter_cons, List.filter_cons, ih]

/-! ## A semaphore: its waiters acquire units -/

/-- Behind an ACQUIRE that waits no other is served. -/
theorem serve_blocked (n : Nat) (v : Word) {l : List Waiter} (hacq : ∀ w ∈ l, w.obj = n → w.cond.isAcquire) : serve n v true l = ⟨v, l, []⟩ := by
  induction l with
  | nil => rfl
  | cons w l ih =>
    obtain ⟨hw, hl⟩ := List.forall_mem_cons.mp hacq
    rw [serve_cons_waits fun h => h.2.2 ⟨rfl, hw h.1⟩, Bool.true_or, ih hl]

/-- Units go to the first waiters, as far as they last; and the first that stays could not be served. -/
theorem serve_acquires (n : Nat) {l : List Waiter} : ∀ (v : Word), (∀ w ∈ l, w.obj = n → w.cond.isAcquire) → ∃ k : Nat,
    (serve n v false l).out.map (fun x => x.src) = ((l.filter (fun w => w.obj == n)).take k).map (fun w => w.src)
    ∧ (serve n v false l).left.filter (fun w => w.obj == n) = (l.filter (fun w => w.obj == n)).drop k
    ∧ ∀ w, ((l.filter (fun w => w.obj == n)).drop k).head? = some w → w.cond.holds (serve n v false l).value = false := by
  induction l with
  | nil => exact fun _ _ => ⟨0, rfl, rfl, nofun⟩
  | cons w l ih =>
    intro v hacq
    obtain ⟨hw, hl⟩ := List.forall_mem_cons.mp hacq
    by_cases hobj : w.obj = n
    · rw [List.filter_cons_of_pos (p := fun w : Waiter => w.obj == n) (by simpa using hobj)]
      by_cases hholds : w.cond.holds v
      · obtain ⟨k, hout, hleft, hhead⟩ := ih (w.cond.take v) hl
        rw [serve_cons_served (b := false) ⟨hobj, hholds, fun h => Bool.false_ne_true h.1⟩]
        exact ⟨k + 1, congrArg (w.src :: ·) hout, hleft, hhead⟩
      · rw [serve_cons_waits fun h => hholds h.2.1]
        simp only [hobj, hw hobj, decide_true, Bool.and_self, Bool.or_true, serve_blocked n v hl]
        refine ⟨0, rfl, by simp [hobj], fun u hu => ?_⟩
        cases hu
        simpa using hholds
    · rw [List.filter_cons_of_neg (p := fun w : Waiter => w.obj == n) (by simpa using hobj), serve_cons_waits fun h => hobj h.1]
      simp only [hobj, decide_false, Bool.false_and, Bool.or_false]
      rw [List.filter_cons_of_neg (p := fun w : Waiter => w.obj == n) (by simpa using hobj)]
      exact ih v hl

/-! ## Flags and counters -/

/-- A condition that does not come to hold when the waits that `ok` admits are served. -/
def WaitCond.Stays (ok : WaitCond → Prop) (c : WaitCond) : Prop := ∀ d v, ok d → c.holds v = false → c.holds (d.take v) = false

/-- Where no wait makes another's condition hold, none that could be served is left. -/
theorem serve_left_fails (n : Nat) {ok : WaitCond → Prop} {l : List Waiter} (hacq : ∀ c, ok c → c.isAcquire = false)
    (hstays : ∀ c, ok c → c.Stays ok) (hok : ∀ w ∈ l, w.obj = n → ok w.cond) : ∀ v,
    (∀ c, ok c → c.holds v = false → c.holds (serve n v false l).value = false)
    ∧ ∀ w ∈ (serve n v false l).left, w.obj = n → w.cond.holds (serve n v false l).value = false := by
  induction l with
  | nil => exact fun v => ⟨fun _ _ h => h, nofun⟩
  | cons w l ih =>
    obtain ⟨hw, hl⟩ := List.forall_mem_cons.mp hok
    intro v
    by_cases h : w.served n v false
    · obtain ⟨hkept, hleft⟩ := ih hl (w.cond.take v)
      rw [serve_cons_served h]
      exact ⟨fun c hc hv => hkept c hc (hstays c hc _ v (hw h.1) hv), hleft⟩
    · have hb : (decide (w.obj = n) && w.cond.isAcquire) = false := by
        by_cases hobj : w.obj = n
        · simp [hacq _ (hw hobj)]
        · simp [hobj]
      obtain ⟨hkept, hleft⟩ := ih hl v
      rw [serve_cons_waits h, hb]
      refine ⟨hkept, List.forall_mem_cons.mpr ⟨fun hobj => hkept _ (hw hobj) ?_, hleft⟩⟩
      simpa [Waiter.served, hobj] using h

/-- A wait of a counter. -/
def WaitCond.isGe (c : WaitCond) : Prop := ∃ a, c = .ge a

/-- A wait of a flag. -/
def WaitCond.isFlag (c : WaitCond) : Prop := ∃ a clear, c = .any a clear ∨ c = .all a clear

theorem WaitCond.stays_of_isGe {c : WaitCond} : c.Stays isGe := by
  rintro _ v ⟨a, rfl⟩ h
  exact h

/-- Serving a flag's waiter keeps the value, or clears some of its bits. -/
theorem WaitCond.take_of_isFlag {c : WaitCond} (h : c.isFlag) (v : Word) : ∃ m, c.take v = v &&& m := by
  obtain ⟨a, clear, rfl | rfl⟩ := h <;> cases clear
  · exact ⟨BitVec.allOnes 64, BitVec.and_allOnes.symm⟩
  · exact ⟨~~~ a, rfl⟩
  · exact ⟨BitVec.allOnes 64, BitVec.and_allOnes.symm⟩
  · exact ⟨~~~ a, rfl⟩

theorem WaitCond.stays_of_isFlag {c : WaitCond} (hc : c.isFlag) : c.Stays isFlag := by
  intro d v hd h
  obtain ⟨m, hm⟩ := d.take_of_isFlag hd v
  rw [hm]
  obtain ⟨a, clear, rfl | rfl⟩ := hc
  · have hv : v &&& a = 0#64 := by simpa [WaitCond.holds] using h
    have hcomm : v &&& m &&& a = v &&& a &&& m := by ac_rfl
    simp [WaitCond.holds, hcomm, hv]
  · have hv : v &&& a ≠ a := by simpa [WaitCond.holds] using h
    have hne : v &&& m &&& a ≠ a := by
      intro e
      apply hv
      calc v &&& a = v &&& (v &&& m &&& a) := by rw [e]
        _ = (v &&& v) &&& m &&& a := by ac_rfl
        _ = a := by rw [BitVec.and_self, e]
    simpa [WaitCond.holds] using hne

/-- Settles O34, by induction over the waiters: units run out at one ACQUIRE, and serving a flag or a counter makes no other wait hold. -/
theorem waitersInOrder : Obligations.WaitersInOrder := by
  unfold Obligations.WaitersInOrder
  refine ⟨fun n v l hacq => serve_acquires n v fun w hw hobj => ?_, fun n v l hkinds => ?_, fun n v b l => serve_left_of_others n l v b⟩
  · obtain ⟨a, ha⟩ := hacq w hw hobj
    rw [ha]
    rfl
  · rcases hkinds with hge | hflag
    · exact (serve_left_fails n (ok := WaitCond.isGe) (by rintro _ ⟨a, rfl⟩; rfl) (fun _ _ => WaitCond.stays_of_isGe) hge v).2
    · refine (serve_left_fails n (ok := WaitCond.isFlag) ?_ (fun _ => WaitCond.stays_of_isFlag) hflag v).2
      rintro _ ⟨a, c, rfl | rfl⟩ <;> rfl

end Sys2Proof.Machine
end

section
/-! The sharing of a budget (R611): every claim's portion is a function of the claim, so the shares are a map over the claims. -/

namespace Sys2Proof.Machine

/-- The sum of the floors, and of what is asked beyond them. -/
abbrev floorsOf (cs : List Claimed) : Nat := (cs.map (fun c => c.low)).sum
abbrev excessOf (cs : List Claimed) : Nat := (cs.map (fun c => c.req - c.low)).sum

/-- What a claim receives of `avail`. -/
def portion (avail : Nat) (cs : List Claimed) (c : Claimed) : Nat :=
  if avail < floorsOf cs then c.low * avail / floorsOf cs
  else c.low + if excessOf cs ≤ avail - floorsOf cs then c.req - c.low else (c.req - c.low) * (avail - floorsOf cs) / excessOf cs

theorem shareOut_eq (avail : Nat) (cs : List Claimed) : shareOut avail cs = cs.map (fun c => (c.site, portion avail cs c)) := by
  unfold shareOut portion floorsOf excessOf
  simp only [List.sum_eq_foldl, List.foldl_map, Int.toNat_natCast]
  split <;> rfl

theorem sum_map_add {α : Type} (l : List α) (f g : α → Nat) : (l.map (fun c => f c + g c)).sum = (l.map f).sum + (l.map g).sum := by
  induction l with
  | nil => rfl
  | cons c l ih =>
    simp only [List.map_cons, List.sum_cons, ih]
    omega

theorem div_add_div_le_add_div (a b d : Nat) : a / d + b / d ≤ (a + b) / d := by
  by_cases hd : d = 0
  · simp [hd]
  · rw [Nat.le_div_iff_mul_le (Nat.pos_of_ne_zero hd), Nat.add_mul]
    exact Nat.add_le_add (Nat.div_mul_le_self a d) (Nat.div_mul_le_self b d)

/-- Rounding each share down takes no more than rounding the sum down. -/
theorem sum_map_mul_div_le {α : Type} (l : List α) (f : α → Nat) (r d : Nat) : (l.map (fun c => f c * r / d)).sum ≤ (l.map f).sum * r / d := by
  induction l with
  | nil => simp
  | cons c l ih =>
    simp only [List.map_cons, List.sum_cons, Nat.add_mul]
    exact Nat.le_trans (Nat.add_le_add_left ih _) (div_add_div_le_add_div ..)

theorem sum_portion_le (avail : Nat) (cs : List Claimed) : (cs.map (portion avail cs)).sum ≤ avail := by
  by_cases hlow : avail < floorsOf cs
  · have hp : portion avail cs = fun c => c.low * avail / floorsOf cs := funext fun _ => if_pos hlow
    rw [hp]
    exact Nat.le_trans (sum_map_mul_div_le cs _ _ _) (Nat.le_of_eq (Nat.mul_div_cancel_left avail (Nat.zero_lt_of_lt hlow)))
  · by_cases hfit : excessOf cs ≤ avail - floorsOf cs
    · have hp : portion avail cs = fun c => c.low + (c.req - c.low) := funext fun _ => by rw [portion, if_neg hlow, if_pos hfit]
      rw [hp, sum_map_add]
      change floorsOf cs + excessOf cs ≤ avail
      omega
    · have hp : portion avail cs = fun c => c.low + (c.req - c.low) * (avail - floorsOf cs) / excessOf cs :=
        funext fun _ => by rw [portion, if_neg hlow, if_neg hfit]
      have hrest : (cs.map (fun c => (c.req - c.low) * (avail - floorsOf cs) / excessOf cs)).sum ≤ avail - floorsOf cs :=
        Nat.le_trans (sum_map_mul_div_le cs (fun c => c.req - c.low) _ _)
          (Nat.le_of_eq (Nat.mul_div_cancel_left _ (Nat.zero_lt_of_lt (Nat.not_le.mp hfit))))
      rw [hp, sum_map_add]
      exact Nat.le_trans (Nat.add_le_add_left hrest (floorsOf cs)) (Nat.le_of_eq (Nat.add_sub_of_le (Nat.not_lt.mp hlow)))

theorem mul_div_le_self {x r d : Nat} (h : r ≤ d) : x * r / d ≤ x :=
  Nat.div_le_of_le_mul (Nat.le_trans (Nat.mul_le_mul_left x h) (Nat.le_of_eq (Nat.mul_comm x d)))

theorem portion_le_req {avail : Nat} {cs : List Claimed} {c : Claimed} (h : c.low ≤ c.req) : portion avail cs c ≤ c.req := by
  unfold portion
  split
  · exact Nat.le_trans (mul_div_le_self (by omega)) h
  · split
    · omega
    · have := mul_div_le_self (x := c.req - c.low) (r := avail - floorsOf cs) (d := excessOf cs) (by omega)
      omega

theorem low_le_portion {avail : Nat} {cs : List Claimed} (c : Claimed) (h : floorsOf cs ≤ avail) : c.low ≤ portion avail cs c := by
  rw [portion, if_neg (Nat.not_lt.mpr h)]
  exact Nat.le_add_right _ _

/-- Floors and what is asked beyond them are what is asked. -/
theorem floorsOf_add_excessOf {cs : List Claimed} (h : ∀ c ∈ cs, c.low ≤ c.req) : floorsOf cs + excessOf cs = (cs.map (fun c => c.req)).sum := by
  rw [← sum_map_add]
  exact congrArg List.sum (List.map_congr_left fun c hc => Nat.add_sub_of_le (h c hc))

theorem portion_eq_req {avail : Nat} {cs : List Claimed} {c : Claimed} (h : ∀ c ∈ cs, c.low ≤ c.req) (hc : c ∈ cs)
    (hfit : (cs.map (fun c => c.req)).sum ≤ avail) : portion avail cs c = c.req := by
  have hsum := floorsOf_add_excessOf h
  rw [portion, if_neg (by omega), if_pos (by omega)]
  exact Nat.add_sub_of_le (h c hc)

/-- Settles O55: the portions rounded down sum to no more than what is shared, and each is bounded by its claim. -/
theorem budgetsShared : Obligations.BudgetsShared := by
  unfold Obligations.BudgetsShared
  intro avail cs hcs
  rw [shareOut_eq]
  refine ⟨?_, List.length_map .., fun i c hi => ?_⟩
  · rw [List.map_map]
    exact sum_portion_le avail cs
  · have hc := List.mem_of_getElem? hi
    refine ⟨portion avail cs c, by rw [List.getElem?_map, hi]; rfl, portion_le_req (hcs c hc), low_le_portion c, portion_eq_req hcs hc, ?_⟩
    intro d hd hreq hlow
    have hsame : portion avail cs d = portion avail cs c := by simp only [portion, hreq, hlow]
    exact List.mem_map.mpr ⟨d, hd, by rw [hsame]⟩

end Sys2Proof.Machine
end

section
/-! The step marks (R458, R464): a burn fills marks from bit 0 upward, so at every bit the marks are complete ones, one thermometer and blanks. -/

namespace Sys2Proof.Machine

/-- A mark that is not complete and whose bits were set from bit 0 upward. -/
def isThermometer (m : Nat) : Prop := ∃ j < 16, m = 2 ^ j - 1

/-- Complete marks, then at most one thermometer, then blank marks. -/
def marksOk : List Nat → Prop
  | [] => True
  | m :: r => m = markFull ∧ marksOk r ∨ isThermometer m ∧ ∀ x ∈ r, x = 0

/-! ## One mark -/

theorem isThermometer_zero : isThermometer 0 := ⟨0, by decide, rfl⟩

theorem isThermometer_iff (m : Nat) : isThermometer m ↔ m = 0 ∨ markPartial m = true := by
  simp only [isThermometer, markPartial, List.any_eq_true, List.mem_range, beq_iff_eq]
  constructor
  · rintro ⟨j, hj, rfl⟩
    cases j with
    | zero => exact .inl rfl
    | succ i => exact .inr ⟨i, by omega, rfl⟩
  · rintro (rfl | ⟨i, hi, rfl⟩)
    · exact isThermometer_zero
    · exact ⟨i + 1, by omega, rfl⟩

theorem thermometer_ne_full {m : Nat} (h : isThermometer m) : m ≠ markFull := by
  obtain ⟨j, hj, rfl⟩ := h
  have : ∀ j < 16, 2 ^ j - 1 ≠ markFull := by decide
  exact this j hj

theorem popCount_thermometer : ∀ j < 16, popCount (2 ^ j - 1) 16 = j := by decide

/-- Bits go into a thermometer until it is complete; what is left over goes on. -/
theorem fillMark_thermometer {m : Nat} (h : isThermometer m) (n : Nat) :
    (fillMark m n).1 = markFull ∨ isThermometer (fillMark m n).1 ∧ (fillMark m n).2 = 0 ∧ n < 16 := by
  obtain ⟨j, hj, rfl⟩ := h
  unfold fillMark
  simp only [popCount_thermometer j hj]
  by_cases hn : 16 ≤ j + n
  · left
    rw [Nat.min_eq_left hn]
    rfl
  · right
    exact ⟨⟨j + n, by omega, by rw [Nat.min_eq_right (by omega)]⟩, by omega, by omega⟩

/-! ## The row of marks -/

theorem marksOk_blank {l : List Nat} (h : ∀ x ∈ l, x = 0) : marksOk l := by
  cases l with
  | nil => trivial
  | cons m r =>
    obtain ⟨rfl, hr⟩ := List.forall_mem_cons.mp h
    exact .inr ⟨isThermometer_zero, hr⟩

theorem completeMarks_blank {l : List Nat} (h : ∀ x ∈ l, x = 0) : completeMarks l = 0 := by
  cases l with
  | nil => rfl
  | cons m r =>
    obtain ⟨rfl, _⟩ := List.forall_mem_cons.mp h
    rfl

theorem completeMarks_full (r : List Nat) : completeMarks (markFull :: r) = completeMarks r + 1 := if_pos rfl

theorem completeMarks_thermometer {m : Nat} (h : isThermometer m) (r : List Nat) : completeMarks (m :: r) = 0 := if_neg (thermometer_ne_full h)

theorem completeMarks_le_length (l : List Nat) : completeMarks l ≤ l.length := by
  induction l with
  | nil => exact Nat.le_refl 0
  | cons m r ih =>
    unfold completeMarks
    split
    · exact Nat.succ_le_succ ih
    · exact Nat.zero_le _

theorem fillMarks_zero (l : List Nat) (n : Nat) : fillMarks 0 l n = l := by cases l <;> rfl

theorem fillMarks_full (k : Nat) (r : List Nat) (n : Nat) : fillMarks (k + 1) (markFull :: r) n = markFull :: fillMarks (k + 1) r n := if_pos rfl

theorem fillMarks_thermometer {m : Nat} (h : isThermometer m) (k : Nat) (r : List Nat) (n : Nat) :
    fillMarks (k + 1) (m :: r) n = (fillMark m n).1 :: fillMarks k r (fillMark m n).2 := if_neg (thermometer_ne_full h)

theorem length_fillMarks (l : List Nat) : ∀ k n, (fillMarks k l n).length = l.length := by
  induction l with
  | nil => exact fun k n => by cases k <;> rfl
  | cons m r ih =>
    intro k n
    cases k with
    | zero => rw [fillMarks_zero]
    | succ k =>
      unfold fillMarks
      split <;> exact congrArg (· + 1) (ih _ _)

/-- Without bits left, blank marks stay blank. -/
theorem fillMarks_blank_of_none {l : List Nat} (h : ∀ x ∈ l, x = 0) : ∀ k, ∀ x ∈ fillMarks k l 0, x = 0 := by
  induction l with
  | nil => exact fun k => by cases k <;> nofun
  | cons m r ih =>
    obtain ⟨rfl, hr⟩ := List.forall_mem_cons.mp h
    intro k
    cases k with
    | zero => rwa [fillMarks_zero]
    | succ k =>
      rw [fillMarks_thermometer isThermometer_zero]
      exact List.forall_mem_cons.mpr ⟨by decide, ih hr k⟩

/-- Wherever a burn stops, the marks are in order, and no complete one is lost. -/
theorem fillMarks_ok {l : List Nat} : ∀ (k n : Nat), marksOk l → marksOk (fillMarks k l n) ∧ completeMarks l ≤ completeMarks (fillMarks k l n) := by
  induction l with
  | nil => exact fun k n _ => by cases k <;> exact ⟨trivial, Nat.le_refl 0⟩
  | cons m r ih =>
    intro k n h
    cases k with
    | zero =>
      rw [fillMarks_zero]
      exact ⟨h, Nat.le_refl _⟩
    | succ k =>
      rcases h with ⟨rfl, hr⟩ | ⟨hm, hr⟩
      · obtain ⟨hok, hle⟩ := ih (k + 1) n hr
        rw [fillMarks_full, completeMarks_full, completeMarks_full]
        exact ⟨.inl ⟨rfl, hok⟩, Nat.succ_le_succ hle⟩
      · rw [fillMarks_thermometer hm, completeMarks_thermometer hm]
        refine ⟨?_, Nat.zero_le _⟩
        rcases fillMark_thermometer hm n with hfull | ⟨hpart, hnone, _⟩
        · exact .inl ⟨hfull, (ih k _ (marksOk_blank hr)).1⟩
        · rw [hnone]
          exact .inr ⟨hpart, fillMarks_blank_of_none hr k⟩

/-- A burn of one mark completes one mark at most, and exactly one where it has the bits of a mark. -/
theorem completeMarks_fillMarks_one {l : List Nat} (n : Nat) (h : marksOk l) :
    completeMarks (fillMarks 1 l n) ≤ completeMarks l + 1
    ∧ (16 ≤ n → completeMarks l < l.length → completeMarks (fillMarks 1 l n) = completeMarks l + 1) := by
  induction l with
  | nil => exact ⟨Nat.zero_le _, fun _ h => absurd h (Nat.lt_irrefl 0)⟩
  | cons m r ih =>
    rcases h with ⟨rfl, hr⟩ | ⟨hm, hr⟩
    · obtain ⟨hle, hall⟩ := ih hr
      rw [fillMarks_full, completeMarks_full, completeMarks_full]
      exact ⟨Nat.succ_le_succ hle, fun hn hlt => congrArg (· + 1) (hall hn (Nat.lt_of_succ_lt_succ hlt))⟩
    · rw [fillMarks_thermometer hm, completeMarks_thermometer hm, fillMarks_zero]
      rcases fillMark_thermometer hm n with hfull | ⟨hpart, _, hn⟩
      · rw [hfull, completeMarks_full, completeMarks_blank hr]
        exact ⟨Nat.le_refl 1, fun _ _ => rfl⟩
      · rw [completeMarks_thermometer hpart]
        exact ⟨Nat.zero_le 1, fun h => absurd hn (Nat.not_lt.mpr h)⟩

/-! ## What OTP decodes to -/

theorem marksOk_iff (l : List Nat) : marksOk l ↔ match l.drop (completeMarks l) with
    | [] => True
    | m :: r => isThermometer m ∧ ∀ x ∈ r, x = 0 := by
  induction l with
  | nil => exact Iff.rfl
  | cons m r ih =>
    by_cases hm : m = markFull
    · subst hm
      have hnot : ¬ isThermometer markFull := fun h => thermometer_ne_full h rfl
      simpa [marksOk, completeMarks_full, hnot] using ih
    · simp [marksOk, completeMarks, hm]

/-- OTP decodes where its fields are sound and its marks in order, and then to the number of complete marks. -/
theorem decode_of_marksOk {o : Otp} (hbad : ¬ (o.bad ∨ ¬ svnOk o.svn)) (h : marksOk o.marks) : o.decode.state = completeMarks o.marks := by
  rw [marksOk_iff] at h
  unfold Otp.decode
  simp only [if_neg hbad]
  generalize o.marks.drop (completeMarks o.marks) = rest at h
  cases rest with
  | nil => rfl
  | cons m r =>
    obtain ⟨hm, hr⟩ := h
    have hblank : r.any (· != 0) = false := by simpa using hr
    rcases (isThermometer_iff m).mp hm with rfl | hpart
    · simp [hblank]
    · by_cases h0 : m = 0 <;> simp [hblank, hpart, h0]

theorem marksOk_of_decode {o : Otp} (h : o.decode.state ≠ lcLocked) : ¬ (o.bad ∨ ¬ svnOk o.svn) ∧ marksOk o.marks := by
  rw [marksOk_iff]
  unfold Otp.decode at h
  by_cases hbad : o.bad ∨ ¬ svnOk o.svn
  · exact absurd (by simp only [if_pos hbad]) h
  · refine ⟨hbad, ?_⟩
    simp only [if_neg hbad] at h
    generalize o.marks.drop (completeMarks o.marks) = rest at h
    cases rest with
    | nil => trivial
    | cons m r =>
      by_cases hr : r.any (· != 0) = true
      · simp [hr] at h
      · refine ⟨(isThermometer_iff m).mpr ?_, by simpa using hr⟩
        by_cases h0 : m = 0
        · exact .inl h0
        · exact .inr (Classical.byContradiction fun hpart => h (by simp [hr, h0, hpart]))

/-- Settles O44: a burn keeps the marks in order, whatever bits it has. -/
theorem interruptedBurnDecodes : Obligations.InterruptedBurnDecodes := by
  unfold Obligations.InterruptedBurnDecodes
  intro o dst n hlen hstate
  obtain ⟨hbad, hok⟩ := marksOk_of_decode hstate
  obtain ⟨hburnt, hle⟩ := fillMarks_ok (marksFor dst) n hok
  have hold : o.decode.state = completeMarks o.marks := decode_of_marksOk hbad hok
  have hnew : (o.burn dst n).decode.state = completeMarks (fillMarks (marksFor dst) o.marks n) := decode_of_marksOk (o := o.burn dst n) hbad hburnt
  have hfew : completeMarks (fillMarks (marksFor dst) o.marks n) ≤ 5 := by
    rw [← hlen, ← length_fillMarks o.marks (marksFor dst) n]
    exact completeMarks_le_length _
  rw [hnew, hold]
  refine ⟨by rw [lcLocked]; omega, hle, fun hdst => ?_, fun hn hdst hlt => ?_⟩
  · rw [marksFor, if_neg hdst]
    exact (completeMarks_fillMarks_one n hok).1
  · rw [marksFor, if_neg hdst]
    exact (completeMarks_fillMarks_one n hok).2 hn (hlen ▸ hlt)

end Sys2Proof.Machine
end

section
/-! The latches of Owl over a reaction: what an event does beside its raise leaves every latch as it is (R551, R553). -/

namespace Sys2Proof.Machine

set_option Elab.async false

/-- From `s` to `t` no latch changes. -/
def SameLatches (s t : State) : Prop := t.owl.latches = s.owl.latches

variable {s t u v : State}

theorem SameLatches.refl (s : State) : SameLatches s s := rfl

theorem SameLatches.frame (h : SameLatches s t) {pending sent fresh regs mem poison beat sql store sync jay caches hep qos noc hbm coh sites tile wqs
    svc ckpt ptns col sec life tap startup test power dict sox held heldTiles plots} :
    SameLatches s ⟨pending, sent, fresh, regs, mem, poison, beat, t.owl, sql, store, sync, jay, caches, hep, qos, noc, hbm, coh, sites, tile, wqs,
      svc, ckpt, ptns, col, sec, life, tap, startup, test, power, dict, sox, held, heldTiles, plots⟩ := h

theorem SameLatches.ite {c : Prop} [Decidable c] (hu : SameLatches s u) (hv : SameLatches s v) : SameLatches s (if c then u else v) := by
  split <;> assumption

theorem SameLatches.foldl {α : Type} {f : State → α → State} {l : List α} (h : SameLatches s t)
    (hf : ∀ {u}, SameLatches s u → ∀ a, SameLatches s (f u a)) : SameLatches s (l.foldl f t) := by
  induction l generalizing t with
  | nil => exact h
  | cons a l ih => exact ih (hf h _)

theorem SameLatches.wr (h : SameLatches s t) {r v u sub} : SameLatches s (t.wr r v u sub) := h
theorem SameLatches.bump (h : SameLatches s t) {r u' sub n} : SameLatches s (t.bump r u' sub n) := h.wr
theorem SameLatches.wrField (h : SameLatches s t) {r msb lsb x u' sub} : SameLatches s (t.wrField r msb lsb x u' sub) := h.wr
theorem SameLatches.bumpWord (h : SameLatches s t) {r i u' sub} : SameLatches s (t.bumpWord r i u' sub) := h.wrField
theorem SameLatches.drawn (h : SameLatches s t) {n} : SameLatches s (t.drawn n) := h
theorem SameLatches.emit (h : SameLatches s t) {o} : SameLatches s (t.emit o) := h
theorem SameLatches.each {α : Type} {f : State → α → State} {l : List α} (h : SameLatches s t) (hf : ∀ {u}, SameLatches s u → ∀ a, SameLatches s (f u a)) :
    SameLatches s (t.each l f) := h.foldl hf
theorem SameLatches.putBytes (h : SameLatches s t) {a b} : SameLatches s (t.putBytes a b) := h
theorem SameLatches.setSite (h : SameLatches s t) {k x} : SameLatches s (t.setSite k x) := h.frame
theorem SameLatches.poisonUnit (h : SameLatches s t) {n u} : SameLatches s (t.poisonUnit n u) := h
theorem SameLatches.cleanUnit (h : SameLatches s t) {size u'} : SameLatches s (t.cleanUnit size u') := h.frame
theorem SameLatches.settleUnit (h : SameLatches s t) {size a n bad u'} : SameLatches s (t.settleUnit size a n bad u') :=
    SameLatches.ite h.poisonUnit (SameLatches.ite h.cleanUnit (SameLatches.ite h.poisonUnit h))
theorem SameLatches.store64 (h : SameLatches s t) {a bs bad} : SameLatches s (t.store64 a bs bad) := h.putBytes.foldl fun h _ => h.settleUnit
theorem SameLatches.writePpa (h : SameLatches s t) {p ppa bs bad} : SameLatches s (t.writePpa p ppa bs bad) := by
  unfold State.writePpa
  split
  · exact SameLatches.ite h.store64 h
  · exact h
theorem SameLatches.setObj (h : SameLatches s t) {n o} : SameLatches s (t.setObj n o) := h.frame
theorem SameLatches.syncSend (h : SameLatches s t) {src result reason} : SameLatches s (t.syncSend src result reason) := by
  unfold State.syncSend
  dsimp only
  split
  · split
    · exact h.emit
    · exact SameLatches.ite h.emit.frame (SameLatches.ite h.emit.frame.emit h.emit.frame.bump.emit)
  · exact h.emit.frame
  · exact h.emit
theorem SameLatches.syncAbort (h : SameLatches s t) {src} : SameLatches s (t.syncAbort src) := by
  unfold State.syncAbort
  dsimp only
  split
  · split
    · exact h.emit
    · exact SameLatches.ite h.emit.frame h.emit.frame.emit
  · exact h.emit
theorem SameLatches.syncSendAll (h : SameLatches s t) {l} : SameLatches s (t.syncSendAll l) := h.each fun h _ => h.syncSend
theorem SameLatches.settleObj (h : SameLatches s t) {n o} : SameLatches s (t.settleObj n o) := h.frame.syncSendAll
theorem SameLatches.endWaiters (h : SameLatches s t) {p ans} (hans : ∀ {u}, SameLatches s u → ∀ w, SameLatches s (ans u w)) : SameLatches s (t.endWaiters p ans) :=
  (h.frame.each hans).each fun h _ => h.settleObj
theorem SameLatches.setFlags (h : SameLatches s t) {p n a} : SameLatches s (t.setFlags p n a) := SameLatches.ite h.settleObj h.bump
theorem SameLatches.setPtnState (h : SameLatches s t) {p v'} : SameLatches s (t.setPtnState p v') := h.wr
theorem SameLatches.msix (h : SameLatches s t) {fn entry} : SameLatches s (t.msix fn entry) := SameLatches.ite h.bump (SameLatches.ite h.frame h.emit)
theorem SameLatches.intrToChiplet (h : SameLatches s t) {k p vec} : SameLatches s (t.intrToChiplet k p vec) := SameLatches.ite h.bump (SameLatches.ite h.setSite.emit h.setSite)
theorem SameLatches.deliver (h : SameLatches s t) {p v'} : SameLatches s (t.deliver p v') :=
    SameLatches.ite h (SameLatches.ite h.msix (SameLatches.ite h (SameLatches.ite h.intrToChiplet (SameLatches.ite h.setFlags h))))
theorem SameLatches.post (h : SameLatches s t) {p ctx v'} : SameLatches s (t.post p ctx v') := by
  unfold State.post
  dsimp only
  split
  · exact h.writePpa
  · exact h
theorem SameLatches.raiseVector (h : SameLatches s t) {p v'} : SameLatches s (t.raiseVector p v') := SameLatches.ite h.bump (SameLatches.ite h.wr (SameLatches.ite h.post h.deliver))
theorem SameLatches.setStrand (h : SameLatches s t) {t' n x} : SameLatches s (t.setStrand t' n x) := h.frame
theorem SameLatches.dropStrand (h : SameLatches s t) {t' n} : SameLatches s (t.dropStrand t' n) := h.frame
theorem SameLatches.setWq (h : SameLatches s t) {p q w} : SameLatches s (t.setWq p q w) := h.frame
theorem SameLatches.mapDesc (h : SameLatches s t) {p q idx f} : SameLatches s (t.mapDesc p q idx f) := h.setWq
theorem SameLatches.itemDone (h : SameLatches s t) {p q idx item code} : SameLatches s (t.itemDone p q idx item code) := h.mapDesc
theorem SameLatches.endStrand (h : SameLatches s t) {t' n x} : SameLatches s (t.endStrand t' n x) := by
  unfold State.endStrand
  split
  · exact h.dropStrand.itemDone
  · exact h.dropStrand
theorem SameLatches.settleStrand (h : SameLatches s t) {t' n} : SameLatches s (t.settleStrand t' n) := by
  unfold State.settleStrand
  split
  · exact SameLatches.ite h.endStrand h
  · exact h
theorem SameLatches.haltStrand (h : SameLatches s t) {t' n code} : SameLatches s (t.haltStrand t' n code) := by
  unfold State.haltStrand
  dsimp only
  split
  · exact h
  · split
    · exact h
    · refine SameLatches.settleStrand (SameLatches.setStrand ?_)
      split
      · exact h.bump
      · exact h
theorem SameLatches.haltTile (h : SameLatches s t) {code t'} : SameLatches s (t.haltTile code t') := h.each fun h _ => h.haltStrand
theorem SameLatches.sendSft (h : SameLatches s t) {f} : SameLatches s (t.sendSft f) := h.emit
theorem SameLatches.abortAnswer (h : SameLatches s t) {j k} : SameLatches s (t.abortAnswer j k) := SameLatches.ite h.emit h.emit
theorem SameLatches.abortSites (h : SameLatches s t) {mine} : SameLatches s (t.abortSites mine) := by
  unfold State.abortSites
  dsimp only
  refine h.frame.each fun h _ => ?_
  split
  · exact h.abortAnswer
  · exact h
theorem SameLatches.faultNotice (h : SameLatches s t) {n c scope code} : SameLatches s (t.faultNotice n c scope code) := by
  unfold State.faultNotice
  split
  · exact SameLatches.ite h.sendSft h
  · exact h
theorem SameLatches.faultConns (h : SameLatches s t) {mine scope code} : SameLatches s (t.faultConns mine scope code) := (h.each fun h _ => h.faultNotice).frame
theorem SameLatches.stopWork (h : SameLatches s t) {mine} : SameLatches s (t.stopWork mine) := ((h.each fun h _ => h.haltTile).endWaiters fun h _ => h.syncAbort).frame
theorem SameLatches.safePartition (h : SameLatches s t) {p code} : SameLatches s (t.safePartition p code) := h.stopWork.abortSites.faultConns.emit
theorem SameLatches.restStack (h : SameLatches s t) {h'} : SameLatches s (t.restStack h') := SameLatches.ite h.wr.emit h
theorem SameLatches.abortPattern (h : SameLatches s t) : SameLatches s (t.abortPattern) := SameLatches.ite h.frame.wr h
theorem SameLatches.abortTests (h : SameLatches s t) : SameLatches s (t.abortTests) := SameLatches.ite h.abortPattern.frame.wr.drawn h.abortPattern
theorem SameLatches.safeHub (h : SameLatches s t) {code} : SameLatches s (t.safeHub code) :=
    (h.abortTests.stopWork.abortSites.faultConns.each fun h _ => h.emit).emit.each fun h _ => h.restStack
theorem SameLatches.buffer (h : SameLatches s t) {r} : SameLatches s (t.buffer r) := SameLatches.ite h.frame.bump.wr.drawn h.bump.frame
theorem SameLatches.setBucket (h : SameLatches s t) {code b} : SameLatches s (t.setBucket code b) := h.frame
theorem SameLatches.summarise (h : SameLatches s t) {code} : SameLatches s (t.summarise code) := SameLatches.ite h h.buffer.setBucket
theorem SameLatches.recordEvent (h : SameLatches s t) {code sev ptn raised detail} : SameLatches s (t.recordEvent code sev ptn raised detail) :=
    SameLatches.ite h.summarise.buffer (SameLatches.ite h.summarise.setBucket.buffer h.setBucket)
theorem SameLatches.startFlush (h : SameLatches s t) : SameLatches s (t.startFlush) := SameLatches.ite h (h.each fun h _ => h.summarise).frame
theorem SameLatches.countRaise (h : SameLatches s t) {latch v' esc} : SameLatches s (t.countRaise latch v' esc) :=
    SameLatches.ite (SameLatches.ite h.bumpWord.bumpWord h.bumpWord).bump (SameLatches.ite h.bumpWord.bumpWord h.bumpWord)
theorem SameLatches.awaitTriage (h : SameLatches s t) {latch code v' detail} : SameLatches s (t.awaitTriage latch code v' detail) :=
    SameLatches.ite h (SameLatches.ite h h)
theorem SameLatches.halt (h : SameLatches s t) {p} : SameLatches s (t.halt p) := SameLatches.ite h h.setPtnState.bumpWord
theorem SameLatches.react (h : SameLatches s t) {latch code v'} : SameLatches s (t.react latch code v') := by
  unfold State.react
  extract_lets vectored signalled safe halted _ silent
  have hvectored : SameLatches s vectored := SameLatches.ite h.raiseVector h
  have hsafe : SameLatches s safe := SameLatches.ite (SameLatches.ite hvectored.msix hvectored).halt.safePartition (SameLatches.ite hvectored.msix hvectored)
  have hhalted : SameLatches s halted := SameLatches.each hsafe fun h _ => h.halt
  clear_value safe halted
  have hsilent : SameLatches s silent := hhalted
  exact SameLatches.ite hsilent.safeHub (SameLatches.ite hsafe hsafe)

/-! ## A raise -/

/-- What a latch may become: its first event stands, and what it gathers only grows. -/
structure Latch.Rise (l m : Latch) : Prop where
  code_eq : m.code = l.code
  fsev_eq : m.fsev = l.fsev
  cnt_eq : m.cnt = l.cnt
  beat_eq : m.beat = l.beat
  detail_eq : m.detail = l.detail
  level_le : l.level.rank ≤ m.level.rank
  ovf_keeps : l.ovf = true → m.ovf = true
  esc_keeps : l.esc = true → m.esc = true

theorem Latch.Rise.refl (l : Latch) : l.Rise l := ⟨rfl, rfl, rfl, rfl, rfl, Nat.le_refl _, id, id⟩

theorem Latch.Rise.trans {l m n : Latch} (h : l.Rise m) (h' : m.Rise n) : l.Rise n :=
  ⟨h'.code_eq.trans h.code_eq, h'.fsev_eq.trans h.fsev_eq, h'.cnt_eq.trans h.cnt_eq, h'.beat_eq.trans h.beat_eq, h'.detail_eq.trans h.detail_eq,
    Nat.le_trans h.level_le h'.level_le, h'.ovf_keeps ∘ h.ovf_keeps, h'.esc_keeps ∘ h.esc_keeps⟩

theorem Severity.rank_le_max (a b : Severity) : a.rank ≤ (a.max b).rank := by
  unfold Severity.max
  split <;> omega

/-- A raise at a latch that holds an event only marks it. -/
theorem Latch.rise_latchAfter (l : Latch) (code : Nat) (v : Severity) (esc cnt : Bool) (beat : BitVec 48) (detail : Nat) :
    l.Rise (latchAfter (some l) code v esc cnt beat detail) :=
  ⟨rfl, rfl, rfl, rfl, rfl, Severity.rank_le_max _ _, fun _ => rfl, fun h => by simp [latchAfter, h]⟩

/-- Every latch that held an event holds it still, risen or as it was. -/
def LatchesRise (s t : State) : Prop := ∀ k l, s.owl.latches.find k = some l → ∃ m, t.owl.latches.find k = some m ∧ l.Rise m

theorem SameLatches.rise (h : SameLatches s t) : LatchesRise s t := fun _ l hl => ⟨l, by rw [h]; exact hl, .refl l⟩

theorem LatchesRise.trans (h : LatchesRise s t) (h' : LatchesRise t u) : LatchesRise s u := by
  intro k l hl
  obtain ⟨m, hm, hlm⟩ := h k l hl
  obtain ⟨n, hn, hmn⟩ := h' k m hm
  exact ⟨n, hn, hlm.trans hmn⟩

theorem LatchesRise.ite {c : Prop} [Decidable c] (hu : LatchesRise s u) (hv : LatchesRise s v) : LatchesRise s (if c then u else v) := by
  split <;> assumption

/-- The latch at which an event is raised. -/
theorem latchesRise_setLatch (s : State) (latch code : Nat) (v : Severity) (esc cnt : Bool) (detail : Nat) :
    LatchesRise s { s with owl := { s.owl with
      latches := s.owl.latches.set latch (latchAfter (s.owl.latches.find latch) code v esc cnt s.beat.number detail) } } := by
  intro k l hl
  by_cases hk : k = latch
  · subst hk
    rw [hl]
    exact ⟨_, AMap.find_set_same .., l.rise_latchAfter ..⟩
  · exact ⟨l, (AMap.find_set_ne _ _ _ _ hk).trans hl, .refl l⟩

theorem latchesRise_raiseAt (s : State) (x : Source) (latch code : Nat) (v : Severity) (cnt : Bool) (detail : Nat) :
    LatchesRise s (s.raiseAt x latch code v cnt detail).1 :=
  (latchesRise_setLatch s latch code _ _ cnt detail).trans (SameLatches.refl _).countRaise.awaitTriage.react.rise

theorem latchesRise_report1 (s : State) (e : Event) : LatchesRise s (s.report1 e) := by
  unfold State.report1
  split
  · exact (SameLatches.refl s).rise
  · rename_i x _
    extract_lets c v k _ s' latch r t u
    have hs' : LatchesRise s s' := SameLatches.rise rfl
    split
    · have hr : LatchesRise s r.1 := hs'.trans (latchesRise_raiseAt _ _ _ _ _ _ _)
      have ht : LatchesRise s t := LatchesRise.ite (hr.trans (latchesRise_raiseAt _ _ _ _ _ _ _)) hr
      have hu : LatchesRise s u := ht.trans (SameLatches.refl t).recordEvent.rise
      exact LatchesRise.ite (hu.trans (SameLatches.refl u).startFlush.rise) hu
    · exact hs'.trans (SameLatches.refl s').recordEvent.rise

theorem SameLatches.report1 (h : SameLatches s t) (e : Event) : LatchesRise s (t.report1 e) := h.rise.trans (latchesRise_report1 t e)

theorem latchesRise_sqlSettle (s : State) : LatchesRise s s.sqlSettle := by
  unfold State.sqlSettle
  extract_lets _ s' _ s''
  have hs' : LatchesRise s s' := LatchesRise.ite ((SameLatches.refl s).frame.report1 _) (SameLatches.refl s).rise
  have hs'' : LatchesRise s s'' := LatchesRise.ite (hs'.trans ((SameLatches.refl s').frame.report1 _)) hs'
  refine LatchesRise.ite hs'' (LatchesRise.ite (hs''.trans (SameLatches.refl s'').startFlush.rise) (LatchesRise.ite hs'' ?_))
  exact hs''.trans ((SameLatches.refl s'').frame.report1 _)

theorem latchesRise_report (s : State) (e : Event) : LatchesRise s (s.report e) := (latchesRise_report1 s e).trans (latchesRise_sqlSettle _)

/-- Settles O57: a raise at a latch that holds an event only marks it, and nothing else that an event does touches a latch. -/
theorem latchesOnlyRise : Obligations.LatchesOnlyRise := by
  unfold Obligations.LatchesOnlyRise
  intro s code detail sev ptn k l hl
  obtain ⟨m, hm, hrise⟩ := latchesRise_report s { code, ptn, detail, sev := Severity.ofCode sev } k l hl
  exact ⟨_, m, rfl, hm, hrise.code_eq, hrise.fsev_eq, hrise.cnt_eq, hrise.beat_eq, hrise.detail_eq, hrise.level_le, hrise.ovf_keeps, hrise.esc_keeps⟩

end Sys2Proof.Machine
end

section
/-! Admission (R54, R255): each declaration that is accepted passed the check against those accepted before it. -/

namespace Sys2Proof.Machine

/-- What a step of an iteration keeps, the iteration keeps. -/
theorem each_invariant {β : Type} {f : State → β → State} {P : State → Prop} (h : ∀ s b, P s → P (f s b)) (l : List β) {s : State} (hs : P s) :
    P (s.each l f) := by
  induction l generalizing s with
  | nil => exact hs
  | cons b r ih => exact ih (h s b hs)

theorem admission_of_verdict {s : State} {p : Pend} (h : s.verdict p = .accept) : s.admission p.decl = .accept := by
  unfold State.verdict at h
  split at h
  · cases h
  · exact h

/-- What checking a declaration does to the items of the coming edge: nothing, or it is accepted and comes last. -/
theorem admit1_cases (s : State) (p : Pend) : (s.admit1 p).regs = s.regs ∧ (s.admit1 p).beat.items = s.beat.items
    ∧ ((s.admit1 p).beat.admitted = s.beat.admitted
      ∨ s.admission p.decl = .accept
        ∧ (s.admit1 p).beat.admitted = s.beat.admitted ++ [{ id := p.id, decl := p.decl, done := false, edges := 1 }]) := by
  unfold State.admit1
  split
  · exact ⟨rfl, rfl, .inl rfl⟩
  · split
    · exact ⟨rfl, rfl, .inl rfl⟩
    · exact ⟨rfl, rfl, .inl rfl⟩
    · rename_i hverdict
      exact ⟨rfl, rfl, .inr ⟨admission_of_verdict hverdict, rfl⟩⟩

/-! ## The migration budget (R255) -/

/-- An item is a migration. -/
def Item.isMigration (i : Item) : Bool := match i.decl.kind with
  | .migration _ => true
  | _ => false

theorem migrationsAdmitted_eq (s : State) : s.migrationsAdmitted = (s.beat.admitted.filter Item.isMigration).length := by
  unfold State.migrationsAdmitted
  refine congrArg List.length (List.filter_congr fun i _ => ?_)
  unfold Item.isMigration
  cases i.decl.kind <;> rfl

theorem lt_beatBudget_of_admission {s : State} {d : Declaration} {g : Nat} (hk : d.kind = .migration g) (h : s.admission d = .accept) :
    s.migrationsAdmitted < s.beatBudget := by
  simp only [State.admission, hk] at h
  exact Classical.byContradiction fun hlt => by simp [hlt] at h

theorem admit1_withinBudget {s : State} {p : Pend} (h : s.migrationsAdmitted ≤ s.beatBudget) :
    (s.admit1 p).migrationsAdmitted ≤ (s.admit1 p).beatBudget := by
  obtain ⟨hregs, _, hadmitted⟩ := admit1_cases s p
  have hbudget : (s.admit1 p).beatBudget = s.beatBudget := by simp only [State.beatBudget, State.rd, hregs]
  rw [hbudget, migrationsAdmitted_eq]
  rw [migrationsAdmitted_eq] at h
  rcases hadmitted with hsame | ⟨haccept, hmore⟩
  · rwa [hsame]
  · rw [hmore, List.filter_append, List.length_append]
    cases hmig : Item.isMigration { id := p.id, decl := p.decl, done := false, edges := 1 } with
    | false => simpa [hmig] using h
    | true =>
      cases hk : p.decl.kind with
      | migration g =>
        have := lt_beatBudget_of_admission hk haccept
        rw [migrationsAdmitted_eq] at this
        simpa [hmig] using Nat.succ_le_of_lt this
      | _ => simp [Item.isMigration, hk] at hmig

/-! ## Switches of a partition (R54) -/

/-- An item is a switch of partition `p`. -/
def Item.isSwitchOf (p : Nat) (i : Item) : Bool := i.decl.ptn == some p && clashes i.decl.kind (.switch 0)

/-- At most one switch of `p` is among the items of the coming edge, and the running beat has none. -/
def OneSwitch (p : Nat) (s : State) : Prop := s.beat.items = [] ∧ (s.beat.admitted.filter (Item.isSwitchOf p)).length ≤ 1

/-- A switch that is accepted is the first of its partition. -/
theorem no_switch_of_admission {s : State} {d : Declaration} {p : Nat} (hitems : s.beat.items = []) (hptn : d.ptn = some p)
    (hk : clashes d.kind (.switch 0) = true) (h : s.admission d = .accept) : s.beat.admitted.filter (Item.isSwitchOf p) = [] := by
  cases hkind : d.kind with
  | switch c =>
    simp only [State.admission, hkind] at h
    have hclash : s.clash d = false := by
      split at h
      · cases h
      · exact Bool.eq_false_iff.mpr fun hc => by simp [hc] at h
    simp only [State.clash, hitems, hkind, hptn, List.filter_nil, List.append_nil, List.any_eq_false] at hclash
    refine List.filter_eq_nil_iff.mpr fun i hi hswitch => hclash i hi ?_
    unfold Item.isSwitchOf at hswitch
    cases hki : i.decl.kind <;> simp_all [clashes]
  | _ => simp [clashes, hkind] at hk

theorem admit1_oneSwitch {p : Nat} {s : State} {x : Pend} (h : OneSwitch p s) : OneSwitch p (s.admit1 x) := by
  obtain ⟨hitems, hone⟩ := h
  obtain ⟨_, hkept, hadmitted⟩ := admit1_cases s x
  refine ⟨hkept.trans hitems, ?_⟩
  rcases hadmitted with hsame | ⟨haccept, hmore⟩
  · rwa [hsame]
  · rw [hmore, List.filter_append]
    cases hswitch : Item.isSwitchOf p { id := x.id, decl := x.decl, done := false, edges := 1 } with
    | false => simpa [hswitch] using hone
    | true =>
      simp only [Item.isSwitchOf, Bool.and_eq_true, beq_iff_eq] at hswitch
      rw [no_switch_of_admission hitems hswitch.1 hswitch.2 haccept, List.nil_append]
      exact List.length_filter_le _ [_]

/-- Settles O7: each declaration is checked against those accepted before it, so both limits are kept as admission goes. -/
theorem admissionWithinLimits : Obligations.AdmissionWithinLimits := by
  unfold Obligations.AdmissionWithinLimits
  constructor
  · intro s hs
    have hbudget : (s.each (admitOrder s.beat.decls) State.admit1).beatBudget = s.beatBudget :=
      each_keeps State.admit1 State.beatBudget (fun s p => by simp only [State.beatBudget, State.rd, (admit1_cases s p).1]) _ s
    have hwithin := each_invariant (f := State.admit1) (P := fun s => s.migrationsAdmitted ≤ s.beatBudget) (fun _ _ => admit1_withinBudget)
      (admitOrder s.beat.decls) hs
    rw [hbudget] at hwithin
    exact ⟨hwithin, rfl⟩
  · intro s hnone hitems p
    have hone := each_invariant (f := State.admit1) (P := OneSwitch p) (fun _ _ => admit1_oneSwitch) (admitOrder s.beat.decls)
      (s := s) ⟨hitems, by rw [hnone]; exact Nat.zero_le 1⟩
    have hkind : ∀ i : Item, (i.decl.ptn == some p && (match i.decl.kind with
        | .switch _ => true
        | _ => false)) = i.isSwitchOf p := fun i => by
      unfold Item.isSwitchOf
      cases i.decl.kind <;> rfl
    refine le_of_eq_of_le (congrArg List.length (List.filter_congr fun i _ => ?_)) hone.2
    exact hkind i

end Sys2Proof.Machine
end

section
/-! What a slot serves (R64, R199, R200). -/

namespace Sys2Proof.Machine

/-- A slot of `p` orders and cuts the requests of `p` alone. -/
theorem servable_filter (s : State) (sel p : Nat) (cs : List Cand) :
    s.servable sel (some p) cs = s.servable sel (some p) (cs.filter (fun c => c.ptn == some p)) := by
  have hfilter : cs.filter (fun c => c.res == sel && c.ptn == some p && !s.heldBack c)
      = (cs.filter (fun c => c.ptn == some p)).filter (fun c => c.res == sel && c.ptn == some p && !s.heldBack c) := by
    rw [List.filter_filter]
    refine List.filter_congr fun c _ => ?_
    cases c.ptn == some p <;> simp
  unfold State.servable
  rw [← hfilter]

theorem room_of_sealed {s : State} {h p : Nat} (hs : s.sealedMode p = true) : s.room h (some p) = s.entitlement h p - s.heldBy h (some p) := by
  simp [State.room, hs]

theorem length_servable_le_room {s : State} {h : Nat} (hh : h < 8) (p : Option Nat) (cs : List Cand) :
    (s.servable (selHa h) p cs).length ≤ s.room h p := by
  have hkind : selKind (selHa h) = 0 := Nat.div_eq_of_lt (by rw [selHa]; omega)
  have hnum : selNum (selHa h) = h := Nat.mod_eq_of_lt (by rw [selHa]; omega)
  unfold State.servable
  rw [if_pos hkind, hnum]
  exact List.length_take_le _ _

/-- Settles O9: a slot's requests are picked by their partition first, and a home agent cuts them at the room that the entitlement leaves. -/
theorem slotsIsolate : Obligations.SlotsIsolate := by
  unfold Obligations.SlotsIsolate
  refine ⟨fun s res p cs cs' h => ?_, fun s h p cs hsealed hh => ?_⟩
  · rw [servable_filter, h, ← servable_filter]
  · have hlen := length_servable_le_room hh (some p) cs (s := s)
    rw [room_of_sealed hsealed] at hlen
    omega

end Sys2Proof.Machine
end

section
/-! Where a stage writes (R70, R91): a scalar, vector or reduction stage changes its strand and its tile's program area, or halts its strand. -/

namespace Sys2Proof.Machine

/-- From `s` to `u` every strand but strand `n` of tile `t`, every other tile's program area, memory, configurations and the NoC are as they were. -/
structure StaysIn (t n : Nat) (s u : State) : Prop where
  strands_eq : ∀ k, k ≠ strandKey t n → u.tile.strands.find k = s.tile.strands.find k
  pad_eq : ∀ t', t' ≠ t → u.tile.pad.get t' [] = s.tile.pad.get t' []
  mem_eq : u.mem = s.mem
  cfg_eq : u.tile.cfg = s.tile.cfg
  noc_eq : u.noc = s.noc

/-- No word of tile `t` is uncorrectable. -/
def NoBad (s : State) (t : Nat) : Prop := ∀ w ∈ s.tile.bad, w.1 ≠ t

variable {s u : State} {t n : Nat}

theorem StaysIn.refl (s : State) : StaysIn t n s s := ⟨fun _ _ => rfl, fun _ _ => rfl, rfl, rfl, rfl⟩

theorem StaysIn.trans {v : State} (h : StaysIn t n s u) (h' : StaysIn t n u v) : StaysIn t n s v :=
  ⟨fun k hk => (h'.strands_eq k hk).trans (h.strands_eq k hk), fun t' ht => (h'.pad_eq t' ht).trans (h.pad_eq t' ht), h'.mem_eq.trans h.mem_eq,
    h'.cfg_eq.trans h.cfg_eq, h'.noc_eq.trans h.noc_eq⟩

/-! ## The strand and its tile -/

theorem StaysIn.setStrand (h : StaysIn t n s u) (x : Strand) : StaysIn t n s (u.setStrand t n x) :=
  h.trans ⟨fun _ hk => AMap.find_set_ne _ _ _ _ hk, fun _ _ => rfl, rfl, rfl, rfl⟩

theorem StaysIn.dropStrand (h : StaysIn t n s u) : StaysIn t n s (u.dropStrand t n) :=
  h.trans ⟨fun _ hk => AMap.find_erase_ne _ _ _ hk, fun _ _ => rfl, rfl, rfl, rfl⟩

theorem StaysIn.endStrand (h : StaysIn t n s u) (x : Strand) : StaysIn t n s (u.endStrand t n x) := by
  unfold State.endStrand
  split
  · exact h.dropStrand.trans ⟨fun _ _ => rfl, fun _ _ => rfl, rfl, rfl, rfl⟩
  · exact h.dropStrand

theorem StaysIn.settleStrand (h : StaysIn t n s u) : StaysIn t n s (u.settleStrand t n) := by
  unfold State.settleStrand
  split
  · split
    · exact h.endStrand _
    · exact h
  · exact h

theorem StaysIn.bump (h : StaysIn t n s u) (r : Reg) (i sub k : Nat) : StaysIn t n s (u.bump r i sub k) :=
  h.trans ⟨fun _ _ => rfl, fun _ _ => rfl, rfl, rfl, rfl⟩

theorem StaysIn.haltStrand (h : StaysIn t n s u) (code : Nat) : StaysIn t n s (u.haltStrand t n code) := by
  unfold State.haltStrand
  dsimp only
  split
  · exact h
  · split
    · exact h
    · refine StaysIn.settleStrand (StaysIn.setStrand ?_ _)
      split
      · exact h.bump ..
      · exact h

theorem StaysIn.padWrite (h : StaysIn t n s u) (banks a : Nat) (bs : List Byte) : StaysIn t n s (u.padWrite t banks a bs) :=
  h.trans ⟨fun _ _ => rfl, fun _ ht => AMap.get_put_ne _ _ _ _ _ ht, rfl, rfl, rfl⟩

theorem StaysIn.padWrites {banks : State → Nat} (l : List (Nat × List Byte)) (h : StaysIn t n s u) :
    StaysIn t n s (u.each l (fun s w => s.padWrite t (banks s) w.1 w.2)) := by
  induction l generalizing u with
  | nil => exact h
  | cons w l ih => exact ih (h.padWrite ..)

theorem StaysIn.issued (h : StaysIn t n s u) (g : Stage) : StaysIn t n s (u.issued t n g) :=
  h.trans ⟨fun _ _ => rfl, fun _ _ => rfl, rfl, rfl, rfl⟩

/-! ## Outcomes without an uncorrectable error -/

/-- An outcome that is not a halt by an uncorrectable error. -/
structure NoEcc {α : Type} (r : Except Nat α) : Prop where
  ne : r ≠ .error haltEcc

theorem NoEcc.ok {α : Type} (a : α) : NoEcc (.ok a) := ⟨nofun⟩
theorem NoEcc.bound {α : Type} : NoEcc (.error haltBound : Except Nat α) := ⟨by simp [haltBound, haltEcc]⟩
theorem NoEcc.align {α : Type} : NoEcc (.error haltAlign : Except Nat α) := ⟨by simp [haltAlign, haltEcc]⟩

theorem NoEcc.bind {α β : Type} {r : Except Nat α} {f : α → Except Nat β} (h : NoEcc r) (hf : ∀ a, NoEcc (f a)) : NoEcc (r >>= f) := by
  cases r with
  | error c => exact ⟨fun e => h.ne (by cases e; rfl)⟩
  | ok a => exact hf a

theorem NoEcc.ite {α : Type} {c : Prop} [Decidable c] {r r' : Except Nat α} (h : NoEcc r) (h' : NoEcc r') : NoEcc (if c then r else r') := by
  split <;> assumption

theorem noEcc_programRange (s : State) (p t n : Nat) (x : Strand) (o : Operand) (len : Nat) : NoEcc (s.programRange p t n x o len) :=
  NoEcc.ite .bound (.ok _)

theorem noEcc_writeOperand (s : State) (p t n : Nat) (x : Strand) (o : Operand) (bs : List Byte) : NoEcc (s.writeOperand p t n x o bs) := by
  refine NoEcc.ite (.ok _) (NoEcc.ite (.ok _) ?_)
  have h := noEcc_programRange s p t n x o bs.length
  revert h
  cases s.programRange p t n x o bs.length with
  | error c => exact fun h => ⟨fun e => h.ne (by cases e; rfl)⟩
  | ok a => exact fun _ => .ok _

section
variable (hbad : NoBad s t)
include hbad

theorem noEcc_readOperand (p k : Nat) (x : Strand) (o : Operand) (len : Nat) : NoEcc (s.readOperand p t k x o len) := by
  refine NoEcc.ite (NoEcc.ite .bound (.ok _)) (NoEcc.ite ?_ (.ok _))
  have h := noEcc_programRange s p t k x o len
  revert h
  cases s.programRange p t k x o len with
  | error c => exact fun h => ⟨fun e => h.ne (by cases e; rfl)⟩
  | ok a =>
    have hgood : (wordsOf (s.programBanks p) a len).any (fun w => s.tile.bad.contains (t, w)) = false :=
      List.any_eq_false.mpr fun w _ hw => hbad (t, w) (by simpa using hw) rfl
    intro _
    simp only [hgood]
    exact .ok _

theorem noEcc_readWord (p k : Nat) (x : Strand) (o : Operand) : NoEcc (s.readWord p t k x o) := by
  refine NoEcc.ite (.ok _) (NoEcc.ite (.ok _) (NoEcc.ite .align ?_))
  have h := noEcc_readOperand hbad p k x o 8
  revert h
  cases s.readOperand p t k x o 8 with
  | error c => exact fun h => ⟨fun e => h.ne (by cases e; rfl)⟩
  | ok a => exact fun _ => .ok _

theorem noEcc_readVals (p k : Nat) (x : Strand) (o : Operand) (dst m : Nat) : NoEcc (s.readVals p t k x o dst m) := by
  refine NoEcc.ite (.ok _) ?_
  have h := noEcc_readOperand hbad p k x o (operandLen o.fmt m)
  revert h
  cases s.readOperand p t k x o (operandLen o.fmt m) with
  | error c => exact fun h => ⟨fun e => h.ne (by cases e; rfl)⟩
  | ok a => exact fun _ => .ok _

end

/-! ## Stages -/

theorem StaysIn.stageDone (i : Issue) {r : Except Nat Effect} (h : NoEcc r) : StaysIn t n s (s.stageDone t n i r) := by
  have hissued : StaysIn t n s (s.issued t n i.g) := (StaysIn.refl s).issued i.g
  unfold State.stageDone
  cases r with
  | error c =>
    have hc : c ≠ haltEcc := fun e => h.ne (by rw [e])
    simp only [State.haltAt, if_neg hc]
    exact hissued.haltStrand c
  | ok e => exact (hissued.padWrites (banks := fun s => s.programBanks i.p) e.writes).setStrand _

section
variable (hbad : NoBad s t)
include hbad

theorem StaysIn.scalar2 {op : Nat} {f : Word → Word → Word} : StaysIn t n s (s.scalar2 t n op f) := by
  unfold State.scalar2
  split
  · exact .refl s
  · exact .stageDone _ ((noEcc_readWord hbad ..).bind fun _ => (noEcc_readWord hbad ..).bind fun _ => NoEcc.ite .align (noEcc_writeOperand ..))

theorem StaysIn.scalarCmp : StaysIn t n s (s.scalarCmp t n) := by
  unfold State.scalarCmp
  split
  · exact .refl s
  · exact .stageDone _ ((noEcc_readWord hbad ..).bind fun _ => (noEcc_readWord hbad ..).bind fun _ => .ok _)

omit hbad in
theorem StaysIn.scalarMovi : StaysIn t n s (s.scalarMovi t n) := by
  unfold State.scalarMovi
  split
  · exact .refl s
  · exact .stageDone _ (noEcc_writeOperand ..)

theorem StaysIn.scalarLd : StaysIn t n s (s.scalarLd t n) := by
  unfold State.scalarLd
  split
  · exact .refl s
  · exact .stageDone _ ((noEcc_readWord hbad ..).bind fun _ => noEcc_writeOperand ..)

theorem StaysIn.scalarSt : StaysIn t n s (s.scalarSt t n) := by
  unfold State.scalarSt
  split
  · exact .refl s
  · exact .stageDone _ ((noEcc_readWord hbad ..).bind fun _ => NoEcc.ite .align (noEcc_writeOperand ..))

theorem StaysIn.vec2 {op : Nat} {f : Bool → Val → Val → Val} : StaysIn t n s (s.vec2 t n op f) := by
  unfold State.vec2
  split
  · exact .refl s
  · exact .stageDone _ ((noEcc_readVals hbad ..).bind fun _ => (noEcc_readVals hbad ..).bind fun _ => noEcc_writeOperand ..)

theorem StaysIn.vec1 {op : Nat} {int : Bool} {f : Nat → Val → Val} : StaysIn t n s (s.vec1 t n op int f) := by
  unfold State.vec1
  split
  · exact .refl s
  · exact .stageDone _ ((noEcc_readVals hbad ..).bind fun _ => noEcc_writeOperand ..)

theorem StaysIn.vecFma : StaysIn t n s (s.vecFma t n) := by
  unfold State.vecFma
  split
  · exact .refl s
  · exact .stageDone _ ((noEcc_readVals hbad ..).bind fun _ => (noEcc_readVals hbad ..).bind fun _ => (noEcc_readVals hbad ..).bind fun _ =>
      noEcc_writeOperand ..)

theorem StaysIn.vecCvt : StaysIn t n s (s.vecCvt t n) := by
  unfold State.vecCvt
  split
  · exact .refl s
  · refine .stageDone _ (NoEcc.ite ((noEcc_readVals hbad ..).bind fun _ => NoEcc.ite (noEcc_writeOperand ..) ((noEcc_writeOperand ..).bind fun _ =>
      NoEcc.ite ((noEcc_writeOperand ..).bind fun _ => .ok _) (.ok _))) ((noEcc_readVals hbad ..).bind fun _ => noEcc_writeOperand ..))

theorem StaysIn.vecSelect : StaysIn t n s (s.vecSelect t n) := by
  unfold State.vecSelect
  split
  · exact .refl s
  · exact .stageDone _ ((noEcc_readVals hbad ..).bind fun _ => (noEcc_readVals hbad ..).bind fun _ => noEcc_writeOperand ..)

theorem StaysIn.vecCmplt : StaysIn t n s (s.vecCmplt t n) := by
  unfold State.vecCmplt
  split
  · exact .refl s
  · exact .stageDone _ ((noEcc_readVals hbad ..).bind fun _ => (noEcc_readVals hbad ..).bind fun _ => .ok _)

theorem StaysIn.red {op : Nat} {f : Issue → List Val → List Val} : StaysIn t n s (s.red t n op f) := by
  unfold State.red
  split
  · exact .refl s
  · exact .stageDone _ ((noEcc_readVals hbad ..).bind fun _ => noEcc_writeOperand ..)

theorem StaysIn.redArgmax : StaysIn t n s (s.redArgmax t n) := by
  unfold State.redArgmax
  split
  · exact .refl s
  · exact .stageDone _ ((noEcc_readVals hbad ..).bind fun _ => noEcc_writeOperand ..)

theorem StaysIn.redSort : StaysIn t n s (s.redSort t n) := by
  unfold State.redSort
  split
  · exact .refl s
  · exact .stageDone _ ((noEcc_readVals hbad ..).bind fun _ => (noEcc_readOperand hbad ..).bind fun _ => noEcc_writeOperand ..)

theorem StaysIn.redTopk : StaysIn t n s (s.redTopk t n) := by
  unfold State.redTopk
  split
  · exact .refl s
  · exact .stageDone _ ((noEcc_readVals hbad ..).bind fun _ => (noEcc_readVals hbad ..).bind fun _ => noEcc_writeOperand ..)

omit hbad in
theorem StaysIn.nopStage : StaysIn t n s (s.nopStage t n) := by
  unfold State.nopStage
  split
  · exact .stageDone _ (.ok _)
  · exact .refl s

end

/-- A command whose stage stays in its strand and tile. -/
def StageStays (c : Nat → Nat → TileErr → Instr) : Prop := ∀ (s u : State) (t n : Nat), NoBad s t → exec (c t n .clean) s = .next u → StaysIn t n s u

/-- A command that runs `f` where no error is met. -/
theorem stageStays_of {c : Nat → Nat → TileErr → Instr} {i : Nat → Nat → State → Option Issue} {f : Nat → Nat → State → State}
    (hc : ∀ t n s, exec (c t n .clean) s = .next (s.met t n .clean (i t n s) (f t n))) (hf : ∀ {t n s}, NoBad s t → StaysIn t n s (f t n s)) :
    StageStays c := by
  intro s u t n hbad h
  rw [hc] at h
  cases h
  exact hf hbad

theorem StageStays.scalar2 {c : Nat → Nat → TileErr → Instr} {i : Nat → Nat → State → Option Issue} {op : Nat} {f : Word → Word → Word}
    (hc : ∀ t n s, exec (c t n .clean) s = .next (s.met t n .clean (i t n s) fun s => s.scalar2 t n op f)) : StageStays c :=
  stageStays_of hc fun hbad => StaysIn.scalar2 hbad

theorem StageStays.vec2 {c : Nat → Nat → TileErr → Instr} {i : Nat → Nat → State → Option Issue} {op : Nat} {f : Bool → Val → Val → Val}
    (hc : ∀ t n s, exec (c t n .clean) s = .next (s.met t n .clean (i t n s) fun s => s.vec2 t n op f)) : StageStays c :=
  stageStays_of hc fun hbad => StaysIn.vec2 hbad

theorem StageStays.vec1 {c : Nat → Nat → TileErr → Instr} {i : Nat → Nat → State → Option Issue} {op : Nat} {f : Nat → Val → Val}
    (hc : ∀ t n s, exec (c t n .clean) s = .next (s.met t n .clean (i t n s) fun s => s.vec1 t n op false f)) : StageStays c :=
  stageStays_of hc fun hbad => StaysIn.vec1 hbad

/-- A stage that draws words for NaNs of its lanes (R126). -/
theorem StageStays.vec1_drawn {c : Nat → Nat → TileErr → Instr} {i : Nat → Nat → State → Option Issue} {op k : Nat} {f : State → Nat → Val → Val}
    (hc : ∀ t n s, exec (c t n .clean) s = .next (s.met t n .clean (i t n s) fun s => (s.vec1 t n op true (f s)).drawn k)) : StageStays c :=
  stageStays_of hc fun hbad => (StaysIn.vec1 hbad).trans ⟨fun _ _ => rfl, fun _ _ => rfl, rfl, rfl, rfl⟩

theorem StageStays.red {c : Nat → Nat → TileErr → Instr} {i : Nat → Nat → State → Option Issue} {op : Nat} {f : Issue → List Val → List Val}
    (hc : ∀ t n s, exec (c t n .clean) s = .next (s.met t n .clean (i t n s) fun s => s.red t n op f)) : StageStays c :=
  stageStays_of hc fun hbad => StaysIn.red hbad

/-- The stages of the scalar unit, and NOP. -/
abbrev scalarStageCommands : List (Nat → Nat → TileErr → Instr) :=
  [.scalarAdd, .scalarSub, .scalarAnd, .scalarOr, .scalarXor, .scalarShl, .scalarShr, .scalarMul, .scalarMin, .scalarMax, .scalarCmp, .scalarMov,
   .scalarMovi, .scalarLd, .scalarSt, .nop]

theorem stageStays_scalarStages : ∀ c ∈ scalarStageCommands, StageStays c := by
  simp only [List.forall_mem_cons]
  exact ⟨
    .scalar2 fun _ _ _ => rfl, .scalar2 fun _ _ _ => rfl, .scalar2 fun _ _ _ => rfl, .scalar2 fun _ _ _ => rfl, .scalar2 fun _ _ _ => rfl,
    .scalar2 fun _ _ _ => rfl, .scalar2 fun _ _ _ => rfl, .scalar2 fun _ _ _ => rfl, .scalar2 fun _ _ _ => rfl, .scalar2 fun _ _ _ => rfl,
    stageStays_of (fun _ _ _ => rfl) StaysIn.scalarCmp, .scalar2 fun _ _ _ => rfl,
    stageStays_of (fun _ _ _ => rfl) fun _ => StaysIn.scalarMovi,
    stageStays_of (fun _ _ _ => rfl) StaysIn.scalarLd,
    stageStays_of (fun _ _ _ => rfl) StaysIn.scalarSt,
    stageStays_of (fun _ _ _ => rfl) fun _ => StaysIn.nopStage, nofun⟩

/-- The stages of the vector unit. -/
abbrev vectorStageCommands : List (Nat → Nat → TileErr → Instr) :=
  [.vecAdd, .vecSub, .vecMul, .vecFma, .vecMax, .vecMin, .vecAbs, .vecNeg, .vecCvt, .vecSelect, .vecCmplt, .vecRsqrt, .vecRcp, .vecExp2]

theorem stageStays_vectorStages : ∀ c ∈ vectorStageCommands, StageStays c := by
  simp only [List.forall_mem_cons]
  exact ⟨
    .vec2 fun _ _ _ => rfl, .vec2 fun _ _ _ => rfl, .vec2 fun _ _ _ => rfl,
    stageStays_of (fun _ _ _ => rfl) StaysIn.vecFma, .vec2 fun _ _ _ => rfl, .vec2 fun _ _ _ => rfl,
    .vec1_drawn fun _ _ _ => rfl, .vec1_drawn fun _ _ _ => rfl, stageStays_of (fun _ _ _ => rfl) StaysIn.vecCvt,
    stageStays_of (fun _ _ _ => rfl) StaysIn.vecSelect,
    stageStays_of (fun _ _ _ => rfl) StaysIn.vecCmplt, .vec1 fun _ _ _ => rfl, .vec1 fun _ _ _ => rfl,
    .vec1 fun _ _ _ => rfl, nofun⟩

/-- The stages of the reduction unit. -/
abbrev reductionStageCommands : List (Nat → Nat → TileErr → Instr) :=
  [.redSum, .redMax, .redMin, .redArgmax, .redSort64, .redTopkMerge, .redPrefix, .redSegsum]

theorem stageStays_reductionStages : ∀ c ∈ reductionStageCommands, StageStays c := by
  simp only [List.forall_mem_cons]
  exact ⟨
    .red fun _ _ _ => rfl, .red fun _ _ _ => rfl, .red fun _ _ _ => rfl,
    stageStays_of (fun _ _ _ => rfl) StaysIn.redArgmax,
    stageStays_of (fun _ _ _ => rfl) StaysIn.redSort,
    stageStays_of (fun _ _ _ => rfl) StaysIn.redTopk, .red fun _ _ _ => rfl, .red fun _ _ _ => rfl, nofun⟩

/-- Settles O16: a stage's outcome is an effect on its strand and its tile, or a halt of its strand. -/
theorem stagesStayInTheirTile : Obligations.StagesStayInTheirTile := by
  unfold Obligations.StagesStayInTheirTile
  change ∀ c ∈ scalarStageCommands ++ (vectorStageCommands ++ reductionStageCommands), _
  intro c hc s u t n hbad h
  have hstays : StageStays c :=
    (List.mem_append.mp hc).elim (stageStays_scalarStages c) fun hc =>
      (List.mem_append.mp hc).elim (stageStays_vectorStages c) (stageStays_reductionStages c)
  obtain ⟨hstrands, hpad, hmem, hcfg, hnoc⟩ := hstays s u t n hbad h
  exact ⟨hstrands, hpad, hmem, hcfg, hnoc⟩

end Sys2Proof.Machine
end

section
/-! The snoop filter's record of a line (R329, R333): an agent holds a line through its slot, and a slot that a line names keeps its agent. -/

namespace Sys2Proof.Machine

/-! ## Maps whose keys differ -/

theorem AMap.mem_of_find {α : Type} {m : AMap α} {k : Nat} {v : α} (h : m.find k = some v) : (k, v) ∈ m := by
  induction m with
  | nil => cases h
  | cons e m ih =>
    unfold AMap.find at h
    split at h
    · rename_i hk
      cases h
      exact hk ▸ List.mem_cons_self
    · exact List.mem_cons_of_mem _ (ih h)

theorem AMap.find_of_mem {α : Type} {m : AMap α} (hm : (m.map (fun e => e.1)).Nodup) {k : Nat} {v : α} (h : (k, v) ∈ m) : m.find k = some v := by
  induction m with
  | nil => cases h
  | cons e m ih =>
    obtain ⟨hfirst, hm⟩ := List.nodup_cons.mp hm
    unfold AMap.find
    rcases List.mem_cons.mp h with rfl | h
    · exact if_pos rfl
    · rw [if_neg fun hk => hfirst (List.mem_map.mpr ⟨_, h, hk.symm⟩)]
      exact ih hm h

theorem AMap.find_where {α : Type} (m : AMap α) (q : Nat → Bool) (k : Nat) : (m.where (fun i _ => q i)).find k = if q k then m.find k else none := by
  induction m with
  | nil => exact (ite_self none).symm
  | cons e m ih =>
    by_cases hk : e.1 = k
    · subst hk
      cases hq : q e.1 <;> simp_all [AMap.where, AMap.find]
    · cases hq : q e.1 <;> simp_all [AMap.where, AMap.find]

/-- The first element that satisfies `p` is the first still where others go. -/
theorem find?_filter_of_find? {α : Type} {p q : α → Bool} {l : List α} {a : α} (h : l.find? p = some a) (hq : q a = true) :
    (l.filter q).find? p = some a := by
  induction l with
  | nil => cases h
  | cons b l ih =>
    by_cases hb : p b = true
    · rw [List.find?_cons_of_pos hb] at h
      cases h
      rw [List.filter_cons_of_pos hq, List.find?_cons_of_pos hb]
    · rw [List.find?_cons_of_neg hb] at h
      by_cases hqb : q b = true
      · rw [List.filter_cons_of_pos hqb, List.find?_cons_of_neg hb]
        exact ih h
      · rw [List.filter_cons_of_neg hqb]
        exact ih h

/-! ## Slots and lines of a region -/

theorem Region.mem_of_slotOf {x : Region} {a i : Nat} (h : x.slotOf a = some i) : (i, a) ∈ x.slots := by
  obtain ⟨e, he, rfl⟩ := Option.map_eq_some_iff.mp h
  have ha : e.2 = a := by simpa using List.find?_some he
  exact ha ▸ List.mem_of_find?_eq_some he

theorem Region.not_mem_of_slotOf {x : Region} {a : Nat} (h : x.slotOf a = none) (i : Nat) : (i, a) ∉ x.slots := by
  intro hi
  have := List.find?_eq_none.mp (Option.map_eq_none_iff.mp h) _ hi
  exact this (by simp)

/-- A line that names a slot keeps its agent. -/
theorem Region.named_of_get {m : AMap LineF} {k i : Nat} (h : i ∈ (m.get k {}).pres) : m.any (fun e => e.2.pres.contains i) = true := by
  unfold AMap.get at h
  cases hf : m.find k with
  | none => simp [hf] at h
  | some f => exact List.any_eq_true.mpr ⟨_, AMap.mem_of_find hf, by simpa [hf] using h⟩

theorem Region.find_tidy {x : Region} {k i : Nat} (h : i ∈ (x.lines.get k {}).pres) : x.tidy.slots.find i = x.slots.find i := by
  unfold Region.tidy
  rw [AMap.find_where, if_pos (Region.named_of_get h)]

theorem Region.agentOf_tidy {x : Region} {k i : Nat} (h : i ∈ (x.lines.get k {}).pres) : x.tidy.agentOf i = x.agentOf i := by
  simp only [Region.agentOf, AMap.get, Region.find_tidy h]

theorem Region.slotOf_tidy {x : Region} {k i a : Nat} (h : i ∈ (x.lines.get k {}).pres) (ha : x.slotOf a = some i) : x.tidy.slotOf a = some i := by
  obtain ⟨e, he, rfl⟩ := Option.map_eq_some_iff.mp ha
  exact Option.map_eq_some_iff.mpr ⟨e, find?_filter_of_find? he (Region.named_of_get h), rfl⟩

/-- An agent that is given a slot has it. -/
theorem Region.withAgent_slot {x : Region} {a : Nat} (hkeys : (x.slots.map (fun e => e.1)).Nodup) (hroom : (x.slotOf a).isSome ∨ x.freeSlot.isSome) :
    ∃ i, (x.withAgent a).slotOf a = some i ∧ (x.withAgent a).agentOf i = a ∧ (x.withAgent a).lines = x.lines
      ∧ ((∀ e ∈ x.slots, e.1 < 8) → i < 8) := by
  unfold Region.withAgent
  cases hslot : x.slotOf a with
  | some i =>
    have hmem := Region.mem_of_slotOf hslot
    exact ⟨i, hslot, by simp [Region.agentOf, AMap.get, AMap.find_of_mem hkeys hmem], rfl, fun h => h _ hmem⟩
  | none =>
    obtain ⟨i, hfree⟩ := Option.isSome_iff_exists.mp (hroom.resolve_left (by simp [hslot]))
    simp only [hfree]
    have hi : i < 8 := List.mem_range.mp (List.mem_of_find?_eq_some hfree)
    have hset : (i, a) ∈ x.slots.set i a := AMap.mem_of_find (AMap.find_set_same ..)
    refine ⟨i, ?_, AMap.get_set_same .., trivial, fun _ => hi⟩
    cases hnew : Region.slotOf { x with slots := x.slots.set i a } a with
    | none => exact absurd hset (Region.not_mem_of_slotOf hnew i)
    | some j =>
      rcases AMap.mem_set _ _ _ _ (Region.mem_of_slotOf hnew) with h | h
      · cases h
        rfl
      · exact absurd h (Region.not_mem_of_slotOf hslot j)

/-! ## Grants -/

theorem regionAt_setRegion (s : State) (r : Nat) (x : Region) : (s.setRegion r x).regionAt r = some x := AMap.find_set_same ..

/-- The filter's record of a line after a grant. -/
def granted (f : LineF) (i : Nat) (st : LineState) : LineF :=
  if st = .s then
    { st := if f.st = .o then .o else .s, own := if f.st = .o then f.own else 0
      pres := (List.range 8).filter (fun j => f.pres.contains j || j == i) }
  else { st, own := i, pres := [i] }

/-- The region after a grant to an agent that has slot `i` in `x`. -/
def Region.granting (x : Region) (l i : Nat) (st : LineState) : Region :=
  { x with lines := x.lines.put (l % 32) (granted (x.lines.get (l % 32) {}) i st) {} }

theorem grantLine_eq {s : State} {l a i : Nat} {x : Region} {st : LineState} (hx : s.regionAt (regionOfLine l) = some x)
    (hi : (x.withAgent a).slotOf a = some i) :
    s.grantLine l a st = s.setRegion (regionOfLine l) ((x.withAgent a).granting l i st).tidy := by
  unfold State.grantLine
  simp only [hx, hi]
  rfl

theorem Region.get_granting (x : Region) (l i : Nat) (st : LineState) :
    (x.granting l i st).lines.get (l % 32) {} = granted (x.lines.get (l % 32) {}) i st := AMap.get_put_same ..

section
variable {s : State} {l a : Nat} {x : Region} (hx : s.regionAt (regionOfLine l) = some x) (hkeys : (x.slots.map (fun e => e.1)).Nodup)
  (hroom : (x.slotOf a).isSome ∨ x.freeSlot.isSome)
include hx hkeys hroom

/-- An exclusive grant names the agent's slot alone. -/
theorem grantLine_exclusive {st : LineState} (hst : st = .e ∨ st = .m) : (s.grantLine l a st).holders l = [a] ∧ (s.grantLine l a st).recorded l a = st
    ∧ { s.grantLine l a st with coh := s.coh } = s := by
  obtain ⟨i, hi, hagent, _, _⟩ := Region.withAgent_slot hkeys hroom
  have hgot : ((x.withAgent a).granting l i st).lines.get (l % 32) {} = { st, own := i, pres := [i] } := by
    rw [Region.get_granting, granted, if_neg (by rcases hst with rfl | rfl <;> decide)]
  have hnamed : i ∈ (((x.withAgent a).granting l i st).lines.get (l % 32) {}).pres := by simp [hgot]
  have htidy : ∀ y : Region, y.tidy.lines = y.lines := fun _ => rfl
  rw [grantLine_eq hx hi]
  refine ⟨?_, ?_, rfl⟩
  · simp only [State.holders, regionAt_setRegion, htidy, hgot, List.map_cons, List.map_nil, Region.agentOf_tidy hnamed]
    exact congrArg (fun b => [b]) hagent
  · have hslot : ((x.withAgent a).granting l i st).slotOf a = some i := hi
    simp only [State.recorded, regionAt_setRegion, htidy, hgot, Region.slotOf_tidy hnamed hslot]
    rcases hst with rfl | rfl <;> simp

/-- A shared grant adds the agent's slot. -/
theorem mem_holders_grantLine (hlow : ∀ e ∈ x.slots, e.1 < 8) : a ∈ (s.grantLine l a .s).holders l := by
  obtain ⟨i, hi, hagent, _, hi8⟩ := Region.withAgent_slot hkeys hroom
  have hnamed : i ∈ (((x.withAgent a).granting l i .s).lines.get (l % 32) {}).pres := by
    simp [Region.get_granting, granted, hi8 hlow]
  rw [grantLine_eq hx hi]
  simp only [State.holders, regionAt_setRegion]
  exact List.mem_map.mpr ⟨i, hnamed, (Region.agentOf_tidy hnamed).trans hagent⟩

end

/-! ## Removals -/

theorem holders_eq {s : State} {l : Nat} {x : Region} (hx : s.regionAt (regionOfLine l) = some x) : s.holders l = (s.lineF l).pres.map x.agentOf := by
  simp only [State.holders, State.lineF, hx]

theorem lineF_eq {s : State} {l : Nat} {x : Region} (hx : s.regionAt (regionOfLine l) = some x) : s.lineF l = x.lines.get (l % 32) {} := by
  simp only [State.lineF, hx]

/-- What a change of a line's record leaves as its holders. -/
theorem holders_setLine {s : State} {l : Nat} {x : Region} (hx : s.regionAt (regionOfLine l) = some x) (g : Region → LineF → LineF) :
    (s.setLine l g).holders l = (g x (s.lineF l)).pres.map x.agentOf := by
  rw [lineF_eq hx]
  unfold State.setLine
  simp only [hx, State.holders, regionAt_setRegion]
  have hgot : (Region.tidy { x with lines := x.lines.put (l % 32) (g x (x.lines.get (l % 32) {})) {} }).lines.get (l % 32) {}
      = g x (x.lines.get (l % 32) {}) := AMap.get_put_same ..
  rw [hgot]
  refine List.map_congr_left fun i hi => ?_
  have hi' : i ∈ ((x.lines.put (l % 32) (g x (x.lines.get (l % 32) {})) {}).get (l % 32) {}).pres := by rwa [AMap.get_put_same]
  exact Region.agentOf_tidy (x := { x with lines := x.lines.put (l % 32) (g x (x.lines.get (l % 32) {})) {} }) hi'

/-- Removing an agent takes its slot out of the line's record. -/
theorem holders_removeHolder {s : State} {l a : Nat} {x : Region} (hx : s.regionAt (regionOfLine l) = some x) :
    (s.removeHolder l a).holders l = match x.slotOf a with
      | none => s.holders l
      | some i => ((s.lineF l).pres.filter (· != i)).map x.agentOf := by
  rw [State.removeHolder, holders_setLine hx, holders_eq hx]
  cases x.slotOf a with
  | none => rfl
  | some i =>
    refine congrArg (List.map x.agentOf) ?_
    dsimp only
    split
    · rename_i h
      exact (List.isEmpty_iff.mp h).symm
    · split <;> rfl

/-- Members of a list are told apart by what a map without repetition gives them. -/
theorem eq_of_nodup_map {α β : Type} {f : α → β} {l : List α} (h : (l.map f).Nodup) {x y : α} (hx : x ∈ l) (hy : y ∈ l) (hf : f x = f y) : x = y := by
  induction l with
  | nil => cases hx
  | cons a l ih =>
    obtain ⟨hfirst, hrest⟩ := List.nodup_cons.mp h
    rcases List.mem_cons.mp hx with hxa | hx <;> rcases List.mem_cons.mp hy with hya | hy
    · exact hxa.trans hya.symm
    · exact absurd (List.mem_map.mpr ⟨y, hy, hxa ▸ hf.symm⟩) hfirst
    · exact absurd (List.mem_map.mpr ⟨x, hx, hya ▸ hf⟩) hfirst
    · exact ih hrest hx hy

/-- Settles O24: the agent's slot is in the record after a grant and out of it after a removal, and slots that lines name keep their agents. -/
theorem grantsAreRecorded : Obligations.GrantsAreRecorded := by
  unfold Obligations.GrantsAreRecorded
  refine ⟨fun s l a x st hx hkeys hroom hst => ⟨_, rfl, grantLine_exclusive hx hkeys hroom hst⟩,
    fun s l a x hx hkeys hlow hroom => mem_holders_grantLine hx hkeys hroom hlow, fun s l a x hx hkeys hagents hpres b => ?_⟩
  have hagent : ∀ i ∈ (s.lineF l).pres, (i, x.agentOf i) ∈ x.slots := by
    intro i hi
    obtain ⟨c, hc⟩ := hpres i hi
    simpa [Region.agentOf, AMap.get, AMap.find_of_mem hkeys hc] using hc
  rw [holders_removeHolder hx, holders_eq hx]
  cases hslot : x.slotOf a with
  | none =>
    refine ⟨fun h => ⟨h, ?_⟩, And.left⟩
    rintro rfl
    obtain ⟨i, hi, rfl⟩ := List.mem_map.mp h
    exact Region.not_mem_of_slotOf hslot i (hagent i hi)
  | some i =>
    have hi := Region.mem_of_slotOf hslot
    have hiff : ∀ j ∈ (s.lineF l).pres, x.agentOf j = a ↔ j = i := by
      refine fun j hj => ⟨fun h => ?_, ?_⟩
      · have hj' : (j, a) ∈ x.slots := h ▸ hagent j hj
        exact congrArg Prod.fst (eq_of_nodup_map hagents hj' hi rfl)
      · rintro rfl
        simp [Region.agentOf, AMap.get, AMap.find_of_mem hkeys hi]
    simp only [List.mem_map, List.mem_filter, bne_iff_ne]
    constructor
    · rintro ⟨j, ⟨hj, hne⟩, rfl⟩
      exact ⟨⟨j, hj, rfl⟩, mt (hiff j hj).mp hne⟩
    · rintro ⟨⟨j, hj, rfl⟩, hne⟩
      exact ⟨j, ⟨hj, mt (hiff j hj).mpr hne⟩, rfl⟩

end Sys2Proof.Machine
end

section
/-! The end of a scrub (R420, R424): the granules of the partition are emptied, and no other byte of memory is touched. -/

namespace Sys2Proof.Machine

/-! ## Granules emptied -/

theorem byte_zeroGranule (s : State) (hg a : Nat) : (s.zeroGranule hg).byte a = if a / Config.granule = hg then 0 else s.byte a := by
  have hfind : AMap.find (s.zeroGranule hg).mem a = if a / Config.granule != hg then AMap.find s.mem a else none :=
    AMap.find_where s.mem (fun k => k / Config.granule != hg) a
  simp only [State.byte, AMap.get, hfind]
  by_cases h : a / Config.granule = hg <;> simp [h]

theorem byte_of_mem {s t : State} (h : t.mem = s.mem) (a : Nat) : t.byte a = s.byte a := by rw [State.byte, State.byte, h]

/-- A list of granules, each emptied by `f`, which touches no other byte. -/
theorem byte_each_empty {f : State → Nat → State} (hf : ∀ s hg a, (f s hg).byte a = if a / Config.granule = hg then 0 else s.byte a) (gs : List Nat)
    (s : State) (a : Nat) : (s.each gs f).byte a = if a / Config.granule ∈ gs then 0 else s.byte a := by
  induction gs generalizing s with
  | nil => simp [State.each]
  | cons g gs ih =>
    have hstep : (s.each (g :: gs) f).byte a = if a / Config.granule ∈ gs then 0 else (f s g).byte a := ih (f s g)
    rw [hstep, hf]
    by_cases hg : a / Config.granule = g <;> by_cases hgs : a / Config.granule ∈ gs <;> simp [hg, hgs]

theorem byte_poolGranule (s : State) (p hg a : Nat) : (s.poolGranule p hg).byte a = if a / Config.granule = hg then 0 else s.byte a :=
  byte_zeroGranule s hg a

/-! ## What leaves memory alone -/

theorem mem_msix (s : State) (fn entry : Nat) : (s.msix fn entry).mem = s.mem := by
  unfold State.msix
  split
  · rfl
  · split <;> rfl

theorem mem_exportEnd (s : State) (status : Nat) : (s.exportEnd status).mem = s.mem := by
  unfold State.exportEnd
  split
  · exact mem_msix ..
  · rfl

theorem mem_destroyKey (s : State) (k : Nat) : (s.destroyKey k).mem = s.mem := by
  unfold State.destroyKey State.exportEndOf
  dsimp only
  split
  · split
    · exact mem_exportEnd ..
    · rfl
  · rfl

theorem mem_mapAreas (s : State) (p : Nat) : (s.mapAreas p).mem = s.mem := by
  unfold State.mapAreas
  refine each_keeps _ State.mem (fun s e => ?_) _ s
  dsimp only
  split <;> rfl

theorem mem_release (s : State) (p : Nat) : (s.release p).mem = s.mem := by
  unfold State.release
  extract_lets unbound keyless vectorless queueless groupless closed ts
  have hunbound : unbound.mem = s.mem := each_keeps _ State.mem (by intros; rfl) _ s
  have hkeyless : keyless.mem = unbound.mem := each_keeps _ State.mem (fun s j => mem_destroyKey s (16 * p + j)) _ _
  have hvectorless : vectorless.mem = keyless.mem := each_keeps _ State.mem (by intros; rfl) _ _
  have hqueueless : queueless.mem = vectorless.mem := each_keeps _ State.mem (by intros; rfl) _ _
  have hgroupless : groupless.mem = queueless.mem := each_keeps _ State.mem (by intros; rfl) _ _
  have hclosed : closed.mem = groupless.mem := by simp only [closed, State.clr]
  clear_value closed groupless queueless vectorless keyless unbound
  exact hclosed.trans (hgroupless.trans (hqueueless.trans (hvectorless.trans (hkeyless.trans hunbound))))

/-! ## The end of the scrub -/

/-- A scrub's key is no checkpoint's key. -/
theorem destroyKey_slotScrub (s : State) (p : Nat) :
    s.destroyKey (slotScrub p) = { s with sec := { s.sec with slots := s.sec.slots.erase (slotScrub p) } } := by
  unfold State.destroyKey
  refine if_neg ?_
  simp only [slotScrub, slotCkpt]
  omega

theorem rd_uciBind_scrubbed (s : State) (p k : Nat) : (s.wr .ptnScrubLeft 0 p).rd .uciBind k = s.rd .uciBind k := by
  refine rd_wr_ne _ _ _ _ _ _ _ _ ?_
  simp only [Reg.key, Reg.uciBind, Reg.ptnScrubLeft]
  omega

theorem ownChiplets_scrubbed (s : State) (p q : Nat) : (s.wr .ptnScrubLeft 0 p).ownChiplets q = s.ownChiplets q := by
  simp only [State.ownChiplets, State.sitesOf, State.sharing, rd_uciBind_scrubbed]

theorem ownChiplets_of_regs {s t : State} (h : t.regs = s.regs) (p : Nat) : t.ownChiplets p = s.ownChiplets p := by
  simp only [State.ownChiplets, State.sitesOf, State.sharing, State.rd, h]

/-- The state once the granules are emptied and the partition's tables dropped. -/
def State.scrubbed (s : State) (p : Nat) : State :=
  (((((s.each (s.granulesOf p) State.zeroGranule).destroyKey (slotScrub p)).dropDir p).cachesFlush p).resetObjs p).wr .ptnScrubLeft 0 p

theorem byte_setPtn (s : State) (p : Nat) (x : Ptn) (a : Nat) : (s.setPtn p x).byte a = s.byte a := rfl

theorem byte_mapAreas (s : State) (p a : Nat) : (s.mapAreas p).byte a = s.byte a := byte_of_mem (mem_mapAreas s p) a

theorem byte_destroyKey (s : State) (k a : Nat) : (s.destroyKey k).byte a = s.byte a := byte_of_mem (mem_destroyKey s k) a

theorem byte_drawKey (s : State) (k a : Nat) : (s.drawKey k).byte a = s.byte a := rfl

theorem byte_wr (s : State) (r : Reg) (v u sub a : Nat) : (s.wr r v u sub).byte a = s.byte a := rfl

theorem mem_cleared (s : State) (p : Nat) : ((((s.dropDir p).cachesFlush p).resetObjs p).wr .ptnScrubLeft 0 p).mem = s.mem := rfl

theorem byte_scrubbed (s : State) (p a : Nat) : (s.scrubbed p).byte a = if a / Config.granule ∈ s.granulesOf p then 0 else s.byte a := by
  have hmem : (s.scrubbed p).mem = (s.each (s.granulesOf p) State.zeroGranule).mem := (mem_cleared ..).trans (mem_destroyKey ..)
  rw [byte_of_mem hmem]
  exact byte_each_empty byte_zeroGranule _ s a

theorem ownChiplets_scrubbed_eq (s : State) (p : Nat) : (s.scrubbed p).ownChiplets p = s.ownChiplets p := by
  refine (ownChiplets_scrubbed _ p p).trans (ownChiplets_of_regs ?_ p)
  rw [destroyKey_slotScrub]
  exact each_keeps State.zeroGranule State.regs (fun _ _ => rfl) _ s

/-- A partition's keys and rotation as its scrub leaves them. -/
def State.rekeyed (s : State) (p : Nat) : State :=
  let s := ((s.destroyKey (slotMem p 0)).destroyKey (slotMem p 1)).wr .secRotateState 0 0 p
  let s : State := { s with sec := { s.sec with rotate := s.sec.rotate.erase p } }
  (s.wr .secMemKgen 0 0 p).drawKey (slotMem p 0)

/-- A partition between its scrub and the edge that makes it SEALED again (R423). -/
def State.resealed (s : State) (p : Nat) (gs : List Nat) : State :=
  let s := ((s.rekeyed p).each gs (fun s g => s.poolGranule p g)).mapAreas p
  s.setPtn p { s.ptn p with atEdge := some ptnSealed }

/-- A partition between its scrub and the edge that makes it FREE (R424). -/
def State.dissolved (s : State) (p : Nat) (gs : List Nat) : State :=
  ((s.each gs (fun s g => s.setHgt g (s.idleHgt g))).release p).setPtn p { atEdge := some ptnFree }

theorem byte_rekeyed (s : State) (p a : Nat) : (s.rekeyed p).byte a = s.byte a := by
  have hkeys := (byte_destroyKey (s.destroyKey (slotMem p 0)) (slotMem p 1) a).trans (byte_destroyKey s (slotMem p 0) a)
  exact hkeys

theorem byte_resealed (s : State) (p : Nat) (gs : List Nat) (a : Nat) :
    (s.resealed p gs).byte a = if a / Config.granule ∈ gs then 0 else s.byte a := by
  rw [State.resealed, byte_setPtn, byte_mapAreas, byte_each_empty (fun s => byte_poolGranule s p), byte_rekeyed]

theorem byte_dissolved (s : State) (p : Nat) (gs : List Nat) (a : Nat) : (s.dissolved p gs).byte a = s.byte a := by
  have hfreed := each_keeps (fun s g => s.setHgt g (s.idleHgt g)) State.mem (fun _ _ => rfl) gs s
  rw [State.dissolved, byte_setPtn, byte_of_mem (mem_release ..), byte_of_mem hfreed]

theorem scrubDone_nil {s : State} {p : Nat} (hst : s.ptnState p = ptnScrubbing ∨ s.ptnState p = ptnDissolving) (hedge : (s.ptn p).atEdge = none)
    (hown : s.ownChiplets p = []) : s.scrubDone p [] =
      if s.ptnState p = ptnScrubbing then (s.scrubbed p).resealed p (s.granulesOf p) else (s.scrubbed p).dissolved p (s.granulesOf p) := by
  have hbusy : ¬ ((s.ptnState p ≠ ptnScrubbing ∧ s.ptnState p ≠ ptnDissolving) ∨ (s.ptn p).atEdge.isSome) := by
    rintro (⟨hs, hd⟩ | hsome)
    · exact hst.elim hs hd
    · simp [hedge] at hsome
  have hnone : (s.scrubbed p).each ((s.scrubbed p).ownChiplets p) State.startReset = s.scrubbed p := by
    rw [ownChiplets_scrubbed_eq, hown]
    rfl
  have heach : ∀ f : State → Nat → State, s.each [] f = s := fun _ => rfl
  unfold State.scrubDone State.resealed State.dissolved State.rekeyed
  unfold State.scrubbed at hnone ⊢
  simp only [if_neg hbusy, List.filter_nil, heach, hnone]

/-- Settles O39: each granule is emptied once, and once more where it joins the pool again; nothing else of a scrub's end writes memory. -/
theorem scrubbedMemoryIsZero : Obligations.ScrubbedMemoryIsZero := by
  unfold Obligations.ScrubbedMemoryIsZero
  intro s t p hst hedge hown hexec a
  rw [exec_badgerScrubDone] at hexec
  cases hexec
  rw [scrubDone_nil hst hedge hown]
  split
  · rw [byte_resealed, byte_scrubbed]
    split <;> rfl
  · rw [byte_dissolved, byte_scrubbed]

end Sys2Proof.Machine
end

section
/-! Refused items (R512): an answer that is neither OK nor PENDING leaves the state as it was. -/

namespace Sys2Proof.Machine

/-- An answer that refuses leaves the state as it was. -/
def Answer.RefusedKeeps (s : State) (r : Answer) : Prop := r.1 ≠ stOk → r.1 ≠ stPending → r.2 = s

theorem refusedKeeps_refuse {s : State} {st : Nat} : Answer.RefusedKeeps s (s.refuse st) := fun _ _ => rfl
theorem refusedKeeps_ok {s t : State} : Answer.RefusedKeeps s (stOk, t) := fun h => absurd rfl h
theorem refusedKeeps_pending {s t : State} : Answer.RefusedKeeps s (stPending, t) := fun _ h => absurd rfl h

theorem refusedKeeps_ite {s : State} {c : Prop} [Decidable c] {r r' : Answer} (h : Answer.RefusedKeeps s r) (h' : Answer.RefusedKeeps s r') :
    Answer.RefusedKeeps s (if c then r else r') := by split <;> assumption

theorem applyWrite_refusedKeeps (s : State) (a : Actor) (t : DTarget) (v : Nat) : Answer.RefusedKeeps s (s.applyWrite a t v) := by
  unfold State.applyWrite
  split
  · exact refusedKeeps_refuse
  · exact refusedKeeps_ok
  · exact refusedKeeps_pending
  · exact refusedKeeps_ite refusedKeeps_ok refusedKeeps_refuse
  · exact refusedKeeps_pending
  · exact refusedKeeps_ite refusedKeeps_refuse refusedKeeps_ok

theorem itemWrite_refusedKeeps {s : State} {o : AMap Nat} {a : Actor} {i sub : Nat} {b : List Byte} {x : List Nat} {t : DTarget}
    (ht : dictFind i sub = some t) (hown : s.ownWrite a t b x = none) : Answer.RefusedKeeps s (s.itemWrite o a i sub b x) := by
  unfold State.itemWrite
  simp only [ht, hown]
  exact refusedKeeps_ite refusedKeeps_refuse (refusedKeeps_ite refusedKeeps_refuse (refusedKeeps_ite refusedKeeps_refuse
    (refusedKeeps_ite refusedKeeps_refuse (refusedKeeps_ite refusedKeeps_refuse (applyWrite_refusedKeeps s a t _)))))

/-- What an ATOMIC frame does: it is refused as it stands, or every item of it would be accepted. -/
theorem atomic_cases (s : State) (a : Option Actor) (l : List DictItem) :
    (s.atomic a l).1 ≠ stOk ∧ (s.atomic a l).2.2 = s
    ∨ (s.atomic a l).1 = stOk ∧ ∀ i ∈ l, accepted (s.itemSet (othersOf l i) a i).1.status = true := by
  unfold State.atomic
  dsimp only
  split
  · exact .inl ⟨show stRange ≠ stOk by decide, rfl⟩
  · split
    · rename_i st hst
      have hrefused : (!accepted st) = true := List.find?_some (p := fun st => !accepted st) hst
      refine .inl ⟨?_, rfl⟩
      rintro rfl
      exact absurd hrefused (by decide)
    · rename_i hall
      refine .inr ⟨rfl, fun i hi => ?_⟩
      simpa using List.find?_eq_none.mp hall _ (List.mem_map.mpr ⟨i, hi, rfl⟩)

/-- Settles O50: a refusal is answered before any write, and an ATOMIC frame is written only where every item of it would be accepted. -/
theorem refusedItemsChangeNothing : Obligations.RefusedItemsChangeNothing := by
  unfold Obligations.RefusedItemsChangeNothing
  refine ⟨fun s o a i sub b x t ht hown => itemWrite_refusedKeeps ht hown, fun s a l h => ?_, fun s a l h => ?_, fun s a kind l h2 h3 h6 => ?_⟩
  · exact ((atomic_cases s a l).resolve_right fun hok => h hok.1).2
  · exact ((atomic_cases s a l).resolve_left fun hno => hno.1 h).2
  · unfold State.serveItems
    rw [if_neg h2, if_neg h3, if_neg h6]
    by_cases h7 : kind = 7
    · rw [if_pos h7]
      exact ⟨0, rfl⟩
    · rw [if_neg h7]
      exact ⟨1, rfl⟩

end Sys2Proof.Machine
end

section
/-! The reset state (R527, R198). -/

namespace Sys2Proof.Machine

theorem regs_reset_wf : Regs.wf State.reset.regs = true := by decide +kernel

theorem ptnState_reset : ∀ p < 32, State.reset.rd .ptnState p = ptnFree := by decide +kernel

/-- Settles O5: the reset registers are listed in their order, and the slot tables are those that R198 gives. -/
theorem resetState : Obligations.ResetState := by
  unfold Obligations.ResetState
  refine ⟨⟨rfl, regs_reset_wf⟩, by decide +kernel, .inr (by decide +kernel), rfl, ptnState_reset, rfl, rfl, fun sel slot hsel hslot => ?_⟩
  have hword : State.reset.slotWord sel slot = slotReset sel slot := by
    rw [State.slotWord, if_neg (by omega)]
    rfl
  rw [hword, slotReset, slotEntryOf]
  by_cases hlow : slot < 8
  · by_cases h0 : selKind sel = 0
    · simp [hlow, h0, field]
    · by_cases h4 : selKind sel = 4
      · simp [hlow, h4, field, destAny]
      · simp [hlow, h0, h4, field]
  · simp [hlow, field]

end Sys2Proof.Machine
end

section
/-! The order of keys (R126, R128): keys of one kind are ordered as their places in a linear order, so the largest and the descending order exist. -/

namespace Sys2Proof.Machine

/-- The place of a value in units of 2^z: NaN, −∞, what is negative or −0 by its magnitude, what is positive or +0, +∞. -/
def place (z : Int) : Fp → Int × Int
  | .nan => (-3, 0)
  | .inf true => (-2, 0)
  | .inf false => (2, 0)
  | .fin true m e => (-1, -((m * 2 ^ (e - z).toNat : Nat) : Int))
  | .fin false m e => (1, (m * 2 ^ (e - z).toNat : Nat))

/-- The place of a key. -/
def valPlace (z : Int) : Val → Int × Int
  | .f x => place z x
  | .i n => (0, n)

/-- A unit that every finite value from this exponent on is a multiple of. -/
def Fp.expo : Fp → Int
  | .fin _ _ e => e
  | _ => 0

def Val.expo : Val → Int
  | .f x => x.expo
  | .i _ => 0

/-- The order of places: by the first number, then by the second. -/
def PlaceLt (p q : Int × Int) : Prop := p.1 < q.1 ∨ (p.1 = q.1 ∧ p.2 < q.2)

theorem PlaceLt.asymm {p q : Int × Int} (h : PlaceLt p q) : ¬ PlaceLt q p := by
  unfold PlaceLt at *
  omega

theorem PlaceLt.of_not_lt {p q r : Int × Int} (h : PlaceLt p r) (hq : ¬ PlaceLt p q) : PlaceLt q r := by
  unfold PlaceLt at *
  omega

theorem scale_add {z e g : Int} (he : z ≤ e) (hg : e ≤ g) (n : Nat) : n * 2 ^ (g - z).toNat = n * 2 ^ (g - e).toNat * 2 ^ (e - z).toNat := by
  rw [Nat.mul_assoc, ← Nat.pow_add, show (g - z).toNat = (g - e).toNat + (e - z).toNat by omega]

theorem dyLt_iff {z e g : Int} (he : z ≤ e) (hg : z ≤ g) (m n : Nat) :
    dyLt m e n g = true ↔ m * 2 ^ (e - z).toNat < n * 2 ^ (g - z).toNat := by
  unfold dyLt
  split
  · rename_i h
    rw [decide_eq_true_iff, scale_add he h, Nat.mul_lt_mul_right (Nat.two_pow_pos _)]
  · rename_i h
    rw [decide_eq_true_iff, scale_add (z := z) hg (g := e) (by omega), Nat.mul_lt_mul_right (Nat.two_pow_pos _)]

theorem scale_eq_zero_iff (m k : Nat) : m * 2 ^ k = 0 ↔ m = 0 := by
  rw [Nat.mul_eq_zero, or_iff_left (Nat.ne_of_gt (Nat.two_pow_pos k))]

theorem place_fin (z : Int) (b : Bool) (m : Nat) (e : Int) : place z (.fin b m e) =
    (if b then -1 else 1, if b then -((m * 2 ^ (e - z).toNat : Nat) : Int) else (m * 2 ^ (e - z).toNat : Nat)) := by
  cases b <;> rfl

theorem fpLt_fin_iff {z e g : Int} (he : z ≤ e) (hg : z ≤ g) (a b : Bool) (m n : Nat) :
    fpLt true (.fin a m e) (.fin b n g) = true ↔ PlaceLt (place z (.fin a m e)) (place z (.fin b n g)) := by
  have hlt := dyLt_iff he hg m n
  have hgt := dyLt_iff hg he n m
  have hm := scale_eq_zero_iff m (e - z).toNat
  have hn := scale_eq_zero_iff n (g - z).toNat
  rw [place_fin, place_fin]
  generalize m * 2 ^ (e - z).toNat = x at hlt hgt hm
  generalize n * 2 ^ (g - z).toNat = y at hlt hgt hn
  by_cases hmz : m = 0 <;> by_cases hnz : n = 0 <;> cases a <;> cases b <;> simp [fpLt, PlaceLt, hmz, hnz, hlt, hgt] <;> omega

theorem keyLt_f_iff {z : Int} {x y : Fp} (hx : z ≤ x.expo) (hy : z ≤ y.expo) : keyLt (.f x) (.f y) = true ↔ PlaceLt (place z x) (place z y) := by
  have hkey : keyLt (.f x) (.f y) = if y.isNan then false else if x.isNan then true else fpLt true x y := rfl
  rw [hkey]
  cases x with
  | nan => cases y with
    | nan => simp [Fp.isNan, place, PlaceLt]
    | inf b => cases b <;> simp [Fp.isNan, place, PlaceLt]
    | fin b n g => cases b <;> simp [Fp.isNan, place, PlaceLt]
  | inf a => cases y with
    | nan => cases a <;> simp [Fp.isNan, place, PlaceLt]
    | inf b => cases a <;> cases b <;> simp [Fp.isNan, fpLt, place, PlaceLt]
    | fin b n g => cases a <;> cases b <;> simp [Fp.isNan, fpLt, place, PlaceLt]
  | fin a m e => cases y with
    | nan => cases a <;> simp [Fp.isNan, place, PlaceLt]
    | inf b => cases a <;> cases b <;> simp [Fp.isNan, fpLt, place, PlaceLt]
    | fin b n g => exact fpLt_fin_iff hx hy a b m n

/-- Keys of one kind: all of them floating-point, or all integers. -/
def OneKind (k : Val → Prop) : Prop := (∀ v, k v → ∃ x, v = .f x) ∨ (∀ v, k v → ∃ x, v = .i x)

theorem keyLt_iff {k : Val → Prop} (hk : OneKind k) {a b : Val} (ha : k a) (hb : k b) {z : Int} (hza : z ≤ a.expo) (hzb : z ≤ b.expo) :
    keyLt a b = true ↔ PlaceLt (valPlace z a) (valPlace z b) := by
  rcases hk with hf | hi
  · obtain ⟨x, rfl⟩ := hf a ha
    obtain ⟨y, rfl⟩ := hf b hb
    exact keyLt_f_iff hza hzb
  · obtain ⟨x, rfl⟩ := hi a ha
    obtain ⟨y, rfl⟩ := hi b hb
    simp [keyLt, valPlace, PlaceLt]

theorem keyLt_asymm {k : Val → Prop} (hk : OneKind k) {a b : Val} (ha : k a) (hb : k b) (h : keyLt a b = true) : keyLt b a = false := by
  have hza : min a.expo b.expo ≤ a.expo := by omega
  have hzb : min a.expo b.expo ≤ b.expo := by omega
  rw [← Bool.not_eq_true, keyLt_iff hk hb ha hzb hza]
  exact ((keyLt_iff hk ha hb hza hzb).mp h).asymm

theorem keyLt_irrefl {k : Val → Prop} (hk : OneKind k) {a : Val} (ha : k a) : keyLt a a = false := by
  cases h : keyLt a a with
  | false => rfl
  | true => exact h.symm.trans (keyLt_asymm hk ha ha h)

/-- What is no greater than a lesser key is less. -/
theorem keyLt_of_not_lt {k : Val → Prop} (hk : OneKind k) {a b c : Val} (ha : k a) (hb : k b) (hc : k c) (h : keyLt a c = true)
    (hab : keyLt a b = false) : keyLt b c = true := by
  have hza : min (min a.expo b.expo) c.expo ≤ a.expo := by omega
  have hzb : min (min a.expo b.expo) c.expo ≤ b.expo := by omega
  have hzc : min (min a.expo b.expo) c.expo ≤ c.expo := by omega
  rw [← Bool.not_eq_true, keyLt_iff hk ha hb hza hzb] at hab
  exact (keyLt_iff hk hb hc hzb hzc).mpr (((keyLt_iff hk ha hc hza hzc).mp h).of_not_lt hab)

/-- Induction over a list from its end. -/
theorem reverseInduction {α : Type} {P : List α → Prop} (nil : P []) (snoc : ∀ l x, P l → P (l ++ [x])) (l : List α) : P l := by
  have hrev : ∀ r : List α, P r.reverse := fun r => by
    induction r with
    | nil => exact nil
    | cons x r ih =>
      rw [List.reverse_cons]
      exact snoc _ x ih
  rw [← List.reverse_reverse l]
  exact hrev l.reverse

/-! ## The largest key -/

/-- The better of the best so far and the next element. -/
def bestStep (b : Option (Val × Nat)) (e : Val × Nat) : Option (Val × Nat) :=
  match b with
  | none => some e
  | some m => if keyLt m.1 e.1 then some e else some m

theorem argMax_eq (l : List Val) : argMax l = (l.zipIdx.foldl bestStep none).elim 0 (·.2) := by
  unfold argMax
  congr

/-- The best of a list: no element is greater, and every element before it is less. -/
def IsBest (l : List Val) (m : Val × Nat) : Prop :=
  l[m.2]? = some m.1 ∧ (∀ v ∈ l, keyLt m.1 v = false) ∧ ∀ v ∈ l.take m.2, keyLt v m.1 = true

/-- What the best of a list says. -/
def BestOf (l : List Val) : Option (Val × Nat) → Prop
  | none => l = []
  | some m => IsBest l m

theorem bestOf_foldl {k : Val → Prop} (hk : OneKind k) (l : List Val) (hl : ∀ v ∈ l, k v) : BestOf l (l.zipIdx.foldl bestStep none) := by
  induction l using reverseInduction with
  | nil => rfl
  | snoc l x ih =>
    have hx : k x := hl x (by simp)
    have hl' : ∀ v ∈ l, k v := fun v hv => hl v (by simp [hv])
    have ih := ih hl'
    rw [List.zipIdx_append, List.foldl_append]
    cases hbest : l.zipIdx.foldl bestStep none with
    | none =>
      rw [hbest] at ih
      obtain rfl : l = [] := ih
      have hself : keyLt x x = false := keyLt_irrefl hk hx
      simp [bestStep, BestOf, IsBest, hself]
    | some m =>
      rw [hbest] at ih
      obtain ⟨hget, hmax, hfirst⟩ := ih
      have hmem : m.1 ∈ l := List.mem_of_getElem? hget
      have hlt : m.2 < l.length := (List.getElem?_eq_some_iff.mp hget).1
      simp only [List.zipIdx_cons, List.zipIdx_nil, List.foldl_cons, List.foldl_nil, Nat.zero_add, bestStep]
      by_cases hless : keyLt m.1 x = true
      · rw [if_pos hless]
        have hbelow : ∀ v ∈ l, keyLt v x = true := fun v hv => keyLt_of_not_lt hk (hl' _ hmem) (hl' v hv) hx hless (hmax v hv)
        refine ⟨by simp, ?_, ?_⟩
        · intro v hv
          rcases List.mem_append.mp hv with hv | hv
          · exact keyLt_asymm hk (hl' v hv) hx (hbelow v hv)
          · rw [List.mem_singleton.mp hv]
            exact keyLt_irrefl hk hx
        · intro v hv
          exact hbelow v (by simpa using hv)
      · rw [if_neg hless]
        refine ⟨by rw [List.getElem?_append_left hlt, hget], ?_, by rwa [List.take_append_of_le_length (Nat.le_of_lt hlt)]⟩
        intro v hv
        rcases List.mem_append.mp hv with hv | hv
        · exact hmax v hv
        · rw [List.mem_singleton.mp hv]
          simpa using hless

/-- The element at `argMax` is the largest, the first of its size. -/
theorem argMax_isBest {k : Val → Prop} (hk : OneKind k) {l : List Val} (hl : ∀ v ∈ l, k v) {m : Val} (hm : l[argMax l]? = some m) :
    (∀ v ∈ l, keyLt m v = false) ∧ ∀ v ∈ l.take (argMax l), keyLt v m = true := by
  have hbest := bestOf_foldl hk l hl
  rw [argMax_eq] at hm ⊢
  cases hfold : l.zipIdx.foldl bestStep none with
  | none =>
    rw [hfold] at hbest
    obtain rfl : l = [] := hbest
    simp at hm
  | some b =>
    rw [hfold] at hbest hm
    obtain ⟨hget, hmax, hfirst⟩ := hbest
    have hmb : b.1 = m := Option.some.inj (hget.symm.trans hm)
    exact hmb ▸ ⟨hmax, hfirst⟩

/-! ## The descending order -/

theorem insertDesc_perm {α : Type} (x : Val × α) (l : List (Val × α)) : (insertDesc x l).Perm (x :: l) := by
  induction l with
  | nil => exact .refl _
  | cons y r ih =>
    unfold insertDesc
    split
    · exact .refl _
    · exact (ih.cons y).trans (.swap x y r)

/-- A list in descending order: no key is less than a later one. -/
def Descending {α : Type} (l : List (Val × α)) : Prop := l.Pairwise (fun x y => keyLt x.1 y.1 = false)

theorem insertDesc_descending {α : Type} {k : Val → Prop} (hk : OneKind k) {x : Val × α} {l : List (Val × α)} (hx : k x.1) (hl : ∀ y ∈ l, k y.1)
    (h : Descending l) : Descending (insertDesc x l) := by
  induction l with
  | nil => exact List.pairwise_singleton _ x
  | cons y r ih =>
    obtain ⟨hy, hr⟩ := List.forall_mem_cons.mp hl
    obtain ⟨hfirst, hrest⟩ := List.pairwise_cons.mp h
    unfold insertDesc
    split
    · rename_i hless
      refine List.pairwise_cons.mpr ⟨List.forall_mem_cons.mpr ⟨?_, fun z hz => ?_⟩, h⟩
      · exact keyLt_asymm hk hy hx hless
      · exact keyLt_asymm hk (hr z hz) hx (keyLt_of_not_lt hk hy (hr z hz) hx hless (hfirst z hz))
    · rename_i hless
      refine List.pairwise_cons.mpr ⟨fun z hz => ?_, ih hr hrest⟩
      rcases List.mem_cons.mp ((insertDesc_perm x r).mem_iff.mp hz) with rfl | hz
      · simpa using hless
      · exact hfirst z hz

theorem sortDesc_snoc {α : Type} (l : List (Val × α)) (x : Val × α) : sortDesc (l ++ [x]) = insertDesc x (sortDesc l) := List.foldl_append ..

theorem sortDesc_perm {α : Type} (l : List (Val × α)) : (sortDesc l).Perm l := by
  induction l using reverseInduction with
  | nil => exact .refl _
  | snoc l x ih =>
    rw [sortDesc_snoc]
    exact (insertDesc_perm x _).trans ((ih.cons x).trans (List.perm_append_singleton x l).symm)

theorem sortDesc_descending {α : Type} {k : Val → Prop} (hk : OneKind k) {l : List (Val × α)} (hl : ∀ y ∈ l, k y.1) : Descending (sortDesc l) := by
  induction l using reverseInduction with
  | nil => exact List.Pairwise.nil
  | snoc l x ih =>
    have hl' : ∀ y ∈ l, k y.1 := fun y hy => hl y (by simp [hy])
    rw [sortDesc_snoc]
    exact insertDesc_descending hk (hl x (by simp)) (fun y hy => hl' y ((sortDesc_perm l).mem_iff.mp hy)) (ih hl')

end Sys2Proof.Machine
end

section
/-! Scalar stages (R82): two operands, a value, its flags and its place. -/

namespace Sys2Proof.Machine

variable {s : State} {t n : Nat} {i : Issue}

/-! ## The outcome of a stage -/

theorem word_toLe (v : Word) : BitVec.ofNat 64 (leNat ((toLe 8 v.toNat).take 8)) = v := by
  rw [List.take_of_length_le (by simp), leNat_toLe]
  exact BitVec.eq_of_toNat_eq (by simpa using v.isLt)

theorem writeOperand_reg {p : Nat} {x : Strand} {o : Operand} (h : o.space = 1) (v : Word) :
    s.writeOperand p t n x o (toLe 8 v.toNat) = .ok { x := x.setReg o.reg v, writes := [] } := by
  rw [State.writeOperand, if_pos h, word_toLe]

theorem writeOperand_none {p : Nat} {x : Strand} {o : Operand} (h : o.space = 0) (bs : List Byte) :
    s.writeOperand p t n x o bs = .ok { x, writes := [] } := by
  rw [State.writeOperand, if_neg (by omega), if_pos h]

theorem writeOperand_area {p : Nat} {x : Strand} {o : Operand} (h0 : o.space ≠ 0) (h1 : o.space ≠ 1) {bs : List Byte}
    (hfit : s.operandAddr t n x o + bs.length ≤ s.programBytes p) :
    s.writeOperand p t n x o bs = .ok { x, writes := [(s.operandAddr t n x o, bs)] } := by
  rw [State.writeOperand, if_neg h1, if_neg h0, State.programRange]
  simp only [if_neg (Nat.not_lt.mpr hfit)]

theorem stageDone_error (c : Nat) : s.stageDone t n i (.error c) = (s.issued t n i.g).haltAt i.p t n c := rfl

theorem stageDone_strand (x : Strand) : s.stageDone t n i (.ok { x, writes := [] }) = (s.issued t n i.g).setStrand t n (x.complete i.g) := rfl

theorem stageDone_write (x : Strand) (a : Nat) (bs : List Byte) : s.stageDone t n i (.ok { x, writes := [(a, bs)] }) =
    ((s.issued t n i.g).padWrite t (s.programBanks i.p) a bs).setStrand t n (x.complete i.g) := rfl

/-! ## Two-operand scalar stages -/

theorem scalar2_ok {op : Nat} {f : Word → Word → Word} (hi : s.issues t n 1 op = some i) {a b : Word}
    (ha : s.readWord i.p t n i.x i.g.src0 = .ok a) (hb : s.readWord i.p t n i.x i.g.src1 = .ok b) : s.scalar2 t n op f = s.stageDone t n i
      (if i.g.dst.space ≠ 1 ∧ i.g.dst.space ≠ 0 ∧ s.operandAddr t n i.x i.g.dst % 8 ≠ 0 then .error haltAlign
        else s.writeOperand i.p t n (i.x.flags (f a b)) i.g.dst (toLe 8 (f a b).toNat)) := by
  simp only [State.scalar2, hi, ha, hb]
  rfl

theorem scalar2_error {op c : Nat} {f : Word → Word → Word} (hi : s.issues t n 1 op = some i)
    (ha : s.readWord i.p t n i.x i.g.src0 = .error c) : s.scalar2 t n op f = (s.issued t n i.g).haltAt i.p t n c := by
  simp only [State.scalar2, hi, ha]
  rfl

/-- Where an operand lies does not depend on the strand's flags. -/
theorem operandAddr_flags (x : Strand) (v : Word) (o : Operand) : s.operandAddr t n (x.flags v) o = s.operandAddr t n x o := rfl

/-- A command that is a scalar stage of an operation. -/
def IsScalar2 (e : (Nat → Nat → TileErr → Instr) × Nat × (Word → Word → Word)) : Prop :=
  ∀ t n s, exec (e.1 t n .clean) s = .next (s.scalar2 t n e.2.1 e.2.2)

theorem isScalar2_of {c : Nat → Nat → TileErr → Instr} {op : Nat} {f g : Word → Word → Word} (hf : f = g)
    (h : ∀ t n s, exec (c t n .clean) s = .next (s.met t n .clean (s.issues t n 1 op) fun s => s.scalar2 t n op f)) : IsScalar2 (c, op, g) :=
  fun t n s => hf ▸ h t n s

/-- The scalar stages of two operands with their operations. -/
theorem scalar2_stages : ∀ e ∈ ([(.scalarAdd, 0x00, fun a b => a + b), (.scalarSub, 0x01, fun a b => a - b), (.scalarAnd, 0x02, fun a b => a &&& b),
      (.scalarOr, 0x03, fun a b => a ||| b), (.scalarXor, 0x04, fun a b => a ^^^ b), (.scalarShl, 0x05, fun a b => a <<< (b.toNat % 64)),
      (.scalarShr, 0x06, fun a b => a >>> (b.toNat % 64)), (.scalarMul, 0x07, fun a b => a * b),
      (.scalarMin, 0x08, fun a b => if b.toInt < a.toInt then b else a), (.scalarMax, 0x09, fun a b => if a.toInt < b.toInt then b else a),
      (.scalarMov, 0x0B, fun a _ => a)] : List ((Nat → Nat → TileErr → Instr) × Nat × (Word → Word → Word))), IsScalar2 e := by
  have hmin : (fun a b : Word => if b.slt a then b else a) = fun a b => if b.toInt < a.toInt then b else a := by
    funext a b
    simp [BitVec.slt]
  have hmax : (fun a b : Word => if a.slt b then b else a) = fun a b => if a.toInt < b.toInt then b else a := by
    funext a b
    simp [BitVec.slt]
  simp only [List.forall_mem_cons]
  exact ⟨isScalar2_of rfl fun _ _ _ => rfl, isScalar2_of rfl fun _ _ _ => rfl, isScalar2_of rfl fun _ _ _ => rfl,
    isScalar2_of rfl fun _ _ _ => rfl, isScalar2_of rfl fun _ _ _ => rfl, isScalar2_of rfl fun _ _ _ => rfl, isScalar2_of rfl fun _ _ _ => rfl,
    isScalar2_of rfl fun _ _ _ => rfl, isScalar2_of hmin fun _ _ _ => rfl, isScalar2_of hmax fun _ _ _ => rfl, isScalar2_of rfl fun _ _ _ => rfl,
    nofun⟩

/-! ## The other scalar stages -/

theorem scalarCmp_eq {a b : Word} (hi : s.issues t n 1 0x0A = some i) (ha : s.readWord i.p t n i.x i.g.src0 = .ok a)
    (hb : s.readWord i.p t n i.x i.g.src1 = .ok b) : exec (.scalarCmp t n .clean) s = .next ((s.issued t n i.g).setStrand t n
      ({ i.x with zf := decide (a = b), nf := decide (a.toInt < b.toInt) }.complete i.g)) := by
  have hexec : exec (.scalarCmp t n .clean) s = .next (s.scalarCmp t n) := rfl
  simp only [hexec, State.scalarCmp, hi, ha, hb]
  rfl

theorem scalarMovi_eq (hi : s.issues t n 1 0x0C = some i) (hdst : i.g.dst.space = 1) :
    exec (.scalarMovi t n .clean) s = .next ((s.issued t n i.g).setStrand t n
      (((i.x.flags (BitVec.ofNat 64 i.g.aux)).setReg i.g.dst.reg (BitVec.ofNat 64 i.g.aux)).complete i.g)) := by
  have hexec : exec (.scalarMovi t n .clean) s = .next (s.scalarMovi t n) := rfl
  have hword : BitVec.ofNat 64 (leNat ((toLe 8 i.g.aux).take 8)) = BitVec.ofNat 64 i.g.aux := by
    rw [List.take_of_length_le (by simp), leNat_toLe]
    exact BitVec.eq_of_toNat_eq (by simp)
  simp only [hexec, State.scalarMovi, hi]
  rw [State.writeOperand, if_pos hdst, hword, stageDone_strand]

theorem scalarLd_eq {v : Word} (hi : s.issues t n 1 0x0D = some i) (hdst : i.g.dst.space = 1) (hv : s.readWord i.p t n i.x i.g.src0 = .ok v) :
    exec (.scalarLd t n .clean) s = .next ((s.issued t n i.g).setStrand t n (((i.x.flags v).setReg i.g.dst.reg v).complete i.g)) := by
  have hexec : exec (.scalarLd t n .clean) s = .next (s.scalarLd t n) := rfl
  have hstage : s.scalarLd t n = s.stageDone t n i (s.writeOperand i.p t n (i.x.flags v) i.g.dst (toLe 8 v.toNat)) := by
    simp only [State.scalarLd, hi, hv]
    rfl
  rw [hexec, hstage, writeOperand_reg hdst, stageDone_strand]

theorem scalarSt_eq {v : Word} (hi : s.issues t n 1 0x0E = some i) (h0 : i.g.dst.space ≠ 0) (h1 : i.g.dst.space ≠ 1)
    (hv : s.readWord i.p t n i.x i.g.src0 = .ok v) (halign : s.operandAddr t n i.x i.g.dst % 8 = 0)
    (hfit : s.operandAddr t n i.x i.g.dst + 8 ≤ s.programBytes i.p) :
    exec (.scalarSt t n .clean) s = .next (((s.issued t n i.g).padWrite t (s.programBanks i.p) (s.operandAddr t n i.x i.g.dst)
      (toLe 8 v.toNat)).setStrand t n (i.x.complete i.g)) := by
  have hexec : exec (.scalarSt t n .clean) s = .next (s.scalarSt t n) := rfl
  have hstage : s.scalarSt t n = s.stageDone t n i (if s.operandAddr t n i.x i.g.dst % 8 ≠ 0 then .error haltAlign
      else s.writeOperand i.p t n i.x i.g.dst (toLe 8 v.toNat)) := by
    simp only [State.scalarSt, hi, hv]
    rfl
  rw [hexec, hstage, if_neg (by omega), writeOperand_area h0 h1 (by rwa [toLe_length]), stageDone_write]

theorem nopStage_eq (hi : s.issues t n 0 0 = some i) :
    exec (.nop t n .clean) s = .next ((s.issued t n i.g).setStrand t n (i.x.complete i.g)) := by
  have hexec : exec (.nop t n .clean) s = .next (s.nopStage t n) := rfl
  simp only [hexec, State.nopStage, hi, stageDone_strand]

/-! ## Reduction stages -/

/-- A command that is a reduction of SRC0's elements. -/
def IsRed (e : (Nat → Nat → TileErr → Instr) × Nat × (Issue → List Val → List Val)) : Prop :=
  ∀ t n s, exec (e.1 t n .clean) s = .next (s.red t n e.2.1 e.2.2)

theorem isRed_of {c : Nat → Nat → TileErr → Instr} {op : Nat} {f : Issue → List Val → List Val}
    (h : ∀ t n s, exec (c t n .clean) s = .next (s.met t n .clean (s.issues t n 3 op) fun s => s.red t n op f)) : IsRed (c, op, f) := h

theorem red_stages : ∀ e ∈ ([(.redSum, 0x00, fun i l => [treeSum (valAdd i.g.sat) treeDepth l]), (.redMax, 0x01, fun _ l => [valBest valMax l]),
      (.redMin, 0x02, fun _ l => [valBest valMin l]), (.redPrefix, 0x06, fun i l => segSums (valAdd i.g.sat) [] l),
      (.redSegsum, 0x07, fun i l => segSums (valAdd i.g.sat) (((List.range i.g.count).filter
        (fun k => (i.x.reg (i.g.aux % 8)).toNat.testBit k)).map (fun k => k * laneFactor i.g.src0.fmt)) l)] :
      List ((Nat → Nat → TileErr → Instr) × Nat × (Issue → List Val → List Val))), IsRed e := by
  simp only [List.forall_mem_cons]
  exact ⟨isRed_of fun _ _ _ => rfl, isRed_of fun _ _ _ => rfl, isRed_of fun _ _ _ => rfl, isRed_of fun _ _ _ => rfl, isRed_of fun _ _ _ => rfl,
    nofun⟩

theorem red_eq {op : Nat} {f : Issue → List Val → List Val} {a : List Val} {w : Effect} (hi : s.issues t n 3 op = some i)
    (ha : s.readVals i.p t n i.x i.g.src0 (redFmt i.g) (i.g.count * laneFactor i.g.src0.fmt) = .ok a)
    (hw : s.writeVals t n i (f i a) = .ok w) : s.red t n op f = s.stageDone t n i (.ok w) := by
  simp only [State.red, hi, ha]
  exact congrArg (s.stageDone t n i) hw

theorem redArgmax_eq {a : List Val} {w : Effect} (hi : s.issues t n 3 0x03 = some i)
    (ha : s.readVals i.p t n i.x i.g.src0 (redFmt i.g) (i.g.count * laneFactor i.g.src0.fmt) = .ok a)
    (hw : s.writeOperand i.p t n i.x i.g.dst (toLe 4 (argMax a)) = .ok w) : exec (.redArgmax t n .clean) s = .next (s.stageDone t n i (.ok w)) := by
  have hexec : exec (.redArgmax t n .clean) s = .next (s.redArgmax t n) := rfl
  simp only [hexec, State.redArgmax, hi, ha]
  exact congrArg (fun r => Host.Outcome.next (s.stageDone t n i r)) hw

theorem redSort_eq {a : List Val} {b : List Byte} {w : Effect} {l : List (Val × Nat)} (hi : s.issues t n 3 0x04 = some i)
    (ha : s.readVals i.p t n i.x i.g.src0 (redFmt i.g) 64 = .ok a)
    (hb : s.readOperand i.p t n i.x i.g.src1 (64 * elemBits i.g.src1.fmt / 8) = .ok b)
    (hl : l = sortDesc (a.zip ((List.range 64).map (elemAt (leNat b) (elemBits i.g.src1.fmt)))))
    (hw : s.writeOperand i.p t n i.x i.g.dst (operandBytes i.g.dst.fmt i.g.sat false (fun _ => .nearest) (l.map (fun e => e.1))
      ++ packElems (elemBits i.g.src1.fmt) (8 * elemBits i.g.src1.fmt) (l.map (fun e => e.2))) = .ok w) :
    exec (.redSort64 t n .clean) s = .next (s.stageDone t n i (.ok w)) := by
  have hexec : exec (.redSort64 t n .clean) s = .next (s.redSort t n) := rfl
  subst hl
  simp only [hexec, State.redSort, hi, ha, hb]
  exact congrArg (fun r => Host.Outcome.next (s.stageDone t n i r)) hw

theorem redTopk_eq {a b : List Val} {w : Effect} (hi : s.issues t n 3 0x05 = some i)
    (ha : s.readVals i.p t n i.x i.g.src0 (redFmt i.g) 64 = .ok a) (hb : s.readVals i.p t n i.x i.g.src1 (redFmt i.g) 64 = .ok b)
    (hw : s.writeVals t n i (((sortDesc ((a ++ b).map (fun v => (v, ())))).take 64).map (fun e => e.1)) = .ok w) :
    exec (.redTopkMerge t n .clean) s = .next (s.stageDone t n i (.ok w)) := by
  have hexec : exec (.redTopkMerge t n .clean) s = .next (s.redTopk t n) := rfl
  simp only [hexec, State.redTopk, hi, ha, hb]
  exact congrArg (fun r => Host.Outcome.next (s.stageDone t n i r)) hw

/-- Settles O12: each stage's operands are read in order, and its outcome is an effect or a halt; the order of keys is linear. -/
theorem scalarAndReductionStages : Obligations.ScalarAndReductionStages := by
  unfold Obligations.ScalarAndReductionStages
  refine ⟨⟨fun e he s t n i hi => ⟨fun a b ha hb => ?_, fun c hc => ?_⟩, fun s t n i a b => scalarCmp_eq, fun s t n i => scalarMovi_eq,
    fun s t n i v => scalarLd_eq, fun s t n i v => scalarSt_eq, fun s t n i => nopStage_eq⟩,
    fun e he s t n i a w hi ha hw => ?_, fun s t n i a w => redArgmax_eq, fun l m hkind hm => ?_, fun s t n i a b w l => redSort_eq,
    fun l hkind => ?_, fun s t n i a b w => redTopk_eq⟩
  · rw [scalar2_stages e he, scalar2_ok hi ha hb]
    refine ⟨fun h1 => ?_, fun h0 => ?_, fun h0 h1 halign hfit => ?_, fun h0 h1 halign => ?_⟩
    · rw [if_neg (by omega), writeOperand_reg h1, stageDone_strand]
    · rw [if_neg (by omega), writeOperand_none h0, stageDone_strand]
    · rw [if_neg (by omega), writeOperand_area h0 h1 (by rwa [toLe_length]), stageDone_write, operandAddr_flags]
    · rw [if_pos ⟨h1, h0, halign⟩, stageDone_error]
  · rw [scalar2_stages e he, scalar2_error hi hc]
  · rw [red_stages e he, red_eq hi ha hw]
  · exact argMax_isBest (k := (· ∈ l)) hkind (fun _ => id) hm
  · exact ⟨sortDesc_perm l, sortDesc_descending (k := fun v => ∃ e ∈ l, e.1 = v)
      (hkind.imp (fun h => by rintro _ ⟨e, he, rfl⟩; exact h e he) (fun h => by rintro _ ⟨e, he, rfl⟩; exact h e he))
      fun y hy => ⟨y, hy, rfl⟩⟩

end Sys2Proof.Machine
end

section
/-! Vector stages (R83, R124–R127): the elements of the sources, an operation, and the elements of DST. -/

namespace Sys2Proof.Machine

variable {s : State} {t n : Nat} {i : Issue}

/-! ## Two sources -/

theorem vec2_eq {op : Nat} {f : Bool → Val → Val → Val} {a b : List Val} {w : Effect} (hi : s.issues t n 2 op = some i)
    (ha : s.readVals i.p t n i.x i.g.src0 (evalFmt [i.g.src0, i.g.src1, i.g.dst]) (i.g.count * laneFactor i.g.dst.fmt) = .ok a)
    (hb : s.readVals i.p t n i.x i.g.src1 (evalFmt [i.g.src0, i.g.src1, i.g.dst]) (i.g.count * laneFactor i.g.dst.fmt) = .ok b)
    (hw : s.writeVals t n i (List.zipWith (f i.g.sat) a b) = .ok w) : s.vec2 t n op f = s.stageDone t n i (.ok w) := by
  simp only [State.vec2, hi, ha, hb]
  rw [← List.map_uncurry_zip_eq_zipWith] at hw
  exact congrArg (s.stageDone t n i) hw

/-- A command that is a vector stage of two sources. -/
def IsVec2 (e : (Nat → Nat → TileErr → Instr) × Nat × (Bool → Val → Val → Val)) : Prop :=
  ∀ t n s, exec (e.1 t n .clean) s = .next (s.vec2 t n e.2.1 e.2.2)

theorem isVec2_of {c : Nat → Nat → TileErr → Instr} {op : Nat} {f : Bool → Val → Val → Val}
    (h : ∀ t n s, exec (c t n .clean) s = .next (s.met t n .clean (s.issues t n 2 op) fun s => s.vec2 t n op f)) : IsVec2 (c, op, f) := h

theorem vec2_stages : ∀ e ∈ ([(.vecAdd, 0x00, valAdd), (.vecSub, 0x01, valSub), (.vecMul, 0x02, fun _ => valMul), (.vecMax, 0x04, fun _ => valMax),
      (.vecMin, 0x05, fun _ => valMin)] : List ((Nat → Nat → TileErr → Instr) × Nat × (Bool → Val → Val → Val))), IsVec2 e := by
  simp only [List.forall_mem_cons]
  exact ⟨isVec2_of fun _ _ _ => rfl, isVec2_of fun _ _ _ => rfl, isVec2_of fun _ _ _ => rfl, isVec2_of fun _ _ _ => rfl,
    isVec2_of fun _ _ _ => rfl, nofun⟩

/-! ## One source -/

theorem vec1_eq {op : Nat} {int : Bool} {f : Nat → Val → Val} {a : List Val} {w : Effect} (hi : s.issues t n 2 op = some i)
    (ha : s.readVals i.p t n i.x i.g.src0 (if int then evalFmt [i.g.src0, i.g.dst] else fmtFp32) (i.g.count * laneFactor i.g.dst.fmt) = .ok a)
    (hw : s.writeVals t n i (a.zipIdx.map (fun v => f v.2 v.1)) = .ok w) : s.vec1 t n op int f = s.stageDone t n i (.ok w) := by
  simp only [State.vec1, hi, ha]
  exact congrArg (s.stageDone t n i) hw

/-- A command that is a vector stage of a function of one source. -/
def IsFn (e : (Nat → Nat → TileErr → Instr) × Nat × (Fp → Fp)) : Prop :=
  ∀ t n s, exec (e.1 t n .clean) s = .next (s.vec1 t n e.2.1 false (fun _ v => .f (e.2.2 (valFp v))))

theorem isFn_of {c : Nat → Nat → TileErr → Instr} {op : Nat} {f : Fp → Fp}
    (h : ∀ t n s, exec (c t n .clean) s = .next (s.met t n .clean (s.issues t n 2 op) fun s => s.vec1 t n op false (fun _ => valFn f))) :
    IsFn (c, op, f) := h

theorem fn_stages : ∀ e ∈ ([(.vecRsqrt, 0x0B, fpRsqrt), (.vecRcp, 0x0C, fpRcp), (.vecExp2, 0x0D, fpExp2)] :
    List ((Nat → Nat → TileErr → Instr) × Nat × (Fp → Fp))), IsFn e := by
  simp only [List.forall_mem_cons]
  exact ⟨isFn_of fun _ _ _ => rfl, isFn_of fun _ _ _ => rfl, isFn_of fun _ _ _ => rfl, nofun⟩

/-- A command that is the ABS (`neg` false) or NEG stage: it draws its free values whatever the elements. -/
def IsSign (e : (Nat → Nat → TileErr → Instr) × Nat × Bool) : Prop :=
  ∀ t n s, exec (e.1 t n .clean) s = .next ((s.vec1 t n e.2.1 true (fun j => valSign e.2.2 (Config.freeWord (s.fresh + j)))).drawn 256)

theorem isSign_of {c : Nat → Nat → TileErr → Instr} {op : Nat} {neg : Bool}
    (h : ∀ t n s, exec (c t n .clean) s = .next (s.met t n .clean (s.issues t n 2 op) fun s =>
      (s.vec1 t n op true (fun j => valSign neg (Config.freeWord (s.fresh + j)))).drawn 256)) : IsSign (c, op, neg) := h

theorem sign_stages : ∀ e ∈ ([(.vecAbs, 0x06, false), (.vecNeg, 0x07, true)] : List ((Nat → Nat → TileErr → Instr) × Nat × Bool)), IsSign e := by
  simp only [List.forall_mem_cons]
  exact ⟨isSign_of fun _ _ _ => rfl, isSign_of fun _ _ _ => rfl, nofun⟩

/-- On values of a floating-point format an operation takes no heed of the element's place. -/
theorem map_zipIdx_vals {f : Nat → Val → Val} {g : Fp → Val} (h : ∀ j v, f j (.f v) = g v) (a : List Fp) :
    (a.map Val.f).zipIdx.map (fun v => f v.2 v.1) = a.map g := by
  rw [List.zipIdx_map, List.map_map]
  conv => rhs; rw [← List.zipIdx_map_fst 0 a, List.map_map]
  exact List.map_congr_left fun v _ => h v.2 v.1

/-! ## FMA -/

theorem vecFma_eq {f r : Nat} {a b c : List Val} {w : Effect} (hi : s.issues t n 2 0x03 = some i)
    (hf : f = (if i.g.src0.space = 1 then laneFactor i.g.src1.fmt else laneFactor i.g.src0.fmt)) (hr : r = f / max 1 (laneFactor i.g.dst.fmt))
    (ha : s.readVals i.p t n i.x i.g.src0 (evalFmt [i.g.src0, i.g.src1, i.g.dst]) (i.g.count * f) = .ok a)
    (hb : s.readVals i.p t n i.x i.g.src1 (evalFmt [i.g.src0, i.g.src1, i.g.dst]) (i.g.count * f) = .ok b)
    (hc : s.readVals i.p t n i.x i.g.dst (evalFmt [i.g.src0, i.g.src1, i.g.dst]) (i.g.count * laneFactor i.g.dst.fmt) = .ok c)
    (hw : s.writeVals t n i (c.zipIdx.map (fun v => valDot i.g.sat (((a.zip b).drop (r * v.2)).take r) v.1)) = .ok w) :
    s.vecFma t n = s.stageDone t n i (.ok w) := by
  subst hr
  simp only [State.vecFma, hi, ← hf, ha, hb, hc]
  exact congrArg (s.stageDone t n i) hw

/-! ## CVT -/

theorem vecCvt_same {a : List Val} {w : Effect} (hi : s.issues t n 2 0x08 = some i) (hs : i.g.src0.space ≠ 1)
    (hf : laneFactor i.g.src0.fmt = laneFactor i.g.dst.fmt)
    (ha : s.readVals i.p t n i.x i.g.src0 (evalFmt [i.g.src0, i.g.dst]) (i.g.count * laneFactor i.g.dst.fmt) = .ok a)
    (hw : s.writeVals t n i a = .ok w) : s.vecCvt t n = s.stageDone t n i (.ok w) := by
  simp only [State.vecCvt, hi, hf, Nat.le_refl, true_or, if_true, if_neg hs, ha]
  exact congrArg (s.stageDone t n i) hw

theorem vecCvt_narrowing {k : Nat} {a : List Val} {w : Effect} (hi : s.issues t n 2 0x08 = some i) (hs : i.g.src0.space ≠ 1)
    (hf : laneFactor i.g.dst.fmt < laneFactor i.g.src0.fmt) (hk : k = i.g.count * laneFactor i.g.dst.fmt)
    (ha : s.readVals i.p t n i.x i.g.src0 (evalFmt [i.g.src0, i.g.dst]) (i.g.count * laneFactor i.g.src0.fmt) = .ok a)
    (hw : s.writeVals t n i ((a.drop (i.g.aux % 4 * k)).take k) = .ok w) : s.vecCvt t n = s.stageDone t n i (.ok w) := by
  have hno : ¬ (laneFactor i.g.src0.fmt ≤ laneFactor i.g.dst.fmt ∨ i.g.src0.space = 1) := by omega
  simp only [State.vecCvt, hi, if_neg hno, ha, ← hk]
  exact congrArg (s.stageDone t n i) hw

theorem vecCvt_widening {k : Nat} {a : List Val} {w : Effect} (hi : s.issues t n 2 0x08 = some i) (hs : i.g.src0.space ≠ 1)
    (hc : 0 < i.g.count) (hf : laneFactor i.g.src0.fmt < laneFactor i.g.dst.fmt) (hx : isMx i.g.dst.fmt = false)
    (ha : s.readVals i.p t n i.x i.g.src0 (evalFmt [i.g.src0, i.g.dst]) (i.g.count * laneFactor i.g.src0.fmt) = .ok a)
    (hk : k = i.g.count * laneFactor i.g.src0.fmt * elemBits i.g.dst.fmt / 8)
    (hw : s.writeOperand i.p t n i.x { i.g.dst with off := i.g.dst.off + i.g.aux % 4 * k } ((operandBytes i.g.dst.fmt i.g.sat (s.fit i.p)
      (s.rounder i.p t i.g i.g.dst.fmt) a).take k) = .ok w) : s.vecCvt t n = s.stageDone t n i (.ok w) := by
  have hle : laneFactor i.g.src0.fmt ≤ laneFactor i.g.dst.fmt ∨ i.g.src0.space = 1 := .inl (Nat.le_of_lt hf)
  have hne : ¬ i.g.count * laneFactor i.g.src0.fmt = i.g.count * laneFactor i.g.dst.fmt := Nat.ne_of_lt (Nat.mul_lt_mul_of_pos_left hf hc)
  simp only [State.vecCvt, hi, if_pos hle, if_neg hs, ha, if_neg hne, ← hk, hx, Bool.false_eq_true, if_false, bind, Except.bind, hw]

/-! ## SELECT -/

theorem vecSelect_eq {a b : List Val} {w : Effect} (hi : s.issues t n 2 0x09 = some i)
    (ha : s.readVals i.p t n i.x i.g.src0 (evalFmt [i.g.src0, i.g.src1, i.g.dst]) (i.g.count * laneFactor i.g.dst.fmt) = .ok a)
    (hb : s.readVals i.p t n i.x i.g.src1 (evalFmt [i.g.src0, i.g.src1, i.g.dst]) (i.g.count * laneFactor i.g.dst.fmt) = .ok b)
    (hw : s.writeVals t n i ((a.zip b).zipIdx.map (fun v =>
      if (i.x.reg (i.g.aux % 8)).toNat.testBit (v.2 / max 1 (laneFactor i.g.dst.fmt)) then v.1.1 else v.1.2)) = .ok w) :
    s.vecSelect t n = s.stageDone t n i (.ok w) := by
  simp only [State.vecSelect, hi, ha, hb]
  exact congrArg (s.stageDone t n i) hw

/-! ## CMPLT -/

/-- The mask of the places of a list where `p` holds, from place `j` on. -/
def maskFrom {α : Type} (p : α → Bool) (l : List α) (j m : Nat) : Nat :=
  (l.zipIdx j).foldl (fun m v => if p v.1 then m + 2 ^ v.2 else m) m

theorem maskFrom_cons {α : Type} (p : α → Bool) (x : α) (l : List α) (j m : Nat) :
    maskFrom p (x :: l) j m = maskFrom p l (j + 1) (if p x then m + 2 ^ j else m) := rfl

theorem testBit_maskFrom {α : Type} (p : α → Bool) (l : List α) (j m k : Nat) (hm : m < 2 ^ j) :
    (maskFrom p l j m).testBit k = if k < j then m.testBit k else l[k - j]?.elim false p := by
  induction l generalizing j m with
  | nil =>
    rcases Nat.lt_or_ge k j with h | h
    · simp [maskFrom, h]
    · simp [maskFrom, Nat.not_lt.mpr h, Nat.testBit_lt_two_pow (Nat.lt_of_lt_of_le hm (Nat.pow_le_pow_right Nat.two_pos h))]
  | cons x l ih =>
    have hm' : (if p x then m + 2 ^ j else m) < 2 ^ (j + 1) := by rw [Nat.pow_succ]; split <;> omega
    have hbit : (if p x then m + 2 ^ j else m).testBit k = if k = j then p x else m.testBit k := by
      have hj : m.testBit j = false := Nat.testBit_lt_two_pow hm
      have hor : m + 2 ^ j = 2 ^ j ||| m := by rw [Nat.add_comm, ← Nat.mul_one (2 ^ j), Nat.two_pow_add_eq_or_of_lt hm 1]
      by_cases h : k = j
      · subst h
        cases hx : p x <;> simp [hor, hj, Nat.testBit_two_pow_self]
      · cases hx : p x <;> simp [hor, h, Nat.testBit_two_pow_of_ne (Ne.symm h)]
    rw [maskFrom_cons, ih _ _ hm', hbit]
    rcases Nat.lt_trichotomy k j with h | rfl | h
    · simp [h, Nat.ne_of_lt h, Nat.lt_succ_of_lt h]
    · simp
    · obtain ⟨d, rfl⟩ : ∃ d, k = j + 1 + d := ⟨k - (j + 1), by omega⟩
      simp only [show ¬ j + 1 + d < j by omega, show ¬ j + 1 + d < j + 1 by omega, if_false, show j + 1 + d - j = d + 1 by omega,
        Nat.add_sub_cancel_left, List.getElem?_cons_succ]

theorem vecCmplt_eq {a b : List Val} (hi : s.issues t n 2 0x0A = some i)
    (ha : s.readVals i.p t n i.x i.g.src0 (evalFmt [i.g.src0, i.g.src1]) i.g.count = .ok a)
    (hb : s.readVals i.p t n i.x i.g.src1 (evalFmt [i.g.src0, i.g.src1]) i.g.count = .ok b) :
    s.vecCmplt t n = s.stageDone t n i
      (.ok { x := i.x.setReg i.g.dst.reg (BitVec.ofNat 64 (maskFrom (fun v : Val × Val => valLt v.1 v.2) (a.zip b) 0 0)), writes := [] }) := by
  simp only [State.vecCmplt, hi, ha, hb]
  rfl

theorem getLsbD_maskFrom {α : Type} (p : α → Bool) (l : List α) {k : Nat} (hk : k < 64) :
    (BitVec.ofNat 64 (maskFrom p l 0 0)).getLsbD k = l[k]?.elim false p := by
  rw [BitVec.getLsbD_ofNat, testBit_maskFrom p l 0 0 k (by decide)]
  simp [hk]

/-- Settles O13: each vector stage reads its sources, and what it writes is its operation on their elements; CMPLT's sum of powers of two
is the mask bit by bit. -/
theorem vectorStages : Obligations.VectorStages := by
  unfold Obligations.VectorStages
  refine ⟨fun e he s t n i a b w hi ha hb hw => ?_, fun e he s t n i a w hi ha hw => ?_, fun e he s t n i a w hi ha hw => ?_,
    fun s t n f r i a b c w hi hf hr ha hb hc hw => ?_, fun s t n i a w hi hs hf ha hw => ?_, fun s t n k i a w hi hs hf hk ha hw => ?_,
    fun s t n k i a w hi hs hc hf hx ha hk hw => ?_, fun s t n i a b w hi ha hb hw => ?_, fun s t n i a b hi ha hb _ _ => ?_⟩
  · rw [vec2_stages e he t n s, vec2_eq hi ha hb hw]
  · have hz : a.zipIdx.map (fun v => Val.f (e.2.2 (valFp v.1))) = a.map (fun v => .f (e.2.2 (valFp v))) := by
      conv => rhs; rw [← List.zipIdx_map_fst 0 a, List.map_map]
      rfl
    rw [fn_stages e he t n s, vec1_eq (int := false) (f := fun _ v => .f (e.2.2 (valFp v))) hi ha (hz ▸ hw)]
  · rw [sign_stages e he t n s, vec1_eq (int := true) hi ha
      (map_zipIdx_vals (f := fun j => valSign e.2.2 (Config.freeWord (s.fresh + j))) (fun _ _ => rfl) a ▸ hw)]
  · exact congrArg Host.Outcome.next (vecFma_eq hi hf hr ha hb hc hw)
  · exact congrArg Host.Outcome.next (vecCvt_same hi hs hf ha hw)
  · exact congrArg Host.Outcome.next (vecCvt_narrowing hi hs hf hk ha hw)
  · exact congrArg Host.Outcome.next (vecCvt_widening hi hs hc hf hx ha hk hw)
  · exact congrArg Host.Outcome.next (vecSelect_eq hi ha hb hw)
  · exact ⟨_, congrArg Host.Outcome.next (vecCmplt_eq hi ha hb), fun k hk => getLsbD_maskFrom _ _ hk⟩

end Sys2Proof.Machine
end

section
/-! Memory stages (R85, R86, R89, R92, R94): what a gather, a scatter and a send do once they issue. -/

namespace Sys2Proof.Machine

variable {s : State} {t n : Nat} {i : Issue}

/-! ## The stage that issues -/

theorem issues_fields {unit op : Nat} (h : s.issues t n unit op = some i) :
    i.g.unit = unit ∧ i.g.op = op ∧ i.seq = s.tile.seq.get t 0 := by
  unfold State.issues at h
  split at h
  case h_2 => cases h
  case h_1 =>
    simp only [] at h
    split at h
    · next hg =>
        obtain ⟨-, -, hu, ho⟩ := hg
        cases h
        exact ⟨hu, ho, rfl⟩
    · cases h

theorem memIssue_eq {unit op : Nat} (h : s.issues t n unit op = some i) : s.memIssue t n unit op = (s.issued t n i.g).memStage t n i := by
  simp only [State.memIssue, h]

/-! Issuing writes only the tile fabric's own record: the placement, the trackers and the registers are as before. -/

@[simp] theorem sfmtAt_issued (g : Stage) (p a : Nat) : (s.issued t n g).sfmtAt p a = s.sfmtAt p a := rfl
@[simp] theorem convBreaks_issued (g : Stage) (p a len f : Nat) : (s.issued t n g).convBreaks p a len f = s.convBreaks p a len f := rfl
@[simp] theorem freeTrackers_issued (g : Stage) (u : Nat) : (s.issued t n g).freeTrackers u = s.freeTrackers u := rfl
@[simp] theorem tileLabel_issued (g : Stage) (p q : Nat) : (s.issued t n g).tileLabel p q = s.tileLabel p q := rfl
@[simp] theorem rndWords_issued (g : Stage) (p u q f : Nat) : (s.issued t n g).rndWords p u q f = s.rndWords p u q f := rfl
@[simp] theorem programBytes_issued (g : Stage) (p : Nat) : (s.issued t n g).programBytes p = s.programBytes p := rfl
@[simp] theorem programBanks_issued (g : Stage) (p : Nat) : (s.issued t n g).programBanks p = s.programBanks p := rfl
@[simp] theorem tileOwner_issued (g : Stage) (u : Nat) : (s.issued t n g).tileOwner u = s.tileOwner u := rfl

/-! ## Gather -/

section gather

variable {a len d : Nat} (ha : a = (i.x.reg i.g.src0.reg).toNat + i.g.src0.off) (hl : len = (field i.g.aux 63 60 + 1) * 32)
include ha

theorem gatherStage_misaligned (h : a % 32 ≠ 0) : s.gatherStage t n i = s.haltAt i.p t n haltAlign := by
  rw [State.gatherStage, ← ha, if_pos h]

include hl

theorem gatherStage_waits (h : a % 32 = 0) (hb : s.convBreaks i.p a len i.g.dst.fmt = false)
    (hd : s.programRange i.p t n i.x i.g.dst (delivered (s.sfmtAt i.p a) i.g.dst.fmt len) = .ok d)
    (hf : s.freeTrackers t < (split256 a len).length) : s.gatherStage t n i = s.waitCredit t n i := by
  simp only [State.gatherStage, ← ha, ← hl, h, ne_eq, not_true, if_false, hb, Bool.false_eq_true, hd, hf, if_true]

theorem gatherStage_reads (h : a % 32 = 0) (hb : s.convBreaks i.p a len i.g.dst.fmt = false)
    (hd : s.programRange i.p t n i.x i.g.dst (delivered (s.sfmtAt i.p a) i.g.dst.fmt len) = .ok d)
    (hf : (split256 a len).length ≤ s.freeTrackers t) : s.gatherStage t n i = s.issueParts t n i a len
      { newRequest (.tile t) (s.tileLabel i.p i.x.queue) .rdNa n a len [] with
        dst := d, dfmt := i.g.dst.fmt, fmt := i.g.dst.fmt
        rnd := if i.g.stoch then s.rndWords i.p t i.seq (laneFactor i.g.dst.fmt) else [], sat := i.g.sat } := by
  simp only [State.gatherStage, ← ha, ← hl, h, ne_eq, not_true, if_false, hb, Bool.false_eq_true, hd, (Nat.not_lt.mpr hf)]

end gather

theorem exec_gatherRead_clean (hi : s.issues t n 4 0 = some i) :
    exec (.gatherRead t n .clean) s = .next ((s.issued t n i.g).gatherStage t n i) := by
  have hg := (issues_fields hi).1
  have hm : (s.issued t n i.g).memStage t n i = (s.issued t n i.g).gatherStage t n i := by simp only [State.memStage, hg]
  exact congrArg Host.Outcome.next ((memIssue_eq hi).trans hm)

/-! ## Scatter -/

section scatter

variable {a len : Nat} {op : ReqOp} {d : List Byte} (ha : a = (i.x.reg i.g.src0.reg).toNat + i.g.src0.off)
  (hl : len = (field i.g.aux 63 60 + 1) * 32)
include ha

theorem scatterStage_misaligned (h : a % 32 ≠ 0) : s.scatterStage t n i op = s.haltAt i.p t n haltAlign := by
  rw [State.scatterStage, ← ha, if_pos h]

include hl

theorem scatterStage_converts (h : a % 32 = 0) (hb : op ≠ .reduce → s.convBreaks i.p a len i.g.src1.fmt = false)
    (hd : s.readOperand i.p t n i.x i.g.src1 (delivered ((s.sfmtAt i.p a).map (fun c =>
      if op = .reduce ∧ c / 16 = 0 then i.g.src1.fmt * 16 else c)) i.g.src1.fmt len) = .ok d) :
    s.scatterStage t n i op = if s.freeTrackers t < (split256 a len).length then s.waitCredit t n i else s.issueParts t n i a len
      { newRequest (.tile t) (s.tileLabel i.p i.x.queue) op n a len d with
        fmt := i.g.src1.fmt, opx := if i.g.op = 3 then 1 else 0, obj := if op = .stash then field i.g.aux 58 56 else 0
        rnd := if i.g.stoch then s.rndWords i.p t i.seq (laneFactor i.g.src1.fmt) else [], sat := i.g.sat } := by
  have hno : (!(op == ReqOp.reduce) && s.convBreaks i.p a len i.g.src1.fmt) = false := by
    rcases Classical.em (op = .reduce) with rfl | hr
    · rfl
    · rw [hb hr, Bool.and_false]
  simp only [State.scatterStage, ← ha, ← hl, h, ne_eq, not_true, if_false, hno, Bool.false_eq_true, beq_iff_eq, hd]

end scatter

/-- A command that is a scatter stage of an operation of the scatter unit. -/
def IsScatter (e : (Nat → Nat → TileErr → Instr) × Nat × ReqOp) : Prop :=
  ∀ t n s i, s.issues t n 5 e.2.1 = some i → exec (e.1 t n .clean) s = .next ((s.issued t n i.g).scatterStage t n i e.2.2)

theorem isScatter_of {c : Nat → Nat → TileErr → Instr} {op : Nat} {r : ReqOp}
    (h : ∀ t n s, exec (c t n .clean) s = .next (s.met t n .clean (s.issues t n 5 op) fun s => s.memIssue t n 5 op))
    (hr : ∀ t n s (i : Issue), i.g.unit = 5 → i.g.op = op → State.memStage s t n i = s.scatterStage t n i r) : IsScatter (c, op, r) := by
  intro t n s i hi
  obtain ⟨hu, ho, -⟩ := issues_fields hi
  exact (h t n s).trans (congrArg Host.Outcome.next ((memIssue_eq hi).trans (hr t n _ i hu ho)))

theorem scatter_stages : ∀ e ∈ ([(.scatterWrite, 0, .write), (.scatterStash, 1, .stash), (.scatterReduceAdd, 2, .reduce),
      (.scatterReduceMax, 3, .reduce)] : List ((Nat → Nat → TileErr → Instr) × Nat × ReqOp)), IsScatter e := by
  simp only [List.forall_mem_cons]
  refine ⟨isScatter_of (fun _ _ _ => rfl) ?_, isScatter_of (fun _ _ _ => rfl) ?_, isScatter_of (fun _ _ _ => rfl) ?_,
    isScatter_of (fun _ _ _ => rfl) ?_, nofun⟩ <;>
  · intro t n s i hu ho
    simp only [State.memStage, hu, ho]

/-! ## The requests of an extent -/

theorem split256_spec (a : Nat) {len : Nat} (h0 : 0 < len) (h : len ≤ 256) :
    (∀ e ∈ split256 a len, 0 < e.2 ∧ (a + e.1) / 256 = (a + e.1 + e.2 - 1) / 256)
    ∧ ((split256 a len).map (fun e => e.2)).sum = len
    ∧ (split256 a len).length = (if a / 256 = (a + len - 1) / 256 then 1 else 2) := by
  by_cases hr : len ≤ 256 - a % 256
  · have hs : split256 a len = [(0, len)] := if_pos hr
    have hq : a / 256 = (a + len - 1) / 256 := by omega
    simp only [hs, List.forall_mem_singleton, List.map_cons, List.map_nil, List.sum_singleton, List.length_singleton, if_pos hq]
    exact ⟨⟨h0, by omega⟩, trivial, trivial⟩
  · have hs : split256 a len = [(0, 256 - a % 256), (256 - a % 256, len - (256 - a % 256))] := if_neg hr
    have hq : ¬ a / 256 = (a + len - 1) / 256 := by omega
    simp only [hs, List.forall_mem_cons, List.map_cons, List.map_nil, List.sum_cons, List.sum_nil, List.length_cons, List.length_nil, if_neg hq]
    exact ⟨⟨⟨by omega, by omega⟩, ⟨by omega, by omega⟩, nofun⟩, by omega, trivial⟩

/-! ## Send -/

section send

variable {v dest len : Nat} {d : List Byte} (hv : v = (i.x.reg i.g.dst.reg).toNat) (ht : dest = tileAt (field v 13 8) (field v 5 0))
  (hl : len = (field i.g.aux 63 60 + 1) * 32)
include hv ht hl

theorem sendStage_isolated (hd : s.readOperand i.p t n i.x i.g.src1 len = .ok d) (ho : s.tileOwner dest ≠ some i.p) :
    s.sendStage t n i = (s.haltAt i.p t n haltIsolation).ev Ev.tilIsolation (some i.p) (Config.detail [t, dest]) := by
  simp only [State.sendStage, ← hv, ← ht, ← hl, hd, ho, ne_eq, not_false_eq_true, or_true, if_true]

theorem sendStage_writes (hd : s.readOperand i.p t n i.x i.g.src1 len = .ok d) (hx : field v 13 8 < 48) (hy : field v 5 0 < 48)
    (ho : s.tileOwner dest = some i.p) (hf : s.freeTrackers t ≠ 0) (hb : field v 33 16 + len ≤ s.programBytes i.p) :
    s.sendStage t n i = (s.padWrite dest (s.programBanks i.p) (field v 33 16) d).setStrand t n (i.x.complete i.g) := by
  simp only [State.sendStage, ← hv, ← ht, ← hl, hd, (Nat.not_le.mpr hx), (Nat.not_le.mpr hy), ho, ne_eq, not_true, or_self, if_false, hf, (Nat.not_lt.mpr hb)]

end send

theorem exec_sendStage_clean (hi : s.issues t n 8 0 = some i) :
    exec (.sendStage t n .clean) s = .next ((s.issued t n i.g).sendStage t n i) := by
  have hg := (issues_fields hi).1
  have hm : (s.issued t n i.g).memStage t n i = (s.issued t n i.g).sendStage t n i := by simp only [State.memStage, hg]
  exact congrArg Host.Outcome.next ((memIssue_eq hi).trans hm)

/-- Settles O14: a memory stage that issues is its unit's, on the state after the issue, and that state's placement, trackers and
registers are those before it. -/
theorem memoryStages : Obligations.MemoryStages := by
  unfold Obligations.MemoryStages
  refine ⟨fun s t n a len d i hi ha hl => ⟨fun h hb hd => ?_, fun h => ?_⟩, fun e he s t n a len i d hi ha hl => ?_,
    fun a len h0 h => split256_spec a h0 h, fun s t n v dest len i d hi hv ht hl hd => ⟨fun hx hy ho hf hb => ?_, fun ho => ?_⟩⟩
  · rw [exec_gatherRead_clean hi, ← (issues_fields hi).2.2]
    exact ⟨fun hf => congrArg Host.Outcome.next (gatherStage_reads ha hl h hb hd hf),
      fun hf => congrArg Host.Outcome.next (gatherStage_waits ha hl h hb hd hf)⟩
  · rw [exec_gatherRead_clean hi, gatherStage_misaligned ha h]
  · obtain ⟨-, ho, hq⟩ := issues_fields hi
    rw [scatter_stages e he t n s i hi, ← hq]
    refine ⟨fun h hb hd => ?_, fun h => by rw [scatterStage_misaligned ha h]⟩
    rw [scatterStage_converts (s := s.issued t n i.g) ha hl h hb hd, freeTrackers_issued, ho]
    exact ⟨fun hf => by rw [if_neg (Nat.not_lt.mpr hf)]; rfl, fun hf => by rw [if_pos hf]⟩
  · rw [exec_sendStage_clean hi, sendStage_writes (s := s.issued t n i.g) hv ht hl hd hx hy ho hf hb]
    rfl
  · rw [exec_sendStage_clean hi, sendStage_isolated (s := s.issued t n i.g) hv ht hl hd ho]

end Sys2Proof.Machine
end

section
/-! A fault vector that is posted: the reaction to a raise at the latch of a partition may write the partition's memory (R418, R553). -/

namespace Sys2Proof.Machine

/-- Partition 0 is SEALED, its PPA granule 0 lies in HPA granule 0, and its fault vector is bound to context 1, which does not run: a raise at
its latch sets bit 0 of the post descriptor of context 1. -/
def posting : State :=
  let s := (((({} : State).wr .ptnState ptnSealed 0).wr .jayPtnRange 1 0).wr .ptnIntrMap (2 ^ 62 + 2 ^ 58 + 2 ^ 57) 0 0)
  { s with jay := { s.jay with dir := [(0, { valid := true })] } }

theorem tileUe_posting_mem : (posting.tileUe 0 0 Ev.tilSramUe).mem ≠ posting.mem := by decide +kernel

/-- Refutes O15: it says that an uncorrectable error in a tile memory leaves memory as it is, but its report raises the fault vector of the
partition, and a vector that is bound to a context which does not run is posted in the partition's memory (R417, R418). -/
theorem not_controlStages : ¬ Obligations.ControlStages := by
  unfold Obligations.ControlStages
  rintro ⟨-, ⟨-, -, -, hue⟩, -⟩
  exact tileUe_posting_mem (hue posting 0 0 Ev.tilSramUe (by decide +kernel)).2.2

end Sys2Proof.Machine
end

section
/-! The functions of descriptors (R148, R149, R153, R154). -/

namespace Sys2Proof.Machine

variable {s : State} {p q : Nat} {d : Desc} {b : List Desc}

theorem nopStart_eq (hd : s.currentDesc p q = some (d, [])) (hf : d.func = fnNop) (hs : d.mayStart [] = true) :
    s.nopStart p q = s.mapDesc p q d.idx (fun d => { d with started := true, status := some dsOk }) := by
  simp only [State.nopStart, hd]
  exact if_pos ⟨hf, hs, rfl⟩

/-! ## LOAD -/

theorem AMap.find_foldl_set {α : Type} (l : List Nat) (v : α) (m : AMap α) (k : Nat) :
    (l.foldl (fun m t => m.set t v) m).find k = if k ∈ l then some v else m.find k := by
  induction l generalizing m with
  | nil => simp
  | cons a l ih =>
    rw [List.foldl_cons, ih]
    by_cases hk : k = a
    · subst hk
      simp
    · simp [hk, AMap.find_set_ne m a k v hk]

theorem loadStart_ok {img : List Byte} (hd : s.currentDesc p q = some (d, b)) (hf : d.func = fnLoad) (hs : d.mayStart b = true)
    (hm : s.mayDispatch p q = true) (hq : s.quiet (s.dispatchSet p q) = true)
    (hr : s.readSpan p (d.params.getD 0 0) 0x4000 = some (img, false)) (hc : configOk (s.programBytes p / 64) (sparseOf img) = true) :
    s.loadStart p q = (s.setConfig (s.dispatchSet p q) (field (d.params.getD 1 0) 15 0) (some (sparseOf img))).mapDesc p q d.idx
      (fun d => { d with started := true, status := some dsOk }) := by
  have hgo : d.func = fnLoad ∧ d.mayStart b ∧ s.mayDispatch p q ∧ s.quiet (s.dispatchSet p q) := ⟨hf, hs, hm, hq⟩
  simp only [State.loadStart, hd, if_pos hgo, hr, hc, if_true]

theorem loadStart_refused {img : List Byte} (hd : s.currentDesc p q = some (d, b)) (hf : d.func = fnLoad) (hs : d.mayStart b = true)
    (hm : s.mayDispatch p q = true) (hq : s.quiet (s.dispatchSet p q) = true)
    (hr : s.readSpan p (d.params.getD 0 0) 0x4000 = some (img, false)) (hc : configOk (s.programBytes p / 64) (sparseOf img) = false) :
    s.loadStart p q = s.mapDesc p q d.idx (fun d' =>
      { d' with started := true, status := some dsLoadRefused, firstFail := (s.dispatchSet p q).foldl min noFail }) := by
  have hgo : d.func = fnLoad ∧ d.mayStart b ∧ s.mayDispatch p q ∧ s.quiet (s.dispatchSet p q) := ⟨hf, hs, hm, hq⟩
  simp only [State.loadStart, hd, if_pos hgo, hr, hc, Bool.false_eq_true, if_false]

theorem setConfig_cfg (ts : List Nat) (id : Nat) (img : AMap Byte) (k : Nat) :
    (s.setConfig ts id (some img)).tile.cfg.find k = if k ∈ ts then some img else s.tile.cfg.find k := AMap.find_foldl_set ts img _ k

theorem setConfig_cfgId (ts : List Nat) (id : Nat) (img : Option (AMap Byte)) (k : Nat) :
    (s.setConfig ts id img).tile.cfgId.find k = if k ∈ ts then some id else s.tile.cfgId.find k := AMap.find_foldl_set ts id _ k

/-! ## RUN -/

theorem runStart_eq (hd : s.currentDesc p q = some (d, b)) (hf : d.func = fnRun) (hn : d.started = false) (hs : d.mayStart b = true)
    (hm : s.mayDispatch p q = true) : s.runStart p q = s.mapDesc p q d.idx (fun d' =>
      if ∀ t ∈ s.dispatchSet p q, s.tile.cfgId.find t = some (field (d.params.getD 2 0) 15 0)
      then { d' with started := true } else { d' with started := true, status := some dsNoConfig }) := by
  have hgo : d.func = fnRun ∧ ¬ d.started ∧ d.mayStart b ∧ s.mayDispatch p q := ⟨hf, by simp [hn], hs, hm⟩
  simp only [State.runStart, hd, if_pos hgo, List.all_eq_true, beq_iff_eq]
  split <;> rfl

theorem dispatchItem_eq {t : Nat} (hd : s.currentDesc p q = some (d, b)) (hf : d.func = fnRun) (hs : d.started = true)
    (hm : s.mayDispatch p q = true) (ht : s.bestTile ((s.dispatchSet p q).filter (fun k => !(s.waitedTiles p).contains k)) = some t) :
    s.dispatchItem p q = (s.startStrand t q d (s.slotPpa p q d.idx)).mapDesc p q d.idx (fun d => { d with next := d.next + 1 }) := by
  have hgo : d.func = fnRun ∧ d.started ∧ s.mayDispatch p q := ⟨hf, hs, hm⟩
  simp only [State.dispatchItem, hd, if_pos hgo, ht]

/-- The lowest free number of a tile's strands. -/
theorem find_free_strand {t n : Nat} (hn : n < 512) (h : s.strand t n = none) (hb : ∀ m, m < n → (s.strand t m).isSome) :
    (List.range 512).find? (fun n => (s.strand t n).isNone) = some n := by
  rw [List.find?_range_eq_some]
  exact ⟨by simp [h], List.mem_range.2 hn, fun m hm => by simp [hb m hm]⟩

theorem startStrand_strand {t n slot : Nat} (hn : n < 512) (h : s.strand t n = none) (hb : ∀ m, m < n → (s.strand t m).isSome) :
    (s.startStrand t q d slot).strand t n = some
      { stage := field (s.graphHeader t) 63 58, st := .ready, zf := false, nf := false, rch := false, pending := 0, status := 0, item := d.next
        regs := [BitVec.ofNat 64 (d.params.getD 0 0 + d.next * d.params.getD 1 0), BitVec.ofNat 64 slot, 0, 0, 0, 0, 0]
        limit := none, order := 0, queue := q, desc := d.idx } := by
  unfold State.startStrand
  rw [find_free_strand hn h hb]
  exact AMap.find_set_same ..

theorem getD_of_two_words (a w : Word) {r : Nat} (hr : 2 ≤ r) : [a, w, 0, 0, 0, 0, 0].getD r 0 = 0 := by
  obtain ⟨k, rfl⟩ := Nat.exists_eq_add_of_le' hr
  change (List.replicate 5 (0 : Word)).getD k 0 = 0
  rw [List.getD_eq_getElem?_getD, List.getElem?_replicate]
  split <;> rfl

/-! ## Items of stock functions -/

theorem stockItem_eq {f i : Nat} {r : Nat × State} (hd : s.currentDesc p q = some (d, b)) (hf : d.func = f) (hs : d.mayStart b = true)
    (hm : s.mayDispatch p q = true) (hi : d.next = i) (hl : s.stockLoaded f (s.dispatchSet p q) = true)
    (hr : r = s.runItem { ptn := p, ctx := (s.wqCfg p q).ctx, cls := (s.wqCfg p q).cls } (queueTag p q) (geomOf (d.params.getD 1 0)).site
      (s.itemOf p f d.params i)) :
    s.stockItem p q f i = r.2.mapDesc p q d.idx (fun d => { d.count i r.1 with started := true, next := i + 1 }) := by
  have hgo : d.func = f ∧ d.mayStart b ∧ s.mayDispatch p q ∧ d.next = i ∧ (s.stockLoaded f (s.dispatchSet p q) ∨ s.quiet (s.dispatchSet p q)) :=
    ⟨hf, hs, hm, hi, .inl hl⟩
  simp only [State.stockItem, hd, if_pos hgo, if_pos hl, ← hr]

/-- A command that computes an item of a stock function. -/
def IsStock (e : (Nat → Nat → Nat → Instr) × Nat) : Prop := ∀ p q i s, exec (e.1 p q i) s = .next (s.stockItem p q e.2 i)

theorem stock_functions : ∀ e ∈ ([(.funcEmbBag, 0x10), (.funcUpdate, 0x11), (.funcReduce, 0x12), (.funcTopk, 0x13), (.funcSegReduce, 0x14),
      (.funcSort, 0x15), (.funcPack, 0x16)] : List ((Nat → Nat → Nat → Instr) × Nat)), IsStock e := by
  simp only [List.forall_mem_cons]
  exact ⟨fun _ _ _ _ => rfl, fun _ _ _ _ => rfl, fun _ _ _ _ => rfl, fun _ _ _ _ => rfl, fun _ _ _ _ => rfl, fun _ _ _ _ => rfl,
    fun _ _ _ _ => rfl, nofun⟩

theorem Desc.count_sum (d : Desc) (i c : Nat) : (d.count i c).done + (d.count i c).failed = d.done + d.failed + 1 := by
  unfold Desc.count
  split <;> simp only <;> omega

theorem Desc.count_ok (d : Desc) (i : Nat) : (d.count i 0).failed = d.failed := rfl

theorem Desc.count_firstFail (d : Desc) (i : Nat) {c : Nat} (h : c ≠ 0) : (d.count i c).firstFail = min d.firstFail i := by
  rw [Desc.count, if_neg h]

/-! ## CHECKPOINT -/

theorem ckptDesc_eq (hd : s.currentDesc p q = some (d, b)) (hf : d.func = fnCheckpoint) (hn : d.started = false) (hs : d.mayStart b = true)
    (hc : s.ckpt.find p = none) (hp : s.ptnState p = ptnSealed) : s.ckptDesc p q =
      (s.mapDesc p q d.idx (fun d => { d with started := true })).ckptStart p (d.params.getD 0 0) (some (q, d.idx)) := by
  have hgo : d.func = fnCheckpoint ∧ ¬ d.started ∧ d.mayStart b ∧ (s.ckpt.find p).isNone ∧ s.ptnState p = ptnSealed :=
    ⟨hf, by simp [hn], hs, by simp [hc], hp⟩
  simp only [State.ckptDesc, hd, if_pos hgo]

/-- Settles O18: each function of a descriptor that may start does its work and marks its descriptor. -/
theorem functionsRun : Obligations.FunctionsRun := by
  unfold Obligations.FunctionsRun
  refine ⟨fun s p q d hd hf hs => ?_, fun s p q d b img hd hf hs hm hq hr => ⟨fun hc => ?_, fun hc => ?_⟩, fun s p q d b hd hf hn hs hm => ?_,
    fun s p q t d b hd hf hs hm ht => ?_, fun s t q slot n d hn h hb => ?_, fun e he s p q i d b r hd hf hs hm hi hl hr => ?_,
    fun d i c => ⟨d.count_sum i c, fun h => h ▸ d.count_ok i, d.count_firstFail i⟩, fun s p q d b hd hf hn hs hc hp => ?_⟩
  · exact congrArg Host.Outcome.next (nopStart_eq hd hf hs)
  · refine ⟨_, congrArg Host.Outcome.next (loadStart_ok hd hf hs hm hq hr hc), fun k hk => ⟨?_, ?_⟩, fun k hk => ?_, rfl, rfl⟩
    · exact (setConfig_cfg _ _ _ k).trans (if_pos hk)
    · exact (setConfig_cfgId _ _ (some (sparseOf img)) k).trans (if_pos hk)
    · exact (setConfig_cfg _ _ _ k).trans (if_neg hk)
  · exact ⟨_, congrArg Host.Outcome.next (loadStart_refused hd hf hs hm hq hr hc), rfl, rfl⟩
  · exact congrArg Host.Outcome.next (runStart_eq hd hf hn hs hm)
  · exact congrArg Host.Outcome.next (dispatchItem_eq hd hf hs hm ht)
  · exact ⟨_, startStrand_strand hn h hb, rfl, rfl, rfl, rfl, rfl, fun r hr => getD_of_two_words _ _ hr, rfl⟩
  · exact (stock_functions e he p q i s).trans (congrArg Host.Outcome.next (stockItem_eq hd hf hs hm hi hl hr))
  · exact congrArg Host.Outcome.next (ckptDesc_eq hd hf hn hs hc hp)

end Sys2Proof.Machine
end

section
/-! A request at its home agent (R215, R246, R333, R337, R347). -/

namespace Sys2Proof.Machine

variable {s : State} {r : HomeReq} {t : Txn}

/-! ## The home granule table's answer (R246) -/

theorem hgtCheck_stale (hh : r.entry ≠ .hub) (ho : (s.hgt (granOf r.hpa)).owner ≠ r.lab.ptn) : s.hgtCheck r = .stale := by
  simp [State.hgtCheck, hh, ho]

section hgtCheck

variable (ho : (s.hgt (granOf r.hpa)).owner = r.lab.ptn)
include ho

theorem hgtCheck_wait (hs : (s.hgt (granOf r.hpa)).state = .locked) : s.hgtCheck r = .wait := by
  simp [State.hgtCheck, ho, hs]

theorem hgtCheck_forward (hs : (s.hgt (granOf r.hpa)).state = .forward) : s.hgtCheck r = .forward (s.hgt (granOf r.hpa)).fwd := by
  simp [State.hgtCheck, ho, hs, State.forwards]

theorem hgtCheck_serve (hs : (s.hgt (granOf r.hpa)).state = .mapped) (hk : r.kgen = (s.hgt (granOf r.hpa)).kgen) : s.hgtCheck r = .serve := by
  simp [State.hgtCheck, ho, hs, State.forwards, hk]

theorem hgtCheck_staleKey (hh : r.entry ≠ .hub) (hs : (s.hgt (granOf r.hpa)).state = .mapped) (hk : r.kgen ≠ (s.hgt (granOf r.hpa)).kgen)
    (hk' : r.kgen ≠ ((s.hgt (granOf r.hpa)).kgen + 3) % 4) : s.hgtCheck r = .staleKey := by
  simp [State.hgtCheck, ho, hs, State.forwards, hh, hk, hk']

end hgtCheck

/-! ## A request served, refused and forwarded -/

section homeServe

variable {h : Nat} {op : ReqOp} {es : List ReadErr} (hu : s.stackUp h = true) (hh : stackOf r.hpa = h) (hz : s.rd .secState ≠ seZeroised)
include hu hh hz

theorem homeServe_reachable : ¬ (¬ s.stackUp h ∨ stackOf r.hpa ≠ h ∨ s.rd .secState = seZeroised) := by simp [hu, hh, hz]

theorem homeServe_stale (hc : s.hgtCheck r = .stale) :
    s.homeServe h op r es = (s.poisonAnswer h op r hsOk).ev Ev.jayStaleHpa (some r.lab.ptn) := by
  rw [State.homeServe, if_neg (homeServe_reachable hu hh hz), hc]

theorem homeServe_staleKey (hc : s.hgtCheck r = .staleKey) :
    s.homeServe h op r es = (s.poisonAnswer h op r hsOk).ev Ev.jayKgenStale (some r.lab.ptn) := by
  rw [State.homeServe, if_neg (homeServe_reachable hu hh hz), hc]

theorem homeServe_forward {hg : Nat} (hc : s.hgtCheck r = .forward hg) (ho : op.reads = false) :
    s.homeServe h op r es = (s.sampleHeat (granOf r.hpa) r).emit (.forward op.code
      { r with hpa := hg * Config.granule + r.hpa % Config.granule }) := by
  rw [State.homeServe, if_neg (homeServe_reachable hu hh hz), hc]
  simp only [ho, Bool.false_eq_true, if_false]

theorem homeServe_serves {u v : State} (hc : s.hgtCheck r = .serve ∨ s.hgtCheck r = .wait)
    (hu' : u = (if op.reads then (s.sampleHeat (granOf r.hpa) r).countRow r.hpa else s.sampleHeat (granOf r.hpa) r))
    (hl : op.line = true → u.domainLost r.lab.ptn = false)
    (ht : t = { n := u.coh.nextTxn, h, op, req := r, lines := linesOf r.hpa r.len, errs := es })
    (hv : v = { u with coh := { u.coh with nextTxn := u.coh.nextTxn + 1, txns := u.coh.txns ++ [t] } }) :
    s.homeServe h op r es = (if op = .wb ∨ op = .evict then v.wbEvict t else v).pumped := by
  have hd : ¬ (op.line ∧ u.domainLost r.lab.ptn) := fun hd => by simp [hl hd.1] at hd
  rw [State.homeServe, if_neg (homeServe_reachable hu hh hz), hv, ht]
  rcases hc with hc | hc <;>
  · rw [hc]
    simp only [← hu', if_neg hd]

end homeServe

@[simp] theorem filterUe_zero (s : State) (l : Nat) : s.filterUe l 0 = s := by
  unfold State.filterUe
  split <;> rfl

theorem homeRequest_clean (h : Nat) (op : ReqOp) (es : List ReadErr) : s.homeRequest h op r es 0 = s.homeServe h op r es := by
  simp [State.homeRequest]

/-- A command that is a request of an operation at a home agent, whose filter entry read without an error. -/
def IsHome (e : (Nat → HomeReq → Instr) × ReqOp) : Prop := ∀ h r s, exec (e.1 h r) s = .next (s.homeServe h e.2 r [])

theorem isHome_of {c : Nat → HomeReq → Instr} {op : ReqOp} (h : ∀ h r s, exec (c h r) s = .next (s.homeRequest h op r [] 0)) : IsHome (c, op) :=
  fun k r s => (h k r s).trans (congrArg Host.Outcome.next (homeRequest_clean k op []))

theorem home_requests : ∀ e ∈ ([((fun h r => .homeRdShared h r 0), .rdShared), ((fun h r => .homeRdUnique h r 0), .rdUnique),
      ((fun h r => .homeClaim h r 0), .claim), ((fun h r => .homeRdNa h r 0), .rdNa), ((fun h r => .homeWrRed h r [] 0), .reduce),
      ((fun h r => .homeWrite h false r [] 0), .write), ((fun h r => .homeWrite h true r [] 0), .stash), ((fun h r => .homeWb h r 0), .wb),
      ((fun h r => .homeEvict h r 0), .evict)] : List ((Nat → HomeReq → Instr) × ReqOp)), IsHome e := by
  simp only [List.forall_mem_cons]
  exact ⟨isHome_of fun _ _ _ => rfl, isHome_of fun _ _ _ => rfl, isHome_of fun _ _ _ => rfl, isHome_of fun _ _ _ => rfl, isHome_of fun _ _ _ => rfl,
    isHome_of fun _ _ _ => rfl, isHome_of fun _ _ _ => rfl, isHome_of fun _ _ _ => rfl, isHome_of fun _ _ _ => rfl, nofun⟩

/-! ## WB and EVICT (R337) -/

section wbEvict

variable (hw : s.windowed t.req.hpa = false)
include hw

theorem wbEvict_evict (ho : t.op = .evict) (hm : s.recorded (lineOf t.req.hpa) (agentNo t.req) ≠ .m)
    (hO : s.recorded (lineOf t.req.hpa) (agentNo t.req) ≠ .o) :
    s.wbEvict t = (s.removeHolder (lineOf t.req.hpa) (agentNo t.req)).endTxn t hsOk 0 [] 0 := by
  simp [State.wbEvict, hw, ho, hm, hO]

theorem wbEvict_stale (ho : t.op = .wb)
    (hm : s.recorded (lineOf t.req.hpa) (agentNo t.req) = .i ∨ s.recorded (lineOf t.req.hpa) (agentNo t.req) = .s) :
    s.wbEvict t = (s.bump .cohStaleWb 0 t.req.lab.ptn).endTxn t hsOk 0 [] 0 := by
  rcases hm with hm | hm <;> simp [State.wbEvict, hw, ho, hm]

theorem wbEvict_modified (ho : t.op = .wb) (hm : s.recorded (lineOf t.req.hpa) (agentNo t.req) = .m) :
    s.wbEvict t = ((s.storeMasked (lineOf t.req.hpa * 64) t.req.data t.req.poison).removeHolder (lineOf t.req.hpa) (agentNo t.req)).completeTxn
      { t with phase := .rlive, got := [lineOf t.req.hpa], lines := [] } := by
  simp [State.wbEvict, hw, ho, hm]

end wbEvict

/-! ## An uncorrectable error of the filter entry (R347) -/

theorem homeRequest_hubUe {h : Nat} {op : ReqOp} {es : List ReadErr} {x : Region} (hx : s.regionAt (regionOfLine (lineOf r.hpa)) = some x) :
    s.homeRequest h op r es 2 = s.ev Ev.cohSfUe none := by
  simp [State.homeRequest, State.filterUe, hx]

theorem homeRequest_domainUe {h : Nat} {op : ReqOp} {es : List ReadErr} {x : Region} (hx : s.regionAt (regionOfLine (lineOf r.hpa)) = some x) :
    s.homeRequest h op r es 1 = ((s.takedown x.ptn 6 0 (lineOf r.hpa)).pumped).homeServe h op r es := by
  simp [State.homeRequest, State.filterUe, hx]

/-! ## A read-modify-write whose old data is in error (R215) -/

theorem rmwPoison_of_no_errs {l : Nat} (h : t.rmwErrs (s.unit t.req.hpa) l = []) : s.rmwPoison t l = (s, t) := by
  have hp : (List.range (t.req.len / 32)).foldl (fun m _ => m) t.poison = t.poison := by
    induction List.range (t.req.len / 32) with
    | nil => rfl
    | cons a l ih => exact ih
  simp only [State.rmwPoison, h, State.readErrs, List.foldl_nil, State.each, List.contains_nil, Bool.false_eq_true, if_false, hp]

theorem rmwErrs_of_none {size l : Nat} (h : t.errs = [] ∨ t.taken.isSome = true) : t.rmwErrs size l = [] := by
  rcases h with h | h
  · simp [Txn.rmwErrs, h]
  · have hn : t.taken.isNone = false := by rw [← Option.not_isSome, h, Bool.not_true]
    simp [Txn.rmwErrs, hn]

/-- An uncorrectable error is an operand of its sector: its unit delivers poison (R231). -/
theorem readErrs_uncorrectable {a i : Nat} (hu : s.unit (a + 32 * i) = 32) (ho : s.granOwner (granOf (a + 32 * i)) = none)
    (hp : s.unitPoisoned 32 ((a + 32 * i) / 32 * 32) = false) :
    ∃ u, s.readErrs a true [.uncorrectable i] = (u, [(a + 32 * i) / 32 * 32]) := by
  simp only [State.readErrs, List.foldl_cons, List.foldl_nil, State.readErr, errSector, hu, if_true, ho, hp, Bool.false_eq_true, if_false,
    List.nil_append]
  exact ⟨_, rfl⟩

theorem unitPoisoned_poisonUnit (s : State) (u : Nat) : (s.poisonUnit 32 u).unitPoisoned 32 u = true := by
  simp [State.unitPoisoned, State.poisonUnit, State.poisoned]

/-- Bits set one after another where `c` holds. -/
theorem testBit_foldl_or (c : Nat → Bool) (l : List Nat) (m i : Nat) :
    (l.foldl (fun m j => if c j then m ||| 2 ^ j else m) m).testBit i = (m.testBit i || (l.contains i && c i)) := by
  induction l generalizing m with
  | nil => simp
  | cons a l ih =>
    rw [List.foldl_cons, ih]
    by_cases hi : i = a
    · subst hi
      cases hc : c i <;> simp
    · cases hc : c a <;> simp [hi, Nat.testBit_two_pow_of_ne (Ne.symm hi)]

theorem rmwPoison_uncorrectable {l x i : Nat} (hx : x = t.req.hpa / 32 * 32 + 32 * i) (hl : x / 64 = l) (he : t.errs = [.uncorrectable i])
    (ht : t.taken = none) (ho : t.op = .reduce) (hs : s.unit t.req.hpa = 32) (hu : s.unit x = 32) (hn : s.granOwner (granOf x) = none)
    (hp : s.unitPoisoned 32 (x / 32 * 32) = false) :
    (s.rmwPoison t l).1.unitPoisoned 32 (x / 32 * 32) = true ∧ (i < t.req.len / 32 → (s.rmwPoison t l).2.poison.testBit i = true) := by
  subst hx
  have hr : t.rmwErrs 32 l = [.uncorrectable i] := by simp [Txn.rmwErrs, he, ht, ho, errSector, hl]
  obtain ⟨w, hw⟩ := readErrs_uncorrectable hu hn hp
  simp only [State.rmwPoison, hs, hr, hw]
  refine ⟨unitPoisoned_poisonUnit _ _, fun hi => ?_⟩
  rw [testBit_foldl_or]
  simp [hi]

/-- Settles O22: a request at its home agent follows the answer of the home granule table, and then its operation. -/
theorem homeOrders : Obligations.HomeOrders := by
  unfold Obligations.HomeOrders
  refine ⟨fun e he s u v h r t hu hh hz => ⟨fun hc hu' hl ht hv => ?_, fun hc => ?_, fun hc => ?_, fun hg hc ho => ?_⟩,
    fun s r hh => ⟨hgtCheck_stale hh, hgtCheck_wait, hgtCheck_forward, fun ho hs => ⟨hgtCheck_serve ho hs, hgtCheck_staleKey ho hh hs⟩⟩,
    fun s t hw => ⟨wbEvict_evict hw, wbEvict_stale hw, wbEvict_modified hw⟩,
    fun s h r x es hx => ⟨congrArg Host.Outcome.next (homeRequest_hubUe hx), congrArg Host.Outcome.next (homeRequest_domainUe hx)⟩,
    fun s t l h => rmwPoison_of_no_errs (rmwErrs_of_none h),
    fun s t l x i hx hl he ht ho hs hu hn hp => rmwPoison_uncorrectable hx hl he ht ho hs hu hn hp⟩
  · rw [home_requests e he h r s, homeServe_serves hu hh hz hc hu' hl ht hv]
    split <;> rfl
  · rw [home_requests e he h r s, homeServe_stale hu hh hz hc]
  · rw [home_requests e he h r s, homeServe_staleKey hu hh hz hc]
  · rw [home_requests e he h r s, homeServe_forward hu hh hz hc ho]

end Sys2Proof.Machine
end

section
/-! Invalidations of a granule and the placement commands of a partition (R251, R257, R258). -/

namespace Sys2Proof.Machine

variable {s : State} {p g : Nat}

/-! ## Invalidations -/

theorem cacheFind_cacheDrop (s : State) (e : Entry) (p g : Nat) : (s.cacheDrop e p g).cacheFind e p g = none := by
  have hc : (s.cacheDrop e p g).cacheOf e = (s.cacheOf e).filter (fun y => !(y.ptn == p && y.gran == g)) := AMap.get_put_same ..
  rw [State.cacheFind, hc, List.find?_eq_none]
  intro y hy
  simpa [Decidable.imp_iff_not_or] using (List.mem_filter.1 hy).2

theorem receiveInval_acks {e : Entry} {i : Inval} (hi : s.jay.inval.find? (fun i => i.ptn == p && i.gran == g && i.waiting.contains e) = some i)
    (hx : i.xlate = true) (he : ∀ t, e ≠ .tile t) (hd : (s.cacheDrop e p g).drained e p g = true) :
    s.receiveInval e p g = (s.cacheDrop e p g).emit (.invalAck e p g) := by
  simp only [State.receiveInval, hi, hx, if_true]
  cases e with
  | tile t => exact absurd rfl (he t)
  | _ => simp only [hd, Bool.or_true, if_true]

theorem invalAcked_last {e : Entry} {c : Nat} {i : Inval}
    (hi : s.jay.inval.find? (fun i => i.ptn == p && i.gran == g && i.waiting.contains e) = some i) (hw : i.waiting = [e])
    (hs : i.source = none) (hc : i.code = some c) (hr : i.rows = false) :
    s.invalAcked e p g = (({ s with jay := { s.jay with inval := s.jay.inval.erase i } } : State).jayResult p c) := by
  simp only [State.invalAcked, hi, hw, List.erase_cons_head, List.isEmpty_nil, hs, Option.isNone_none, and_self, if_true, hc, State.rowsGone, hr,
    Bool.false_eq_true, false_and, if_false]

/-! ## The result of a command (R257) -/

theorem rd_jayResult {code : Nat} (hc : code < 256) (hn : s.rdField .jayCmdResult 23 0 0 p + 1 < 2 ^ 24) :
    (s.jayResult p code).rd .jayCmdResult 0 p = code * 2 ^ 24 + (s.rdField .jayCmdResult 23 0 0 p + 1) := by
  simp only [State.jayResult, if_pos hn, rd_wr_same]
  exact Nat.mod_eq_of_lt (show _ < 2 ^ 32 by omega)

theorem jayResult_fields {code : Nat} (hc : code < 256) (hn : s.rdField .jayCmdResult 23 0 0 p + 1 < 2 ^ 24) :
    (s.jayResult p code).rdField .jayCmdResult 31 24 0 p = code
    ∧ (s.jayResult p code).rdField .jayCmdResult 23 0 0 p = s.rdField .jayCmdResult 23 0 0 p + 1 := by
  have h := rd_jayResult hc hn
  generalize s.rdField .jayCmdResult 23 0 0 p + 1 = n at h hn ⊢
  simp only [State.rdField, h, field]
  constructor <;> omega

/-! ## Commands on a granule -/

theorem onMapped_outOfRange {f : State → DirEntry → State} (h : s.dlen p ≤ g) : s.onMapped p g f = s.jayResult p jcOutOfRange := if_pos h

theorem onMapped_mapped {f : State → DirEntry → State} (h : g < s.dlen p) (hv : (s.dirEntry p g).valid = true) :
    s.onMapped p g f = f s (s.dirEntry p g) := by
  rw [State.onMapped, if_neg (Nat.not_le.mpr h), if_pos hv]

/-- A command that leaves OUT_OF_RANGE for a granule beyond the directory's length. -/
def ChecksRange (c : Nat → Nat → Instr) : Prop := ∀ s p g, State.dlen s p ≤ g → exec (c p g) s = .next (s.jayResult p jcOutOfRange)

theorem placement_commands_checkRange : ∀ c ∈ ([(fun p g => .jayCmdMap p g 8 0), .jayCmdUnmap, (fun p g => .jayCmdSetFmt p g 0),
      (fun p g => .jayCmdPin p g true), (fun p g => .jayCmdHint p g 0), (fun p g => .jayCmdRowrep p g true), (fun p g => .jayCmdMove p g 0),
      .jayCmdAck] : List (Nat → Nat → Instr)), ChecksRange c := by
  have of_onMapped : ∀ {c : Nat → Nat → Instr} {f : Nat → Nat → State → DirEntry → State},
      (∀ s p g, exec (c p g) s = .next (State.onMapped s p g (f p g))) → ChecksRange c :=
    fun h s p g hg => (h s p g).trans (congrArg Host.Outcome.next (onMapped_outOfRange hg))
  simp only [List.forall_mem_cons]
  exact ⟨fun _ _ _ h => congrArg Host.Outcome.next (if_pos h), of_onMapped fun _ _ _ => rfl, of_onMapped fun _ _ _ => rfl,
    of_onMapped fun _ _ _ => rfl, of_onMapped fun _ _ _ => rfl, of_onMapped fun _ _ _ => rfl, fun _ _ _ h => congrArg Host.Outcome.next (if_pos h),
    fun _ _ _ h => congrArg Host.Outcome.next (if_pos h), nofun⟩

theorem jayMap_takes {stack sfmt hg : Nat} (h : g < s.dlen p) (hv : (s.dirEntry p g).valid = false) (hs : stack < 8)
    (ht : s.takePool p [stack] = some hg) : s.jayMap p g stack sfmt = ((s.mapGranule p g hg sfmt).answerMiss p g).jayResult p jcDone := by
  simp only [State.jayMap, (Nat.not_le.mpr h), if_false, hv, Bool.false_eq_true, if_pos hs, ht]

theorem jayMap_alreadyMapped {stack sfmt : Nat} (h : g < s.dlen p) (hv : (s.dirEntry p g).valid = true) :
    s.jayMap p g stack sfmt = s.jayResult p jcAlreadyMapped := by
  rw [State.jayMap, if_neg (Nat.not_le.mpr h), if_pos hv]

theorem migrating_eq_false {d : DirEntry} (h : d.mstate = .idle) : ¬ d.migrating = true := by simp [DirEntry.migrating, h]

theorem migrating_eq_true {d : DirEntry} (h : d.mstate ≠ .idle) : d.migrating = true := by simp [DirEntry.migrating, h]

section mapped

variable (h : g < s.dlen p) (hv : (s.dirEntry p g).valid = true)
include h hv

theorem jayUnmap_idle (hm : (s.dirEntry p g).mstate = .idle) : s.jayUnmap p g = s.unmapNow p g (some jcDone) := by
  rw [State.jayUnmap, onMapped_mapped h hv, if_neg (migrating_eq_false hm)]

theorem jayUnmap_migrating (hm : (s.dirEntry p g).mstate ≠ .idle) :
    s.jayUnmap p g = { s.jayResult p jcQueued with jay := { s.jay with queued := s.jay.queued ++ [.unmap p g] } } := by
  rw [State.jayUnmap, onMapped_mapped h hv, if_pos (migrating_eq_true hm)]

theorem jaySetFmt_idle {sfmt : Nat} (hm : (s.dirEntry p g).mstate = .idle) : s.jaySetFmt p g sfmt = s.setFmtNow p g sfmt (some jcDone) := by
  rw [State.jaySetFmt, onMapped_mapped h hv, if_neg (migrating_eq_false hm)]

end mapped

theorem unmapNow_spec (s : State) (p g : Nat) (c : Option Nat) : ((s.unmapNow p g c).dirEntry p g).valid = false
    ∧ ((s.unmapNow p g c).hgt (s.dirEntry p g).hgran).state = .pool ∧ (s.unmapNow p g c).mem = s.mem :=
  ⟨congrArg DirEntry.valid (dirEntry_setDir s p g {}), congrArg Hgt.state (hgt_setHgt (s.setDir p g {}) _ _), rfl⟩

/-! ## Host-assisted placement (R258) -/

theorem jayMove_mode {stack : Nat} (h : g < s.dlen p) (hm : s.hostAssisted p = false) : s.jayMove p g stack = s.jayResult p jcMode := by
  rw [State.jayMove, if_neg (Nat.not_le.mpr h), if_pos (by simp [hm])]

theorem jayAck_mode (h : g < s.dlen p) (hm : s.hostAssisted p = false) : s.jayAck p g = s.jayResult p jcMode := by
  rw [State.jayAck, if_neg (Nat.not_le.mpr h), if_pos (by simp [hm])]

theorem jayMove_queues {stack : Nat} (h : g < s.dlen p) (hm : s.hostAssisted p = true) (hv : (s.dirEntry p g).valid = true)
    (hl : (s.jay.moves.filter (fun m => m.1 == p)).length < 64) :
    s.jayMove p g stack = { s.jayResult p jcQueued with jay := { s.jay with moves := s.jay.moves ++ [(p, g, stack)] } } := by
  rw [State.jayMove, if_neg (Nat.not_le.mpr h), if_neg (by simp [hm]), if_neg (by simp [hv]), if_neg (Nat.not_le.mpr hl)]

theorem jayAck_answers {x : Posting} (h : g < s.dlen p) (hm : s.hostAssisted p = true) (hx : s.jay.posting.find p = some x) :
    s.jayAck p g = { s.jayResult p jcDone with jay := { s.jay with posting := s.jay.posting.set p { x with beats := [] } } } := by
  rw [State.jayAck, if_neg (Nat.not_le.mpr h), if_neg (by simp [hm]), hx]

theorem jayHostMiss_late {x : Posting} {b : BitVec 48} {r : List (BitVec 48)} (hx : s.jay.posting.find p = some x) (hb : x.beats = b :: r)
    (hl : b.toNat + s.rd .jayHostDeadline ≤ s.beat.number.toNat) :
    s.jayHostMiss p = { s.ev Ev.jayHostMiss (some p) with
      jay := { (s.ev Ev.jayHostMiss (some p)).jay with posting := s.jay.posting.set p { x with beats := r } } } := by
  simp only [State.jayHostMiss, hx, hb, if_neg (Nat.not_lt.mpr hl)]

/-- Settles O27: an invalidation is acknowledged and ends as R251 says, and each placement command takes its effect or leaves its code. -/
theorem placementCommands : Obligations.PlacementCommands := by
  unfold Obligations.PlacementCommands
  refine ⟨fun s e p g i hi hx he hd => ⟨congrArg Host.Outcome.next (receiveInval_acks hi hx he hd), cacheFind_cacheDrop s e p g⟩,
    fun s e p g c i hi hw hs hc hr => congrArg Host.Outcome.next (invalAcked_last hi hw hs hc hr),
    fun c hc s p g => placement_commands_checkRange c hc s p g, fun s p code hc hn => jayResult_fields hc hn,
    fun s p g stack sfmt hg h hv hs ht => congrArg Host.Outcome.next (jayMap_takes h hv hs ht),
    fun s p g stack sfmt h hv => congrArg Host.Outcome.next (jayMap_alreadyMapped h hv),
    fun s p g sfmt h hv => ⟨fun hm => ⟨congrArg Host.Outcome.next (jayUnmap_idle h hv hm), congrArg Host.Outcome.next (jaySetFmt_idle h hv hm)⟩,
      fun hm => ⟨_, congrArg Host.Outcome.next (jayUnmap_migrating h hv hm), rfl, rfl⟩⟩,
    fun s p g => unmapNow_spec s p g _, fun s p g stack v h hv hs => ⟨?_, ?_, ?_⟩,
    fun s p g stack h hm => ⟨congrArg Host.Outcome.next (jayMove_mode h hm), congrArg Host.Outcome.next (jayAck_mode h hm)⟩,
    fun s p g stack x h hm => ⟨fun hv hl => ⟨_, congrArg Host.Outcome.next (jayMove_queues h hm hv hl), rfl, rfl, rfl⟩,
      fun hx => ⟨_, congrArg Host.Outcome.next (jayAck_answers h hm hx), AMap.find_set_same .., rfl, rfl⟩⟩,
    fun s p x b r hx hb hl => ⟨_, congrArg Host.Outcome.next (jayHostMiss_late hx hb hl), AMap.find_set_same .., rfl⟩⟩
  · exact congrArg Host.Outcome.next (onMapped_mapped h hv)
  · refine congrArg Host.Outcome.next ((onMapped_mapped h hv).trans ?_)
    rw [if_pos hs]
  · exact congrArg Host.Outcome.next (onMapped_mapped h hv)

end Sys2Proof.Machine
end

section
/-! Connections (R360–R362, R370): how they open, fail and close. -/

namespace Sys2Proof.Machine

variable {s : State} {f : Frame} {c : Conn} {n p pkg rptn : Nat}

/-! ## OPEN (R361) -/

theorem openRx_noKey (h : s.fabricKeys f.dstPtn = []) : s.openRx f = s.refuseOpen f 1 := by
  simp [State.openRx, h]

section openRx

variable (hk : (s.fabricKeys f.dstPtn).any (fun k => k.keyId == leNat (f.payload.take 4)) = true) (ht : f.tagOk = true)
include hk ht

theorem openRx_notSealed (hp : s.ptnState f.dstPtn ≠ ptnSealed) : s.openRx f = s.refuseOpen f 2 := by
  simp [State.openRx, hk, ht, hp]

variable (hp : s.ptnState f.dstPtn = ptnSealed) (hn : s.connOf f.dstPtn f.srcPkg f.srcPtn = none)
include hp hn

theorem openRx_noRoom (hr : s.connRoom f.dstPtn = false) : s.openRx f = s.refuseOpen f 3 := by
  simp [State.openRx, hk, ht, hp, hn, hr]

theorem openRx_opens (hr : s.connRoom f.dstPtn = true) : s.openRx f = s.sendOpenAck s.freeConn
    { ptn := f.dstPtn, pkg := f.srcPkg, rptn := f.srcPtn, st := .open, peer := field f.ext 91 68, window := s.rd .soxWindow } := by
  simp [State.openRx, hk, ht, hp, hn, hr]

end openRx

/-! ## Frames on a connection -/

section frames

variable (hf : ∀ k, s.frameOn f k = k s c)
include hf

theorem openAck_opens (hc : isCtrl f ctrlOpenAck = true) (ho : c.st = .opening) (hq : c.queue = []) :
    exec (.sftCtrlOpenAck f) s = .next (s.setConn f.conn { c with st := .open, peer := field f.ext 91 68 }) := by
  rw [exec_sftCtrlOpenAck, execSftCtrlOpenAck, if_pos hc, hf, if_pos ho, hq]
  rfl

theorem close_closes (hc : isCtrl f ctrlClose = true) : exec (.sftCtrlClose f) s =
    .next (((s.sendCtl f.conn c 2 sftCtrl (ctrlExt ctrlCloseAck f.conn 0) []).closeConn f.conn c msgNoConn)).settleGroups := by
  rw [exec_sftCtrlClose, execSftCtrlClose, if_pos hc, hf]

theorem closeAck_eq (hc : isCtrl f ctrlCloseAck = true) : exec (.sftCtrlCloseAck f) s =
    .next (if c.st = .closing then s.closeConn f.conn c msgNoConn else s).settleGroups := by
  rw [exec_sftCtrlCloseAck, execSftCtrlCloseAck, if_pos hc, hf]

theorem reset_fails (hc : isCtrl f ctrlReset = true) (ho : c.st = .open) (hn : f.conn ≠ 0) :
    exec (.sftCtrlReset f) s = .next (s.failConn f.conn c).settleGroups := by
  rw [exec_sftCtrlReset, execSftCtrlReset, if_pos hc, hf, if_pos ⟨.inl ho, hn⟩]

theorem fault_closes (hc : f.type = sftFault) (ho : c.st = .open) : exec (.sftFault f) s =
    .next ((((s.endMsgs f.conn c msgPeerFault).setConn f.conn { c with st := .closing, queue := [], unacked := [] }).settleClose f.conn).faultGroups
      f.conn).settleGroups := by
  rw [exec_sftFault, execSftFault, if_pos hc, hf, if_pos ho]

theorem refuse_closes (hc : isCtrl f ctrlRefuse = true) (hn : f.conn ≠ 0) (ho : c.st = .opening) :
    exec (.sftCtrlRefuse f) s = .next (s.closeConn f.conn c msgNoConn).settleGroups := by
  rw [exec_sftCtrlRefuse, execSftCtrlRefuse, hc, State.ctrlRefused, hf, if_pos (show c.st = .opening ∧ f.conn ≠ 0 from ⟨ho, hn⟩)]
  simp [hn]

end frames

theorem conn_closeConn (s : State) (n : Nat) (c : Conn) (st : Nat) : (s.closeConn n c st).conn n = none := AMap.find_erase_same ..

/-! ## Opening, retrying and closing -/

theorem openRequest_sends (hp : s.ptnState p = ptnSealed) (hn : s.connOf p pkg rptn = none) (hr : s.connRoom p = true) (hk : s.fabricKeys p ≠ []) :
    s.openRequest p pkg rptn = s.sendOpen s.freeConn { ptn := p, pkg, rptn, st := .opening, window := s.rd .soxWindow } := by
  simp [State.openRequest, State.openConn, hp, hn, hr, hk]

section conn

variable (hc : s.conn n = some c)
include hc

theorem openRetry_sends (ho : c.st = .opening) (ht : c.tries < 8) : s.openRetry n = s.sendOpen n c := by
  simp [State.openRetry, hc, ho, ht]

theorem openRetry_closes (ho : c.st = .opening) (ht : 8 ≤ c.tries) : s.openRetry n = s.closeConn n c msgNoConn := by
  simp [State.openRetry, hc, ho, (Nat.not_lt.mpr ht)]

theorem startClose_open (ho : c.st = .open) (hn : n ≠ 0) : s.startClose n = (s.setConn n { c with st := .closing }).settleClose n := by
  simp [State.startClose, hc, ho, hn]

theorem psnLimit_closes (hv : ∃ v ∈ c.psn, 2 ^ 48 - 2 ^ 16 ≤ v) : exec (.connPsnLimit n) s = .next (s.startClose n) := by
  have ha : c.psn.any (fun v => decide (2 ^ 48 - 2 ^ 16 ≤ v)) = true := by simpa using hv
  rw [exec_connPsnLimit, execConnPsnLimit, hc]
  exact congrArg Host.Outcome.next (if_pos ha)

theorem closeTimeout_closes (ho : c.st = .closing) : exec (.connCloseTimeout n) s = .next (s.closeConn n c msgNoConn).settleGroups := by
  rw [exec_connCloseTimeout, execConnCloseTimeout, hc]
  exact congrArg (fun t => Host.Outcome.next (State.settleGroups t)) (if_pos ho)

end conn

/-- Settles O31: each frame and each timer of a connection takes it from its state to the one that R360 to R362 and R370 name. -/
theorem connectionsOpenAndClose : Obligations.ConnectionsOpenAndClose := by
  unfold Obligations.ConnectionsOpenAndClose
  refine ⟨fun s f hc hf => ?_, fun s f h => openRx_noKey h,
    fun s f hk ht => ⟨openRx_notSealed hk ht, fun hp hn => ⟨openRx_noRoom hk ht hp hn, openRx_opens hk ht hp hn⟩⟩,
    fun s f c hc hf ho hq => openAck_opens hf hc ho hq, fun s f c hc hf => close_closes hf hc,
    fun s f c hc hf => ⟨fun ho => ?_, fun ho => ?_⟩, fun s f c hc hf ho hn => reset_fails hf hc ho hn, fun s f c hc hf ho => fault_closes hf hc ho,
    fun s f c hc hn hf ho => refuse_closes hf hc hn ho, fun s n c st => ⟨conn_closeConn s n c st, rfl⟩,
    fun s p pkg rptn hp hn hr hk => congrArg Host.Outcome.next (openRequest_sends hp hn hr hk),
    fun s n c hc ho => ⟨fun ht => congrArg (fun t => Host.Outcome.next (State.settleGroups t)) (openRetry_sends hc ho ht),
      fun ht => congrArg (fun t => Host.Outcome.next (State.settleGroups t)) (openRetry_closes hc ho ht)⟩,
    fun s n c hc ho hn => ⟨congrArg Host.Outcome.next (startClose_open hc ho hn),
      fun hv => (psnLimit_closes hc hv).trans (congrArg Host.Outcome.next (startClose_open hc ho hn))⟩,
    fun s n c hc ho => closeTimeout_closes hc ho⟩
  · rw [exec_sftCtrlOpen, execSftCtrlOpen, if_pos hc, hf]
  · rw [closeAck_eq hf hc, if_pos ho]
  · rw [closeAck_eq hf hc, if_neg ho]

end Sys2Proof.Machine
end

section
/-! Operations on synchronisation objects (R379, R381, R383, R384). -/

namespace Sys2Proof.Machine

variable {s : State} {src : SyncSrc} {n : Nat} {o : SyncObj} {a b : Word}

/-! ## The checks of R384 -/

section checks

variable {kinds : List SyncKind} {bad : Bool} {f : State → State}

theorem syncOp_range (h : s.ownsObj src.lab.ptn n = false) : s.syncOp src n kinds bad f = s.syncRefuse src reasonRange := by
  simp [State.syncOp, h]

variable (h : s.ownsObj src.lab.ptn n = true) (ho : s.obj n = o)
include h ho

theorem syncOp_kind (hk : o.kind ∉ kinds) : s.syncOp src n kinds bad f = s.syncRefuse src reasonKind := by
  simp [State.syncOp, h, ho, hk]

theorem syncOp_operand (hk : o.kind ∈ kinds) (hb : bad = true) : s.syncOp src n kinds bad f = s.syncRefuse src reasonOperand := by
  simp [State.syncOp, h, ho, hk, hb]

theorem syncOp_passes (hk : o.kind ∈ kinds) (hb : bad = false) : s.syncOp src n kinds bad f = f s := by
  simp [State.syncOp, h, ho, hk, hb]

end checks

/-! ## Operations that change a value, and waits -/

/-- A command that gives an object of some kinds a value and answers its old one. -/
def Changes (s : State) (src : SyncSrc) (n : Nat) (o : SyncObj) (e : Instr × List SyncKind × Word) : Prop :=
  (o.kind ∈ e.2.1 → exec e.1 s = .next (((s.settleObj n { o with value := e.2.2 }).syncSend src o.value reasonDone)).settleSites)
  ∧ (o.kind ∉ e.2.1 → exec e.1 s = .next (s.syncRefuse src reasonKind).settleSites)

theorem changes_of {c : Instr} {kinds : List SyncKind} {t : State} (v : State → Word) (h : s.ownsObj src.lab.ptn n = true) (ho : s.obj n = o)
    (hc : exec c s = .next t.settleSites) (ht : t = s.syncOp src n kinds false fun s => s.syncSet src n (v s) (s.obj n).value) :
    Changes s src n o (c, kinds, v s) := by
  refine ⟨fun hk => ?_, fun hk => ?_⟩
  · rw [hc, ht, syncOp_passes h ho hk rfl, State.syncSet, State.syncDone, ho]
  · rw [hc, ht, syncOp_kind h ho hk]

/-- A command that waits on an object of a kind. -/
def Waits (s : State) (src : SyncSrc) (n : Nat) (o : SyncObj) (e : Instr × SyncKind × WaitCond) : Prop :=
  (o.kind = e.2.1 → exec e.1 s = .next (s.syncWait src n e.2.2).settleSites)
  ∧ (o.kind ≠ e.2.1 → exec e.1 s = .next (s.syncRefuse src reasonKind).settleSites)

theorem waits_of {c : Instr} {k : SyncKind} {w : WaitCond} {t : State} (h : s.ownsObj src.lab.ptn n = true) (ho : s.obj n = o)
    (hc : exec c s = .next t.settleSites) (ht : t = s.syncOp src n [k] false fun s => s.syncWait src n w) : Waits s src n o (c, k, w) := by
  refine ⟨fun hk => ?_, fun hk => ?_⟩
  · rw [hc, ht, syncOp_passes h ho (List.mem_singleton.2 hk) rfl]
  · rw [hc, ht, syncOp_kind h ho (mt List.mem_singleton.1 hk)]

theorem mem_allKinds (k : SyncKind) : k ∈ allKinds := by cases k <;> decide

section owned

variable (h : s.ownsObj src.lab.ptn n = true) (ho : s.obj n = o)
include h ho

theorem sync_changes : ∀ e ∈ ([(.syncAdd src n a, [.counter], o.value + a), (.syncCas src n a b, [.counter, .event], if o.value = a then b else o.value),
      (.syncSwap src n a, [.counter, .event], a), (.syncArrive src n, [.barrier], barArrive o.value), (.syncSet src n a, [.event], o.value ||| a),
      (.syncClear src n a, [.event], o.value &&& ~~~ a)] : List (Instr × List SyncKind × Word)), Changes s src n o e := by
  subst ho
  simp only [List.forall_mem_cons]
  exact ⟨changes_of (fun s => (s.obj n).value + a) h rfl (exec_syncAdd ..) rfl,
    changes_of (fun s => if (s.obj n).value = a then b else (s.obj n).value) h rfl (exec_syncCas ..) rfl,
    changes_of (fun _ => a) h rfl (exec_syncSwap ..) rfl, changes_of (fun s => barArrive (s.obj n).value) h rfl (exec_syncArrive ..) rfl,
    changes_of (fun s => (s.obj n).value ||| a) h rfl (exec_syncSet ..) rfl,
    changes_of (fun s => (s.obj n).value &&& ~~~ a) h rfl (exec_syncClear ..) rfl, List.forall_mem_nil _⟩

theorem sync_waits : ∀ e ∈ ([(.syncWaitGe src n a, .counter, .ge a), (.syncBarWait src n a, .barrier, .genNot (barGen a)),
      (.syncWaitAny src n a b, .event, .any a (b.getLsbD 0)), (.syncWaitAll src n a b, .event, .all a (b.getLsbD 0))] :
      List (Instr × SyncKind × WaitCond)), Waits s src n o e := by
  simp only [List.forall_mem_cons]
  exact ⟨waits_of h ho (exec_syncWaitGe ..) rfl, waits_of h ho (exec_syncBarWait ..) rfl, waits_of h ho (exec_syncWaitAny ..) rfl,
    waits_of h ho (exec_syncWaitAll ..) rfl, List.forall_mem_nil _⟩

theorem syncRead_answers : exec (.syncRead src n) s = .next (s.syncSend src o.value reasonDone).settleSites := by
  rw [exec_syncRead, execSyncRead, State.syncReadOp, syncOp_passes h ho (mem_allKinds _) rfl, State.syncDone, ho]

theorem syncAcquire_waits (hk : o.kind = .semaphore) (ha : a ≠ 0) : exec (.syncAcquire src n a) s = .next (s.syncWait src n (.acquire a)).settleSites := by
  rw [exec_syncAcquire, execSyncAcquire, State.syncAcquireOp, syncOp_passes h ho (List.mem_singleton.2 hk) (beq_false_of_ne ha)]

theorem syncAcquire_operand (hk : o.kind = .semaphore) (ha : a = 0) : exec (.syncAcquire src n a) s = .next (s.syncRefuse src reasonOperand).settleSites := by
  rw [exec_syncAcquire, execSyncAcquire, State.syncAcquireOp, syncOp_operand h ho (List.mem_singleton.2 hk) (beq_iff_eq.2 ha)]

theorem syncRelease_adds (hk : o.kind = .semaphore) (ha : a ≠ 0) : exec (.syncRelease src n a) s =
    .next (((s.settleObj n { o with value := semAdd o.value a }).syncSend src (semAdd o.value a) reasonDone)).settleSites := by
  rw [exec_syncRelease, execSyncRelease, State.syncReleaseOp, syncOp_passes h ho (List.mem_singleton.2 hk) (beq_false_of_ne ha), State.syncSet,
    State.syncDone, ho]

theorem syncRelease_operand (hk : o.kind = .semaphore) (ha : a = 0) : exec (.syncRelease src n a) s = .next (s.syncRefuse src reasonOperand).settleSites := by
  rw [exec_syncRelease, execSyncRelease, State.syncReleaseOp, syncOp_operand h ho (List.mem_singleton.2 hk) (beq_iff_eq.2 ha)]

theorem syncArriveWait_waits (hk : o.kind = .barrier) : exec (.syncArriveWait src n) s =
    .next ((s.settleObj n { o with value := barArrive o.value }).syncWait src n (.genNot (barGen o.value))).settleSites := by
  rw [exec_syncArriveWait, execSyncArriveWait, State.syncArriveWaitOp, syncOp_passes h ho (List.mem_singleton.2 hk) rfl, ho]

theorem syncInit_sets (hb : kindOf b = .barrier → barCount a < barTarget a) : exec (.syncInit src n a b) s =
    .next ((((s.expireWaiters (fun w => w.obj == n)).setObj n ⟨kindOf b, a⟩).syncSend src o.value reasonDone)).settleSites := by
  have hok : (kindOf b == .barrier && !decide (barCount a < barTarget a)) = false := by
    rcases Classical.em ((kindOf b) = .barrier) with hk | hk
    · simp [hb hk]
    · simp [hk]
  rw [exec_syncInit, execSyncInit, State.syncInitOp, syncOp_passes h ho (mem_allKinds _) hok, State.syncDone, ho]

theorem syncInit_operand (hk : kindOf b = .barrier) (hb : barTarget a ≤ barCount a) :
    exec (.syncInit src n a b) s = .next (s.syncRefuse src reasonOperand).settleSites := by
  rw [exec_syncInit, execSyncInit, State.syncInitOp, syncOp_operand h ho (mem_allKinds _) (by simp [hk, hb])]

end owned

theorem sync_range (h : s.ownsObj src.lab.ptn n = false) : ∀ c ∈ ([.syncRead src n, .syncInit src n a b, .syncAdd src n a, .syncCas src n a b,
      .syncSwap src n a, .syncWaitGe src n a, .syncAcquire src n a, .syncRelease src n a, .syncArrive src n, .syncArriveWait src n,
      .syncBarWait src n a, .syncSet src n a, .syncClear src n a, .syncWaitAny src n a b, .syncWaitAll src n a b] : List Instr),
    exec c s = .next (s.syncRefuse src reasonRange).settleSites := by
  have hr : ∀ {c t}, exec c s = .next (State.settleSites t) → t = s.syncRefuse src reasonRange →
      exec c s = .next (s.syncRefuse src reasonRange).settleSites := fun hc ht => ht ▸ hc
  simp only [List.forall_mem_cons]
  exact ⟨hr (exec_syncRead ..) (syncOp_range h), hr (exec_syncInit ..) (syncOp_range h), hr (exec_syncAdd ..) (syncOp_range h),
    hr (exec_syncCas ..) (syncOp_range h), hr (exec_syncSwap ..) (syncOp_range h), hr (exec_syncWaitGe ..) (syncOp_range h),
    hr (exec_syncAcquire ..) (syncOp_range h), hr (exec_syncRelease ..) (syncOp_range h), hr (exec_syncArrive ..) (syncOp_range h),
    hr (exec_syncArriveWait ..) (syncOp_range h), hr (exec_syncBarWait ..) (syncOp_range h), hr (exec_syncSet ..) (syncOp_range h),
    hr (exec_syncClear ..) (syncOp_range h), hr (exec_syncWaitAny ..) (syncOp_range h), hr (exec_syncWaitAll ..) (syncOp_range h), List.forall_mem_nil _⟩

/-! ## Waiting (R383) -/

theorem WaitCond.result_of_not_acquire {c : WaitCond} (hc : c.isAcquire = false) (v : Word) : c.result v = v := by
  cases c <;> first | rfl | cases hc

section wait

variable {c : WaitCond} (hc : c.isAcquire = false)
include hc

theorem syncWait_served (hv : c.holds (s.obj n).value = true) : s.syncWait src n c =
    (s.settleObj n { s.obj n with value := c.take (s.obj n).value }).syncSend src (s.obj n).value reasonDone := by
  simp only [State.syncWait, hv, hc, Bool.false_and, Bool.false_eq_true, not_false_eq_true, and_self, if_true, WaitCond.result_of_not_acquire hc]

end wait

section unserved

variable {c : WaitCond} (hv : c.holds (s.obj n).value = false)
include hv

theorem syncWait_host (he : src.entry = .host) : s.syncWait src n c = s.syncSend src (s.obj n).value reasonExpired := by
  simp only [State.syncWait, hv, Bool.false_eq_true, false_and, if_false, if_pos he]

theorem syncWait_full (he : src.entry ≠ .host) (hw : 128 ≤ s.waitersIn src.lab.ptn (bankOfObj n)) :
    s.syncWait src n c = (s.bump .colWaitFull 0 src.lab.ptn).syncSend src (s.obj n).value reasonExpired := by
  simp only [State.syncWait, hv, Bool.false_eq_true, false_and, if_false, if_neg he, if_pos hw]

theorem syncWait_waits (he : src.entry ≠ .host) (hw : s.waitersIn src.lab.ptn (bankOfObj n) < 128) :
    s.syncWait src n c = { s with sync := { s.sync with waiters := s.sync.waiters ++ [⟨n, src, c⟩] } } := by
  simp only [State.syncWait, hv, Bool.false_eq_true, false_and, if_false, if_neg he, if_neg (Nat.not_le.mpr hw)]

end unserved

theorem syncWaitExpiry_expires {bank id : Nat} {w : Waiter} (h : s.waiterAt bank id = some w) :
    exec (.syncWaitExpiry bank id) s = .next (s.expireOne w).settleSites := by
  rw [exec_syncWaitExpiry, execSyncWaitExpiry, h]

/-! ## A refusal changes no object -/

theorem syncSend_keeps (s : State) (src : SyncSrc) (v : Word) (r : Nat) : (s.syncSend src v r).sync = s.sync ∧ (s.syncSend src v r).mem = s.mem := by
  unfold State.syncSend
  simp only []
  split
  · split
    · exact ⟨rfl, rfl⟩
    · split
      · exact ⟨rfl, rfl⟩
      · split <;> exact ⟨rfl, rfl⟩
  · exact ⟨rfl, rfl⟩
  · exact ⟨rfl, rfl⟩

/-! ## Barriers and semaphores (R380, R381) -/

/-- Bit `i` of a barrier value lies in GEN, COUNT or TARGET. -/
theorem getLsbD_barValue (t c : BitVec 16) (g : BitVec 32) (i : Nat) : (barValue t c g).getLsbD i =
    if i < 32 then g.getLsbD i else if i - 32 < 16 then c.getLsbD (i - 32) else t.getLsbD (i - 32 - 16) :=
  BitVec.getLsbD_append.trans (by simp only [BitVec.getLsbD_append])

theorem barGen_barValue (t c : BitVec 16) (g : BitVec 32) : barGen (barValue t c g) = g := by
  ext i hi
  simp [barGen, getLsbD_barValue, hi]

theorem barCount_barValue (t c : BitVec 16) (g : BitVec 32) : barCount (barValue t c g) = c := by
  ext i hi
  simp [barCount, getLsbD_barValue, hi]

theorem barTarget_barValue (t c : BitVec 16) (g : BitVec 32) : barTarget (barValue t c g) = t := by
  ext i hi
  have h1 : ¬ 48 + i < 32 := by omega
  have h2 : ¬ 48 + i - 32 < 16 := by omega
  have h3 : 48 + i - 32 - 16 = i := by omega
  simp [barTarget, getLsbD_barValue, h1, h2, h3, hi]

theorem barArrive_last {v : Word} (h : barCount v + 1 = barTarget v) : barArrive v = barValue (barTarget v) 0 (barGen v + 1) := if_pos h

theorem barArrive_counts {v : Word} (h : barCount v + 1 ≠ barTarget v) : barArrive v = barValue (barTarget v) (barCount v + 1) (barGen v) := if_neg h

theorem barTarget_barArrive (v : Word) : barTarget (barArrive v) = barTarget v := by
  unfold barArrive
  split <;> exact barTarget_barValue ..

theorem toNat_semAdd (v a : Word) : (semAdd v a).toNat = min (v.toNat + a.toNat) (2 ^ 64 - 1) := by
  unfold semAdd
  split
  · next h => rw [BitVec.toNat_add_of_lt h]; omega
  · next h => rw [BitVec.toNat_allOnes]; omega

/-- Settles O33: an operation passes the checks of R384 in their order, and then does what R381 and R383 say of it. -/
theorem syncOperations : Obligations.SyncOperations := by
  unfold Obligations.SyncOperations
  refine ⟨fun s src n o a b h ho => ⟨sync_changes h ho, sync_waits h ho, syncRead_answers h ho,
      fun hk ha => ⟨syncAcquire_waits h ho hk ha, syncRelease_adds h ho hk ha⟩,
      fun hk ha => ⟨syncAcquire_operand h ho hk ha, syncRelease_operand h ho hk ha⟩, syncArriveWait_waits h ho, syncInit_sets h ho,
      syncInit_operand h ho⟩, fun s src n a b h => sync_range h,
    fun s src n c hc => ⟨syncWait_served hc, syncWait_host, syncWait_full, syncWait_waits⟩,
    fun s bank id w h => syncWaitExpiry_expires h, fun s src r => ⟨_, rfl, syncSend_keeps _ src _ r⟩,
    fun v => ⟨fun h => ?_, fun h => ?_, barTarget_barArrive v⟩, toNat_semAdd⟩
  · rw [barArrive_last h]
    exact ⟨barGen_barValue .., barCount_barValue ..⟩
  · rw [barArrive_counts h]
    exact ⟨barGen_barValue .., barCount_barValue ..⟩

end Sys2Proof.Machine
end

section
/-! The collective ring that stops (R389, R391). -/

namespace Sys2Proof.Machine

/-- A doorbell beyond the ring's room: the report of the stop posts the fault vector of partition 0. -/
theorem ringTail_posting_mem : (posting.ringTail 0 2 0).mem ≠ posting.mem := by decide +kernel

/-- Refutes O37: it says that a doorbell beyond the ring's room leaves memory as it is, but the ring's stop is reported, and the report raises
the fault vector of the partition, which is posted in its memory where its context does not run (R417, R418). -/
theorem not_collectivesRun : ¬ Obligations.CollectivesRun := by
  unfold Obligations.CollectivesRun
  rintro ⟨hring, -⟩
  obtain ⟨t, ht, -, -, -, hmem⟩ := (hring posting 0 2 0 _ rfl).2 (by decide +kernel)
  have htail : exec (.colDbTailWrite 0 2 0) posting = .next (posting.ringTail 0 2 0) := rfl
  obtain rfl : posting.ringTail 0 2 0 = t := Host.Outcome.next.inj (htail.symm.trans ht)
  exact ringTail_posting_mem hmem

end Sys2Proof.Machine
end

section
/-! A stronger reset of a partition that takes over (R423). -/

namespace Sys2Proof.Machine

/-- Partition 0 in a warm reset, with the state SEALED waiting for the next edge. -/
def resetAtEdge : State :=
  let s := ({} : State).wr .ptnState ptnResetting 0
  { s with ptns := [(0, { reset := some .warm, atEdge := some ptnSealed })] }

/-- A FULL_RESET that takes over drops what waited for the edge. -/
theorem fullReset_resetAtEdge : ((resetAtEdge.cmdFullReset .operator 0 0).2.ptn 0).atEdge = none := by decide +kernel

/-- Refutes O38: it says that a FULL_RESET during a warm reset changes nothing of the partition's record but the kind of reset, and it drops the
state that waits for the edge as well. -/
theorem not_partitionsLive : ¬ Obligations.PartitionsLive := by
  unfold Obligations.PartitionsLive
  rintro ⟨-, hreset, -⟩
  obtain ⟨-, hstronger, -⟩ := hreset resetAtEdge 0 0 (by decide) (by decide) (by decide) rfl rfl
  have hexec := hstronger (by decide +kernel) rfl
  rw [exec_ptnCmdFullReset, execPtnCmdFullReset] at hexec
  have hat := congrArg (fun t => (State.ptn t 0).atEdge) (Host.Outcome.next.inj hexec)
  exact absurd (fullReset_resetAtEdge.symm.trans hat) (by decide +kernel)

end Sys2Proof.Machine
end

section
/-! Context switches and interrupt vectors (R411–R413, R415–R418). -/

namespace Sys2Proof.Machine

variable {s : State} {p t v : Nat} {w : Switch}

/-! ## A switch declared (R412) -/

/-- What PTN_CTX_NEXT refuses with RANGE. -/
def CtxRange (s : State) (p v : Nat) : Prop :=
  field v 63 52 ≠ 0 ∨ (s.rd .ptnCtxEnable p).testBit (field v 51 48) = false ∨ field v 47 0 ≤ s.beat.number.toNat ∨ s.switching p = true
    ∨ (s.beat.cutoff = true ∧ field v 47 0 = s.beat.number.toNat + 1 + s.beat.skip)

theorem ctxNextWrite_range (hp : p < 32) (h : CtxRange s p v) : s.ctxNextWrite .operator p v = (stRange, s) := by
  have hno : ¬ (!mayWrite [.n, .n, .b, .n, .b] .operator) = true := by decide
  have hbad : field v 63 52 ≠ 0 ∨ ¬ (s.rd .ptnCtxEnable p).testBit (field v 51 48) ∨ field v 47 0 ≤ s.beat.number.toNat
      ∨ (s.beat.cutoff ∧ field v 47 0 = s.beat.number.toNat + 1 + s.beat.skip) ∨ s.switching p := by
    simp only [Bool.not_eq_true]
    exact h.imp_right fun h => h.imp_right fun h => h.imp_right Or.symm
  simp only [State.ctxNextWrite, if_neg (Nat.not_le.mpr hp), if_neg hno, if_pos hbad]
  rfl

theorem ctxNextWrite_declares (hp : p < 32) (h : ¬ CtxRange s p v) : s.ctxNextWrite .operator p v =
    (stOk, ((s.wr .ptnCtxNext v p).setPtn p { s.ptn p with asked := none }).declare
      (switchDecl p (field v 51 48) (some (BitVec.ofNat 48 (field v 47 0))))) := by
  have hno : ¬ (!mayWrite [.n, .n, .b, .n, .b] .operator) = true := by decide
  have hok : ¬ (field v 63 52 ≠ 0 ∨ ¬ (s.rd .ptnCtxEnable p).testBit (field v 51 48) ∨ field v 47 0 ≤ s.beat.number.toNat
      ∨ (s.beat.cutoff ∧ field v 47 0 = s.beat.number.toNat + 1 + s.beat.skip) ∨ s.switching p) := by
    simp only [Bool.not_eq_true]
    exact fun hbad => h (hbad.imp_right fun h => h.imp_right fun h => h.imp_right Or.symm)
  simp only [State.ctxNextWrite, if_neg (Nat.not_le.mpr hp), if_neg hno, if_neg hok]

theorem schedMiss_late {b : BitVec 48} (ha : (s.ptn p).asked = some b) (hb : b.toNat + s.rd .ptnCtxDeadline p ≤ s.beat.number.toNat) :
    s.schedMiss p = (s.setPtn p { s.ptn p with asked := none, since := s.beat.number }).ev Ev.ptnSchedMiss (some p) := by
  simp only [State.schedMiss, ha, if_neg (Nat.not_lt.mpr hb)]

theorem schedMiss_not_asked (ha : (s.ptn p).asked = none) : s.schedMiss p = s := by simp only [State.schedMiss, ha]

/-! ## The save and the restore of a tile (R413) -/

theorem saveDone_no_switch (h : (s.ptn p).switch = none) : s.saveDone p t = s := by simp only [State.saveDone, h]

theorem restoreDone_no_switch (h : (s.ptn p).switch = none) : s.restoreDone p t = s := by simp only [State.restoreDone, h]

/-- Where nothing ran, a tile goes to its restore as soon as it is idle. -/
theorem saveDone_empties (hw : (s.ptn p).switch = some w) (ht : t ∈ w.saving) (hi : s.tileIdle t = true) (hn : w.src = none) :
    s.saveDone p t = (s.emptyTiles [t]).setPtn p { s.ptn p with
      switch := some { w with saving := w.saving.filter (· != t), restoring := w.restoring ++ [t] }, saved := (s.ptn p).saved } := by
  have hgo : ¬ (¬ w.saving.contains t ∨ !s.tileIdle t) := by simp [ht, hi]
  have hp : (s.emptyTiles [t]).ptn p = s.ptn p := rfl
  simp only [State.saveDone, hw, if_neg hgo, hn, hp]

theorem emptyTiles_strand (s : State) (t : Nat) {n : Nat} (hn : n < 512) : (s.emptyTiles [t]).tile.strands.find (512 * t + n) = none := by
  have hk : (512 * t + n) / 512 = t := by omega
  simp only [State.emptyTiles, AMap.find_where]
  simp [hk]

theorem emptyTiles_cfg (s : State) (t : Nat) : (s.emptyTiles [t]).tile.cfg.find t = none := by
  simp only [State.emptyTiles, AMap.find_where]
  simp

/-- The switch after the last restore, without its posted interrupts. -/
def State.switched (s : State) (p : Nat) (w : Switch) : State :=
  let s := (s.setPtn p { s.ptn p with switch := none, since := s.beat.number }).wr .ptnCtxRunning w.dst p
  let s := match w.item with
    | some id => s.complete id
    | none => s
  s.bump .ptnSwitches p

theorem restoreDone_last (hw : (s.ptn p).switch = some w) (ht : t ∈ w.restoring) (hd : w.dst ∉ (s.ptn p).saved) (hs : w.saving = [])
    (hr : ∀ x ∈ w.restoring, x = t) : s.restoreDone p t = (s.switched p w).deliverPosts p w.dst := by
  have hgo : ¬ ¬ w.restoring.contains t := by simp [ht]
  have hno : ¬ (s.ptn p).saved.contains w.dst := by simp [hd]
  have hlast : w.restoring.filter (· != t) = [] := by simpa [List.filter_eq_nil_iff] using hr
  simp only [State.restoreDone, hw, if_neg hgo, if_neg hno, hs, hlast, List.isEmpty_nil, Bool.not_true, Bool.false_eq_true, or_self, if_false]
  rfl

theorem switched_ctxRunning (s : State) (p : Nat) (hd : w.dst < 16) : (s.switched p w).rd .ptnCtxRunning p = w.dst := by
  have hk : Reg.ptnCtxRunning.key p 0 ≠ Reg.ptnSwitches.key p 0 := by
    simp only [Reg.key, Reg.ptnCtxRunning, Reg.ptnSwitches]
    omega
  have hb : (s.wr .ptnCtxRunning w.dst p).rd .ptnCtxRunning p = w.dst := (rd_wr_same ..).trans (Nat.mod_eq_of_lt (Nat.lt_trans hd (by decide)))
  refine (rd_wr_ne _ _ _ _ _ _ _ _ hk).trans ?_
  cases w.item <;> exact hb

theorem switched_ptn (s : State) (p : Nat) (w : Switch) : (s.switched p w).ptn p = { s.ptn p with switch := none, since := s.beat.number } := by
  unfold State.switched
  cases w.item <;> exact ptn_setPtn s p _

theorem switched_keeps (s : State) (p : Nat) (w : Switch) : (s.switched p w).mem = s.mem ∧ (s.switched p w).tile = s.tile := by
  unfold State.switched
  cases w.item <;> exact ⟨rfl, rfl⟩

/-! ## A vector raised (R417) -/

theorem raiseVector_dropped (h : (s.vecMap p v).kind = 0) : s.raiseVector p v = s.bump .ptnIntrDropped p := by
  simp [State.raiseVector, h]

theorem raiseVector_masked (h : (s.vecMap p v).kind ≠ 0) (hm : (s.vecMap p v).mask = true) :
    s.raiseVector p v = s.wr .ptnIntrPend (setBit (s.rd .ptnIntrPend p) v) p := by
  simp [State.raiseVector, h, hm]

theorem raiseVector_posted (h : (s.vecMap p v).kind ≠ 0) (hm : (s.vecMap p v).mask = false) (hb : (s.vecMap p v).bound = true)
    (hc : s.rd .ptnCtxRunning p ≠ (s.vecMap p v).ctx) : s.raiseVector p v = s.post p (s.vecMap p v).ctx v := by
  simp [State.raiseVector, h, hm, hb, hc]

section delivered

variable (hm : (s.vecMap p v).mask = false) (hb : (s.vecMap p v).bound = false ∨ s.rd .ptnCtxRunning p = (s.vecMap p v).ctx)
  (hf : s.owl.fatalHub = false)
include hm hb

theorem raiseVector_delivered (h : (s.vecMap p v).kind ≠ 0) : s.raiseVector p v = s.deliver p v := by
  rcases hb with hb | hb <;> simp [State.raiseVector, h, hm, hb]

include hf

theorem raiseVector_host (h : (s.vecMap p v).kind = 1) : s.raiseVector p v = s.msix (p + 1) (field (s.vecMap p v).target 10 0) := by
  rw [raiseVector_delivered hm hb (by omega)]
  simp [State.deliver, hf, h]

theorem raiseVector_chiplet (hp : s.ptnState p ≠ ptnHalted) (h : (s.vecMap p v).kind = 2) :
    s.raiseVector p v = s.intrToChiplet (field (s.vecMap p v).target 2 0) p (field (s.vecMap p v).target 31 16) := by
  rw [raiseVector_delivered hm hb (by omega)]
  simp [State.deliver, hf, h, hp]

theorem raiseVector_flags (hp : s.ptnState p ≠ ptnHalted) (h : (s.vecMap p v).kind = 3) :
    s.raiseVector p v = s.setFlags p (field (s.vecMap p v).target 15 0) (BitVec.ofNat 64 (2 ^ field (s.vecMap p v).target 21 16)) := by
  rw [raiseVector_delivered hm hb (by omega)]
  simp [State.deliver, hf, h, hp]

theorem raiseVector_halted (hp : s.ptnState p = ptnHalted) (h : 2 ≤ (s.vecMap p v).kind) : s.raiseVector p v = s := by
  have h1 : (s.vecMap p v).kind ≠ 1 := by omega
  rw [raiseVector_delivered hm hb (by omega)]
  simp [State.deliver, hf, h1, hp]

end delivered

/-- Settles O40: a switch is declared, saved and restored as R411 to R413 say, and a vector takes the way that its map entry gives. -/
theorem contextsAndVectors : Obligations.ContextsAndVectors := by
  unfold Obligations.ContextsAndVectors
  refine ⟨fun s p v hp h => congrArg (fun a => Host.Outcome.next (State.answered a)) (ctxNextWrite_range hp h),
    fun s p v hp h1 h2 h3 h4 h5 => congrArg (fun a => Host.Outcome.next (State.answered a)) (ctxNextWrite_declares hp ?_),
    fun s p => ⟨fun b ha hb => congrArg Host.Outcome.next (schedMiss_late ha hb), fun ha => congrArg Host.Outcome.next (schedMiss_not_asked ha)⟩,
    fun s p t h => ⟨congrArg Host.Outcome.next (saveDone_no_switch h), congrArg Host.Outcome.next (restoreDone_no_switch h)⟩,
    fun s p t w hw ht hi hn => ⟨_, congrArg Host.Outcome.next (saveDone_empties hw ht hi hn), congrArg Ptn.switch (ptn_setPtn _ p _),
      fun n hn => emptyTiles_strand s t hn, emptyTiles_cfg s t, rfl, rfl⟩,
    fun s p t w hp hw ht hd hs hr hc => ⟨s.switched p w, congrArg Host.Outcome.next (restoreDone_last hw ht hd hs hr), switched_ctxRunning s p hc,
      congrArg Ptn.switch (switched_ptn s p w), congrArg Ptn.since (switched_ptn s p w), switched_keeps s p w⟩,
    fun s p v => ⟨fun h => congrArg Host.Outcome.next (raiseVector_dropped h), fun h hm => congrArg Host.Outcome.next (raiseVector_masked h hm),
      fun h hm hb hc => congrArg Host.Outcome.next (raiseVector_posted h hm hb hc),
      fun hm hb hf => ⟨fun h => congrArg Host.Outcome.next (raiseVector_host hm hb hf h),
        fun hp h => congrArg Host.Outcome.next (raiseVector_chiplet hm hb hf hp h),
        fun hp h => congrArg Host.Outcome.next (raiseVector_flags hm hb hf hp h),
        fun hp h => congrArg Host.Outcome.next (raiseVector_halted hm hb hf hp h)⟩⟩, fun s p v => rfl⟩
  simp [CtxRange, h1, h2, h3, h4, h5]

end Sys2Proof.Machine
end

section
/-! Keys, evidence, debug grants and zeroisation (R432–R453). -/

namespace Sys2Proof.Machine

variable {s : State} {p v : Nat}

/-! ## Delivery (R436, R437) -/

theorem deliveryStatus_eq_loaded (s : State) (p : Nat) (b : Blob) (key : Option Nat) : s.deliveryStatus p b key = keyLoaded ↔
    (s.ptnState p = ptnSealed ∧ b.wellFormed = true ∧ s.genFits p b = true ∧ b.pak = s.rd .secPakDigest 0 p ∧ key.isSome = true
      ∧ (s.keySlot (slotPak p)).isSome = true ∧ s.policyHolds p b.flags b.terms = true) := by
  unfold State.deliveryStatus
  split
  case isTrue h => simp [h, keyNotSealed, keyLoaded]
  case isFalse h =>
    have hp : s.ptnState p = ptnSealed := Classical.not_not.1 h
    split
    case isTrue hf => simp only [keyFormat, keyLoaded, Nat.one_ne_zero, false_iff]; grind
    case isFalse hf =>
      simp only [Bool.not_eq_true, not_or, Bool.not_eq_false] at hf
      split
      case isTrue hk => simp [hk, keyWrongPak, keyLoaded]
      case isFalse hk =>
        split
        case isTrue ha => simp only [keyAuth, keyLoaded]; rcases ha with ha | ha <;> simp [Option.isNone_iff_eq_none.1 ha]
        case isFalse ha =>
          simp only [not_or, Bool.not_eq_true, Option.isNone_eq_false_iff] at ha
          split
          case isTrue hh => simp [hp, hf, Classical.not_not.1 hk, ha, hh]
          case isFalse hh => simp [hh, keyPolicy, keyLoaded]

theorem deliverKey_denied {r : Role} (h : r ≠ .tenant) (d : List Byte) (key : Option Nat) : s.deliverKey r p d key = (stDenied, s) := if_pos h

/-- The state in which a delivery leaves the slots: its key set and the evidence measured again, or nothing changed. -/
def State.delivered (s : State) (p : Nat) (b : Blob) (key : Option Nat) : State :=
  if s.deliveryStatus p b key = keyLoaded then
    (s.setKey (s.blobSlot p b) { material := key.getD 0, keyId := b.keyId, gen := b.gen, switchBeat := b.switchBeat, flags := b.flags
                                 terms := b.terms.filter (fun t => t.op != 0) }).remeasure p
  else s

theorem deliverKey_tenant {d : List Byte} (hd : d.length = 2384) (key : Option Nat) : s.deliverKey .tenant p d key =
    (stOk, (s.delivered p (blobOf d) key).wr .secKeyStatus (s.deliveryStatus p (blobOf d) key * 2 ^ 56
      + s.blobSlot p (blobOf d) % 16 * 2 ^ 48 + (blobOf d).keyId) 0 p) := by
  have hr : ¬ Role.tenant ≠ .tenant := fun h => h rfl
  simp only [State.deliverKey, if_neg hr, if_neg (Classical.not_not.2 hd)]
  rfl

theorem delivered_loaded {b : Blob} {key : Option Nat} (h : s.deliveryStatus p b key = keyLoaded) : ∃ v : State,
    s.delivered p b key = v.remeasure p ∧ { v with sec := s.sec } = s
    ∧ (v.keySlot (s.blobSlot p b)).map (fun x => (some x.material, x.keyId, x.flags)) = some (key, b.keyId, b.flags)
    ∧ ∀ k, k ≠ s.blobSlot p b → v.keySlot k = s.keySlot k := by
  obtain ⟨-, -, -, -, hkey, -⟩ := (deliveryStatus_eq_loaded s p b key).1 h
  obtain ⟨m, rfl⟩ := Option.isSome_iff_exists.1 hkey
  exact ⟨_, if_pos h, rfl, by rw [keySlot_setKey]; rfl, fun k hk => keySlot_setKey_ne _ _ _ _ hk⟩

/-! ## Import (R439, R440) -/

theorem field_255_208_mod (v : Nat) : field v 255 208 % 256 = field v 215 208 := by
  simp only [field]
  omega

/-- The import that SEC_IMPORT orders with the partition's checkpoint key. -/
def importOrder (p v : Nat) (key : KeySlot) : Import :=
  { src := field v 255 208, dst := field v 207 160, count := field v 159 144, slot := slotCkpt p, byHeader := v.testBit 139, key }

/-- An order of SEC_IMPORT that names the checkpoint key and has no reserved bit. -/
structure ImportWord (v : Nat) : Prop where
  small : v < 2 ^ 256
  reserved : field v 215 208 = 0
  aligned : field v 207 160 % Config.granule = 0
  count : field v 159 144 ≠ 0
  key : field v 143 140 = 8
  rest : field v 138 0 = 0

section importWrite

variable (hv : ImportWord v) (hn : s.sec.imports.find p = none)
include hv hn

theorem importWord_checked : ¬ Role.tenant ≠ .tenant ∧ ¬ 2 ^ 256 ≤ v
    ∧ ¬ (field v 255 208 % 256 ≠ 0 ∨ field v 207 160 % Config.granule ≠ 0 ∨ field v 159 144 = 0 ∨ 8 < 8 ∨ field v 138 0 ≠ 0)
    ∧ ¬ (s.sec.imports.find p).isSome := by
  obtain ⟨h0, h1, h2, h3, -, h5⟩ := hv
  refine ⟨fun h => h rfl, (Nat.not_le.mpr h0), ?_, by simp [hn]⟩
  rw [field_255_208_mod]
  omega

theorem importWrite_noKey (hk : (s.wr .secImport v 0 p).keySlot (slotCkpt p) = none) :
    s.importWrite .tenant p v = (stOk, (s.wr .secImport v 0 p).importResult p impNoKey 0 0) := by
  obtain ⟨h1, h2, h3, h4⟩ := importWord_checked hv hn
  simp only [State.importWrite, hv.key, if_neg h1, if_neg h2, if_neg h3, if_neg h4, if_true, hk]

theorem importWrite_key {key : KeySlot} (hk : (s.wr .secImport v 0 p).keySlot (slotCkpt p) = some key) : s.importWrite .tenant p v =
    (stOk, { s.wr .secImport v 0 p with sec := { s.sec with imports := s.sec.imports.set p (importOrder p v key) } }) := by
  obtain ⟨h1, h2, h3, h4⟩ := importWord_checked hv hn
  simp only [State.importWrite, hv.key, if_neg h1, if_neg h2, if_neg h3, if_neg h4, if_true, hk]
  rfl

end importWrite

theorem importDone_none (n : Nat) (h : s.sec.imports.find p = none) : s.importDone p n = s := by simp only [State.importDone, h]

section importDone

variable {i : Import} (h : s.sec.imports.find p = some i)
include h

theorem importDone_revoked (hr : i.revoked = true) : s.importDone p 0 =
    ({ s with sec := { s.sec with imports := s.sec.imports.erase p } } : State).importResult p impPolicy 0 0 := by
  simp only [State.importDone, h, hr, if_true, Nat.zero_min, List.range_zero, List.foldl_nil, and_self]

theorem importDone_kept (n : Nat) (hr : i.revoked = false) {r : ImportRun}
    (hf : (List.range i.count).foldl (ImportRun.next p i) { status := impOk, fail := 0, written := 0, st := s } = r) :
    s.importDone p n = ({ r.st with sec := { r.st.sec with imports := r.st.sec.imports.erase p } } : State).importResult p r.status r.written r.fail := by
  simp only [State.importDone, h, hr, Bool.false_eq_true, if_false, false_and, hf]

end importDone

/-- The equation of `State.importChunk` is split as a hypothesis on the value: its `match` on what a record reads is not for the kernel to compute. -/
theorem importChunk_unreadable {i : Import} {n : Nat} (h : s.readSpan p (i.src + n * chunkBytes) chunkBytes = none) :
    s.importChunk p i n = (impXlate, s) := by
  generalize hf : State.importChunk = f
  delta State.importChunk at hf
  have hrun := congrFun (congrFun (congrFun (congrFun hf s) p) i) n
  split at hrun
  case h_1 hd => simp [h] at hd
  case h_2 hd => simp [h] at hd
  case h_3 => exact hrun.symm

/-- Records that cannot be read leave the run at the first of them. -/
theorem importRun_xlate (i : Import) (l : List Nat) (f : Nat) (hk : ∀ k ∈ l, s.readSpan p (i.src + k * chunkBytes) chunkBytes = none) :
    l.foldl (ImportRun.next p i) { status := impXlate, fail := f, written := 0, st := s } = { status := impXlate, fail := f, written := 0, st := s } := by
  induction l with
  | nil => rfl
  | cons k l ih =>
    have hc : s.importChunk p i k = (impXlate, s) := importChunk_unreadable (hk k (List.mem_cons_self ..))
    have hstep : ImportRun.next p i { status := impXlate, fail := f, written := 0, st := s } k = { status := impXlate, fail := f, written := 0, st := s } := by
      simp [ImportRun.next, hc, impXlate, impOk]
    rw [List.foldl_cons, hstep]
    exact ih fun j hj => hk j (List.mem_cons_of_mem _ hj)

theorem importRun_unreadable (i : Import) (hn : 0 < i.count) (hk : ∀ k, k < i.count → s.readSpan p (i.src + k * chunkBytes) chunkBytes = none) :
    (List.range i.count).foldl (ImportRun.next p i) { status := impOk, fail := 0, written := 0, st := s } =
      { status := impXlate, fail := 0, written := 0, st := s } := by
  obtain ⟨m, hm⟩ := Nat.exists_eq_add_of_lt hn
  have hc : s.importChunk p i 0 = (impXlate, s) := importChunk_unreadable (hk 0 hn)
  have hstep : ImportRun.next p i { status := impOk, fail := 0, written := 0, st := s } 0 = { status := impXlate, fail := 0, written := 0, st := s } := by
    simp [ImportRun.next, hc, impXlate, impOk]
  rw [show i.count = m + 1 by omega, List.range_succ_eq_map, List.foldl_cons, hstep]
  refine importRun_xlate i _ 0 fun k hk' => ?_
  obtain ⟨j, hj, rfl⟩ := List.mem_map.1 hk'
  exact hk _ (by have := List.mem_range.1 hj; omega)

theorem importRun_one (i : Import) (hn : i.count = 1) : (List.range i.count).foldl (ImportRun.next p i) { status := impOk, fail := 0, written := 0, st := s } =
    { status := (s.importChunk p i 0).1, fail := 0, written := if (s.importChunk p i 0).1 = impOk then 1 else 0, st := (s.importChunk p i 0).2 } := by
  simp only [hn, List.range_one, List.foldl_cons, List.foldl_nil, ImportRun.next, if_true, ite_self]

/-- An import none of whose records is readable ends with XLATE. -/
theorem importDone_unreadable {i : Import} (n : Nat) (h : s.sec.imports.find p = some i) (hr : i.revoked = false) (hn : 0 < i.count)
    (hk : ∀ k, k < i.count → s.readSpan p (i.src + k * chunkBytes) chunkBytes = none) : s.importDone p n =
      ({ s with sec := { s.sec with imports := s.sec.imports.erase p } } : State).importResult p impXlate 0 0 := by
  rw [importDone_kept h n hr (importRun_unreadable i hn hk)]

/-- An import of one record ends with that record's status. -/
theorem importDone_one {i : Import} (n : Nat) (h : s.sec.imports.find p = some i) (hr : i.revoked = false) (hn : i.count = 1)
    {c : Nat × State} (hc : c = s.importChunk p i 0) : s.importDone p n =
      ({ c.2 with sec := { c.2.sec with imports := c.2.sec.imports.erase p } } : State).importResult p c.1 (if c.1 = impOk then 1 else 0) 0 := by
  have hrun := importRun_one (s := s) (p := p) i hn
  rw [← hc] at hrun
  rw [importDone_kept h n hr hrun]

/-! ## Rotation and retirement (R441, R443) -/

theorem rotateWrite_starts (hp : s.ptnState p = ptnSealed) (hr : s.rd .secRotateState 0 p = rotIdle) : s.rotateWrite .tenant p 1 =
    (stOk, { (s.wr .secRotate 1 0 p) with sec := { s.sec with rotate := s.sec.rotate.set p () } }) := by
  simp [State.rotateWrite, hp, hr]

theorem rotateWrite_busy (hv : v < 256) (h : v ≠ 1 ∨ s.ptnState p ≠ ptnSealed ∨ s.rd .secRotateState 0 p ≠ rotIdle) :
    s.rotateWrite .security p v = (stBusy, s) := by
  have hno : ¬ (v = 1 ∧ s.ptnState p = ptnSealed ∧ s.rd .secRotateState 0 p = rotIdle) := by
    rintro ⟨h1, h2, h3⟩
    rcases h with h | h | h
    · exact h h1
    · exact h h2
    · exact h h3
  have hr : ¬ (Role.security ≠ .tenant ∧ Role.security ≠ .security) := by decide
  simp only [State.rotateWrite, if_neg hr, if_neg (Nat.not_le.mpr hv), if_neg hno]
  rfl

theorem rotateWrite_denied (s : State) (p v : Nat) : s.rotateWrite .operator p v = (stDenied, s) := if_pos (by decide)

section retire

variable {a b : KeySlot} (ha : s.keySlot (slotFabric p 0) = some a) (hb : s.keySlot (slotFabric p 1) = some b) (hg : b.gen = (a.gen + 1) % 4)
include ha hb hg

theorem retireFabric_early (h : s.beat.number.toNat < b.switchBeat + s.rd .secFkGrace 0 p) : s.retireFabric p = s := by
  simp only [State.retireFabric, ha, hb, if_pos hg, (Nat.not_le.mpr h), false_and, if_false]

theorem retireFabric_destroys (h : b.switchBeat + s.rd .secFkGrace 0 p ≤ s.beat.number.toNat) (hc : s.sox.conns = []) :
    s.retireFabric p = (s.destroyKey (slotFabric p 0)).remeasure p := by
  simp only [State.retireFabric, ha, hb, if_pos hg, h, hc, List.any_nil, Bool.false_eq_true, not_false_eq_true, and_self, if_true]

end retire

theorem retireFabric_one_key (h : s.keySlot (slotFabric p 0) = none ∨ s.keySlot (slotFabric p 1) = none) : s.retireFabric p = s := by
  unfold State.retireFabric
  split
  · next a b ha hb => simp [ha, hb] at h
  · rfl

/-! ## Evidence (R445, R446, R456) -/

theorem spdm_silent {ep : Nat} (q : SpdmReq) (h : s.hasEndpoint ep = false ∨ s.seUp = false ∨ s.lc = lcScrapped ∨ s.lc = lcLocked) : s.spdm ep q = s := by
  have hn : ¬ s.hasEndpoint ep ∨ ¬ s.seUp ∨ s.lc = lcScrapped ∨ s.lc = lcLocked := by
    simpa only [Bool.not_eq_true] using h
  simp only [State.spdm, if_pos hn]

section spdm

variable {ep : Nat} (he : s.hasEndpoint ep = true) (hu : s.seUp = true) (hs : s.lc ≠ lcScrapped) (hl : s.lc ≠ lcLocked)
include he hu hs hl

theorem spdm_answers : ¬ (¬ s.hasEndpoint ep ∨ ¬ s.seUp ∨ s.lc = lcScrapped ∨ s.lc = lcLocked) := by simp [he, hu, hs, hl]

theorem spdm_version : s.spdm ep .getVersion = s.emit (.spdm ep 0x84 0 s.beat.number.toNat [[0x13]]) := by
  rw [State.spdm, if_neg (spdm_answers he hu hs hl)]
  rfl

theorem spdm_challenge (nonce : Nat) :
    s.spdm ep (.challenge nonce) = s.emit (.spdm ep 0x83 nonce s.beat.number.toNat [[Config.digest (s.chainOf ep)]]) := by
  rw [State.spdm, if_neg (spdm_answers he hu hs hl)]
  rfl

theorem spdm_block {i : Nat} (nonce : Nat) {b : List Nat} (h0 : i ≠ 0) (hf : i ≠ 0xFF) (hb : s.block ep i = some b) :
    s.spdm ep (.getMeasurements i nonce) = s.emit (.spdm ep 0xE0 nonce s.beat.number.toNat [b]) := by
  rw [State.spdm, if_neg (spdm_answers he hu hs hl)]
  simp only [if_neg h0, if_neg hf, hb]
  rfl

theorem spdm_noBlock {i : Nat} (nonce : Nat) (h0 : i ≠ 0) (hf : i ≠ 0xFF) (hb : s.block ep i = none) :
    s.spdm ep (.getMeasurements i nonce) = s.emit (.spdm ep spdmError 0 s.beat.number.toNat []) := by
  rw [State.spdm, if_neg (spdm_answers he hu hs hl)]
  simp only [if_neg h0, if_neg hf, hb]

theorem spdm_other (c : Nat) : s.spdm ep (.other c) = s.emit (.spdm ep spdmError 0 s.beat.number.toNat []) := by
  rw [State.spdm, if_neg (spdm_answers he hu hs hl)]

end spdm

/-! ## Debug grants (R449) -/

theorem grantWrite_operator {b : List Byte} (hb : b.length = 3584) (ok : Bool) : s.grantWrite .operator p b ok =
    if ok && s.rd .secTenantKey 0 p != 0 && s.grantFits p b then
      (stPending, { (s.wr .secDebugNonce s.draw128 0 p).drawn 2 with
        sec := { s.sec with nextGrants := s.sec.nextGrants.set p { scope := bytesAt b 2 2, beats := bytesAt b 4 4 } } })
    else (stAuth, (s.wr .secDebugNonce s.draw128 0 p).drawn 2) := by
  have hr : ¬ Role.operator ≠ .operator := fun h => h rfl
  simp only [State.grantWrite, if_neg hr, if_neg (Classical.not_not.2 hb)]
  rfl

theorem rd_debugNonce (s : State) (p : Nat) (sec : Sec) :
    ({ (s.wr .secDebugNonce s.draw128 0 p).drawn 2 with sec } : State).rd .secDebugNonce 0 p = s.draw128 % 2 ^ 128 := rd_wr_same s .secDebugNonce ..

theorem debugStateWrite_ends (s : State) (p : Nat) : s.debugStateWrite .tenant p 0 = (stOk, s.grantEnd p) := rfl

theorem grantEnd_none (h : s.sec.grants.find p = none) : s.grantEnd p = s := by simp [State.grantEnd, h]

section debugCmd

variable (hv : v < 2 ^ 256) (hn : field v 207 199 + 1 ≤ 256) (h0 : field v 195 0 = 0) (hs : field v 197 196 = 0) (hw : v.testBit 198 = false)
include hv hn h0 hs

/-- A debug read's checks come down to its grant. -/
theorem debugCmd_checked : ¬ Role.operator ≠ .operator ∧ ¬ 2 ^ 256 ≤ v ∧ ¬ (256 < field v 207 199 + 1 ∨ 1 < field v 197 196 ∨ field v 195 0 ≠ 0) :=
  ⟨fun h => h rfl, (Nat.not_le.mpr hv), by omega⟩

theorem debugCmd_noGrant (hg : s.sec.grants.find p = none) : s.debugCmd .operator p v = (stDenied, s) := by
  obtain ⟨h1, h2, h3⟩ := debugCmd_checked hv hn h0 hs
  simp only [State.debugCmd, if_neg h1, if_neg h2, if_neg h3, hg]
  rfl

include hw

theorem debugCmd_scope {g : Grant} (hg : s.sec.grants.find p = some g) (hb : g.scope.testBit 0 = false) : s.debugCmd .operator p v = (stDenied, s) := by
  obtain ⟨h1, h2, h3⟩ := debugCmd_checked hv hn h0 hs
  have ha : ¬ g.allows (v.testBit 198) (field v 197 196 == 1) = true := by simp [hs, hw, Grant.allows, hb]
  simp only [State.debugCmd, if_neg h1, if_neg h2, if_neg h3, hg, if_pos ha]
  rfl

theorem debugCmd_unmapped {g : Grant} (hg : s.sec.grants.find p = some g) (hb : g.scope.testBit 0 = true)
    (hr : s.readSpan p (field v 255 208) (field v 207 199 + 1) = none) : s.debugCmd .operator p v = (stRange, s) := by
  obtain ⟨h1, h2, h3⟩ := debugCmd_checked hv hn h0 hs
  have ha : ¬ ¬ g.allows (v.testBit 198) (field v 197 196 == 1) = true := by simp [hs, hw, Grant.allows, hb]
  have hx : field v 197 196 = 0 ∧ (s.readSpan p (field v 255 208) (field v 207 199 + 1)).isNone
      ∨ (v.testBit 198 ∧ ¬ s.spanWritable p (field v 255 208) (field v 207 199 + 1)) := .inl ⟨hs, by rw [hr]; rfl⟩
  simp only [State.debugCmd, if_neg h1, if_neg h2, if_neg h3, hg, if_neg ha, if_pos hx]
  rfl

theorem debugCmd_reads {g : Grant} (hg : s.sec.grants.find p = some g) (hb : g.scope.testBit 0 = true)
    (hr : (s.readSpan p (field v 255 208) (field v 207 199 + 1)).isSome = true) : s.debugCmd .operator p v =
      (stOk, (((s.wr .secDebugCmd v 0 p).record .debugAccess (some p) false
        (field v 255 208 * 2 ^ 80 + (field v 207 199 + 1 - 1) * 2 ^ 71 + 0 + 0 * 2 ^ 68)).debugRead p (field v 255 208)
          (field v 207 199 + 1)).sqlSettle) := by
  obtain ⟨h1, h2, h3⟩ := debugCmd_checked hv hn h0 hs
  have ha : ¬ ¬ g.allows (v.testBit 198) (field v 197 196 == 1) = true := by simp [hs, hw, Grant.allows, hb]
  have hx : ¬ (field v 197 196 = 0 ∧ (s.readSpan p (field v 255 208) (field v 207 199 + 1)).isNone
      ∨ (v.testBit 198 ∧ ¬ s.spanWritable p (field v 255 208) (field v 207 199 + 1))) := by
    rw [Option.isSome_iff_exists] at hr
    obtain ⟨d, hd⟩ := hr
    simp [hw, hd]
  simp only [State.debugCmd, if_neg h1, if_neg h2, if_neg h3, hg, if_neg ha, if_neg hx]
  simp only [hw, hs, Bool.false_eq_true, if_false, Nat.zero_ne_one]

end debugCmd

theorem record_mem (s : State) (k : RecKind) (q : Option Nat) (keep : Bool) (ext : Nat) : (s.record k q keep ext).mem = s.mem := by
  unfold State.record State.buffer
  split <;> rfl

/-! ## Self-tests and zeroisation (R451–R453) -/

theorem selftestWrite_up (h : s.seUp = true) (ok : Bool) : s.selftestWrite .security 1 ok = (stPending, if ok then s else s.selftestFail) := by
  have h1 : ¬ Role.security ≠ .security := fun h => h rfl
  simp only [State.selftestWrite, if_neg h1, h]
  rfl

theorem selftestWrite_passes (h : s.seUp = true) : s.selftestWrite .security 1 true = (stPending, s) := by
  rw [selftestWrite_up h, if_pos rfl]

theorem selftestWrite_fails (h : s.seUp = true) : s.selftestWrite .security 1 false = (stPending, ((s.wr .secState seError).zeroise).ev Ev.secSelftestFail) := by
  rw [selftestWrite_up h, if_neg Bool.false_ne_true, State.selftestFail]

theorem selftestWrite_down (h : s.seUp = false) (ok : Bool) : s.selftestWrite .security 1 ok = (stLocked, s) := by
  have h1 : ¬ Role.security ≠ .security := fun h => h rfl
  simp only [State.selftestWrite, if_neg h1, h]
  rfl

theorem exportEnd_keeps (s : State) (st : Nat) : (s.exportEnd st).sec = s.sec ∧ (s.exportEnd st).mem = s.mem := by
  unfold State.exportEnd State.msix
  split
  · simp only []
    split
    · exact ⟨rfl, rfl⟩
    · split <;> exact ⟨rfl, rfl⟩
  · exact ⟨rfl, rfl⟩

/-- The engine without its keys, before the report of the zeroisation. -/
def State.wiped (s : State) : State :=
  ((({ s with sec := { s.sec with slots := [], root := none, hubKey := none } } : State).exportEnd xpPolicy).wr .secState seZeroised)

theorem zeroise_eq (s : State) : s.zeroise = ((s.wiped.ev Ev.secZeroised).remeasureAll).endSessions (fun _ => true) := rfl

theorem wiped_sec (s : State) : s.wiped.sec = { s.sec with slots := [], root := none, hubKey := none } := (exportEnd_keeps _ _).1

theorem wiped_mem (s : State) : s.wiped.mem = s.mem := (exportEnd_keeps _ _).2

theorem wiped_state (s : State) : s.wiped.rd .secState = seZeroised := rd_wr_same _ .secState ..

theorem wiped_keySlot (s : State) (k : Nat) : s.wiped.keySlot k = none := congrArg (fun x => AMap.find (Sec.slots x) k) (wiped_sec s)

/-- The outcome of a grant: its status, and what becomes of the partition's grants. -/
theorem grantWrite_outcome (s : State) (p : Nat) {b : List Byte} (hb : b.length = 3584) (ok : Bool) : ∃ t : State, ∃ st,
    exec (.secDebugGrant .operator p b ok) s = .next (t.emit (.status st 0)) ∧ t.rd .secDebugNonce 0 p = s.draw128 % 2 ^ 128
    ∧ t.sec.grants = s.sec.grants
    ∧ (ok = true → s.rd .secTenantKey 0 p ≠ 0 → s.grantFits p b = true → st = stPending
        ∧ (t.sec.nextGrants.find p).map (fun g => (g.scope, g.beats)) = some (bytesAt b 2 2, bytesAt b 4 4))
    ∧ (ok = false ∨ s.rd .secTenantKey 0 p = 0 ∨ s.grantFits p b = false → st = stAuth ∧ t.sec.nextGrants = s.sec.nextGrants) := by
  rw [exec_secDebugGrant, execSecDebugGrant, grantWrite_operator hb]
  split
  · next h =>
    simp only [Bool.and_eq_true, bne_iff_ne] at h
    obtain ⟨⟨hok, hkey⟩, hfits⟩ := h
    refine ⟨_, _, rfl, rd_debugNonce s p _, rfl, fun _ _ _ => ⟨rfl, by rw [AMap.find_set_same]; rfl⟩, fun hno => ?_⟩
    simp [hok, hkey, hfits] at hno
  · next h =>
    refine ⟨_, _, rfl, rd_debugNonce s p s.sec, rfl, fun hok hkey hfits => absurd ?_ h, fun _ => ⟨rfl, rfl⟩⟩
    simp [hok, hkey, hfits]

theorem selftestFail_eq (s : State) : s.selftestFail = ((s.wr .secState seError).zeroise).ev Ev.secSelftestFail := rfl

/-- An answer's effect on the state of a register write. -/
theorem next_answered {a b : Answer} (h : a = b) :
    (Host.Outcome.next (State.answered a) : Host.Outcome State Fault Refusal) = .next (State.answered b) := congrArg _ (congrArg _ h)

/-- A failed periodic self-test (R453). -/
theorem katExpiry_fails (s : State) :
    exec (.secKatPeriodExpiry false) s = .next (((s.wr .secState seError).zeroise).ev Ev.secSelftestFail) := by
  rw [exec_secKatPeriodExpiry, execSecKatPeriodExpiry, if_neg Bool.false_ne_true, State.selftestFail]

/-- A self-test that fails (R453). -/
theorem exec_selftest_fails (h : s.seUp = true) : exec (.secSelftest .security 1 false) s
    = .next ((((s.wr .secState seError).zeroise).ev Ev.secSelftestFail).emit (.status stPending 0)) := by
  rw [exec_secSelftest, execSecSelftest, selftestWrite_fails h, State.answered]

/-- The zeroisations and self-tests of O41. -/
theorem selftest_answers : ∀ s : State, exec .seSensorTrip s = .next s.zeroise ∧ exec (.secZeroise .security 0x5A) s = .next (s.zeroise.emit (.status stOk 0))
    ∧ exec (.secZeroise .operator 0x5A) s = .next (s.emit (.status stDenied 0)) ∧ exec (.secKatPeriodExpiry true) s = .next s
    ∧ exec (.secKatPeriodExpiry false) s = .next (((s.wr .secState seError).zeroise).ev Ev.secSelftestFail)
    ∧ (s.seUp = true → exec (.secSelftest .security 1 true) s = .next (s.emit (.status stPending 0))
      ∧ exec (.secSelftest .security 1 false) s = .next ((((s.wr .secState seError).zeroise).ev Ev.secSelftestFail).emit (.status stPending 0)))
    ∧ (s.seUp = false → ∀ ok, exec (.secSelftest .security 1 ok) s = .next (s.emit (.status stLocked 0))) :=
  fun s => ⟨rfl, rfl, rfl, rfl, katExpiry_fails s, fun h => ⟨next_answered (selftestWrite_passes h), exec_selftest_fails h⟩,
    fun h ok => next_answered (selftestWrite_down h ok)⟩

/-- The keys of O41: delivery, import, rotation and retirement. -/
theorem keys_answer :
    (∀ (s : State) (p : Nat) (d : List Byte) (key : Option Nat), d.length = 2384 → ∃ u : State,
      exec (.secKeyDeliver .tenant p d key) s = .next ((u.wr .secKeyStatus (s.deliveryStatus p (blobOf d) key * 2 ^ 56
        + s.blobSlot p (blobOf d) % 16 * 2 ^ 48 + (blobOf d).keyId) 0 p).emit (.status stOk 0))
      ∧ (s.deliveryStatus p (blobOf d) key ≠ keyLoaded → u = s)
      ∧ (s.deliveryStatus p (blobOf d) key = keyLoaded → ∃ v : State, u = v.remeasure p ∧ { v with sec := s.sec } = s
          ∧ (v.keySlot (s.blobSlot p (blobOf d))).map (fun x => (some x.material, x.keyId, x.flags)) = some (key, (blobOf d).keyId, (blobOf d).flags)
          ∧ ∀ k, k ≠ s.blobSlot p (blobOf d) → v.keySlot k = s.keySlot k)) :=
  fun _ _ _ key hd => ⟨_, next_answered (deliverKey_tenant hd key), fun h => if_neg h, fun h => delivered_loaded h⟩

/-- Settles O41: each command of the security engine passes its checks in their order, and then changes the keys, grants and evidence as
R432 to R453 say. -/
theorem keysAndEvidence : Obligations.KeysAndEvidence := by
  unfold Obligations.KeysAndEvidence
  refine ⟨⟨deliveryStatus_eq_loaded, fun s r p d key h => next_answered (deliverKey_denied h d key), keys_answer,
    fun s p v h0 h1 h2 h3 h4 h5 hn => ⟨fun hk => next_answered (importWrite_noKey ⟨h0, h1, h2, h3, h4, h5⟩ hn hk), fun key hk =>
      ⟨_, next_answered (importWrite_key ⟨h0, h1, h2, h3, h4, h5⟩ hn hk), congrArg (Option.map _) (AMap.find_set_same ..), rfl, rfl⟩⟩,
    fun s p n h => congrArg Host.Outcome.next (importDone_none n h),
    fun s p n i h => ⟨fun hr => congrArg Host.Outcome.next (importDone_revoked h hr), fun hr hn hk => congrArg Host.Outcome.next (importDone_unreadable n h hr hn hk),
      fun c hc hr hn => congrArg Host.Outcome.next (importDone_one n h hr hn hc)⟩,
    fun s p v => ⟨fun hp hr => ⟨_, next_answered (rotateWrite_starts hp hr), ?_, rfl, rfl, rfl⟩, fun hv h => next_answered (rotateWrite_busy hv h),
      next_answered (rotateWrite_denied s p v)⟩,
    fun s p a b ha hb hg => ⟨fun h => congrArg Host.Outcome.next (retireFabric_early ha hb hg h),
      fun h hc => congrArg Host.Outcome.next (retireFabric_destroys ha hb hg h hc)⟩,
    fun s p h => congrArg Host.Outcome.next (retireFabric_one_key h)⟩,
    fun s ep q => ⟨fun h => congrArg Host.Outcome.next (spdm_silent q h), fun he hu hs hl => ⟨congrArg Host.Outcome.next (spdm_version he hu hs hl),
      fun nonce => congrArg Host.Outcome.next (spdm_challenge he hu hs hl nonce),
      fun i nonce b h0 hf hb => congrArg Host.Outcome.next (spdm_block he hu hs hl nonce h0 hf hb),
      fun i nonce h0 hf hb => congrArg Host.Outcome.next (spdm_noBlock he hu hs hl nonce h0 hf hb),
      fun c => congrArg Host.Outcome.next (spdm_other he hu hs hl c)⟩⟩,
    fun s p b ok hb => grantWrite_outcome s p hb ok,
    fun s p v => ⟨rfl, rfl, fun h => congrArg Host.Outcome.next (if_pos h), fun h => congrArg Host.Outcome.next (if_neg (Nat.not_le.mpr h)), grantEnd_none⟩,
    fun s p v hv hn h0 hs hw => ⟨fun hg => next_answered (debugCmd_noGrant hv hn h0 hs hg),
      fun g hg hb => next_answered (debugCmd_scope hv hn h0 hs hw hg hb), fun g hg hb hr => next_answered (debugCmd_unmapped hv hn h0 hs hw hg hb hr),
      fun g hg hb hr => ⟨_, _, next_answered (debugCmd_reads hv hn h0 hs hw hg hb hr), rfl, record_mem .., rfl⟩⟩,
    selftest_answers,
    fun s => ⟨s.wiped, zeroise_eq s, congrArg Sec.slots (wiped_sec s), congrArg Sec.root (wiped_sec s), congrArg Sec.hubKey (wiped_sec s),
      wiped_state s, wiped_mem s, wiped_keySlot s⟩⟩
  · exact congrArg Option.isSome (AMap.find_set_same ..)

end Sys2Proof.Machine
end

section

/-! # Transitions, tokens and the boundary-scan enable (O43)

The writes of R459 to R470 in their order of checks, then the burn, the erasure, the token and the security version. -/

namespace Sys2Proof.Machine

variable {s : State} {r : LcRecord} {role : Role}

/-! ## LCS_TRANSITION (R459, R462) -/

theorem transitionWrite_denied (r : LcRecord) (b : Burn) (h : role = .operator ∨ role = .tenant) : s.transitionWrite role r b = (stDenied, s) := by
  obtain rfl | rfl := h <;> rfl

/-- A role that may write LCS_TRANSITION. -/
theorem mayTransition (h : role = .vendor ∨ role = .integrator ∨ role = .security) : mayWrite [.w, .w, .n, .w, .n] role = true := by
  obtain rfl | rfl | rfl := h <;> rfl

section transitionWrite

variable (b : Burn) (hw : mayWrite [.w, .w, .n, .w, .n] role = true) (hl : r.bytes.length = 10848)
include hw hl

theorem transitionWrite_dead (h : s.lc = lcScrapped ∨ s.lc = lcLocked) : s.transitionWrite role r b = (stLocked, s) := by
  simp [State.transitionWrite, State.refuse, hw, hl, h]

theorem transitionWrite_busy (h0 : s.lc ≠ lcScrapped) (h1 : s.lc ≠ lcLocked) (h : s.lcBusy = true) : s.transitionWrite role r b = (stBusy, s) := by
  simp [State.transitionWrite, State.refuse, hw, hl, h0, h1, h]

theorem transitionWrite_runs (h0 : s.lc ≠ lcScrapped) (h1 : s.lc ≠ lcLocked) (h : s.lcBusy = false) :
    s.transitionWrite role r b = (stPending, s.transition r b) := by
  simp [State.transitionWrite, hw, hl, h0, h1, h]

end transitionWrite

theorem transition_fails (b : Burn) (h : s.lcCheck r [1] ≠ 0) : s.transition r b = s.newNonce.lcFail r (s.lcCheck r [1]) := if_pos h

/-- A transition out of FIELD waits for its erasure. -/
theorem transition_erases (b : Burn) (h : s.lcCheck r [1] = 0) (he : LcRecord.erases r = true) : (s.transition r b).life.erasing = some r := by
  simp only [State.transition, h, he, ne_eq, not_true_eq_false, if_false, if_true]

theorem transition_zeroises (b : Burn) (h : s.lcCheck r [1] = 0) (he : LcRecord.erases r = false) (hz : LcRecord.zeroises r = true) : s.transition r b =
    (((s.newNonce.lcStatus lcChecking 0).lcStatus lcErasing 0).zeroise).burnTransition r b := by
  simp only [State.transition, h, he, hz, ne_eq, not_true_eq_false, if_false, if_true, Bool.false_eq_true]

theorem transition_burns (b : Burn) (h : s.lcCheck r [1] = 0) (he : LcRecord.erases r = false) (hz : LcRecord.zeroises r = false) : s.transition r b =
    (s.newNonce.lcStatus lcChecking 0).burnTransition r b := by
  simp only [State.transition, h, he, hz, ne_eq, not_true_eq_false, if_false, Bool.false_eq_true]

/-! ## The checks of a record (R461) -/

theorem lcCheck_format (h : LcRecord.formatOk r = false) : s.lcCheck r [1] = lcFormat := by simp [State.lcCheck, h]

section lcCheck

variable (hf : LcRecord.formatOk r = true) (hk : LcRecord.kind r = 1)
include hf hk

theorem lcCheck_unit (h : LcRecord.at r 8 8 ≠ s.life.otp.unitId) : s.lcCheck r [1] = lcUnit := by simp [State.lcCheck, hf, hk, h]

variable (hu : LcRecord.at r 8 8 = s.life.otp.unitId)
include hu

theorem lcCheck_src (h : LcRecord.src r ≠ s.lc) : s.lcCheck r [1] = lcStateBad := by simp [State.lcCheck, hf, hk, hu, h]

variable (hs : LcRecord.src r = s.lc)
include hs

theorem lcCheck_pair (h : s.life.otp.signers r = none) : s.lcCheck r [1] = lcStateBad := by simp [State.lcCheck, hf, hk, hu, hs, h]

variable {w : Nat × Option Nat} (hw : s.life.otp.signers r = some w)
include hw

theorem lcCheck_nonce (h : LcRecord.at r 0x10 16 ≠ s.rd .lcsNonce) : s.lcCheck r [1] = lcNonceBad := by
  simp [State.lcCheck, hf, hk, hu, hs, hw, h]

variable (hn : LcRecord.at r 0x10 16 = s.rd .lcsNonce)
include hn

theorem lcCheck_roots (h : LcRecord.rootsOk r w = false) : s.lcCheck r [1] = lcRootBad := by simp [State.lcCheck, hf, hk, hu, hs, hw, hn, h]

theorem lcCheck_unsigned (ho : LcRecord.rootsOk r w = true) (h : LcRecord.signed r = false) : s.lcCheck r [1] = lcSignature := by
  simp [State.lcCheck, hf, hk, hu, hs, hw, hn, ho, h]

theorem lcCheck_passes (ho : LcRecord.rootsOk r w = true) (h : LcRecord.signed r = true) : s.lcCheck r [1] = 0 := by
  simp [State.lcCheck, hf, hk, hu, hs, hw, hn, ho, h]

end lcCheck

/-! ## The burn (R464) and the erasure (R466) -/

/-- The state in which `n` bits of the marks of ASSEMBLY are burnt. -/
def State.burnt (s : State) (r : LcRecord) (n : Nat) : State :=
  (({ s with life := { s.life with erasing := none, slot := some r } } : State).lcStatus lcBurning 0).setOtp (s.life.otp.burn lcAssembly n) |>.showMarks

/-- The state in which the transition is done, before its record. -/
def State.burnDone (s : State) (r : LcRecord) (n : Nat) : State :=
  (({ s.burnt r n with life := { (s.burnt r n).life with done := true } } : State).wr .lcsPending lcAssembly).lcStatus lcDone 0

section burnTransition

variable (b : Burn) (hs : LcRecord.src r = lcWafer) (hd : LcRecord.dst r = lcAssembly)
include hs hd

/-- From WAFER to ASSEMBLY nothing is enrolled and no owner is written. -/
theorem burnTransition_first : ¬ (LcRecord.src r = lcAssembly ∧ LcRecord.dst r = lcProvisioned) ∧ LcRecord.provisions r = false := by
  simp [LcRecord.provisions, hs, hd, lcWafer, lcAssembly, lcProvisioned]

theorem burnTransition_flash (h : b.flashOk = false) :
    s.burnTransition r b = ({ s with life := { s.life with erasing := none } } : State).lcFail r lcFlash := by
  obtain ⟨he, hp⟩ := burnTransition_first hs hd
  simp only [State.burnTransition, if_neg he, hp, h, Bool.false_eq_true, if_false, not_false_eq_true, if_true]

/-- A burn that reaches its target shows its end. -/
theorem burnTransition_reaches (hf : b.flashOk = true) (hp : s.startup.pwrFail = false)
    (h : (s.life.otp.burn lcAssembly b.bits).reached lcAssembly = true) : s.burnTransition r b = (s.burnDone r b.bits).lcRecord r := by
  obtain ⟨he, hv⟩ := burnTransition_first hs hd
  have hp' : (({ s with life := { s.life with erasing := none, slot := some r } } : State).lcStatus lcBurning 0).startup.pwrFail = false := hp
  have hr : (s.burnt r b.bits).life.otp.reached (LcRecord.dst r) = true := hd.symm ▸ h
  simp only [State.burnTransition, if_neg he, hv, hf, hp', Bool.false_eq_true, if_false, not_true_eq_false]
  rw [hd] at hr ⊢
  exact if_pos hr

end burnTransition

theorem burnDone_pending (n : Nat) : (s.burnDone r n).rd .lcsPending = lcAssembly :=
  (rd_wr_ne _ .lcsTransitionStatus .lcsPending _ _ _ _ _ (by decide)).trans (rd_wr_same _ .lcsPending lcAssembly _ _)

theorem burnDone_status (n : Nat) : (s.burnDone r n).rd .lcsTransitionStatus = lcDone * 2 ^ 24 :=
  rd_wr_same _ .lcsTransitionStatus (lcDone * 2 ^ 24 + 0) _ _

/-- The burn leaves LCS_STATE as it was until the next start (R463). -/
theorem burnDone_state (n : Nat) : (s.burnDone r n).rd .lcsState = s.rd .lcsState := by
  have h1 : (s.burnDone r n).rd .lcsState = (s.burnt r n).rd .lcsState :=
    (rd_wr_ne _ .lcsTransitionStatus .lcsState _ 0 0 0 0 (by decide)).trans (rd_wr_ne _ .lcsPending .lcsState _ 0 0 0 0 (by decide))
  have h2 : (s.burnt r n).rd .lcsState = (s.lcStatus lcBurning 0).rd .lcsState := rd_wr_ne _ .lcsMarks .lcsState _ 0 0 0 0 (by decide)
  exact h1.trans (h2.trans (rd_wr_ne s .lcsTransitionStatus .lcsState _ 0 0 0 0 (by decide)))

theorem eraseDone_none (ok : Bool) (b : Burn) (h : s.life.erasing = none) : s.eraseDone ok b = s := by simp only [State.eraseDone, h]

/-- No partition is formed, said of the list of R466. -/
theorem any_formed : (List.range 32).any s.formed = true ↔ ∃ p, p < 32 ∧ s.formed p = true := by simp

theorem eraseDone_fails {ok : Bool} (b : Burn) (he : s.life.erasing = some r)
    (h : ok = false ∨ (∃ p, p < 32 ∧ s.formed p = true) ∨ s.owl.fatalHub = true ∨ s.seUp = false) :
    s.eraseDone ok b = ({ s with life := { s.life with erasing := none } } : State).lcFail r lcErase := by
  have hc : ¬ ok ∨ (List.range 32).any s.formed ∨ s.owl.fatalHub ∨ ¬ s.seUp := by rwa [any_formed, Bool.not_eq_true, Bool.not_eq_true]
  simp only [State.eraseDone, he]
  exact if_pos hc

theorem eraseDone_erases (b : Burn) (he : s.life.erasing = some r) (hn : ∀ p, p < 32 → s.formed p = false) (hf : s.owl.fatalHub = false)
    (hu : s.seUp = true) : s.eraseDone true b = ({ s with mem := [], poison := [] } : State).zeroise.burnTransition r b := by
  have hc : ¬ (¬ (true = true) ∨ (List.range 32).any s.formed ∨ s.owl.fatalHub ∨ ¬ s.seUp) := by
    rw [any_formed, hf, hu]
    rintro (h | ⟨p, hp, h⟩ | h | h)
    · exact h rfl
    · exact Bool.false_ne_true ((hn p hp).symm.trans h)
    · exact Bool.false_ne_true h
    · exact h rfl
  rw [State.eraseDone, he]
  exact if_neg hc

/-! ## Tokens, the security version and boundary scan (R467 to R469) -/

theorem tokenWrite_runs (hl : r.bytes.length = 10848) (h0 : s.lc ≠ lcScrapped) (h1 : s.lc ≠ lcLocked) (h : s.lcBusy = false) :
    s.tokenWrite .vendor r = s.token r := by simp [State.tokenWrite, hl, h0, h1, h]

theorem token_fails (h : s.lcCheck r [2, 3] ≠ 0) : s.token r = (stAuth, s.newNonce.lcStatus lcFailed (s.lcCheck r [2, 3])) := if_pos h

theorem token_opens (h : s.lcCheck r [2, 3] = 0) : s.token r = (stOk,
    ({ s.newNonce with life := { s.newNonce.life with opened := true } } : State).wr .lcsDebugScope (s.newNonce.rd .lcsDebugScope ||| LcRecord.scope r)) :=
  if_neg (Classical.not_not.2 h)

/-- The state in which the security version is committed, before it is measured anew. -/
def State.svnSet (s : State) (v : Nat) : State := ((s.setOtp { s.life.otp with svn := 2 ^ v - 1 }).wr .lcsSvn v).wr .lcsSvnCommit v

section svnCommit

variable {v : Nat} (hv : v < 256) (hl : s.lc = lcField)
include hv hl

theorem svnCommit_vendor : s.svnCommit .vendor v = (stLocked, s) := by
  simp [State.svnCommit, State.refuse, Nat.not_le.2 hv, hl, lcField, lcProvisioned]

variable (hp : s.startup.pwrFail = false)
include hp

theorem svnCommit_range (h : v ≤ s.rd .lcsSvn ∨ s.rdField .secFwVersion 31 0 < v ∨ 64 < v) : s.svnCommit .security v = (stRange, s) := by
  simp [State.svnCommit, State.refuse, Nat.not_le.2 hv, hl, hp, h]

theorem svnCommit_commits (h : s.rd .lcsSvn < v) (hf : v ≤ s.rdField .secFwVersion 31 0) (hm : v ≤ 64) : s.svnCommit .security v =
    (stOk, (s.svnSet v).remeasureAll) := by
  simp [State.svnCommit, State.svnSet, Nat.not_le.2 hv, hl, hp, Nat.not_le.2 h, Nat.not_lt.2 hf, Nat.not_lt.2 hm]

/-- A commitment that passes, as the write answers it. -/
theorem exec_svnCommit_commits (h : s.rd .lcsSvn < v) (hf : v ≤ s.rdField .secFwVersion 31 0) (hm : v ≤ 64) :
    exec (.lcsSvnCommit .security v) s = .next ((s.svnSet v).remeasureAll.emit (.status stOk 0)) := by
  rw [exec_lcsSvnCommit, execLcsSvnCommit, svnCommit_commits hv hl hp h hf hm, State.answered]

omit hl hp in
theorem svnSet_version : (s.svnSet v).rd .lcsSvn = v :=
  (rd_wr_ne _ .lcsSvnCommit .lcsSvn _ 0 0 0 0 (by decide)).trans ((rd_wr_same _ .lcsSvn v 0 0).trans (Nat.mod_eq_of_lt hv))

end svnCommit

theorem svnOk_version {v : Nat} (hm : v ≤ 64) : svnOk (2 ^ v - 1) = true := by
  simp only [svnOk, List.any_eq_true, List.mem_range, beq_iff_eq]
  exact ⟨v, by omega, rfl⟩

theorem bscanWrite_field {v : Nat} (hv : v ≤ 1) (h : s.lc = lcField) : s.bscanWrite .security v = (stOk, s.wr .lcsBscanEn v) := by
  simp [State.bscanWrite, Nat.not_lt.2 hv, h]

theorem bscanWrite_locked {v : Nat} (hv : v ≤ 1) (h : s.lc ≠ lcField) : s.bscanWrite .security v = (stLocked, s) := by
  simp [State.bscanWrite, State.refuse, Nat.not_lt.2 hv, h]

/-- Settles O43: the writes of the life-cycle unit are checked in the order of R461, and what passes erases, burns or opens as R462 to
R469 say. -/
theorem lifeCycleMoves : Obligations.LifeCycleMoves := by
  unfold Obligations.LifeCycleMoves
  refine ⟨fun s role r b => ⟨fun h => next_answered (transitionWrite_denied r b h), fun hr hl => ?_⟩,
    fun s r => ⟨lcCheck_format, fun hf hk => ⟨lcCheck_unit hf hk, lcCheck_src hf hk, lcCheck_pair hf hk, fun w hu hs hw =>
      ⟨lcCheck_nonce hf hk hu hs hw, lcCheck_roots hf hk hu hs hw, lcCheck_unsigned hf hk hu hs hw, lcCheck_passes hf hk hu hs hw⟩⟩⟩,
    fun s r b hs hd => ⟨burnTransition_flash b hs hd, fun hf hp h => ⟨s.burnDone r b.bits, burnTransition_reaches b hs hd hf hp h,
      burnDone_pending _, burnDone_status _, rfl, rfl, burnDone_state _, rfl⟩⟩,
    fun s ok b => ⟨fun h => congrArg Host.Outcome.next (eraseDone_none ok b h), fun r he =>
      ⟨fun h => congrArg Host.Outcome.next (eraseDone_fails b he h),
        fun ho hn hf hu => ho.symm ▸ congrArg Host.Outcome.next (eraseDone_erases b he hn hf hu)⟩⟩,
    fun s r hl h0 h1 hb => ⟨fun h => next_answered ((tokenWrite_runs hl h0 h1 hb).trans (token_fails h)), fun h =>
      ⟨_, next_answered ((tokenWrite_runs hl h0 h1 hb).trans (token_opens h)), rfl, rd_wr_same _ .lcsDebugScope .., rfl, rfl⟩⟩,
    fun s v hv hl hp => ⟨fun h => next_answered (svnCommit_range hv hl hp h), fun h hf hm =>
      ⟨s.svnSet v, exec_svnCommit_commits hv hl hp h hf hm, rfl, svnSet_version hv, svnOk_version hm⟩, next_answered (svnCommit_vendor hv hl)⟩,
    fun s v hv => ⟨fun h => next_answered (bscanWrite_field hv h), fun h => next_answered (bscanWrite_locked hv h), rfl⟩⟩
  have hw := mayTransition hr
  refine ⟨fun h => next_answered (transitionWrite_dead b hw hl h), fun h0 h1 h => next_answered (transitionWrite_busy b hw hl h0 h1 h),
    fun h0 h1 hb => ?_⟩
  have hrun := transitionWrite_runs b hw hl h0 h1 hb
  exact ⟨fun h => next_answered (hrun.trans (congrArg _ (transition_fails b h))),
    fun h he => ⟨_, next_answered hrun, transition_erases b h he⟩,
    fun h he hz => next_answered (hrun.trans (congrArg _ (transition_burns b h he hz))),
    fun h he hz => next_answered (hrun.trans (congrArg _ (transition_zeroises b h he hz)))⟩

end Sys2Proof.Machine
end

section

/-! # The TAP (O45) -/

namespace Sys2Proof.Machine

variable {s : State}

/-! ## Instructions and states (R468, R591) -/

theorem tapSelect_refused {i : TapIr} (k : State → State) (h : s.tapAdmits i = false) :
    s.tapSelect i k = { s with tap := { s.tap with ir := .bypass } } := by
  simp only [State.tapSelect, h, Bool.false_eq_true, if_false]

theorem tapSelect_admitted {i : TapIr} (k : State → State) (h : s.tapAdmits i = true) :
    s.tapSelect i k = k { s with tap := { s.tap with ir := i } } := by
  simp only [State.tapSelect, h, if_true]

/-- In a dead state the TAP admits only the instructions of R591 that show nothing more. -/
theorem tapAdmits_dead {i : TapIr} (h : s.lc = lcScrapped ∨ s.lc = lcLocked) (ha : s.tapAdmits i = true) :
    i = .idcode ∨ i = .bypass ∨ i = .lcStatus := by
  obtain h | h := h <;> cases i <;> simp_all [State.tapAdmits, lcScrapped, lcLocked, lcWafer, lcAssembly, lcReturned, lcField]

/-- In FIELD no scan, token or stack wrapper is admitted. -/
theorem tapAdmits_field {i : TapIr} (h : s.lc = lcField) (hi : i = .intscan ∨ i = .mbistAcc ∨ i = .lcToken ∨ i = .ieee1500) :
    s.tapAdmits i = false := by
  obtain rfl | rfl | rfl | rfl := hi <;> simp [State.tapAdmits, h, lcField, lcWafer, lcAssembly, lcReturned]

/-! ## What an instruction does on entry (R592, R593) -/

theorem scanEntry_closed (h : s.life.opened = false) : s.scanEntry = s := if_neg (h ▸ Bool.false_ne_true)

theorem scanEntry_opened (h : s.life.opened = true) :
    s.scanEntry = ({ s with life := { s.life with opened := false } } : State).zeroise.wr .pdxReady 0 := if_pos h

/-- A scan instruction on entry: the scan of an opened scope zeroises and leaves READY. -/
theorem tapScan {c : Instr} {i : TapIr} (hc : exec c s = .next (s.tapSelect i State.scanEntry)) (h : s.tapAdmits i = true) :
    (s.life.opened = false → exec c s = .next { s with tap := { s.tap with ir := i } })
    ∧ (s.life.opened = true → ∃ t : State, exec c s = .next (t.zeroise.wr .pdxReady 0) ∧ t.life.opened = false ∧ t.tap.ir = i
        ∧ (t.zeroise.wr .pdxReady 0).rd .pdxReady = 0) := by
  rw [hc, tapSelect_admitted _ h]
  exact ⟨fun ho => congrArg _ (scanEntry_closed ho), fun ho => ⟨_, congrArg _ (scanEntry_opened ho), rfl, rfl, rd_wr_same ..⟩⟩

/-- A stack wrapper names its stack, and its instruction stays. -/
theorem tapIeee1500_selects (g : Nat) (h : s.tapAdmits .ieee1500 = true) :
    ∃ t, exec (.tapIeee1500 g) s = .next t ∧ t.tap.ir = .ieee1500 ∧ t.tap.stack = some (g % 8) :=
  ⟨_, congrArg Host.Outcome.next (tapSelect_admitted _ h), (Keeps.refl _).setTemp.stackOut.tapStack.ir_eq, rfl⟩

/-- A record shifted into LC_TOKEN (R593). -/
def State.tapRecord (r : LcRecord) (b : Burn) (u : State) : State :=
  if u.lcBusy then u else if LcRecord.kind r = 1 then u.transition r b else (u.token r).2

theorem tapRecord_runs (u : State) (r : LcRecord) (b : Burn) : (u.lcBusy = true → u.tapRecord r b = u)
    ∧ (u.lcBusy = false → LcRecord.kind r = 1 → u.tapRecord r b = u.transition r b)
    ∧ (u.lcBusy = false → LcRecord.kind r ≠ 1 → u.tapRecord r b = (u.token r).2) := by
  refine ⟨fun h => if_pos h, fun h hk => ?_, fun h hk => ?_⟩
  · exact (if_neg (h ▸ Bool.false_ne_true)).trans (if_pos hk)
  · exact (if_neg (h ▸ Bool.false_ne_true)).trans (if_neg hk)

theorem exec_tapLcToken_admitted (r : LcRecord) (b : Burn) (h : s.tapAdmits .lcToken = true) :
    exec (.tapLcToken r b) s = .next (State.tapRecord r b { s with tap := { s.tap with ir := .lcToken } }) :=
  congrArg Host.Outcome.next (tapSelect_admitted (State.tapRecord r b) h)

/-- Settles O45: an instruction is selected where the life-cycle state admits it, and does its part on entry; else BYPASS is. -/
theorem tapInstructions : Obligations.TapInstructions := by
  unfold Obligations.TapInstructions
  refine ⟨fun s g r b => ?_, fun s => ⟨rfl, rfl, rfl, rfl, rfl, rfl, rfl⟩, fun s h => congrArg Host.Outcome.next (tapSelect_admitted id h),
    fun s h => ⟨_, rfl, fun hf => ?_, fun hf => ?_⟩, fun s g => tapIeee1500_selects g,
    fun s r b h => ⟨_, rfl, ?_⟩, fun s => ?_, fun s i => ⟨tapAdmits_dead, tapAdmits_field⟩⟩
  · simp only [List.forall_mem_cons]
    exact ⟨fun h => congrArg Host.Outcome.next (tapSelect_refused _ h), fun h => congrArg Host.Outcome.next (tapSelect_refused _ h),
      fun h => congrArg Host.Outcome.next (tapSelect_refused _ h), fun h => congrArg Host.Outcome.next (tapSelect_refused _ h),
      fun h => congrArg Host.Outcome.next (tapSelect_refused _ h), fun h => congrArg Host.Outcome.next (tapSelect_refused _ h),
      fun h => congrArg Host.Outcome.next (tapSelect_refused _ h), fun h => congrArg Host.Outcome.next (tapSelect_refused _ h),
      fun h => congrArg Host.Outcome.next (tapSelect_refused _ h), List.forall_mem_nil _⟩
  · exact congrArg Host.Outcome.next ((tapSelect_admitted _ h).trans (if_pos hf))
  · exact congrArg Host.Outcome.next ((tapSelect_admitted _ h).trans (if_neg hf))
  · rw [exec_tapLcToken_admitted r b h]
    obtain ⟨hb, ht, hk⟩ := tapRecord_runs { s with tap := { s.tap with ir := .lcToken } } r b
    exact ⟨fun h => congrArg _ (hb h), fun h h1 => congrArg _ (ht h h1), fun h h1 => congrArg _ (hk h h1)⟩
  · simp only [List.forall_mem_cons]
    exact ⟨tapScan rfl, tapScan rfl, List.forall_mem_nil _⟩

end Sys2Proof.Machine
end

section

/-! # The checks of a written item (O49; R507, R508) -/

namespace Sys2Proof.Machine

variable {s : State} {a : Actor} {t : DTarget}

/-! ## The checks in their order -/

section itemWrite

variable {o : AMap Nat} {i sub : Nat} {b : List Byte} {x : List Nat}

theorem itemWrite_busy (h : s.indexReady i = false) : s.itemWrite o a i sub b x = (stBusy, s) := by simp [State.itemWrite, State.refuse, h]

variable (hi : s.indexReady i = true)
include hi

theorem itemWrite_notFound (h : dictFind i sub = none) : s.itemWrite o a i sub b x = (stNotFound, s) := by
  simp [State.itemWrite, State.refuse, hi, h]

variable (ht : dictFind i sub = some t)
include ht

variable (hm : mayWrite t.e.acc a.role = true) (hs : s.inScope a t = true)
include hm hs

theorem itemWrite_type (h : t.e.ty.encodes b = false) : s.itemWrite o a i sub b x = (stType, s) := by
  simp [State.itemWrite, State.refuse, hi, ht, hm, hs, h]

variable (he : t.e.ty.encodes b = true)
include he

theorem itemWrite_misfit (h : t.e.ty.fits (leNat b) = false) : s.itemWrite o a i sub b x = (stRange, s) := by
  simp [State.itemWrite, State.refuse, hi, ht, hm, hs, he, h]

variable (hf : t.e.ty.fits (leNat b) = true)
include hf

theorem itemWrite_own {r : Answer} (h : s.ownWrite a t b x = some r) : s.itemWrite o a i sub b x = r := by
  rw [itemWrite_admitted hi ht hm hs he hf, h, Option.getD_some]

variable (hn : s.ownWrite a t b x = none)
include hn

theorem itemWrite_range (h : t.e.range.holds (leNat b) = false ∨ s.jointOk o t (leNat b) = false) : s.itemWrite o a i sub b x = (stRange, s) := by
  rw [itemWrite_admitted hi ht hm hs he hf, hn, Option.getD_none, if_pos (by simpa using h)]

theorem itemWrite_applies (hr : t.e.range.holds (leNat b) = true) (hj : s.jointOk o t (leNat b) = true) :
    s.itemWrite o a i sub b x = s.applyWrite a t (leNat b) := by
  rw [itemWrite_admitted hi ht hm hs he hf, hn, Option.getD_none, hr, hj]
  rfl

end itemWrite

/-! ## The apply classes -/

section applyWrite

variable {v : Nat}

theorem applyWrite_live (h : t.e.apply = .live) : s.applyWrite a t v = (stOk, s.liveWrite a t v) := by simp only [State.applyWrite, h]

theorem applyWrite_beat (h : t.e.apply = .beat) (hc : s.beat.cutoff = false) : s.applyWrite a t v =
    (stPending, { s with dict := { s.dict with shadow := s.dict.shadow.set t.key (v % 2 ^ t.e.reg.bits) } }) := by
  simp only [State.applyWrite, h, State.holdBeat, hc, Bool.false_eq_true, if_false, DTarget.key]

theorem applyWrite_later (h : t.e.apply = .beat) (hc : s.beat.cutoff = true) : s.applyWrite a t v =
    (stPending, { s with dict := { s.dict with later := s.dict.later.set t.key (v % 2 ^ t.e.reg.bits) } }) := by
  simp only [State.applyWrite, h, State.holdBeat, hc, if_true, DTarget.key]

theorem applyWrite_reset (h : t.e.apply = .reset) : s.applyWrite a t v =
    (stPending, { s with dict := { s.dict with stored := s.dict.stored.set t.key (v % 2 ^ t.e.reg.bits) } }) := by simp only [State.applyWrite, h]

theorem applyWrite_running (h : t.e.apply = .idle) (hp : s.ptnState (t.ptn.getD 0) ≠ ptnFree) : s.applyWrite a t v = (stRunning, s) := by
  simp only [State.applyWrite, h, if_neg hp, State.refuse]

theorem applyWrite_sealed (h : t.e.apply = .onSeal) (hp : s.isSealed (t.ptn.getD 0) = true) : s.applyWrite a t v = (stLocked, s) := by
  simp only [State.applyWrite, h, if_pos hp, State.refuse]

theorem applyWrite_none (h : t.e.apply = .none) : s.applyWrite a t v = (stDenied, s) := by simp only [State.applyWrite, h, State.refuse]

end applyWrite

/-- A write of an entry while the dictionary runs. -/
theorem exec_entryWrite {role : Role} {p i sub : Nat} {b : List Byte} (h : s.dictRuns = true) :
    exec (.registerWrite (.entry role p i sub b)) s = .next (State.answered (s.itemWrite [] { role, ptn := p } i sub b [])) := by
  rw [exec_registerWrite, execRegisterWrite]
  exact congrArg _ (if_pos h)

/-- Settles O49: the checks of R507 and R508, one by one, and what each apply class does. -/
theorem itemsChecked : Obligations.ItemsChecked := by
  unfold Obligations.ItemsChecked
  exact ⟨fun s o a i sub b x => ⟨itemWrite_busy, itemWrite_notFound, fun t hi ht => ⟨fun h => itemWrite_denied hi ht h o b x, fun hm hs => ⟨itemWrite_type hi ht hm hs,
      itemWrite_misfit hi ht hm hs, fun he hf => ⟨fun r => itemWrite_own hi ht hm hs he hf, fun hn => ⟨itemWrite_range hi ht hm hs he hf hn,
        itemWrite_applies hi ht hm hs he hf hn⟩⟩⟩⟩⟩,
    fun s a t v => ⟨applyWrite_live, applyWrite_beat, applyWrite_later, applyWrite_reset, applyWrite_running, applyWrite_sealed, applyWrite_none⟩,
    fun s role p i sub b => exec_entryWrite, fun s role v _ => ⟨rfl, rfl⟩⟩

end Sys2Proof.Machine
end

section

/-! # Requests of the host and its readout (O46) -/

namespace Sys2Proof.Machine

variable {s : State} {p : Nat}

theorem AMap.erase_of_find_none {α : Type} {m : AMap α} {k : Nat} (h : AMap.find m k = none) : m.erase k = m := by
  induction m with
  | nil => rfl
  | cons e m ih =>
    obtain ⟨j, w⟩ := e
    have hj : j ≠ k := fun hj => by simp [AMap.find, hj] at h
    have hm : AMap.find m k = none := by simpa only [AMap.find, if_neg hj] using h
    simpa [AMap.erase, hj] using ih hm

/-- A value set where none was and erased leaves the map as it was. -/
theorem AMap.erase_set_of_find_none {α : Type} {m : AMap α} {k : Nat} (v : α) (h : m.find k = none) : (m.set k v).erase k = m := by
  induction m with
  | nil => simp [AMap.set, AMap.erase]
  | cons e m ih =>
    obtain ⟨j, w⟩ := e
    have hj : j ≠ k := fun hj => by simp [AMap.find, hj] at h
    have hm : AMap.find m k = none := by simpa only [AMap.find, if_neg hj] using h
    simp only [AMap.set, if_neg hj]
    split
    · rw [AMap.erase, List.filter_cons_of_neg (by simp), List.filter_cons_of_pos (by simpa using hj)]
      exact congrArg _ (AMap.erase_of_find_none hm)
    · simpa [AMap.erase, hj] using ih hm

/-! ## Configuration requests and what precedes READY (R474) -/

section cfgRequest

variable (fn : Nat) (reg : CfgReg) (w : Option Nat)

theorem cfgRequest_down (h : s.rd .hepLinkState ≠ linkUp) : s.cfgRequest fn reg w = s := if_pos h

theorem cfgRequest_retry (hl : s.rd .hepLinkState = linkUp) (h : s.rd .pdxReady ≠ 1) :
    s.cfgRequest fn reg w = s.emit (.completion fn 3 []) := (if_neg (Classical.not_not.2 hl)).trans (if_pos h)

theorem cfgRequest_serves (hl : s.rd .hepLinkState = linkUp) (hr : s.rd .pdxReady = 1) (hf : fn ≤ 32) :
    s.cfgRequest fn reg none = (s.emit (.completion fn 0 (s.cfgRead fn reg))).drawn
    ∧ ∀ v, s.cfgRequest fn reg (some v) = (s.cfgWrite fn reg v).emit (.completion fn 0 []) := by
  have h {w} : s.cfgRequest fn reg w = _ := (if_neg (Classical.not_not.2 hl)).trans ((if_neg (Classical.not_not.2 hr)).trans (if_neg (Nat.not_lt.2 hf)))
  exact ⟨h, fun v => h⟩

end cfgRequest

/-! ## Memory requests (R474, R537, R555) -/

/-- A BAR0 read of any function is that of PF0 or of a VF. -/
theorem bar0Read_arrives (fn off n : Nat) : exec (.hostBar0Read fn off n) s = .next (if fn = 0 then s.pfArrive off n none
    else s.hostArrive (fn - 1) { bar2 := false, off, data := none, len := n, ep := false }) := rfl

section arrive

variable {off n : Nat} {d : Option Nat} {r : HostReq}

theorem pfArrive_down (h : s.rd .hepLinkState ≠ linkUp) : s.pfArrive off n d = s := if_pos h

theorem hostArrive_down (h : s.rd .hepLinkState ≠ linkUp) : s.hostArrive p r = s := if_pos (.inl h)

variable (hl : s.rd .hepLinkState = linkUp)
include hl

theorem pfArrive_resetting (h : s.startup.reset.isSome = true) : s.pfArrive off n none = s.emit (.completion 0 cplCa []) := by
  simp [State.pfArrive, State.hostCa, hl, h]

theorem pfArrive_unready (h : s.startup.reset = none) (hf : s.owl.fatalHub = false) (hr : s.rd .pdxReady ≠ 1) :
    s.pfArrive off n none = s.emit (.completion 0 cplUr []) := by simp [State.pfArrive, State.hostCa, hl, h, hf, hr]

/-- Once READY a request to PF0 is carried out at once. -/
theorem pfArrive_serves (h : s.startup.reset = none) (hf : s.owl.fatalHub = false) (hr : s.rd .pdxReady = 1) :
    s.pfArrive off n none = s.emit (.completion 0 0 (bytesFrom s.pfWord off n))
    ∧ ∀ v, s.pfArrive off n (some v) = s.each (wordParts off n v) fun s w => s.pfPut w := by
  simp [State.pfArrive, State.hostCa, hl, h, hf, hr, cplOk]

variable (hp : p < 32)
include hp

theorem hostArrive_resetting (h : s.startup.reset.isSome = true) (hd : r.data = none) :
    s.hostArrive p r = s.emit (.completion (p + 1) cplCa []) := by
  simp [State.hostArrive, State.hostCa, hl, Nat.not_le.2 hp, h, hd]

theorem hostArrive_unready (h : s.startup.reset = none) (hr : s.rd .pdxReady ≠ 1) (hd : r.data = none) :
    s.hostArrive p r = s.emit (.completion (p + 1) cplUr []) := by
  simp [State.hostArrive, State.hostCa, hl, Nat.not_le.2 hp, h, hr, hd]

/-- Once READY a request to a VF queues behind its function's. -/
theorem hostArrive_queues (h : s.startup.reset = none) (hr : s.rd .pdxReady = 1) : s.hostArrive p r =
    State.hostTurns ((s.hep.queue.get p [] ++ [r]).length + 1)
      { s with hep := { s.hep with queue := s.hep.queue.put p (s.hep.queue.get p [] ++ [r]) [] } } p := by
  simp only [State.hostArrive, State.hostCa, hl, Nat.not_le.2 hp, h, hr, ne_eq, not_true_eq_false, or_self, if_false, Option.isSome_none,
    Bool.false_eq_true]

end arrive

/-! ## Turns (R482, R483) -/

/-- Nothing is pumped where the queue is empty or its head is a BAR0 access. -/
theorem hostPump_nil (f : Nat) (h : s.hep.queue.get p [] = []) : State.hostPump f s p = s := by
  cases f with
  | zero => rw [State.hostPump]
  | succ f => rw [State.hostPump, h]

theorem hostPump_bar0 (f : Nat) {r : HostReq} {rest : List HostReq} (h : s.hep.queue.get p [] = r :: rest) (hr : r.bar2 = false) :
    State.hostPump f s p = s := by
  cases f with
  | zero => rw [State.hostPump]
  | succ f =>
    rw [State.hostPump, h]
    exact if_pos (by simp [hr])

theorem hostTurns_nil (h : s.hep.queue.find p = none) : State.hostTurns 1 s p = s := by
  have hq : s.hep.queue.get p [] = [] := by simp [AMap.get, h]
  simp only [State.hostTurns, hostPump_nil _ hq, hq]

/-- A BAR0 access whose turn comes at once. -/
theorem hostArrive_turns {r : HostReq} (hl : s.rd .hepLinkState = linkUp) (hp : p < 32) (h : s.startup.reset = none) (hr : s.rd .pdxReady = 1)
    (hq : s.hep.queue.find p = none) (ho : s.hostOut p = []) (hc : s.col.paused.find p = none) (hb : r.bar2 = false) :
    s.hostArrive p r = State.hostTurns 1 (s.vfAccess p r) p := by
  have hn : s.hep.queue.get p [] = [] := by simp [AMap.get, hq]
  have hs : s.hep.queue.put p [r] [] = s.hep.queue.set p [r] := by simp [AMap.put]
  have he : (s.hep.queue.set p [r]).put p [] [] = s.hep.queue := by simpa [AMap.put] using AMap.erase_set_of_find_none [r] hq
  have hg : (s.hep.queue.set p [r]).get p [] = r :: [] := by simp [AMap.get]
  rw [hostArrive_queues hl hp h hr, hn, List.nil_append, hs, List.length_singleton, State.hostTurns, hostPump_bar0 _ hg hb]
  dsimp only
  rw [hg]
  dsimp only
  rw [he]
  refine if_neg ?_
  rintro (h | h | h)
  · exact Bool.false_ne_true (hb.symm.trans h)
  · exact h (List.isEmpty_iff.2 ho)
  · exact Bool.false_ne_true ((congrArg Option.isSome hc).symm.trans h)

/-! ## An access of a VF (R481) -/

section vfAccess

variable {r : HostReq}

theorem vfAccess_fatal (hd : r.data = none) (h : s.owl.fatalHub = true) : s.vfAccess p r = s.emit (.completion (p + 1) cplCa []) := by
  simp [State.vfAccess, h, hd]

variable (hf : s.owl.fatalHub = false)
include hf

theorem vfAccess_reserved (h : vfGroup r.off = .reserved) (hd : r.data = none) :
    s.vfAccess p r = s.emit (.completion (p + 1) 0 (List.replicate r.len 0)) := by
  simp [State.vfAccess, hf, h, hd, cplOk]

section

variable (hs : vfSizeOk r.off r.len = true)
include hs

theorem vfAccess_unsealed (hc : vfGroup r.off = .control) (h : s.ptnState p = ptnFormed ∨ s.ptnState p = ptnSealing) :
    s.vfAccess p r = s.hostRefuse p 3 r.data.isNone := by
  have h0 : s.ptnState p ≠ ptnFree := by obtain h | h := h <;> rw [h] <;> decide
  simp [State.vfAccess, hf, hs, hc, h0, h]

theorem vfAccess_beyond (hc : vfGroup r.off = .control) (h : 4 ≤ s.ptnState p) : s.vfAccess p r = s.hostRefuse p 4 r.data.isNone := by
  have h0 : s.ptnState p ≠ ptnFree ∧ s.ptnState p ≠ ptnFormed ∧ s.ptnState p ≠ ptnSealing ∧ s.ptnState p ≠ ptnSealed := by
    unfold ptnFree ptnFormed ptnSealing ptnSealed
    omega
  simp [State.vfAccess, hf, hs, hc, h0]

end

variable (hg : vfGroup r.off ≠ .reserved)
include hg

theorem vfAccess_size (h : vfSizeOk r.off r.len = false) : s.vfAccess p r = s.hostRefuse p 1 r.data.isNone := by
  simp [State.vfAccess, hf, hg, h]

variable (hs : vfSizeOk r.off r.len = true)
include hs

theorem vfAccess_free (h : s.ptnState p = ptnFree) : s.vfAccess p r = s.hostRefuse p 2 r.data.isNone := by
  simp [State.vfAccess, hf, hg, hs, h]

theorem vfAccess_reads (h : s.ptnState p = ptnSealed) (hd : r.data = none) :
    s.vfAccess p r = s.emit (.completion (p + 1) 0 (bytesFrom (s.vfWord p) r.off r.len)) := by
  simp [State.vfAccess, hf, hg, hs, h, hd, ptnSealed, ptnFree, ptnFormed, ptnSealing, cplOk]

end vfAccess

/-! ## Writes of PF0 (R475) -/

/-- The words of a write lie below a multiple of 8 that its bytes lie below. -/
theorem wordParts_off {off n v : Nat} (hn : off + n ≤ 0x1000) {w : WordPart} (hw : w ∈ wordParts off n v) :
    w.off < 0x1000 := by
  simp only [wordParts, List.mem_map, List.mem_range] at hw
  obtain ⟨i, hi, rfl⟩ := hw
  dsimp only
  omega

/-- A write below the mailbox of PF0 changes nothing. -/
theorem each_pfPut_low {l : List WordPart} (h : ∀ w ∈ l, w.off < 0x1000) : s.each l (fun s w => s.pfPut w) = s := by
  induction l with
  | nil => rfl
  | cons w l ih => 
    obtain ⟨hw, hl⟩ := List.forall_mem_cons.1 h
    have hput : s.pfPut w = s := if_pos hw
    rw [State.each, List.foldl_cons, hput]
    exact ih hl

/-- The one word of a write of GO. -/
theorem wordParts_go : wordParts 0x10018 8 1 = [{ off := 0x10018, raw := 1, mask := 2 ^ 64 - 1 }] := by decide

theorem pfPut_go : s.pfPut { off := 0x10018, raw := 1, mask := 2 ^ 64 - 1 } = s.exportGo := rfl

/-- A write of a slot's operation, and of GO, is the write of its register. -/
theorem exec_syncSlotWrite {slot : Nat} (v : Nat) (h : slot < 128) :
    exec (.hostSyncSlotWrite p slot v) s = exec (.registerWrite (.vf p (0x80010 + 0x1000 * slot) 8 v)) s := by
  rw [exec_hostSyncSlotWrite, exec_registerWrite, execHostSyncSlotWrite, execRegisterWrite, if_pos h, State.registerWrite]

theorem exec_exportGo : exec .ckptExportGo s = exec (.registerWrite (.pf0 0x10018 8 1)) s := by
  rw [exec_ckptExportGo, exec_registerWrite, execCkptExportGo, execRegisterWrite, State.registerWrite]

/-- A write of an entry while the dictionary does not run. -/
theorem exec_entryWrite_idle {role : Role} {i sub : Nat} {b : List Byte} (h : s.dictRuns = false) :
    exec (.registerWrite (.entry role p i sub b)) s = .next s := by
  rw [exec_registerWrite, execRegisterWrite, State.registerWrite, if_neg (h ▸ Bool.false_ne_true)]

/-- A write of PF0 once READY. -/
theorem exec_pf0Write (off n v : Nat) (hl : s.rd .hepLinkState = linkUp) (h : s.startup.reset = none) (hf : s.owl.fatalHub = false)
    (hr : s.rd .pdxReady = 1) : exec (.registerWrite (.pf0 off n v)) s = .next (s.each (wordParts off n v) fun s w => s.pfPut w) := by
  rw [exec_registerWrite, execRegisterWrite, State.registerWrite, State.bar0Write, if_pos rfl, (pfArrive_serves hl h hf hr).2 v]

/-! ## The readout of a checkpoint (R488) -/

theorem exportGo_busy (h : s.hep.exp.status = xpRunning) : s.exportGo.hep.exp = { s.hep.exp with busy := true } := by
  simp only [State.exportGo, if_pos h, State.setExport]

section exportGo

variable (hx : s.hep.exp.status ≠ xpRunning)
include hx

theorem exportGo_disabled (h : s.rd .hepHostCkpt 0 (field s.hep.exp.what 63 59) ≠ 1) : s.exportGo.hep.exp.status = xpNotEnabled := by
  simp only [State.exportGo, if_neg hx, if_pos h, State.setExport]

variable (h1 : s.rd .hepHostCkpt 0 (field s.hep.exp.what 63 59) = 1)
include h1

theorem exportGo_unsealed (h : s.ptnState (field s.hep.exp.what 63 59) ≠ ptnSealed) : s.exportGo.hep.exp.status = xpNotSealed := by
  simp only [State.exportGo, if_neg hx, h1, ne_eq, not_true_eq_false, if_false, h, not_false_eq_true, if_true, State.setExport]

variable (h2 : s.ptnState (field s.hep.exp.what 63 59) = ptnSealed)
include h2

theorem exportGo_noKey (h : s.keySlot (slotCkpt (field s.hep.exp.what 63 59)) = none) : s.exportGo.hep.exp.status = xpNoKey := by
  simp only [State.exportGo, if_neg hx, h1, h2, ne_eq, not_true_eq_false, if_false, h, Option.isNone_none, if_true, State.setExport]

theorem exportGo_runs (h : (s.keySlot (slotCkpt (field s.hep.exp.what 63 59))).isSome = true) : s.exportGo.hep.exp.status = xpRunning
    ∧ s.exportGo.hep.exp.run = s.hep.exp.what ∧ s.exportGo.hep.exp.written = 0 ∧ s.exportGo.fresh = s.fresh + 2 := by
  have hn : ¬ (s.keySlot (slotCkpt (field s.hep.exp.what 63 59))).isNone = true := by simpa [Option.isSome_iff_ne_none] using h
  simp only [State.exportGo, if_neg hx, h1, h2, ne_eq, not_true_eq_false, if_false, if_neg hn]
  exact ⟨rfl, rfl, rfl, rfl⟩

end exportGo

/-- One step of the run, over some value of the steps before it. -/
theorem exportRun_step (n : Nat) : ∃ b, State.exportRun n = State.exportRun._f n b := by
  delta State.exportRun
  exact ⟨_, Nat.brecOn.eq (motive := fun _ => State → List SnoopedLine → State) n State.exportRun._f⟩

/-- A run whose key is gone ends as one that translation refuses. The step is split as an equation whose `match` stays as it is written: the
kernel would else compute the span that it reads. -/
theorem exportRun_noKey {n : Nat} (l : List SnoopedLine) (hn : n ≠ 0) (h : s.keySlot (slotCkpt s.hep.exp.ptn) = none) :
    State.exportRun n s l = s.exportEnd xpXlate := by
  obtain ⟨b, hb⟩ := exportRun_step n
  have hstep := congrFun (congrFun hb s) l
  generalize State.exportRun n s l = r at hstep ⊢
  unfold State.exportRun._f at hstep
  split at hstep
  case h_1 => exact absurd rfl hn
  case h_2 =>
    extract_lets +onlyGivenNames x p a at hstep
    split at hstep
    case h_1 hk _ => exact absurd (h.symm.trans hk) (by simp)
    case h_2 => exact hstep

/-- Settles O46: a request meets the link, the reset, READY and its function's queue in this order, and is then served as R475 to R488 say. -/
theorem hostRequests : Obligations.HostRequests := by
  unfold Obligations.HostRequests
  refine ⟨fun s fn reg w => ⟨fun h => congrArg Host.Outcome.next (cfgRequest_down fn reg w h),
      fun hl h => congrArg Host.Outcome.next (cfgRequest_retry fn reg w hl h), fun hl hr hf => ?_⟩,
    fun s fn off n h => ?_, fun s fn off n hf hl h hr hh => ?_, fun s fn off n hf hl h => ?_,
    fun s off n hl h hr hf => congrArg Host.Outcome.next (pfArrive_serves hl h hf hr).1,
    fun s p r hp hl h hr hq ho hc hb => ⟨hostArrive_turns hl hp h hr hq ho hc hb, fun t => hostTurns_nil, fun hd hf => vfAccess_fatal hd hf,
      fun hf hg hd => vfAccess_reserved hf hg hd, fun hf hg => ⟨vfAccess_size hf hg, vfAccess_free hf hg, vfAccess_unsealed hf,
        vfAccess_beyond hf, vfAccess_reads hf hg⟩⟩,
    fun s p off n d ep hp hl h hr => ?_,
    fun s p fn slot v hp hs => ⟨exec_syncSlotWrite v hs, rfl, exec_exportGo, rfl⟩,
    fun s hl h hr hf => ?_, fun s p hp => ?_,
    fun s l => ⟨fun h => congrArg Host.Outcome.next (if_neg h), fun h => congrArg Host.Outcome.next (if_pos h),
      fun h hn hk => congrArg Host.Outcome.next ((if_pos h).trans (exportRun_noKey l hn hk))⟩,
    fun s off n v d role p i sub => ⟨exec_entryWrite_idle, fun hl h hr hf ho hn => ?_⟩⟩
  · obtain ⟨hread, hwrite⟩ := cfgRequest_serves fn reg hl hr hf
    exact ⟨congrArg Host.Outcome.next hread, fun v => congrArg Host.Outcome.next (hwrite v)⟩
  · rw [bar0Read_arrives]
    split
    · exact congrArg _ (pfArrive_down h)
    · exact congrArg _ (hostArrive_down h)
  · rw [bar0Read_arrives]
    split
    next h0 => exact h0 ▸ congrArg _ (pfArrive_unready hl h hh hr)
    next h0 =>
      have hfn : fn - 1 + 1 = fn := by omega
      exact hfn ▸ congrArg _ (hostArrive_unready hl (by omega) h hr rfl)
  · rw [bar0Read_arrives]
    split
    next h0 => exact h0 ▸ congrArg _ (pfArrive_resetting hl h)
    next h0 =>
      have hfn : fn - 1 + 1 = fn := by omega
      exact hfn ▸ congrArg _ (hostArrive_resetting hl (by omega) h rfl)
  · simp only [List.forall_mem_cons]
    exact ⟨congrArg Host.Outcome.next (hostArrive_queues hl hp h hr), congrArg Host.Outcome.next (hostArrive_queues hl hp h hr),
      congrArg Host.Outcome.next (hostArrive_queues hl hp h hr), List.forall_mem_nil _⟩
  · rw [exec_exportGo, exec_pf0Write _ _ _ hl h hf hr, wordParts_go, State.each, List.foldl_cons, List.foldl_nil, pfPut_go]
  · subst hp
    exact ⟨exportGo_busy, exportGo_disabled, exportGo_unsealed, exportGo_noKey, exportGo_runs⟩
  · rw [exec_pf0Write _ _ _ hl h hf hr, each_pfPut_low fun w hw => wordParts_off hn hw]

end Sys2Proof.Machine
end

section

/-! # The module slot and the link (O48) -/

namespace Sys2Proof.Machine

variable {s : State}

/-! ## The fields of the slot register (R489) -/

/-- Fields below the state's of the slot register leave the state. -/
theorem slotState_wrField {msb lsb x : Nat} (h : msb = 20 ∧ lsb = 20 ∨ msb = 15 ∧ lsb = 14) : (s.wrField .hepSlot msb lsb x).slotState = s.slotState := by
  have hw (v : Nat) : ((s.wr .hepSlot v).rd .hepSlot) = v % 2 ^ 32 := rd_wr_same ..
  simp only [State.slotState, State.rdField, State.wrField, hw]
  obtain ⟨rfl, rfl⟩ | ⟨rfl, rfl⟩ := h
  · simp only [field, setField]
    omega
  · simp only [field, setField]
    omega

theorem slotState_present (on : Bool) (i : Nat) : ((s.setSlotBit slotPresent on).attnInd i).slotState = s.slotState :=
  (slotState_wrField (.inr ⟨rfl, rfl⟩)).trans (slotState_wrField (.inl ⟨rfl, rfl⟩))

theorem not_runs (h : s.slotRuns = false) : ¬ s.slotRuns = true := h ▸ Bool.false_ne_true

/-! ## Insertion (R490) -/

/-- Without the slot controller no input does anything. -/
theorem slot_silent (h : s.slotRuns = false) : s.prsntAssert = s ∧ s.pg1Assert = s ∧ s.pg2Assert = s ∧ s.attnPress = s ∧ s.prsntDeassert = s :=
  ⟨if_pos (.inl (not_runs h)), if_pos (not_runs h), if_pos (not_runs h), if_pos (.inl (not_runs h)), if_pos (.inl (not_runs h))⟩

section insertion

variable (hr : s.slotRuns = true)
include hr

theorem prsntAssert_inserts (hb : s.slotBit slotPresent = false) {u : State} (hu : u = (s.setSlotBit slotPresent true).attnInd indOff) :
    (u.slotState = slotEmpty → s.prsntAssert = ((u.setSlot slotPowering).pwrInd indBlink).slotPower true false)
    ∧ (u.slotState ≠ slotEmpty → s.prsntAssert = u) ∧ u.slotState = s.slotState := by
  subst hu
  have hc : ¬ (¬ s.slotRuns = true ∨ s.slotBit slotPresent = true) := by simp [hr, hb]
  exact ⟨fun h => (if_neg hc).trans (if_pos h), fun h => (if_neg hc).trans (if_neg h), slotState_present true indOff⟩

theorem pg1Assert_runs : ((s.setSlotBit slotPg1 true).slotState = slotPowering → (s.setSlotBit slotPg1 true).hep.en1 = true →
      s.pg1Assert = (s.setSlotBit slotPg1 true).slotPower true true)
    ∧ ((s.setSlotBit slotPg1 true).slotState ≠ slotPowering → s.pg1Assert = s.setSlotBit slotPg1 true) :=
  ⟨fun h he => (if_neg (Classical.not_not.2 hr)).trans (if_pos ⟨h, he⟩), fun h => (if_neg (Classical.not_not.2 hr)).trans (if_neg fun hc => h hc.1)⟩

theorem pg2Assert_runs : ((s.setSlotBit slotPg2 true).slotState = slotPowering → (s.setSlotBit slotPg2 true).hep.en2 = true →
      s.pg2Assert = (s.setSlotBit slotPg2 true).setSlot slotPowered)
    ∧ ((s.setSlotBit slotPg2 true).slotState ≠ slotPowering → s.pg2Assert = s.setSlotBit slotPg2 true) :=
  ⟨fun h he => (if_neg (Classical.not_not.2 hr)).trans (if_pos ⟨h, he⟩), fun h => (if_neg (Classical.not_not.2 hr)).trans (if_neg fun hc => h hc.1)⟩

end insertion

/-! ## Removal (R491) -/

theorem attnPress_powering (h : s.slotState = slotPowering) : s.attnPress = s := if_pos (.inr h)

section attnPress

variable (hr : s.slotRuns = true)
include hr

/-- A press in POWERED asks for removal. -/
theorem attnPress_powered {u : State} (hu : u = s.setSlotBit slotButton true) (h : s.slotState = slotPowered) : s.attnPress =
    ((({ u with hep := { u.hep with acked := false, waited := false } } : State).setSlot slotRemovePending).pwrInd indBlink).msix 0 2 := by
  subst hu
  have hc : ¬ (¬ s.slotRuns = true ∨ s.slotState = slotPowering) := by simp [hr, h, slotPowered, slotPowering]
  exact (if_neg hc).trans (if_pos h)

/-- A second press in time gives the removal up. -/
theorem attnPress_pending {u : State} (hu : u = s.setSlotBit slotButton true) (h : s.slotState = slotRemovePending) (hw : u.hep.waited = false) :
    s.attnPress = u.removeEnds := by
  subst hu
  have hc : ¬ (¬ s.slotRuns = true ∨ s.slotState = slotPowering) := by simp [hr, h, slotRemovePending, slotPowering]
  have hp : s.slotState ≠ slotPowered := by simp [h, slotRemovePending, slotPowered]
  exact (if_neg hc).trans ((if_neg hp).trans (if_pos ⟨h, hw ▸ Bool.false_ne_true⟩))

end attnPress

/-- Without a removal pending nothing of a removal does anything. -/
theorem remove_idle (h : s.slotState ≠ slotRemovePending) : s.removeCancel = s ∧ s.removeAck = s ∧ s.removeWaitEnd = s ∧ s.removeMiss = s :=
  ⟨if_neg fun hc => h hc.1, if_neg h, if_neg h, if_neg fun hc => h hc.1⟩

section removal

variable (h : s.slotState = slotRemovePending)
include h

theorem removeCancel_pending (hw : s.hep.waited = false) : s.removeCancel = s.removeEnds := if_pos ⟨h, hw ▸ Bool.false_ne_true⟩

theorem removeAck_first (hw : s.hep.waited = false) : s.removeAck = { s with hep := { s.hep with acked := true } } :=
  (if_pos h).trans (if_neg fun hc => Bool.false_ne_true (hw.symm.trans hc.2))

theorem removeAck_last (hw : s.hep.waited = true) : s.removeAck = ({ s with hep := { s.hep with acked := true } } : State).exportEnd xpLinkLost :=
  (if_pos h).trans (if_pos ⟨rfl, hw⟩)

theorem removeWaitEnd_first (ha : s.hep.acked = false) : s.removeWaitEnd = { s with hep := { s.hep with waited := true } } :=
  (if_pos h).trans (if_neg fun hc => Bool.false_ne_true (ha.symm.trans hc.1))

theorem removeMiss_unacked (ha : s.hep.acked = false) : s.removeMiss = ((s.removeEnds).attnInd indOn).ev Ev.hepRemoveMiss :=
  if_pos ⟨h, ha ▸ Bool.false_ne_true⟩

end removal

theorem removeMiss_acked (ha : s.hep.acked = true) : s.removeMiss = s := if_neg fun hc => hc.2 ha

/-! ## The loss of the link (R492) -/

theorem surpriseLoss_down (h : s.rd .hepLinkState = 0) : s.surpriseLoss = s := if_pos h

/-- A surprise loss is counted and reported, and a removal that was pending is over. -/
theorem surpriseLoss_up (h : s.rd .hepLinkState ≠ 0) {u v : State} (hu : u = ((s.linkDown).bump .hepSurpriseLosses).ev Ev.hepSurprise)
    (hv : v = { u with hep := { u.hep with acked := false, waited := false } }) :
    (v.slotState ≠ slotRemovePending → s.surpriseLoss = v) ∧ (v.slotState = slotRemovePending → s.surpriseLoss = v.setSlot slotPowered) := by
  subst hu hv
  exact ⟨fun hs => (if_neg h).trans (if_neg hs), fun hs => (if_neg h).trans (if_pos hs)⟩

theorem linkLost_surprise (h : ¬ (s.slotState = slotRemovePending ∧ s.hep.acked = true)) : s.linkLost = s.surpriseLoss := if_neg h

theorem exportEnd_ptns (s : State) (st : Nat) : (s.exportEnd st).ptns = s.ptns := by
  unfold State.exportEnd State.msix
  split
  · simp only []
    split
    · rfl
    · split <;> rfl
  · rfl

/-- Mailboxes that are dropped leave the queues, memory and the partitions. -/
theorem each_boxDrop (l : List Nat) (s : State) :
    (s.each l State.boxDrop).hep.queue = s.hep.queue ∧ (s.each l State.boxDrop).mem = s.mem ∧ (s.each l State.boxDrop).ptns = s.ptns := by
  induction l generalizing s with
  | nil => exact ⟨rfl, rfl, rfl⟩
  | cons fn l ih => exact ih (s.boxDrop fn)

theorem hostDrop_all (s : State) : (s.hostDrop fun _ => true).hep.queue = [] := by simp [State.hostDrop, AMap.where]

/-- What the link's fall leaves of the endpoint. -/
theorem linkDown_drops (s : State) : s.linkDown.rd .hepLinkState = 0 ∧ s.linkDown.hep.queue = [] ∧ s.linkDown.hep.msixPend = []
    ∧ s.linkDown.mem = s.mem ∧ s.linkDown.ptns = s.ptns := by
  obtain ⟨hq, hm, hp⟩ := each_boxDrop (List.range 33) ((s.exportEnd xpLinkLost).hostDrop fun _ => true)
  unfold State.linkDown
  dsimp only
  generalize State.each _ _ _ = t at hq hm hp ⊢
  rw [hostDrop_all] at hq
  exact ⟨rd_wr_same .., hq, rfl, hm.trans (exportEnd_keeps s _).2, hp.trans (exportEnd_ptns s _)⟩

/-- The orderly end of a removal. -/
theorem linkLost_orderly (h : s.slotState = slotRemovePending) (ha : s.hep.acked = true) (hl : s.rd .hepLinkState ≠ 0) :
    s.linkLost.hep.acked = false ∧ s.linkLost.hep.en1 = false ∧ s.linkLost.hep.en2 = false ∧ s.linkLost.mem = s.mem ∧ s.linkLost.ptns = s.ptns := by
  obtain ⟨_, _, _, hm, hp⟩ := linkDown_drops s
  unfold State.linkLost
  generalize s.linkDown = t at hm hp ⊢
  rw [if_pos ⟨h, ha⟩, if_neg hl]
  exact ⟨rfl, rfl, rfl, hm, hp⟩

/-! ## The link, the clocks and the pins (R472, R486, R622) -/

theorem perstDeassert_trains : (s.slotRuns = true → s.rd .hepLinkState = 0 →
      s.perstDeassert = ({ s with hep := { s.hep with perst := false } } : State).wr .hepLinkState 1)
    ∧ (s.slotRuns = false ∨ s.rd .hepLinkState ≠ 0 → s.perstDeassert = { s with hep := { s.hep with perst := false } }) := by
  refine ⟨fun hr hl => if_pos ⟨hr, hl⟩, fun h => if_neg fun hc => ?_⟩
  obtain h | h := h
  · exact not_runs h hc.1
  · exact h hc.2

theorem linkIsUp_held {rate width : Nat} (h : s.slotRuns = false ∨ s.hep.perst = true) : s.linkIsUp rate width = s :=
  if_pos (h.imp_left not_runs)

theorem linkIsUp_runs {rate width : Nat} (hr : s.slotRuns = true) (hp : s.hep.perst = false) {u : State}
    (hu : u = (s.wr .hepLinkState linkUp).wr .hepLinkRate (width % 256 * 256 + rate % 256)) :
    (u.slotState = slotPowered → s.linkIsUp rate width = u.pwrInd indOn) ∧ (u.slotState ≠ slotPowered → s.linkIsUp rate width = u) := by
  subst hu
  have hc : ¬ (¬ s.slotRuns = true ∨ s.hep.perst = true) := by simp [hr, hp]
  exact ⟨fun h => (if_neg hc).trans (if_pos h), fun h => (if_neg hc).trans (if_neg h)⟩

section prsntDeassert

variable (hr : s.slotRuns = true) (hb : s.slotBit slotPresent = true)
include hr hb

/-- A slot at which nothing is in use is empty once its card is gone. -/
theorem prsntDeassert_unused (h : s.slotState = slotFault ∨ s.slotState = slotPoweringOff) :
    s.prsntDeassert = (s.setSlotBit slotPresent false).setSlot slotEmpty := by
  have hc : ¬ (¬ s.slotRuns = true ∨ (!s.slotBit slotPresent) = true) := by simp [hr, hb]
  have ho : s.slotState = slotPoweringOff ∨ s.slotState = slotFault ∨ s.slotState = slotEmpty := h.elim (.inr ∘ .inl) .inl
  exact (if_neg hc).trans (if_pos ho)

theorem prsntDeassert_powered (h : s.slotState = slotPowered) : s.prsntDeassert =
    ((((s.setSlotBit slotPresent false).surpriseLoss.slotPower false false).pwrInd indOff).attnInd indOn).setSlot slotEmpty := by
  have hc : ¬ (¬ s.slotRuns = true ∨ (!s.slotBit slotPresent) = true) := by simp [hr, hb]
  have ho : ¬ (s.slotState = slotPoweringOff ∨ s.slotState = slotFault ∨ s.slotState = slotEmpty) := by rw [h]; decide
  have hp : ¬ (s.slotState = slotRemovePending ∧ (s.setSlotBit slotPresent false).hep.acked = true) := by
    rw [h]
    exact fun hc => absurd hc.1 (by decide)
  exact (if_neg hc).trans ((if_neg ho).trans (if_neg hp))

end prsntDeassert

/-- A neighbour solicitation at a port that is up. -/
theorem exec_neighbour (e target : Nat) :
    (s.owl.fatalHub = true ∨ 16 ≤ e ∨ s.rd .soxPortState 0 e < 2 → exec (.neighbourSolicitationRx e target) s = .next s)
    ∧ (s.owl.fatalHub = false → e < 16 → 2 ≤ s.rd .soxPortState 0 e →
        (s.ownAddr e target = true → exec (.neighbourSolicitationRx e target) s = .next (s.emit (.neighbour e)))
        ∧ (s.ownAddr e target = false → exec (.neighbourSolicitationRx e target) s = .next (s.bumpWord .soxDropped 1 0 e))) := by
  rw [exec_neighbourSolicitationRx, execNeighbourSolicitationRx]
  refine ⟨fun h => congrArg _ (if_pos h), fun hf he hp => ?_⟩
  have hc : ¬ (s.owl.fatalHub = true ∨ 16 ≤ e ∨ s.rd .soxPortState 0 e < 2) := by
    rintro (h | h | h)
    · exact Bool.false_ne_true (hf.symm.trans h)
    · omega
    · omega
  rw [if_neg hc]
  exact ⟨fun h => congrArg _ (if_pos h), fun h => congrArg _ (if_neg (h ▸ Bool.false_ne_true))⟩

/-- Settles O48: each input of the slot and each event of the link, by its condition. -/
theorem slotAndLink : Obligations.SlotAndLink := by
  unfold Obligations.SlotAndLink
  refine ⟨fun s u hr hb hu => ?_, fun s h => ?_, fun s hr => ⟨_, _, rfl, rfl, ?_⟩, fun s => ?_, fun s hr => ?_, fun s => ?_, fun s => ?_,
    fun s => ?_, fun s => ⟨_, congrArg Host.Outcome.next rfl, rd_wr_same .., rfl⟩, fun s => ⟨_, rfl, ?_⟩, fun s rate width => ?_, fun s => ?_,
    fun s => ?_, fun s hr hb => ?_, fun s e target a => ?_⟩
  · obtain ⟨he, hn, hs⟩ := prsntAssert_inserts hr hb hu
    exact ⟨fun h => congrArg Host.Outcome.next (he h), fun h => congrArg Host.Outcome.next (hn h), hs⟩
  · obtain ⟨h1, h2, h3, h4, h5⟩ := slot_silent h
    simp only [List.forall_mem_cons]
    exact ⟨congrArg Host.Outcome.next h1, congrArg Host.Outcome.next h2, congrArg Host.Outcome.next h3, congrArg Host.Outcome.next h4,
      congrArg Host.Outcome.next h5, List.forall_mem_nil _⟩
  · obtain ⟨h1, h1'⟩ := pg1Assert_runs hr
    obtain ⟨h2, h2'⟩ := pg2Assert_runs hr
    exact ⟨fun h he => congrArg Host.Outcome.next (h1 h he), fun h => congrArg Host.Outcome.next (h1' h),
      fun h he => congrArg Host.Outcome.next (h2 h he), fun h => congrArg Host.Outcome.next (h2' h)⟩
  · exact ⟨fun h => congrArg Host.Outcome.next (if_pos h), fun h => congrArg Host.Outcome.next (if_neg h)⟩
  · exact ⟨fun h => congrArg Host.Outcome.next (attnPress_powering h), fun u hu =>
      ⟨fun h => ⟨_, congrArg Host.Outcome.next (attnPress_powered hr hu h), rfl⟩,
        fun h hw => congrArg Host.Outcome.next (attnPress_pending hr hu h hw)⟩⟩
  · refine ⟨fun h hw => congrArg Host.Outcome.next (removeCancel_pending h hw), fun h => ?_, fun h =>
      ⟨fun hw => congrArg Host.Outcome.next (removeAck_first h hw), fun hw => congrArg Host.Outcome.next (removeAck_last h hw),
        fun ha => ⟨congrArg Host.Outcome.next (removeWaitEnd_first h ha), congrArg Host.Outcome.next (removeMiss_unacked h ha)⟩,
        fun ha => congrArg Host.Outcome.next (removeMiss_acked ha)⟩⟩
    obtain ⟨h1, h2, h3, h4⟩ := remove_idle h
    simp only [List.forall_mem_cons]
    exact ⟨congrArg Host.Outcome.next h1, congrArg Host.Outcome.next h2, congrArg Host.Outcome.next h3, congrArg Host.Outcome.next h4,
      List.forall_mem_nil _⟩
  · refine ⟨fun h => congrArg Host.Outcome.next (surpriseLoss_down h), fun _ h => congrArg Host.Outcome.next (linkLost_surprise fun hc => h hc.1),
      fun _ ha => congrArg Host.Outcome.next (linkLost_surprise fun hc => Bool.false_ne_true (ha.symm.trans hc.2)), fun h => ⟨_, rfl, _, rfl, ?_⟩,
      fun h ha hl => ⟨_, rfl, linkLost_orderly h ha hl⟩⟩
    obtain ⟨h1, h2⟩ := surpriseLoss_up h rfl rfl
    exact ⟨fun hs => congrArg Host.Outcome.next (h1 hs), fun hs => congrArg Host.Outcome.next (h2 hs)⟩
  · obtain ⟨hl, hq, hx, hm, _⟩ := linkDown_drops s
    exact ⟨hl, hq, hx, hm⟩
  · exact ⟨fun hr hl => congrArg Host.Outcome.next (perstDeassert_trains.1 hr hl), fun h => congrArg Host.Outcome.next (perstDeassert_trains.2 h)⟩
  · refine ⟨fun h => congrArg Host.Outcome.next (linkIsUp_held h), fun hr hp => ⟨_, rfl, ?_⟩⟩
    obtain ⟨h1, h2⟩ := linkIsUp_runs hr hp rfl
    exact ⟨fun h => congrArg Host.Outcome.next (h1 h), fun h => congrArg Host.Outcome.next (h2 h)⟩
  · exact ⟨fun h => ⟨congrArg Host.Outcome.next (if_pos h), congrArg Host.Outcome.next (if_pos h)⟩,
      fun h => ⟨congrArg Host.Outcome.next (if_neg h), congrArg Host.Outcome.next (if_neg h)⟩, fun h => congrArg Host.Outcome.next (if_pos h),
      fun h => congrArg Host.Outcome.next (if_neg (by omega))⟩
  · exact ⟨rfl, rfl, rfl, rfl, rfl, rfl, fun h => ⟨congrArg Host.Outcome.next (if_pos h), congrArg Host.Outcome.next (if_pos h)⟩⟩
  · exact ⟨fun h => congrArg Host.Outcome.next (prsntDeassert_unused hr hb h), fun h => congrArg Host.Outcome.next (prsntDeassert_powered hr hb h)⟩
  · obtain ⟨h1, h2⟩ := exec_neighbour (s := s) e target
    exact ⟨h1, h2, rfl⟩

end Sys2Proof.Machine
end

section

/-! # Events counted, raised and latched (O56) -/

namespace Sys2Proof.Machine

variable {s : State}

/-! ## An event of a source (R548 to R553) -/

/-- The state in which an event of a source is judged: its count is taken, and a code that ends the fast path is noted. -/
def State.counted (s : State) (e : Event) (windows : AMap Nat) : State :=
  { s with owl := { s.owl with windows, slowPath := s.owl.slowPath || slowCodes.contains (e.code / 16) } }

/-- Count mode's judgement of an event of a source (R548). -/
def State.passes (s : State) (x : Source) (code : Nat) : Bool × AMap Nat :=
  if (s.srcCfg x).count then countEvent s.owl.windows code (s.srcCfg x).n else (true, s.owl.windows)

theorem report_unknown {e : Event} (h : sourceOf e.code = none) : s.report e = s.sqlSettle := by rw [State.report, State.report1, h]

section source

variable {e : Event} {x : Source} (h : sourceOf e.code = some x)
include h

theorem report_unraised (hk : (s.passes x e.code).1 = false) : s.report e =
    ((s.counted e (s.passes x e.code).2).recordEvent e.code ((s.srcCfg x).sev.max e.sev) e.ptn false e.detail).sqlSettle := by
  rw [State.report, State.report1, h]
  exact congrArg State.sqlSettle (if_neg (show ¬ (s.passes x e.code).1 = true from hk ▸ Bool.false_ne_true))

variable (hk : (s.passes x e.code).1 = true)
include hk

variable {r : State × Severity}
    (hr : r = (s.counted e (s.passes x e.code).2).raiseAt x (s.latchOf e) e.code ((s.srcCfg x).sev.max e.sev) (s.srcCfg x).count e.detail)
include hr

/-- An event that is raised: where it is fatal to the hub at a partition's latch the hub's latch is raised too, and a fatal one starts a flush. -/
theorem report_raised : s.report e =
    (let t := (if r.2 = .fatalHub ∧ s.latchOf e ≠ hubLatch then
        (r.1.raiseAt x hubLatch e.code .fatalHub (s.srcCfg x).count (setField e.detail 51 47 (s.latchOf e))).1 else r.1).recordEvent
          e.code r.2 e.ptn true e.detail
      if r.2.fatal then t.startFlush else t).sqlSettle := by
  subst hr
  rw [State.report, State.report1, h]
  exact congrArg State.sqlSettle (if_pos hk)

theorem report_mild (hf : r.2.fatal = false) : s.report e = (r.1.recordEvent e.code r.2 e.ptn true e.detail).sqlSettle := by
  have hn : r.2 ≠ .fatalHub := fun hc => by simp [hc, Severity.fatal, Severity.rank] at hf
  have hc : ¬ (r.2 = .fatalHub ∧ s.latchOf e ≠ hubLatch) := fun hc => hn hc.1
  have hm : ¬ r.2.fatal = true := hf ▸ Bool.false_ne_true
  rw [report_raised h hk hr]
  dsimp only
  rw [if_neg hm, if_neg hc]

variable (hf : r.2.fatal = true)
include hf

theorem report_fatal (hn : r.2 ≠ .fatalHub ∨ s.latchOf e = hubLatch) :
    s.report e = (r.1.recordEvent e.code r.2 e.ptn true e.detail).startFlush.sqlSettle := by
  have hc : ¬ (r.2 = .fatalHub ∧ s.latchOf e ≠ hubLatch) := fun hc => hn.elim (· hc.1) hc.2
  rw [report_raised h hk hr]
  dsimp only
  rw [if_pos hf, if_neg hc]

theorem report_fatalHub (hv : r.2 = .fatalHub) (hl : s.latchOf e ≠ hubLatch) : s.report e =
    ((r.1.raiseAt x hubLatch e.code .fatalHub (s.srcCfg x).count (setField e.detail 51 47 (s.latchOf e))).1.recordEvent
      e.code r.2 e.ptn true e.detail).startFlush.sqlSettle := by
  have hc : r.2 = .fatalHub ∧ s.latchOf e ≠ hubLatch := ⟨hv, hl⟩
  rw [report_raised h hk hr]
  dsimp only
  rw [if_pos hf, if_pos hc]

end source

/-! ## Counting, escalating and latching -/

theorem countEvent_passes {w : AMap Nat} {code n : Nat} (h : n ≤ w.get code 0 + 1) : countEvent w code n = (true, w.erase code) := if_pos h

theorem countEvent_counts {w : AMap Nat} {code n : Nat} (h : w.get code 0 + 1 < n) :
    countEvent w code n = (false, w.set code (w.get code 0 + 1)) := if_neg (Nat.not_le.mpr h)

theorem countEvent_ne (w : AMap Nat) (code n : Nat) {d : Nat} (hd : d ≠ code) : (countEvent w code n).2.find d = w.find d := by
  unfold countEvent
  split
  · exact AMap.find_erase_ne _ _ _ hd
  · exact AMap.find_set_ne _ _ _ _ hd

theorem raiseSev_escalates {v ceiling : Severity} {x : Latch} (h : v = x.level) (hv : v.rank < ceiling.rank) :
    raiseSev v ceiling (some x) false = (true, v.up) := by
  simp [raiseSev, ← h, hv]

theorem raiseSev_stays {v ceiling : Severity} {l : Option Latch} (h : l = none ∨ (∃ x, l = some x ∧ v ≠ x.level) ∨ v = ceiling) :
    raiseSev v ceiling l false = (false, v) := by
  obtain rfl | ⟨x, rfl, hx⟩ | rfl := h
  · simp [raiseSev]
  · simp [raiseSev, hx]
  · cases l <;> simp [raiseSev]

/-- A raise at the hub's latch is never fatal to a partition. -/
theorem raiseSev_hub (v ceiling : Severity) (l : Option Latch) : (raiseSev v ceiling l true).2 ≠ .fatalPartition := by
  unfold raiseSev
  extract_lets esc w hub
  by_cases hw : w = .fatalPartition
  · have hhub : hub = if ceiling = .fatalHub then .fatalHub else .contained := if_pos ⟨rfl, hw⟩
    rw [hhub]
    split <;> simp
  · have hhub : hub = w := if_neg fun hc => hw hc.2
    rwa [hhub]

/-- Settles O56: what an event of a source does follows the branches of its report. -/
theorem eventsRaised : Obligations.EventsRaised := by
  unfold Obligations.EventsRaised
  refine ⟨fun s code detail sev ptn => ⟨fun h => congrArg Host.Outcome.next (report_unknown h), fun x h => ?_⟩, fun w code n => ?_,
    fun s code => ⟨_, rfl, AMap.find_erase_same .., fun d hd => AMap.find_erase_ne _ _ _ hd, rfl, rfl, rfl, rfl, rfl⟩,
    fun v ceiling l => ⟨fun x hl hv hr => hl ▸ raiseSev_escalates hv hr, raiseSev_stays, raiseSev_hub v ceiling l⟩,
    fun code detail v esc cnt b => ⟨rfl, fun l => ⟨_, rfl, rfl, rfl, rfl, rfl, rfl, rfl, rfl, rfl⟩⟩⟩
  · let e : Event := { code, ptn, detail, sev := Severity.ofCode sev }
    refine ⟨_, _, s.passes x code, s.counted e (s.passes x code).2, s.latchOf e, rfl, rfl, rfl, rfl, rfl, rfl, rfl, rfl,
      fun p hp => ?_, fun hp => ?_, fun hk => congrArg Host.Outcome.next (report_unraised (e := e) h hk), fun hk => ⟨_, rfl, ?_⟩⟩
    · subst hp; rfl
    · subst hp; rfl
    · exact ⟨fun hf => congrArg Host.Outcome.next (report_mild (e := e) h hk rfl hf),
        fun hf => ⟨fun hn => congrArg Host.Outcome.next (report_fatal (e := e) h hk rfl hf hn),
          fun hv hl => congrArg Host.Outcome.next (report_fatalHub (e := e) h hk rfl hf hv hl)⟩⟩
  · refine ⟨fun h => ?_, fun h => ?_, fun d => countEvent_ne w code n⟩
    · rw [countEvent_passes h]
      exact ⟨rfl, AMap.find_erase_same ..⟩
    · rw [countEvent_counts h]
      exact ⟨rfl, AMap.find_set_same ..⟩

end Sys2Proof.Machine
end

section

/-! # Acknowledgements and triage (O58) -/

namespace Sys2Proof.Machine

variable {s : State} {role : Role}

/-! ## Acknowledgements (R552) -/

section ack

variable {v : Word} {l : Latch}

theorem ackMatches_iff : ackMatches (some l) v = true ↔ (v.extractLsb' 48 16).toNat = l.code % 65536 ∧ v.extractLsb' 0 48 = l.beat := by
  simp [ackMatches]

variable (p : Nat)

theorem owlAck_denied (h : role = .vendor ∨ role = .integrator) : s.owlAck role p v = (stDenied, s) := if_pos h

theorem owlAck_tenant (hl : s.owl.latches.find p = some l) (h : 2 ≤ l.level.rank) : s.owlAck .tenant p v = (stDenied, s) := by
  simp [State.owlAck, State.refuse, hl, h]

theorem owlAck_range (h : role = .operator ∨ role = .security) (hm : ackMatches (s.owl.latches.find p) v = false) :
    s.owlAck role p v = (stRange, s) := by
  obtain rfl | rfl := h <;> simp [State.owlAck, State.refuse, hm]

theorem owlAck_clears (hl : s.owl.latches.find p = some l) (hm : ackMatches (some l) v = true)
    (h : role = .operator ∨ role = .security ∨ (role = .tenant ∧ l.level.rank < 2)) :
    s.owlAck role p v = (stOk, (s.wr .owlAck v.toNat 0 p).clearLatch p) := by
  obtain rfl | rfl | ⟨rfl, h⟩ := h
  · simp [State.owlAck, hl, hm]
  · simp [State.owlAck, hl, hm]
  · simp [State.owlAck, hl, hm, Nat.not_le.2 h]

theorem owlHubAck_denied (ho : role ≠ .operator) (hs : role ≠ .security) : s.owlHubAck role v = (stDenied, s) := if_pos ⟨ho, hs⟩

theorem owlHubAck_range (h : role = .operator ∨ role = .security) (hm : ackMatches (s.owl.latches.find hubLatch) v = false) :
    s.owlHubAck role v = (stRange, s) := by
  obtain rfl | rfl := h <;> simp [State.owlHubAck, State.refuse, hm]

theorem owlHubAck_clears (h : role = .operator ∨ role = .security) (hm : ackMatches (s.owl.latches.find hubLatch) v = true) :
    s.owlHubAck role v = (stOk, (s.wr .owlHubAck v.toNat).clearLatch hubLatch) := by
  obtain rfl | rfl := h <;> simp [State.owlHubAck, hm]

/-- A cleared latch is empty, and every other one stays. -/
theorem clearLatch_find (s : State) (p : Nat) : (s.clearLatch p).owl.latches.find p = none
    ∧ ∀ q, q ≠ p → (s.clearLatch p).owl.latches.find q = s.owl.latches.find q :=
  ⟨AMap.find_erase_same .., fun _ hq => AMap.find_erase_ne _ _ _ hq⟩

end ack

/-! ## Decisions (R558) -/

/-- The latch that a decision names. -/
def decidedLatch (v : Nat) : Nat := if v.testBit 106 then hubLatch else field v 111 107

/-- A raise that waits and that a decision names. -/
def Triage.named (v : Nat) (t : Triage) : Bool := t.code == field v 127 112 && t.latch == decidedLatch v && t.beat.toNat == field v 102 55

theorem find_named_none {v : Nat} {l : List Triage}
    (h : ∀ t ∈ l, ¬ (t.code = field v 127 112 ∧ t.latch = decidedLatch v ∧ t.beat.toNat = field v 102 55)) : l.find? (Triage.named v) = none := by
  refine List.find?_eq_none.2 fun t ht hc => h t ht ?_
  simpa [Triage.named, and_assoc] using hc

section triageDecide

variable {v : Nat}

theorem triageDecide_denied (ho : role ≠ .operator) (hs : role ≠ .security) : s.triageDecide role v = (stDenied, s) := by
  have hw : mayWrite [.n, .n, .b, .b, .n] role = false := by
    cases role
    case operator => exact absurd rfl ho
    case security => exact absurd rfl hs
    all_goals rfl
  simp only [State.triageDecide, hw, Bool.not_false, if_true, State.refuse]

variable (h : role = .operator ∨ role = .security) (hv : v < 2 ^ 128)
include h hv

theorem triageDecide_unnamed (hn : s.owl.triage.find? (Triage.named v) = none) : s.triageDecide role v = (stRange, s) := by
  have hw : mayWrite [.n, .n, .b, .b, .n] role = true := by obtain rfl | rfl := h <;> rfl
  have hf : s.owl.triage.find? (fun t => t.code == field v 127 112 && t.latch == decidedLatch v && t.beat.toNat == field v 102 55) = none := hn
  unfold decidedLatch at hf
  simp only [State.triageDecide, hw, Bool.not_true, Bool.false_eq_true, if_false, if_neg (Nat.not_le.2 hv), hf, State.refuse]

theorem triageDecide_named {t : Triage} (hn : s.owl.triage.find? (Triage.named v) = some t) : s.triageDecide role v =
    if s.rd .owlTriageMode ≠ 1 ∨ field v 54 0 ≠ 0 ∨ !actionValid t (TriageAction.ofCode (field v 105 103)) then (stRange, s)
    else (stOk, ((s.wr .owlTriageDecide v).triageEnd t).triageAct t (TriageAction.ofCode (field v 105 103))) := by
  have hw : mayWrite [.n, .n, .b, .b, .n] role = true := by obtain rfl | rfl := h <;> rfl
  have hf : s.owl.triage.find? (fun t => t.code == field v 127 112 && t.latch == decidedLatch v && t.beat.toNat == field v 102 55) = some t := hn
  unfold decidedLatch at hf
  simp only [State.triageDecide, hw, Bool.not_true, Bool.false_eq_true, if_false, if_neg (Nat.not_le.2 hv), hf, State.refuse]

theorem triageDecide_refused {t : Triage} (hn : s.owl.triage.find? (Triage.named v) = some t)
    (hr : s.rd .owlTriageMode ≠ 1 ∨ actionValid t (TriageAction.ofCode (field v 105 103)) = false) : s.triageDecide role v = (stRange, s) := by
  rw [triageDecide_named h hv hn]
  refine if_pos ?_
  obtain hm | ha := hr
  · exact .inl hm
  · exact .inr (.inr (by rw [ha]; rfl))

theorem triageDecide_acts {t : Triage} (hn : s.owl.triage.find? (Triage.named v) = some t) (hm : s.rd .owlTriageMode = 1)
    (h0 : field v 54 0 = 0) (ha : actionValid t (TriageAction.ofCode (field v 105 103)) = true) : s.triageDecide role v =
      (stOk, ((s.wr .owlTriageDecide v).triageEnd t).triageAct t (TriageAction.ofCode (field v 105 103))) := by
  rw [triageDecide_named h hv hn]
  refine if_neg ?_
  rintro (hc | hc | hc)
  · exact hc hm
  · exact hc h0
  · rw [ha] at hc
    exact Bool.false_ne_true hc

end triageDecide

/-! ## Hardware's turn (R557, R559) -/

theorem holdExpiry_none {latch : Nat} (h : s.owl.triage.find? (fun t => t.latch == latch) = none) :
    exec (.owlTriageHoldExpiry latch) s = .next s ∧ exec (.owlTriageMiss latch) s = .next s := by
  rw [exec_owlTriageHoldExpiry, exec_owlTriageMiss, execOwlTriageHoldExpiry, execOwlTriageMiss, h]
  exact ⟨rfl, rfl⟩

section hold

variable {latch : Nat} {t : Triage} (h : s.owl.triage.find? (fun t => t.latch == latch) = some t)
include h

theorem holdExpiry_waits (hw : s.rd .owlTriageMode ≠ 0 ∨ (t.sev.fatal = true ∧ s.sql.flushing = true)) :
    exec (.owlTriageHoldExpiry latch) s = .next s := by
  rw [exec_owlTriageHoldExpiry, execOwlTriageHoldExpiry, h]
  exact congrArg _ (if_pos hw)

theorem holdExpiry_acts (hm : s.rd .owlTriageMode = 0) (hf : t.sev.fatal = false ∨ s.sql.flushing = false) {x : Source}
    (hx : sourceOf t.code = some x) : exec (.owlTriageHoldExpiry latch) s = .next ((s.triageEnd t).triageAct t (s.srcCfg x).action) := by
  have hc : ¬ (s.rd .owlTriageMode ≠ 0 ∨ (t.sev.fatal = true ∧ s.sql.flushing = true)) := by
    rintro (hc | ⟨h1, h2⟩)
    · exact hc hm
    · exact hf.elim (fun hf => Bool.false_ne_true (hf.symm.trans h1)) fun hf => Bool.false_ne_true (hf.symm.trans h2)
  rw [exec_owlTriageHoldExpiry, execOwlTriageHoldExpiry, h]
  dsimp only
  rw [if_neg hc, hx]

theorem triageMiss_hardware (hm : s.rd .owlTriageMode ≠ 1) : exec (.owlTriageMiss latch) s = .next s := by
  rw [exec_owlTriageMiss, execOwlTriageMiss, h]
  exact congrArg _ (if_pos hm)

theorem triageMiss_host (hm : s.rd .owlTriageMode = 1) : exec (.owlTriageMiss latch) s = .next ((s.triageEnd t).ev Ev.owlTriageMiss) := by
  rw [exec_owlTriageMiss, execOwlTriageMiss, h]
  exact congrArg _ (if_neg (Classical.not_not.2 hm))

end hold

/-! ## The actions (R557) -/

section triageAct

variable {t : Triage} {a : TriageAction}

theorem triageAct_invalid (h : actionValid t a = false) : s.triageAct t a = s := by
  unfold State.triageAct
  exact if_pos (by rw [h]; rfl)

/-- A partition's actions are valid for a raise up to FATAL-PARTITION at its latch. -/
theorem actionValid_ptn (hl : t.latch < 32) (hs : t.sev = .contained ∨ t.sev = .fatalPartition) :
    actionValid t .ptnWarm = true ∧ actionValid t .ptnFull = true ∧ actionValid t .dissolve = true := by
  obtain hs | hs := hs <;> simp [actionValid, hs, hl]

theorem triageAct_valid (h : actionValid t a = true) : ¬ (!actionValid t a) = true := by simp [h]

theorem triageAct_ptn (hl : t.latch < 32) (hs : t.sev = .contained ∨ t.sev = .fatalPartition) :
    s.triageAct t .ptnWarm = (s.cmdWarmReset .operator t.latch 0).2 ∧ s.triageAct t .ptnFull = (s.cmdFullReset .operator t.latch 0).2
    ∧ s.triageAct t .dissolve = (s.cmdDissolve .operator t.latch 0).2 := by
  obtain ⟨hw, hf, hd⟩ := actionValid_ptn hl hs
  exact ⟨if_neg (triageAct_valid hw), if_neg (triageAct_valid hf), if_neg (triageAct_valid hd)⟩

theorem triageAct_retry (hs : t.sev = .contained) (h : siteSource t.code = true) : s.triageAct t .retry = s.startReset (t.code % 16 % 8) := by
  have hv : actionValid t .retry = true := by simp [actionValid, hs, h]
  exact (if_neg (triageAct_valid hv)).trans (if_pos h)

theorem triageAct_offline (hs : t.sev = .contained) (h : siteSource t.code = true) : s.triageAct t .offline =
    (s.setSite (t.code % 16 % 8) { s.site (t.code % 16 % 8) with offline := true }).wr .uciLinkState lsHeld (t.code % 16 % 8) := by
  have hv : actionValid t .offline = true := by simp [actionValid, hs, h]
  exact (if_neg (triageAct_valid hv)).trans (if_pos h)

theorem triageAct_offlines (hs : t.sev = .contained) (h : siteSource t.code = true) : ∃ u : State,
    (u.site (t.code % 16 % 8)).offline = true ∧ s.triageAct t .offline = u.wr .uciLinkState lsHeld (t.code % 16 % 8) :=
  ⟨_, by rw [site_setSite], triageAct_offline hs h⟩

theorem actionValid_fatal (h : t.sev = .fatalPartition ∨ t.sev = .fatalHub) : actionValid t .retry = false ∧ actionValid t .offline = false := by
  obtain h | h := h <;> simp [actionValid, h]

theorem actionValid_hub (h : t.sev = .fatalHub ∨ 32 ≤ t.latch) :
    actionValid t .ptnWarm = false ∧ actionValid t .ptnFull = false ∧ actionValid t .dissolve = false := by
  obtain h | h := h
  · simp [actionValid, h]
  · simp [actionValid, Nat.not_lt.2 h]

end triageAct

/-- Settles O58: acknowledgements, decisions and actions, by their conditions. -/
theorem latchesAndTriage : Obligations.LatchesAndTriage := by
  unfold Obligations.LatchesAndTriage
  refine ⟨fun s role p v => ⟨fun h => next_answered (owlAck_denied p h), fun l hl hr h => hr ▸ next_answered (owlAck_tenant p hl h),
      fun h hm => next_answered (owlAck_range p h hm), fun l hl hc hb h => ⟨_, next_answered (owlAck_clears p hl (ackMatches_iff.2 ⟨hc, hb⟩) h),
        (clearLatch_find _ p).1, (clearLatch_find _ p).2, rfl, rfl, rfl⟩⟩,
    fun s role v => ⟨fun ho hs => next_answered (owlHubAck_denied ho hs), fun h =>
      ⟨fun hm => next_answered (owlHubAck_range h hm), fun hm => ⟨_, next_answered (owlHubAck_clears h hm), (clearLatch_find _ _).1,
        (clearLatch_find _ _).2, rfl, rfl⟩⟩⟩,
    fun s role v => ⟨fun ho hs => next_answered (triageDecide_denied ho hs), fun h hv => ⟨decidedLatch v, rfl,
      fun hn => next_answered (triageDecide_unnamed h hv (find_named_none hn)),
      fun t ht => ⟨_, rfl,
      fun hr => next_answered (triageDecide_refused h hv ht hr), fun hm h0 ha => next_answered (triageDecide_acts h hv ht hm h0 ha)⟩⟩⟩,
    fun s latch => ⟨holdExpiry_none, fun t ht => ⟨holdExpiry_waits ht, fun hm hf x hx => holdExpiry_acts ht hm hf hx, triageMiss_hardware ht,
      triageMiss_host ht⟩⟩,
    fun s t => ⟨rfl, fun a => triageAct_invalid, rfl, rfl, triageAct_ptn, fun hs h => ⟨triageAct_retry hs h, triageAct_offlines hs h⟩⟩,
    fun t => ⟨actionValid_fatal, actionValid_hub⟩⟩

end Sys2Proof.Machine
end

section

/-! # Flushes, buckets and the record store (O59) -/

namespace Sys2Proof.Machine

variable {s : State}

/-! ## Buckets (R566, R567) -/

theorem bucket_setBucket (s : State) (code c : Nat) (b : Bucket) : (s.setBucket code b).bucket c = if c / 16 = code / 16 then b else s.bucket c := by
  split
  next h => simp [State.bucket, State.setBucket, AMap.get, h]
  next h => simp [State.bucket, State.setBucket, AMap.get, AMap.find_set_ne _ _ _ _ h]

theorem bucket_buffer (s : State) (r : Record) (c : Nat) : (s.buffer r).bucket c = s.bucket c := by
  unfold State.buffer
  split <;> rfl

/-- A SUMMARY leaves the tokens of every bucket. -/
theorem tokens_summarise (s : State) (code c : Nat) : ((s.summarise code).bucket c).tokens = (s.bucket c).tokens := by
  unfold State.summarise
  dsimp only
  split
  · rfl
  · rw [bucket_setBucket]
    split
    next h => simp only [State.bucket, h]
    next => rw [bucket_buffer]

/-- A SUMMARY leaves no suppressed count in its bucket, and makes none elsewhere. -/
theorem suppressed_summarise (s : State) (code c : Nat) (h : c / 16 = code / 16 ∨ (s.bucket c).suppressed = 0) :
    ((s.summarise code).bucket c).suppressed = 0 := by
  unfold State.summarise
  dsimp only
  split
  next h0 =>
    obtain h | h := h
    · simpa only [State.bucket, h] using h0
    · exact h
  next =>
    rw [bucket_setBucket]
    split
    next => rfl
    next hn => rw [bucket_buffer]; exact h.resolve_left hn

theorem each_summarise (l : List Nat) (s : State) (c : Nat) :
    ((s.each l fun t k => t.summarise (k * 16)).bucket c).tokens = (s.bucket c).tokens
    ∧ (c / 16 ∈ l ∨ (s.bucket c).suppressed = 0 → ((s.each l fun t k => t.summarise (k * 16)).bucket c).suppressed = 0) := by
  induction l generalizing s with
  | nil => exact ⟨rfl, fun h => h.resolve_left (List.not_mem_nil)⟩
  | cons k l ih =>
    obtain ⟨ht, hs⟩ := ih (s.summarise (k * 16))
    refine ⟨ht.trans (tokens_summarise s _ c), fun h => hs ?_⟩
    by_cases hk : c / 16 ∈ l
    · exact .inl hk
    · refine .inr (suppressed_summarise s _ c ?_)
      rw [Nat.mul_div_cancel k (by decide)]
      exact h.imp_left fun h => (List.mem_cons.1 h).resolve_right hk

theorem AMap.find_of_not_mem_keys {α : Type} {m : AMap α} {k : Nat} (h : k ∉ AMap.keys m) : AMap.find m k = none := by
  induction m with
  | nil => rfl
  | cons e m ih =>
    obtain ⟨j, v⟩ := e
    rw [AMap.keys, List.map_cons, List.mem_cons, not_or] at h
    obtain ⟨hj, hm⟩ := h
    rw [AMap.find, if_neg (Ne.symm hj)]
    exact ih hm

/-- An entry that the buckets do not list has suppressed nothing. -/
theorem suppressed_of_not_mem {c : Nat} (h : c / 16 ∉ s.sql.buckets.keys) : (s.bucket c).suppressed = 0 := by
  rw [State.bucket, AMap.get, AMap.find_of_not_mem_keys h, Option.getD_none]

/-! ## Flushes (R571, R572) -/

theorem startFlush_none (h : s.rd .sqlState ≠ storeReady ∨ s.sql.flushing = true) : s.startFlush = s := if_pos h

theorem startFlush_runs (hr : s.rd .sqlState = storeReady) (hf : s.sql.flushing = false) : s.startFlush.sql.flushing = true
    ∧ ∀ code, (s.startFlush.bucket code).suppressed = 0 ∧ (s.startFlush.bucket code).tokens = (s.bucket code).tokens := by
  have hc : ¬ (s.rd .sqlState ≠ storeReady ∨ s.sql.flushing = true) := by simp [hr, hf]
  unfold State.startFlush
  rw [if_neg hc]
  refine ⟨rfl, fun code => ?_⟩
  obtain ⟨ht, hs⟩ := each_summarise s.sql.buckets.keys s code
  refine ⟨hs ?_, ht⟩
  by_cases hk : code / 16 ∈ s.sql.buckets.keys
  · exact .inl hk
  · exact .inr (suppressed_of_not_mem hk)

theorem sqlFlush_denied {role : Role} (v : Nat) (h : role = .vendor ∨ role = .tenant) : s.sqlFlush role v = (stDenied, s) := if_pos h

theorem sqlFlush_range {role : Role} {v : Nat} (h : role = .integrator ∨ role = .operator ∨ role = .security) (hv : v ≠ 1) :
    s.sqlFlush role v = (stRange, s) := by
  obtain rfl | rfl | rfl := h <;> simp [State.sqlFlush, State.refuse, hv]

theorem sqlFlush_starts {role : Role} (h : role = .integrator ∨ role = .operator ∨ role = .security) :
    s.sqlFlush role 1 = (stPending, s.startFlush) := by
  obtain rfl | rfl | rfl := h <;> simp [State.sqlFlush]

/-! ## The store (R568, R573) -/

/-- Nothing that is written to the store touches the buffer, memory or the store's unit. -/
structure SameRest (s t : State) : Prop where
  buffer_eq : t.sql.buffer = s.sql.buffer
  mem_eq : t.mem = s.mem
  unitId_eq : t.store.unitId = s.store.unitId

theorem clearHead_rest (n : Nat) (s : State) : SameRest s (State.clearHead n s) := by
  induction n generalizing s with
  | zero => exact ⟨rfl, rfl, rfl⟩
  | succ n ih =>
    rw [State.clearHead]
    split
    · split
      · split
        · obtain ⟨hb, hm, hu⟩ := ih (({ s with store := _ } : State).bump .sqlSeq)
          exact ⟨hb, hm, hu⟩
        · exact ⟨rfl, rfl, rfl⟩
      · exact ⟨rfl, rfl, rfl⟩
    · exact ⟨rfl, rfl, rfl⟩

theorem storeRecord_rest (s : State) (r : Record) : SameRest s (s.storeRecord r) := by
  obtain ⟨hb, hm, hu⟩ := clearHead_rest 8193 s
  unfold State.storeRecord
  generalize State.clearHead 8193 s = t at hb hm hu
  exact ⟨hb, hm, hu⟩

theorem writeOut_rest (l : List Record) (s : State) : SameRest s (s.writeOut l) := by
  induction l generalizing s with
  | nil => exact ⟨rfl, rfl, rfl⟩
  | cons r l ih =>
    obtain ⟨hb, hm, hu⟩ := storeRecord_rest s r
    obtain ⟨hb', hm', hu'⟩ := ih (s.storeRecord r)
    exact ⟨hb'.trans hb, hm'.trans hm, hu'.trans hu⟩

theorem endFlush_ends (s : State) : s.endFlush.sql.buffer = [] ∧ s.endFlush.sql.flushing = false ∧ s.endFlush.rd .sqlBuffered = 0
    ∧ s.endFlush.store = (s.writeOut s.sql.buffer).store ∧ s.endFlush.mem = s.mem := by
  obtain ⟨_, hm, _⟩ := writeOut_rest s.sql.buffer s
  unfold State.endFlush
  generalize s.writeOut s.sql.buffer = t at hm
  exact ⟨rfl, rfl, (rd_wr_ne _ .sqlFlushes .sqlBuffered _ 0 0 0 0 (by decide)).trans (rd_wr_same _ .sqlBuffered 0 0 0), rfl, hm⟩

theorem flushDone_idle (failed : Option Nat) (h : s.sql.flushing = false) : exec (.sqlFlushDone failed) s = .next s :=
  congrArg Host.Outcome.next (if_neg (h ▸ Bool.false_ne_true))

theorem flushDone_all (h : s.sql.flushing = true) : exec (.sqlFlushDone none) s = .next s.endFlush.sqlSettle :=
  congrArg Host.Outcome.next (if_pos h)

/-- The state in which a flush stops before its record `i`. -/
def State.flushStopped (s : State) (i : Nat) : State :=
  { s.writeOut (s.sql.buffer.take i) with
    sql := { (s.writeOut (s.sql.buffer.take i)).sql with buffer := (s.writeOut (s.sql.buffer.take i)).sql.buffer.drop i, flushing := false } }

/-- A flush stops at the record whose read-back failed twice. -/
theorem flushDone_failed (h : s.sql.flushing = true) (i : Nat) : exec (.sqlFlushDone (some i)) s =
    .next ((((s.flushStopped i).wr .sqlBuffered (s.sql.buffer.length - i)).wr .sqlState storeFailed).ev Ev.sqlStoreFail) := by
  rw [exec_sqlFlushDone, execSqlFlushDone, if_pos h, State.flushStopped]

theorem flushDeadline (s : State) :
    (s.rd .sqlFlushMode = 1 → s.sql.fillRaised = true → s.sql.flushing = false → exec .sqlFlushDeadlineExpiry s = .next (s.ev Ev.sqlFlushMiss))
    ∧ (s.rd .sqlFlushMode ≠ 1 ∨ s.sql.fillRaised = false ∨ s.sql.flushing = true → exec .sqlFlushDeadlineExpiry s = .next s) := by
  rw [exec_sqlFlushDeadlineExpiry, execSqlFlushDeadlineExpiry]
  refine ⟨fun hm hr hf => congrArg _ (if_pos ⟨hm, hr, hf ▸ Bool.false_ne_true⟩), fun h => congrArg _ (if_neg fun ⟨hm, hr, hf⟩ => ?_)⟩
  obtain h | h | h := h
  · exact h hm
  · exact Bool.false_ne_true (h.symm.trans hr)
  · exact hf h

/-! ## Tokens (R566) -/

theorem tokenRefill_full {code : Nat} (h : (s.bucket code).period = 0 ∨ (s.bucket code).burst ≤ (s.bucket code).tokens) :
    exec (.sqlTokenRefill code) s = .next s := congrArg Host.Outcome.next (if_neg fun hc => h.elim hc.1 fun h => absurd hc.2 (Nat.not_lt.mpr h))

theorem tokenRefill_gains {code : Nat} (hp : (s.bucket code).period ≠ 0) (h : (s.bucket code).tokens < (s.bucket code).burst) :
    exec (.sqlTokenRefill code) s = .next (s.setBucket code { s.bucket code with tokens := (s.bucket code).tokens + 1 }) :=
  congrArg Host.Outcome.next (if_pos ⟨hp, h⟩)

/-- A refill, as one bucket's step. -/
theorem tokenRefill (s : State) (code : Nat) : ∃ t, exec (.sqlTokenRefill code) s = .next t ∧ t.mem = s.mem ∧ t.regs = s.regs
    ∧ t.sql.buffer = s.sql.buffer ∧ (∀ c, c / 16 ≠ code / 16 → t.bucket c = s.bucket c)
    ∧ ((s.bucket code).period = 0 ∨ (s.bucket code).burst ≤ (s.bucket code).tokens → t = s)
    ∧ ((s.bucket code).period ≠ 0 → (s.bucket code).tokens < (s.bucket code).burst →
        t.bucket code = { s.bucket code with tokens := (s.bucket code).tokens + 1 }) := by
  by_cases h : (s.bucket code).period = 0 ∨ (s.bucket code).burst ≤ (s.bucket code).tokens
  · refine ⟨s, tokenRefill_full h, rfl, rfl, rfl, fun _ _ => rfl, fun _ => rfl, fun hp ht => ?_⟩
    exact absurd ht (Nat.not_lt.mpr (h.resolve_left hp))
  · obtain ⟨hp, ht⟩ := not_or.1 h
    refine ⟨_, tokenRefill_gains hp (Nat.lt_of_not_le ht), rfl, rfl, rfl, fun c hc => ?_, fun hf => absurd hf h, fun _ _ => ?_⟩
    · rw [bucket_setBucket, if_neg hc]
    · rw [bucket_setBucket, if_pos rfl]

/-! ## Store commands (R575, R576) -/

/-- A store command meets its condition, then one that runs already. -/
theorem storeCmd_answers (s : State) (c : StoreCmd) (ok : Bool) :
    (ok = false → (Host.Outcome.next (State.answered (s.storeCmd c ok)) : Host.Outcome State Fault Refusal) = .next (s.emit (.status stLocked 0)))
    ∧ (ok = true → (s.sql.cmd.isSome = true →
          (Host.Outcome.next (State.answered (s.storeCmd c ok)) : Host.Outcome State Fault Refusal) = .next (s.emit (.status stBusy 0)))
        ∧ (s.sql.cmd = none → ∃ t : State,
          (Host.Outcome.next (State.answered (s.storeCmd c ok)) : Host.Outcome State Fault Refusal) = .next (t.emit (.status stPending 0))
          ∧ t.sql.cmd = some c ∧ t.store = s.store ∧ t.regs = s.regs ∧ t.mem = s.mem)) := by
  refine ⟨fun h => ?_, fun h => ⟨fun hc => ?_, fun hc => ⟨{ s with sql := { s.sql with cmd := some c } }, ?_, rfl, rfl, rfl, rfl⟩⟩⟩
  · exact next_answered (b := (stLocked, s)) (if_pos (h ▸ Bool.false_ne_true))
  · exact next_answered (b := (stBusy, s)) ((if_neg (Classical.not_not.2 h)).trans (if_pos hc))
  · have hn : ¬ s.sql.cmd.isSome = true := by simp [hc]
    exact next_answered (b := (stPending, { s with sql := { s.sql with cmd := some c } })) ((if_neg (Classical.not_not.2 h)).trans (if_neg hn))

/-- The roles and states of the store commands. -/
theorem mayErase_iff (s : State) : (s.mayEraseCirc .security = true ↔ s.lc = lcField)
    ∧ (s.mayEraseCirc .integrator = true ↔ s.lc = lcAssembly ∨ s.lc = lcProvisioned)
    ∧ (s.mayEraseCirc .vendor = true ↔ s.lc = lcReturned) ∧ s.mayEraseCirc .operator = false ∧ s.mayEraseCirc .tenant = false
    ∧ ∀ role, (s.mayEraseFirst role = true ↔ role = .vendor ∧ s.lc = lcReturned)
      ∧ (s.mayFormat role = true ↔ (role = .integrator ∨ role = .security) ∧ (s.rd .sqlState = storeForeign ∨ s.rd .sqlState = storeFailed)) := by
  simp [State.mayEraseCirc, State.mayEraseFirst, State.mayFormat]

theorem storeCmdDone_waits (h : s.sql.cmd = none ∨ s.sql.flushing = true) : exec .sqlStoreCmdDone s = .next s := by
  rw [exec_sqlStoreCmdDone, execSqlStoreCmdDone]
  split
  next hc => exact congrArg _ (if_pos (h.resolve_left (by simp [hc])))
  next => rfl

theorem storeCmdDone_finishes {c : StoreCmd} (hc : s.sql.cmd = some c) (hf : s.sql.flushing = false) : exec .sqlStoreCmdDone s =
    .next { (s.finishStore c) with sql := { (s.finishStore c).sql with cmd := none } } := by
  rw [exec_sqlStoreCmdDone, execSqlStoreCmdDone, hc]
  exact congrArg _ (if_neg (hf ▸ Bool.false_ne_true))

/-- The records that an erasure of the circulating area carries. -/
def State.carried (s : State) : List Record := (s.store.circ.where (fun _ r => s.store.carries r)).map (·.2)

/-- The state in which only the carried records stand in the circulating area. -/
def State.circErased (s : State) : State :=
  { s with store := { s.store with circ := s.carried.zipIdx.map (fun (e : Record × Nat) => (e.2, e.1)), head := s.carried.length % circSlots } }

theorem finishStore_eraseCirc (s : State) : s.finishStore .eraseCirc =
    ((s.circErased.storeRecord (s.circErased.newRecord .start 0 .corrected none false false 0 s.circErased.startExt)).bump .sqlSeq).drawn := rfl

/-- No store command touches memory; the erasure of the circulating area keeps the store's unit. -/
theorem finishStore_rest (s : State) (c : StoreCmd) :
    (s.finishStore c).mem = s.mem ∧ (c = .eraseCirc → (s.finishStore c).store.unitId = s.store.unitId) := by
  cases c with
  | eraseCirc =>
    obtain ⟨_, hm, hu⟩ := storeRecord_rest s.circErased (s.circErased.newRecord .start 0 .corrected none false false 0 s.circErased.startExt)
    rw [finishStore_eraseCirc]
    exact ⟨hm, fun _ => hu⟩
  | eraseFirst => exact ⟨rfl, nofun⟩
  | format => exact ⟨rfl, nofun⟩

/-- Settles O59: flushes, tokens and store commands, by their conditions. -/
theorem recordsFlushed : Obligations.RecordsFlushed := by
  unfold Obligations.RecordsFlushed
  refine ⟨fun s role v => ⟨fun h => next_answered (sqlFlush_denied v h), fun h => ⟨fun hv => next_answered (sqlFlush_range h hv),
      next_answered (sqlFlush_starts h)⟩⟩,
    fun s failed => ⟨flushDone_idle failed, fun h => ⟨flushDone_all h, fun i _ => ⟨s.flushStopped i, ?_, rfl, rfl, ?_, flushDone_failed h i⟩⟩⟩,
    endFlush_ends, flushDeadline, tokenRefill, fun s role => ?_, mayErase_iff, fun s => ⟨storeCmdDone_waits, fun c hc hf => ?_⟩,
    fun s => ⟨startFlush_none, startFlush_runs⟩⟩
  · exact congrArg (List.drop i) (writeOut_rest _ s).buffer_eq
  · exact (writeOut_rest _ s).mem_eq
  · simp only [List.forall_mem_cons]
    exact ⟨storeCmd_answers s .eraseCirc _, storeCmd_answers s .eraseFirst _, storeCmd_answers s .format _, List.forall_mem_nil _⟩
  · obtain ⟨hm, hu⟩ := finishStore_rest s c
    refine ⟨_, storeCmdDone_finishes hc hf, rfl, hm, fun h => h ▸ rfl, fun h => ?_, fun h => ⟨h ▸ rfl, hu h⟩⟩
    subst h
    exact ⟨rfl, rfl, rfl, rd_wr_same _ .sqlState storeReady 0 0⟩

end Sys2Proof.Machine
end

section

/-! # Tile BIST, interconnect runs and repair burns (O60) -/

namespace Sys2Proof.Machine

variable {s : State} {role : Role}

/-! ## Tile BIST (R582) -/

theorem mayTest_false (h : role = .security ∨ role = .tenant) :
    mayWrite [.b, .b, .b, .n, .n] role = false ∧ mayWrite [.w, .w, .w, .n, .n] role = false := by
  obtain rfl | rfl := h <;> exact ⟨rfl, rfl⟩

theorem mayTest_true (h : role = .vendor ∨ role = .integrator ∨ role = .operator) :
    mayWrite [.b, .b, .b, .n, .n] role = true ∧ mayWrite [.w, .w, .w, .n, .n] role = true := by
  obtain rfl | rfl | rfl := h <;> exact ⟨rfl, rfl⟩

section tileRunWrite

variable {v : Nat}

theorem tileRunWrite_denied (v : Nat) (h : role = .security ∨ role = .tenant) : s.tileRunWrite role v = (stDenied, s) := by
  simp [State.tileRunWrite, State.refuse, (mayTest_false h).1]

variable (h : role = .vendor ∨ role = .integrator ∨ role = .operator) (hv : v < 2 ^ 64)
include h hv

theorem tileRunWrite_running (hb : s.tileRun = true ∨ ∃ i ∈ bitsOf v 64, (s.plotOwner i).isSome = true) : s.tileRunWrite role v = (stRunning, s) := by
  have hc : s.tileRun = true ∨ (bitsOf v 64).any (fun i => (s.plotOwner i).isSome) = true := hb.imp_right List.any_eq_true.2
  simp only [State.tileRunWrite, (mayTest_true h).1, Bool.not_true, Bool.false_eq_true, if_false, if_neg (Nat.not_le.2 hv), if_pos hc, State.refuse]

/-- The state in which the tiles of a run are held. -/
def State.tilesHeld (s : State) (v : Nat) : State :=
  { s with
    test := { s.test with tiles := v }
    heldTiles := ((bitsOf v 64).flatMap plotTiles).foldl (fun (m : AMap Unit) t => m.set t ()) s.heldTiles }

omit h hv in
theorem tilesHeld_find {i j : Nat} (hi : i ∈ bitsOf v 64) (hj : j ∈ plotTiles i) : ((s.tilesHeld v).heldTiles.find j).isSome = true := by
  have hm : j ∈ (bitsOf v 64).flatMap plotTiles := List.mem_flatMap.2 ⟨i, hi, hj⟩
  rw [State.tilesHeld, AMap.find_foldl_set, if_pos hm, Option.isSome_some]

theorem tileRunWrite_starts (hr : s.tileRun = false) (hp : ∀ i ∈ bitsOf v 64, s.plotOwner i = none) :
    s.tileRunWrite role v = (stPending, ((s.tilesHeld v).wr .bstTileRun v).wr .bstTileState 1) := by
  have hc : ¬ (s.tileRun = true ∨ (bitsOf v 64).any (fun i => (s.plotOwner i).isSome) = true) := by
    rintro (hc | hc)
    · exact Bool.false_ne_true (hr.symm.trans hc)
    · obtain ⟨i, hi, ho⟩ := List.any_eq_true.1 hc
      rw [hp i hi] at ho
      exact Bool.false_ne_true ho
  simp only [State.tileRunWrite, (mayTest_true h).1, Bool.not_true, Bool.false_eq_true, if_false, if_neg (Nat.not_le.2 hv), if_neg hc]
  rfl

end tileRunWrite

theorem nodup_eraseDups (l : List Nat) : l.eraseDups.Nodup := by
  induction hn : l.length using Nat.strongRecOn generalizing l with
  | _ n ih =>
    cases l with
    | nil => exact List.nodup_nil
    | cons a l =>
      rw [List.eraseDups_cons, List.nodup_cons, List.mem_eraseDups, List.mem_filter]
      have hlt : (l.filter fun b => !b == a).length < n := hn ▸ Nat.lt_succ_of_le (List.length_filter_le ..)
      exact ⟨by simp, ih _ hlt _ rfl⟩

/-- The tiles that a run finds failed. -/
def State.bistBad (s : State) (fails : List Nat) : List Nat :=
  (fails.filter (fun t => ((bitsOf s.test.tiles 64).flatMap plotTiles).contains t && !(s.rd .tilFailed).testBit t)).eraseDups

theorem mem_bistBad (s : State) (fails : List Nat) (j : Nat) : j ∈ s.bistBad fails ↔
    j ∈ fails ∧ j ∈ (bitsOf s.test.tiles 64).flatMap plotTiles ∧ (s.rd .tilFailed).testBit j = false := by
  simp [State.bistBad, List.mem_eraseDups]

/-- The state in which a run's failures are marked and its tiles are released. -/
def State.bistReleased (s : State) (fails : List Nat) : State :=
  (s.each (s.bistBad fails) (fun s t => s.failTile none t)).freshTiles ((bitsOf s.test.tiles 64).flatMap plotTiles)

/-- The state in which no run is in progress any more. -/
def State.bistEnded (s : State) (fails : List Nat) : State :=
  { s.bistReleased fails with test := { (s.bistReleased fails).test with tiles := 0 } }

theorem tileRunDone_ends (fails : List Nat) (h : s.tileRun = true) : s.tileRunDone fails =
    (((s.bistEnded fails).wr .bstTileState
      (if s.bistBad fails = [] then 2 else 3)).wr .bstTileFails (s.bistBad fails).length) := by
  have hc : ¬ (!s.tileRun) = true := by simp [h]
  simp only [← List.isEmpty_iff (l := s.bistBad fails)]
  exact if_neg hc

/-! ## Interconnect runs (R586, R587) -/

section icGo

theorem icGo_denied (v : Nat) (h : role = .security ∨ role = .tenant) : s.icGo role v = (stDenied, s) := by
  simp [State.icGo, State.refuse, (mayTest_false h).2]

variable (h : role = .vendor ∨ role = .integrator ∨ role = .operator)
include h

theorem icGo_range {v : Nat} (hv : v < 256) (h1 : v ≠ 1) : s.icGo role v = (stRange, s) := by
  simp [State.icGo, State.refuse, (mayTest_true h).2, Nat.not_le.2 hv, h1]

theorem icGo_running (hr : s.test.ic.isSome = true ∨
    ((s.rd .bstIcSel).testBit 15 = false ∧ s.rd .uciBind (field (s.rd .bstIcSel) 14 12) ≠ 0)) : s.icGo role 1 = (stRunning, s) := by
  have hc : s.test.ic.isSome = true ∨ (!(s.rd .bstIcSel).testBit 15 && s.rd .uciBind (field (s.rd .bstIcSel) 14 12) != 0) = true := by
    simpa using hr
  simp only [State.icGo, (mayTest_true h).2, Bool.not_true, Bool.false_eq_true, if_false, ne_eq, not_true_eq_false, if_pos hc, State.refuse,
    show ¬ 256 ≤ 1 by decide]

variable (hi : s.test.ic = none)
include hi

theorem icGo_locked (hb : (s.rd .bstIcSel).testBit 15 = true) (hl : ¬ (s.lc = lcAssembly ∨ s.lc = lcProvisioned ∨ s.lc = lcReturned)) :
    s.icGo role 1 = (stLocked, s) := by
  simp [State.icGo, State.refuse, (mayTest_true h).2, hi, hb, hl]

/-- The state in which a run of what is selected is in progress. -/
def State.icTaken (u : State) (sel : Nat) : State := { u with test := { u.test with ic := some sel } }

/-- An idle unit of a stack or a site is taken, and its run shown. -/
theorem icGo_runs {u : State} (hu : ((s.rd .bstIcSel).testBit 15 = true ∧ (s.lc = lcAssembly ∨ s.lc = lcProvisioned ∨ s.lc = lcReturned)
        ∧ u = s.stackOut (field (s.rd .bstIcSel) 14 12)) ∨ ((s.rd .bstIcSel).testBit 15 = false
        ∧ s.rd .uciBind (field (s.rd .bstIcSel) 14 12) = 0 ∧ u = s.holdTraining (field (s.rd .bstIcSel) 14 12))) :
    s.icGo role 1 = (stPending, ((u.icTaken (s.rd .bstIcSel)).wr .bstIcState 1).emit
      (.pattern (s.rd .bstIcSel) (s.rd .bstIcCtrl))) := by
  obtain ⟨hb, hl, rfl⟩ | ⟨hb, hz, rfl⟩ := hu
  · simp [State.icGo, State.icTaken, (mayTest_true h).2, hi, hb, hl]
  · simp [State.icGo, State.icTaken, (mayTest_true h).2, hi, hb, hz]

end icGo

theorem icDone_none (result errors down : Nat) (rate : Option Nat) (found : StackFound) (h : s.test.ic = none) :
    s.icDone result errors rate down found = s := by simp only [State.icDone, h]

/-- The state in which a run's result is shown. -/
def State.icShown (s : State) (result errors : Nat) : State :=
  ((({ s with test := { s.test with ic := none } } : State).wr .bstIcResult result).wr .bstIcErrors errors).wr .bstIcState
    (if result % 2 ^ 256 = 0 then 2 else 3)

theorem icDone_runs (result errors down : Nat) (rate : Option Nat) (found : StackFound) {sel : Nat} (h : s.test.ic = some sel) :
    s.icDone result errors rate down found = if sel.testBit 15 then
      ((s.icShown result errors).wipeStack (field sel 14 12)).trainStack (field sel 14 12) found
      else (s.icShown result errors).trainAgain (field sel 14 12) rate down := by
  simp only [State.icDone, h, State.icShown]

/-! ## Repair maps (R277, R590) -/

/-- Bits that are set from below give the number's low part back. -/
theorem foldl_setBit_range (w n : Nat) : ((List.range n).filter w.testBit).foldl setBit 0 = w % 2 ^ n := by
  induction n with
  | zero => simp [Nat.mod_one]
  | succ n ih =>
    have hlow : (w % 2 ^ n).testBit n = false := Nat.testBit_lt_two_pow (Nat.mod_lt _ (Nat.two_pow_pos n))
    rw [List.range_succ, List.filter_append, List.foldl_append, ih, Nat.mod_pow_succ]
    cases hb : w.testBit n with
    | false =>
      have hd : w / 2 ^ n % 2 = 0 := by simpa [Nat.testBit_eq_decide_div_mod_eq] using hb
      simp [hb, hd]
    | true =>
      have hd : w / 2 ^ n % 2 = 1 := by simpa [Nat.testBit_eq_decide_div_mod_eq] using hb
      simp [hb, hd, setBit, hlow]

theorem burnt_all {w n : Nat} (hw : w < 2 ^ 64) (hn : 64 ≤ n) : burnt w n = w := by
  have hlen : (bitsOf w 64).length ≤ n := Nat.le_trans (List.length_filter_le ..) (by simpa using hn)
  rw [burnt, List.take_of_length_le hlen, bitsOf, foldl_setBit_range, Nat.mod_eq_of_lt hw]

section uciBurn

variable {v bits : Nat}

theorem uciBurn_denied (h : role ≠ .integrator) : s.uciBurn role v bits = (stDenied, s) := by
  have hw : mayWrite [.n, .w, .n, .n, .n] role = false := by
    cases role
    case integrator => exact absurd rfl h
    all_goals rfl
  simp [State.uciBurn, State.refuse, hw]

theorem mayBurn : mayWrite [.n, .w, .n, .n, .n] .integrator = true := rfl

theorem uciBurn_inRange (hk : field v 127 120 < 8) (hm : field v 119 112 < 16) (h0 : field v 111 64 = 0) (ho : mapOk (field v 63 0) = true) :
    ¬ (8 ≤ field v 127 120 ∨ 16 ≤ field v 119 112 ∨ field v 111 64 ≠ 0 ∨ (!mapOk (field v 63 0)) = true) := by
  simp [ho, h0, hk, hm]

variable (hv : v < 2 ^ 128)
include hv

theorem uciBurn_range (h : 8 ≤ field v 127 120 ∨ 16 ≤ field v 119 112 ∨ mapOk (field v 63 0) = false) :
    s.uciBurn .integrator v bits = (stRange, s) := by
  have hc : 8 ≤ field v 127 120 ∨ 16 ≤ field v 119 112 ∨ field v 111 64 ≠ 0 ∨ (!mapOk (field v 63 0)) = true :=
    h.imp_right fun h => h.imp_right fun h => .inr (by simpa using h)
  simp only [State.uciBurn, mayBurn, Bool.not_true, Bool.false_eq_true, if_false, if_neg (Nat.not_le.2 hv), if_pos hc, State.refuse]

variable (hk : field v 127 120 < 8) (hm : field v 119 112 < 16) (h0 : field v 111 64 = 0) (ho : mapOk (field v 63 0) = true)
include hk hm h0 ho

theorem uciBurn_locked (h : s.lc ≠ lcAssembly ∨ s.startup.pwrFail = true ∨ s.life.otp.uci.get (16 * field v 127 120 + field v 119 112) 0 ≠ 0) :
    s.uciBurn .integrator v bits = (stLocked, s) := by
  simp only [State.uciBurn, mayBurn, Bool.not_true, Bool.false_eq_true, if_false, if_neg (Nat.not_le.2 hv), if_neg (uciBurn_inRange hk hm h0 ho),
    if_pos h, State.refuse]

/-- A burn of a blank word in ASSEMBLY. -/
theorem uciBurn_burns (hl : s.lc = lcAssembly) (hp : s.startup.pwrFail = false)
    (hw : s.life.otp.uci.get (16 * field v 127 120 + field v 119 112) 0 = 0) : s.uciBurn .integrator v bits =
      (stPending, s.setOtp { s.life.otp with
        uci := s.life.otp.uci.put (16 * field v 127 120 + field v 119 112) (burnt (field v 63 0 ^^^ uciBlank) bits) 0 }) := by
  have hc : ¬ (s.lc ≠ lcAssembly ∨ s.startup.pwrFail = true ∨ s.life.otp.uci.get (16 * field v 127 120 + field v 119 112) 0 ≠ 0) := by
    simp [hl, hp, hw]
  simp only [State.uciBurn, mayBurn, Bool.not_true, Bool.false_eq_true, if_false, if_neg (Nat.not_le.2 hv), if_neg (uciBurn_inRange hk hm h0 ho),
    if_neg hc]

end uciBurn

/-- A map whose burn completed is the map that OTP holds. -/
theorem map_of_burnt {o : Otp} {k m w n : Nat} (ho : o.uci.get (16 * k + m) 0 = burnt (w ^^^ uciBlank) n) (hw : w < 2 ^ 64) (hn : 64 ≤ n)
    (hok : mapOk w = true) : o.map k m = w := by
  have hx : w ^^^ uciBlank < 2 ^ 64 := Nat.xor_lt_two_pow hw (by decide)
  have hmap : o.uci.get (16 * k + m) 0 ^^^ uciBlank = w := by rw [ho, burnt_all hx hn, Nat.xor_assoc, Nat.xor_self, Nat.xor_zero]
  simp only [Otp.map, hmap, hok, if_true]

theorem map_blank {o : Otp} {k m : Nat} (h : o.uci.get (16 * k + m) 0 = 0) : o.map k m = uciBlank := by
  have hok : mapOk uciBlank = true := by decide
  simp only [Otp.map, h, Nat.zero_xor, hok, if_true]

/-- Settles O60: the tests' writes and ends, by their conditions. -/
theorem testsRun : Obligations.TestsRun := by
  unfold Obligations.TestsRun
  refine ⟨fun s role v => ⟨fun h => next_answered (tileRunWrite_denied v h), fun h hv => ⟨fun hb => next_answered (tileRunWrite_running h hv hb),
      fun hr hp => ⟨_, next_answered (tileRunWrite_starts h hv hr hp), rfl, rfl, rfl, rfl, fun i hi j hj => tilesHeld_find hi hj⟩⟩⟩,
    fun s fails => ⟨fun h => congrArg Host.Outcome.next (if_pos (by simp [h])), fun h =>
      ⟨_, s.bistBad fails, s.bistEnded fails, rfl, mem_bistBad s fails, nodup_eraseDups _,
      rfl, rfl, congrArg Host.Outcome.next (tileRunDone_ends fails h)⟩⟩,
    fun s role v => ⟨fun h => next_answered (icGo_denied v h), fun h => ⟨fun hv h1 => next_answered (icGo_range h hv h1),
      fun hi => next_answered (icGo_running h (.inl hi)), fun hb hu => next_answered (icGo_running h (.inr ⟨hb, hu⟩)),
      fun hi hb h1 h2 h3 => next_answered (icGo_locked h hi hb (by simp [h1, h2, h3])),
      fun hi u hu => ⟨u.icTaken _, rfl, rfl, rfl, rfl, _, rfl, next_answered (icGo_runs h hi hu)⟩⟩⟩,
    fun s result errors down rate found => ⟨fun h => congrArg Host.Outcome.next (icDone_none result errors down rate found h), fun sel h =>
      ⟨{ s with test := { s.test with ic := none } }, s.icShown result errors, rfl, rfl, rfl, rfl, fun hb => ?_, fun hb => ?_⟩⟩,
    fun s role v bits => ⟨fun h => next_answered (uciBurn_denied h), fun hv h => next_answered (uciBurn_range hv h), fun hv hk hm h0 ho =>
      ⟨fun h => next_answered (uciBurn_locked hv hk hm h0 ho h), fun hl hp hw => ⟨_, next_answered (uciBurn_burns hv hk hm h0 ho hl hp hw), rfl, rfl,
        ?_⟩⟩⟩,
    fun o k m => map_blank⟩
  · exact congrArg Host.Outcome.next ((icDone_runs result errors down rate found h).trans (if_neg (hb ▸ Bool.false_ne_true)))
  · exact congrArg Host.Outcome.next ((icDone_runs result errors down rate found h).trans (if_pos hb))
  · have hput : (AMap.put s.life.otp.uci (16 * field v 127 120 + field v 119 112) (burnt (field v 63 0 ^^^ uciBlank) bits) 0).get
        (16 * field v 127 120 + field v 119 112) 0 = burnt (field v 63 0 ^^^ uciBlank) bits := AMap.get_put_same ..
    exact ⟨hput, fun hn => map_of_burnt hput (field_lt v 63 0) hn ho⟩

end Sys2Proof.Machine
end

section

/-! # Power failure, partial reset, heat and the package budget (O54) -/

namespace Sys2Proof.Machine

variable {s : State} {role : Role}

/-! ## Power failure (R601, R602) -/

/-- The state after a failure's event, its flush started. -/
def State.powerFailed (s : State) (code : Nat) : State :=
  (({ s with startup := { s.startup with pwrFail := true } } : State).ev code).startFlush

theorem powerFail_running (code : Nat) (h : s.starting = false) : s.powerFail code = s.powerFailed code := if_neg (h ▸ Bool.false_ne_true)

/-- A failure halts a start at the step it is in. -/
theorem powerFail_starting (code : Nat) (h : s.starting = true) : s.powerFail code =
    (s.powerFailed code).haltStart ((s.powerFailed code).rd .pdxBringupStep) (some code) := if_pos h

/-! ## Partial reset (R540) -/

theorem plotIdle_unowned {q : Nat} (h : s.plotOwner q = none) : s.plotIdle q = true := by simp only [State.plotIdle, h]

theorem plotIdle_owned {q p : Nat} (h : s.plotOwner q = some p) : s.plotIdle q = true ↔
    s.ptnState p = ptnHalted ∨ s.ptnState p = ptnResetting ∨ s.ptnState p = ptnScrubbing ∨ s.ptnState p = ptnDissolving := by
  simp [State.plotIdle, h]

theorem operatorWrite_false (h : role ≠ .operator) : mayWrite [.n, .n, .w, .n, .n] role = false ∧ mayWrite [.r, .r, .b, .r, .n] role = false := by
  cases role
  case operator => exact absurd rfl h
  all_goals exact ⟨rfl, rfl⟩

section partialWrite

variable {v : Nat}

theorem partialWrite_denied (v : Nat) (h : role ≠ .operator) : s.partialWrite role v = (stDenied, s) := by
  simp [State.partialWrite, State.refuse, (operatorWrite_false h).1]

theorem mayPartial : mayWrite [.n, .n, .w, .n, .n] .operator = true := rfl

theorem partialWrite_type (h : 2 ^ 64 ≤ v) : s.partialWrite .operator v = (stType, s) := by
  simp only [State.partialWrite, mayPartial, Bool.not_true, Bool.false_eq_true, if_false, if_pos h, State.refuse]

theorem partialWrite_running (hv : v < 2 ^ 64) (h : ∃ q ∈ bitsOf v 64, s.plotIdle q = false) : s.partialWrite .operator v = (stRunning, s) := by
  have hc : (bitsOf v 64).any (fun q => !s.plotIdle q) = true := by simpa using h
  simp only [State.partialWrite, mayPartial, Bool.not_true, Bool.false_eq_true, if_false, if_neg (Nat.not_le.2 hv), if_pos hc, State.refuse]

/-- The state in which the tiles of plots in partial reset are held. -/
def State.plotsHeld (s : State) (v : Nat) : State :=
  { s with
    test := { s.test with partial' := s.test.partial' ||| v }
    heldTiles := ((bitsOf v 64).flatMap plotTiles).foldl (fun (m : AMap Unit) t => m.set t ()) s.heldTiles }

theorem plotsHeld_find {q i : Nat} (hq : q ∈ bitsOf v 64) (hi : i ∈ plotTiles q) : ((s.plotsHeld v).heldTiles.find i).isSome = true := by
  have hm : i ∈ (bitsOf v 64).flatMap plotTiles := List.mem_flatMap.2 ⟨q, hq, hi⟩
  rw [State.plotsHeld, AMap.find_foldl_set, if_pos hm, Option.isSome_some]

theorem partialWrite_resets (hv : v < 2 ^ 64) (h : ∀ q ∈ bitsOf v 64, s.plotIdle q = true) : s.partialWrite .operator v =
    (stPending, ((s.plotsHeld v).emptyTiles ((bitsOf v 64).flatMap plotTiles)).zeroPads ((bitsOf v 64).flatMap plotTiles)) := by
  have hc : ¬ (bitsOf v 64).any (fun q => !s.plotIdle q) = true := by simpa using h
  simp only [State.partialWrite, mayPartial, Bool.not_true, Bool.false_eq_true, if_false, if_neg (Nat.not_le.2 hv), if_neg hc]
  rfl

end partialWrite

/-! ## Thermal decisions (R608) -/

section thermal

variable {v : Nat}

theorem pwrThermDecide_denied (v : Nat) (h : role ≠ .operator) : s.pwrThermDecide role v = (stDenied, s) := by
  simp [State.pwrThermDecide, State.refuse, (operatorWrite_false h).2]

theorem mayDecide : mayWrite [.r, .r, .b, .r, .n] .operator = true := rfl

/-- A decision for another beat, too late or out of range is not taken. -/
theorem thermDecideOk_false (h : field v 127 80 ≠ s.beat.number.toNat + 1 ∨ s.beat.cutoff = true ∨ ∃ h, h < 8 ∧ 8 < field v (8 * h + 5) (8 * h + 2)) :
    s.thermDecideOk v = false := by
  obtain h | h | ⟨i, hi, h⟩ := h
  · simp [State.thermDecideOk, h]
  · simp [State.thermDecideOk, h]
  · have hall : (List.range 8).all (fun h => decide (field v (8 * h + 5) (8 * h + 2) ≤ 8)) = false :=
      List.all_eq_false.2 ⟨i, List.mem_range.2 hi, by simpa using h⟩
    rw [State.thermDecideOk, hall, Bool.and_false]

theorem pwrThermDecide_range (h : s.thermDecideOk v = false) : s.pwrThermDecide .operator v = (stRange, s) := by
  simp only [State.pwrThermDecide, mayDecide, h, Bool.not_true, Bool.not_false, Bool.false_eq_true, if_false, if_true, State.refuse]

theorem pwrThermDecide_takes (h : s.thermDecideOk v = true) : s.pwrThermDecide .operator v =
    (stOk, ({ s with power := { s.power with decision := some v } } : State).wr .pwrThermDecide v) := by
  simp only [State.pwrThermDecide, mayDecide, h, Bool.not_true, Bool.false_eq_true, if_false]

end thermal

/-! ## Reports of a chiplet (R610 to R613) -/

section reports

variable {k payload : Nat}

theorem pwrReport_busy (txn payload : Nat) (h : s.sbxBusy false = true) :
    exec (.sbxPwrReport k txn payload) s = .next (s.sbxAnswer k sbxPwr txn 2)
    ∧ exec (.sbxPwrRevokeAck k txn payload) s = .next (s.sbxAnswer k sbxPwr txn 2) :=
  ⟨congrArg Host.Outcome.next (if_pos h), congrArg Host.Outcome.next (if_pos h)⟩

theorem pwrReport_taken (txn payload : Nat) (h : s.sbxBusy false = false) :
    exec (.sbxPwrReport k txn payload) s = .next ((s.sbxAnswer k sbxPwr txn 0).pwrReported k payload) :=
  congrArg Host.Outcome.next (if_neg (ne_true_of_eq_false h))

theorem pwrRevokeAck_taken (txn : Nat) (h : s.sbxBusy false = false) (hk : field payload 127 120 = pwrRevokeAck) :
    exec (.sbxPwrRevokeAck k txn payload) s = .next ((s.sbxAnswer k sbxPwr txn 0).setSitePwr k
      { (s.sbxAnswer k sbxPwr txn 0).sitePwr k with waiting := false }) :=
  congrArg Host.Outcome.next ((if_neg (ne_true_of_eq_false h)).trans (if_pos hk))

theorem pwrRevokeAck_other (txn : Nat) (h : s.sbxBusy false = false) (hk : field payload 127 120 ≠ pwrRevokeAck) :
    exec (.sbxPwrRevokeAck k txn payload) s = .next (s.sbxAnswer k sbxPwr txn 0) :=
  congrArg Host.Outcome.next ((if_neg (ne_true_of_eq_false h)).trans (if_neg hk))

/-- What a site's books hold after a report. -/
def State.reportedPwr (s : State) (k payload : Nat) : SitePwr :=
  { s.sitePwr k with reported := true, isOver := decide ((s.sitePwr k).before < field payload 87 72), request := some (field payload 71 56) }

variable (hc : s.beat.cutoff = false) (hb : field payload 119 88 + 1 = s.beat.number.toNat % 2 ^ 32) (hk : field payload 127 120 = pwrReport)
    (hr : (s.sitePwr k).reported = false)
include hc hb hk hr

/-- A report of its beat, the first, is judged by the beat's budget. -/
theorem pwrReported_judged : s.pwrReported k payload =
    if decide ((s.sitePwr k).before < field payload 87 72) = true ∧ (s.sitePwr k).isOver = true then
      ((s.wr .pwrSiteDraw (field payload 87 72) 0 k).setSitePwr k { s.reportedPwr k payload with
        penalty := (s.wr .pwrSiteDraw (field payload 87 72) 0 k).rd .pwrPenaltyBeats }).ev (Ev.pwrChipletOver k)
    else (s.wr .pwrSiteDraw (field payload 87 72) 0 k).setSitePwr k (s.reportedPwr k payload) := by
  refine if_neg ?_
  rintro (h | h | h)
  · exact h hk
  · simp [hc, hb] at h
  · exact Bool.false_ne_true (hr.symm.trans h)

theorem pwrReported_within (h : (s.sitePwr k).isOver = false ∨ field payload 87 72 ≤ (s.sitePwr k).before) : s.pwrReported k payload =
    (s.wr .pwrSiteDraw (field payload 87 72) 0 k).setSitePwr k (s.reportedPwr k payload) := by
  refine (pwrReported_judged hc hb hk hr).trans (if_neg fun hover => ?_)
  obtain ⟨hd, ho⟩ := hover
  obtain h | h := h
  · exact Bool.false_ne_true (h.symm.trans ho)
  · exact absurd (of_decide_eq_true hd) (Nat.not_lt.mpr h)

/-- The second report over its budget in a row is a penalty. -/
theorem pwrReported_penalty (ho : (s.sitePwr k).isOver = true) (h : (s.sitePwr k).before < field payload 87 72) : s.pwrReported k payload =
    ((s.wr .pwrSiteDraw (field payload 87 72) 0 k).setSitePwr k { s.reportedPwr k payload with
      penalty := (s.wr .pwrSiteDraw (field payload 87 72) 0 k).rd .pwrPenaltyBeats }).ev (Ev.pwrChipletOver k) :=
  (pwrReported_judged hc hb hk hr).trans (if_pos ⟨decide_eq_true h, ho⟩)

end reports

/-- Settles O54: each command of power and heat, by its conditions. -/
theorem powerAndHeat : Obligations.PowerAndHeat := by
  unfold Obligations.PowerAndHeat
  refine ⟨fun s => ⟨fun h => congrArg Host.Outcome.next (if_pos h), fun h => congrArg Host.Outcome.next (if_neg (h ▸ Bool.false_ne_true)),
      s.powerFailed Ev.pwrFail, rfl, fun h => congrArg Host.Outcome.next (powerFail_running _ h),
      fun h => congrArg Host.Outcome.next (powerFail_starting _ h)⟩,
    fun s role v => ⟨fun h => next_answered (partialWrite_denied v h), fun h => next_answered (partialWrite_type h), fun hv =>
      ⟨fun h => next_answered (partialWrite_running hv h), fun h => ⟨s.plotsHeld v, _, rfl, rfl, fun q hq i hi => plotsHeld_find hq hi, rfl, rfl, rfl,
        next_answered (partialWrite_resets hv h)⟩⟩⟩,
    fun s q p => ⟨plotIdle_unowned, plotIdle_owned⟩, fun s => ⟨_, rfl, rfl, rfl, rfl, rfl⟩,
    fun s => ⟨{ s with power := { s.power with trip := true } }, rfl, rfl, rfl, rfl⟩,
    fun s role v => ⟨fun h => next_answered (pwrThermDecide_denied v h), fun h => next_answered (pwrThermDecide_range (thermDecideOk_false h)),
      fun h => ⟨_, next_answered (pwrThermDecide_takes h), rfl, rfl, rfl⟩⟩,
    fun s k txn payload => ⟨pwrReport_busy txn payload, fun h => ⟨_, rfl, pwrReport_taken txn payload h, pwrRevokeAck_taken txn h,
      pwrRevokeAck_other txn h⟩, fun h => congrArg Host.Outcome.next (if_neg (h ▸ Bool.false_ne_true)), fun h => congrArg Host.Outcome.next (if_pos h)⟩,
    fun s k payload hc hb hk hr => ⟨_, s.reportedPwr k payload, rfl, rfl, rfl, decide_eq_true_iff, pwrReported_within hc hb hk hr,
      pwrReported_penalty hc hb hk hr⟩⟩

end Sys2Proof.Machine
end

section
/-! Starts and hub resets (R520, R522–R528, R535–R538, R598): what each command does by its conditions, and the state in which a start begins. -/

namespace Sys2Proof.Machine

variable {s : State}

/-! ## The commands of a start (R523–R525, R528) -/

section bringUp
variable {f : Findings}

theorem bringUp_idle (h : s.starting = false) : s.bringUp f = s := if_pos (ne_true_of_eq_false h)

variable (h : s.starting = true)
include h

theorem bringUp_paused (hp : s.startup.paused = true) :
    s.bringUp f = if (List.range 8).any (fun k => (s.site k).pause) then s else s.fromStep7 f :=
  (if_neg (not_not_intro h)).trans (if_pos hp)

variable (hp : s.startup.paused = false) (ho : f.otpOk = true)
include hp ho

theorem bringUp_dead (hl : s.lc = lcScrapped ∨ s.lc = lcLocked) : s.bringUp f = s.haltStart 1 none := by
  simp [State.bringUp, h, hp, ho, hl]

variable (hs : s.lc ≠ lcScrapped) (hl : s.lc ≠ lcLocked)
include hs hl

theorem bringUp_selftestFails (ht : f.selftest = false) : s.bringUp f = (s.wr .secState seError).haltEvent 2 Ev.secSelftestFail := by
  simp [State.bringUp, h, hp, ho, hs, hl, ht]

variable (ht : f.selftest = true)
include ht

theorem bringUp_seFirmwareBad (hv : f.seOk = false ∨ field f.seVersion 31 0 < s.rd .lcsSvn) : s.bringUp f = s.haltStart 2 none := by
  simp [State.bringUp, h, hp, ho, hs, hl, ht, hv]

variable (hv : f.seOk = true) (hn : s.rd .lcsSvn ≤ field f.seVersion 31 0)
include hv hn

theorem bringUp_ctlFirmwareBad (hc : f.ctlOk = false ∨ field f.ctlVersion 31 0 < (s.seStart f).rd .lcsSvn) :
    s.bringUp f = (s.seStart f).haltStart 3 none := by
  simp [State.bringUp, h, hp, ho, hs, hl, ht, hv, (Nat.not_lt.mpr hn), hc]

variable (hc : f.ctlOk = true) (hm : (s.seStart f).rd .lcsSvn ≤ field f.ctlVersion 31 0)
include hc hm

theorem bringUp_fast (hf : ((s.seStart f).ctlStart f).startup.fast = true) : s.bringUp f = ((s.seStart f).ctlStart f).step6 f := by
  simp [State.bringUp, h, hp, ho, hs, hl, ht, hv, (Nat.not_lt.mpr hn), hc, (Nat.not_lt.mpr hm), hf]

variable (hf : ((s.seStart f).ctlStart f).startup.fast = false)
include hf

theorem bringUp_bistFails {n : Nat} (hb : (((s.seStart f).ctlStart f).bist f).2 = some n) :
    s.bringUp f = (((s.seStart f).ctlStart f).bist f).1.haltEvent 4 (Ev.bstFail n) (Config.detail [n]) := by
  simp [State.bringUp, h, hp, ho, hs, hl, ht, hv, (Nat.not_lt.mpr hn), hc, (Nat.not_lt.mpr hm), hf, hb]

theorem bringUp_bistPasses (hb : (((s.seStart f).ctlStart f).bist f).2 = none) :
    s.bringUp f = (((s.seStart f).ctlStart f).bist f).1.step6 f := by
  simp [State.bringUp, h, hp, ho, hs, hl, ht, hv, (Nat.not_lt.mpr hn), hc, (Nat.not_lt.mpr hm), hf, hb]

end bringUp

theorem stepTimeout_idle {step : Nat} (mask : Nat) (h : s.starting = false ∨ step = 0 ∨ 10 < step) : s.stepTimeout step mask = s :=
  if_pos (h.imp_left ne_true_of_eq_false)

/-- In a start, a step from 1 to 10 is none that its timeout ignores. -/
theorem not_stepTimeout_idle {step : Nat} (h : s.starting = true) (h1 : 1 ≤ step) (h10 : step ≤ 10) :
    ¬ (¬ s.starting = true ∨ step = 0 ∨ 10 < step) := by
  rw [not_or, not_or]
  exact ⟨not_not_intro h, by omega, by omega⟩

theorem stepTimeout_halts {step : Nat} (mask : Nat) (h : s.starting = true) (hstep : (1 ≤ step ∧ step ≤ 5) ∨ step = 10) :
    s.stepTimeout step mask = s.haltEvent (step - 1) Ev.bringupTimeout := by
  refine (if_neg (not_stepTimeout_idle h (by omega) (by omega))).trans ?_
  dsimp only
  split
  case h_5 => rfl
  all_goals omega

/-- A unit of steps 6 to 9 whose limit passes. -/
theorem stepTimeout_unit (mask : Nat) (h : s.starting = true) :
    s.stepTimeout 6 mask = ({ s with startup := { s.startup with lateSites := s.startup.lateSites ||| mask } } : State).wr .pdxBringupStep 6
    ∧ s.stepTimeout 7 mask = ({ s with startup := { s.startup with lateStacks := s.startup.lateStacks ||| mask } } : State).wr .pdxBringupStep 7
    ∧ s.stepTimeout 8 mask = ({ s with startup := { s.startup with lateSpdm := s.startup.lateSpdm ||| mask } } : State).wr .pdxBringupStep 8
    ∧ s.stepTimeout 9 mask = ({ s with startup := { s.startup with latePorts := s.startup.latePorts ||| mask } } : State).wr .pdxBringupStep 9 :=
  ⟨if_neg (not_stepTimeout_idle h (by omega) (by omega)), if_neg (not_stepTimeout_idle h (by omega) (by omega)),
    if_neg (not_stepTimeout_idle h (by omega) (by omega)), if_neg (not_stepTimeout_idle h (by omega) (by omega))⟩

/-- The state whose registers a halt writes. -/
def State.halted (s : State) (step : Nat) : State := { (s.atStep step).drawn with owl := { s.owl with alive := false, faultN := true } }

theorem haltStart_eq (s : State) (step c : Nat) : s.haltStart step (some c) =
    ((((s.halted step).wr .pdxBringupResult startHalted).wr .pdxBringupHalt c).log .start
      (((s.halted step).wr .pdxBringupResult startHalted).wr .pdxBringupHalt c).startExt).startFlush := rfl

/-! ## Reading a register past writes of others -/

theorem rd_each_wr_ne {q r : Reg} {l : List Nat} {v : Nat} (h : ∀ k ∈ l, q.key 0 0 ≠ r.key k 0) (s : State) :
    (s.each l (fun t k => t.wr r v k)).rd q = s.rd q := by
  induction l generalizing s with
  | nil => rfl
  | cons k l ih => exact (ih (fun j hj => h j (.tail _ hj)) (s.wr r v k)).trans (rd_wr_ne s r q v k 0 0 0 (h k (.head _)))

/-! ## READY (R527) -/

/-- The registers that READY writes. -/
def State.readyWrites (s : State) (result : Nat) : State :=
  let s := (s.atStep 10).wr .pdxBringupResult result
  ((s.readyRegs.wr .pdxReady 1).wr .beatRounds s.beatRounds).wr .lcsPending 0xFF

theorem mem_each_wr (s : State) (l : List Nat) (r : Reg) (v : State → Nat → Nat) (u sub : Nat → Nat) :
    (s.each l fun t k => t.wr r (v t k) (u k) (sub k)).mem = s.mem := each_keeps _ State.mem (fun t k => t.wr_mem r (v t k) (u k) (sub k)) l s

theorem ptns_each_wr (s : State) (l : List Nat) (r : Reg) (v : State → Nat → Nat) (u sub : Nat → Nat) :
    (s.each l fun t k => t.wr r (v t k) (u k) (sub k)).ptns = s.ptns := each_keeps _ State.ptns (fun t k => t.wr_ptns r (v t k) (u k) (sub k)) l s

theorem mem_readyWrites (s : State) (result : Nat) : (s.readyWrites result).mem = s.mem := by
  simp [State.readyWrites, State.readyRegs, mem_each_wr, State.atStep]

theorem ptns_readyWrites (s : State) (result : Nat) : (s.readyWrites result).ptns = s.ptns := by
  simp [State.readyWrites, State.readyRegs, ptns_each_wr, State.atStep]

theorem pdxReady_readyWrites (s : State) (result : Nat) : (s.readyWrites result).rd .pdxReady = 1 := by
  rw [State.readyWrites, rd_wr_ne _ _ _ _ _ _ _ _ (by decide), rd_wr_ne _ _ _ _ _ _ _ _ (by decide), rd_wr_same]
  rfl

/-- The state that READY records. -/
def State.readied (s : State) (result : Nat) : State :=
  let s := s.readyWrites result
  { s with
    beat := { rounds := s.beatRounds }
    owl := { s.owl with alive := true, slowPath := s.startup.fast && s.owl.slowPath } }

theorem pdxReady_readied (s : State) (result : Nat) : (s.readied result).rd .pdxReady = 1 := by
  have hregs : (s.readied result).regs = (s.readyWrites result).regs := by rw [State.readied]
  rw [State.rd, hregs]
  exact pdxReady_readyWrites s result

theorem mem_readied (s : State) (result : Nat) : (s.readied result).mem = s.mem := by
  rw [State.readied, mem_readyWrites]

theorem ptns_readied (s : State) (result : Nat) : (s.readied result).ptns = s.ptns := by
  rw [State.readied, ptns_readyWrites]

theorem ready_eq (s : State) (result : Nat) :
    s.ready result = (((s.readied result).log .start (s.readied result).startExt).emit .readiness).drawn := rfl

/-! ## The state in which a start begins (R535, R536)

It is made of a state with few registers, by writes of registers other than PDX_READY. -/

/-- What the writes of a start leave as it was. -/
structure StartFrame (s t : State) : Prop where
  ptns : t.ptns = s.ptns
  wqs : t.wqs = s.wqs
  owl : t.owl = s.owl
  startup : t.startup = s.startup
  store : t.store = s.store
  hbm : t.hbm = s.hbm
  jay : t.jay = s.jay
  ready : t.rd .pdxReady = s.rd .pdxReady

namespace StartFrame

variable {t : State}

theorem refl (s : State) : StartFrame s s := ⟨rfl, rfl, rfl, rfl, rfl, rfl, rfl, rfl⟩

theorem wr (h : StartFrame s t) {r : Reg} (v u sub : Nat) (hr : Reg.pdxReady.key 0 0 ≠ r.key u sub) : StartFrame s (t.wr r v u sub) :=
  { h with ready := (rd_wr_ne t r .pdxReady v u 0 sub 0 hr).trans h.ready }

theorem each {α : Type} {l : List α} {f : State → α → State} (h : StartFrame s t) (hf : ∀ x ∈ l, ∀ t, StartFrame s t → StartFrame s (f t x)) :
    StartFrame s (t.each l f) := by
  induction l generalizing t with
  | nil => exact h
  | cons x l ih => exact ih (hf x (.head _) t h) fun y hy => hf y (.tail _ hy)

theorem applyStored (h : StartFrame s t) (stored : AMap Nat) : StartFrame s (t.applyStored stored) := by
  refine h.each fun x hx t h => ?_
  have hkey : ∀ x ∈ resetItems, Reg.pdxReady.key 0 0 ≠ x.1.key x.2.1 x.2.2 := by decide
  split
  · exact h.wr _ _ _ (hkey x hx)
  · exact h

theorem withLife (h : StartFrame s t) (l : Life) : StartFrame s { t with life := l } := { h with }

theorem newNonce (h : StartFrame s t) : StartFrame s t.newNonce := { h.wr t.draw128 0 0 (r := .lcsNonce) (by decide) with }

theorem showMarks (h : StartFrame s t) : StartFrame s t.showMarks := h.wr _ _ _ (by decide)

theorem lcStart (h : StartFrame s t) : StartFrame s t.lcStart :=
  ((((((h.withLife _).wr _ _ _ (by decide)).wr _ _ _ (by decide)).wr _ _ _ (by decide)).wr _ _ _ (by decide)).wr _ _ _ (by decide)).showMarks.newNonce

end StartFrame

/-- The state of a start before its registers are written. -/
def State.startBase (s : State) (kind : Nat) : State := {
    pending := s.pending, sent := s.sent, fresh := s.fresh, mem := s.mem, poison := s.poison
    store := s.store, life := s.life, regs := s.keptRegs kind
    tap := { s.tap with stack := none }
    owl := { alive := false, slowPath := s.owl.slowPath }
    sql := { buffer := if decide (2 ≤ kind) then s.sql.buffer else [], boot := s.sql.boot + 1 }
    hbm := { repaired := s.hbm.repaired, used := s.hbm.used, perBank := s.hbm.perBank, waiting := if decide (2 ≤ kind) then s.hbm.waiting else [] }
    jay := { hgt := if decide (2 ≤ kind) then s.offlineGrans else [] }
    tile := { spareBad := s.tile.spareBad }
    sites := if kind == kindWarmFast then s.keptSites else []
    hep := s.keptHep (decide (2 ≤ kind))
    startup := { powered := true, pinLow := s.startup.pinLow, fast := kind == kindWarmFast }
    power := { trip := decide (2 ≤ kind) && s.power.trip } }

/-- The registers that a start writes after PDX_LAST_START, with the number of starts before it and the record store's next number. -/
def State.startWrites (s : State) (warm : Bool) (cause starts seq : Nat) : State :=
  let t := (s.wr .pdxResetCause cause).wr .pdxStarts (starts + 1)
  let t := t.each (List.range 8) (fun t k => t.wr .uciRepairPending (2 ^ 1024 - 1) k)
  let t := ((t.wr .ptnCtxRunning 0xFF).wr .soxPtpPort 0xFF).wr .sqlSeq seq
  let t := t.each (List.range 32) (fun t p => t.wr .ptnCtxRunning 0xFF p)
  t.wr .pdxBringupStep (if warm then 1 else 0)

theorem beginStart_eq (s : State) (kind cause : Nat) : s.beginStart kind cause =
    ((((s.startBase kind).applyStored s.dict.stored).lcStart).wr .pdxLastStart kind).startWrites (decide (2 ≤ kind)) cause
      (if kind = kindPowerOn then 0 else s.rd .pdxStarts) (if s.rd .sqlState = storeReady then s.store.nextSeq else s.rd .sqlSeq) := rfl

theorem pdxLastStart_startWrites (s : State) (warm : Bool) (cause starts seq : Nat) :
    (s.startWrites warm cause starts seq).rd .pdxLastStart = s.rd .pdxLastStart := by
  unfold State.startWrites
  rw [rd_wr_ne _ _ _ _ _ _ _ _ (by decide), rd_each_wr_ne (by decide), rd_wr_ne _ _ _ _ _ _ _ _ (by decide), rd_wr_ne _ _ _ _ _ _ _ _ (by decide),
    rd_wr_ne _ _ _ _ _ _ _ _ (by decide), rd_each_wr_ne (by decide), rd_wr_ne _ _ _ _ _ _ _ _ (by decide), rd_wr_ne _ _ _ _ _ _ _ _ (by decide)]

theorem StartFrame.startWrites {t : State} (h : StartFrame s t) (warm : Bool) (cause starts seq : Nat) :
    StartFrame s (t.startWrites warm cause starts seq) := by
  have hsites : ∀ k ∈ List.range 8, Reg.pdxReady.key 0 0 ≠ Reg.uciRepairPending.key k 0 := by decide
  have hptns : ∀ p ∈ List.range 32, Reg.pdxReady.key 0 0 ≠ Reg.ptnCtxRunning.key p 0 := by decide
  have hs := ((h.wr (r := .pdxResetCause) cause 0 0 (by decide)).wr (r := .pdxStarts) (starts + 1) 0 0 (by decide)).each
    fun k hk _ h => h.wr (2 ^ 1024 - 1) k 0 (hsites k hk)
  have hp := (((hs.wr (r := .ptnCtxRunning) 0xFF 0 0 (by decide)).wr (r := .soxPtpPort) 0xFF 0 0 (by decide)).wr (r := .sqlSeq) seq 0 0 (by decide)).each
    fun p hp _ h => h.wr 0xFF p 0 (hptns p hp)
  exact hp.wr _ _ _ (by decide)

theorem beginStart_frame (s : State) (kind cause : Nat) : StartFrame (s.startBase kind) (s.beginStart kind cause) :=
  (((StartFrame.refl _).applyStored _).lcStart.wr _ _ _ (by decide)).startWrites _ _ _ _

theorem pdxLastStart_beginStart {kind : Nat} (s : State) (cause : Nat) (h : kind < 4) : (s.beginStart kind cause).rd .pdxLastStart = kind :=
  (pdxLastStart_startWrites _ _ _ _ _).trans ((rd_wr_same _ .pdxLastStart kind 0 0).trans (Nat.mod_eq_of_lt (Nat.lt_trans h (by decide))))

/-- A register that is kept by its key alone, and not kept, reads its default. -/
theorem rd_of_find_none {r : Reg} (h : s.regs.find (r.key 0 0) = none) : s.rd r = r.dfltAt 0 := by
  rw [State.rd, AMap.get, h]
  rfl

theorem not_mem_ite {k : Nat} {a b : List Nat} (ha : k ∉ a) (hb : k ∉ b) {c : Prop} [Decidable c] : k ∉ if c then a else b := by
  split
  · exact ha
  · exact hb

/-- No reset keeps PDX_READY (R536). -/
theorem keptRegs_pdxReady (s : State) (kind : Nat) : (s.keptRegs kind).find (Reg.pdxReady.key 0 0) = none := by
  have hreset : Reg.pdxReady.key 0 0 ∉ resetItems.map (fun (x : Reg × Nat × Nat) => x.1.key x.2.1 x.2.2) := by decide
  have hlife : Reg.pdxReady.key 0 0 ∉ lifeKeys := by decide
  have hcold : Reg.pdxReady.key 0 0 ∉ coldKeys := by decide
  have hwarm : Reg.pdxReady.key 0 0 ∉ warmKeys := by decide
  have hfast : Reg.pdxReady.key 0 0 ∉ fastKeys := by decide
  have hsec : Reg.pdxReady.key 0 0 ∉ [Reg.secState.key 0 0] := by decide
  unfold State.keptRegs
  rw [AMap.find_where]
  refine if_neg ?_
  rw [List.contains_iff_mem]
  simp only [List.mem_append, not_or]
  exact ⟨⟨not_mem_ite List.not_mem_nil (by simp only [List.mem_append, hreset, hlife, not_mem_ite hcold hwarm, not_mem_ite hfast List.not_mem_nil,
    or_self, not_false_eq_true]), not_mem_ite hsec List.not_mem_nil⟩, not_mem_ite hlife List.not_mem_nil⟩

theorem pdxReady_beginStart (s : State) (kind cause : Nat) : (s.beginStart kind cause).rd .pdxReady = 0 :=
  (beginStart_frame s kind cause).ready.trans (rd_of_find_none (keptRegs_pdxReady s kind))

/-! ## Hub resets (R520, R535–R537) and the removal of power (R598) -/

section hubReset
variable {role : Role} {v : Nat}

theorem hubResetWrite_denied (h : role = .vendor ∨ role = .tenant) : s.hubResetWrite role v = (stDenied, s) := by
  obtain rfl | rfl := h <;> rfl

variable (h : role = .integrator ∨ role = .operator ∨ role = .security) (hv : v = 1 ∨ v = 2)
include h hv

/-- The checks of role and value pass. -/
theorem hubResetWrite_checked :
    s.hubResetWrite role v = if s.rd .pdxBringupStep < 3 then s.refuse stBusy else (stPending, s.hubReset (v == 2) false 0) := by
  have hrole : mayWrite [.n, .w, .w, .w, .n] role = true := by
    obtain rfl | rfl | rfl := h <;> rfl
  exact (if_neg (by simp [hrole])).trans (if_neg (by omega))

theorem hubResetWrite_busy (hb : s.rd .pdxBringupStep < 3) : s.hubResetWrite role v = (stBusy, s) :=
  (hubResetWrite_checked h hv).trans (if_pos hb)

theorem hubResetWrite_pending (hb : 3 ≤ s.rd .pdxBringupStep) : s.hubResetWrite role v = (stPending, s.hubReset (v == 2) false 0) :=
  (hubResetWrite_checked h hv).trans (if_neg (Nat.not_lt.mpr hb))

end hubReset

section hubReset
variable {r : HubReset} {cold fault : Bool} {cause : Nat}

theorem hubReset_none (h : s.startup.reset = none) : s.hubReset cold fault cause =
    (((((((({ s with startup := { s.startup with reset := some { cold, fault, cause } } } : State).stopWork (fun _ => true)).abortSites
      (fun _ => true)).hostAbort).resetOpen).assertAll.exportEnd xpAborted).lcAbort).each (List.range 8) State.restStack).startFlush := by
  unfold State.hubReset
  rw [h]

theorem hubReset_some (h : s.startup.reset = some r) :
    s.hubReset cold fault cause = { s with startup := { s.startup with reset := some { r with cold := r.cold || cold } } } := by
  unfold State.hubReset
  rw [h]

/-- What the store takes before a reset's effect. -/
def State.stored (s : State) : State := if s.rd .sqlState = storeReady then s.endFlush else s

/-- The endpoint of a warm reset: every function reset, the header of PF0 kept. -/
def State.warmEndpoint (s : State) : State := { s.allFlr with hep := { s.allFlr.hep with header := s.hep.header.where (fun k _ => k / 16 == 0) } }

theorem warmEndpoint_vfEnable (s : State) : s.warmEndpoint.hep.vfEnable = false := rfl

theorem resetEffect_none (h : s.startup.reset = none) : s.resetEffect = s := by
  unfold State.resetEffect
  rw [h]

theorem resetEffect_some (h : s.startup.reset = some r) : s.resetEffect =
    (if r.cold then s.stored.linkDown else s.stored.warmEndpoint).beginStart
      (if r.cold then kindCold else if s.stored.fastPath r then kindWarmFast else kindWarmFull) r.cause := by
  unfold State.resetEffect
  rw [h]
  rfl

variable (h : s.startup.reset = some r)
include h

theorem resetEffect_cold (hc : r.cold = true) : s.resetEffect = s.stored.linkDown.beginStart kindCold r.cause := by
  rw [resetEffect_some h, if_pos hc, if_pos hc]

theorem resetEffect_warmFast (hc : r.cold = false) (hf : s.stored.fastPath r = true) :
    s.resetEffect = s.stored.warmEndpoint.beginStart kindWarmFast r.cause := by
  rw [resetEffect_some h, if_neg (ne_true_of_eq_false hc), if_neg (ne_true_of_eq_false hc), if_pos hf]

theorem resetEffect_warmFull (hc : r.cold = false) (hf : s.stored.fastPath r = false) :
    s.resetEffect = s.stored.warmEndpoint.beginStart kindWarmFull r.cause := by
  rw [resetEffect_some h, if_neg (ne_true_of_eq_false hc), if_neg (ne_true_of_eq_false hc), if_neg (ne_true_of_eq_false hf)]

end hubReset

theorem fastPath_iff (r : HubReset) : s.fastPath r = true ↔ s.rd .pdxWarmFast = 1 ∧ r.fault = false ∧ s.owl.slowPath = false
    ∧ s.startup.pwrFail = false ∧ (s.rd .pdxBringupResult = startReady ∨ s.rd .pdxBringupResult = startDegraded) := by
  simp only [State.fastPath, Bool.and_eq_true, Bool.or_eq_true, beq_iff_eq, Bool.not_eq_true']
  grind

/-- What is left when power is removed. -/
def State.unpowered (s : State) : State := {
    pending := s.pending, sent := s.sent, fresh := s.fresh, store := s.store
    life := { otp := s.life.otp, slot := s.life.slot, integrator := s.life.integrator, operator := s.life.operator }
    regs := s.regs.where (fun k _ => lifeKeys.contains k)
    hbm := { repaired := s.hbm.repaired, used := s.hbm.used, perBank := s.hbm.perBank }
    owl := { alive := false }
    sql := { boot := s.sql.boot }
    hep := { perst := s.hep.perst }
    tile := { spareBad := s.tile.spareBad }
    startup := { powered := false, pinLow := s.startup.pinLow } }

theorem pdxReady_unpowered (s : State) : s.unpowered.rd .pdxReady = 0 :=
  rd_of_find_none ((AMap.find_where s.regs lifeKeys.contains _).trans (if_neg (by decide)))

/-- Settles O53: each command of starts and resets, by its conditions, and what a start keeps. -/
theorem startsAndResets : Obligations.StartsAndResets := by
  unfold Obligations.StartsAndResets
  refine ⟨⟨fun s => ⟨fun h => congrArg Host.Outcome.next (if_pos h), fun h => congrArg Host.Outcome.next (if_neg (ne_true_of_eq_false h))⟩,
    fun s step mask => ⟨fun h => congrArg Host.Outcome.next (stepTimeout_idle mask h), fun h => ?_⟩,
    fun s f => ⟨fun h => congrArg Host.Outcome.next (bringUp_idle h), fun h hp => ?_, fun h hp ho =>
      ⟨fun hd => congrArg Host.Outcome.next (bringUp_dead h hp ho hd), fun hs hl =>
        ⟨fun ht => congrArg Host.Outcome.next (bringUp_selftestFails h hp ho hs hl ht),
          fun ht hv => congrArg Host.Outcome.next (bringUp_seFirmwareBad h hp ho hs hl ht hv),
          fun ht hv hn => ⟨_, rfl, fun hc => congrArg Host.Outcome.next (bringUp_ctlFirmwareBad h hp ho hs hl ht hv hn hc),
            fun hc hm => ⟨_, rfl, fun hf => congrArg Host.Outcome.next (bringUp_fast h hp ho hs hl ht hv hn hc hm hf),
              fun hf => ⟨fun n hb => congrArg Host.Outcome.next (bringUp_bistFails h hp ho hs hl ht hv hn hc hm hf hb),
                fun hb => congrArg Host.Outcome.next (bringUp_bistPasses h hp ho hs hl ht hv hn hc hm hf hb)⟩⟩⟩⟩⟩⟩,
    fun s step c => ⟨s.halted step, rfl, rfl, rfl, haltStart_eq s step c⟩,
    fun s result => ⟨s.readied result, ready_eq s result, pdxReady_readied s result, rfl, rfl, mem_readied s result, ptns_readied s result⟩⟩,
    fun s role e he => ?_, fun s cold fault cause => ⟨fun h => ⟨_, rfl, _, rfl, hubReset_none h⟩, fun r h => ⟨_, hubReset_some h, rfl, rfl, rfl, rfl⟩⟩,
    fun s => ⟨fun h => congrArg Host.Outcome.next (if_pos (ne_true_of_eq_false h)), fun h => congrArg Host.Outcome.next (if_neg (not_not_intro h)), rfl⟩,
    fun s => ⟨fun h => congrArg Host.Outcome.next (resetEffect_none h), fun r h => ⟨s.stored, rfl,
      fun hc => congrArg Host.Outcome.next (resetEffect_cold h hc), fun hc => ⟨s.stored.warmEndpoint, warmEndpoint_vfEnable _, rfl,
        fun hf => congrArg Host.Outcome.next (resetEffect_warmFast h hc hf), fun hf => congrArg Host.Outcome.next (resetEffect_warmFull h hc hf)⟩⟩⟩,
    fun s r => (fastPath_iff r).mp, fun s kind cause hk => ?_,
    fun s => ⟨s.unpowered, rfl, rfl, rfl, rfl, rfl, rfl, rfl, rfl, rfl, rfl, rfl, pdxReady_unpowered s⟩⟩
  · obtain ⟨h6, h7, h8, h9⟩ := stepTimeout_unit mask h
    exact ⟨fun hstep => congrArg Host.Outcome.next (stepTimeout_halts mask h hstep), congrArg Host.Outcome.next h6, congrArg Host.Outcome.next h7,
      congrArg Host.Outcome.next h8, congrArg Host.Outcome.next h9⟩
  · have hpaused := bringUp_paused (f := f) h hp
    exact ⟨fun ha => congrArg Host.Outcome.next (hpaused.trans (if_pos ha)),
      fun ha => congrArg Host.Outcome.next (hpaused.trans (if_neg (ne_true_of_eq_false ha)))⟩
  · obtain _ | ⟨_, _ | ⟨_, ⟨⟩⟩⟩ := he
    · exact ⟨fun h => next_answered (hubResetWrite_denied h), fun h => ⟨fun hb => next_answered (hubResetWrite_busy h (.inl rfl) hb),
        fun hb => next_answered (hubResetWrite_pending h (.inl rfl) hb)⟩⟩
    · exact ⟨fun h => next_answered (hubResetWrite_denied h), fun h => ⟨fun hb => next_answered (hubResetWrite_busy h (.inr rfl) hb),
        fun hb => next_answered (hubResetWrite_pending h (.inr rfl) hb)⟩⟩
  · have hf := beginStart_frame s kind cause
    refine ⟨_, rfl, pdxLastStart_beginStart s cause hk, pdxReady_beginStart s kind cause, hf.ptns, hf.wqs, congrArg Owl.latches hf.owl,
      congrArg Owl.triage hf.owl, congrArg Owl.alive hf.owl, congrArg (·.powered) hf.startup, congrArg (·.reset) hf.startup, hf.store,
      (congrArg Hbm.repaired hf.hbm).trans rfl, fun h1 => ?_, fun h2 => ?_⟩
    · have hcold : ¬ decide (2 ≤ kind) = true := by simpa using Nat.lt_succ_of_le h1
      exact ⟨(congrArg Hbm.waiting hf.hbm).trans (if_neg hcold), (congrArg Jay.hgt hf.jay).trans (if_neg hcold)⟩
    · have hwarm : decide (2 ≤ kind) = true := decide_eq_true h2
      exact ⟨(congrArg Hbm.waiting hf.hbm).trans (if_pos hwarm), (congrArg Jay.hgt hf.jay).trans (if_pos hwarm)⟩

end Sys2Proof.Machine
end
